-- ==== Sys2Proof/Syntax.lean ====
section
/-! DEFINITION. Syntax.lean: the commands of the device, one constructor for each row of the table of operations and
events, with the structures their operands have. A constructor's docstring names its row and the rule that decides it. -/

namespace Sys2Proof

/-- A received PTP message as the PTP engine sees it (R108-R122): header fields, timestamps and correction in units of
2^-16 ns, the arrival within the core cycle, authentication TLV (0 none, 1 immediate, 2 delayed) with its ICV over the message body. -/
structure PtpMsg where
  ver : Nat := 2
  minor : Nat := 1
  msgLen : Nat := 64
  frameLen : Nat := 64
  src : Nat := 0
  seq : Nat := 0
  corr : Int := 0
  ts : Int := 0
  sub : Nat := 0
  twoStep : Bool := false
  req : Nat := 0
  logInterval : Int := 0
  auth : Nat := 0
  icv : Nat := 0
  body : Nat := 0
  deriving DecidableEq, Repr

/-- The data set an Announce carries (R110, R118, R142). -/
structure AnnounceMsg where
  gmIdentity : Nat := 0
  priority1 : Nat := 128
  gmClass : Nat := 248
  gmAccuracy : Nat := 254
  gmVariance : Nat := 65535
  priority2 : Nat := 128
  steps : Nat := 0
  timeSource : Nat := 160
  timeTraceable : Bool := false
  freqTraceable : Bool := false
  utcOffset : Int := 37
  utcValid : Bool := false
  deriving DecidableEq, Repr

/-- What a Signaling message carries (R120, R121): a request, a grant or an L1Sync TLV for a message kind (0 Announce,
1 Sync, 2 Delay_Resp), with the log message period and the duration in seconds. -/
inductive PtpTlv where
  | request (kind : Nat) (logPeriod : Int) (duration : Nat)
  | grant (kind : Nat) (logPeriod : Int) (duration : Nat)
  | l1sync
  deriving DecidableEq, Repr

/-- A frame as a port receives it (R571-R573, R581): bytes without FCS, whether FCS and FEC hold, codewords corrected,
whether it is handed on while it still arrives, a fragment error, the arrival within the core cycle. -/
structure PortRx where
  data : List (BitVec 8)
  fcsOk : Bool := true
  fecOk : Bool := true
  fecCorr : Nat := 0
  cut : Bool := false
  fragErr : Bool := false
  sub : Nat := 0
  deriving DecidableEq, Repr

/-- The attributes of a queue pair a tenant sets (R423): function, service (0 RC, 1 UD, 2 UC, 3 XRC), egress port, peer address,
path MTU in bytes, retry counts, ACK timeout, destination queue pair, first PSN to send and to expect, traffic-manager
queue and class, memory regions (key, address, length). -/
structure QpAttr where
  fn : Nat
  svc : Nat
  port : Nat
  v6 : Bool
  peer : Nat
  mtu : Nat
  retryCnt : Nat
  rnrRetry : Nat
  ackTo : Nat
  dqpn : Nat
  psn : Nat
  epsn : Nat
  tmQueue : Nat
  tc : Nat
  regions : List (Nat × Nat × Nat)
  deriving DecidableEq, Repr

/-- A field of a function's configuration space that software writes and that has no row of its own (R438-R442, R449, R453-R455, R464,
R466, R474). `ideStream k` configures stream k (0 the link stream): its value is the Stream ID, plus 256 to enable it; `aerStatus` is a
mask of the status bits to clear, in the order of AER state. -/
inductive CfgField where
  | memSpace | intDisable | noSnoop | relaxed | mps | mrrs | tag10 | ctoRange
  | msiEn | msiMme | msiAddr | msiData | msiMask | msixEn | funcMask
  | bar0 | bar2 | bar4 | powerD0 | vfEnable | vfMemSpace | numVfs | vfBar0
  | targetSpeed | aspmL1 | ptmEnable | ptmGran | atsEnable | aerStatus
  | ideStream (k : Nat)
  deriving DecidableEq, Repr

/-- What a write addresses: a register by its BAR 0 offset (a whole 64-bit write of a party: 0 to 3 the manager of that attachment with
its Requester ID, 4 to 19 a control core), a configuration-space field, a part of an MSI-X table entry (0 address, 1 data, 2 vector
control), or a doorbell with a reserved KIND. -/
inductive WriteTo where
  | reg (who rid off : Nat) (v : BitVec 64)
  | cfg (fn : Nat) (field : CfgField) (v : Nat)
  | msix (fn entry part v : Nat)
  | doorbell (fn kind gen : Nat)
  deriving DecidableEq, Repr

/-- The commands. -/
inductive Instr where
  /-- BAD_SIZE_REGISTER_ACCESS (R9). -/
  | badSizeRegisterAccess (a rid off : Nat) (read : Bool)
  /-- LOW_HALF_READ (R11). -/
  | lowHalfRead (a rid off : Nat)
  /-- HIGH_HALF_READ (R11). -/
  | highHalfRead (a rid off : Nat)
  /-- LOW_HALF_WRITE (R12). -/
  | lowHalfWrite (a rid off : Nat) (v : BitVec 32)
  /-- HIGH_HALF_WRITE (R12). -/
  | highHalfWrite (a rid off : Nat) (v : BitVec 32)
  /-- REGISTER_WRITE (R13). -/
  | registerWrite (t : WriteTo)
  /-- ERROR_COUNTER_WRITE (R645). -/
  | errorCounterWrite (off : Nat) (v : Word)
  /-- DOORBELL_BAD_WRITE (R37). -/
  | doorbellBadWrite (f rid off : Nat)
  /-- GRT_WINDOW_WRITE (R42). -/
  | grtWindowWrite (a rid off : Nat)
  /-- DRIP_BOUNDARY (R60). -/
  | dripBoundary
  /-- VOTE_BOUNDARY (R73). -/
  | voteBoundary
  /-- TIME_SOURCE_SET (R86). -/
  | timeSourceSet (f : Nat)
  /-- TIME_SOURCE_APPLY (R86). -/
  | timeSourceApply
  /-- TIME_STEP (R89). -/
  | timeStep (f : Nat)
  /-- TIME_STEP_APPLY (R91). -/
  | timeStepApply
  /-- REALIGN_COUNT_EXPIRY (R81). -/
  | realignCountExpiry
  /-- OSC_IN_LOSS (R72). -/
  | oscInLoss
  /-- OSC_IN_RETURN (R72). -/
  | oscInReturn
  /-- FDPLL_INPUT_LOSS (R67). -/
  | fdpllInputLoss
  /-- SNAPSHOT_TAKE (R53). -/
  | snapshotTake (who : Nat)
  /-- PORT_CALIBRATION_DONE (R98). -/
  | portCalibrationDone (p : Nat) (ok : Bool) (tx rx temp : Nat)
  /-- DELAY_TEMP_CORRECTION (R99). -/
  | delayTempCorrection (p : Nat)
  /-- PTP_SYNC_TX (R110). -/
  | ptpSyncTx (i p : Nat)
  /-- PTP_SYNC_RX (R110). -/
  | ptpSyncRx (i p : Nat) (m : PtpMsg)
  /-- PTP_FOLLOW_UP_RX (R110). -/
  | ptpFollowUpRx (i p : Nat) (m : PtpMsg)
  /-- PTP_DELAY_REQ_TX (R110). -/
  | ptpDelayReqTx (i p : Nat)
  /-- PTP_DELAY_REQ_RX (R110). -/
  | ptpDelayReqRx (i p : Nat) (m : PtpMsg)
  /-- PTP_DELAY_RESP_RX (R110). -/
  | ptpDelayRespRx (i p : Nat) (m : PtpMsg)
  /-- PTP_PDELAY_REQ_TX (R110). -/
  | ptpPdelayReqTx (i p : Nat)
  /-- PTP_PDELAY_REQ_RX (R110). -/
  | ptpPdelayReqRx (i p : Nat) (m : PtpMsg)
  /-- PTP_PDELAY_RESP_RX (R110). -/
  | ptpPdelayRespRx (i p : Nat) (m : PtpMsg)
  /-- PTP_PDELAY_RESP_FOLLOW_UP_RX (R110). -/
  | ptpPdelayRespFollowUpRx (i p : Nat) (m : PtpMsg)
  /-- PTP_ANNOUNCE_TX (R110). -/
  | ptpAnnounceTx (i p : Nat)
  /-- PTP_ANNOUNCE_RX (R118). -/
  | ptpAnnounceRx (i p : Nat) (m : PtpMsg) (a : AnnounceMsg)
  /-- PTP_SIGNALING_RX (R121). -/
  | ptpSignalingRx (i p : Nat) (m : PtpMsg) (v : PtpTlv)
  /-- PTP_MANAGEMENT_RX (R109). -/
  | ptpManagementRx (i p : Nat) (m : PtpMsg)
  /-- PTP_UNMATCHED_TIMEOUT (R122). -/
  | ptpUnmatchedTimeout (i : Nat)
  /-- PTP_GRANT_RENEW (R120). -/
  | ptpGrantRenew (i k : Nat)
  /-- PTP_GRANT_REQUEST_RETRY (R120). -/
  | ptpGrantRequestRetry (i k : Nat)
  /-- PTP_GRANT_EXPIRY (R121). -/
  | ptpGrantExpiry (i client k : Nat)
  /-- ESMC_INFO_TX (R125). -/
  | esmcInfoTx
  /-- ESMC_RX (R126). -/
  | esmcRx (port ql : Nat)
  /-- ESMC_TIMEOUT (R122). -/
  | esmcTimeout (port : Nat)
  /-- SYNCE_INPUT_LOSS (R127). -/
  | synceInputLoss (n : Nat)
  /-- SYNCE_HOLD_OFF_EXPIRY (R127). -/
  | synceHoldOffExpiry (n : Nat)
  /-- SYNCE_WTR_EXPIRY (R127). -/
  | synceWtrExpiry (n : Nat)
  /-- PPS_OUT_START (R128). -/
  | ppsOutStart (n : Nat)
  /-- PPS_OUT_END (R128). -/
  | ppsOutEnd (n : Nat)
  /-- PPS_IN_EDGE (R130). -/
  | ppsInEdge (n sub : Nat)
  /-- TOD_SENTENCE_RX (R132). -/
  | todSentenceRx (n : Nat) (sumOk : Bool) (utc : Nat)
  /-- PTM_DIALOGUE_START (R136). -/
  | ptmDialogueStart (a : Nat)
  /-- PTM_RESPONSE_RX (R137). -/
  | ptmResponseRx (a : Nat) (t2 turn : Int)
  /-- PTM_RESPONSE_TIMEOUT (R137). -/
  | ptmResponseTimeout (a : Nat)
  /-- CLOCK_PAGE_SET (R139). -/
  | clockPageSet (f : Nat)
  /-- PORT_FRAME_RX (R571). -/
  | portFrameRx (p : Nat) (r : PortRx)
  /-- CF_PACKET_INJECT (R154). -/
  | cfPacketInject (id : Option Nat) (data : List (BitVec 8))
  /-- PARSE_TAKE (R154). -/
  | parseTake (k arrived : Nat)
  /-- PARSE_STALL_END (R159). -/
  | parseStallEnd (k : Nat)
  /-- PARSE_EXT (R162). -/
  | parseExt (k : Nat)
  /-- PARSE_EXTB (R162). -/
  | parseExtb (k : Nat)
  /-- PARSE_MOVI (R162). -/
  | parseMovi (k : Nat)
  /-- PARSE_SHL (R162). -/
  | parseShl (k : Nat)
  /-- PARSE_SHR (R162). -/
  | parseShr (k : Nat)
  /-- PARSE_AND (R162). -/
  | parseAnd (k : Nat)
  /-- PARSE_OR (R162). -/
  | parseOr (k : Nat)
  /-- PARSE_ADD (R162). -/
  | parseAdd (k : Nat)
  /-- PARSE_CMP (R162). -/
  | parseCmp (k : Nat)
  /-- PARSE_BR (R162). -/
  | parseBr (k : Nat)
  /-- PARSE_BRF (R162). -/
  | parseBrf (k : Nat)
  /-- PARSE_ADVI (R162). -/
  | parseAdvi (k : Nat)
  /-- PARSE_ADVR (R162). -/
  | parseAdvr (k : Nat)
  /-- PARSE_EMIT (R162). -/
  | parseEmit (k : Nat)
  /-- PARSE_EMITR (R162). -/
  | parseEmitr (k : Nat)
  /-- PARSE_SETMD (R162). -/
  | parseSetmd (k : Nat)
  /-- PARSE_MARK (R162). -/
  | parseMark (k : Nat)
  /-- PARSE_DONE (R162). -/
  | parseDone (k : Nat)
  /-- PARSE_FAIL (R162). -/
  | parseFail (k : Nat)
  /-- MATCH_STAGE (R181). -/
  | matchStage (id : Nat)
  /-- RULESET_OPEN (R187). -/
  | rulesetOpen (f : Nat)
  /-- RULESET_STAGE (R188). -/
  | rulesetStage (f : Nat)
  /-- TABLE_CREATE (R513). -/
  | tableCreate (f : Nat)
  /-- RULESET_ABORT (R197). -/
  | rulesetAbort (f : Nat)
  /-- RULESET_COMMIT (R191). -/
  | rulesetCommit (f : Nat)
  /-- RULESET_CURRENT (R192). -/
  | rulesetCurrent
  /-- VERSION_RETIRE (R194). -/
  | versionRetire
  /-- SETTLE_COMPLETE (R195). -/
  | settleComplete
  /-- TCAM_SLOT_CLEAR_COMPLETE (R196). -/
  | tcamSlotClearComplete
  /-- PARSE_CORE_FAULT (R199). -/
  | parseCoreFault (k other cause : Nat)
  /-- MATCH_LANE_FAULT (R639). -/
  | matchLaneFault (id cause : Nat)
  /-- MEMORY_READ_ERROR (R639). -/
  | memoryReadError (store addr tab unit : Nat) (places : List Nat) (pkt : Option Nat) (ok : Bool)
  /-- ENGINE_START (R208). -/
  | engineStart (g e : Nat)
  /-- THREAD_PACKET_START (R208). -/
  | threadPacketStart (g e t : Nat)
  /-- THREAD_WAKE (R236). -/
  | threadWake (g e t : Nat)
  /-- SUMP_WAIT_END (R232). -/
  | sumpWaitEnd (g e t : Nat)
  /-- LOAD_DATA_RETURN (R271). -/
  | loadDataReturn (g e t : Nat)
  /-- LOCK_GRANT (R553). -/
  | lockGrant (g n : Nat)
  /-- LOCK_OVERRUN (R239). -/
  | lockOverrun (g n : Nat)
  /-- ENGINE_STALL (R215). -/
  | engineStall (g e : Nat)
  /-- SUPERVISOR_ENTRY (R208). -/
  | supervisorEntry (g e : Nat)
  /-- THREAD0_FIRMWARE_RESTART (R208). -/
  | thread0FirmwareRestart (g e : Nat)
  /-- SUMP_ABORT (R234). -/
  | sumpAbort (g i : Nat)
  /-- PE_EVENTS_WRITE (R251). -/
  | peEventsWrite (g e v : Nat)
  /-- DISPATCHER_ENQUEUE (R244). -/
  | dispatcherEnqueue (g : Nat)
  /-- HANDOFF (R248). -/
  | handoff (g id : Nat)
  /-- ADD (R273). -/
  | add (g e t : Nat)
  /-- SUB (R273). -/
  | sub (g e t : Nat)
  /-- AND (R273). -/
  | and (g e t : Nat)
  /-- OR (R273). -/
  | or (g e t : Nat)
  /-- XOR (R273). -/
  | xor (g e t : Nat)
  /-- SHL (R273). -/
  | shl (g e t : Nat)
  /-- SHR (R273). -/
  | shr (g e t : Nat)
  /-- SAR (R273). -/
  | sar (g e t : Nat)
  /-- MUL (R273). -/
  | mul (g e t : Nat)
  /-- MULHU (R273). -/
  | mulhu (g e t : Nat)
  /-- MINU (R273). -/
  | minu (g e t : Nat)
  /-- MAXU (R273). -/
  | maxu (g e t : Nat)
  /-- SLTU (R273). -/
  | sltu (g e t : Nat)
  /-- SLT (R273). -/
  | slt (g e t : Nat)
  /-- SEQ (R273). -/
  | seq (g e t : Nat)
  /-- SEL (R273). -/
  | sel (g e t : Nat)
  /-- BSWAP (R273). -/
  | bswap (g e t : Nat)
  /-- CLZ (R273). -/
  | clz (g e t : Nat)
  /-- CSUM (R273). -/
  | csum (g e t : Nat)
  /-- CRC (R273). -/
  | crc (g e t : Nat)
  /-- ADDI (R274). -/
  | addi (g e t : Nat)
  /-- ANDI (R274). -/
  | andi (g e t : Nat)
  /-- ORI (R274). -/
  | ori (g e t : Nat)
  /-- XORI (R274). -/
  | xori (g e t : Nat)
  /-- SHLI (R274). -/
  | shli (g e t : Nat)
  /-- SHRI (R274). -/
  | shri (g e t : Nat)
  /-- SARI (R274). -/
  | sari (g e t : Nat)
  /-- INSI (R274). -/
  | insi (g e t : Nat)
  /-- EXTR (R274). -/
  | extr (g e t : Nat)
  /-- INSR (R274). -/
  | insr (g e t : Nat)
  /-- LD64 (R275). -/
  | ld64 (g e t : Nat)
  /-- LD32 (R275). -/
  | ld32 (g e t : Nat)
  /-- LD16 (R275). -/
  | ld16 (g e t : Nat)
  /-- LD8 (R275). -/
  | ld8 (g e t : Nat)
  /-- ST64 (R275). -/
  | st64 (g e t : Nat)
  /-- ST32 (R275). -/
  | st32 (g e t : Nat)
  /-- ST16 (R275). -/
  | st16 (g e t : Nat)
  /-- ST8 (R275). -/
  | st8 (g e t : Nat)
  /-- LDBE (R275). -/
  | ldbe (g e t : Nat)
  /-- STBE (R275). -/
  | stbe (g e t : Nat)
  /-- PLD (R266). -/
  | pld (g e t : Nat)
  /-- SXADD (R275). -/
  | sxadd (g e t : Nat)
  /-- SXCHG (R275). -/
  | sxchg (g e t : Nat)
  /-- FLOOK (R276). -/
  | flook (g e t : Nat)
  /-- FINS (R276). -/
  | fins (g e t : Nat)
  /-- FDEL (R276). -/
  | fdel (g e t : Nat)
  /-- FLD (R276). -/
  | fld (g e t : Nat)
  /-- FSTS (R276). -/
  | fsts (g e t : Nat)
  /-- CTRADD (R276). -/
  | ctradd (g e t : Nat)
  /-- BEQ (R277). -/
  | beq (g e t : Nat)
  /-- BNE (R277). -/
  | bne (g e t : Nat)
  /-- BLTU (R277). -/
  | bltu (g e t : Nat)
  /-- BGEU (R277). -/
  | bgeu (g e t : Nat)
  /-- JMP (R277). -/
  | jmp (g e t : Nat)
  /-- CALL (R277). -/
  | call (g e t : Nat)
  /-- RET (R277). -/
  | ret (g e t : Nat)
  /-- LOOP (R284). -/
  | loop (g e t : Nat)
  /-- BRKNZ (R277). -/
  | brknz (g e t : Nat)
  /-- SIGNAL (R278). -/
  | signal (g e t : Nat)
  /-- WAIT (R278). -/
  | wait (g e t : Nat)
  /-- CLREV (R278). -/
  | clrev (g e t : Nat)
  /-- SPUT (R278). -/
  | sput (g e t : Nat)
  /-- SGET (R278). -/
  | sget (g e t : Nat)
  /-- LOCK (R278). -/
  | lock (g e t : Nat)
  /-- UNLOCK (R278). -/
  | unlock (g e t : Nat)
  /-- END_HANDOFF (R279). -/
  | endHandoff (g e t : Nat)
  /-- END_RECIRC (R279). -/
  | endRecirc (g e t : Nat)
  /-- END_PUNT (R279). -/
  | endPunt (g e t : Nat)
  /-- END_DROP (R279). -/
  | endDrop (g e t : Nat)
  /-- MFSR (R280). -/
  | mfsr (g e t : Nat)
  /-- MTSR (R280). -/
  | mtsr (g e t : Nat)
  /-- GETG (R280). -/
  | getg (g e t : Nat)
  /-- PUTG (R280). -/
  | putg (g e t : Nat)
  /-- RELEASE (R280). -/
  | release (g e t : Nat)
  /-- RESTART (R280). -/
  | restart (g e t : Nat)
  /-- RETS (R280). -/
  | rets (g e t : Nat)
  /-- BKPT (R280). -/
  | bkpt (g e t : Nat)
  /-- DEADLINE_FAULT (R306). -/
  | deadlineFault (g id : Nat)
  /-- GRACE_EXPIRY (R308). -/
  | graceExpiry (g id : Nat)
  /-- INPUT_QUEUE_EXPIRY (R298). -/
  | inputQueueExpiry (g id : Nat)
  /-- ENGINE_HW_FAULT (R311). -/
  | engineHwFault (g e t cause : Nat)
  /-- GALLERY_MEMORY_FAULT (R316). -/
  | galleryMemoryFault (g e t addr : Nat)
  /-- ENGINE_CHECK_START (R312). -/
  | engineCheckStart (g e : Nat)
  /-- ENGINE_CHECK_END (R312). -/
  | engineCheckEnd (g e : Nat) (pass : Bool)
  /-- ENGINE_RETURN (R313). -/
  | engineReturn (g e : Nat)
  /-- ENGINE_RETIRE (R314). -/
  | engineRetire (g e : Nat)
  /-- SHARE_SET (R483). -/
  | shareSet (f : Nat)
  /-- TM_ENQUEUE (R325). -/
  | tmEnqueue (id : Nat)
  /-- TM_SELECT (R342). -/
  | tmSelect (p : Nat)
  /-- PORT_FRAME_TX_END (R329). -/
  | portFrameTxEnd (p : Nat)
  /-- GATE_CHANGE (R346). -/
  | gateChange (p : Nat)
  /-- GATE_LIST_COMMIT (R348). -/
  | gateListCommit (f : Nat)
  /-- GATE_LIST_COPY_DONE (R348). -/
  | gateListCopyDone (p : Nat)
  /-- GATE_LIST_START (R350). -/
  | gateListStart (p : Nat)
  /-- SAMPLE_ROUND (R354). -/
  | sampleRound (k : Nat) (busy : Bool)
  /-- SAMPLE_CFG_WRITE (R354). -/
  | sampleCfgWrite (k : Nat) (v : Word)
  /-- SAMPLE_RING_WRITE (R356). -/
  | sampleRingWrite (k : Nat) (v : Word)
  /-- TM_TABLE_READ (R358). -/
  | tmTableRead (a t i : Nat)
  /-- TM_TABLE_WRITE (R358). -/
  | tmTableWrite (a t i : Nat)
  /-- TM_TABLE_ACCESS_DONE (R358). -/
  | tmTableAccessDone (a : Nat)
  /-- ESP_IN_OPERATION (R380). -/
  | espInOperation (id : Nat)
  /-- ESP_OUT_OPERATION (R377). -/
  | espOutOperation (id : Nat)
  /-- TLS_TX_OPERATION (R388). -/
  | tlsTxOperation (id : Nat)
  /-- TLS_RX_SEGMENT (R389). -/
  | tlsRxSegment (id : Nat)
  /-- MACSEC_TX_FRAME (R385). -/
  | macsecTxFrame (p : Nat)
  /-- MACSEC_RX_FRAME (R386). -/
  | macsecRxFrame (p : Nat)
  /-- CRYPTO_CONTEXT_FETCH (R363). -/
  | cryptoContextFetch (n : Nat)
  /-- CRYPTO_LANE_FAULT (R390). -/
  | cryptoLaneFault (l other cause session outcome : Nat)
  /-- SESSION_WRITE (R373). -/
  | sessionWrite (f : Nat)
  /-- SESSION_UPDATE (R389). -/
  | sessionUpdate (f : Nat)
  /-- KEY_INSTALL (R621). -/
  | keyInstall (f : Nat)
  /-- KEY_RETIRE (R375). -/
  | keyRetire (f : Nat)
  /-- KEY_ENVELOPE_IMPORT (R620). -/
  | keyEnvelopeImport (f : Nat)
  /-- SESSION_PORT_READ (R392). -/
  | sessionPortRead (a index part : Nat)
  /-- SESSION_PORT_READ_DONE (R392). -/
  | sessionPortReadDone (a : Nat)
  /-- SECY_REGISTER_WRITE (R393). -/
  | secyRegisterWrite (off : Nat) (v : Word)
  /-- NVME_IDENTIFY (R399). -/
  | nvmeIdentify (f : Nat)
  /-- NVME_GET_LOG_PAGE (R399). -/
  | nvmeGetLogPage (f : Nat)
  /-- NVME_SET_FEATURES (R399). -/
  | nvmeSetFeatures (f : Nat)
  /-- NVME_GET_FEATURES (R399). -/
  | nvmeGetFeatures (f : Nat)
  /-- NVME_CREATE_IO_SQ (R519). -/
  | nvmeCreateIoSq (f : Nat)
  /-- NVME_CREATE_IO_CQ (R399). -/
  | nvmeCreateIoCq (f : Nat)
  /-- NVME_DELETE_IO_SQ (R399). -/
  | nvmeDeleteIoSq (f : Nat)
  /-- NVME_DELETE_IO_CQ (R399). -/
  | nvmeDeleteIoCq (f : Nat)
  /-- NVME_ABORT (R401). -/
  | nvmeAbort (f : Nat)
  /-- NVME_ASYNC_EVENT_REQUEST (R399). -/
  | nvmeAsyncEventRequest (f : Nat)
  /-- NVME_UNSUPPORTED_OPCODE (R399). -/
  | nvmeUnsupportedOpcode (f q : Nat)
  /-- NVME_FLUSH (R399). -/
  | nvmeFlush (f q : Nat)
  /-- NVME_WRITE (R409). -/
  | nvmeWrite (f q : Nat)
  /-- NVME_READ (R409). -/
  | nvmeRead (f q : Nat)
  /-- NVME_WRITE_ZEROES (R399). -/
  | nvmeWriteZeroes (f q : Nat)
  /-- NVME_DATASET_MANAGEMENT (R399). -/
  | nvmeDatasetManagement (f q : Nat)
  /-- VIRTIO_BLK_IN (R402). -/
  | virtioBlkIn (f n : Nat)
  /-- VIRTIO_BLK_OUT (R402). -/
  | virtioBlkOut (f n : Nat)
  /-- VIRTIO_BLK_FLUSH (R402). -/
  | virtioBlkFlush (f n : Nat)
  /-- VIRTIO_BLK_GET_ID (R402). -/
  | virtioBlkGetId (f n : Nat)
  /-- VIRTIO_BLK_DISCARD (R402). -/
  | virtioBlkDiscard (f n : Nat)
  /-- VIRTIO_BLK_WRITE_ZEROES (R402). -/
  | virtioBlkWriteZeroes (f n : Nat)
  /-- VIRTIO_BLK_UNSUPPORTED (R402). -/
  | virtioBlkUnsupported (f n : Nat)
  /-- BACKEND_ISSUE (R403). -/
  | backendIssue (k : Nat)
  /-- BACKEND_COMPLETION (R404). -/
  | backendCompletion (k : Nat)
  /-- ATTEMPT_TIMEOUT (R417). -/
  | attemptTimeout (id : Nat)
  /-- ISSUE_WAIT_TIMEOUT (R419). -/
  | issueWaitTimeout (id : Nat)
  /-- ICRESP_RX (R413). -/
  | icrespRx (k : Nat)
  /-- FABRICS_CONNECT_RESPONSE (R415). -/
  | fabricsConnectResponse (k : Nat)
  /-- FABRICS_CONNECT_RETRY (R415). -/
  | fabricsConnectRetry (p : Nat)
  /-- KEEP_ALIVE_TIMER (R415). -/
  | keepAliveTimer (p : Nat)
  /-- TCP_RTO_EXPIRY (R416). -/
  | tcpRtoExpiry (k : Nat)
  /-- NVME_TCP_PDU_RX (R427). -/
  | nvmeTcpPduRx
  /-- ROCE_PACKET_RX (R423). -/
  | rocePacketRx
  /-- ROCE_ACK_TIMEOUT (R416). -/
  | roceAckTimeout (q : Nat)
  /-- CNP_RX (R425). -/
  | cnpRx
  /-- RATE_INCREASE_PERIOD (R425). -/
  | rateIncreasePeriod (q : Nat)
  /-- CTRL_CREATE (R395). -/
  | ctrlCreate (f : Nat)
  /-- CTRL_DESTROY (R395). -/
  | ctrlDestroy (f : Nat)
  /-- NS_CREATE (R396). -/
  | nsCreate (f : Nat)
  /-- NS_DESTROY (R396). -/
  | nsDestroy (f : Nat)
  /-- PATH_CREATE (R428). -/
  | pathCreate (f : Nat)
  /-- PATH_DESTROY (R428). -/
  | pathDestroy (f : Nat)
  /-- STO_CONTEXT_READ (R429). -/
  | stoContextRead (a table index part : Nat)
  /-- STO_TCP_CFG_WRITE (R417). -/
  | stoTcpCfgWrite (v : Word)
  /-- PCIE_LINK_UP (R433). -/
  | pcieLinkUp (a rate width : Nat) (flit rev : Bool)
  /-- PCIE_LINK_DOWN (R461). -/
  | pcieLinkDown (a : Nat)
  /-- PERST_ASSERT (R461). -/
  | perstAssert (a : Nat)
  /-- PERST_RELEASE (R463). -/
  | perstRelease (a : Nat)
  /-- RETRAIN_LINK (R435). -/
  | retrainLink (a rate width : Nat) (flit rev : Bool)
  /-- BME_CLEAR (R456). -/
  | bmeClear (f : Nat)
  /-- BME_SET (R457). -/
  | bmeSet (f : Nat)
  /-- FLR_INITIATE (R458). -/
  | flrInitiate (f : Nat)
  /-- FLR_COMPLETE (R458). -/
  | flrComplete (f : Nat)
  /-- D3HOT_ENTRY (R438). -/
  | d3hotEntry (f : Nat)
  /-- MSIX_VECTOR_UNMASK (R454). -/
  | msixVectorUnmask (f : Nat) (vec : Option Nat)
  /-- HOST_READ_ISSUE (R448). -/
  | hostReadIssue (a : Nat)
  /-- READ_COMPLETION_RX (R450). -/
  | readCompletionRx (a tag status : Nat)
  /-- COMPLETION_TIMEOUT (R450). -/
  | completionTimeout (a tag : Nat)
  /-- TAG_QUARANTINE_END (R451). -/
  | tagQuarantineEnd (a tag : Nat)
  /-- MALFORMED_TLP (R475). -/
  | malformedTlp (f kind : Nat) (read : Bool)
  /-- IDE_CHECK_FAIL (R466). -/
  | ideCheckFail (a k : Nat)
  /-- PEER_WINDOW_REQUEST (R469). -/
  | peerWindowRequest (a x len rid : Nat) (data : Option (List (BitVec 8)))
  /-- WIN_COMMIT (R470). -/
  | winCommit (a mask : Nat)
  /-- WIN_SWAP (R470). -/
  | winSwap (a : Nat)
  /-- LOCK_INTERFACE_REQUEST (R467). -/
  | lockInterfaceRequest (c n f k : Nat) (good : Bool)
  /-- START_INTERFACE_REQUEST (R467). -/
  | startInterfaceRequest (c n f nonce : Nat) (good : Bool)
  /-- STOP_INTERFACE_REQUEST (R467). -/
  | stopInterfaceRequest (c n f : Nat) (good : Bool)
  /-- GET_DEVICE_INTERFACE_REPORT (R607). -/
  | getDeviceInterfaceReport (c n f : Nat) (good : Bool)
  /-- ATS_INVALIDATE_REQUEST (R474). -/
  | atsInvalidateRequest (a : Nat)
  /-- DB_TX_QUEUE (R486). -/
  | dbTxQueue (f q idx gen hi : Nat)
  /-- DB_RX_QUEUE (R486). -/
  | dbRxQueue (f q idx gen hi : Nat)
  /-- DB_COMPLETION_RING (R486). -/
  | dbCompletionRing (f q idx gen hi : Nat)
  /-- DB_EVENT_RING (R486). -/
  | dbEventRing (f q idx gen hi : Nat)
  /-- DB_ADMIN_SLOT (R486). -/
  | dbAdminSlot (f q idx gen hi : Nat)
  /-- DB_ADMIN_COMPLETION (R486). -/
  | dbAdminCompletion (f q idx gen hi : Nat)
  /-- DB_VIRTIO_NET (R518). -/
  | dbVirtioNet (f q idx gen hi : Nat)
  /-- DB_VIRTIO_BLK (R518). -/
  | dbVirtioBlk (f q idx gen hi : Nat)
  /-- DB_NVME_SQ_TAIL (R486). -/
  | dbNvmeSqTail (f q idx gen hi : Nat)
  /-- DB_NVME_CQ_HEAD (R486). -/
  | dbNvmeCqHead (f q idx gen hi : Nat)
  /-- SETUP_ITEM (R489). -/
  | setupItem (f item value gen hi : Nat)
  /-- SETUP_ENABLE (R490). -/
  | setupEnable (f value gen hi : Nat)
  /-- ADMIN_SLOT_FETCH (R511). -/
  | adminSlotFetch (f slotRead opRead : Nat)
  /-- IDENTIFY_FUNCTION (R512). -/
  | identifyFunction (f : Nat)
  /-- FUNCTION_CREATE (R481). -/
  | functionCreate (f : Nat)
  /-- FUNCTION_DESTROY (R482). -/
  | functionDestroy (f : Nat)
  /-- CQ_CREATE (R512). -/
  | cqCreate (f : Nat)
  /-- CQ_DESTROY (R494). -/
  | cqDestroy (f : Nat)
  /-- QUEUE_CREATE (R493). -/
  | queueCreate (f : Nat)
  /-- QUEUE_DESTROY (R494). -/
  | queueDestroy (f : Nat)
  /-- QUEUE_ENABLE (R493). -/
  | queueEnable (f : Nat)
  /-- QUEUE_DISABLE (R493). -/
  | queueDisable (f : Nat)
  /-- QUEUE_DISABLE_COMPLETE (R494). -/
  | queueDisableComplete (f : Nat) (late : Bool)
  /-- MODERATION_SET (R504). -/
  | moderationSet (f : Nat)
  /-- TX_DESCRIPTOR_FETCH (R496). -/
  | txDescriptorFetch (f k q : Nat)
  /-- TX_COMPLETION_WRITE (R501). -/
  | txCompletionWrite (f k q : Nat)
  /-- ROPE_START_REQUEST (R524). -/
  | ropeStartRequest (c entry p0 p1 p2 p3 : Nat)
  /-- ROPE_PROGRAM_START (R524). -/
  | ropeProgramStart (c : Nat)
  /-- ROPE_MOVE (R529). -/
  | ropeMove (c : Nat)
  /-- ROPE_LOOP (R531). -/
  | ropeLoop (c : Nat)
  /-- ROPE_WAIT (R532). -/
  | ropeWait (c : Nat)
  /-- ROPE_WAIT_RELEASE (R532). -/
  | ropeWaitRelease (c : Nat)
  /-- ROPE_WAIT_TIMEOUT (R532). -/
  | ropeWaitTimeout (c : Nat)
  /-- ROPE_SIGNAL (R533). -/
  | ropeSignal (c : Nat)
  /-- ROPE_END (R533). -/
  | ropeEnd (c : Nat)
  /-- ROPE_CHUNK_READ (R534). -/
  | ropeChunkRead (e : Nat)
  /-- ROPE_CHUNK_WRITE (R536). -/
  | ropeChunkWrite (e : Nat)
  /-- ROPE_CHUNK_FAULT (R540). -/
  | ropeChunkFault (c cause : Nat) (ok : Bool)
  /-- ROPE_PROGRAM_STOP (R539). -/
  | ropeProgramStop (c : Nat)
  /-- MBX_SLOT_STORE (R543). -/
  | mbxSlotStore (who rid m c w : Nat) (v : Word)
  /-- MBX_DOORBELL_WRITE (R543). -/
  | mbxDoorbellWrite (who rid m c : Nat)
  /-- MBX_SLOT_WORD7_READ (R544). -/
  | mbxSlotWord7Read (who rid m c : Nat)
  /-- MBX_EMPTY_CLEAR (R545). -/
  | mbxEmptyClear (who rid m c : Nat)
  /-- MBX_MASK_WRITE (R559). -/
  | mbxMaskWrite (who m : Nat) (empty : Bool) (v : Nat)
  /-- AN_COMPLETE (R564). -/
  | anComplete (p pAdv pAble pReq : Nat)
  /-- AN_RESTART (R564). -/
  | anRestart (p : Nat)
  /-- LANE_TRAINING_DONE (R567). -/
  | laneTrainingDone (p : Nat) (ok : Bool)
  /-- TRAIN_RETRY_TIMER (R567). -/
  | trainRetryTimer (p : Nat)
  /-- PORT_LINK_UP (R569). -/
  | portLinkUp (p : Nat)
  /-- PORT_LINK_DOWN (R569). -/
  | portLinkDown (p : Nat)
  /-- FAULT_SEQUENCE_RX (R570). -/
  | faultSequenceRx (p kind : Nat)
  /-- PFC_FRAME_RX (R577). -/
  | pfcFrameRx (p vec : Nat) (times : List Nat)
  /-- PFC_PAUSE_EXPIRY (R577). -/
  | pfcPauseExpiry (p i : Nat)
  /-- PFC_REFRESH (R576). -/
  | pfcRefresh (p : Nat)
  /-- PFC_CFG_WRITE (R578). -/
  | pfcCfgWrite (p : Nat) (v : Word)
  /-- PREEMPT_VERIFY_TX (R579). -/
  | preemptVerifyTx (p : Nat)
  /-- PREEMPT_RESPOND_RX (R579). -/
  | preemptRespondRx (p : Nat)
  /-- PREEMPT_CFG_WRITE (R579). -/
  | preemptCfgWrite (p : Nat) (v : Word)
  /-- MODULE_INSERT (R585). -/
  | moduleInsert (k rev : Nat) (app : Option Nat) (temp : Nat)
  /-- MODULE_REMOVE (R585). -/
  | moduleRemove (k : Nat)
  /-- MODULE_INTERRUPT (R584). -/
  | moduleInterrupt (k : Nat) (nack : Bool) (temp : Nat)
  /-- MODULE_POLL (R584). -/
  | modulePoll (k : Nat) (nack : Bool) (temp : Nat)
  /-- MODULE_I2C_RETRY (R585). -/
  | moduleI2cRetry (k : Nat) (nack : Bool)
  /-- MODULE_READ (R586). -/
  | moduleRead (a k page bank off lenM1 : Nat)
  /-- MODULE_WRITE (R586). -/
  | moduleWrite (a k page bank off lenM1 : Nat)
  /-- MODULE_ACCESS_DONE (R586). -/
  | moduleAccessDone (a : Nat) (nack : Bool) (data : Nat)
  /-- MGMT_FRAME_RX (R588). -/
  | mgmtFrameRx (l : List Byte)
  /-- NCSI_CLEAR_INITIAL_STATE (R590). -/
  | ncsiClearInitialState (c : Nat) (sumOk : Bool)
  /-- NCSI_SELECT_PACKAGE (R590). -/
  | ncsiSelectPackage (sumOk : Bool)
  /-- NCSI_DESELECT_PACKAGE (R590). -/
  | ncsiDeselectPackage (sumOk : Bool)
  /-- NCSI_ENABLE_CHANNEL (R590). -/
  | ncsiEnableChannel (c : Nat) (sumOk : Bool)
  /-- NCSI_DISABLE_CHANNEL (R590). -/
  | ncsiDisableChannel (c : Nat) (sumOk : Bool)
  /-- NCSI_RESET_CHANNEL (R590). -/
  | ncsiResetChannel (c : Nat) (sumOk : Bool)
  /-- NCSI_ENABLE_NETWORK_TX (R590). -/
  | ncsiEnableNetworkTx (c : Nat) (sumOk : Bool)
  /-- NCSI_DISABLE_NETWORK_TX (R590). -/
  | ncsiDisableNetworkTx (c : Nat) (sumOk : Bool)
  /-- NCSI_AEN_ENABLE (R590). -/
  | ncsiAenEnable (c mc mask : Nat) (sumOk : Bool)
  /-- NCSI_GET_LINK_STATUS (R590). -/
  | ncsiGetLinkStatus (c : Nat) (sumOk : Bool)
  /-- NCSI_GET_VERSION_ID (R590). -/
  | ncsiGetVersionId (c : Nat) (sumOk : Bool)
  /-- NCSI_GET_CAPABILITIES (R590). -/
  | ncsiGetCapabilities (c : Nat) (sumOk : Bool)
  /-- NCSI_GET_PARAMETERS (R590). -/
  | ncsiGetParameters (c : Nat) (sumOk : Bool)
  /-- NCSI_GET_CONTROLLER_STATS (R590). -/
  | ncsiGetControllerStats (c : Nat) (sumOk : Bool)
  /-- NCSI_GET_NCSI_STATS (R590). -/
  | ncsiGetNcsiStats (c : Nat) (sumOk : Bool)
  /-- NCSI_GET_PASSTHROUGH_STATS (R590). -/
  | ncsiGetPassthroughStats (c : Nat) (sumOk : Bool)
  /-- NCSI_SET_MAC_ADDRESS (R590). -/
  | ncsiSetMacAddress (c i addr : Nat) (en sumOk : Bool)
  /-- NCSI_ENABLE_BROADCAST_FILTER (R590). -/
  | ncsiEnableBroadcastFilter (c mask : Nat) (sumOk : Bool)
  /-- NCSI_DISABLE_BROADCAST_FILTER (R590). -/
  | ncsiDisableBroadcastFilter (c : Nat) (sumOk : Bool)
  /-- NCSI_ENABLE_MULTICAST_FILTER (R590). -/
  | ncsiEnableMulticastFilter (c mask : Nat) (sumOk : Bool)
  /-- NCSI_DISABLE_MULTICAST_FILTER (R590). -/
  | ncsiDisableMulticastFilter (c : Nat) (sumOk : Bool)
  /-- NCSI_SET_VLAN_FILTER (R590). -/
  | ncsiSetVlanFilter (c i vid : Nat) (en sumOk : Bool)
  /-- NCSI_ENABLE_VLAN (R590). -/
  | ncsiEnableVlan (c mode : Nat) (sumOk : Bool)
  /-- NCSI_DISABLE_VLAN (R590). -/
  | ncsiDisableVlan (c : Nat) (sumOk : Bool)
  /-- NCSI_UNSUPPORTED_COMMAND (R590). -/
  | ncsiUnsupportedCommand (c kind : Nat) (sumOk : Bool)
  /-- NCSI_PASSTHROUGH_TX (R592). -/
  | ncsiPassthroughTx (c : Nat) (l : List Byte)
  /-- GROTTO_ROM_START (R595). -/
  | grottoRomStart
  /-- GROTTO_IMAGE_VERIFY_DONE (R596). -/
  | grottoImageVerifyDone
  /-- CONTROL_FW_RELEASE (R597). -/
  | controlFwRelease
  /-- SPDM_GET_VERSION (R602). -/
  | spdmGetVersion (c : Nat) (ok : Bool)
  /-- SPDM_GET_CAPABILITIES (R602). -/
  | spdmGetCapabilities (c ver : Nat) (ok : Bool)
  /-- SPDM_NEGOTIATE_ALGORITHMS (R602). -/
  | spdmNegotiateAlgorithms (c ver : Nat) (common ok : Bool)
  /-- SPDM_GET_DIGESTS (R601). -/
  | spdmGetDigests (c ver : Nat) (ok : Bool)
  /-- SPDM_GET_CERTIFICATE (R601). -/
  | spdmGetCertificate (c ver slot off len : Nat) (ok : Bool)
  /-- SPDM_CHALLENGE (R602). -/
  | spdmChallenge (c ver slot nonce : Nat) (ok : Bool)
  /-- SPDM_GET_MEASUREMENTS (R599). -/
  | spdmGetMeasurements (c ver index nonce : Nat) (sig ok : Bool)
  /-- SPDM_KEY_EXCHANGE (R602). -/
  | spdmKeyExchange (c ver n beat : Nat) (ok : Bool)
  /-- SPDM_FINISH (R602). -/
  | spdmFinish (c n : Nat) (good mac : Bool)
  /-- SPDM_HEARTBEAT (R603). -/
  | spdmHeartbeat (c n : Nat) (good : Bool)
  /-- SPDM_KEY_UPDATE (R602). -/
  | spdmKeyUpdate (c n op : Nat) (good : Bool)
  /-- SPDM_END_SESSION (R602). -/
  | spdmEndSession (c n : Nat) (good : Bool)
  /-- SPDM_CHUNK_TRANSFER (R602). -/
  | spdmChunkTransfer (c ver len : Nat) (send ok : Bool)
  /-- SPDM_UNSUPPORTED_REQUEST (R604). -/
  | spdmUnsupportedRequest (c : Nat)
  /-- SPDM_HEARTBEAT_TIMEOUT (R603). -/
  | spdmHeartbeatTimeout (n : Nat)
  /-- IDE_KM_QUERY (R605). -/
  | ideKmQuery (c n : Nat) (good : Bool)
  /-- IDE_KM_KEY_PROG (R605). -/
  | ideKmKeyProg (c n a k b key : Nat) (good : Bool)
  /-- IDE_KM_K_SET_GO (R605). -/
  | ideKmKSetGo (c n a k b : Nat) (good : Bool)
  /-- IDE_KM_K_SET_STOP (R605). -/
  | ideKmKSetStop (c n a k b : Nat) (good : Bool)
  /-- FW_ACTIVATE (R623). -/
  | fwActivate (f : Nat)
  /-- PRINCIPAL_REKEY (R622). -/
  | principalRekey (f : Nat)
  /-- DEBUG_UNLOCK (R624). -/
  | debugUnlock (f : Nat)
  /-- SECURE_ERASE (R627). -/
  | secureErase (f : Nat)
  /-- THERMAL_SAMPLE (R652). -/
  | thermalSample (temp : Nat)
  /-- THERMAL_SHED_STEP (R653). -/
  | thermalShedStep
  /-- THERMAL_RETURN_STEP (R654). -/
  | thermalReturnStep
  /-- THERMAL_TRIP (R655). -/
  | thermalTrip
  /-- PWR_GOOD_RISE (R657). -/
  | pwrGoodRise (straps : Nat)
  /-- PWR_GOOD_FALL (R657). -/
  | pwrGoodFall
  /-- SYS_RESET_ASSERT (R658). -/
  | sysResetAssert
  /-- RESET_CTRL_WRITE (R686). -/
  | resetCtrlWrite (v : Word)
  /-- DEVICE_RESET (R658). -/
  | deviceReset
  /-- SYNTH_LOCK (R664). -/
  | synthLock
  /-- HIF_READY_SET (R663). -/
  | hifReadySet (ms : Nat)
  /-- TRST_ASSERT (R685). -/
  | trstAssert
  /-- TAP_EXTEST (R684). -/
  | tapExtest
  /-- TAP_SAMPLE_PRELOAD (R684). -/
  | tapSamplePreload
  /-- TAP_IDCODE (R683). -/
  | tapIdcode
  /-- TAP_HIGHZ (R684). -/
  | tapHighz
  /-- TAP_CLAMP (R684). -/
  | tapClamp
  /-- TAP_EXTEST_PULSE (R684). -/
  | tapExtestPulse
  /-- TAP_EXTEST_TRAIN (R684). -/
  | tapExtestTrain
  /-- TAP_PRIVATE (R684). -/
  | tapPrivate (code : Nat)
  /-- TAP_BYPASS (R684). -/
  | tapBypass
  /-- LNT_HELP (R675). -/
  | lntHelp
  /-- LNT_STATUS (R675). -/
  | lntStatus
  /-- LNT_NONCE (R675). -/
  | lntNonce
  /-- LNT_LOCK (R674). -/
  | lntLock
  /-- LNT_FAULT (R675). -/
  | lntFault (n k : Nat)
  /-- LNT_RD (R675). -/
  | lntRd (off k : Nat)
  /-- LNT_TIME (R675). -/
  | lntTime
  /-- LNT_PORT (R675). -/
  | lntPort (p : Nat)
  /-- LNT_RESET (R675). -/
  | lntReset
  /-- LNT_WR (R675). -/
  | lntWr (off : Nat) (v : Word)
  /-- LNT_HALT (R678). -/
  | lntHalt (g e : Nat)
  /-- LNT_RESUME (R680). -/
  | lntResume (g e : Nat)
  /-- LNT_STEP (R681). -/
  | lntStep (g e t n : Nat)
  /-- LNT_STEP_TIMEOUT (R681). -/
  | lntStepTimeout
  /-- LNT_REGS (R675). -/
  | lntRegs (g e t : Nat)
  /-- LNT_BKPT_ARM (R675). -/
  | lntBkptArm (g e : Nat)
  /-- LNT_BKPT_DISARM (R675). -/
  | lntBkptDisarm (g e : Nat)
  /-- LNT_SUMP_ABORT (R682). -/
  | lntSumpAbort (g n : Nat)
  /-- LNT_CORE_HALT (R675). -/
  | lntCoreHalt (c : Nat)
  /-- LNT_CORE_RESUME (R675). -/
  | lntCoreResume (c : Nat)
  /-- LNT_CORE_RD (R675). -/
  | lntCoreRd (c addr k : Nat)
  /-- LNT_FLASH_ERASE (R675). -/
  | lntFlashErase (b : Nat)
  /-- LNT_FLASH_WRITE (R675). -/
  | lntFlashWrite (b : Nat) (data : List (BitVec 8))
  /-- LNT_UNKNOWN_COMMAND (R676). -/
  | lntUnknownCommand
  /-- PLDM_FW_UPDATE (R671). -/
  | pldmFwUpdate (b off : Nat) (data : List (BitVec 8))
  /-- RAIL_UNDERVOLTAGE (R696). -/
  | railUndervoltage
  /-- ETH_REFCLK_LOSS (R700). -/
  | ethRefclkLoss
  /-- MGMT_REFCLK_LOSS (R700). -/
  | mgmtRefclkLoss
  /-- NCSI_REFCLK_LOSS (R700). -/
  | ncsiRefclkLoss
  /-- NCSI_REFCLK_RETURN (R700). -/
  | ncsiRefclkReturn
  /-- PCIE_REFCLK_LOSS (R700). -/
  | pcieRefclkLoss (a : Nat)
  /-- VDDIO_18_FALL (R698). -/
  | vddio18Fall
  /-- SMBUS_MCTP_RX (R711). -/
  | smbusMctpRx (addr : Nat) (pecOk : Bool)
  /-- ETH_REFCLK_RETURN (R700). -/
  | ethRefclkReturn
  /-- MGMT_REFCLK_RETURN (R700). -/
  | mgmtRefclkReturn
  /-- PCIE_REFCLK_RETURN (R700). -/
  | pcieRefclkReturn (a : Nat)
  /-- MGMT_LINK_CHANGE (R587). -/
  | mgmtLinkChange (up : Bool) (speed : Nat)
  /-- BLOCK_LOCK_CHANGE (R569). -/
  | blockLockChange (p : Nat) (locked : Bool)
  /-- SYNCE_INPUT_RECOVERY (R127). -/
  | synceInputRecovery (n : Nat)
  /-- FREQUENCY_DPLL_LOCK (R134). -/
  | frequencyDpllLock
  /-- PTP_ANNOUNCE_RECEIPT_TIMEOUT (R118). -/
  | ptpAnnounceReceiptTimeout (i : Nat)
  /-- REPLAY_TIMER_EXPIRY (R449). -/
  | replayTimerExpiry (a : Nat) (same : Bool)
  /-- TCP_ACK_RX (R413). -/
  | tcpAckRx
  /-- SYS_RESET_RELEASE (R657). -/
  | sysResetRelease
  /-- TEST_LOGIC_RESET (R685). -/
  | testLogicReset
  /-- QP_MODIFY (R423). -/
  | qpModify (q : Nat) (a : QpAttr)
  deriving DecidableEq, Repr

end Sys2Proof
end

