-- ==== Sys2Proof/Decode.lean ====
section
/-! DEFINITION. Decode.lean: the command that a word spells. The table of operations and events gives none of its rows bits: a command is
an access, a message, a frame, a pin or a step of the device's own units, so no word spells one. -/

namespace Sys2Proof

/-- The command whose bits, in the table's numbering, are w. -/
def decodeTableWord (_nbits _w : Nat) : Option Instr := none

end Sys2Proof
end

