-- ==== Sys2Proof/Config.lean ====
section
/-! DEFINITION. Config.lean: the free values of the model. Each is an opaque constant: nothing can evaluate it, so a
statement about the machine holds whatever it is (assumption log entries 5 to 9, 44 and 50). -/

namespace Sys2Proof

/-- The n-th fresh free value of a run (log entry 5); the step applies it to the counter `State.free`. -/
opaque Config.freeNat : Nat → Nat

/-- The servo's new FREQ_ADJ from its old value, the bandwidth code and the remainder of the offset: R63 leaves the
loop's coefficients to the implementation (log entry 6). -/
opaque Config.servoAdj : Int → Nat → Int → Int

/-- The best master clock algorithm of a profile (R118 cites IEEE 1588-2019 and does not state it): from the profile,
the role, the local priorities and the foreign data sets, the chosen parent port, or 8 for none (log entry 7). -/
opaque Config.bmcaParent : Nat → Nat → Nat → List (Nat × Nat × Nat) → Nat

/-- The state the algorithm gives a port that is not in client state, a number from which the model takes one of the
states R118 allows (log entry 7). -/
opaque Config.bmcaPort : Nat → Nat → Nat → Nat → Nat

/-- HMAC-SHA256 truncated to 128 bits over a PTP message under a key (R116) (log entry 8). -/
opaque Config.ptpMac : Nat → Nat → Nat

/-- Whether a mean of times with a fraction takes its upper neighbour (log entry 17). -/
opaque Config.roundUp : Int → Nat → Bool

/-- The temperature correction of a measured port delay, from fused coefficients (R99) (log entry 9). -/
opaque Config.tempCorr : Nat → Nat → Int → Int

/-- AES-256-CMAC of a message under a 256-bit key (R611) (log entry 8). -/
opaque Config.cmac : Nat → List (BitVec 8) → Nat

/-- The AES-GCM key stream: the byte at a position under key and nonce (counter mode, log entry 8). -/
opaque Config.gcmStream : Nat → Nat → Nat → BitVec 8

/-- The AES-GCM tag over a ciphertext (log entry 8). -/
opaque Config.gcmTag : Nat → Nat → List (BitVec 8) → List (BitVec 8) → Nat

/-- AES-XTS over one data unit: true encrypts (log entry 8). -/
opaque Config.xts : Bool → Nat → Nat → List (BitVec 8) → List (BitVec 8)

/-- A hash of a byte string: SHA-384 for measurements, HMAC and signatures for SPDM (log entry 8). -/
opaque Config.sha384 : List (BitVec 8) → Nat

/-- Signature over a byte string by a device key (log entry 8). -/
opaque Config.sign : Nat → List (BitVec 8) → Nat

/-- Whether a signature over a byte string verifies under a public key (log entry 8). -/
opaque Config.verifySig : Nat → List (BitVec 8) → Nat → Bool

/-- A key derivation step (log entry 8). -/
opaque Config.kdf : Nat → List (BitVec 8) → Nat

/-- The key material of a key envelope under the tenant-import key of a generation, or none when the unwrap fails its
integrity check (R617, R619) (log entry 8). -/
opaque Config.unwrap : Nat → List (BitVec 8) → Option Nat

/-- Whether 97 bytes are an uncompressed point of the curve P-384 (R619) (log entry 8). -/
opaque Config.pointOk : List (BitVec 8) → Bool

/-- The 64-bit device serial number fused at manufacturing (R601; log entry 50). -/
opaque Config.dsn : Nat

/-- Bytes of what Grotto measures and certifies that no rule gives: 0 the ROM and anchor of measurement 1, then the certificate chains of
slot 0 and slot 1 by generation of their keys; and the length of each (R599-R601; log entry 50). -/
opaque Config.trustByte : Nat → Nat → Nat → Byte
opaque Config.trustLen : Nat → Nat → Nat

/-- The Ethernet, IP and transport headers of the n-th packet of a storage context, which no rule lays out
(log entry 44). -/
opaque Config.stoHeader : Nat → Nat → List Byte

/-- Bytes the storage unit sends or shows whose content no rule gives: by purpose, object and offset (log entry 44). -/
opaque Config.stoByte : Nat → Nat → Nat → Byte

/-- The adapter's own IP address on a port and TCP port of a connection (log entry 44). -/
opaque Config.localAddr : Nat → Nat
opaque Config.localPort : Nat → Nat

/-- What the remote end of a path admits: capsule size in 16-byte units, bytes of a TCP segment (log entry 44). -/
opaque Config.ioccsz : Nat → Nat
opaque Config.mss : Nat → Nat

/-- The application tag generated where the host supplies none (R409; log entry 44), by namespace and LBA. -/
opaque Config.appTag : Nat → Nat → Nat

/-- The invariant CRC of a RoCEv2 packet, from its IP header on (log entry 8). -/
opaque Config.icrc : List Byte → BitVec 32

/-- Whether a channel's broadcast (0) or global multicast (1) filter with the enables of a mask lets a frame through; the frame types are
DSP0222's (R591; log entry 40). -/
opaque Config.ncsiPass : Nat → Nat → List Byte → Bool

/-- Depth of the token bucket of R425 in thousandths of a bit (log entry 44). -/
opaque Config.rateBucket : Nat → Nat

end Sys2Proof
end

