-- ==== Sys2Proof/Machine/Emit.lean ====
section
/-! DEFINITION. Machine/Emit.lean: what the device shows the outside world, one record an event, newest first in
State.out. Host memory is not here: it is state. -/

namespace Sys2Proof.Machine

/-- An output of the device. -/
inductive Emit where
  /-- Data a BAR 0 read returns to an attachment. -/
  | readData (att value : Nat)
  /-- A completion with status UR for a read. -/
  | unsupported (att : Nat)
  /-- An MSI-X message. -/
  | msix (func vec addr data : Nat)
  /-- An MSI message. -/
  | msi (func vec : Nat)
  /-- Assert_INTA or Deassert_INTA. -/
  | intx (func : Nat) (assert : Bool)
  /-- A memory read request of the device. -/
  | readReq (att tag func bytes : Nat)
  /-- Read data returned to a peer. -/
  | peerData (att : Nat) (data : List (BitVec 8))
  /-- A frame leaving a port: bytes without FCS, departure stamp in 2^-16 ns, whether the FCS is inverted. -/
  | frame (port : Nat) (data : List (BitVec 8)) (stamp : Int) (stomped : Bool)
  /-- A PFC frame: port, class-enable vector, pause times of the priorities in the vector, rising. -/
  | pfc (port vector : Nat) (times : List Nat)
  /-- What a port sends while it receives a fault: remote fault (1), idle (0) or data again (2) (R570). -/
  | faultSeq (port kind : Nat)
  /-- A verify frame of frame preemption (R579). -/
  | verify (port : Nat)
  /-- A PTP message sent: instance, port, message type, sequence, timestamp and correction. -/
  | ptp (inst port kind seq : Nat) (ts corr : Int) (twoStep auth : Bool)
  /-- A PTP unicast grant answer or request: instance, client or master, message kind, duration in seconds. -/
  | ptpGrant (inst peer kind duration : Nat)
  /-- An ESMC frame: port, event frame or information frame, quality level. -/
  | esmc (port : Nat) (event : Bool) (ql : Nat)
  /-- A level on PPS_OUT. -/
  | pps (n : Nat) (high : Bool)
  /-- A PTM request on an attachment. -/
  | ptmRequest (att : Nat)
  /-- A text answer of Lantern: a code for the line and its values. -/
  | lantern (line : String) (values : List Nat)
  /-- An NC-SI response or AEN: channel, packet type, response code, reason code, values. -/
  | ncsi (channel kind code reason : Nat) (values : List Nat)
  /-- A frame leaving the management port or the NC-SI sideband towards the BMC. -/
  | mgmtFrame (channel : Nat) (data : List (BitVec 8))
  /-- An SPDM or secured response: code, values. -/
  | spdm (att code : Nat) (values : List Nat)
  /-- An ATS Invalidate Completion. -/
  | atsDone (att : Nat)
  /-- A queue pair's modify completes: queue pair, admin status code; or RDMA CM REJ for a service refused (0x100). -/
  | qpDone (qp status : Nat)
  /-- An instruction or level of the test access port: register name, value shifted out. -/
  | tap (reg : String) (value : Nat)
  /-- A pin driven by the device: name, level. -/
  | pin (name : String) (high : Bool)
  /-- An I2C access of a module cage. -/
  | i2c (cage : Nat) (write : Bool) (page offset len data : Nat)
  deriving DecidableEq, Repr

end Sys2Proof.Machine
end

