-- ==== Sys2Proof/Machine/Store.lean ====
section
/-! DEFINITION. Machine/Store.lean: the one sparse store every table, memory and register file of the model is built
on: a list of (key, value) pairs with strictly rising keys and no entry equal to what an unlisted key reads as. -/

namespace Sys2Proof.Machine

/-- A sparse store: keys strictly rising, no entry equal to the default at its key. -/
abbrev Map (α : Type) := List (Nat × α)

/-- What the store reads at key `k`, `d` being what an unlisted key reads as. -/
def Map.get {α : Type} (m : Map α) (d : α) (k : Nat) : α :=
  match m with
  | [] => d
  | (k', v) :: t => if k' = k then v else Map.get t d k

/-- Remove every entry at key `k`. -/
def Map.erase {α : Type} (m : Map α) (k : Nat) : Map α :=
  match m with
  | [] => []
  | (k', v) :: t => if k' = k then Map.erase t k else (k', v) :: Map.erase t k

/-- Insert an entry before the first larger key (the key itself is not listed). -/
def Map.insert {α : Type} (m : Map α) (k : Nat) (v : α) : Map α :=
  match m with
  | [] => [(k, v)]
  | (k', v') :: t => if k < k' then (k, v) :: (k', v') :: t else (k', v') :: Map.insert t k v

/-- Store `v` at key `k`; a value equal to the default `d` is not listed, so equal stores are equal data. -/
def Map.set {α : Type} [DecidableEq α] (m : Map α) (d : α) (k : Nat) (v : α) : Map α :=
  if v = d then Map.erase m k else Map.insert (Map.erase m k) k v

/-- Change the value at one key by a function. -/
def Map.upd {α : Type} [DecidableEq α] (m : Map α) (d : α) (k : Nat) (f : α → α) : Map α :=
  Map.set m d k (f (Map.get m d k))

/-- Apply a function to every listed value (default values stay unlisted). -/
def Map.mapVals {α : Type} [DecidableEq α] (m : Map α) (d : α) (f : Nat → α → α) : Map α :=
  match m with
  | [] => []
  | (k, v) :: t =>
    if f k v = d then Map.mapVals t d f else (k, f k v) :: Map.mapVals t d f

/-- The canonical form: keys strictly rising from `lo` on, no entry equal to the default of its key. -/
def Map.wfFrom {α : Type} [DecidableEq α] (lo : Nat) (m : Map α) (d : Nat → α) : Bool :=
  match m with
  | [] => true
  | (k, v) :: t => decide (lo ≤ k) && decide (v ≠ d k) && Map.wfFrom (k + 1) t d

/-- The canonical form of a store. -/
def Map.wf {α : Type} [DecidableEq α] (m : Map α) (d : Nat → α) : Bool := Map.wfFrom 0 m d

/-- Byte memories: one `Host.Cell` a listed byte. An unlisted byte reads as 0 (DESIGN CHOICE, log entry 3). -/
abbrev Mem := Map (BitVec 8)

/-- One byte of a memory. -/
def Mem.byte (m : Mem) (a : Nat) : BitVec 8 := Map.get m 0 a

/-- Write one byte. -/
def Mem.put (m : Mem) (a : Nat) (b : BitVec 8) : Mem := Map.set m 0 a b

/-- The canonical form of a byte memory. -/
def Mem.wf (m : Mem) : Bool := Map.wf m (fun _ => 0)

/-- `n` bytes from address `a` on, in rising address order. -/
def Mem.bytes (m : Mem) (a : Nat) : Nat → List (BitVec 8)
  | 0 => []
  | n + 1 => Mem.byte m a :: Mem.bytes m (a + 1) n

/-- Write a list of bytes at rising addresses. -/
def Mem.putBytes (m : Mem) (a : Nat) : List (BitVec 8) → Mem
  | [] => m
  | b :: t => Mem.putBytes (Mem.put m a b) (a + 1) t

/-- The little-endian number of a list of bytes (R6: host structures are little-endian). -/
def leNat : List (BitVec 8) → Nat
  | [] => 0
  | b :: t => b.toNat + 256 * leNat t

/-- The big-endian number of a list of bytes (R6: wire fields are in network byte order). -/
def beNatAux (acc : Nat) : List (BitVec 8) → Nat
  | [] => acc
  | b :: t => beNatAux (acc * 256 + b.toNat) t

/-- The big-endian number of a list of bytes. -/
def beNat (l : List (BitVec 8)) : Nat := beNatAux 0 l

/-- The `n` little-endian bytes of a number. -/
def leBytes (v : Nat) : Nat → List (BitVec 8)
  | 0 => []
  | n + 1 => BitVec.ofNat 8 v :: leBytes (v / 256) n

/-- The `n` big-endian bytes of a number. -/
def beBytes (v n : Nat) : List (BitVec 8) := (leBytes v n).reverse

/-- The little-endian number of `n` bytes at `a`. -/
def Mem.le (m : Mem) (a n : Nat) : Nat := leNat (Mem.bytes m a n)

/-- Write a number as `n` little-endian bytes at `a`. -/
def Mem.putLe (m : Mem) (a n v : Nat) : Mem := Mem.putBytes m a (leBytes v n)

end Sys2Proof.Machine
end

