-- ==== Sys2Proof/Machine/RegKinds.lean ====
section
/-! DEFINITION. Machine/RegKinds.lean: what a register, a field and an access code are (R5, R13, R644, R645), and how
a BAR 0 offset is looked up in the register tables. -/

namespace Sys2Proof.Machine

/-- A field of a 64-bit register: the register's BAR 0 offset, the field's lowest bit and its width. -/
structure Fld where
  off : Nat
  lo : Nat
  w : Nat
  deriving DecidableEq, Repr

/-- The access codes of R13 (RSV bits are those no field covers). -/
inductive Acc where
  | ro | rw | rw1c | rw1s | wo | roc | rwk
  deriving DecidableEq, Repr

/-- One field of a register table: lowest bit, width, access code, reset value. -/
structure FldRow where
  lo : Nat
  w : Nat
  acc : Acc
  reset : Nat
  deriving DecidableEq, Repr

/-- What a register holds beside plain fields: an error counter COUNT at bit `lo` with SAT at bit `lo + 32` (R645), or
a 64-bit statistic (R644). -/
inductive RegKind where
  | plain
  | errCnt (lo : Nat)
  | stat
  deriving DecidableEq, Repr

/-- One row of a register table: offset of the first instance, the (count, stride) of each index, kind and fields. -/
structure RegRow where
  base : Nat
  dims : List (Nat × Nat)
  kind : RegKind
  flds : List FldRow
  deriving DecidableEq, Repr

/-- Whether a distance from the first instance is that of an instance, for the indexes given. -/
def dimsHit : List (Nat × Nat) → Nat → Bool
  | [], rel => rel == 0
  | (n, st) :: t, rel => decide (rel / st < n) && dimsHit t (rel % st)

/-- Whether a row holds the register at an offset. -/
def RegRow.hit (r : RegRow) (off : Nat) : Bool :=
  decide (r.base ≤ off) && dimsHit r.dims (off - r.base)

/-- The row that holds the register at an offset. -/
def findRow : List RegRow → Nat → Option RegRow
  | [], _ => none
  | r :: t, off => if r.hit off then some r else findRow t off

/-- The value of a register made of its fields' reset values. -/
def fieldsReset : List FldRow → Nat
  | [] => 0
  | f :: t => f.reset * 2 ^ f.lo + fieldsReset t

end Sys2Proof.Machine
end

