-- ==== Sys2Proof/Machine/RegTable.lean ====
section
/-! DEFINITION. Machine/RegTable.lean: the register tables of every block of the WA880 (R95, R96, R151, R201, R249, R251,
R253, R255, R321, R323, R360, R392, R429, R476, R521, R557, R558, R594, R628, R656, R686): where each register stands in
BAR 0, its fields with their access codes (R13) and reset values, and a name for every register and field. -/

namespace Sys2Proof.Machine

/-- GLB_STRAPS (R686). -/
abbrev R.GLB_STRAPS : Nat := 0x100
abbrev F.GLB_STRAPS_BIF : Fld := ⟨R.GLB_STRAPS, 0, 2⟩
abbrev F.GLB_STRAPS_CLK : Fld := ⟨R.GLB_STRAPS, 2, 2⟩
abbrev F.GLB_STRAPS_OSC : Fld := ⟨R.GLB_STRAPS, 4, 2⟩
abbrev F.GLB_STRAPS_MGMT : Fld := ⟨R.GLB_STRAPS, 6, 1⟩
abbrev F.GLB_STRAPS_NCSI_PKG : Fld := ⟨R.GLB_STRAPS, 8, 3⟩
abbrev F.GLB_STRAPS_RECOVERY_N : Fld := ⟨R.GLB_STRAPS, 11, 1⟩
/-- GLB_BOOT (R686). -/
abbrev R.GLB_BOOT : Nat := 0x108
abbrev F.GLB_BOOT_CF_STAGE : Fld := ⟨R.GLB_BOOT, 0, 3⟩
abbrev F.GLB_BOOT_HIF_READY : Fld := ⟨R.GLB_BOOT, 3, 1⟩
abbrev F.GLB_BOOT_RESET_CAUSE : Fld := ⟨R.GLB_BOOT, 4, 4⟩
abbrev F.GLB_BOOT_READY_MS : Fld := ⟨R.GLB_BOOT, 16, 16⟩
/-- GLB_RESET_CTRL (R686). -/
abbrev R.GLB_RESET_CTRL : Nat := 0x110
abbrev F.GLB_RESET_CTRL_CONFIRM : Fld := ⟨R.GLB_RESET_CTRL, 0, 8⟩
abbrev F.GLB_RESET_CTRL_GO : Fld := ⟨R.GLB_RESET_CTRL, 8, 1⟩
/-- LNT_STATUS (R686). -/
abbrev R.LNT_STATUS : Nat := 0x80000
abbrev F.LNT_STATUS_BUSY : Fld := ⟨R.LNT_STATUS, 0, 1⟩
abbrev F.LNT_STATUS_RECOVERY : Fld := ⟨R.LNT_STATUS, 1, 1⟩
abbrev F.LNT_STATUS_LEVEL : Fld := ⟨R.LNT_STATUS, 2, 2⟩
abbrev F.LNT_STATUS_HALTED : Fld := ⟨R.LNT_STATUS, 8, 11⟩
abbrev F.LNT_STATUS_LAST_ERR : Fld := ⟨R.LNT_STATUS, 24, 8⟩
/-- FST_STATUS (R95). -/
abbrev R.FST_STATUS : Nat := 0x100000
abbrev F.FST_STATUS_STATE : Fld := ⟨R.FST_STATUS, 0, 3⟩
abbrev F.FST_STATUS_ALIGNED : Fld := ⟨R.FST_STATUS, 3, 1⟩
abbrev F.FST_STATUS_OSC_LOST : Fld := ⟨R.FST_STATUS, 4, 1⟩
abbrev F.FST_STATUS_SLEW_ACTIVE : Fld := ⟨R.FST_STATUS, 5, 1⟩
abbrev F.FST_STATUS_STAGED : Fld := ⟨R.FST_STATUS, 6, 1⟩
abbrev F.FST_STATUS_SELECTED : Fld := ⟨R.FST_STATUS, 8, 2⟩
abbrev F.FST_STATUS_SELECTED_VALID : Fld := ⟨R.FST_STATUS, 10, 1⟩
abbrev F.FST_STATUS_VALID_MASK : Fld := ⟨R.FST_STATUS, 16, 4⟩
abbrev F.FST_STATUS_REJECT_MASK : Fld := ⟨R.FST_STATUS, 20, 4⟩
abbrev F.FST_STATUS_LOCK_COUNT : Fld := ⟨R.FST_STATUS, 24, 8⟩
abbrev F.FST_STATUS_HOLDOVER_AGE : Fld := ⟨R.FST_STATUS, 32, 32⟩
/-- FST_INT_STATUS (R95). -/
abbrev R.FST_INT_STATUS : Nat := 0x100008
abbrev F.FST_INT_STATUS_STATE_CHANGE : Fld := ⟨R.FST_INT_STATUS, 0, 1⟩
abbrev F.FST_INT_STATUS_ALIGN_CHANGE : Fld := ⟨R.FST_INT_STATUS, 1, 1⟩
abbrev F.FST_INT_STATUS_TIME_STEPPED : Fld := ⟨R.FST_INT_STATUS, 2, 1⟩
abbrev F.FST_INT_STATUS_FALSETICKER : Fld := ⟨R.FST_INT_STATUS, 3, 1⟩
abbrev F.FST_INT_STATUS_SRC_LOST : Fld := ⟨R.FST_INT_STATUS, 4, 1⟩
abbrev F.FST_INT_STATUS_OSC_LOST : Fld := ⟨R.FST_INT_STATUS, 5, 1⟩
abbrev F.FST_INT_STATUS_SLEW_LIMIT : Fld := ⟨R.FST_INT_STATUS, 6, 1⟩
abbrev F.FST_INT_STATUS_ERR_LIMIT : Fld := ⟨R.FST_INT_STATUS, 7, 1⟩
abbrev F.FST_INT_STATUS_SAT : Fld := ⟨R.FST_INT_STATUS, 8, 1⟩
abbrev F.FST_INT_STATUS_AUTH_FAIL : Fld := ⟨R.FST_INT_STATUS, 9, 1⟩
abbrev F.FST_INT_STATUS_SYNCE_EVENT : Fld := ⟨R.FST_INT_STATUS, 10, 1⟩
/-- FST_INT_EN (R95). -/
abbrev R.FST_INT_EN (i : Nat) : Nat := 0x100010 + i * 0x8
abbrev F.FST_INT_EN_STATE_CHANGE (i : Nat) : Fld := ⟨(R.FST_INT_EN i), 0, 1⟩
abbrev F.FST_INT_EN_ALIGN_CHANGE (i : Nat) : Fld := ⟨(R.FST_INT_EN i), 1, 1⟩
abbrev F.FST_INT_EN_TIME_STEPPED (i : Nat) : Fld := ⟨(R.FST_INT_EN i), 2, 1⟩
abbrev F.FST_INT_EN_FALSETICKER (i : Nat) : Fld := ⟨(R.FST_INT_EN i), 3, 1⟩
abbrev F.FST_INT_EN_SRC_LOST (i : Nat) : Fld := ⟨(R.FST_INT_EN i), 4, 1⟩
abbrev F.FST_INT_EN_OSC_LOST (i : Nat) : Fld := ⟨(R.FST_INT_EN i), 5, 1⟩
abbrev F.FST_INT_EN_SLEW_LIMIT (i : Nat) : Fld := ⟨(R.FST_INT_EN i), 6, 1⟩
abbrev F.FST_INT_EN_ERR_LIMIT (i : Nat) : Fld := ⟨(R.FST_INT_EN i), 7, 1⟩
abbrev F.FST_INT_EN_SAT (i : Nat) : Fld := ⟨(R.FST_INT_EN i), 8, 1⟩
abbrev F.FST_INT_EN_AUTH_FAIL (i : Nat) : Fld := ⟨(R.FST_INT_EN i), 9, 1⟩
abbrev F.FST_INT_EN_SYNCE_EVENT (i : Nat) : Fld := ⟨(R.FST_INT_EN i), 10, 1⟩
/-- FST_FREQ_ADJ (R95). -/
abbrev R.FST_FREQ_ADJ : Nat := 0x100030
abbrev F.FST_FREQ_ADJ_ADJ : Fld := ⟨R.FST_FREQ_ADJ, 0, 32⟩
/-- FST_FREQ_HOLD (R95). -/
abbrev R.FST_FREQ_HOLD : Nat := 0x100038
abbrev F.FST_FREQ_HOLD_HOLD : Fld := ⟨R.FST_FREQ_HOLD, 0, 32⟩
/-- FST_PHASE_PEND (R95). -/
abbrev R.FST_PHASE_PEND : Nat := 0x100040
abbrev F.FST_PHASE_PEND_PEND : Fld := ⟨R.FST_PHASE_PEND, 0, 48⟩
/-- FST_OSC_CFG (R95). -/
abbrev R.FST_OSC_CFG : Nat := 0x100048
abbrev F.FST_OSC_CFG_FREQ : Fld := ⟨R.FST_OSC_CFG, 0, 2⟩
abbrev F.FST_OSC_CFG_CLASS : Fld := ⟨R.FST_OSC_CFG, 4, 2⟩
/-- FST_HOLD_MODEL (R95). -/
abbrev R.FST_HOLD_MODEL : Nat := 0x100050
abbrev F.FST_HOLD_MODEL_Y0 : Fld := ⟨R.FST_HOLD_MODEL, 0, 32⟩
abbrev F.FST_HOLD_MODEL_A : Fld := ⟨R.FST_HOLD_MODEL, 32, 32⟩
/-- FST_PDPLL_CFG (R95). -/
abbrev R.FST_PDPLL_CFG : Nat := 0x100058
abbrev F.FST_PDPLL_CFG_BW : Fld := ⟨R.FST_PDPLL_CFG, 0, 4⟩
abbrev F.FST_PDPLL_CFG_HYBRID : Fld := ⟨R.FST_PDPLL_CFG, 4, 1⟩
abbrev F.FST_PDPLL_CFG_HOLD_AVG : Fld := ⟨R.FST_PDPLL_CFG, 8, 4⟩
abbrev F.FST_PDPLL_CFG_SLEW_THRESH : Fld := ⟨R.FST_PDPLL_CFG, 16, 8⟩
/-- FST_FDPLL_CFG (R95). -/
abbrev R.FST_FDPLL_CFG : Nat := 0x100060
abbrev F.FST_FDPLL_CFG_BW : Fld := ⟨R.FST_FDPLL_CFG, 0, 2⟩
abbrev F.FST_FDPLL_CFG_SEL : Fld := ⟨R.FST_FDPLL_CFG, 4, 3⟩
abbrev F.FST_FDPLL_CFG_PORT : Fld := ⟨R.FST_FDPLL_CFG, 8, 3⟩
abbrev F.FST_FDPLL_CFG_AUTO : Fld := ⟨R.FST_FDPLL_CFG, 12, 1⟩
/-- FST_LOCK_CFG (R95). -/
abbrev R.FST_LOCK_CFG : Nat := 0x100068
abbrev F.FST_LOCK_CFG_LOCK_THRESH : Fld := ⟨R.FST_LOCK_CFG, 0, 16⟩
abbrev F.FST_LOCK_CFG_LOCK_COUNT : Fld := ⟨R.FST_LOCK_CFG, 16, 8⟩
abbrev F.FST_LOCK_CFG_LOSS_PERIODS : Fld := ⟨R.FST_LOCK_CFG, 24, 8⟩
/-- FST_LIMIT_CFG (R95). -/
abbrev R.FST_LIMIT_CFG : Nat := 0x100070
abbrev F.FST_LIMIT_CFG_RELOCK_MAX : Fld := ⟨R.FST_LIMIT_CFG, 0, 32⟩
abbrev F.FST_LIMIT_CFG_ERR_LIMIT : Fld := ⟨R.FST_LIMIT_CFG, 32, 32⟩
/-- FST_VOTE_CFG (R95). -/
abbrev R.FST_VOTE_CFG : Nat := 0x100078
abbrev F.FST_VOTE_CFG_REJECT_BOUND : Fld := ⟨R.FST_VOTE_CFG, 0, 16⟩
abbrev F.FST_VOTE_CFG_MIN_SOURCES : Fld := ⟨R.FST_VOTE_CFG, 16, 3⟩
abbrev F.FST_VOTE_CFG_RECOVER : Fld := ⟨R.FST_VOTE_CFG, 24, 4⟩
/-- FST_SNAP_CTRL (R95). -/
abbrev R.FST_SNAP_CTRL (i : Nat) : Nat := 0x100100 + i * 0x20
abbrev F.FST_SNAP_CTRL_TAKE (i : Nat) : Fld := ⟨(R.FST_SNAP_CTRL i), 0, 1⟩
/-- FST_SNAP_SEC (R95). -/
abbrev R.FST_SNAP_SEC (i : Nat) : Nat := 0x100108 + i * 0x20
abbrev F.FST_SNAP_SEC_SEC (i : Nat) : Fld := ⟨(R.FST_SNAP_SEC i), 0, 48⟩
abbrev F.FST_SNAP_SEC_SEQ (i : Nat) : Fld := ⟨(R.FST_SNAP_SEC i), 48, 16⟩
/-- FST_SNAP_NS (R95). -/
abbrev R.FST_SNAP_NS (i : Nat) : Nat := 0x100110 + i * 0x20
abbrev F.FST_SNAP_NS_NS (i : Nat) : Fld := ⟨(R.FST_SNAP_NS i), 0, 30⟩
abbrev F.FST_SNAP_NS_FRAC (i : Nat) : Fld := ⟨(R.FST_SNAP_NS i), 32, 16⟩
abbrev F.FST_SNAP_NS_CYCLE (i : Nat) : Fld := ⟨(R.FST_SNAP_NS i), 48, 10⟩
abbrev F.FST_SNAP_NS_ALIGNED (i : Nat) : Fld := ⟨(R.FST_SNAP_NS i), 58, 1⟩
abbrev F.FST_SNAP_NS_STATE (i : Nat) : Fld := ⟨(R.FST_SNAP_NS i), 59, 3⟩
/-- FST_SNAP_DRIP (R95). -/
abbrev R.FST_SNAP_DRIP (i : Nat) : Nat := 0x100118 + i * 0x20
abbrev F.FST_SNAP_DRIP_DRIP (i : Nat) : Fld := ⟨(R.FST_SNAP_DRIP i), 0, 64⟩
/-- FST_SRC_CFG (R95). -/
abbrev R.FST_SRC_CFG (i : Nat) : Nat := 0x100200 + i * 0x20
abbrev F.FST_SRC_CFG_TYPE (i : Nat) : Fld := ⟨(R.FST_SRC_CFG i), 0, 3⟩
abbrev F.FST_SRC_CFG_INSTANCE (i : Nat) : Fld := ⟨(R.FST_SRC_CFG i), 4, 3⟩
abbrev F.FST_SRC_CFG_PPS (i : Nat) : Fld := ⟨(R.FST_SRC_CFG i), 8, 1⟩
abbrev F.FST_SRC_CFG_OFFSET_CORR (i : Nat) : Fld := ⟨(R.FST_SRC_CFG i), 32, 32⟩
/-- FST_SRC_OFFSET (R95). -/
abbrev R.FST_SRC_OFFSET (i : Nat) : Nat := 0x100208 + i * 0x20
abbrev F.FST_SRC_OFFSET_OFFSET (i : Nat) : Fld := ⟨(R.FST_SRC_OFFSET i), 0, 64⟩
/-- FST_SRC_STATUS (R95). -/
abbrev R.FST_SRC_STATUS (i : Nat) : Nat := 0x100210 + i * 0x20
abbrev F.FST_SRC_STATUS_SSTATE (i : Nat) : Fld := ⟨(R.FST_SRC_STATUS i), 0, 3⟩
abbrev F.FST_SRC_STATUS_AGREE_RUN (i : Nat) : Fld := ⟨(R.FST_SRC_STATUS i), 8, 8⟩
abbrev F.FST_SRC_STATUS_ERR_EST (i : Nat) : Fld := ⟨(R.FST_SRC_STATUS i), 16, 32⟩
/-- FST_SRC_REJECT_CNT (R95). -/
abbrev R.FST_SRC_REJECT_CNT (i : Nat) : Nat := 0x100218 + i * 0x20
/-- FST_SLEW_LONG_CNT (R96). -/
abbrev R.FST_SLEW_LONG_CNT : Nat := 0x100300
/-- FST_SLEW_SHORT_CNT (R96). -/
abbrev R.FST_SLEW_SHORT_CNT : Nat := 0x100308
/-- FST_STEP_CNT (R96). -/
abbrev R.FST_STEP_CNT : Nat := 0x100310
/-- FST_ALIGN_CNT (R96). -/
abbrev R.FST_ALIGN_CNT : Nat := 0x100318
/-- FST_PTP_CFG (R151). -/
abbrev R.FST_PTP_CFG (i : Nat) : Nat := 0x101000 + i * 0x80
abbrev F.FST_PTP_CFG_ENABLE (i : Nat) : Fld := ⟨(R.FST_PTP_CFG i), 0, 1⟩
abbrev F.FST_PTP_CFG_PROFILE (i : Nat) : Fld := ⟨(R.FST_PTP_CFG i), 1, 3⟩
abbrev F.FST_PTP_CFG_ROLE (i : Nat) : Fld := ⟨(R.FST_PTP_CFG i), 4, 2⟩
abbrev F.FST_PTP_CFG_P2P (i : Nat) : Fld := ⟨(R.FST_PTP_CFG i), 6, 1⟩
abbrev F.FST_PTP_CFG_TWO_STEP (i : Nat) : Fld := ⟨(R.FST_PTP_CFG i), 7, 1⟩
abbrev F.FST_PTP_CFG_DOMAIN (i : Nat) : Fld := ⟨(R.FST_PTP_CFG i), 8, 8⟩
abbrev F.FST_PTP_CFG_TRANSPORT (i : Nat) : Fld := ⟨(R.FST_PTP_CFG i), 16, 2⟩
abbrev F.FST_PTP_CFG_UNICAST (i : Nat) : Fld := ⟨(R.FST_PTP_CFG i), 18, 1⟩
abbrev F.FST_PTP_CFG_AUTH (i : Nat) : Fld := ⟨(R.FST_PTP_CFG i), 19, 1⟩
abbrev F.FST_PTP_CFG_CLIENT_ONLY (i : Nat) : Fld := ⟨(R.FST_PTP_CFG i), 20, 1⟩
abbrev F.FST_PTP_CFG_PRIORITY1 (i : Nat) : Fld := ⟨(R.FST_PTP_CFG i), 24, 8⟩
abbrev F.FST_PTP_CFG_PRIORITY2 (i : Nat) : Fld := ⟨(R.FST_PTP_CFG i), 32, 8⟩
abbrev F.FST_PTP_CFG_LOG_SYNC (i : Nat) : Fld := ⟨(R.FST_PTP_CFG i), 40, 8⟩
abbrev F.FST_PTP_CFG_LOG_ANNOUNCE (i : Nat) : Fld := ⟨(R.FST_PTP_CFG i), 48, 8⟩
abbrev F.FST_PTP_CFG_LOG_DELAY (i : Nat) : Fld := ⟨(R.FST_PTP_CFG i), 56, 8⟩
/-- FST_PTP_PORTS (R151). -/
abbrev R.FST_PTP_PORTS (i : Nat) : Nat := 0x101008 + i * 0x80
abbrev F.FST_PTP_PORTS_MEMBERS (i : Nat) : Fld := ⟨(R.FST_PTP_PORTS i), 0, 8⟩
abbrev F.FST_PTP_PORTS_MASTER_ONLY (i : Nat) : Fld := ⟨(R.FST_PTP_PORTS i), 8, 8⟩
abbrev F.FST_PTP_PORTS_VLAN (i : Nat) : Fld := ⟨(R.FST_PTP_PORTS i), 16, 12⟩
abbrev F.FST_PTP_PORTS_VLAN_EN (i : Nat) : Fld := ⟨(R.FST_PTP_PORTS i), 28, 1⟩
abbrev F.FST_PTP_PORTS_LOCAL_PRIO (i : Nat) : Fld := ⟨(R.FST_PTP_PORTS i), 32, 8⟩
abbrev F.FST_PTP_PORTS_FILTER_WIN (i : Nat) : Fld := ⟨(R.FST_PTP_PORTS i), 40, 8⟩
abbrev F.FST_PTP_PORTS_KEY_SLOT (i : Nat) : Fld := ⟨(R.FST_PTP_PORTS i), 48, 8⟩
abbrev F.FST_PTP_PORTS_KEY_ID (i : Nat) : Fld := ⟨(R.FST_PTP_PORTS i), 56, 8⟩
/-- FST_PTP_STATUS (R151). -/
abbrev R.FST_PTP_STATUS (i : Nat) : Nat := 0x101010 + i * 0x80
abbrev F.FST_PTP_STATUS_PORT_STATE (i : Nat) : Fld := ⟨(R.FST_PTP_STATUS i), 0, 32⟩
abbrev F.FST_PTP_STATUS_STEPS_REMOVED (i : Nat) : Fld := ⟨(R.FST_PTP_STATUS i), 32, 16⟩
abbrev F.FST_PTP_STATUS_GM_CLASS (i : Nat) : Fld := ⟨(R.FST_PTP_STATUS i), 48, 8⟩
abbrev F.FST_PTP_STATUS_ONE_STEP_DOWN (i : Nat) : Fld := ⟨(R.FST_PTP_STATUS i), 56, 1⟩
/-- FST_PTP_GM (R151). -/
abbrev R.FST_PTP_GM (i : Nat) : Nat := 0x101018 + i * 0x80
abbrev F.FST_PTP_GM_GM_IDENTITY (i : Nat) : Fld := ⟨(R.FST_PTP_GM i), 0, 64⟩
/-- FST_PTP_DELAY (R151). -/
abbrev R.FST_PTP_DELAY (i : Nat) : Nat := 0x101020 + i * 0x80
abbrev F.FST_PTP_DELAY_MEAN_DELAY (i : Nat) : Fld := ⟨(R.FST_PTP_DELAY i), 0, 64⟩
/-- FST_PTP_AUTH_CNT (R151). -/
abbrev R.FST_PTP_AUTH_CNT (i : Nat) : Nat := 0x101028 + i * 0x80
/-- FST_PTP_MALFORMED_CNT (R151). -/
abbrev R.FST_PTP_MALFORMED_CNT (i : Nat) : Nat := 0x101030 + i * 0x80
/-- FST_PTP_UNMATCHED_CNT (R151). -/
abbrev R.FST_PTP_UNMATCHED_CNT (i : Nat) : Nat := 0x101038 + i * 0x80
/-- FST_PTP_REFUSED_CNT (R151). -/
abbrev R.FST_PTP_REFUSED_CNT (i : Nat) : Nat := 0x101040 + i * 0x80
/-- FST_PTP_RX_CNT (R151). -/
abbrev R.FST_PTP_RX_CNT (i : Nat) : Nat := 0x101048 + i * 0x80
/-- FST_PTP_TX_CNT (R151). -/
abbrev R.FST_PTP_TX_CNT (i : Nat) : Nat := 0x101050 + i * 0x80
/-- FST_PORT_EXT (R151). -/
abbrev R.FST_PORT_EXT (i : Nat) : Nat := 0x101400 + i * 0x20
abbrev F.FST_PORT_EXT_TX_EXT (i : Nat) : Fld := ⟨(R.FST_PORT_EXT i), 0, 32⟩
abbrev F.FST_PORT_EXT_RX_EXT (i : Nat) : Fld := ⟨(R.FST_PORT_EXT i), 32, 32⟩
/-- FST_PORT_ASYM (R151). -/
abbrev R.FST_PORT_ASYM (i : Nat) : Nat := 0x101408 + i * 0x20
abbrev F.FST_PORT_ASYM_ASYM (i : Nat) : Fld := ⟨(R.FST_PORT_ASYM i), 0, 32⟩
/-- FST_PORT_CAL (R151). -/
abbrev R.FST_PORT_CAL (i : Nat) : Nat := 0x101410 + i * 0x20
abbrev F.FST_PORT_CAL_TX_CAL (i : Nat) : Fld := ⟨(R.FST_PORT_CAL i), 0, 32⟩
abbrev F.FST_PORT_CAL_RX_CAL (i : Nat) : Fld := ⟨(R.FST_PORT_CAL i), 32, 32⟩
/-- FST_PORT_CAL_STATUS (R151). -/
abbrev R.FST_PORT_CAL_STATUS (i : Nat) : Nat := 0x101418 + i * 0x20
abbrev F.FST_PORT_CAL_STATUS_CAL_DONE (i : Nat) : Fld := ⟨(R.FST_PORT_CAL_STATUS i), 0, 1⟩
abbrev F.FST_PORT_CAL_STATUS_CAL_FAIL (i : Nat) : Fld := ⟨(R.FST_PORT_CAL_STATUS i), 1, 1⟩
abbrev F.FST_PORT_CAL_STATUS_CAL_TEMP (i : Nat) : Fld := ⟨(R.FST_PORT_CAL_STATUS i), 8, 8⟩
/-- FST_PPS_OUT_CFG (R151). -/
abbrev R.FST_PPS_OUT_CFG (i : Nat) : Nat := 0x101500 + i * 0x8
abbrev F.FST_PPS_OUT_CFG_ENABLE (i : Nat) : Fld := ⟨(R.FST_PPS_OUT_CFG i), 0, 1⟩
abbrev F.FST_PPS_OUT_CFG_SQUELCH (i : Nat) : Fld := ⟨(R.FST_PPS_OUT_CFG i), 1, 2⟩
abbrev F.FST_PPS_OUT_CFG_WIDTH (i : Nat) : Fld := ⟨(R.FST_PPS_OUT_CFG i), 12, 20⟩
abbrev F.FST_PPS_OUT_CFG_OFFSET (i : Nat) : Fld := ⟨(R.FST_PPS_OUT_CFG i), 32, 32⟩
/-- FST_TOD_CFG (R151). -/
abbrev R.FST_TOD_CFG : Nat := 0x101510
abbrev F.FST_TOD_CFG_BAUD : Fld := ⟨R.FST_TOD_CFG, 0, 3⟩
abbrev F.FST_TOD_CFG_NEXT : Fld := ⟨R.FST_TOD_CFG, 3, 1⟩
abbrev F.FST_TOD_CFG_UTC_OFFSET : Fld := ⟨R.FST_TOD_CFG, 8, 8⟩
abbrev F.FST_TOD_CFG_GNSS_ERR : Fld := ⟨R.FST_TOD_CFG, 16, 16⟩
/-- FST_REF_OUT_CFG (R151). -/
abbrev R.FST_REF_OUT_CFG (i : Nat) : Nat := 0x101518 + i * 0x8
abbrev F.FST_REF_OUT_CFG_ENABLE (i : Nat) : Fld := ⟨(R.FST_REF_OUT_CFG i), 0, 1⟩
abbrev F.FST_REF_OUT_CFG_FREQ (i : Nat) : Fld := ⟨(R.FST_REF_OUT_CFG i), 1, 3⟩
abbrev F.FST_REF_OUT_CFG_SQUELCH (i : Nat) : Fld := ⟨(R.FST_REF_OUT_CFG i), 4, 1⟩
/-- FST_SYNCE_CFG (R151). -/
abbrev R.FST_SYNCE_CFG : Nat := 0x101528
abbrev F.FST_SYNCE_CFG_EEC_TYPE : Fld := ⟨R.FST_SYNCE_CFG, 0, 2⟩
abbrev F.FST_SYNCE_CFG_ESMC_EN : Fld := ⟨R.FST_SYNCE_CFG, 8, 8⟩
abbrev F.FST_SYNCE_CFG_HOLD_OFF : Fld := ⟨R.FST_SYNCE_CFG, 16, 8⟩
abbrev F.FST_SYNCE_CFG_WTR : Fld := ⟨R.FST_SYNCE_CFG, 24, 8⟩
abbrev F.FST_SYNCE_CFG_REF_QL : Fld := ⟨R.FST_SYNCE_CFG, 32, 16⟩
/-- FST_SYNCE_STATUS (R151). -/
abbrev R.FST_SYNCE_STATUS : Nat := 0x101530
abbrev F.FST_SYNCE_STATUS_SEL_INPUT : Fld := ⟨R.FST_SYNCE_STATUS, 0, 4⟩
abbrev F.FST_SYNCE_STATUS_RX_QL : Fld := ⟨R.FST_SYNCE_STATUS, 4, 4⟩
abbrev F.FST_SYNCE_STATUS_TX_QL : Fld := ⟨R.FST_SYNCE_STATUS, 8, 4⟩
abbrev F.FST_SYNCE_STATUS_LOCKED : Fld := ⟨R.FST_SYNCE_STATUS, 12, 1⟩
/-- FST_PPS_GLITCH_CNT (R151). -/
abbrev R.FST_PPS_GLITCH_CNT (i : Nat) : Nat := 0x101538 + i * 0x8
/-- FST_TRACE_CFG (R151). -/
abbrev R.FST_TRACE_CFG : Nat := 0x101548
abbrev F.FST_TRACE_CFG_HOP_ERR : Fld := ⟨R.FST_TRACE_CFG, 0, 32⟩
abbrev F.FST_TRACE_CFG_GM_ERR : Fld := ⟨R.FST_TRACE_CFG, 32, 32⟩
/-- FST_PTM_CFG (R151). -/
abbrev R.FST_PTM_CFG (i : Nat) : Nat := 0x101600 + i * 0x18
abbrev F.FST_PTM_CFG_PERIOD (i : Nat) : Fld := ⟨(R.FST_PTM_CFG i), 0, 4⟩
/-- FST_PTM_STATUS (R151). -/
abbrev R.FST_PTM_STATUS (i : Nat) : Nat := 0x101608 + i * 0x18
abbrev F.FST_PTM_STATUS_PTM_VALID (i : Nat) : Fld := ⟨(R.FST_PTM_STATUS i), 0, 1⟩
abbrev F.FST_PTM_STATUS_GRAN (i : Nat) : Fld := ⟨(R.FST_PTM_STATUS i), 8, 8⟩
abbrev F.FST_PTM_STATUS_LINK_DELAY (i : Nat) : Fld := ⟨(R.FST_PTM_STATUS i), 16, 32⟩
/-- FST_PTM_BAD_CNT (R151). -/
abbrev R.FST_PTM_BAD_CNT (i : Nat) : Nat := 0x101610 + i * 0x18
/-- FST_TRACE (R151). -/
abbrev R.FST_TRACE (i : Nat) : Nat := 0x101700 + i * 0x8
/-- HIF_STATUS (R476). -/
abbrev R.HIF_STATUS : Nat := 0x200000
abbrev F.HIF_STATUS_BIFURCATION : Fld := ⟨R.HIF_STATUS, 0, 2⟩
abbrev F.HIF_STATUS_PRESENT : Fld := ⟨R.HIF_STATUS, 4, 4⟩
abbrev F.HIF_STATUS_SRIS : Fld := ⟨R.HIF_STATUS, 8, 1⟩
/-- HIF_INT_STATUS (R476). -/
abbrev R.HIF_INT_STATUS : Nat := 0x200008
abbrev F.HIF_INT_STATUS_LINK_CHANGE : Fld := ⟨R.HIF_INT_STATUS, 0, 4⟩
abbrev F.HIF_INT_STATUS_WIN_MISS : Fld := ⟨R.HIF_INT_STATUS, 4, 4⟩
abbrev F.HIF_INT_STATUS_CTO : Fld := ⟨R.HIF_INT_STATUS, 8, 4⟩
abbrev F.HIF_INT_STATUS_IDE_FAIL : Fld := ⟨R.HIF_INT_STATUS, 12, 4⟩
abbrev F.HIF_INT_STATUS_TDI_ERROR : Fld := ⟨R.HIF_INT_STATUS, 16, 4⟩
abbrev F.HIF_INT_STATUS_SAT : Fld := ⟨R.HIF_INT_STATUS, 20, 1⟩
/-- HIF_INT_EN (R476). -/
abbrev R.HIF_INT_EN (i : Nat) : Nat := 0x200010 + i * 0x8
abbrev F.HIF_INT_EN_LINK_CHANGE (i : Nat) : Fld := ⟨(R.HIF_INT_EN i), 0, 4⟩
abbrev F.HIF_INT_EN_WIN_MISS (i : Nat) : Fld := ⟨(R.HIF_INT_EN i), 4, 4⟩
abbrev F.HIF_INT_EN_CTO (i : Nat) : Fld := ⟨(R.HIF_INT_EN i), 8, 4⟩
abbrev F.HIF_INT_EN_IDE_FAIL (i : Nat) : Fld := ⟨(R.HIF_INT_EN i), 12, 4⟩
abbrev F.HIF_INT_EN_TDI_ERROR (i : Nat) : Fld := ⟨(R.HIF_INT_EN i), 16, 4⟩
abbrev F.HIF_INT_EN_SAT (i : Nat) : Fld := ⟨(R.HIF_INT_EN i), 20, 1⟩
/-- HIF_PEER_REGION (R476). -/
abbrev R.HIF_PEER_REGION : Nat := 0x200040
abbrev F.HIF_PEER_REGION_BASE : Fld := ⟨R.HIF_PEER_REGION, 21, 15⟩
abbrev F.HIF_PEER_REGION_SIZE : Fld := ⟨R.HIF_PEER_REGION, 40, 13⟩
/-- HIF_LINK_STATUS (R476). -/
abbrev R.HIF_LINK_STATUS (i : Nat) : Nat := 0x201000 + i * 0x1000
abbrev F.HIF_LINK_STATUS_LTSSM (i : Nat) : Fld := ⟨(R.HIF_LINK_STATUS i), 0, 4⟩
abbrev F.HIF_LINK_STATUS_RATE (i : Nat) : Fld := ⟨(R.HIF_LINK_STATUS i), 4, 3⟩
abbrev F.HIF_LINK_STATUS_WIDTH (i : Nat) : Fld := ⟨(R.HIF_LINK_STATUS i), 8, 5⟩
abbrev F.HIF_LINK_STATUS_FLIT (i : Nat) : Fld := ⟨(R.HIF_LINK_STATUS i), 13, 1⟩
abbrev F.HIF_LINK_STATUS_DL_UP (i : Nat) : Fld := ⟨(R.HIF_LINK_STATUS i), 14, 1⟩
abbrev F.HIF_LINK_STATUS_REVERSED (i : Nat) : Fld := ⟨(R.HIF_LINK_STATUS i), 15, 1⟩
abbrev F.HIF_LINK_STATUS_L1_BLOCKED (i : Nat) : Fld := ⟨(R.HIF_LINK_STATUS i), 16, 1⟩
/-- HIF_LINK_CFG (R476). -/
abbrev R.HIF_LINK_CFG (i : Nat) : Nat := 0x201008 + i * 0x1000
abbrev F.HIF_LINK_CFG_MAX_RATE (i : Nat) : Fld := ⟨(R.HIF_LINK_CFG i), 0, 3⟩
abbrev F.HIF_LINK_CFG_FLIT_EN (i : Nat) : Fld := ⟨(R.HIF_LINK_CFG i), 3, 1⟩
/-- HIF_VF_RANGE (R476). -/
abbrev R.HIF_VF_RANGE (i : Nat) : Nat := 0x201010 + i * 0x1000
abbrev F.HIF_VF_RANGE_FIRST (i : Nat) : Fld := ⟨(R.HIF_VF_RANGE i), 0, 11⟩
abbrev F.HIF_VF_RANGE_COUNT (i : Nat) : Fld := ⟨(R.HIF_VF_RANGE i), 16, 12⟩
/-- HIF_OUTSTANDING (R476). -/
abbrev R.HIF_OUTSTANDING (i : Nat) : Nat := 0x201018 + i * 0x1000
abbrev F.HIF_OUTSTANDING_READS (i : Nat) : Fld := ⟨(R.HIF_OUTSTANDING i), 0, 13⟩
abbrev F.HIF_OUTSTANDING_BYTES (i : Nat) : Fld := ⟨(R.HIF_OUTSTANDING i), 32, 21⟩
/-- HIF_CTO (R476). -/
abbrev R.HIF_CTO (i : Nat) : Nat := 0x201020 + i * 0x1000
abbrev F.HIF_CTO_EFFECTIVE (i : Nat) : Fld := ⟨(R.HIF_CTO i), 0, 16⟩
abbrev F.HIF_CTO_MIN (i : Nat) : Fld := ⟨(R.HIF_CTO i), 16, 16⟩
/-- HIF_WIN_LOG (R476). -/
abbrev R.HIF_WIN_LOG (i : Nat) : Nat := 0x201028 + i * 0x1000
abbrev F.HIF_WIN_LOG_RID (i : Nat) : Fld := ⟨(R.HIF_WIN_LOG i), 0, 16⟩
abbrev F.HIF_WIN_LOG_WINDOW (i : Nat) : Fld := ⟨(R.HIF_WIN_LOG i), 16, 4⟩
abbrev F.HIF_WIN_LOG_WRITE (i : Nat) : Fld := ⟨(R.HIF_WIN_LOG i), 20, 1⟩
abbrev F.HIF_WIN_LOG_REASON (i : Nat) : Fld := ⟨(R.HIF_WIN_LOG i), 21, 3⟩
/-- HIF_WIN_COMMIT (R476). -/
abbrev R.HIF_WIN_COMMIT (i : Nat) : Nat := 0x201030 + i * 0x1000
abbrev F.HIF_WIN_COMMIT_MASK (i : Nat) : Fld := ⟨(R.HIF_WIN_COMMIT i), 0, 16⟩
abbrev F.HIF_WIN_COMMIT_GO (i : Nat) : Fld := ⟨(R.HIF_WIN_COMMIT i), 16, 1⟩
abbrev F.HIF_WIN_COMMIT_BUSY (i : Nat) : Fld := ⟨(R.HIF_WIN_COMMIT i), 17, 1⟩
abbrev F.HIF_WIN_COMMIT_ERR (i : Nat) : Fld := ⟨(R.HIF_WIN_COMMIT i), 18, 1⟩
abbrev F.HIF_WIN_COMMIT_ERR_WIN (i : Nat) : Fld := ⟨(R.HIF_WIN_COMMIT i), 20, 4⟩
/-- HIF_READ_CAP_SEL (R476). -/
abbrev R.HIF_READ_CAP_SEL (i : Nat) : Nat := 0x201038 + i * 0x1000
abbrev F.HIF_READ_CAP_SEL_FUNC (i : Nat) : Fld := ⟨(R.HIF_READ_CAP_SEL i), 0, 12⟩
/-- HIF_READ_CAP_DATA (R476). -/
abbrev R.HIF_READ_CAP_DATA (i : Nat) : Nat := 0x201040 + i * 0x1000
abbrev F.HIF_READ_CAP_DATA_CAP (i : Nat) : Fld := ⟨(R.HIF_READ_CAP_DATA i), 0, 13⟩
/-- HIF_DEV_INT_VEC (R476). -/
abbrev R.HIF_DEV_INT_VEC (i : Nat) : Nat := 0x201048 + i * 0x1000
abbrev F.HIF_DEV_INT_VEC_VECTOR (i : Nat) : Fld := ⟨(R.HIF_DEV_INT_VEC i), 0, 11⟩
/-- HIF_INT_SUMMARY (R476). -/
abbrev R.HIF_INT_SUMMARY (i : Nat) : Nat := 0x201050 + i * 0x1000
abbrev F.HIF_INT_SUMMARY_BLOCKS (i : Nat) : Fld := ⟨(R.HIF_INT_SUMMARY i), 0, 18⟩
/-- HIF_REPLAY_CNT (R476). -/
abbrev R.HIF_REPLAY_CNT (i : Nat) : Nat := 0x201080 + i * 0x1000
/-- HIF_RECOVERY_CNT (R476). -/
abbrev R.HIF_RECOVERY_CNT (i : Nat) : Nat := 0x201088 + i * 0x1000
/-- HIF_LATE_CPL_CNT (R476). -/
abbrev R.HIF_LATE_CPL_CNT (i : Nat) : Nat := 0x201090 + i * 0x1000
/-- HIF_GEN_CPL_CNT (R476). -/
abbrev R.HIF_GEN_CPL_CNT (i : Nat) : Nat := 0x201098 + i * 0x1000
/-- HIF_BME_CPL_CNT (R476). -/
abbrev R.HIF_BME_CPL_CNT (i : Nat) : Nat := 0x2010a0 + i * 0x1000
/-- HIF_FLR_CNT (R476). -/
abbrev R.HIF_FLR_CNT (i : Nat) : Nat := 0x2010a8 + i * 0x1000
/-- HIF_READ_RETRY_CNT (R476). -/
abbrev R.HIF_READ_RETRY_CNT (i : Nat) : Nat := 0x2010b0 + i * 0x1000
/-- HIF_CTO_CNT (R476). -/
abbrev R.HIF_CTO_CNT (i : Nat) : Nat := 0x2010b8 + i * 0x1000
/-- HIF_WIN_MISS_CNT (R476). -/
abbrev R.HIF_WIN_MISS_CNT (i : Nat) : Nat := 0x2010c0 + i * 0x1000
/-- HIF_MALFORMED_CNT (R476). -/
abbrev R.HIF_MALFORMED_CNT (i : Nat) : Nat := 0x2010c8 + i * 0x1000
/-- HIF_IDE_FAIL_CNT (R476). -/
abbrev R.HIF_IDE_FAIL_CNT (i : Nat) : Nat := 0x2010d0 + i * 0x1000
/-- HIF_WIN_CFG (R476). -/
abbrev R.HIF_WIN_CFG (i j : Nat) : Nat := 0x201200 + i * 0x1000 + j * 0x40
abbrev F.HIF_WIN_CFG_ENABLE (i j : Nat) : Fld := ⟨(R.HIF_WIN_CFG i j), 0, 1⟩
abbrev F.HIF_WIN_CFG_RD (i j : Nat) : Fld := ⟨(R.HIF_WIN_CFG i j), 1, 1⟩
abbrev F.HIF_WIN_CFG_WR (i j : Nat) : Fld := ⟨(R.HIF_WIN_CFG i j), 2, 1⟩
abbrev F.HIF_WIN_CFG_SRC_CHECK (i j : Nat) : Fld := ⟨(R.HIF_WIN_CFG i j), 3, 1⟩
abbrev F.HIF_WIN_CFG_LIMIT (i j : Nat) : Fld := ⟨(R.HIF_WIN_CFG i j), 32, 10⟩
/-- HIF_WIN_TARGET (R476). -/
abbrev R.HIF_WIN_TARGET (i j : Nat) : Nat := 0x201208 + i * 0x1000 + j * 0x40
abbrev F.HIF_WIN_TARGET_BASE (i j : Nat) : Fld := ⟨(R.HIF_WIN_TARGET i j), 21, 15⟩
/-- HIF_WIN_SRC (R476). -/
abbrev R.HIF_WIN_SRC (i j : Nat) : Nat := 0x201210 + i * 0x1000 + j * 0x40
abbrev F.HIF_WIN_SRC_RID (i j : Nat) : Fld := ⟨(R.HIF_WIN_SRC i j), 0, 16⟩
abbrev F.HIF_WIN_SRC_RID_MASK (i j : Nat) : Fld := ⟨(R.HIF_WIN_SRC i j), 16, 16⟩
/-- HIF_WIN_LIVE_CFG (R476). -/
abbrev R.HIF_WIN_LIVE_CFG (i j : Nat) : Nat := 0x201218 + i * 0x1000 + j * 0x40
abbrev F.HIF_WIN_LIVE_CFG_ENABLE (i j : Nat) : Fld := ⟨(R.HIF_WIN_LIVE_CFG i j), 0, 1⟩
abbrev F.HIF_WIN_LIVE_CFG_RD (i j : Nat) : Fld := ⟨(R.HIF_WIN_LIVE_CFG i j), 1, 1⟩
abbrev F.HIF_WIN_LIVE_CFG_WR (i j : Nat) : Fld := ⟨(R.HIF_WIN_LIVE_CFG i j), 2, 1⟩
abbrev F.HIF_WIN_LIVE_CFG_SRC_CHECK (i j : Nat) : Fld := ⟨(R.HIF_WIN_LIVE_CFG i j), 3, 1⟩
abbrev F.HIF_WIN_LIVE_CFG_LIMIT (i j : Nat) : Fld := ⟨(R.HIF_WIN_LIVE_CFG i j), 32, 10⟩
/-- HIF_WIN_LIVE_TARGET (R476). -/
abbrev R.HIF_WIN_LIVE_TARGET (i j : Nat) : Nat := 0x201220 + i * 0x1000 + j * 0x40
abbrev F.HIF_WIN_LIVE_TARGET_BASE (i j : Nat) : Fld := ⟨(R.HIF_WIN_LIVE_TARGET i j), 21, 15⟩
/-- HIF_WIN_LIVE_SRC (R476). -/
abbrev R.HIF_WIN_LIVE_SRC (i j : Nat) : Nat := 0x201228 + i * 0x1000 + j * 0x40
abbrev F.HIF_WIN_LIVE_SRC_RID (i j : Nat) : Fld := ⟨(R.HIF_WIN_LIVE_SRC i j), 0, 16⟩
abbrev F.HIF_WIN_LIVE_SRC_RID_MASK (i j : Nat) : Fld := ⟨(R.HIF_WIN_LIVE_SRC i j), 16, 16⟩
/-- HIF_IDE_STATUS (R476). -/
abbrev R.HIF_IDE_STATUS (i j : Nat) : Nat := 0x201600 + i * 0x1000 + j * 0x8
abbrev F.HIF_IDE_STATUS_ENABLED (i j : Nat) : Fld := ⟨(R.HIF_IDE_STATUS i j), 0, 1⟩
abbrev F.HIF_IDE_STATUS_SECURE (i j : Nat) : Fld := ⟨(R.HIF_IDE_STATUS i j), 1, 1⟩
abbrev F.HIF_IDE_STATUS_STREAM_ID (i j : Nat) : Fld := ⟨(R.HIF_IDE_STATUS i j), 8, 8⟩
abbrev F.HIF_IDE_STATUS_KEY_SET (i j : Nat) : Fld := ⟨(R.HIF_IDE_STATUS i j), 16, 1⟩
/-- QMG_POOL (R521). -/
abbrev R.QMG_POOL : Nat := 0x400000
abbrev F.QMG_POOL_QP_FREE : Fld := ⟨R.QMG_POOL, 0, 17⟩
abbrev F.QMG_POOL_VEC_FREE : Fld := ⟨R.QMG_POOL, 17, 15⟩
abbrev F.QMG_POOL_SHARE_FREE : Fld := ⟨R.QMG_POOL, 32, 17⟩
/-- QMG_INT_STATUS (R521). -/
abbrev R.QMG_INT_STATUS : Nat := 0x400008
abbrev F.QMG_INT_STATUS_QUEUE_STOPPED : Fld := ⟨R.QMG_INT_STATUS, 0, 1⟩
abbrev F.QMG_INT_STATUS_SETUP_ERR : Fld := ⟨R.QMG_INT_STATUS, 1, 1⟩
abbrev F.QMG_INT_STATUS_EVENT_LOST : Fld := ⟨R.QMG_INT_STATUS, 2, 1⟩
abbrev F.QMG_INT_STATUS_SAT : Fld := ⟨R.QMG_INT_STATUS, 3, 1⟩
/-- QMG_INT_EN (R521). -/
abbrev R.QMG_INT_EN (i : Nat) : Nat := 0x400010 + i * 0x8
abbrev F.QMG_INT_EN_QUEUE_STOPPED (i : Nat) : Fld := ⟨(R.QMG_INT_EN i), 0, 1⟩
abbrev F.QMG_INT_EN_SETUP_ERR (i : Nat) : Fld := ⟨(R.QMG_INT_EN i), 1, 1⟩
abbrev F.QMG_INT_EN_EVENT_LOST (i : Nat) : Fld := ⟨(R.QMG_INT_EN i), 2, 1⟩
abbrev F.QMG_INT_EN_SAT (i : Nat) : Fld := ⟨(R.QMG_INT_EN i), 3, 1⟩
/-- QMG_STALE_DB_CNT (R521). -/
abbrev R.QMG_STALE_DB_CNT : Nat := 0x400080
/-- QMG_BAD_DB_CNT (R521). -/
abbrev R.QMG_BAD_DB_CNT : Nat := 0x400088
/-- QMG_SETUP_ERR_CNT (R521). -/
abbrev R.QMG_SETUP_ERR_CNT : Nat := 0x400090
/-- QMG_RX_NO_QUEUE_CNT (R521). -/
abbrev R.QMG_RX_NO_QUEUE_CNT : Nat := 0x4000c0
/-- QMG_RX_NO_BUF_CNT (R521). -/
abbrev R.QMG_RX_NO_BUF_CNT : Nat := 0x4000c8
/-- QMG_CQ_FULL_CNT (R521). -/
abbrev R.QMG_CQ_FULL_CNT : Nat := 0x4000d0
/-- QMG_EVENT_LOST_CNT (R521). -/
abbrev R.QMG_EVENT_LOST_CNT : Nat := 0x4000d8
/-- QMG_ADMIN_CNT (R521). -/
abbrev R.QMG_ADMIN_CNT : Nat := 0x4000e0
/-- QMG_FUNC_SEL (R521). -/
abbrev R.QMG_FUNC_SEL (i : Nat) : Nat := 0x400200 + i * 0x20
abbrev F.QMG_FUNC_SEL_FUNC (i : Nat) : Fld := ⟨(R.QMG_FUNC_SEL i), 0, 12⟩
/-- QMG_FUNC_DATA (R521). -/
abbrev R.QMG_FUNC_DATA (i : Nat) : Nat := 0x400208 + i * 0x20
abbrev F.QMG_FUNC_DATA_CREATED (i : Nat) : Fld := ⟨(R.QMG_FUNC_DATA i), 0, 1⟩
abbrev F.QMG_FUNC_DATA_ADMIN_EN (i : Nat) : Fld := ⟨(R.QMG_FUNC_DATA i), 1, 1⟩
abbrev F.QMG_FUNC_DATA_RESETTING (i : Nat) : Fld := ⟨(R.QMG_FUNC_DATA i), 2, 1⟩
abbrev F.QMG_FUNC_DATA_GEN (i : Nat) : Fld := ⟨(R.QMG_FUNC_DATA i), 4, 12⟩
abbrev F.QMG_FUNC_DATA_QP_ALLOT (i : Nat) : Fld := ⟨(R.QMG_FUNC_DATA i), 16, 13⟩
abbrev F.QMG_FUNC_DATA_QP_USED (i : Nat) : Fld := ⟨(R.QMG_FUNC_DATA i), 32, 13⟩
abbrev F.QMG_FUNC_DATA_VECTORS (i : Nat) : Fld := ⟨(R.QMG_FUNC_DATA i), 48, 11⟩
/-- QMG_QUEUE_SEL (R521). -/
abbrev R.QMG_QUEUE_SEL (i : Nat) : Nat := 0x400210 + i * 0x20
abbrev F.QMG_QUEUE_SEL_FUNC (i : Nat) : Fld := ⟨(R.QMG_QUEUE_SEL i), 0, 12⟩
abbrev F.QMG_QUEUE_SEL_KIND (i : Nat) : Fld := ⟨(R.QMG_QUEUE_SEL i), 12, 4⟩
abbrev F.QMG_QUEUE_SEL_QUEUE (i : Nat) : Fld := ⟨(R.QMG_QUEUE_SEL i), 16, 12⟩
/-- QMG_QUEUE_DATA (R521). -/
abbrev R.QMG_QUEUE_DATA (i : Nat) : Nat := 0x400218 + i * 0x20
abbrev F.QMG_QUEUE_DATA_STATE (i : Nat) : Fld := ⟨(R.QMG_QUEUE_DATA i), 0, 3⟩
abbrev F.QMG_QUEUE_DATA_CI (i : Nat) : Fld := ⟨(R.QMG_QUEUE_DATA i), 16, 16⟩
abbrev F.QMG_QUEUE_DATA_PI (i : Nat) : Fld := ⟨(R.QMG_QUEUE_DATA i), 32, 16⟩
abbrev F.QMG_QUEUE_DATA_LOG2 (i : Nat) : Fld := ⟨(R.QMG_QUEUE_DATA i), 48, 5⟩
/-- PRS_STATUS (R201). -/
abbrev R.PRS_STATUS : Nat := 0x800000
abbrev F.PRS_STATUS_IN_SERVICE : Fld := ⟨R.PRS_STATUS, 0, 9⟩
abbrev F.PRS_STATUS_SPARES : Fld := ⟨R.PRS_STATUS, 16, 5⟩
abbrev F.PRS_STATUS_RULESET : Fld := ⟨R.PRS_STATUS, 32, 1⟩
/-- PRS_INT_STATUS (R201). -/
abbrev R.PRS_INT_STATUS : Nat := 0x800008
abbrev F.PRS_INT_STATUS_CORE_RETIRED : Fld := ⟨R.PRS_INT_STATUS, 0, 1⟩
abbrev F.PRS_INT_STATUS_SPARES_OUT : Fld := ⟨R.PRS_INT_STATUS, 1, 1⟩
abbrev F.PRS_INT_STATUS_SAT : Fld := ⟨R.PRS_INT_STATUS, 2, 1⟩
/-- PRS_INT_EN (R201). -/
abbrev R.PRS_INT_EN (i : Nat) : Nat := 0x800010 + i * 0x8
abbrev F.PRS_INT_EN_CORE_RETIRED (i : Nat) : Fld := ⟨(R.PRS_INT_EN i), 0, 1⟩
abbrev F.PRS_INT_EN_SPARES_OUT (i : Nat) : Fld := ⟨(R.PRS_INT_EN i), 1, 1⟩
abbrev F.PRS_INT_EN_SAT (i : Nat) : Fld := ⟨(R.PRS_INT_EN i), 2, 1⟩
/-- PRS_PKT_CNT (R201). -/
abbrev R.PRS_PKT_CNT : Nat := 0x800040
/-- PRS_NO_RULESET_CNT (R201). -/
abbrev R.PRS_NO_RULESET_CNT : Nat := 0x800048
/-- PRS_LANE_LOSS_CNT (R201). -/
abbrev R.PRS_LANE_LOSS_CNT : Nat := 0x800050
/-- PRS_EXC_CNT (R201). -/
abbrev R.PRS_EXC_CNT (i : Nat) : Nat := 0x800100 + i * 0x8
/-- PRS_CORE_STATUS (R201). -/
abbrev R.PRS_CORE_STATUS (i : Nat) : Nat := 0x800400 + i * 0x8
abbrev F.PRS_CORE_STATUS_STATE (i : Nat) : Fld := ⟨(R.PRS_CORE_STATUS i), 0, 2⟩
abbrev F.PRS_CORE_STATUS_TRANSIENT (i : Nat) : Fld := ⟨(R.PRS_CORE_STATUS i), 16, 32⟩
abbrev F.PRS_CORE_STATUS_SAT (i : Nat) : Fld := ⟨(R.PRS_CORE_STATUS i), 48, 1⟩
/-- MAT_VER_STATUS (R201). -/
abbrev R.MAT_VER_STATUS : Nat := 0xa00000
abbrev F.MAT_VER_STATUS_CURRENT : Fld := ⟨R.MAT_VER_STATUS, 0, 16⟩
abbrev F.MAT_VER_STATUS_OLDEST : Fld := ⟨R.MAT_VER_STATUS, 16, 16⟩
abbrev F.MAT_VER_STATUS_LIVE : Fld := ⟨R.MAT_VER_STATUS, 32, 3⟩
abbrev F.MAT_VER_STATUS_OPEN : Fld := ⟨R.MAT_VER_STATUS, 35, 1⟩
abbrev F.MAT_VER_STATUS_SETTLING : Fld := ⟨R.MAT_VER_STATUS, 36, 1⟩
abbrev F.MAT_VER_STATUS_SLOT_CLEARING : Fld := ⟨R.MAT_VER_STATUS, 37, 1⟩
abbrev F.MAT_VER_STATUS_OPEN_VER : Fld := ⟨R.MAT_VER_STATUS, 48, 16⟩
/-- MAT_INT_STATUS (R201). -/
abbrev R.MAT_INT_STATUS : Nat := 0xa00008
abbrev F.MAT_INT_STATUS_COMMITTED : Fld := ⟨R.MAT_INT_STATUS, 0, 1⟩
abbrev F.MAT_INT_STATUS_RETIRED : Fld := ⟨R.MAT_INT_STATUS, 1, 1⟩
abbrev F.MAT_INT_STATUS_SETTLED : Fld := ⟨R.MAT_INT_STATUS, 2, 1⟩
abbrev F.MAT_INT_STATUS_LANE_RETIRED : Fld := ⟨R.MAT_INT_STATUS, 3, 1⟩
abbrev F.MAT_INT_STATUS_SAT : Fld := ⟨R.MAT_INT_STATUS, 4, 1⟩
/-- MAT_INT_EN (R201). -/
abbrev R.MAT_INT_EN (i : Nat) : Nat := 0xa00010 + i * 0x8
abbrev F.MAT_INT_EN_COMMITTED (i : Nat) : Fld := ⟨(R.MAT_INT_EN i), 0, 1⟩
abbrev F.MAT_INT_EN_RETIRED (i : Nat) : Fld := ⟨(R.MAT_INT_EN i), 1, 1⟩
abbrev F.MAT_INT_EN_SETTLED (i : Nat) : Fld := ⟨(R.MAT_INT_EN i), 2, 1⟩
abbrev F.MAT_INT_EN_LANE_RETIRED (i : Nat) : Fld := ⟨(R.MAT_INT_EN i), 3, 1⟩
abbrev F.MAT_INT_EN_SAT (i : Nat) : Fld := ⟨(R.MAT_INT_EN i), 4, 1⟩
/-- MAT_COMMIT_RESULT (R201). -/
abbrev R.MAT_COMMIT_RESULT : Nat := 0xa00030
abbrev F.MAT_COMMIT_RESULT_STATUS : Fld := ⟨R.MAT_COMMIT_RESULT, 0, 8⟩
abbrev F.MAT_COMMIT_RESULT_REASON : Fld := ⟨R.MAT_COMMIT_RESULT, 8, 8⟩
abbrev F.MAT_COMMIT_RESULT_ITEM : Fld := ⟨R.MAT_COMMIT_RESULT, 16, 16⟩
abbrev F.MAT_COMMIT_RESULT_VERSION : Fld := ⟨R.MAT_COMMIT_RESULT, 32, 16⟩
/-- MAT_INFLIGHT (R201). -/
abbrev R.MAT_INFLIGHT (i : Nat) : Nat := 0xa00040 + i * 0x8
abbrev F.MAT_INFLIGHT_VERSION (i : Nat) : Fld := ⟨(R.MAT_INFLIGHT i), 0, 16⟩
abbrev F.MAT_INFLIGHT_LIVE (i : Nat) : Fld := ⟨(R.MAT_INFLIGHT i), 16, 1⟩
abbrev F.MAT_INFLIGHT_COUNT (i : Nat) : Fld := ⟨(R.MAT_INFLIGHT i), 32, 32⟩
/-- MAT_FLOW_HIT_CNT (R201). -/
abbrev R.MAT_FLOW_HIT_CNT : Nat := 0xa00080
/-- MAT_FLOW_MISS_CNT (R201). -/
abbrev R.MAT_FLOW_MISS_CNT : Nat := 0xa00088
/-- MAT_NO_CHAIN_CNT (R201). -/
abbrev R.MAT_NO_CHAIN_CNT : Nat := 0xa00090
/-- MAT_STAGE_CFG (R201). -/
abbrev R.MAT_STAGE_CFG (i : Nat) : Nat := 0xa00100 + i * 0x20
abbrev F.MAT_STAGE_CFG_KIND (i : Nat) : Fld := ⟨(R.MAT_STAGE_CFG i), 0, 3⟩
abbrev F.MAT_STAGE_CFG_HBM (i : Nat) : Fld := ⟨(R.MAT_STAGE_CFG i), 3, 1⟩
abbrev F.MAT_STAGE_CFG_TABLE (i : Nat) : Fld := ⟨(R.MAT_STAGE_CFG i), 8, 8⟩
abbrev F.MAT_STAGE_CFG_TCAM_FIRST (i : Nat) : Fld := ⟨(R.MAT_STAGE_CFG i), 16, 5⟩
abbrev F.MAT_STAGE_CFG_TCAM_BLOCKS (i : Nat) : Fld := ⟨(R.MAT_STAGE_CFG i), 24, 6⟩
/-- MAT_STAGE_LOOKUP_CNT (R201). -/
abbrev R.MAT_STAGE_LOOKUP_CNT (i : Nat) : Nat := 0xa00108 + i * 0x20
/-- MAT_STAGE_HIT_CNT (R201). -/
abbrev R.MAT_STAGE_HIT_CNT (i : Nat) : Nat := 0xa00110 + i * 0x20
/-- MAT_LANE_STATUS (R201). -/
abbrev R.MAT_LANE_STATUS (i : Nat) : Nat := 0xa00400 + i * 0x8
abbrev F.MAT_LANE_STATUS_STATE (i : Nat) : Fld := ⟨(R.MAT_LANE_STATUS i), 0, 2⟩
abbrev F.MAT_LANE_STATUS_TRANSIENT (i : Nat) : Fld := ⟨(R.MAT_LANE_STATUS i), 16, 32⟩
abbrev F.MAT_LANE_STATUS_SAT (i : Nat) : Fld := ⟨(R.MAT_LANE_STATUS i), 48, 1⟩
/-- MAT_STEER (R255). -/
abbrev R.MAT_STEER (i : Nat) : Nat := 0xa01000 + i * 0x8
abbrev F.MAT_STEER_GALLERY0 (i : Nat) : Fld := ⟨(R.MAT_STEER i), 0, 6⟩
abbrev F.MAT_STEER_GALLERY1 (i : Nat) : Fld := ⟨(R.MAT_STEER i), 8, 6⟩
abbrev F.MAT_STEER_GALLERY2 (i : Nat) : Fld := ⟨(R.MAT_STEER i), 16, 6⟩
abbrev F.MAT_STEER_GALLERY3 (i : Nat) : Fld := ⟨(R.MAT_STEER i), 24, 6⟩
abbrev F.MAT_STEER_GALLERY4 (i : Nat) : Fld := ⟨(R.MAT_STEER i), 32, 6⟩
abbrev F.MAT_STEER_GALLERY5 (i : Nat) : Fld := ⟨(R.MAT_STEER i), 40, 6⟩
abbrev F.MAT_STEER_GALLERY6 (i : Nat) : Fld := ⟨(R.MAT_STEER i), 48, 6⟩
abbrev F.MAT_STEER_GALLERY7 (i : Nat) : Fld := ⟨(R.MAT_STEER i), 56, 6⟩
/-- MAT_LAT (R323). -/
abbrev R.MAT_LAT (i : Nat) : Nat := 0xa02000 + i * 0x8
abbrev F.MAT_LAT_CHAIN_ID (i : Nat) : Fld := ⟨(R.MAT_LAT i), 0, 12⟩
abbrev F.MAT_LAT_VALID (i : Nat) : Fld := ⟨(R.MAT_LAT i), 12, 1⟩
abbrev F.MAT_LAT_ALLOW_MIN (i : Nat) : Fld := ⟨(R.MAT_LAT i), 13, 7⟩
abbrev F.MAT_LAT_ALLOW_MAX (i : Nat) : Fld := ⟨(R.MAT_LAT i), 20, 7⟩
abbrev F.MAT_LAT_SLOT_BOUND (i : Nat) : Fld := ⟨(R.MAT_LAT i), 32, 16⟩
abbrev F.MAT_LAT_CYCLE_BOUND (i : Nat) : Fld := ⟨(R.MAT_LAT i), 48, 16⟩
/-- MAT_PATH_CYC (R323). -/
abbrev R.MAT_PATH_CYC : Nat := 0xa02200
abbrev F.MAT_PATH_CYC_PATH_CYC : Fld := ⟨R.MAT_PATH_CYC, 0, 16⟩
/-- GAL_STATUS (R249). -/
abbrev R.GAL_STATUS (i : Nat) : Nat := 0x1000000 + i * 0x10000
abbrev F.GAL_STATUS_IN_SERVICE (i : Nat) : Fld := ⟨(R.GAL_STATUS i), 0, 5⟩
abbrev F.GAL_STATUS_SPARE_AVAIL (i : Nat) : Fld := ⟨(R.GAL_STATUS i), 8, 1⟩
abbrev F.GAL_STATUS_RETIRED (i : Nat) : Fld := ⟨(R.GAL_STATUS i), 16, 17⟩
abbrev F.GAL_STATUS_HALTED (i : Nat) : Fld := ⟨(R.GAL_STATUS i), 40, 17⟩
/-- GAL_INT_STATUS (R249). -/
abbrev R.GAL_INT_STATUS (i : Nat) : Nat := 0x1000008 + i * 0x10000
abbrev F.GAL_INT_STATUS_ENGINE_RETIRED (i : Nat) : Fld := ⟨(R.GAL_INT_STATUS i), 0, 1⟩
abbrev F.GAL_INT_STATUS_LOCK_BROKEN (i : Nat) : Fld := ⟨(R.GAL_INT_STATUS i), 1, 1⟩
abbrev F.GAL_INT_STATUS_LOCK_OVERRUN (i : Nat) : Fld := ⟨(R.GAL_INT_STATUS i), 2, 1⟩
abbrev F.GAL_INT_STATUS_SUMP_ERROR (i : Nat) : Fld := ⟨(R.GAL_INT_STATUS i), 3, 1⟩
abbrev F.GAL_INT_STATUS_STALL_ESCALATED (i : Nat) : Fld := ⟨(R.GAL_INT_STATUS i), 4, 1⟩
abbrev F.GAL_INT_STATUS_THREAD0_FAULT (i : Nat) : Fld := ⟨(R.GAL_INT_STATUS i), 5, 1⟩
abbrev F.GAL_INT_STATUS_SAT (i : Nat) : Fld := ⟨(R.GAL_INT_STATUS i), 6, 1⟩
/-- GAL_INT_EN (R249). -/
abbrev R.GAL_INT_EN (i j : Nat) : Nat := 0x1000010 + i * 0x10000 + j * 0x8
abbrev F.GAL_INT_EN_ENGINE_RETIRED (i j : Nat) : Fld := ⟨(R.GAL_INT_EN i j), 0, 1⟩
abbrev F.GAL_INT_EN_LOCK_BROKEN (i j : Nat) : Fld := ⟨(R.GAL_INT_EN i j), 1, 1⟩
abbrev F.GAL_INT_EN_LOCK_OVERRUN (i j : Nat) : Fld := ⟨(R.GAL_INT_EN i j), 2, 1⟩
abbrev F.GAL_INT_EN_SUMP_ERROR (i j : Nat) : Fld := ⟨(R.GAL_INT_EN i j), 3, 1⟩
abbrev F.GAL_INT_EN_STALL_ESCALATED (i j : Nat) : Fld := ⟨(R.GAL_INT_EN i j), 4, 1⟩
abbrev F.GAL_INT_EN_THREAD0_FAULT (i j : Nat) : Fld := ⟨(R.GAL_INT_EN i j), 5, 1⟩
abbrev F.GAL_INT_EN_SAT (i j : Nat) : Fld := ⟨(R.GAL_INT_EN i j), 6, 1⟩
/-- GAL_LOCK_HELD (R249). -/
abbrev R.GAL_LOCK_HELD (i : Nat) : Nat := 0x1000040 + i * 0x10000
abbrev F.GAL_LOCK_HELD_HELD (i : Nat) : Fld := ⟨(R.GAL_LOCK_HELD i), 0, 64⟩
/-- GAL_LOCK_LOG (R249). -/
abbrev R.GAL_LOCK_LOG (i : Nat) : Nat := 0x1000048 + i * 0x10000
abbrev F.GAL_LOCK_LOG_LOCK (i : Nat) : Fld := ⟨(R.GAL_LOCK_LOG i), 0, 6⟩
abbrev F.GAL_LOCK_LOG_CAUSE (i : Nat) : Fld := ⟨(R.GAL_LOCK_LOG i), 6, 2⟩
abbrev F.GAL_LOCK_LOG_OWNER (i : Nat) : Fld := ⟨(R.GAL_LOCK_LOG i), 16, 16⟩
/-- GAL_LOCK_BROKEN_CNT (R249). -/
abbrev R.GAL_LOCK_BROKEN_CNT (i : Nat) : Nat := 0x1000050 + i * 0x10000
/-- GAL_SUMP_ERR_CNT (R249). -/
abbrev R.GAL_SUMP_ERR_CNT (i : Nat) : Nat := 0x1000058 + i * 0x10000
/-- GAL_MEM_ECC_CNT (R249). -/
abbrev R.GAL_MEM_ECC_CNT (i : Nat) : Nat := 0x1000060 + i * 0x10000
/-- GAL_SUMP_ABORT (R249). -/
abbrev R.GAL_SUMP_ABORT (i : Nat) : Nat := 0x1000068 + i * 0x10000
abbrev F.GAL_SUMP_ABORT_SUMP (i : Nat) : Fld := ⟨(R.GAL_SUMP_ABORT i), 0, 6⟩
abbrev F.GAL_SUMP_ABORT_GO (i : Nat) : Fld := ⟨(R.GAL_SUMP_ABORT i), 63, 1⟩
/-- GAL_SUMP_STATUS (R249). -/
abbrev R.GAL_SUMP_STATUS (i j : Nat) : Nat := 0x1000100 + i * 0x10000 + j * 0x10
abbrev F.GAL_SUMP_STATUS_WR (i j : Nat) : Fld := ⟨(R.GAL_SUMP_STATUS i j), 0, 10⟩
abbrev F.GAL_SUMP_STATUS_CMT (i j : Nat) : Fld := ⟨(R.GAL_SUMP_STATUS i j), 10, 10⟩
abbrev F.GAL_SUMP_STATUS_RD (i j : Nat) : Fld := ⟨(R.GAL_SUMP_STATUS i j), 20, 10⟩
abbrev F.GAL_SUMP_STATUS_PKTS (i j : Nat) : Fld := ⟨(R.GAL_SUMP_STATUS i j), 30, 10⟩
abbrev F.GAL_SUMP_STATUS_PROD_CLAIM (i j : Nat) : Fld := ⟨(R.GAL_SUMP_STATUS i j), 40, 1⟩
abbrev F.GAL_SUMP_STATUS_CONS_CLAIM (i j : Nat) : Fld := ⟨(R.GAL_SUMP_STATUS i j), 41, 1⟩
/-- GAL_SUMP_OWNER (R249). -/
abbrev R.GAL_SUMP_OWNER (i j : Nat) : Nat := 0x1000108 + i * 0x10000 + j * 0x10
abbrev F.GAL_SUMP_OWNER_PRODUCER (i j : Nat) : Fld := ⟨(R.GAL_SUMP_OWNER i j), 0, 16⟩
abbrev F.GAL_SUMP_OWNER_CONSUMER (i j : Nat) : Fld := ⟨(R.GAL_SUMP_OWNER i j), 16, 16⟩
/-- PE_STATUS (R251). -/
abbrev R.PE_STATUS (i j : Nat) : Nat := 0x1002000 + i * 0x10000 + j * 0x800
abbrev F.PE_STATUS_STATE (i j : Nat) : Fld := ⟨(R.PE_STATUS i j), 0, 3⟩
abbrev F.PE_STATUS_POS (i j : Nat) : Fld := ⟨(R.PE_STATUS i j), 8, 5⟩
/-- PE_EVENTS (R251). -/
abbrev R.PE_EVENTS (i j : Nat) : Nat := 0x1002008 + i * 0x10000 + j * 0x800
abbrev F.PE_EVENTS_EVENTS (i j : Nat) : Fld := ⟨(R.PE_EVENTS i j), 0, 32⟩
/-- PE_EVT_INTERNAL (R251). -/
abbrev R.PE_EVT_INTERNAL (i j : Nat) : Nat := 0x1002010 + i * 0x10000 + j * 0x800
abbrev F.PE_EVT_INTERNAL_INTERNAL (i j : Nat) : Fld := ⟨(R.PE_EVT_INTERNAL i j), 0, 32⟩
/-- PE_SUP (R251). -/
abbrev R.PE_SUP (i j : Nat) : Nat := 0x1002018 + i * 0x10000 + j * 0x800
abbrev F.PE_SUP_SUP_ACTIVE (i j : Nat) : Fld := ⟨(R.PE_SUP i j), 0, 1⟩
abbrev F.PE_SUP_STALL_PEND (i j : Nat) : Fld := ⟨(R.PE_SUP i j), 1, 1⟩
abbrev F.PE_SUP_FAULT_PEND (i j : Nat) : Fld := ⟨(R.PE_SUP i j), 9, 7⟩
/-- PE_THREAD (R251). -/
abbrev R.PE_THREAD (i j k : Nat) : Nat := 0x1002040 + i * 0x10000 + j * 0x800 + k * 0x8
abbrev F.PE_THREAD_TSTATE (i j k : Nat) : Fld := ⟨(R.PE_THREAD i j k), 0, 3⟩
abbrev F.PE_THREAD_PRIO (i j k : Nat) : Fld := ⟨(R.PE_THREAD i j k), 4, 2⟩
abbrev F.PE_THREAD_QUEUED (i j k : Nat) : Fld := ⟨(R.PE_THREAD i j k), 8, 4⟩
abbrev F.PE_THREAD_PC (i j k : Nat) : Fld := ⟨(R.PE_THREAD i j k), 16, 15⟩
abbrev F.PE_THREAD_WAIT_KIND (i j k : Nat) : Fld := ⟨(R.PE_THREAD i j k), 32, 3⟩
/-- PE_FAULT (R251). -/
abbrev R.PE_FAULT (i j k : Nat) : Nat := 0x1002080 + i * 0x10000 + j * 0x800 + k * 0x8
abbrev F.PE_FAULT_CAUSE (i j k : Nat) : Fld := ⟨(R.PE_FAULT i j k), 0, 8⟩
abbrev F.PE_FAULT_HW (i j k : Nat) : Fld := ⟨(R.PE_FAULT i j k), 8, 1⟩
abbrev F.PE_FAULT_VALID (i j k : Nat) : Fld := ⟨(R.PE_FAULT i j k), 9, 1⟩
abbrev F.PE_FAULT_PC (i j k : Nat) : Fld := ⟨(R.PE_FAULT i j k), 16, 15⟩
/-- PE_STALL_CNT (R251). -/
abbrev R.PE_STALL_CNT (i j : Nat) : Nat := 0x1002100 + i * 0x10000 + j * 0x800
/-- PE_TRANSIENT_CNT (R251). -/
abbrev R.PE_TRANSIENT_CNT (i j : Nat) : Nat := 0x1002108 + i * 0x10000 + j * 0x800
/-- PE_ISSUE_CNT (R251). -/
abbrev R.PE_ISSUE_CNT (i j : Nat) : Nat := 0x1002110 + i * 0x10000 + j * 0x800
/-- PE_PKT_CNT (R251). -/
abbrev R.PE_PKT_CNT (i j : Nat) : Nat := 0x1002118 + i * 0x10000 + j * 0x800
/-- DSP_STATUS (R253). -/
abbrev R.DSP_STATUS (i : Nat) : Nat := 0x1001000 + i * 0x10000
abbrev F.DSP_STATUS_INPUT (i : Nat) : Fld := ⟨(R.DSP_STATUS i), 0, 10⟩
abbrev F.DSP_STATUS_CONTEXTS (i : Nat) : Fld := ⟨(R.DSP_STATUS i), 16, 11⟩
/-- DSP_CFG (R253). -/
abbrev R.DSP_CFG (i : Nat) : Nat := 0x1001008 + i * 0x10000
abbrev F.DSP_CFG_HEADROOM (i : Nat) : Fld := ⟨(R.DSP_CFG i), 0, 3⟩
/-- DSP_ORDER_MASK (R253). -/
abbrev R.DSP_ORDER_MASK (i : Nat) : Nat := 0x1001010 + i * 0x10000
abbrev F.DSP_ORDER_MASK_ORDERED (i : Nat) : Fld := ⟨(R.DSP_ORDER_MASK i), 0, 64⟩
/-- DSP_ADMIT_CNT (R253). -/
abbrev R.DSP_ADMIT_CNT (i : Nat) : Nat := 0x1001040 + i * 0x10000
/-- DSP_HANDOFF_CNT (R253). -/
abbrev R.DSP_HANDOFF_CNT (i : Nat) : Nat := 0x1001048 + i * 0x10000
/-- DSP_QUEUE_FULL_CNT (R253). -/
abbrev R.DSP_QUEUE_FULL_CNT (i : Nat) : Nat := 0x1001050 + i * 0x10000
/-- DSP_GEN_DISCARD_CNT (R253). -/
abbrev R.DSP_GEN_DISCARD_CNT (i : Nat) : Nat := 0x1001058 + i * 0x10000
/-- DSP_ORDER_WAIT_CNT (R253). -/
abbrev R.DSP_ORDER_WAIT_CNT (i : Nat) : Nat := 0x1001060 + i * 0x10000
/-- DSP_NO_DEST_CNT (R253). -/
abbrev R.DSP_NO_DEST_CNT (i : Nat) : Nat := 0x1001068 + i * 0x10000
/-- DSP_DROP_CNT (R253). -/
abbrev R.DSP_DROP_CNT (i : Nat) : Nat := 0x1001070 + i * 0x10000
/-- DSP_BUDGET_CFG (R321). -/
abbrev R.DSP_BUDGET_CFG (i : Nat) : Nat := 0x1001800 + i * 0x10000
abbrev F.DSP_BUDGET_CFG_MARGIN (i : Nat) : Fld := ⟨(R.DSP_BUDGET_CFG i), 0, 16⟩
abbrev F.DSP_BUDGET_CFG_STRETCH (i : Nat) : Fld := ⟨(R.DSP_BUDGET_CFG i), 16, 4⟩
/-- DSP_BUDGET_STATUS (R321). -/
abbrev R.DSP_BUDGET_STATUS (i : Nat) : Nat := 0x1001808 + i * 0x10000
abbrev F.DSP_BUDGET_STATUS_BUDGET (i : Nat) : Fld := ⟨(R.DSP_BUDGET_STATUS i), 0, 16⟩
abbrev F.DSP_BUDGET_STATUS_POOL_LEFT (i : Nat) : Fld := ⟨(R.DSP_BUDGET_STATUS i), 16, 16⟩
abbrev F.DSP_BUDGET_STATUS_ADMITTED (i : Nat) : Fld := ⟨(R.DSP_BUDGET_STATUS i), 32, 7⟩
abbrev F.DSP_BUDGET_STATUS_SERVING (i : Nat) : Fld := ⟨(R.DSP_BUDGET_STATUS i), 40, 5⟩
abbrev F.DSP_BUDGET_STATUS_CHECKING (i : Nat) : Fld := ⟨(R.DSP_BUDGET_STATUS i), 45, 1⟩
abbrev F.DSP_BUDGET_STATUS_CHECK_ENGINE (i : Nat) : Fld := ⟨(R.DSP_BUDGET_STATUS i), 46, 5⟩
/-- DSP_SHARE_SEL (R321). -/
abbrev R.DSP_SHARE_SEL (i : Nat) : Nat := 0x1001810 + i * 0x10000
abbrev F.DSP_SHARE_SEL_FUNC (i : Nat) : Fld := ⟨(R.DSP_SHARE_SEL i), 0, 12⟩
/-- DSP_SHARE_DATA (R321). -/
abbrev R.DSP_SHARE_DATA (i : Nat) : Nat := 0x1001818 + i * 0x10000
abbrev F.DSP_SHARE_DATA_SHARE (i : Nat) : Fld := ⟨(R.DSP_SHARE_DATA i), 0, 17⟩
abbrev F.DSP_SHARE_DATA_RESERVED (i : Nat) : Fld := ⟨(R.DSP_SHARE_DATA i), 32, 16⟩
abbrev F.DSP_SHARE_DATA_USED (i : Nat) : Fld := ⟨(R.DSP_SHARE_DATA i), 48, 16⟩
/-- DSP_NO_BUDGET_CNT (R321). -/
abbrev R.DSP_NO_BUDGET_CNT (i : Nat) : Nat := 0x1001840 + i * 0x10000
/-- DSP_LATE_CNT (R321). -/
abbrev R.DSP_LATE_CNT (i : Nat) : Nat := 0x1001848 + i * 0x10000
/-- DSP_SLOW_CNT (R321). -/
abbrev R.DSP_SLOW_CNT (i : Nat) : Nat := 0x1001850 + i * 0x10000
/-- DSP_REEXEC_CNT (R321). -/
abbrev R.DSP_REEXEC_CNT (i : Nat) : Nat := 0x1001858 + i * 0x10000
/-- DSP_DEADLINE_CNT (R321). -/
abbrev R.DSP_DEADLINE_CNT (i : Nat) : Nat := 0x1001860 + i * 0x10000
/-- DSP_FAULT_POLICY_CNT (R321). -/
abbrev R.DSP_FAULT_POLICY_CNT (i : Nat) : Nat := 0x1001868 + i * 0x10000
/-- DSP_LASTING_CNT (R321). -/
abbrev R.DSP_LASTING_CNT (i : Nat) : Nat := 0x1001870 + i * 0x10000
/-- DSP_CLASS_POLICY (R321). -/
abbrev R.DSP_CLASS_POLICY (i j : Nat) : Nat := 0x1001900 + i * 0x10000 + j * 0x8
abbrev F.DSP_CLASS_POLICY_ON_DEADLINE (i j : Nat) : Fld := ⟨(R.DSP_CLASS_POLICY i j), 0, 2⟩
abbrev F.DSP_CLASS_POLICY_ON_FAULT (i j : Nat) : Fld := ⟨(R.DSP_CLASS_POLICY i j), 2, 2⟩
abbrev F.DSP_CLASS_POLICY_GRACE (i j : Nat) : Fld := ⟨(R.DSP_CLASS_POLICY i j), 4, 4⟩
abbrev F.DSP_CLASS_POLICY_SLOW_REASON (i j : Nat) : Fld := ⟨(R.DSP_CLASS_POLICY i j), 8, 8⟩
/-- TMG_STATUS (R360). -/
abbrev R.TMG_STATUS : Nat := 0x1800000
abbrev F.TMG_STATUS_FREE_CELLS : Fld := ⟨R.TMG_STATUS, 0, 18⟩
abbrev F.TMG_STATUS_HELD_OPEN : Fld := ⟨R.TMG_STATUS, 32, 1⟩
/-- TMG_INT_STATUS (R360). -/
abbrev R.TMG_INT_STATUS : Nat := 0x1800008
abbrev F.TMG_INT_STATUS_CONFIG_PENDING_LATE : Fld := ⟨R.TMG_INT_STATUS, 0, 1⟩
abbrev F.TMG_INT_STATUS_GATE_STARTED : Fld := ⟨R.TMG_INT_STATUS, 1, 1⟩
abbrev F.TMG_INT_STATUS_GATES_SUSPENDED : Fld := ⟨R.TMG_INT_STATUS, 2, 1⟩
abbrev F.TMG_INT_STATUS_SAMPLE_SKIP : Fld := ⟨R.TMG_INT_STATUS, 3, 1⟩
abbrev F.TMG_INT_STATUS_SAT : Fld := ⟨R.TMG_INT_STATUS, 4, 1⟩
/-- TMG_INT_EN (R360). -/
abbrev R.TMG_INT_EN (i : Nat) : Nat := 0x1800010 + i * 0x8
abbrev F.TMG_INT_EN_CONFIG_PENDING_LATE (i : Nat) : Fld := ⟨(R.TMG_INT_EN i), 0, 1⟩
abbrev F.TMG_INT_EN_GATE_STARTED (i : Nat) : Fld := ⟨(R.TMG_INT_EN i), 1, 1⟩
abbrev F.TMG_INT_EN_GATES_SUSPENDED (i : Nat) : Fld := ⟨(R.TMG_INT_EN i), 2, 1⟩
abbrev F.TMG_INT_EN_SAMPLE_SKIP (i : Nat) : Fld := ⟨(R.TMG_INT_EN i), 3, 1⟩
abbrev F.TMG_INT_EN_SAT (i : Nat) : Fld := ⟨(R.TMG_INT_EN i), 4, 1⟩
/-- TMG_MISROUTE_CNT (R360). -/
abbrev R.TMG_MISROUTE_CNT : Nat := 0x1800080
/-- TMG_OVERSIZE_CNT (R360). -/
abbrev R.TMG_OVERSIZE_CNT : Nat := 0x1800088
/-- TMG_NO_CELL_CNT (R360). -/
abbrev R.TMG_NO_CELL_CNT : Nat := 0x1800090
/-- TMG_GEN_DISCARD_CNT (R360). -/
abbrev R.TMG_GEN_DISCARD_CNT : Nat := 0x1800098
/-- TMG_POLICE_RED_CNT (R360). -/
abbrev R.TMG_POLICE_RED_CNT : Nat := 0x18000a0
/-- TMG_TBL_REFUSED_CNT (R360). -/
abbrev R.TMG_TBL_REFUSED_CNT : Nat := 0x18000a8
/-- TMG_TBL_CTRL (R360). -/
abbrev R.TMG_TBL_CTRL (i : Nat) : Nat := 0x1800200 + i * 0x40
abbrev F.TMG_TBL_CTRL_TABLE (i : Nat) : Fld := ⟨(R.TMG_TBL_CTRL i), 0, 4⟩
abbrev F.TMG_TBL_CTRL_INDEX (i : Nat) : Fld := ⟨(R.TMG_TBL_CTRL i), 4, 18⟩
abbrev F.TMG_TBL_CTRL_WRITE (i : Nat) : Fld := ⟨(R.TMG_TBL_CTRL i), 24, 1⟩
abbrev F.TMG_TBL_CTRL_GO (i : Nat) : Fld := ⟨(R.TMG_TBL_CTRL i), 25, 1⟩
abbrev F.TMG_TBL_CTRL_BUSY (i : Nat) : Fld := ⟨(R.TMG_TBL_CTRL i), 26, 1⟩
abbrev F.TMG_TBL_CTRL_ERR (i : Nat) : Fld := ⟨(R.TMG_TBL_CTRL i), 27, 1⟩
abbrev F.TMG_TBL_CTRL_ERR_CODE (i : Nat) : Fld := ⟨(R.TMG_TBL_CTRL i), 28, 8⟩
/-- TMG_TBL_DATA (R360). -/
abbrev R.TMG_TBL_DATA (i j : Nat) : Nat := 0x1800208 + i * 0x40 + j * 0x8
/-- TMG_GATE_STATUS (R360). -/
abbrev R.TMG_GATE_STATUS (i : Nat) : Nat := 0x1800400 + i * 0x40
abbrev F.TMG_GATE_STATUS_OPER_VALID (i : Nat) : Fld := ⟨(R.TMG_GATE_STATUS i), 0, 1⟩
abbrev F.TMG_GATE_STATUS_WAITING (i : Nat) : Fld := ⟨(R.TMG_GATE_STATUS i), 1, 1⟩
abbrev F.TMG_GATE_STATUS_COPYING (i : Nat) : Fld := ⟨(R.TMG_GATE_STATUS i), 2, 1⟩
abbrev F.TMG_GATE_STATUS_SUSPENDED (i : Nat) : Fld := ⟨(R.TMG_GATE_STATUS i), 3, 1⟩
abbrev F.TMG_GATE_STATUS_LATE (i : Nat) : Fld := ⟨(R.TMG_GATE_STATUS i), 4, 1⟩
abbrev F.TMG_GATE_STATUS_STATES (i : Nat) : Fld := ⟨(R.TMG_GATE_STATUS i), 8, 8⟩
abbrev F.TMG_GATE_STATUS_ENTRY (i : Nat) : Fld := ⟨(R.TMG_GATE_STATUS i), 16, 10⟩
abbrev F.TMG_GATE_STATUS_OPER_LEN (i : Nat) : Fld := ⟨(R.TMG_GATE_STATUS i), 32, 11⟩
abbrev F.TMG_GATE_STATUS_PEND_LEN (i : Nat) : Fld := ⟨(R.TMG_GATE_STATUS i), 48, 11⟩
/-- TMG_GATE_OPER_BASE (R360). -/
abbrev R.TMG_GATE_OPER_BASE (i : Nat) : Nat := 0x1800408 + i * 0x40
abbrev F.TMG_GATE_OPER_BASE_BASE_TIME (i : Nat) : Fld := ⟨(R.TMG_GATE_OPER_BASE i), 0, 64⟩
/-- TMG_GATE_OPER_CYCLE (R360). -/
abbrev R.TMG_GATE_OPER_CYCLE (i : Nat) : Nat := 0x1800410 + i * 0x40
abbrev F.TMG_GATE_OPER_CYCLE_CYCLE_TIME (i : Nat) : Fld := ⟨(R.TMG_GATE_OPER_CYCLE i), 0, 32⟩
/-- TMG_GATE_ACTUAL_START (R360). -/
abbrev R.TMG_GATE_ACTUAL_START (i : Nat) : Nat := 0x1800418 + i * 0x40
abbrev F.TMG_GATE_ACTUAL_START_ACTUAL_START (i : Nat) : Fld := ⟨(R.TMG_GATE_ACTUAL_START i), 0, 64⟩
/-- TMG_GATE_PEND_BASE (R360). -/
abbrev R.TMG_GATE_PEND_BASE (i : Nat) : Nat := 0x1800420 + i * 0x40
abbrev F.TMG_GATE_PEND_BASE_BASE_TIME (i : Nat) : Fld := ⟨(R.TMG_GATE_PEND_BASE i), 0, 64⟩
/-- TMG_GATE_PEND_CYCLE (R360). -/
abbrev R.TMG_GATE_PEND_CYCLE (i : Nat) : Nat := 0x1800428 + i * 0x40
abbrev F.TMG_GATE_PEND_CYCLE_CYCLE_TIME (i : Nat) : Fld := ⟨(R.TMG_GATE_PEND_CYCLE i), 0, 32⟩
/-- TMG_GATE_OPER_START (R360). -/
abbrev R.TMG_GATE_OPER_START (i : Nat) : Nat := 0x1800430 + i * 0x40
abbrev F.TMG_GATE_OPER_START_START (i : Nat) : Fld := ⟨(R.TMG_GATE_OPER_START i), 0, 64⟩
/-- TMG_GATE_LATE_CNT (R360). -/
abbrev R.TMG_GATE_LATE_CNT (i : Nat) : Nat := 0x1800438 + i * 0x40
/-- TMG_SAMPLE_CFG (R360). -/
abbrev R.TMG_SAMPLE_CFG (i : Nat) : Nat := 0x1800800 + i * 0x20
abbrev F.TMG_SAMPLE_CFG_ENABLE (i : Nat) : Fld := ⟨(R.TMG_SAMPLE_CFG i), 0, 1⟩
abbrev F.TMG_SAMPLE_CFG_K (i : Nat) : Fld := ⟨(R.TMG_SAMPLE_CFG i), 1, 5⟩
abbrev F.TMG_SAMPLE_CFG_FIRST (i : Nat) : Fld := ⟨(R.TMG_SAMPLE_CFG i), 6, 16⟩
abbrev F.TMG_SAMPLE_CFG_COUNT_M1 (i : Nat) : Fld := ⟨(R.TMG_SAMPLE_CFG i), 22, 10⟩
abbrev F.TMG_SAMPLE_CFG_FUNC (i : Nat) : Fld := ⟨(R.TMG_SAMPLE_CFG i), 32, 12⟩
abbrev F.TMG_SAMPLE_CFG_RING_LOG2 (i : Nat) : Fld := ⟨(R.TMG_SAMPLE_CFG i), 48, 4⟩
/-- TMG_SAMPLE_RING (R360). -/
abbrev R.TMG_SAMPLE_RING (i : Nat) : Nat := 0x1800808 + i * 0x20
abbrev F.TMG_SAMPLE_RING_ADDR (i : Nat) : Fld := ⟨(R.TMG_SAMPLE_RING i), 0, 64⟩
/-- TMG_SAMPLE_STATUS (R360). -/
abbrev R.TMG_SAMPLE_STATUS (i : Nat) : Nat := 0x1800810 + i * 0x20
abbrev F.TMG_SAMPLE_STATUS_ACTIVE (i : Nat) : Fld := ⟨(R.TMG_SAMPLE_STATUS i), 0, 1⟩
abbrev F.TMG_SAMPLE_STATUS_CFG_ERR (i : Nat) : Fld := ⟨(R.TMG_SAMPLE_STATUS i), 1, 1⟩
abbrev F.TMG_SAMPLE_STATUS_CHANNEL (i : Nat) : Fld := ⟨(R.TMG_SAMPLE_STATUS i), 2, 9⟩
abbrev F.TMG_SAMPLE_STATUS_ROUND (i : Nat) : Fld := ⟨(R.TMG_SAMPLE_STATUS i), 32, 32⟩
/-- TMG_SAMPLE_SKIP_CNT (R360). -/
abbrev R.TMG_SAMPLE_SKIP_CNT (i : Nat) : Nat := 0x1800818 + i * 0x20
/-- CRY_STATUS (R392). -/
abbrev R.CRY_STATUS : Nat := 0x1c00000
abbrev F.CRY_STATUS_GCM_LANES : Fld := ⟨R.CRY_STATUS, 0, 4⟩
abbrev F.CRY_STATUS_XTS_LANES : Fld := ⟨R.CRY_STATUS, 4, 3⟩
/-- CRY_INT_STATUS (R392). -/
abbrev R.CRY_INT_STATUS : Nat := 0x1c00008
abbrev F.CRY_INT_STATUS_SA_SOFT : Fld := ⟨R.CRY_INT_STATUS, 0, 1⟩
abbrev F.CRY_INT_STATUS_SA_EXHAUSTED : Fld := ⟨R.CRY_INT_STATUS, 1, 1⟩
abbrev F.CRY_INT_STATUS_TLS_RESYNC : Fld := ⟨R.CRY_INT_STATUS, 2, 1⟩
abbrev F.CRY_INT_STATUS_LANE_RETIRED : Fld := ⟨R.CRY_INT_STATUS, 3, 1⟩
abbrev F.CRY_INT_STATUS_SAT : Fld := ⟨R.CRY_INT_STATUS, 4, 1⟩
/-- CRY_INT_EN (R392). -/
abbrev R.CRY_INT_EN (i : Nat) : Nat := 0x1c00010 + i * 0x8
abbrev F.CRY_INT_EN_SA_SOFT (i : Nat) : Fld := ⟨(R.CRY_INT_EN i), 0, 1⟩
abbrev F.CRY_INT_EN_SA_EXHAUSTED (i : Nat) : Fld := ⟨(R.CRY_INT_EN i), 1, 1⟩
abbrev F.CRY_INT_EN_TLS_RESYNC (i : Nat) : Fld := ⟨(R.CRY_INT_EN i), 2, 1⟩
abbrev F.CRY_INT_EN_LANE_RETIRED (i : Nat) : Fld := ⟨(R.CRY_INT_EN i), 3, 1⟩
abbrev F.CRY_INT_EN_SAT (i : Nat) : Fld := ⟨(R.CRY_INT_EN i), 4, 1⟩
/-- CRY_MALFORMED_CNT (R392). -/
abbrev R.CRY_MALFORMED_CNT : Nat := 0x1c00080
/-- CRY_AUTH_FAIL_CNT (R392). -/
abbrev R.CRY_AUTH_FAIL_CNT : Nat := 0x1c00088
/-- CRY_REPLAY_CNT (R392). -/
abbrev R.CRY_REPLAY_CNT : Nat := 0x1c00090
/-- CRY_POLICY_CNT (R392). -/
abbrev R.CRY_POLICY_CNT : Nat := 0x1c00098
/-- CRY_NO_SESSION_CNT (R392). -/
abbrev R.CRY_NO_SESSION_CNT : Nat := 0x1c000a0
/-- CRY_OWNER_CNT (R392). -/
abbrev R.CRY_OWNER_CNT : Nat := 0x1c000a8
/-- CRY_KIND_CNT (R392). -/
abbrev R.CRY_KIND_CNT : Nat := 0x1c000b0
/-- CRY_EXHAUSTED_CNT (R392). -/
abbrev R.CRY_EXHAUSTED_CNT : Nat := 0x1c000b8
/-- CRY_UNTAGGED_CNT (R392). -/
abbrev R.CRY_UNTAGGED_CNT : Nat := 0x1c000c0
/-- CRY_IN_PKT_CNT (R392). -/
abbrev R.CRY_IN_PKT_CNT : Nat := 0x1c00100
/-- CRY_OUT_PKT_CNT (R392). -/
abbrev R.CRY_OUT_PKT_CNT : Nat := 0x1c00108
/-- CRY_TLS_NODEC_CNT (R392). -/
abbrev R.CRY_TLS_NODEC_CNT : Nat := 0x1c00110
/-- CRY_EXH_LOG (R392). -/
abbrev R.CRY_EXH_LOG : Nat := 0x1c00180
abbrev F.CRY_EXH_LOG_SESSION : Fld := ⟨R.CRY_EXH_LOG, 0, 22⟩
abbrev F.CRY_EXH_LOG_KIND : Fld := ⟨R.CRY_EXH_LOG, 22, 3⟩
/-- CRY_SESS_CTRL (R392). -/
abbrev R.CRY_SESS_CTRL (i : Nat) : Nat := 0x1c00200 + i * 0x40
abbrev F.CRY_SESS_CTRL_INDEX (i : Nat) : Fld := ⟨(R.CRY_SESS_CTRL i), 0, 22⟩
abbrev F.CRY_SESS_CTRL_PART (i : Nat) : Fld := ⟨(R.CRY_SESS_CTRL i), 22, 2⟩
abbrev F.CRY_SESS_CTRL_GO (i : Nat) : Fld := ⟨(R.CRY_SESS_CTRL i), 24, 1⟩
abbrev F.CRY_SESS_CTRL_BUSY (i : Nat) : Fld := ⟨(R.CRY_SESS_CTRL i), 25, 1⟩
abbrev F.CRY_SESS_CTRL_ERR (i : Nat) : Fld := ⟨(R.CRY_SESS_CTRL i), 26, 1⟩
/-- CRY_SESS_DATA (R392). -/
abbrev R.CRY_SESS_DATA (i j : Nat) : Nat := 0x1c00208 + i * 0x40 + j * 0x8
/-- CRY_LANE_STATUS (R392). -/
abbrev R.CRY_LANE_STATUS (i : Nat) : Nat := 0x1c00400 + i * 0x8
abbrev F.CRY_LANE_STATUS_STATE (i : Nat) : Fld := ⟨(R.CRY_LANE_STATUS i), 0, 2⟩
abbrev F.CRY_LANE_STATUS_TRANSIENT (i : Nat) : Fld := ⟨(R.CRY_LANE_STATUS i), 16, 32⟩
abbrev F.CRY_LANE_STATUS_SAT (i : Nat) : Fld := ⟨(R.CRY_LANE_STATUS i), 48, 1⟩
/-- CRY_FIXUP_CFG (R392). -/
abbrev R.CRY_FIXUP_CFG (i : Nat) : Nat := 0x1c00800 + i * 0x8
abbrev F.CRY_FIXUP_CFG_IP_LEN (i : Nat) : Fld := ⟨(R.CRY_FIXUP_CFG i), 0, 1⟩
abbrev F.CRY_FIXUP_CFG_IP4_CSUM (i : Nat) : Fld := ⟨(R.CRY_FIXUP_CFG i), 1, 1⟩
abbrev F.CRY_FIXUP_CFG_UDP_LEN (i : Nat) : Fld := ⟨(R.CRY_FIXUP_CFG i), 2, 1⟩
abbrev F.CRY_FIXUP_CFG_UDP_CSUM (i : Nat) : Fld := ⟨(R.CRY_FIXUP_CFG i), 3, 2⟩
abbrev F.CRY_FIXUP_CFG_ENTROPY (i : Nat) : Fld := ⟨(R.CRY_FIXUP_CFG i), 5, 1⟩
abbrev F.CRY_FIXUP_CFG_SPORT_MIN (i : Nat) : Fld := ⟨(R.CRY_FIXUP_CFG i), 16, 16⟩
abbrev F.CRY_FIXUP_CFG_SPORT_MAX (i : Nat) : Fld := ⟨(R.CRY_FIXUP_CFG i), 32, 16⟩
/-- CRY_SECY_CFG (R392). -/
abbrev R.CRY_SECY_CFG (i : Nat) : Nat := 0x1c01000 + i * 0x40
abbrev F.CRY_SECY_CFG_ENABLE (i : Nat) : Fld := ⟨(R.CRY_SECY_CFG i), 0, 1⟩
abbrev F.CRY_SECY_CFG_SUITE (i : Nat) : Fld := ⟨(R.CRY_SECY_CFG i), 1, 2⟩
abbrev F.CRY_SECY_CFG_PROTECT (i : Nat) : Fld := ⟨(R.CRY_SECY_CFG i), 3, 1⟩
abbrev F.CRY_SECY_CFG_CONFIDENTIAL (i : Nat) : Fld := ⟨(R.CRY_SECY_CFG i), 4, 1⟩
abbrev F.CRY_SECY_CFG_VALIDATE (i : Nat) : Fld := ⟨(R.CRY_SECY_CFG i), 5, 2⟩
abbrev F.CRY_SECY_CFG_REPLAY_PROTECT (i : Nat) : Fld := ⟨(R.CRY_SECY_CFG i), 7, 1⟩
abbrev F.CRY_SECY_CFG_BYPASS_PTP (i : Nat) : Fld := ⟨(R.CRY_SECY_CFG i), 8, 1⟩
abbrev F.CRY_SECY_CFG_TX_AN (i : Nat) : Fld := ⟨(R.CRY_SECY_CFG i), 9, 2⟩
abbrev F.CRY_SECY_CFG_REPLAY_WINDOW (i : Nat) : Fld := ⟨(R.CRY_SECY_CFG i), 32, 32⟩
/-- CRY_SECY_TXSCI (R392). -/
abbrev R.CRY_SECY_TXSCI (i : Nat) : Nat := 0x1c01008 + i * 0x40
abbrev F.CRY_SECY_TXSCI_SCI (i : Nat) : Fld := ⟨(R.CRY_SECY_TXSCI i), 0, 64⟩
/-- CRY_SECY_TXSA (R392). -/
abbrev R.CRY_SECY_TXSA (i j : Nat) : Nat := 0x1c01010 + i * 0x40 + j * 0x8
abbrev F.CRY_SECY_TXSA_SESSION (i j : Nat) : Fld := ⟨(R.CRY_SECY_TXSA i j), 0, 22⟩
abbrev F.CRY_SECY_TXSA_IN_USE (i j : Nat) : Fld := ⟨(R.CRY_SECY_TXSA i j), 22, 1⟩
/-- CRY_SECY_RXSC (R392). -/
abbrev R.CRY_SECY_RXSC (i : Nat) : Nat := 0x1c02000 + i * 0x30
abbrev F.CRY_SECY_RXSC_SCI (i : Nat) : Fld := ⟨(R.CRY_SECY_RXSC i), 0, 64⟩
/-- CRY_SECY_RXSA (R392). -/
abbrev R.CRY_SECY_RXSA (i j : Nat) : Nat := 0x1c02008 + i * 0x30 + j * 0x8
abbrev F.CRY_SECY_RXSA_SESSION (i j : Nat) : Fld := ⟨(R.CRY_SECY_RXSA i j), 0, 22⟩
abbrev F.CRY_SECY_RXSA_IN_USE (i j : Nat) : Fld := ⟨(R.CRY_SECY_RXSA i j), 22, 1⟩
/-- STO_STATUS (R429). -/
abbrev R.STO_STATUS : Nat := 0x1e00000
abbrev F.STO_STATUS_PATHS_UP : Fld := ⟨R.STO_STATUS, 0, 12⟩
/-- STO_INT_STATUS (R429). -/
abbrev R.STO_INT_STATUS : Nat := 0x1e00008
abbrev F.STO_INT_STATUS_PATH_DOWN : Fld := ⟨R.STO_INT_STATUS, 0, 1⟩
abbrev F.STO_INT_STATUS_SAT : Fld := ⟨R.STO_INT_STATUS, 1, 1⟩
/-- STO_INT_EN (R429). -/
abbrev R.STO_INT_EN (i : Nat) : Nat := 0x1e00010 + i * 0x8
abbrev F.STO_INT_EN_PATH_DOWN (i : Nat) : Fld := ⟨(R.STO_INT_EN i), 0, 1⟩
abbrev F.STO_INT_EN_SAT (i : Nat) : Fld := ⟨(R.STO_INT_EN i), 1, 1⟩
/-- STO_TCP_TERM_CNT (R429). -/
abbrev R.STO_TCP_TERM_CNT : Nat := 0x1e00080
/-- STO_TCP_DDGST_CNT (R429). -/
abbrev R.STO_TCP_DDGST_CNT : Nat := 0x1e00088
/-- STO_ICRC_CNT (R429). -/
abbrev R.STO_ICRC_CNT : Nat := 0x1e00090
/-- STO_ROCE_NAK_CNT (R429). -/
abbrev R.STO_ROCE_NAK_CNT : Nat := 0x1e00098
/-- STO_PI_ERR_CNT (R429). -/
abbrev R.STO_PI_ERR_CNT : Nat := 0x1e000a0
/-- STO_ORPHAN_CNT (R429). -/
abbrev R.STO_ORPHAN_CNT : Nat := 0x1e000a8
/-- STO_NO_CTX_CNT (R429). -/
abbrev R.STO_NO_CTX_CNT : Nat := 0x1e000b0
/-- STO_TENANT_ERR_CNT (R429). -/
abbrev R.STO_TENANT_ERR_CNT : Nat := 0x1e000b8
/-- STO_TIMEOUT_CNT (R429). -/
abbrev R.STO_TIMEOUT_CNT : Nat := 0x1e000c0
/-- STO_CMD_CNT (R429). -/
abbrev R.STO_CMD_CNT : Nat := 0x1e00100
/-- STO_REISSUE_CNT (R429). -/
abbrev R.STO_REISSUE_CNT : Nat := 0x1e00108
/-- STO_CNP_TX_CNT (R429). -/
abbrev R.STO_CNP_TX_CNT : Nat := 0x1e00110
/-- STO_CNP_RX_CNT (R429). -/
abbrev R.STO_CNP_RX_CNT : Nat := 0x1e00118
/-- STO_CTX_CTRL (R429). -/
abbrev R.STO_CTX_CTRL (i : Nat) : Nat := 0x1e00200 + i * 0x40
abbrev F.STO_CTX_CTRL_TABLE (i : Nat) : Fld := ⟨(R.STO_CTX_CTRL i), 0, 2⟩
abbrev F.STO_CTX_CTRL_INDEX (i : Nat) : Fld := ⟨(R.STO_CTX_CTRL i), 2, 22⟩
abbrev F.STO_CTX_CTRL_PART (i : Nat) : Fld := ⟨(R.STO_CTX_CTRL i), 24, 1⟩
abbrev F.STO_CTX_CTRL_GO (i : Nat) : Fld := ⟨(R.STO_CTX_CTRL i), 25, 1⟩
abbrev F.STO_CTX_CTRL_BUSY (i : Nat) : Fld := ⟨(R.STO_CTX_CTRL i), 26, 1⟩
abbrev F.STO_CTX_CTRL_ERR (i : Nat) : Fld := ⟨(R.STO_CTX_CTRL i), 27, 1⟩
/-- STO_CTX_DATA (R429). -/
abbrev R.STO_CTX_DATA (i j : Nat) : Nat := 0x1e00208 + i * 0x40 + j * 0x8
/-- STO_TCP_CFG (R429). -/
abbrev R.STO_TCP_CFG : Nat := 0x1e00400
abbrev F.STO_TCP_CFG_RTO_MIN : Fld := ⟨R.STO_TCP_CFG, 0, 16⟩
abbrev F.STO_TCP_CFG_RTO_MAX : Fld := ⟨R.STO_TCP_CFG, 16, 16⟩
abbrev F.STO_TCP_CFG_RETRIES : Fld := ⟨R.STO_TCP_CFG, 32, 4⟩
/-- STO_RC_CFG (R429). -/
abbrev R.STO_RC_CFG : Nat := 0x1e00408
abbrev F.STO_RC_CFG_CNP_DRIPS : Fld := ⟨R.STO_RC_CFG, 0, 8⟩
abbrev F.STO_RC_CFG_CUT_DRIPS : Fld := ⟨R.STO_RC_CFG, 8, 8⟩
abbrev F.STO_RC_CFG_INC_DRIPS : Fld := ⟨R.STO_RC_CFG, 16, 16⟩
abbrev F.STO_RC_CFG_AI_RATE : Fld := ⟨R.STO_RC_CFG, 32, 16⟩
abbrev F.STO_RC_CFG_MIN_RATE : Fld := ⟨R.STO_RC_CFG, 48, 16⟩
/-- ROPE_STATUS (R557). -/
abbrev R.ROPE_STATUS : Nat := 0x2000000
abbrev F.ROPE_STATUS_IN_SERVICE : Fld := ⟨R.ROPE_STATUS, 0, 10⟩
abbrev F.ROPE_STATUS_ENGINES : Fld := ⟨R.ROPE_STATUS, 12, 4⟩
/-- ROPE_INT_STATUS (R557). -/
abbrev R.ROPE_INT_STATUS : Nat := 0x2000008
abbrev F.ROPE_INT_STATUS_CHAN_RETIRED : Fld := ⟨R.ROPE_INT_STATUS, 0, 1⟩
abbrev F.ROPE_INT_STATUS_SPARES_OUT : Fld := ⟨R.ROPE_INT_STATUS, 1, 1⟩
abbrev F.ROPE_INT_STATUS_ABNORMAL_END : Fld := ⟨R.ROPE_INT_STATUS, 2, 1⟩
abbrev F.ROPE_INT_STATUS_SAT : Fld := ⟨R.ROPE_INT_STATUS, 3, 1⟩
/-- ROPE_INT_EN (R557). -/
abbrev R.ROPE_INT_EN (i : Nat) : Nat := 0x2000010 + i * 0x8
abbrev F.ROPE_INT_EN_CHAN_RETIRED (i : Nat) : Fld := ⟨(R.ROPE_INT_EN i), 0, 1⟩
abbrev F.ROPE_INT_EN_SPARES_OUT (i : Nat) : Fld := ⟨(R.ROPE_INT_EN i), 1, 1⟩
abbrev F.ROPE_INT_EN_ABNORMAL_END (i : Nat) : Fld := ⟨(R.ROPE_INT_EN i), 2, 1⟩
abbrev F.ROPE_INT_EN_SAT (i : Nat) : Fld := ⟨(R.ROPE_INT_EN i), 3, 1⟩
/-- ROPE_ABNORMAL_CNT (R557). -/
abbrev R.ROPE_ABNORMAL_CNT : Nat := 0x2000080
/-- ROPE_WAIT_TO_CNT (R557). -/
abbrev R.ROPE_WAIT_TO_CNT : Nat := 0x2000088
/-- ROPE_BYTES_CNT (R557). -/
abbrev R.ROPE_BYTES_CNT : Nat := 0x20000c0
/-- ROPE_PROG_CNT (R557). -/
abbrev R.ROPE_PROG_CNT : Nat := 0x20000c8
/-- ROPE_ENG_STATUS (R557). -/
abbrev R.ROPE_ENG_STATUS (i : Nat) : Nat := 0x2001000 + i * 0x1000
abbrev F.ROPE_ENG_STATUS_READS (i : Nat) : Fld := ⟨(R.ROPE_ENG_STATUS i), 0, 10⟩
abbrev F.ROPE_ENG_STATUS_FREE_CELLS (i : Nat) : Fld := ⟨(R.ROPE_ENG_STATUS i), 16, 14⟩
abbrev F.ROPE_ENG_STATUS_SPARES (i : Nat) : Fld := ⟨(R.ROPE_ENG_STATUS i), 32, 6⟩
/-- ROPE_CHAN_CFG (R557). -/
abbrev R.ROPE_CHAN_CFG (i : Nat) : Nat := 0x2010000 + i * 0x40
abbrev F.ROPE_CHAN_CFG_FUNC (i : Nat) : Fld := ⟨(R.ROPE_CHAN_CFG i), 0, 12⟩
abbrev F.ROPE_CHAN_CFG_PEER (i : Nat) : Fld := ⟨(R.ROPE_CHAN_CFG i), 12, 1⟩
abbrev F.ROPE_CHAN_CFG_SPACES (i : Nat) : Fld := ⟨(R.ROPE_CHAN_CFG i), 16, 6⟩
abbrev F.ROPE_CHAN_CFG_PRIO (i : Nat) : Fld := ⟨(R.ROPE_CHAN_CFG i), 22, 2⟩
abbrev F.ROPE_CHAN_CFG_ERR_TARGET (i : Nat) : Fld := ⟨(R.ROPE_CHAN_CFG i), 32, 32⟩
/-- ROPE_CHAN_STATUS (R557). -/
abbrev R.ROPE_CHAN_STATUS (i : Nat) : Nat := 0x2010008 + i * 0x40
abbrev F.ROPE_CHAN_STATUS_STATE (i : Nat) : Fld := ⟨(R.ROPE_CHAN_STATUS i), 0, 3⟩
abbrev F.ROPE_CHAN_STATUS_PC (i : Nat) : Fld := ⟨(R.ROPE_CHAN_STATUS i), 4, 12⟩
abbrev F.ROPE_CHAN_STATUS_LAST (i : Nat) : Fld := ⟨(R.ROPE_CHAN_STATUS i), 16, 4⟩
abbrev F.ROPE_CHAN_STATUS_QUEUED (i : Nat) : Fld := ⟨(R.ROPE_CHAN_STATUS i), 24, 7⟩
abbrev F.ROPE_CHAN_STATUS_GEN (i : Nat) : Fld := ⟨(R.ROPE_CHAN_STATUS i), 32, 12⟩
abbrev F.ROPE_CHAN_STATUS_TAKEN_BY (i : Nat) : Fld := ⟨(R.ROPE_CHAN_STATUS i), 48, 10⟩
/-- ROPE_CHAN_EVENTS (R557). -/
abbrev R.ROPE_CHAN_EVENTS (i : Nat) : Nat := 0x2010010 + i * 0x40
abbrev F.ROPE_CHAN_EVENTS_EVENTS (i : Nat) : Fld := ⟨(R.ROPE_CHAN_EVENTS i), 0, 8⟩
/-- ROPE_CHAN_ERR (R557). -/
abbrev R.ROPE_CHAN_ERR (i : Nat) : Nat := 0x2010018 + i * 0x40
abbrev F.ROPE_CHAN_ERR_TRANSIENT (i : Nat) : Fld := ⟨(R.ROPE_CHAN_ERR i), 0, 32⟩
abbrev F.ROPE_CHAN_ERR_SAT (i : Nat) : Fld := ⟨(R.ROPE_CHAN_ERR i), 32, 1⟩
/-- MBX_DOORBELL (R558). -/
abbrev R.MBX_DOORBELL (i : Nat) : Nat := 0x2100000 + i * 0x1000
abbrev F.MBX_DOORBELL_FULL (i : Nat) : Fld := ⟨(R.MBX_DOORBELL i), 0, 32⟩
/-- MBX_MASK (R558). -/
abbrev R.MBX_MASK (i : Nat) : Nat := 0x2100008 + i * 0x1000
abbrev F.MBX_MASK_MASK (i : Nat) : Fld := ⟨(R.MBX_MASK i), 0, 32⟩
/-- MBX_EMPTY (R558). -/
abbrev R.MBX_EMPTY (i : Nat) : Nat := 0x2100010 + i * 0x1000
abbrev F.MBX_EMPTY_EMPTY (i : Nat) : Fld := ⟨(R.MBX_EMPTY i), 0, 32⟩
/-- MBX_EMPTY_MASK (R558). -/
abbrev R.MBX_EMPTY_MASK (i : Nat) : Nat := 0x2100018 + i * 0x1000
abbrev F.MBX_EMPTY_MASK_EMASK (i : Nat) : Fld := ⟨(R.MBX_EMPTY_MASK i), 0, 32⟩
/-- MBX_CFG (R558). -/
abbrev R.MBX_CFG (i : Nat) : Nat := 0x2100020 + i * 0x1000
abbrev F.MBX_CFG_RX_KIND (i : Nat) : Fld := ⟨(R.MBX_CFG i), 0, 2⟩
abbrev F.MBX_CFG_RX_INDEX (i : Nat) : Fld := ⟨(R.MBX_CFG i), 4, 4⟩
/-- MBX_CHAN (R558). -/
abbrev R.MBX_CHAN (i j : Nat) : Nat := 0x2100100 + i * 0x1000 + j * 0x10
abbrev F.MBX_CHAN_FULL (i j : Nat) : Fld := ⟨(R.MBX_CHAN i j), 0, 1⟩
abbrev F.MBX_CHAN_SECURE (i j : Nat) : Fld := ⟨(R.MBX_CHAN i j), 1, 1⟩
abbrev F.MBX_CHAN_SENDER_KIND (i j : Nat) : Fld := ⟨(R.MBX_CHAN i j), 2, 2⟩
abbrev F.MBX_CHAN_SENDER_INDEX (i j : Nat) : Fld := ⟨(R.MBX_CHAN i j), 4, 4⟩
abbrev F.MBX_CHAN_SENDER_GEN (i j : Nat) : Fld := ⟨(R.MBX_CHAN i j), 8, 12⟩
abbrev F.MBX_CHAN_GEN_STALE (i j : Nat) : Fld := ⟨(R.MBX_CHAN i j), 20, 1⟩
abbrev F.MBX_CHAN_EMPTY_CAUSE (i j : Nat) : Fld := ⟨(R.MBX_CHAN i j), 22, 2⟩
/-- MBX_SLOT (R558). -/
abbrev R.MBX_SLOT (i j k : Nat) : Nat := 0x2100800 + i * 0x1000 + j * 0x40 + k * 0x8
abbrev F.MBX_SLOT_DATA (i j k : Nat) : Fld := ⟨(R.MBX_SLOT i j k), 0, 64⟩
/-- MBX_HOST_VEC (R558). -/
abbrev R.MBX_HOST_VEC (i : Nat) : Nat := 0x2110000 + i * 0x8
abbrev F.MBX_HOST_VEC_RX_VEC (i : Nat) : Fld := ⟨(R.MBX_HOST_VEC i), 0, 11⟩
abbrev F.MBX_HOST_VEC_EMPTY_VEC (i : Nat) : Fld := ⟨(R.MBX_HOST_VEC i), 16, 11⟩
/-- MBX_BUSY_CNT (R558). -/
abbrev R.MBX_BUSY_CNT : Nat := 0x2110040
/-- MBX_DENIED_CNT (R558). -/
abbrev R.MBX_DENIED_CNT : Nat := 0x2110048
/-- MBX_INT_STATUS (R558). -/
abbrev R.MBX_INT_STATUS : Nat := 0x2110050
abbrev F.MBX_INT_STATUS_SAT : Fld := ⟨R.MBX_INT_STATUS, 0, 1⟩
/-- MBX_INT_EN (R558). -/
abbrev R.MBX_INT_EN (i : Nat) : Nat := 0x2110058 + i * 0x8
abbrev F.MBX_INT_EN_SAT (i : Nat) : Fld := ⟨(R.MBX_INT_EN i), 0, 1⟩
/-- PRT_STATUS (R594). -/
abbrev R.PRT_STATUS : Nat := 0x2200000
abbrev F.PRT_STATUS_CONFIGURED : Fld := ⟨R.PRT_STATUS, 0, 8⟩
abbrev F.PRT_STATUS_UP : Fld := ⟨R.PRT_STATUS, 8, 8⟩
/-- PRT_INT_STATUS (R594). -/
abbrev R.PRT_INT_STATUS : Nat := 0x2200008
abbrev F.PRT_INT_STATUS_LINK_CHANGE : Fld := ⟨R.PRT_INT_STATUS, 0, 8⟩
abbrev F.PRT_INT_STATUS_MOD_CHANGE : Fld := ⟨R.PRT_INT_STATUS, 8, 1⟩
abbrev F.PRT_INT_STATUS_PREEMPT_VERIFY : Fld := ⟨R.PRT_INT_STATUS, 9, 1⟩
abbrev F.PRT_INT_STATUS_LANE_CFG_ERR : Fld := ⟨R.PRT_INT_STATUS, 10, 1⟩
abbrev F.PRT_INT_STATUS_SAT : Fld := ⟨R.PRT_INT_STATUS, 11, 1⟩
/-- PRT_INT_EN (R594). -/
abbrev R.PRT_INT_EN (i : Nat) : Nat := 0x2200010 + i * 0x8
abbrev F.PRT_INT_EN_LINK_CHANGE (i : Nat) : Fld := ⟨(R.PRT_INT_EN i), 0, 8⟩
abbrev F.PRT_INT_EN_MOD_CHANGE (i : Nat) : Fld := ⟨(R.PRT_INT_EN i), 8, 1⟩
abbrev F.PRT_INT_EN_PREEMPT_VERIFY (i : Nat) : Fld := ⟨(R.PRT_INT_EN i), 9, 1⟩
abbrev F.PRT_INT_EN_LANE_CFG_ERR (i : Nat) : Fld := ⟨(R.PRT_INT_EN i), 10, 1⟩
abbrev F.PRT_INT_EN_SAT (i : Nat) : Fld := ⟨(R.PRT_INT_EN i), 11, 1⟩
/-- PRT_LANE_CFG (R594). -/
abbrev R.PRT_LANE_CFG : Nat := 0x2200040
abbrev F.PRT_LANE_CFG_Q0_MODE : Fld := ⟨R.PRT_LANE_CFG, 0, 2⟩
abbrev F.PRT_LANE_CFG_Q1_MODE : Fld := ⟨R.PRT_LANE_CFG, 2, 2⟩
abbrev F.PRT_LANE_CFG_PAIR_MODE : Fld := ⟨R.PRT_LANE_CFG, 8, 4⟩
abbrev F.PRT_LANE_CFG_LANE_SPEED : Fld := ⟨R.PRT_LANE_CFG, 16, 24⟩
/-- PRT_CAGE_CFG (R594). -/
abbrev R.PRT_CAGE_CFG : Nat := 0x2200048
abbrev F.PRT_CAGE_CFG_CAGE0 : Fld := ⟨R.PRT_CAGE_CFG, 0, 8⟩
abbrev F.PRT_CAGE_CFG_CAGE1 : Fld := ⟨R.PRT_CAGE_CFG, 8, 8⟩
abbrev F.PRT_CAGE_CFG_CAGE2 : Fld := ⟨R.PRT_CAGE_CFG, 16, 8⟩
abbrev F.PRT_CAGE_CFG_CAGE3 : Fld := ⟨R.PRT_CAGE_CFG, 24, 8⟩
/-- PRT_MOD_CTRL (R594). -/
abbrev R.PRT_MOD_CTRL (i : Nat) : Nat := 0x2200080 + i * 0x10
abbrev F.PRT_MOD_CTRL_CAGE (i : Nat) : Fld := ⟨(R.PRT_MOD_CTRL i), 0, 2⟩
abbrev F.PRT_MOD_CTRL_PAGE (i : Nat) : Fld := ⟨(R.PRT_MOD_CTRL i), 2, 8⟩
abbrev F.PRT_MOD_CTRL_BANK (i : Nat) : Fld := ⟨(R.PRT_MOD_CTRL i), 10, 8⟩
abbrev F.PRT_MOD_CTRL_OFFSET (i : Nat) : Fld := ⟨(R.PRT_MOD_CTRL i), 18, 8⟩
abbrev F.PRT_MOD_CTRL_LEN_M1 (i : Nat) : Fld := ⟨(R.PRT_MOD_CTRL i), 26, 3⟩
abbrev F.PRT_MOD_CTRL_WRITE (i : Nat) : Fld := ⟨(R.PRT_MOD_CTRL i), 29, 1⟩
abbrev F.PRT_MOD_CTRL_GO (i : Nat) : Fld := ⟨(R.PRT_MOD_CTRL i), 30, 1⟩
abbrev F.PRT_MOD_CTRL_BUSY (i : Nat) : Fld := ⟨(R.PRT_MOD_CTRL i), 31, 1⟩
abbrev F.PRT_MOD_CTRL_ERR (i : Nat) : Fld := ⟨(R.PRT_MOD_CTRL i), 32, 1⟩
abbrev F.PRT_MOD_CTRL_ERR_CODE (i : Nat) : Fld := ⟨(R.PRT_MOD_CTRL i), 33, 3⟩
/-- PRT_MOD_DATA (R594). -/
abbrev R.PRT_MOD_DATA (i : Nat) : Nat := 0x2200088 + i * 0x10
abbrev F.PRT_MOD_DATA_DATA (i : Nat) : Fld := ⟨(R.PRT_MOD_DATA i), 0, 64⟩
/-- PRT_MOD_STATUS (R594). -/
abbrev R.PRT_MOD_STATUS (i : Nat) : Nat := 0x2200100 + i * 0x8
abbrev F.PRT_MOD_STATUS_PRESENT (i : Nat) : Fld := ⟨(R.PRT_MOD_STATUS i), 0, 1⟩
abbrev F.PRT_MOD_STATUS_MSTATE (i : Nat) : Fld := ⟨(R.PRT_MOD_STATUS i), 1, 3⟩
abbrev F.PRT_MOD_STATUS_APPSEL (i : Nat) : Fld := ⟨(R.PRT_MOD_STATUS i), 8, 8⟩
abbrev F.PRT_MOD_STATUS_CMIS_REV (i : Nat) : Fld := ⟨(R.PRT_MOD_STATUS i), 16, 8⟩
abbrev F.PRT_MOD_STATUS_TEMP (i : Nat) : Fld := ⟨(R.PRT_MOD_STATUS i), 32, 8⟩
/-- PRT_MGMT_STATUS (R594). -/
abbrev R.PRT_MGMT_STATUS : Nat := 0x2200200
abbrev F.PRT_MGMT_STATUS_UP : Fld := ⟨R.PRT_MGMT_STATUS, 0, 1⟩
abbrev F.PRT_MGMT_STATUS_SPEED : Fld := ⟨R.PRT_MGMT_STATUS, 1, 2⟩
abbrev F.PRT_MGMT_STATUS_MODE : Fld := ⟨R.PRT_MGMT_STATUS, 3, 1⟩
/-- PRT_NCSI_STATUS (R594). -/
abbrev R.PRT_NCSI_STATUS : Nat := 0x2200208
abbrev F.PRT_NCSI_STATUS_PACKAGE_ID : Fld := ⟨R.PRT_NCSI_STATUS, 0, 3⟩
abbrev F.PRT_NCSI_STATUS_SELECTED : Fld := ⟨R.PRT_NCSI_STATUS, 3, 1⟩
abbrev F.PRT_NCSI_STATUS_CH_ENABLED : Fld := ⟨R.PRT_NCSI_STATUS, 8, 8⟩
abbrev F.PRT_NCSI_STATUS_TX_ENABLED : Fld := ⟨R.PRT_NCSI_STATUS, 16, 8⟩
abbrev F.PRT_NCSI_STATUS_NCSI_TC : Fld := ⟨R.PRT_NCSI_STATUS, 24, 3⟩
/-- PRT_LINK_STATUS (R594). -/
abbrev R.PRT_LINK_STATUS (i : Nat) : Nat := 0x2201000 + i * 0x200
abbrev F.PRT_LINK_STATUS_UP (i : Nat) : Fld := ⟨(R.PRT_LINK_STATUS i), 0, 1⟩
abbrev F.PRT_LINK_STATUS_LOCAL_FAULT (i : Nat) : Fld := ⟨(R.PRT_LINK_STATUS i), 1, 1⟩
abbrev F.PRT_LINK_STATUS_REMOTE_FAULT (i : Nat) : Fld := ⟨(R.PRT_LINK_STATUS i), 2, 1⟩
abbrev F.PRT_LINK_STATUS_FEC (i : Nat) : Fld := ⟨(R.PRT_LINK_STATUS i), 4, 2⟩
abbrev F.PRT_LINK_STATUS_SPEED (i : Nat) : Fld := ⟨(R.PRT_LINK_STATUS i), 6, 3⟩
abbrev F.PRT_LINK_STATUS_AN_STATE (i : Nat) : Fld := ⟨(R.PRT_LINK_STATUS i), 9, 3⟩
/-- PRT_AN_CFG (R594). -/
abbrev R.PRT_AN_CFG (i : Nat) : Nat := 0x2201008 + i * 0x200
abbrev F.PRT_AN_CFG_AN_EN (i : Nat) : Fld := ⟨(R.PRT_AN_CFG i), 0, 1⟩
abbrev F.PRT_AN_CFG_TRAIN_EN (i : Nat) : Fld := ⟨(R.PRT_AN_CFG i), 1, 1⟩
abbrev F.PRT_AN_CFG_ADV (i : Nat) : Fld := ⟨(R.PRT_AN_CFG i), 4, 7⟩
abbrev F.PRT_AN_CFG_FEC_ABLE (i : Nat) : Fld := ⟨(R.PRT_AN_CFG i), 12, 2⟩
abbrev F.PRT_AN_CFG_FEC_REQ (i : Nat) : Fld := ⟨(R.PRT_AN_CFG i), 14, 2⟩
abbrev F.PRT_AN_CFG_FEC_FORCE (i : Nat) : Fld := ⟨(R.PRT_AN_CFG i), 16, 2⟩
abbrev F.PRT_AN_CFG_TRAIN_RETRIES (i : Nat) : Fld := ⟨(R.PRT_AN_CFG i), 20, 4⟩
abbrev F.PRT_AN_CFG_DOWN_HOLD (i : Nat) : Fld := ⟨(R.PRT_AN_CFG i), 24, 8⟩
/-- PRT_MAC_CFG (R594). -/
abbrev R.PRT_MAC_CFG (i : Nat) : Nat := 0x2201010 + i * 0x200
abbrev F.PRT_MAC_CFG_MAX_LEN (i : Nat) : Fld := ⟨(R.PRT_MAC_CFG i), 0, 15⟩
abbrev F.PRT_MAC_CFG_CUT_THROUGH (i : Nat) : Fld := ⟨(R.PRT_MAC_CFG i), 16, 1⟩
/-- PRT_PFC_CFG (R594). -/
abbrev R.PRT_PFC_CFG (i : Nat) : Nat := 0x2201018 + i * 0x200
abbrev F.PRT_PFC_CFG_PFC_RX (i : Nat) : Fld := ⟨(R.PRT_PFC_CFG i), 0, 8⟩
abbrev F.PRT_PFC_CFG_PFC_TX (i : Nat) : Fld := ⟨(R.PRT_PFC_CFG i), 8, 8⟩
abbrev F.PRT_PFC_CFG_DEFAULT_PRIO (i : Nat) : Fld := ⟨(R.PRT_PFC_CFG i), 16, 3⟩
abbrev F.PRT_PFC_CFG_PAUSE_TIME (i : Nat) : Fld := ⟨(R.PRT_PFC_CFG i), 32, 16⟩
abbrev F.PRT_PFC_CFG_REFRESH (i : Nat) : Fld := ⟨(R.PRT_PFC_CFG i), 48, 16⟩
/-- PRT_PFC_MAP (R594). -/
abbrev R.PRT_PFC_MAP (i : Nat) : Nat := 0x2201020 + i * 0x200
abbrev F.PRT_PFC_MAP_CLASSES0 (i : Nat) : Fld := ⟨(R.PRT_PFC_MAP i), 0, 8⟩
abbrev F.PRT_PFC_MAP_CLASSES1 (i : Nat) : Fld := ⟨(R.PRT_PFC_MAP i), 8, 8⟩
abbrev F.PRT_PFC_MAP_CLASSES2 (i : Nat) : Fld := ⟨(R.PRT_PFC_MAP i), 16, 8⟩
abbrev F.PRT_PFC_MAP_CLASSES3 (i : Nat) : Fld := ⟨(R.PRT_PFC_MAP i), 24, 8⟩
abbrev F.PRT_PFC_MAP_CLASSES4 (i : Nat) : Fld := ⟨(R.PRT_PFC_MAP i), 32, 8⟩
abbrev F.PRT_PFC_MAP_CLASSES5 (i : Nat) : Fld := ⟨(R.PRT_PFC_MAP i), 40, 8⟩
abbrev F.PRT_PFC_MAP_CLASSES6 (i : Nat) : Fld := ⟨(R.PRT_PFC_MAP i), 48, 8⟩
abbrev F.PRT_PFC_MAP_CLASSES7 (i : Nat) : Fld := ⟨(R.PRT_PFC_MAP i), 56, 8⟩
/-- PRT_PREEMPT_CFG (R594). -/
abbrev R.PRT_PREEMPT_CFG (i : Nat) : Nat := 0x2201028 + i * 0x200
abbrev F.PRT_PREEMPT_CFG_PREEMPT_EN (i : Nat) : Fld := ⟨(R.PRT_PREEMPT_CFG i), 0, 1⟩
abbrev F.PRT_PREEMPT_CFG_DISABLE_VERIFY (i : Nat) : Fld := ⟨(R.PRT_PREEMPT_CFG i), 1, 1⟩
abbrev F.PRT_PREEMPT_CFG_VERIFY_TIME (i : Nat) : Fld := ⟨(R.PRT_PREEMPT_CFG i), 2, 8⟩
abbrev F.PRT_PREEMPT_CFG_ADD_FRAG_SIZE (i : Nat) : Fld := ⟨(R.PRT_PREEMPT_CFG i), 10, 2⟩
/-- PRT_PREEMPT_STATUS (R594). -/
abbrev R.PRT_PREEMPT_STATUS (i : Nat) : Nat := 0x2201030 + i * 0x200
abbrev F.PRT_PREEMPT_STATUS_VERIFY (i : Nat) : Fld := ⟨(R.PRT_PREEMPT_STATUS i), 0, 3⟩
abbrev F.PRT_PREEMPT_STATUS_ACTIVE (i : Nat) : Fld := ⟨(R.PRT_PREEMPT_STATUS i), 3, 1⟩
/-- PRT_RX_PKTS_CNT (R594). -/
abbrev R.PRT_RX_PKTS_CNT (i : Nat) : Nat := 0x2201080 + i * 0x200
/-- PRT_RX_BYTES_CNT (R594). -/
abbrev R.PRT_RX_BYTES_CNT (i : Nat) : Nat := 0x2201088 + i * 0x200
/-- PRT_TX_PKTS_CNT (R594). -/
abbrev R.PRT_TX_PKTS_CNT (i : Nat) : Nat := 0x2201090 + i * 0x200
/-- PRT_TX_BYTES_CNT (R594). -/
abbrev R.PRT_TX_BYTES_CNT (i : Nat) : Nat := 0x2201098 + i * 0x200
/-- PRT_RX_PFC_CNT (R594). -/
abbrev R.PRT_RX_PFC_CNT (i : Nat) : Nat := 0x22010a0 + i * 0x200
/-- PRT_TX_PFC_CNT (R594). -/
abbrev R.PRT_TX_PFC_CNT (i : Nat) : Nat := 0x22010a8 + i * 0x200
/-- PRT_RX_PAUSE_CNT (R594). -/
abbrev R.PRT_RX_PAUSE_CNT (i : Nat) : Nat := 0x22010b0 + i * 0x200
/-- PRT_FEC_CORR_CNT (R594). -/
abbrev R.PRT_FEC_CORR_CNT (i : Nat) : Nat := 0x22010b8 + i * 0x200
/-- PRT_RX_RUNT_CNT (R594). -/
abbrev R.PRT_RX_RUNT_CNT (i : Nat) : Nat := 0x2201100 + i * 0x200
/-- PRT_RX_OVERSIZE_CNT (R594). -/
abbrev R.PRT_RX_OVERSIZE_CNT (i : Nat) : Nat := 0x2201108 + i * 0x200
/-- PRT_RX_FCS_CNT (R594). -/
abbrev R.PRT_RX_FCS_CNT (i : Nat) : Nat := 0x2201110 + i * 0x200
/-- PRT_FEC_UNCORR_CNT (R594). -/
abbrev R.PRT_FEC_UNCORR_CNT (i : Nat) : Nat := 0x2201118 + i * 0x200
/-- PRT_MAC_CTRL_BAD_CNT (R594). -/
abbrev R.PRT_MAC_CTRL_BAD_CNT (i : Nat) : Nat := 0x2201120 + i * 0x200
/-- PRT_PREEMPT_ERR_CNT (R594). -/
abbrev R.PRT_PREEMPT_ERR_CNT (i : Nat) : Nat := 0x2201128 + i * 0x200
/-- PRT_AN_FAIL_CNT (R594). -/
abbrev R.PRT_AN_FAIL_CNT (i : Nat) : Nat := 0x2201130 + i * 0x200
/-- PRT_STOMP_CNT (R594). -/
abbrev R.PRT_STOMP_CNT (i : Nat) : Nat := 0x2201138 + i * 0x200
/-- PRT_TX_ABORT_CNT (R594). -/
abbrev R.PRT_TX_ABORT_CNT (i : Nat) : Nat := 0x2201140 + i * 0x200
/-- FLT_STATUS (R656). -/
abbrev R.FLT_STATUS : Nat := 0x2400000
abbrev F.FLT_STATUS_ENTRIES : Fld := ⟨R.FLT_STATUS, 0, 13⟩
abbrev F.FLT_STATUS_RETIRED_LINES : Fld := ⟨R.FLT_STATUS, 16, 8⟩
/-- FLT_INT_STATUS (R656). -/
abbrev R.FLT_INT_STATUS : Nat := 0x2400008
abbrev F.FLT_INT_STATUS_FAULT_PENDING : Fld := ⟨R.FLT_INT_STATUS, 0, 4⟩
abbrev F.FLT_INT_STATUS_THERM_STEP : Fld := ⟨R.FLT_INT_STATUS, 4, 1⟩
abbrev F.FLT_INT_STATUS_FLOOR : Fld := ⟨R.FLT_INT_STATUS, 5, 1⟩
abbrev F.FLT_INT_STATUS_SAT : Fld := ⟨R.FLT_INT_STATUS, 6, 1⟩
/-- FLT_INT_EN (R656). -/
abbrev R.FLT_INT_EN (i : Nat) : Nat := 0x2400010 + i * 0x8
abbrev F.FLT_INT_EN_FAULT_PENDING (i : Nat) : Fld := ⟨(R.FLT_INT_EN i), 0, 4⟩
abbrev F.FLT_INT_EN_THERM_STEP (i : Nat) : Fld := ⟨(R.FLT_INT_EN i), 4, 1⟩
abbrev F.FLT_INT_EN_FLOOR (i : Nat) : Fld := ⟨(R.FLT_INT_EN i), 5, 1⟩
abbrev F.FLT_INT_EN_SAT (i : Nat) : Fld := ⟨(R.FLT_INT_EN i), 6, 1⟩
/-- FLT_RING_PI (R656). -/
abbrev R.FLT_RING_PI : Nat := 0x2400040
abbrev F.FLT_RING_PI_PI : Fld := ⟨R.FLT_RING_PI, 0, 32⟩
/-- FLT_RING_RD (R656). -/
abbrev R.FLT_RING_RD (i : Nat) : Nat := 0x2400048 + i * 0x8
abbrev F.FLT_RING_RD_RD (i : Nat) : Fld := ⟨(R.FLT_RING_RD i), 0, 32⟩
/-- FLT_MEM_CNT (R656). -/
abbrev R.FLT_MEM_CNT : Nat := 0x2400080
/-- FLT_MEM_DROP_CNT (R656). -/
abbrev R.FLT_MEM_DROP_CNT : Nat := 0x2400088
/-- FLT_ACCESS_CNT (R656). -/
abbrev R.FLT_ACCESS_CNT : Nat := 0x2400090
/-- FLT_RING_LOST (R656). -/
abbrev R.FLT_RING_LOST (i : Nat) : Nat := 0x2400098 + i * 0x8
/-- FLT_CORR_NEXT (R656). -/
abbrev R.FLT_CORR_NEXT : Nat := 0x24000c0
abbrev F.FLT_CORR_NEXT_CORR : Fld := ⟨R.FLT_CORR_NEXT, 0, 32⟩
/-- FLT_THERM (R656). -/
abbrev R.FLT_THERM : Nat := 0x2400100
abbrev F.FLT_THERM_TEMP : Fld := ⟨R.FLT_THERM, 0, 8⟩
abbrev F.FLT_THERM_PARKED : Fld := ⟨R.FLT_THERM, 8, 5⟩
abbrev F.FLT_THERM_SHEDDING : Fld := ⟨R.FLT_THERM, 16, 1⟩
/-- FLT_THERM_STEP_CNT (R656). -/
abbrev R.FLT_THERM_STEP_CNT : Nat := 0x2400108
/-- FLT_RING (R656). -/
abbrev R.FLT_RING (i j : Nat) : Nat := 0x2410000 + i * 0x20 + j * 0x8
/-- GRT_STATUS (R628). -/
abbrev R.GRT_STATUS : Nat := 0x2600000
abbrev F.GRT_STATUS_LIFECYCLE : Fld := ⟨R.GRT_STATUS, 0, 2⟩
abbrev F.GRT_STATUS_DEBUG_LEVEL : Fld := ⟨R.GRT_STATUS, 2, 2⟩
abbrev F.GRT_STATUS_BANK : Fld := ⟨R.GRT_STATUS, 4, 1⟩
abbrev F.GRT_STATUS_FALLBACK : Fld := ⟨R.GRT_STATUS, 5, 1⟩
abbrev F.GRT_STATUS_SESSIONS : Fld := ⟨R.GRT_STATUS, 8, 4⟩
abbrev F.GRT_STATUS_IDE_KEYGEN : Fld := ⟨R.GRT_STATUS, 12, 1⟩
/-- GRT_BOOT_STATUS (R628). -/
abbrev R.GRT_BOOT_STATUS : Nat := 0x2600008
abbrev F.GRT_BOOT_STATUS_STAGE : Fld := ⟨R.GRT_BOOT_STATUS, 0, 8⟩
abbrev F.GRT_BOOT_STATUS_FAIL_CODE : Fld := ⟨R.GRT_BOOT_STATUS, 8, 8⟩
abbrev F.GRT_BOOT_STATUS_GROTTO_SVN : Fld := ⟨R.GRT_BOOT_STATUS, 16, 8⟩
abbrev F.GRT_BOOT_STATUS_CTRL_SVN : Fld := ⟨R.GRT_BOOT_STATUS, 24, 8⟩
abbrev F.GRT_BOOT_STATUS_MIN_GROTTO_SVN : Fld := ⟨R.GRT_BOOT_STATUS, 32, 8⟩
abbrev F.GRT_BOOT_STATUS_MIN_CTRL_SVN : Fld := ⟨R.GRT_BOOT_STATUS, 40, 8⟩
abbrev F.GRT_BOOT_STATUS_NEXT_BANK : Fld := ⟨R.GRT_BOOT_STATUS, 48, 1⟩
/-- GRT_FW_VERSION (R628). -/
abbrev R.GRT_FW_VERSION : Nat := 0x2600010
abbrev F.GRT_FW_VERSION_GROTTO_VER : Fld := ⟨R.GRT_FW_VERSION, 0, 32⟩
abbrev F.GRT_FW_VERSION_CTRL_VER : Fld := ⟨R.GRT_FW_VERSION, 32, 32⟩
/-- GRT_DSN (R628). -/
abbrev R.GRT_DSN : Nat := 0x2600018
abbrev F.GRT_DSN_DSN : Fld := ⟨R.GRT_DSN, 0, 64⟩
/-- GRT_DEBUG_NONCE (R628). -/
abbrev R.GRT_DEBUG_NONCE : Nat := 0x2600020
abbrev F.GRT_DEBUG_NONCE_NONCE : Fld := ⟨R.GRT_DEBUG_NONCE, 0, 64⟩
/-- GRT_LAST_CMD (R628). -/
abbrev R.GRT_LAST_CMD : Nat := 0x2600028
abbrev F.GRT_LAST_CMD_OPCODE : Fld := ⟨R.GRT_LAST_CMD, 0, 8⟩
abbrev F.GRT_LAST_CMD_STATUS : Fld := ⟨R.GRT_LAST_CMD, 8, 8⟩
abbrev F.GRT_LAST_CMD_PRINCIPAL : Fld := ⟨R.GRT_LAST_CMD, 16, 2⟩
abbrev F.GRT_LAST_CMD_ATTACHMENT : Fld := ⟨R.GRT_LAST_CMD, 18, 2⟩
abbrev F.GRT_LAST_CMD_TARGET : Fld := ⟨R.GRT_LAST_CMD, 20, 12⟩
/-- GRT_PRINCIPAL (R628). -/
abbrev R.GRT_PRINCIPAL (i : Nat) : Nat := 0x2600040 + i * 0x8
abbrev F.GRT_PRINCIPAL_PROVISIONED (i : Nat) : Fld := ⟨(R.GRT_PRINCIPAL i), 0, 1⟩
abbrev F.GRT_PRINCIPAL_EXHAUSTED (i : Nat) : Fld := ⟨(R.GRT_PRINCIPAL i), 1, 1⟩
abbrev F.GRT_PRINCIPAL_RIGHTS (i : Nat) : Fld := ⟨(R.GRT_PRINCIPAL i), 16, 13⟩
/-- GRT_COUNTER (R628). -/
abbrev R.GRT_COUNTER (i : Nat) : Nat := 0x2600060 + i * 0x8
abbrev F.GRT_COUNTER_LAST (i : Nat) : Fld := ⟨(R.GRT_COUNTER i), 0, 64⟩
/-- GRT_AUTH_FAIL_CNT (R628). -/
abbrev R.GRT_AUTH_FAIL_CNT : Nat := 0x2600080
abbrev F.GRT_AUTH_FAIL_CNT_COUNT : Fld := ⟨R.GRT_AUTH_FAIL_CNT, 0, 32⟩
abbrev F.GRT_AUTH_FAIL_CNT_SAT : Fld := ⟨R.GRT_AUTH_FAIL_CNT, 32, 1⟩
/-- GRT_SPDM_ERR_CNT (R628). -/
abbrev R.GRT_SPDM_ERR_CNT : Nat := 0x2600088
abbrev F.GRT_SPDM_ERR_CNT_COUNT : Fld := ⟨R.GRT_SPDM_ERR_CNT, 0, 32⟩
abbrev F.GRT_SPDM_ERR_CNT_SAT : Fld := ⟨R.GRT_SPDM_ERR_CNT, 32, 1⟩
/-- GRT_MEAS (R628). -/
abbrev R.GRT_MEAS (i j : Nat) : Nat := 0x2600100 + i * 0x40 + j * 0x8
abbrev F.GRT_MEAS_DIGEST (i j : Nat) : Fld := ⟨(R.GRT_MEAS i j), 0, 64⟩

/-- Register rows of the Glb region, part 0. -/
def regRowsGlb0 : List RegRow := [
  ⟨0x100, [], .plain, [⟨0, 2, .ro, 0⟩, ⟨2, 2, .ro, 0⟩, ⟨4, 2, .ro, 0⟩, ⟨6, 1, .ro, 0⟩, ⟨8, 3, .ro, 0⟩, ⟨11, 1, .ro, 0⟩]⟩,
  ⟨0x108, [], .plain, [⟨0, 3, .ro, 0⟩, ⟨3, 1, .ro, 0⟩, ⟨4, 4, .ro, 0⟩, ⟨16, 16, .ro, 0⟩]⟩,
  ⟨0x110, [], .plain, [⟨0, 8, .wo, 0⟩, ⟨8, 1, .wo, 0⟩]⟩,
  ⟨0x80000, [], .plain, [⟨0, 1, .ro, 0⟩, ⟨1, 1, .ro, 0⟩, ⟨2, 2, .ro, 0⟩, ⟨8, 11, .ro, 0⟩, ⟨24, 8, .ro, 0⟩]⟩]
def regRowsGlb : List RegRow := regRowsGlb0
/-- Register rows of the Fst region, part 0. -/
def regRowsFst0 : List RegRow := [
  ⟨0x100000, [], .plain, [⟨0, 3, .ro, 0⟩, ⟨3, 1, .ro, 0⟩, ⟨4, 1, .ro, 0⟩, ⟨5, 1, .ro, 0⟩, ⟨6, 1, .ro, 0⟩, ⟨8, 2, .ro, 0⟩, ⟨10, 1, .ro, 0⟩, ⟨16, 4, .ro, 0⟩, ⟨20, 4, .ro, 0⟩, ⟨24, 8, .ro, 0⟩, ⟨32, 32, .ro, 0⟩]⟩,
  ⟨0x100008, [], .plain, [⟨0, 1, .rw1c, 0⟩, ⟨1, 1, .rw1c, 0⟩, ⟨2, 1, .rw1c, 0⟩, ⟨3, 1, .rw1c, 0⟩, ⟨4, 1, .rw1c, 0⟩, ⟨5, 1, .rw1c, 0⟩, ⟨6, 1, .rw1c, 0⟩, ⟨7, 1, .rw1c, 0⟩, ⟨8, 1, .rw1c, 0⟩, ⟨9, 1, .rw1c, 0⟩, ⟨10, 1, .rw1c, 0⟩]⟩,
  ⟨0x100010, [(4, 0x8)], .plain, [⟨0, 1, .rw, 0⟩, ⟨1, 1, .rw, 0⟩, ⟨2, 1, .rw, 0⟩, ⟨3, 1, .rw, 0⟩, ⟨4, 1, .rw, 0⟩, ⟨5, 1, .rw, 0⟩, ⟨6, 1, .rw, 0⟩, ⟨7, 1, .rw, 0⟩, ⟨8, 1, .rw, 0⟩, ⟨9, 1, .rw, 0⟩, ⟨10, 1, .rw, 0⟩]⟩,
  ⟨0x100030, [], .plain, [⟨0, 32, .ro, 0⟩]⟩,
  ⟨0x100038, [], .plain, [⟨0, 32, .ro, 0⟩]⟩,
  ⟨0x100040, [], .plain, [⟨0, 48, .rwk, 0⟩]⟩,
  ⟨0x100048, [], .plain, [⟨0, 2, .ro, 0⟩, ⟨4, 2, .rwk, 0⟩]⟩,
  ⟨0x100050, [], .plain, [⟨0, 32, .rwk, 20000⟩, ⟨32, 32, .rwk, 50000⟩]⟩,
  ⟨0x100058, [], .plain, [⟨0, 4, .rwk, 7⟩, ⟨4, 1, .rwk, 0⟩, ⟨8, 4, .rwk, 10⟩, ⟨16, 8, .rwk, 4⟩]⟩,
  ⟨0x100060, [], .plain, [⟨0, 2, .rwk, 1⟩, ⟨4, 3, .rwk, 7⟩, ⟨8, 3, .rwk, 0⟩, ⟨12, 1, .rwk, 0⟩]⟩,
  ⟨0x100068, [], .plain, [⟨0, 16, .rwk, 20⟩, ⟨16, 8, .rwk, 4⟩, ⟨24, 8, .rwk, 3⟩]⟩,
  ⟨0x100070, [], .plain, [⟨0, 32, .rwk, 100000⟩, ⟨32, 32, .rwk, 1000⟩]⟩,
  ⟨0x100078, [], .plain, [⟨0, 16, .rwk, 50⟩, ⟨16, 3, .rwk, 1⟩, ⟨24, 4, .rwk, 0⟩]⟩,
  ⟨0x100100, [(4, 0x20)], .plain, [⟨0, 1, .wo, 0⟩]⟩,
  ⟨0x100108, [(4, 0x20)], .plain, [⟨0, 48, .ro, 0⟩, ⟨48, 16, .ro, 0⟩]⟩,
  ⟨0x100110, [(4, 0x20)], .plain, [⟨0, 30, .ro, 0⟩, ⟨32, 16, .ro, 0⟩, ⟨48, 10, .ro, 0⟩, ⟨58, 1, .ro, 0⟩, ⟨59, 3, .ro, 0⟩]⟩,
  ⟨0x100118, [(4, 0x20)], .plain, [⟨0, 64, .ro, 0⟩]⟩,
  ⟨0x100200, [(4, 0x20)], .plain, [⟨0, 3, .rwk, 0⟩, ⟨4, 3, .rwk, 0⟩, ⟨8, 1, .rwk, 0⟩, ⟨32, 32, .rwk, 0⟩]⟩,
  ⟨0x100208, [(4, 0x20)], .plain, [⟨0, 64, .ro, 0⟩]⟩,
  ⟨0x100210, [(4, 0x20)], .plain, [⟨0, 3, .ro, 0⟩, ⟨8, 8, .ro, 0⟩, ⟨16, 32, .ro, 0⟩]⟩,
  ⟨0x100218, [(4, 0x20)], .errCnt 0, [⟨0, 32, .rw, 0⟩, ⟨32, 1, .ro, 0⟩]⟩,
  ⟨0x100300, [], .stat, [⟨0, 64, .ro, 0⟩]⟩,
  ⟨0x100308, [], .stat, [⟨0, 64, .ro, 0⟩]⟩,
  ⟨0x100310, [], .stat, [⟨0, 64, .ro, 0⟩]⟩,
  ⟨0x100318, [], .stat, [⟨0, 64, .ro, 0⟩]⟩,
  ⟨0x101000, [(8, 0x80)], .plain, [⟨0, 1, .rwk, 0⟩, ⟨1, 3, .rwk, 0⟩, ⟨4, 2, .rwk, 0⟩, ⟨6, 1, .rwk, 0⟩, ⟨7, 1, .rwk, 0⟩, ⟨8, 8, .rwk, 0⟩, ⟨16, 2, .rwk, 0⟩, ⟨18, 1, .rwk, 0⟩, ⟨19, 1, .rwk, 0⟩, ⟨20, 1, .rwk, 0⟩, ⟨24, 8, .rwk, 128⟩, ⟨32, 8, .rwk, 128⟩, ⟨40, 8, .rwk, 253⟩, ⟨48, 8, .rwk, 0⟩, ⟨56, 8, .rwk, 253⟩]⟩,
  ⟨0x101008, [(8, 0x80)], .plain, [⟨0, 8, .rwk, 0⟩, ⟨8, 8, .rwk, 0⟩, ⟨16, 12, .rwk, 0⟩, ⟨28, 1, .rwk, 0⟩, ⟨32, 8, .rwk, 128⟩, ⟨40, 8, .rwk, 20⟩, ⟨48, 8, .rwk, 0⟩, ⟨56, 8, .rwk, 0⟩]⟩,
  ⟨0x101010, [(8, 0x80)], .plain, [⟨0, 32, .ro, 0⟩, ⟨32, 16, .ro, 0⟩, ⟨48, 8, .ro, 255⟩, ⟨56, 1, .ro, 0⟩]⟩,
  ⟨0x101018, [(8, 0x80)], .plain, [⟨0, 64, .ro, 0⟩]⟩,
  ⟨0x101020, [(8, 0x80)], .plain, [⟨0, 64, .ro, 0⟩]⟩]
/-- Register rows of the Fst region, part 1. -/
def regRowsFst1 : List RegRow := [
  ⟨0x101028, [(8, 0x80)], .errCnt 0, [⟨0, 32, .rw, 0⟩, ⟨32, 1, .ro, 0⟩]⟩,
  ⟨0x101030, [(8, 0x80)], .errCnt 0, [⟨0, 32, .rw, 0⟩, ⟨32, 1, .ro, 0⟩]⟩,
  ⟨0x101038, [(8, 0x80)], .errCnt 0, [⟨0, 32, .rw, 0⟩, ⟨32, 1, .ro, 0⟩]⟩,
  ⟨0x101040, [(8, 0x80)], .errCnt 0, [⟨0, 32, .rw, 0⟩, ⟨32, 1, .ro, 0⟩]⟩,
  ⟨0x101048, [(8, 0x80)], .stat, [⟨0, 64, .ro, 0⟩]⟩,
  ⟨0x101050, [(8, 0x80)], .stat, [⟨0, 64, .ro, 0⟩]⟩,
  ⟨0x101400, [(8, 0x20)], .plain, [⟨0, 32, .rwk, 0⟩, ⟨32, 32, .rwk, 0⟩]⟩,
  ⟨0x101408, [(8, 0x20)], .plain, [⟨0, 32, .rwk, 0⟩]⟩,
  ⟨0x101410, [(8, 0x20)], .plain, [⟨0, 32, .ro, 0⟩, ⟨32, 32, .ro, 0⟩]⟩,
  ⟨0x101418, [(8, 0x20)], .plain, [⟨0, 1, .ro, 0⟩, ⟨1, 1, .ro, 0⟩, ⟨8, 8, .ro, 0⟩]⟩,
  ⟨0x101500, [(2, 0x8)], .plain, [⟨0, 1, .rwk, 0⟩, ⟨1, 2, .rwk, 1⟩, ⟨12, 20, .rwk, 100000⟩, ⟨32, 32, .rwk, 0⟩]⟩,
  ⟨0x101510, [], .plain, [⟨0, 3, .rwk, 1⟩, ⟨3, 1, .rwk, 0⟩, ⟨8, 8, .rwk, 37⟩, ⟨16, 16, .rwk, 20⟩]⟩,
  ⟨0x101518, [(2, 0x8)], .plain, [⟨0, 1, .rwk, 0⟩, ⟨1, 3, .rwk, 1⟩, ⟨4, 1, .rwk, 1⟩]⟩,
  ⟨0x101528, [], .plain, [⟨0, 2, .rwk, 0⟩, ⟨8, 8, .rwk, 0⟩, ⟨16, 8, .rwk, 3⟩, ⟨24, 8, .rwk, 5⟩, ⟨32, 16, .rwk, 0⟩]⟩,
  ⟨0x101530, [], .plain, [⟨0, 4, .ro, 15⟩, ⟨4, 4, .ro, 0⟩, ⟨8, 4, .ro, 0⟩, ⟨12, 1, .ro, 0⟩]⟩,
  ⟨0x101538, [(2, 0x8)], .errCnt 0, [⟨0, 32, .rw, 0⟩, ⟨32, 1, .ro, 0⟩]⟩,
  ⟨0x101548, [], .plain, [⟨0, 32, .rwk, 1000⟩, ⟨32, 32, .rwk, 1000000⟩]⟩,
  ⟨0x101600, [(4, 0x18)], .plain, [⟨0, 4, .rw, 3⟩]⟩,
  ⟨0x101608, [(4, 0x18)], .plain, [⟨0, 1, .ro, 0⟩, ⟨8, 8, .ro, 0⟩, ⟨16, 32, .ro, 0⟩]⟩,
  ⟨0x101610, [(4, 0x18)], .errCnt 0, [⟨0, 32, .rw, 0⟩, ⟨32, 1, .ro, 0⟩]⟩,
  ⟨0x101700, [(8, 0x8)], .plain, [⟨0, 64, .ro, 0⟩]⟩]
def regRowsFst : List RegRow := regRowsFst0 ++ regRowsFst1
/-- Register rows of the Hif region, part 0. -/
def regRowsHif0 : List RegRow := [
  ⟨0x200000, [], .plain, [⟨0, 2, .ro, 0⟩, ⟨4, 4, .ro, 0⟩, ⟨8, 1, .ro, 0⟩]⟩,
  ⟨0x200008, [], .plain, [⟨0, 4, .rw1c, 0⟩, ⟨4, 4, .rw1c, 0⟩, ⟨8, 4, .rw1c, 0⟩, ⟨12, 4, .rw1c, 0⟩, ⟨16, 4, .rw1c, 0⟩, ⟨20, 1, .rw1c, 0⟩]⟩,
  ⟨0x200010, [(4, 0x8)], .plain, [⟨0, 4, .rw, 0⟩, ⟨4, 4, .rw, 0⟩, ⟨8, 4, .rw, 0⟩, ⟨12, 4, .rw, 0⟩, ⟨16, 4, .rw, 0⟩, ⟨20, 1, .rw, 0⟩]⟩,
  ⟨0x200040, [], .plain, [⟨21, 15, .ro, 0⟩, ⟨40, 13, .ro, 0⟩]⟩,
  ⟨0x201000, [(4, 0x1000)], .plain, [⟨0, 4, .ro, 0⟩, ⟨4, 3, .ro, 0⟩, ⟨8, 5, .ro, 0⟩, ⟨13, 1, .ro, 0⟩, ⟨14, 1, .ro, 0⟩, ⟨15, 1, .ro, 0⟩, ⟨16, 1, .ro, 0⟩]⟩,
  ⟨0x201008, [(4, 0x1000)], .plain, [⟨0, 3, .rw, 6⟩, ⟨3, 1, .rw, 1⟩]⟩,
  ⟨0x201010, [(4, 0x1000)], .plain, [⟨0, 11, .ro, 0⟩, ⟨16, 12, .ro, 0⟩]⟩,
  ⟨0x201018, [(4, 0x1000)], .plain, [⟨0, 13, .ro, 0⟩, ⟨32, 21, .ro, 0⟩]⟩,
  ⟨0x201020, [(4, 0x1000)], .plain, [⟨0, 16, .ro, 50⟩, ⟨16, 16, .ro, 25⟩]⟩,
  ⟨0x201028, [(4, 0x1000)], .plain, [⟨0, 16, .ro, 0⟩, ⟨16, 4, .ro, 0⟩, ⟨20, 1, .ro, 0⟩, ⟨21, 3, .ro, 0⟩]⟩,
  ⟨0x201030, [(4, 0x1000)], .plain, [⟨0, 16, .wo, 0⟩, ⟨16, 1, .wo, 0⟩, ⟨17, 1, .ro, 0⟩, ⟨18, 1, .ro, 0⟩, ⟨20, 4, .ro, 0⟩]⟩,
  ⟨0x201038, [(4, 0x1000)], .plain, [⟨0, 12, .rw, 0⟩]⟩,
  ⟨0x201040, [(4, 0x1000)], .plain, [⟨0, 13, .rw, 4096⟩]⟩,
  ⟨0x201048, [(4, 0x1000)], .plain, [⟨0, 11, .rw, 0⟩]⟩,
  ⟨0x201050, [(4, 0x1000)], .plain, [⟨0, 18, .ro, 0⟩]⟩,
  ⟨0x201080, [(4, 0x1000)], .stat, [⟨0, 64, .ro, 0⟩]⟩,
  ⟨0x201088, [(4, 0x1000)], .stat, [⟨0, 64, .ro, 0⟩]⟩,
  ⟨0x201090, [(4, 0x1000)], .stat, [⟨0, 64, .ro, 0⟩]⟩,
  ⟨0x201098, [(4, 0x1000)], .stat, [⟨0, 64, .ro, 0⟩]⟩,
  ⟨0x2010a0, [(4, 0x1000)], .stat, [⟨0, 64, .ro, 0⟩]⟩,
  ⟨0x2010a8, [(4, 0x1000)], .stat, [⟨0, 64, .ro, 0⟩]⟩,
  ⟨0x2010b0, [(4, 0x1000)], .errCnt 0, [⟨0, 32, .rw, 0⟩, ⟨32, 1, .ro, 0⟩]⟩,
  ⟨0x2010b8, [(4, 0x1000)], .errCnt 0, [⟨0, 32, .rw, 0⟩, ⟨32, 1, .ro, 0⟩]⟩,
  ⟨0x2010c0, [(4, 0x1000)], .errCnt 0, [⟨0, 32, .rw, 0⟩, ⟨32, 1, .ro, 0⟩]⟩,
  ⟨0x2010c8, [(4, 0x1000)], .errCnt 0, [⟨0, 32, .rw, 0⟩, ⟨32, 1, .ro, 0⟩]⟩,
  ⟨0x2010d0, [(4, 0x1000)], .errCnt 0, [⟨0, 32, .rw, 0⟩, ⟨32, 1, .ro, 0⟩]⟩,
  ⟨0x201200, [(4, 0x1000), (16, 0x40)], .plain, [⟨0, 1, .rw, 0⟩, ⟨1, 1, .rw, 0⟩, ⟨2, 1, .rw, 0⟩, ⟨3, 1, .rw, 0⟩, ⟨32, 10, .rw, 0⟩]⟩,
  ⟨0x201208, [(4, 0x1000), (16, 0x40)], .plain, [⟨21, 15, .rw, 0⟩]⟩,
  ⟨0x201210, [(4, 0x1000), (16, 0x40)], .plain, [⟨0, 16, .rw, 0⟩, ⟨16, 16, .rw, 0⟩]⟩,
  ⟨0x201218, [(4, 0x1000), (16, 0x40)], .plain, [⟨0, 1, .ro, 0⟩, ⟨1, 1, .ro, 0⟩, ⟨2, 1, .ro, 0⟩, ⟨3, 1, .ro, 0⟩, ⟨32, 10, .ro, 0⟩]⟩]
/-- Register rows of the Hif region, part 1. -/
def regRowsHif1 : List RegRow := [
  ⟨0x201220, [(4, 0x1000), (16, 0x40)], .plain, [⟨21, 15, .ro, 0⟩]⟩,
  ⟨0x201228, [(4, 0x1000), (16, 0x40)], .plain, [⟨0, 16, .ro, 0⟩, ⟨16, 16, .ro, 0⟩]⟩,
  ⟨0x201600, [(4, 0x1000), (9, 0x8)], .plain, [⟨0, 1, .ro, 0⟩, ⟨1, 1, .ro, 0⟩, ⟨8, 8, .ro, 0⟩, ⟨16, 1, .ro, 0⟩]⟩]
def regRowsHif : List RegRow := regRowsHif0 ++ regRowsHif1
/-- Register rows of the Qmg region, part 0. -/
def regRowsQmg0 : List RegRow := [
  ⟨0x400000, [], .plain, [⟨0, 17, .ro, 0⟩, ⟨17, 15, .ro, 0⟩, ⟨32, 17, .ro, 65536⟩]⟩,
  ⟨0x400008, [], .plain, [⟨0, 1, .rw1c, 0⟩, ⟨1, 1, .rw1c, 0⟩, ⟨2, 1, .rw1c, 0⟩, ⟨3, 1, .rw1c, 0⟩]⟩,
  ⟨0x400010, [(4, 0x8)], .plain, [⟨0, 1, .rw, 0⟩, ⟨1, 1, .rw, 0⟩, ⟨2, 1, .rw, 0⟩, ⟨3, 1, .rw, 0⟩]⟩,
  ⟨0x400080, [], .errCnt 0, [⟨0, 32, .rw, 0⟩, ⟨32, 1, .ro, 0⟩]⟩,
  ⟨0x400088, [], .errCnt 0, [⟨0, 32, .rw, 0⟩, ⟨32, 1, .ro, 0⟩]⟩,
  ⟨0x400090, [], .errCnt 0, [⟨0, 32, .rw, 0⟩, ⟨32, 1, .ro, 0⟩]⟩,
  ⟨0x4000c0, [], .stat, [⟨0, 64, .ro, 0⟩]⟩,
  ⟨0x4000c8, [], .stat, [⟨0, 64, .ro, 0⟩]⟩,
  ⟨0x4000d0, [], .stat, [⟨0, 64, .ro, 0⟩]⟩,
  ⟨0x4000d8, [], .stat, [⟨0, 64, .ro, 0⟩]⟩,
  ⟨0x4000e0, [], .stat, [⟨0, 64, .ro, 0⟩]⟩,
  ⟨0x400200, [(4, 0x20)], .plain, [⟨0, 12, .rw, 0⟩]⟩,
  ⟨0x400208, [(4, 0x20)], .plain, [⟨0, 1, .ro, 0⟩, ⟨1, 1, .ro, 0⟩, ⟨2, 1, .ro, 0⟩, ⟨4, 12, .ro, 1⟩, ⟨16, 13, .ro, 0⟩, ⟨32, 13, .ro, 0⟩, ⟨48, 11, .ro, 0⟩]⟩,
  ⟨0x400210, [(4, 0x20)], .plain, [⟨0, 12, .rw, 0⟩, ⟨12, 4, .rw, 0⟩, ⟨16, 12, .rw, 0⟩]⟩,
  ⟨0x400218, [(4, 0x20)], .plain, [⟨0, 3, .ro, 7⟩, ⟨16, 16, .ro, 0⟩, ⟨32, 16, .ro, 0⟩, ⟨48, 5, .ro, 0⟩]⟩]
def regRowsQmg : List RegRow := regRowsQmg0
/-- Register rows of the Prs region, part 0. -/
def regRowsPrs0 : List RegRow := [
  ⟨0x800000, [], .plain, [⟨0, 9, .ro, 256⟩, ⟨16, 5, .ro, 16⟩, ⟨32, 1, .ro, 0⟩]⟩,
  ⟨0x800008, [], .plain, [⟨0, 1, .rw1c, 0⟩, ⟨1, 1, .rw1c, 0⟩, ⟨2, 1, .rw1c, 0⟩]⟩,
  ⟨0x800010, [(4, 0x8)], .plain, [⟨0, 1, .rw, 0⟩, ⟨1, 1, .rw, 0⟩, ⟨2, 1, .rw, 0⟩]⟩,
  ⟨0x800040, [], .stat, [⟨0, 64, .ro, 0⟩]⟩,
  ⟨0x800048, [], .stat, [⟨0, 64, .ro, 0⟩]⟩,
  ⟨0x800050, [], .stat, [⟨0, 64, .ro, 0⟩]⟩,
  ⟨0x800100, [(4, 0x8)], .stat, [⟨0, 64, .ro, 0⟩]⟩,
  ⟨0x800400, [(272, 0x8)], .errCnt 16, [⟨0, 2, .ro, 0⟩, ⟨16, 32, .rw, 0⟩, ⟨48, 1, .ro, 0⟩]⟩]
def regRowsPrs : List RegRow := regRowsPrs0
/-- Register rows of the Mat region, part 0. -/
def regRowsMat0 : List RegRow := [
  ⟨0xa00000, [], .plain, [⟨0, 16, .ro, 0⟩, ⟨16, 16, .ro, 0⟩, ⟨32, 3, .ro, 0⟩, ⟨35, 1, .ro, 0⟩, ⟨36, 1, .ro, 0⟩, ⟨37, 1, .ro, 0⟩, ⟨48, 16, .ro, 0⟩]⟩,
  ⟨0xa00008, [], .plain, [⟨0, 1, .rw1c, 0⟩, ⟨1, 1, .rw1c, 0⟩, ⟨2, 1, .rw1c, 0⟩, ⟨3, 1, .rw1c, 0⟩, ⟨4, 1, .rw1c, 0⟩]⟩,
  ⟨0xa00010, [(4, 0x8)], .plain, [⟨0, 1, .rw, 0⟩, ⟨1, 1, .rw, 0⟩, ⟨2, 1, .rw, 0⟩, ⟨3, 1, .rw, 0⟩, ⟨4, 1, .rw, 0⟩]⟩,
  ⟨0xa00030, [], .plain, [⟨0, 8, .ro, 0⟩, ⟨8, 8, .ro, 0⟩, ⟨16, 16, .ro, 0⟩, ⟨32, 16, .ro, 0⟩]⟩,
  ⟨0xa00040, [(4, 0x8)], .plain, [⟨0, 16, .ro, 0⟩, ⟨16, 1, .ro, 0⟩, ⟨32, 32, .ro, 0⟩]⟩,
  ⟨0xa00080, [], .stat, [⟨0, 64, .ro, 0⟩]⟩,
  ⟨0xa00088, [], .stat, [⟨0, 64, .ro, 0⟩]⟩,
  ⟨0xa00090, [], .stat, [⟨0, 64, .ro, 0⟩]⟩,
  ⟨0xa00100, [(16, 0x20)], .plain, [⟨0, 3, .ro, 0⟩, ⟨3, 1, .ro, 0⟩, ⟨8, 8, .ro, 0⟩, ⟨16, 5, .ro, 0⟩, ⟨24, 6, .ro, 0⟩]⟩,
  ⟨0xa00108, [(16, 0x20)], .stat, [⟨0, 64, .ro, 0⟩]⟩,
  ⟨0xa00110, [(16, 0x20)], .stat, [⟨0, 64, .ro, 0⟩]⟩,
  ⟨0xa00400, [(2, 0x8)], .errCnt 16, [⟨0, 2, .ro, 0⟩, ⟨16, 32, .rw, 0⟩, ⟨48, 1, .ro, 0⟩]⟩,
  ⟨0xa01000, [(512, 0x8)], .plain, [⟨0, 6, .rw, 0⟩, ⟨8, 6, .rw, 0⟩, ⟨16, 6, .rw, 0⟩, ⟨24, 6, .rw, 0⟩, ⟨32, 6, .rw, 0⟩, ⟨40, 6, .rw, 0⟩, ⟨48, 6, .rw, 0⟩, ⟨56, 6, .rw, 0⟩]⟩,
  ⟨0xa02000, [(64, 0x8)], .plain, [⟨0, 12, .ro, 0⟩, ⟨12, 1, .ro, 0⟩, ⟨13, 7, .ro, 0⟩, ⟨20, 7, .ro, 0⟩, ⟨32, 16, .ro, 0⟩, ⟨48, 16, .ro, 0⟩]⟩,
  ⟨0xa02200, [], .plain, [⟨0, 16, .ro, 0⟩]⟩]
def regRowsMat : List RegRow := regRowsMat0
/-- Register rows of the Gal region, part 0. -/
def regRowsGal0 : List RegRow := [
  ⟨0x1000000, [(64, 0x10000)], .plain, [⟨0, 5, .ro, 16⟩, ⟨8, 1, .ro, 1⟩, ⟨16, 17, .ro, 0⟩, ⟨40, 17, .ro, 0⟩]⟩,
  ⟨0x1000008, [(64, 0x10000)], .plain, [⟨0, 1, .rw1c, 0⟩, ⟨1, 1, .rw1c, 0⟩, ⟨2, 1, .rw1c, 0⟩, ⟨3, 1, .rw1c, 0⟩, ⟨4, 1, .rw1c, 0⟩, ⟨5, 1, .rw1c, 0⟩, ⟨6, 1, .rw1c, 0⟩]⟩,
  ⟨0x1000010, [(64, 0x10000), (4, 0x8)], .plain, [⟨0, 1, .rw, 0⟩, ⟨1, 1, .rw, 0⟩, ⟨2, 1, .rw, 0⟩, ⟨3, 1, .rw, 0⟩, ⟨4, 1, .rw, 0⟩, ⟨5, 1, .rw, 0⟩, ⟨6, 1, .rw, 0⟩]⟩,
  ⟨0x1000040, [(64, 0x10000)], .plain, [⟨0, 64, .ro, 0⟩]⟩,
  ⟨0x1000048, [(64, 0x10000)], .plain, [⟨0, 6, .ro, 0⟩, ⟨6, 2, .ro, 0⟩, ⟨16, 16, .ro, 0⟩]⟩,
  ⟨0x1000050, [(64, 0x10000)], .errCnt 0, [⟨0, 32, .rw, 0⟩, ⟨32, 1, .ro, 0⟩]⟩,
  ⟨0x1000058, [(64, 0x10000)], .errCnt 0, [⟨0, 32, .rw, 0⟩, ⟨32, 1, .ro, 0⟩]⟩,
  ⟨0x1000060, [(64, 0x10000)], .errCnt 0, [⟨0, 32, .rw, 0⟩, ⟨32, 1, .ro, 0⟩]⟩,
  ⟨0x1000068, [(64, 0x10000)], .plain, [⟨0, 6, .wo, 0⟩, ⟨63, 1, .wo, 0⟩]⟩,
  ⟨0x1000100, [(64, 0x10000), (36, 0x10)], .plain, [⟨0, 10, .ro, 0⟩, ⟨10, 10, .ro, 0⟩, ⟨20, 10, .ro, 0⟩, ⟨30, 10, .ro, 0⟩, ⟨40, 1, .ro, 0⟩, ⟨41, 1, .ro, 0⟩]⟩,
  ⟨0x1000108, [(64, 0x10000), (36, 0x10)], .plain, [⟨0, 16, .ro, 0⟩, ⟨16, 16, .ro, 0⟩]⟩,
  ⟨0x1002000, [(64, 0x10000), (17, 0x800)], .plain, [⟨0, 3, .ro, 0⟩, ⟨8, 5, .ro, 0⟩]⟩,
  ⟨0x1002008, [(64, 0x10000), (17, 0x800)], .plain, [⟨0, 32, .rw1s, 0⟩]⟩,
  ⟨0x1002010, [(64, 0x10000), (17, 0x800)], .plain, [⟨0, 32, .ro, 0⟩]⟩,
  ⟨0x1002018, [(64, 0x10000), (17, 0x800)], .plain, [⟨0, 1, .ro, 0⟩, ⟨1, 1, .ro, 0⟩, ⟨9, 7, .ro, 0⟩]⟩,
  ⟨0x1002040, [(64, 0x10000), (17, 0x800), (8, 0x8)], .plain, [⟨0, 3, .ro, 0⟩, ⟨4, 2, .ro, 0⟩, ⟨8, 4, .ro, 0⟩, ⟨16, 15, .ro, 0⟩, ⟨32, 3, .ro, 0⟩]⟩,
  ⟨0x1002080, [(64, 0x10000), (17, 0x800), (8, 0x8)], .plain, [⟨0, 8, .ro, 0⟩, ⟨8, 1, .ro, 0⟩, ⟨9, 1, .ro, 0⟩, ⟨16, 15, .ro, 0⟩]⟩,
  ⟨0x1002100, [(64, 0x10000), (17, 0x800)], .errCnt 0, [⟨0, 32, .rw, 0⟩, ⟨32, 1, .ro, 0⟩]⟩,
  ⟨0x1002108, [(64, 0x10000), (17, 0x800)], .errCnt 0, [⟨0, 32, .rw, 0⟩, ⟨32, 1, .ro, 0⟩]⟩,
  ⟨0x1002110, [(64, 0x10000), (17, 0x800)], .stat, [⟨0, 64, .ro, 0⟩]⟩,
  ⟨0x1002118, [(64, 0x10000), (17, 0x800)], .stat, [⟨0, 64, .ro, 0⟩]⟩,
  ⟨0x1001000, [(64, 0x10000)], .plain, [⟨0, 10, .ro, 0⟩, ⟨16, 11, .ro, 0⟩]⟩,
  ⟨0x1001008, [(64, 0x10000)], .plain, [⟨0, 3, .ro, 2⟩]⟩,
  ⟨0x1001010, [(64, 0x10000)], .plain, [⟨0, 64, .rw, 0⟩]⟩,
  ⟨0x1001040, [(64, 0x10000)], .stat, [⟨0, 64, .ro, 0⟩]⟩,
  ⟨0x1001048, [(64, 0x10000)], .stat, [⟨0, 64, .ro, 0⟩]⟩,
  ⟨0x1001050, [(64, 0x10000)], .stat, [⟨0, 64, .ro, 0⟩]⟩,
  ⟨0x1001058, [(64, 0x10000)], .stat, [⟨0, 64, .ro, 0⟩]⟩,
  ⟨0x1001060, [(64, 0x10000)], .stat, [⟨0, 64, .ro, 0⟩]⟩,
  ⟨0x1001068, [(64, 0x10000)], .stat, [⟨0, 64, .ro, 0⟩]⟩]
/-- Register rows of the Gal region, part 1. -/
def regRowsGal1 : List RegRow := [
  ⟨0x1001070, [(64, 0x10000)], .stat, [⟨0, 64, .ro, 0⟩]⟩,
  ⟨0x1001800, [(64, 0x10000)], .plain, [⟨0, 16, .rwk, 1024⟩, ⟨16, 4, .rwk, 4⟩]⟩,
  ⟨0x1001808, [(64, 0x10000)], .plain, [⟨0, 16, .ro, 15360⟩, ⟨16, 16, .ro, 0⟩, ⟨32, 7, .ro, 0⟩, ⟨40, 5, .ro, 16⟩, ⟨45, 1, .ro, 0⟩, ⟨46, 5, .ro, 0⟩]⟩,
  ⟨0x1001810, [(64, 0x10000)], .plain, [⟨0, 12, .rw, 0⟩]⟩,
  ⟨0x1001818, [(64, 0x10000)], .plain, [⟨0, 17, .ro, 0⟩, ⟨32, 16, .ro, 0⟩, ⟨48, 16, .ro, 0⟩]⟩,
  ⟨0x1001840, [(64, 0x10000)], .stat, [⟨0, 64, .ro, 0⟩]⟩,
  ⟨0x1001848, [(64, 0x10000)], .stat, [⟨0, 64, .ro, 0⟩]⟩,
  ⟨0x1001850, [(64, 0x10000)], .stat, [⟨0, 64, .ro, 0⟩]⟩,
  ⟨0x1001858, [(64, 0x10000)], .stat, [⟨0, 64, .ro, 0⟩]⟩,
  ⟨0x1001860, [(64, 0x10000)], .errCnt 0, [⟨0, 32, .rw, 0⟩, ⟨32, 1, .ro, 0⟩]⟩,
  ⟨0x1001868, [(64, 0x10000)], .errCnt 0, [⟨0, 32, .rw, 0⟩, ⟨32, 1, .ro, 0⟩]⟩,
  ⟨0x1001870, [(64, 0x10000)], .errCnt 0, [⟨0, 32, .rw, 0⟩, ⟨32, 1, .ro, 0⟩]⟩,
  ⟨0x1001900, [(64, 0x10000), (64, 0x8)], .plain, [⟨0, 2, .ro, 0⟩, ⟨2, 2, .ro, 0⟩, ⟨4, 4, .ro, 1⟩, ⟨8, 8, .ro, 0⟩]⟩]
def regRowsGal : List RegRow := regRowsGal0 ++ regRowsGal1
/-- Register rows of the Tmg region, part 0. -/
def regRowsTmg0 : List RegRow := [
  ⟨0x1800000, [], .plain, [⟨0, 18, .ro, 180224⟩, ⟨32, 1, .ro, 1⟩]⟩,
  ⟨0x1800008, [], .plain, [⟨0, 1, .rw1c, 0⟩, ⟨1, 1, .rw1c, 0⟩, ⟨2, 1, .rw1c, 0⟩, ⟨3, 1, .rw1c, 0⟩, ⟨4, 1, .rw1c, 0⟩]⟩,
  ⟨0x1800010, [(4, 0x8)], .plain, [⟨0, 1, .rw, 0⟩, ⟨1, 1, .rw, 0⟩, ⟨2, 1, .rw, 0⟩, ⟨3, 1, .rw, 0⟩, ⟨4, 1, .rw, 0⟩]⟩,
  ⟨0x1800080, [], .stat, [⟨0, 64, .ro, 0⟩]⟩,
  ⟨0x1800088, [], .stat, [⟨0, 64, .ro, 0⟩]⟩,
  ⟨0x1800090, [], .stat, [⟨0, 64, .ro, 0⟩]⟩,
  ⟨0x1800098, [], .stat, [⟨0, 64, .ro, 0⟩]⟩,
  ⟨0x18000a0, [], .stat, [⟨0, 64, .ro, 0⟩]⟩,
  ⟨0x18000a8, [], .errCnt 0, [⟨0, 32, .rw, 0⟩, ⟨32, 1, .ro, 0⟩]⟩,
  ⟨0x1800200, [(4, 0x40)], .plain, [⟨0, 4, .rw, 0⟩, ⟨4, 18, .rw, 0⟩, ⟨24, 1, .rw, 0⟩, ⟨25, 1, .wo, 0⟩, ⟨26, 1, .ro, 0⟩, ⟨27, 1, .ro, 0⟩, ⟨28, 8, .ro, 0⟩]⟩,
  ⟨0x1800208, [(4, 0x40), (4, 0x8)], .plain, [⟨0, 64, .rw, 0⟩]⟩,
  ⟨0x1800400, [(8, 0x40)], .plain, [⟨0, 1, .ro, 0⟩, ⟨1, 1, .ro, 0⟩, ⟨2, 1, .ro, 0⟩, ⟨3, 1, .ro, 0⟩, ⟨4, 1, .ro, 0⟩, ⟨8, 8, .ro, 255⟩, ⟨16, 10, .ro, 0⟩, ⟨32, 11, .ro, 0⟩, ⟨48, 11, .ro, 0⟩]⟩,
  ⟨0x1800408, [(8, 0x40)], .plain, [⟨0, 64, .ro, 0⟩]⟩,
  ⟨0x1800410, [(8, 0x40)], .plain, [⟨0, 32, .ro, 0⟩]⟩,
  ⟨0x1800418, [(8, 0x40)], .plain, [⟨0, 64, .ro, 0⟩]⟩,
  ⟨0x1800420, [(8, 0x40)], .plain, [⟨0, 64, .ro, 0⟩]⟩,
  ⟨0x1800428, [(8, 0x40)], .plain, [⟨0, 32, .ro, 0⟩]⟩,
  ⟨0x1800430, [(8, 0x40)], .plain, [⟨0, 64, .ro, 0⟩]⟩,
  ⟨0x1800438, [(8, 0x40)], .stat, [⟨0, 64, .ro, 0⟩]⟩,
  ⟨0x1800800, [(16, 0x20)], .plain, [⟨0, 1, .rw, 0⟩, ⟨1, 5, .rw, 4⟩, ⟨6, 16, .rw, 0⟩, ⟨22, 10, .rw, 0⟩, ⟨32, 12, .rw, 0⟩, ⟨48, 4, .rw, 6⟩]⟩,
  ⟨0x1800808, [(16, 0x20)], .plain, [⟨0, 64, .rw, 0⟩]⟩,
  ⟨0x1800810, [(16, 0x20)], .plain, [⟨0, 1, .ro, 0⟩, ⟨1, 1, .ro, 0⟩, ⟨2, 9, .ro, 0⟩, ⟨32, 32, .ro, 0⟩]⟩,
  ⟨0x1800818, [(16, 0x20)], .stat, [⟨0, 64, .ro, 0⟩]⟩]
def regRowsTmg : List RegRow := regRowsTmg0
/-- Register rows of the Cry region, part 0. -/
def regRowsCry0 : List RegRow := [
  ⟨0x1c00000, [], .plain, [⟨0, 4, .ro, 8⟩, ⟨4, 3, .ro, 4⟩]⟩,
  ⟨0x1c00008, [], .plain, [⟨0, 1, .rw1c, 0⟩, ⟨1, 1, .rw1c, 0⟩, ⟨2, 1, .rw1c, 0⟩, ⟨3, 1, .rw1c, 0⟩, ⟨4, 1, .rw1c, 0⟩]⟩,
  ⟨0x1c00010, [(4, 0x8)], .plain, [⟨0, 1, .rw, 0⟩, ⟨1, 1, .rw, 0⟩, ⟨2, 1, .rw, 0⟩, ⟨3, 1, .rw, 0⟩, ⟨4, 1, .rw, 0⟩]⟩,
  ⟨0x1c00080, [], .errCnt 0, [⟨0, 32, .rw, 0⟩, ⟨32, 1, .ro, 0⟩]⟩,
  ⟨0x1c00088, [], .errCnt 0, [⟨0, 32, .rw, 0⟩, ⟨32, 1, .ro, 0⟩]⟩,
  ⟨0x1c00090, [], .errCnt 0, [⟨0, 32, .rw, 0⟩, ⟨32, 1, .ro, 0⟩]⟩,
  ⟨0x1c00098, [], .errCnt 0, [⟨0, 32, .rw, 0⟩, ⟨32, 1, .ro, 0⟩]⟩,
  ⟨0x1c000a0, [], .errCnt 0, [⟨0, 32, .rw, 0⟩, ⟨32, 1, .ro, 0⟩]⟩,
  ⟨0x1c000a8, [], .errCnt 0, [⟨0, 32, .rw, 0⟩, ⟨32, 1, .ro, 0⟩]⟩,
  ⟨0x1c000b0, [], .errCnt 0, [⟨0, 32, .rw, 0⟩, ⟨32, 1, .ro, 0⟩]⟩,
  ⟨0x1c000b8, [], .errCnt 0, [⟨0, 32, .rw, 0⟩, ⟨32, 1, .ro, 0⟩]⟩,
  ⟨0x1c000c0, [], .errCnt 0, [⟨0, 32, .rw, 0⟩, ⟨32, 1, .ro, 0⟩]⟩,
  ⟨0x1c00100, [], .stat, [⟨0, 64, .ro, 0⟩]⟩,
  ⟨0x1c00108, [], .stat, [⟨0, 64, .ro, 0⟩]⟩,
  ⟨0x1c00110, [], .stat, [⟨0, 64, .ro, 0⟩]⟩,
  ⟨0x1c00180, [], .plain, [⟨0, 22, .ro, 0⟩, ⟨22, 3, .ro, 0⟩]⟩,
  ⟨0x1c00200, [(4, 0x40)], .plain, [⟨0, 22, .rw, 0⟩, ⟨22, 2, .rw, 0⟩, ⟨24, 1, .wo, 0⟩, ⟨25, 1, .ro, 0⟩, ⟨26, 1, .ro, 0⟩]⟩,
  ⟨0x1c00208, [(4, 0x40), (4, 0x8)], .plain, [⟨0, 64, .ro, 0⟩]⟩,
  ⟨0x1c00400, [(12, 0x8)], .errCnt 16, [⟨0, 2, .ro, 0⟩, ⟨16, 32, .rw, 0⟩, ⟨48, 1, .ro, 0⟩]⟩,
  ⟨0x1c00800, [(8, 0x8)], .plain, [⟨0, 1, .rw, 1⟩, ⟨1, 1, .rw, 1⟩, ⟨2, 1, .rw, 1⟩, ⟨3, 2, .rw, 1⟩, ⟨5, 1, .rw, 1⟩, ⟨16, 16, .rw, 49152⟩, ⟨32, 16, .rw, 65535⟩]⟩,
  ⟨0x1c01000, [(8, 0x40)], .plain, [⟨0, 1, .rw, 0⟩, ⟨1, 2, .rw, 0⟩, ⟨3, 1, .rw, 1⟩, ⟨4, 1, .rw, 1⟩, ⟨5, 2, .rw, 2⟩, ⟨7, 1, .rw, 1⟩, ⟨8, 1, .rw, 0⟩, ⟨9, 2, .rw, 0⟩, ⟨32, 32, .rw, 0⟩]⟩,
  ⟨0x1c01008, [(8, 0x40)], .plain, [⟨0, 64, .rw, 0⟩]⟩,
  ⟨0x1c01010, [(8, 0x40), (4, 0x8)], .plain, [⟨0, 22, .rw, 0⟩, ⟨22, 1, .rw, 0⟩]⟩,
  ⟨0x1c02000, [(256, 0x30)], .plain, [⟨0, 64, .rw, 0⟩]⟩,
  ⟨0x1c02008, [(256, 0x30), (4, 0x8)], .plain, [⟨0, 22, .rw, 0⟩, ⟨22, 1, .rw, 0⟩]⟩]
def regRowsCry : List RegRow := regRowsCry0
/-- Register rows of the Sto region, part 0. -/
def regRowsSto0 : List RegRow := [
  ⟨0x1e00000, [], .plain, [⟨0, 12, .ro, 0⟩]⟩,
  ⟨0x1e00008, [], .plain, [⟨0, 1, .rw1c, 0⟩, ⟨1, 1, .rw1c, 0⟩]⟩,
  ⟨0x1e00010, [(4, 0x8)], .plain, [⟨0, 1, .rw, 0⟩, ⟨1, 1, .rw, 0⟩]⟩,
  ⟨0x1e00080, [], .errCnt 0, [⟨0, 32, .rw, 0⟩, ⟨32, 1, .ro, 0⟩]⟩,
  ⟨0x1e00088, [], .errCnt 0, [⟨0, 32, .rw, 0⟩, ⟨32, 1, .ro, 0⟩]⟩,
  ⟨0x1e00090, [], .errCnt 0, [⟨0, 32, .rw, 0⟩, ⟨32, 1, .ro, 0⟩]⟩,
  ⟨0x1e00098, [], .errCnt 0, [⟨0, 32, .rw, 0⟩, ⟨32, 1, .ro, 0⟩]⟩,
  ⟨0x1e000a0, [], .errCnt 0, [⟨0, 32, .rw, 0⟩, ⟨32, 1, .ro, 0⟩]⟩,
  ⟨0x1e000a8, [], .errCnt 0, [⟨0, 32, .rw, 0⟩, ⟨32, 1, .ro, 0⟩]⟩,
  ⟨0x1e000b0, [], .errCnt 0, [⟨0, 32, .rw, 0⟩, ⟨32, 1, .ro, 0⟩]⟩,
  ⟨0x1e000b8, [], .errCnt 0, [⟨0, 32, .rw, 0⟩, ⟨32, 1, .ro, 0⟩]⟩,
  ⟨0x1e000c0, [], .errCnt 0, [⟨0, 32, .rw, 0⟩, ⟨32, 1, .ro, 0⟩]⟩,
  ⟨0x1e00100, [], .stat, [⟨0, 64, .ro, 0⟩]⟩,
  ⟨0x1e00108, [], .stat, [⟨0, 64, .ro, 0⟩]⟩,
  ⟨0x1e00110, [], .stat, [⟨0, 64, .ro, 0⟩]⟩,
  ⟨0x1e00118, [], .stat, [⟨0, 64, .ro, 0⟩]⟩,
  ⟨0x1e00200, [(4, 0x40)], .plain, [⟨0, 2, .rw, 0⟩, ⟨2, 22, .rw, 0⟩, ⟨24, 1, .rw, 0⟩, ⟨25, 1, .wo, 0⟩, ⟨26, 1, .ro, 0⟩, ⟨27, 1, .ro, 0⟩]⟩,
  ⟨0x1e00208, [(4, 0x40), (4, 0x8)], .plain, [⟨0, 64, .ro, 0⟩]⟩,
  ⟨0x1e00400, [], .plain, [⟨0, 16, .rw, 20⟩, ⟨16, 16, .rw, 640⟩, ⟨32, 4, .rw, 6⟩]⟩,
  ⟨0x1e00408, [], .plain, [⟨0, 8, .rw, 196⟩, ⟨8, 8, .rw, 196⟩, ⟨16, 16, .rw, 1172⟩, ⟨32, 16, .rw, 40⟩, ⟨48, 16, .rw, 100⟩]⟩]
def regRowsSto : List RegRow := regRowsSto0
/-- Register rows of the Rope region, part 0. -/
def regRowsRope0 : List RegRow := [
  ⟨0x2000000, [], .plain, [⟨0, 10, .ro, 496⟩, ⟨12, 4, .ro, 8⟩]⟩,
  ⟨0x2000008, [], .plain, [⟨0, 1, .rw1c, 0⟩, ⟨1, 1, .rw1c, 0⟩, ⟨2, 1, .rw1c, 0⟩, ⟨3, 1, .rw1c, 0⟩]⟩,
  ⟨0x2000010, [(4, 0x8)], .plain, [⟨0, 1, .rw, 0⟩, ⟨1, 1, .rw, 0⟩, ⟨2, 1, .rw, 0⟩, ⟨3, 1, .rw, 0⟩]⟩,
  ⟨0x2000080, [], .errCnt 0, [⟨0, 32, .rw, 0⟩, ⟨32, 1, .ro, 0⟩]⟩,
  ⟨0x2000088, [], .errCnt 0, [⟨0, 32, .rw, 0⟩, ⟨32, 1, .ro, 0⟩]⟩,
  ⟨0x20000c0, [], .stat, [⟨0, 64, .ro, 0⟩]⟩,
  ⟨0x20000c8, [], .stat, [⟨0, 64, .ro, 0⟩]⟩,
  ⟨0x2001000, [(8, 0x1000)], .plain, [⟨0, 10, .ro, 0⟩, ⟨16, 14, .ro, 8192⟩, ⟨32, 6, .ro, 2⟩]⟩,
  ⟨0x2010000, [(512, 0x40)], .plain, [⟨0, 12, .ro, 4095⟩, ⟨12, 1, .ro, 0⟩, ⟨16, 6, .ro, 0⟩, ⟨22, 2, .ro, 0⟩, ⟨32, 32, .ro, 0⟩]⟩,
  ⟨0x2010008, [(512, 0x40)], .plain, [⟨0, 3, .ro, 0⟩, ⟨4, 12, .ro, 0⟩, ⟨16, 4, .ro, 0⟩, ⟨24, 7, .ro, 0⟩, ⟨32, 12, .ro, 0⟩, ⟨48, 10, .ro, 0⟩]⟩,
  ⟨0x2010010, [(512, 0x40)], .plain, [⟨0, 8, .ro, 0⟩]⟩,
  ⟨0x2010018, [(512, 0x40)], .errCnt 0, [⟨0, 32, .rw, 0⟩, ⟨32, 1, .ro, 0⟩]⟩]
def regRowsRope : List RegRow := regRowsRope0
/-- Register rows of the Mbx region, part 0. -/
def regRowsMbx0 : List RegRow := [
  ⟨0x2100000, [(16, 0x1000)], .plain, [⟨0, 32, .rw1s, 0⟩]⟩,
  ⟨0x2100008, [(16, 0x1000)], .plain, [⟨0, 32, .rw, 4294967295⟩]⟩,
  ⟨0x2100010, [(16, 0x1000)], .plain, [⟨0, 32, .rw1c, 0⟩]⟩,
  ⟨0x2100018, [(16, 0x1000)], .plain, [⟨0, 32, .rw, 4294967295⟩]⟩,
  ⟨0x2100020, [(16, 0x1000)], .plain, [⟨0, 2, .ro, 0⟩, ⟨4, 4, .ro, 0⟩]⟩,
  ⟨0x2100100, [(16, 0x1000), (32, 0x10)], .plain, [⟨0, 1, .ro, 0⟩, ⟨1, 1, .ro, 0⟩, ⟨2, 2, .ro, 0⟩, ⟨4, 4, .ro, 0⟩, ⟨8, 12, .ro, 0⟩, ⟨20, 1, .ro, 0⟩, ⟨22, 2, .ro, 0⟩]⟩,
  ⟨0x2100800, [(16, 0x1000), (32, 0x40), (8, 0x8)], .plain, [⟨0, 64, .rw, 0⟩]⟩,
  ⟨0x2110000, [(4, 0x8)], .plain, [⟨0, 11, .rw, 0⟩, ⟨16, 11, .rw, 0⟩]⟩,
  ⟨0x2110040, [], .errCnt 0, [⟨0, 32, .rw, 0⟩, ⟨32, 1, .ro, 0⟩]⟩,
  ⟨0x2110048, [], .errCnt 0, [⟨0, 32, .rw, 0⟩, ⟨32, 1, .ro, 0⟩]⟩,
  ⟨0x2110050, [], .plain, [⟨0, 1, .rw1c, 0⟩]⟩,
  ⟨0x2110058, [(4, 0x8)], .plain, [⟨0, 1, .rw, 0⟩]⟩]
def regRowsMbx : List RegRow := regRowsMbx0
/-- Register rows of the Prt region, part 0. -/
def regRowsPrt0 : List RegRow := [
  ⟨0x2200000, [], .plain, [⟨0, 8, .ro, 0⟩, ⟨8, 8, .ro, 0⟩]⟩,
  ⟨0x2200008, [], .plain, [⟨0, 8, .rw1c, 0⟩, ⟨8, 1, .rw1c, 0⟩, ⟨9, 1, .rw1c, 0⟩, ⟨10, 1, .rw1c, 0⟩, ⟨11, 1, .rw1c, 0⟩]⟩,
  ⟨0x2200010, [(4, 0x8)], .plain, [⟨0, 8, .rw, 0⟩, ⟨8, 1, .rw, 0⟩, ⟨9, 1, .rw, 0⟩, ⟨10, 1, .rw, 0⟩, ⟨11, 1, .rw, 0⟩]⟩,
  ⟨0x2200040, [], .plain, [⟨0, 2, .ro, 0⟩, ⟨2, 2, .ro, 0⟩, ⟨8, 4, .ro, 0⟩, ⟨16, 24, .ro, 0⟩]⟩,
  ⟨0x2200048, [], .plain, [⟨0, 8, .ro, 0⟩, ⟨8, 8, .ro, 0⟩, ⟨16, 8, .ro, 0⟩, ⟨24, 8, .ro, 0⟩]⟩,
  ⟨0x2200080, [(4, 0x10)], .plain, [⟨0, 2, .rw, 0⟩, ⟨2, 8, .rw, 0⟩, ⟨10, 8, .rw, 0⟩, ⟨18, 8, .rw, 0⟩, ⟨26, 3, .rw, 0⟩, ⟨29, 1, .rw, 0⟩, ⟨30, 1, .wo, 0⟩, ⟨31, 1, .ro, 0⟩, ⟨32, 1, .ro, 0⟩, ⟨33, 3, .ro, 0⟩]⟩,
  ⟨0x2200088, [(4, 0x10)], .plain, [⟨0, 64, .rw, 0⟩]⟩,
  ⟨0x2200100, [(4, 0x8)], .plain, [⟨0, 1, .ro, 0⟩, ⟨1, 3, .ro, 0⟩, ⟨8, 8, .ro, 0⟩, ⟨16, 8, .ro, 0⟩, ⟨32, 8, .ro, 0⟩]⟩,
  ⟨0x2200200, [], .plain, [⟨0, 1, .ro, 0⟩, ⟨1, 2, .ro, 0⟩, ⟨3, 1, .ro, 0⟩]⟩,
  ⟨0x2200208, [], .plain, [⟨0, 3, .ro, 0⟩, ⟨3, 1, .ro, 0⟩, ⟨8, 8, .ro, 0⟩, ⟨16, 8, .ro, 0⟩, ⟨24, 3, .ro, 7⟩]⟩,
  ⟨0x2201000, [(8, 0x200)], .plain, [⟨0, 1, .ro, 0⟩, ⟨1, 1, .ro, 0⟩, ⟨2, 1, .ro, 0⟩, ⟨4, 2, .ro, 0⟩, ⟨6, 3, .ro, 0⟩, ⟨9, 3, .ro, 0⟩]⟩,
  ⟨0x2201008, [(8, 0x200)], .plain, [⟨0, 1, .ro, 0⟩, ⟨1, 1, .ro, 0⟩, ⟨4, 7, .ro, 0⟩, ⟨12, 2, .ro, 0⟩, ⟨14, 2, .ro, 0⟩, ⟨16, 2, .ro, 0⟩, ⟨20, 4, .ro, 3⟩, ⟨24, 8, .ro, 0⟩]⟩,
  ⟨0x2201010, [(8, 0x200)], .plain, [⟨0, 15, .rw, 1522⟩, ⟨16, 1, .rw, 1⟩]⟩,
  ⟨0x2201018, [(8, 0x200)], .plain, [⟨0, 8, .rw, 0⟩, ⟨8, 8, .rw, 0⟩, ⟨16, 3, .rw, 0⟩, ⟨32, 16, .rw, 65535⟩, ⟨48, 16, .rw, 32768⟩]⟩,
  ⟨0x2201020, [(8, 0x200)], .plain, [⟨0, 8, .rw, 1⟩, ⟨8, 8, .rw, 2⟩, ⟨16, 8, .rw, 4⟩, ⟨24, 8, .rw, 8⟩, ⟨32, 8, .rw, 16⟩, ⟨40, 8, .rw, 32⟩, ⟨48, 8, .rw, 64⟩, ⟨56, 8, .rw, 128⟩]⟩,
  ⟨0x2201028, [(8, 0x200)], .plain, [⟨0, 1, .rw, 0⟩, ⟨1, 1, .rw, 0⟩, ⟨2, 8, .rw, 10⟩, ⟨10, 2, .rw, 0⟩]⟩,
  ⟨0x2201030, [(8, 0x200)], .plain, [⟨0, 3, .ro, 0⟩, ⟨3, 1, .ro, 0⟩]⟩,
  ⟨0x2201080, [(8, 0x200)], .stat, [⟨0, 64, .ro, 0⟩]⟩,
  ⟨0x2201088, [(8, 0x200)], .stat, [⟨0, 64, .ro, 0⟩]⟩,
  ⟨0x2201090, [(8, 0x200)], .stat, [⟨0, 64, .ro, 0⟩]⟩,
  ⟨0x2201098, [(8, 0x200)], .stat, [⟨0, 64, .ro, 0⟩]⟩,
  ⟨0x22010a0, [(8, 0x200)], .stat, [⟨0, 64, .ro, 0⟩]⟩,
  ⟨0x22010a8, [(8, 0x200)], .stat, [⟨0, 64, .ro, 0⟩]⟩,
  ⟨0x22010b0, [(8, 0x200)], .stat, [⟨0, 64, .ro, 0⟩]⟩,
  ⟨0x22010b8, [(8, 0x200)], .stat, [⟨0, 64, .ro, 0⟩]⟩,
  ⟨0x2201100, [(8, 0x200)], .errCnt 0, [⟨0, 32, .rw, 0⟩, ⟨32, 1, .ro, 0⟩]⟩,
  ⟨0x2201108, [(8, 0x200)], .errCnt 0, [⟨0, 32, .rw, 0⟩, ⟨32, 1, .ro, 0⟩]⟩,
  ⟨0x2201110, [(8, 0x200)], .errCnt 0, [⟨0, 32, .rw, 0⟩, ⟨32, 1, .ro, 0⟩]⟩,
  ⟨0x2201118, [(8, 0x200)], .errCnt 0, [⟨0, 32, .rw, 0⟩, ⟨32, 1, .ro, 0⟩]⟩,
  ⟨0x2201120, [(8, 0x200)], .errCnt 0, [⟨0, 32, .rw, 0⟩, ⟨32, 1, .ro, 0⟩]⟩]
/-- Register rows of the Prt region, part 1. -/
def regRowsPrt1 : List RegRow := [
  ⟨0x2201128, [(8, 0x200)], .errCnt 0, [⟨0, 32, .rw, 0⟩, ⟨32, 1, .ro, 0⟩]⟩,
  ⟨0x2201130, [(8, 0x200)], .errCnt 0, [⟨0, 32, .rw, 0⟩, ⟨32, 1, .ro, 0⟩]⟩,
  ⟨0x2201138, [(8, 0x200)], .errCnt 0, [⟨0, 32, .rw, 0⟩, ⟨32, 1, .ro, 0⟩]⟩,
  ⟨0x2201140, [(8, 0x200)], .errCnt 0, [⟨0, 32, .rw, 0⟩, ⟨32, 1, .ro, 0⟩]⟩]
def regRowsPrt : List RegRow := regRowsPrt0 ++ regRowsPrt1
/-- Register rows of the Flt region, part 0. -/
def regRowsFlt0 : List RegRow := [
  ⟨0x2400000, [], .plain, [⟨0, 13, .ro, 0⟩, ⟨16, 8, .ro, 0⟩]⟩,
  ⟨0x2400008, [], .plain, [⟨0, 4, .rw1c, 0⟩, ⟨4, 1, .rw1c, 0⟩, ⟨5, 1, .rw1c, 0⟩, ⟨6, 1, .rw1c, 0⟩]⟩,
  ⟨0x2400010, [(4, 0x8)], .plain, [⟨0, 4, .rw, 0⟩, ⟨4, 1, .rw, 0⟩, ⟨5, 1, .rw, 0⟩, ⟨6, 1, .rw, 0⟩]⟩,
  ⟨0x2400040, [], .plain, [⟨0, 32, .ro, 0⟩]⟩,
  ⟨0x2400048, [(4, 0x8)], .plain, [⟨0, 32, .rw, 0⟩]⟩,
  ⟨0x2400080, [], .errCnt 0, [⟨0, 32, .rw, 0⟩, ⟨32, 1, .ro, 0⟩]⟩,
  ⟨0x2400088, [], .errCnt 0, [⟨0, 32, .rw, 0⟩, ⟨32, 1, .ro, 0⟩]⟩,
  ⟨0x2400090, [], .errCnt 0, [⟨0, 32, .rw, 0⟩, ⟨32, 1, .ro, 0⟩]⟩,
  ⟨0x2400098, [(4, 0x8)], .errCnt 0, [⟨0, 32, .rw, 0⟩, ⟨32, 1, .ro, 0⟩]⟩,
  ⟨0x24000c0, [], .plain, [⟨0, 32, .ro, 1⟩]⟩,
  ⟨0x2400100, [], .plain, [⟨0, 8, .ro, 0⟩, ⟨8, 5, .ro, 0⟩, ⟨16, 1, .ro, 0⟩]⟩,
  ⟨0x2400108, [], .stat, [⟨0, 64, .ro, 0⟩]⟩,
  ⟨0x2410000, [(4096, 0x20), (4, 0x8)], .plain, [⟨0, 64, .ro, 0⟩]⟩]
def regRowsFlt : List RegRow := regRowsFlt0
/-- Register rows of the Grt region, part 0. -/
def regRowsGrt0 : List RegRow := [
  ⟨0x2600000, [], .plain, [⟨0, 2, .ro, 0⟩, ⟨2, 2, .ro, 0⟩, ⟨4, 1, .ro, 0⟩, ⟨5, 1, .ro, 0⟩, ⟨8, 4, .ro, 0⟩, ⟨12, 1, .ro, 0⟩]⟩,
  ⟨0x2600008, [], .plain, [⟨0, 8, .ro, 0⟩, ⟨8, 8, .ro, 0⟩, ⟨16, 8, .ro, 0⟩, ⟨24, 8, .ro, 0⟩, ⟨32, 8, .ro, 0⟩, ⟨40, 8, .ro, 0⟩, ⟨48, 1, .ro, 0⟩]⟩,
  ⟨0x2600010, [], .plain, [⟨0, 32, .ro, 0⟩, ⟨32, 32, .ro, 0⟩]⟩,
  ⟨0x2600018, [], .plain, [⟨0, 64, .ro, 0⟩]⟩,
  ⟨0x2600020, [], .plain, [⟨0, 64, .ro, 0⟩]⟩,
  ⟨0x2600028, [], .plain, [⟨0, 8, .ro, 0⟩, ⟨8, 8, .ro, 0⟩, ⟨16, 2, .ro, 0⟩, ⟨18, 2, .ro, 0⟩, ⟨20, 12, .ro, 0⟩]⟩,
  ⟨0x2600040, [(4, 0x8)], .plain, [⟨0, 1, .ro, 0⟩, ⟨1, 1, .ro, 0⟩, ⟨16, 13, .ro, 0⟩]⟩,
  ⟨0x2600060, [(4, 0x8)], .plain, [⟨0, 64, .ro, 0⟩]⟩,
  ⟨0x2600080, [], .plain, [⟨0, 32, .ro, 0⟩, ⟨32, 1, .ro, 0⟩]⟩,
  ⟨0x2600088, [], .plain, [⟨0, 32, .ro, 0⟩, ⟨32, 1, .ro, 0⟩]⟩,
  ⟨0x2600100, [(6, 0x40), (6, 0x8)], .plain, [⟨0, 64, .ro, 0⟩]⟩]
def regRowsGrt : List RegRow := regRowsGrt0

/-- The rows of the region that holds a BAR 0 offset (R40). -/
def regRowsAt (off : Nat) : List RegRow :=
  if off < 0x100000 then regRowsGlb else
  if off < 0x200000 then regRowsFst else
  if off < 0x400000 then regRowsHif else
  if off < 0x800000 then regRowsQmg else
  if off < 0xa00000 then regRowsPrs else
  if off < 0x1000000 then regRowsMat else
  if off < 0x1800000 then regRowsGal else
  if off < 0x1c00000 then regRowsTmg else
  if off < 0x1e00000 then regRowsCry else
  if off < 0x2000000 then regRowsSto else
  if off < 0x2100000 then regRowsRope else
  if off < 0x2200000 then regRowsMbx else
  if off < 0x2400000 then regRowsPrt else
  if off < 0x2600000 then regRowsFlt else
  if off < 0x2800000 then regRowsGrt else []

end Sys2Proof.Machine
end

