-- ==== Sys2Proof/Machine/TypesHost.lean ====
section
/-! DEFINITION. Machine/TypesHost.lean: the state of one PCI function (spec chapters 11 and 12): its configuration-space
fields, its rings and queues, its admin queue, and the host reads of its attachment. -/

namespace Sys2Proof.Machine

/-- Queue states of R493 and QMG_QUEUE_DATA.STATE (an absent queue is not listed). -/
inductive QState where
  | disabled | enabled | paused | stopped
  deriving DecidableEq, Repr

/-- Interrupt moderation of one ring (R504): COUNT, DRIPS, entries written since the last message, drip boundaries
passed since the oldest of them was written, and whether a doorbell has re-armed the ring. -/
structure Moder where
  vec : Nat := 0
  intEn : Bool := true
  count : Nat := 1
  drips : Nat := 0
  since : Nat := 0
  age : Nat := 0
  armed : Bool := true
  deriving DecidableEq, Repr

/-- A ring the device writes: completion ring, admin completion ring or event ring (R487, R500, R504). -/
structure OutRing where
  on : Bool := false
  base : Nat := 0
  log2 : Nat := 0
  wi : Nat := 0
  hd : Nat := 0
  phase : Bool := true
  reserved : Nat := 0
  mod : Moder := {}
  deriving DecidableEq, Repr

/-- A transmit frame taken from a queue whose completion is not yet written (R496, R501): ring index of its first descriptor, TAG,
descriptors used, whether its departure stamp is asked for, its status and stamp once known, its buffers, reads still
outstanding, its TLS hint, whether it has entered the pipeline, and for a virtqueue its chain's identifier. -/
structure TxPend where
  desc : Nat
  tag : Nat
  bufs : Nat
  tstamp : Bool
  status : Option Nat
  tsNs : Nat
  tsFrac : Nat
  aligned : Bool
  segs : List (Nat × Nat) := []
  left : Nat := 0
  hint : Option (Nat × Nat × Nat) := none
  entered : Bool := false
  deriving DecidableEq, Repr

/-- A received frame whose buffers are consumed and whose completion is not yet written (R501, R526): its request number,
the words of its entry, and whether its payload is written. -/
structure RxPend where
  req : Nat
  words : List Nat
  done : Bool
  deriving DecidableEq, Repr

/-- A queue of R493: native, virtqueue or NVMe submission queue; kind 9 holds an NVMe completion queue. `got` is the index up to
which its entries have been read from host memory. -/
structure Queue where
  st : QState := .disabled
  base : Nat := 0
  log2 : Nat := 0
  ci : Nat := 0
  pi : Nat := 0
  got : Nat := 0
  roPayload : Bool := false
  packed : Bool := false
  cq : Nat := 0
  drv : Nat := 0
  dev : Nat := 0
  vec : Nat := 0
  feats : Nat := 0
  used : Nat := 0
  phase : Bool := true
  sqHead : Nat := 0
  cqHead : Nat := 0
  size : Nat := 0
  ien : Bool := false
  sigUsed : Nat := 0
  disabling : Bool := false
  notify : Bool := false
  txPend : List TxPend := []
  rxPend : List RxPend := []
  skip : Bool := false
  deriving DecidableEq, Repr

/-- One MSI-X table entry and its PBA bit (R35, R454). -/
structure MsixEntry where
  addr : Nat := 0
  data : Nat := 0
  masked : Bool := true
  pba : Bool := false
  deriving DecidableEq, Repr

/-- The configuration-space fields of a function that software or the device changes (R439-R442, R449, R453-R457). -/
structure Cfg where
  memSpace : Bool := false
  bme : Bool := false
  intDisable : Bool := false
  noSnoop : Bool := true
  relaxed : Bool := true
  mps : Nat := 0
  mrrs : Nat := 2
  tag10 : Bool := false
  ctoRange : Nat := 0
  msiEn : Bool := false
  msiMme : Nat := 0
  msiAddr : Nat := 0
  msiData : Nat := 0
  msiMask : Nat := 0
  msiPend : Nat := 0
  msixEn : Bool := false
  funcMask : Bool := false
  bar0 : Nat := 0
  bar2 : Nat := 0
  bar4 : Nat := 0
  d3hot : Bool := false
  vfEnable : Bool := false
  vfMemSpace : Bool := false
  numVfs : Nat := 0
  vfBar0 : Nat := 0
  targetSpeed : Nat := 6
  aspmL1 : Bool := false
  ptmEnable : Bool := false
  atsEnable : Bool := false
  transPending : Bool := false
  intxPend : List Nat := []
  intxOn : Bool := false
  deriving DecidableEq, Repr

/-- Whether the function may send requests and messages: Bus Master Enable set, and not in D3hot (R438, R456). -/
def Cfg.master (c : Cfg) : Bool := c.bme && !c.d3hot

/-- AER status bits of R450, R466 and R475; sticky across a function reset (R458). -/
structure Aer where
  cplTimeout : Bool := false
  poisoned : Bool := false
  malformed : Bool := false
  unsupported : Bool := false
  unexpCpl : Bool := false
  ideFail : Bool := false
  deriving DecidableEq, Repr

/-- TDISP states of R467. -/
inductive TdiState where
  | unlocked | locked | run | error
  deriving DecidableEq, Repr

/-- An admin command that has started and has not completed (R510, R511): its slot index, its 128 bytes, whether its
checks have passed and it waits for an event of the device to complete, and how the read of the structure its ADDR names ends:
0 answered, 1 failed twice, 2 UR or CA (R719). -/
structure AdmCmd where
  slot : Nat
  bytes : List (BitVec 8)
  begun : Bool := false
  opRead : Nat := 0
  deriving DecidableEq, Repr

/-- One PCI function (R14, R478-R484, R489). -/
structure Func where
  created : Bool := false
  resetting : Bool := false
  resetCmd : Option Nat := none
  slotStop : Bool := false
  gen : Nat := 1
  qpAllot : Nat := 0
  qpUsed : Nat := 0
  vecAllot : Nat := 0
  vecTable : Nat := 0
  tmFirst : Nat := 0
  tmCount : Nat := 0
  share : Nat := 0
  readCap : Nat := 4096
  setup : Map Nat := []
  adminEn : Bool := false
  adm : Queue := {}
  admCpl : OutRing := {}
  evt : OutRing := {}
  evtLost : Nat := 0
  cur : Option AdmCmd := none
  cqs : Map OutRing := []
  queues : Map Queue := []
  clockPage : Nat := 0
  clockSeq : Nat := 0
  clockTSeq : Nat := 0
  cfg : Cfg := {}
  aer : Aer := {}
  msix : Map MsixEntry := []
  tdi : TdiState := .unlocked
  tdiNonce : Nat := 0
  tdiStream : Nat := 0
  deriving DecidableEq, Repr

/-- What a host read is for (R446, R448): ring entries of a queue up to an index, a buffer of the transmit frame whose first descriptor
is at an index, or a chunk of a rope program; a failed read stops the unit named (R450, R452, R538). -/
inductive ReadFor where
  | entries (kind q upTo : Nat)
  | tx (kind q desc : Nat)
  | rope (chan chunk : Nat)
  deriving DecidableEq, Repr

/-- A host read issued or waiting to be issued (R448-R451): `discard` once its queue has stopped, `bmeDrop` by a cleared
Bus Master Enable,
`reps` and `recs` the attachment's replays and Recoveries when it was issued. -/
structure Read where
  att : Nat
  tag : Nat := 0
  func : Nat
  gen : Nat
  bytes : Nat
  why : ReadFor
  retried : Bool := false
  corr : Nat := 0
  discard : Bool := false
  bmeDrop : Bool := false
  reps : Nat := 0
  recs : Nat := 0
  first : Option (Nat × Bool × Nat) := none
  deriving DecidableEq, Repr

/-- A tag that timed out and is not yet reused (R451). -/
structure Quar where
  att : Nat
  tag : Nat
  deriving DecidableEq, Repr

/-- The split-access latches one attachment holds (R11, R12, R45). -/
structure Split where
  rdOff : Nat := 0
  rdHeld : Bool := false
  rdHigh : BitVec 32 := 0
  wrOff : Nat := 0
  wrHeld : Bool := false
  wrLow : BitVec 32 := 0
  deriving DecidableEq, Repr

/-- The link of one attachment beside its registers: PERST_N level (asserted after power-on, R662), its reference clock, a
window commit that waits for its TLP boundary (R470), and expiries of the replay timer for the same TLP (R449). -/
structure Link where
  perstN : Bool := false
  refclk : Bool := true
  winBusy : Bool := false
  winMask : Nat := 0
  replays : Nat := 0
  deriving DecidableEq, Repr

end Sys2Proof.Machine
end

