-- ==== Sys2Proof/Machine/TypesPath.lean ====
section
/-! DEFINITION. Machine/TypesPath.lean: the state of the packet path (spec chapters 04 to 07): packets, parse cores, match
tables and ruleset versions, engine threads, galleries. -/

namespace Sys2Proof.Machine

/-- The TLS hint of a transmit descriptor (R496). -/
structure TlsHint where
  recSeq : Nat
  recTcp : Nat
  noSend : Nat
  deriving DecidableEq, Repr

/-- A packet: its metadata word (R165), key scratch (R160), bytes without FCS, what its origin needs at its end, and the
context the dispatcher keeps for it from admission (R223). -/
structure Pkt where
  id : Nat := 0
  md : BitVec 512 := 0
  scratch : List (BitVec 8) := []
  data : List (BitVec 8) := []
  lane : Nat := 0
  recirc : Bool := false
  badFcs : Bool := false
  prio : Nat := 0
  cells : Nat := 0
  entry : Option Nat := none
  txKind : Nat := 0
  txQueue : Nat := 0
  txDesc : Nat := 0
  txGen : Nat := 0
  txStamp : Bool := false
  txFn : Nat := 0
  tls : Option TlsHint := none
  tlsStat : Nat := 0
  late : Bool := false
  graceLeft : Nat := 0
  secy : Bool := false
  sessions : List Nat := []
  steerHash : Nat := 0
  admitDrip : Nat := 0
  deadline : Nat := 0
  payloadOff : Nat := 0
  hdrStart : Nat := 0
  hdrEnd : Nat := 0
  attempt : Nat := 0
  ctx : Nat := 0
  gen : Nat := 0
  genFunc : Nat := 0
  orderSeq : Nat := 0
  ordered : Bool := false
  header : List (BitVec 8) := []
  corr : Nat := 0
  lead : Bool := false
  deriving DecidableEq, Repr

/-- A parse core's working state (R160): packet, cursor, registers, flags, instructions executed, stall. -/
structure ParseCore where
  pkt : Option Pkt := none
  cur : Nat := 0
  w : Map (BitVec 64) := []
  eq : Bool := false
  lt : Bool := false
  pc : Nat := 0
  steps : Nat := 0
  arrived : Nat := 0
  stalled : Bool := false
  second : Bool := false
  firstCore : Nat := 0
  cause : Nat := 0
  corr : Nat := 0
  faultDrip : Nat := 0
  faultAligned : Bool := false
  taken : BitVec 512 := 0
  deriving DecidableEq, Repr

/-- A match-lane fault whose outcome is open (R639, R641). -/
structure MatchRetry where
  cause : Nat
  stage : Nat
  corr : Nat
  drip : Nat
  aligned : Bool
  deriving DecidableEq, Repr

/-- A packet between parse and the end of stage 15: the next stage to pass (R181), its metadata before stage 0, and the fault
that made it start again. -/
structure InMatch where
  pkt : Pkt
  stage : Nat
  first : BitVec 512
  retry : Option MatchRetry := none
  deriving DecidableEq, Repr

/-- A stage binding of a version (R166, R168, R513). -/
structure Binding where
  kind : Nat := 0
  hbm : Bool := false
  table : Nat := 0
  tcamFirst : Nat := 0
  tcamBlocks : Nat := 0
  nseg : Nat := 0
  segs : List Nat := []
  miss : Nat := 0
  deriving DecidableEq, Repr

/-- One ruleset version: number, images, bindings, mirror sessions and class policies (R187, R188, R305). -/
structure Version where
  num : Nat := 0
  live : Bool := false
  parse : List (BitVec 64) := []
  entries : List Nat := []
  bindings : Map Binding := []
  mirrors : Map Nat := []
  image : Mem := []
  hasImage : Bool := false
  policies : Map Nat := []
  staged : Nat := 0
  deriving DecidableEq, Repr

/-- One EXACT_S, EXACT_L or LPM entry (R171, R174); `place` is its index in its table. -/
structure Entry where
  place : Nat
  addPend : Bool
  addVer : Nat
  delPend : Bool
  delVer : Nat
  key : List (BitVec 8)
  plen : Nat
  action : Nat
  deriving DecidableEq, Repr

/-- A match table created by TABLE_CREATE (R513). -/
structure MatchTable where
  kind : Nat := 0
  hbm : Bool := false
  family : Nat := 0
  seed1 : Nat := 0
  seed2 : Nat := 0
  count : Nat := 0
  entries : List Entry := []
  deriving DecidableEq, Repr

/-- A TCAM entry with its action (R178): slot bits [639:636] apart from the other value and mask bits. -/
structure TcamEntry where
  slots : Nat := 0
  value : List (BitVec 8) := []
  mask : List (BitVec 8) := []
  action : Nat := 0
  deriving DecidableEq, Repr

/-- A flow entry (R174). -/
structure FlowEntry where
  valid : Bool := false
  key : List (BitVec 8) := []
  action : Nat := 0
  pkts : Nat := 0
  bytes : Nat := 0
  lastDrip : Nat := 0
  progState : Nat := 0
  deriving DecidableEq, Repr

/-- A counter pair (R180). -/
structure CtrPair where
  pkts : Nat := 0
  bytes : Nat := 0
  deriving DecidableEq, Repr

/-- A commit whose checks passed, waiting for its drip boundary (R192). -/
structure CommitReq where
  fn : Nat
  ver : Nat
  deriving DecidableEq, Repr

/-- A packet waiting in the crypto unit at point 1, 2 or 3 of R364. -/
structure CryWork where
  pkt : Pkt
  point : Nat
  deriving DecidableEq, Repr

/-- Parse cores, match stages and ruleset versions (spec chapter 04). -/
structure Path where
  nextId : Nat := 0
  wait : List Pkt := []
  cores : Map ParseCore := []
  inMatch : List InMatch := []
  versions : Map Version := []
  commit : Option CommitReq := none
  settling : List Nat := []
  clearing : List Nat := []
  tables : Map MatchTable := []
  ctrRanges : List (Nat × Nat) := []
  counters : Map CtrPair := []
  tcam : Map TcamEntry := []
  flow : Map FlowEntry := []
  flowCache : Map (Option Nat) := []
  sramUnits : Nat := 0
  hbmBytes : Nat := 0
  steerNext : Map (BitVec 64) := []
  retiredPlaces : List (Nat × Nat) := []
  cry : List CryWork := []
  toGal : List (Nat × Pkt) := []
  toTm : List Pkt := []
  cpuQueue : List Pkt := []
  stoQueue : List Pkt := []
  deriving DecidableEq, Repr

/-- A loop being run: word index of its first and last body instruction, iterations still to begin (R284). -/
structure LoopFrame where
  first : Nat
  last : Nat
  left : Nat
  deriving DecidableEq, Repr

/-- A sump access that waits (R231, R232): write or read, the sump, and for a write its data and tag. -/
structure SumpWait where
  put : Bool
  sump : Nat
  data : Nat := 0
  tag : Nat := 0
  d : Nat := 0
  a : Nat := 0
  deriving DecidableEq, Repr

/-- One engine thread beside its PE_THREAD register (R208-R216, R256, R285). `ctxs` is its context queue, whose head is
the packet it runs while `running`, and which has met its policy already while `gone` (R679); `aborted` after a sump abort
during a halt (R682); `buf` its current working buffer; `starting` holds in the start program; `before`,
`beforeHalt` and `beforeWait` are the states that SUPERVISOR, a halt and a wait end in. -/
structure Thread where
  g : Map (BitVec 64) := []
  loops : List LoopFrame := []
  rets : List Nat := []
  buf : Nat := 0
  ctxs : List Pkt := []
  running : Bool := false
  gone : Bool := false
  aborted : Bool := false
  starting : Bool := false
  lock : Option Nat := none
  lockAsk : Option Nat := none
  overrun : Bool := false
  waitMask : Nat := 0
  waitCons : Bool := false
  waitDest : Nat := 0
  sump : Option SumpWait := none
  loads : List (Nat × BitVec 64) := []
  before : Nat := 0
  beforeHalt : Nat := 0
  beforeWait : Nat := 0
  savedPc : Nat := 0
  savedKind : Nat := 0
  savedFrom : Nat := 0
  savedMask : Nat := 0
  savedCons : Bool := false
  savedDest : Nat := 0
  savedSump : Option SumpWait := none
  savedLoops : List LoopFrame := []
  savedRets : List Nat := []
  supCause : Nat := 0
  deriving DecidableEq, Repr

/-- One physical engine beside its registers (R203-R216, R257): `armed` for breakpoints (R675), `resuming` until the drip
boundary after a resume (R680). -/
structure Engine where
  started : Bool := false
  shared : Map (BitVec 64) := []
  armed : Bool := false
  resuming : Bool := false
  deriving DecidableEq, Repr

/-- A hardware fault whose fault-ring entry is not yet written (R311-R317, R641): the engine check (`active` until the
engine returns or is retired) and the outcomes known so far. -/
structure HwFault where
  eng : Nat
  thread : Nat
  cause : Nat
  pc : Nat
  corr : Nat
  drip : Nat
  aligned : Bool
  moved : Nat := 0
  reUnit : Nat := 0
  lower : Option Nat := none
  upper : Option Nat := none
  snap : Nat := 0
  sparesOut : Bool := false
  active : Bool := true
  started : Bool := false
  drips : Nat := 0
  result : Option Bool := none
  deriving DecidableEq, Repr

/-- A packet whose chain has ended and that waits for the dispatcher (R247, R248): ending 0 HANDOFF, 1 RECIRC, 2 PUNT,
3 DROP. -/
structure Ended where
  pkt : Pkt
  ending : Nat
  waited : Bool := false
  unit : Nat := 0
  deriving DecidableEq, Repr

/-- A lock request that waits: the requester's unit address and the cycle of its request (R237, R553). -/
structure LockWaiter where
  unit : Nat
  stamp : Nat
  deriving DecidableEq, Repr

/-- One gallery (R221-R248, R291-R300, R311-R317). `stalled` holds admitted packets that found no context (R245, R246);
`shareRes` and `shareUsed` what DSP_SHARE_DATA shows. -/
structure Gallery where
  input : List Pkt := []
  assign : Nat := 0
  orderSeq : Map Nat := []
  stalled : List Pkt := []
  ended : List Ended := []
  lockHolder : Map Nat := []
  lockWait : Map (List LockWaiter) := []
  shareUsed : Map Nat := []
  hws : List HwFault := []
  badLines : List Nat := []
  deriving DecidableEq, Repr

/-- Engines and galleries (spec chapters 05 and 06): engine data memory of engine k at k * 0x8000, gallery memory of
gallery g at g * 0x100000, the tag of word w of sump k at k * 512 + w (the word itself is in gallery memory). `shares` holds
the ENGINE_SHARE values of the current drip's admission; `tick24` says that a drip boundary has set event bit 24 of every
engine, and `cleared24` which engines have had theirs cleared since. -/
structure Engines where
  gal : Map Gallery := []
  eng : Map Engine := []
  thr : Map Thread := []
  dmem : Mem := []
  gmem : Mem := []
  tags : Map Nat := []
  shares : Map Nat := []
  tick24 : Bool := false
  cleared24 : List Nat := []
  deriving DecidableEq, Repr

end Sys2Proof.Machine
end

