-- ==== Sys2Proof/Machine/TypesPort.lean ====
section
/-! DEFINITION. Machine/TypesPort.lean: the state of the traffic manager (spec chapter 08) and of the Ethernet ports, the
module cages, the management port and NC-SI (spec chapter 14) beside their registers. -/

namespace Sys2Proof.Machine

/-- A packet in a traffic-manager queue: the cells it occupies and the whole nanosecond of its admission. -/
structure TmPkt where
  pkt : Pkt
  cells : Nat
  since : Nat
  deriving DecidableEq, Repr

/-- A source held back on account of a queue in back-pressure (R332). -/
inductive HoldSrc where
  | host (fn key : Nat)
  | port (p prio : Nat)
  deriving DecidableEq, Repr

/-- A traffic-manager queue (R328-R343, R357): `occ` its cells, `deficit` and `fresh` of the round robin, `tok` its bucket
in units of 2^-8 byte. -/
structure TmQueue where
  pkts : List TmPkt := []
  occ : Nat := 0
  deficit : Int := 0
  fresh : Bool := false
  tok : Int := 0
  backp : Bool := false
  held : List HoldSrc := []
  txPkts : Nat := 0
  txBytes : Nat := 0
  drops : Nat := 0
  deriving DecidableEq, Repr

/-- A group. -/
structure TmGroup where
  occ : Nat := 0
  deficit : Int := 0
  fresh : Bool := false
  tok : Int := 0
  deriving DecidableEq, Repr

/-- The two buckets of a policer (R336). -/
structure PolBkt where
  tcb : Int := 0
  tpb : Int := 0
  deriving DecidableEq, Repr

/-- A committed gate list: BASE_TIME, CYCLE_TIME, start instant once known (whole TAI ns), and its (states, interval)
entries (R345, R348, R349). -/
structure GateList where
  base : Nat
  cycle : Nat
  start : Option Nat
  entries : List (Nat × Nat)
  deriving DecidableEq, Repr

/-- Gates of one port: operating and waiting list, and the lists being copied with the functions that wait for them. -/
structure GatePort where
  oper : Option GateList := none
  pend : Option GateList := none
  copying : List (Nat × GateList) := []
  deriving DecidableEq, Repr

/-- A sample set: next record, PHASE, and by queue the largest sojourn of a frame sent since the last round (R354-R357). -/
structure SampleSet where
  next : Nat := 0
  phase : Bool := true
  maxs : Map Nat := []
  deriving DecidableEq, Repr

/-- The correction a transparent clock owes to a follow-up message: instance, port the event message left by (8: any),
message type awaited, sequenceId, port identity, correction in units of 2^-16 ns (R115). -/
structure TcCorr where
  inst : Nat
  port : Nat
  kind : Nat
  seq : Nat
  src : Nat
  corr : Int
  deriving DecidableEq, Repr

/-- The traffic manager. `tcCorr` and `tcHeld` hold what transparent clocks owe and the follow-up messages that await their
event message with their queue (R115). `tbl` holds the configuration entries by table * 2^20 + index; `eff` the values the shares and
shapers use since the last drip boundary (R333, R341); `qOrder` and `gOrder` the round order of the queues and groups
that hold a packet (R342). -/
structure Tm where
  tbl : Map Nat := []
  eff : Map Nat := []
  queues : Map TmQueue := []
  groups : Map TmGroup := []
  portTok : Map Int := []
  qOrder : List Nat := []
  gOrder : List Nat := []
  pol : Map PolBkt := []
  polFill : List Nat := []
  redPkts : Map Nat := []
  gates : Map GatePort := []
  samples : Map SampleSet := []
  tcCorr : List TcCorr := []
  tcHeld : List (Nat × Pkt) := []
  deriving DecidableEq, Repr

/-- A frame being sent by a port, or preempted: its queue, packet, cells, start in units of 2^-16 ns, whether it waits for
the SecY, whether its end will be inverted (R573), and whether it is preemptable. -/
structure TxFrame where
  q : Nat
  pkt : Pkt
  cells : Nat
  start : Int
  secy : Bool
  stomp : Bool
  preemptable : Bool
  sent : Nat := 0
  deriving DecidableEq, Repr

/-- A received frame without FCS that waits for the port's SecY (R383): arrival stamp, whether its FCS failed. -/
structure RxFrame where
  data : List (BitVec 8)
  stamp : Int
  bad : Bool
  deriving DecidableEq, Repr

/-- A frame that belongs to no class and waits to be sent (R574): a PFC frame or a frame of the management controller. -/
inductive CtlFrame where
  | pfc (vector : Nat) (times : List Nat)
  | pass (chan : Nat) (data : List (BitVec 8))
  deriving DecidableEq, Repr

/-- One Ethernet port beside its registers (R560-R581). `locked` is block lock, lane alignment and FEC lock together;
`calWait` a link-up whose calibration runs (R98); `pause` the instant each priority's pause ends; `heldPrio` the
priorities for which XOFF stands; `down` a port a cage fault or removal holds down (R585); `ctl` MAC control frames and
pass-through frames waiting for the frame being sent to end (R574). -/
structure Port where
  locked : Bool := false
  calWait : Bool := false
  pause : Map Int := []
  heldPrio : List Nat := []
  trainFails : Nat := 0
  verifyTries : Nat := 0
  down : Bool := false
  tx : Option TxFrame := none
  frag : Option TxFrame := none
  ctl : List CtlFrame := []
  secyRx : List RxFrame := []
  deriving DecidableEq, Repr

/-- A module cage: whether an I2C transfer has failed once and is to be repeated, and FAULT until reinsertion (R585). -/
structure Cage where
  retry : Bool := false
  fault : Bool := false
  deriving DecidableEq, Repr

/-- One NC-SI channel (R589-R592): initial state, MAC filters, broadcast and multicast filters with their masks, VLAN
filters and mode, AEN enables, pass-through frames that wait for their gate, statistics. -/
structure NcChan where
  ready : Bool := false
  macs : Map Nat := []
  bcast : Option Nat := none
  mcast : Option Nat := none
  vlans : Map Nat := []
  vlanMode : Nat := 0
  aen : Nat := 0
  aenMc : Nat := 0
  wait : List (List (BitVec 8)) := []
  rxBmc : Nat := 0
  txBmc : Nat := 0
  rxDrop : Nat := 0
  txDrop : Nat := 0
  deriving DecidableEq, Repr

/-- NC-SI package state: received frames waiting to go to the controller (channel, frame) and command statistics. -/
structure NcPkg where
  chans : Map NcChan := []
  buf : List (Nat × List (BitVec 8)) := []
  cmds : Nat := 0
  sumErrs : Nat := 0
  unsupported : Nat := 0
  deriving DecidableEq, Repr

/-- Ports, cages and the management links; `mgmtMac` and `mgmtMc` the management port's station and multicast addresses
(R588), `mgmtRx` the frames control firmware has received on it. -/
structure Ports where
  port : Map Port := []
  cage : Map Cage := []
  nc : NcPkg := {}
  mgmtRx : List (List (BitVec 8)) := []
  mgmtMac : Nat := 0
  mgmtMc : List Nat := []
  deriving DecidableEq, Repr

end Sys2Proof.Machine
end

