-- ==== Sys2Proof/Machine/TypesStorage.lean ====
section
/-! DEFINITION. Machine/TypesStorage.lean: the state of the storage and RDMA unit (spec chapter 10). -/

namespace Sys2Proof.Machine

/-- An emulated controller (R395-R401): KIND, owner, values of features 07h, 08h and 0Bh, identifiers of Asynchronous Event
Requests not yet completed, event values that wait for one, and completion entries that wait for room in their completion
queue (completion queue, dword 0, dword 1 upward as a number without the phase). -/
structure Ctrl where
  kind : Nat := 0
  owner : Nat := 0
  feat : Map Nat := []
  aers : List Nat := []
  events : List Nat := []
  hold : List (Nat × Nat) := []
  deriving DecidableEq, Repr

/-- States of an NVMe/TCP connection or a back-end queue pair (R413, R415): SYN sent, ICReq sent, ready for Fabrics Connect,
Connect sent, up. -/
inductive ConnState where
  | down | syn | icreq | ready | connecting | up
  deriving DecidableEq, Repr

/-- A command of a connection that the remote end has not completed: its tag and which command's which attempt it is. -/
structure TagUse where
  tag : Nat
  cmd : Nat
  attempt : Nat
  deriving DecidableEq, Repr

/-- An NVMe/TCP connection context (R394, R413-R417) or the NVMe-oF side of back-end queue pair q at key 65,536 + q: path, number on the path (0 the admin queue),
state, digests in force, padding and data limits the controller chose, TCP numbers, segments not yet acknowledged (sequence
number, bytes), retransmissions so far, bytes of an unfinished PDU, PDUs received whole and not yet acted on, tags. -/
structure Conn where
  path : Nat := 0
  num : Nat := 0
  st : ConnState := .down
  hdgst : Bool := false
  ddgst : Bool := false
  cpda : Nat := 0
  maxData : Nat := 0
  failed : Bool := false
  snd : Nat := 0
  rcv : Nat := 0
  unacked : List (Nat × List (BitVec 8)) := []
  retries : Nat := 0
  rx : List (BitVec 8) := []
  inbox : List (List (BitVec 8)) := []
  tags : List TagUse := []
  lastTag : Nat := 0
  aliveTag : Option Nat := none
  tmQueue : Nat := 0
  tc : Nat := 0
  deriving DecidableEq, Repr

/-- A region a key admits (R414, R427): its key, whether it is in HBM staging, attachment of a host region, first address, length. -/
structure Region where
  key : Nat
  staging : Bool
  att : Nat
  base : Nat
  len : Nat
  deriving DecidableEq, Repr

/-- A RoCEv2 queue-pair context (R394, R423-R425): `conn` the connection it carries when it serves a path;
`into` the key, address and bytes left of an RDMA WRITE in progress, `got` the bytes of a SEND in progress. -/
structure Qp where
  valid : Bool := false
  ud : Bool := false
  error : Bool := false
  owner : Option Nat := none
  conn : Option Nat := none
  port : Nat := 0
  v6 : Bool := false
  peer : Nat := 0
  mtu : Nat := 1024
  retryCnt : Nat := 0
  rnrRetry : Nat := 0
  ackTo : Nat := 1
  dqpn : Nat := 0
  snd : Nat := 0
  unacked : List (Nat × List (BitVec 8)) := []
  retries : Nat := 0
  rnrs : Nat := 0
  waiting : List (List (BitVec 8)) := []
  epsn : Nat := 0
  msn : Nat := 0
  gap : Bool := false
  into : Option (Nat × Nat × Nat) := none
  got : List (BitVec 8) := []
  inbox : List (List (BitVec 8) × Option Nat) := []
  regions : List Region := []
  rate : Nat := 0
  target : Nat := 0
  alpha : Nat := 0
  stage : Nat := 0
  lastCut : Nat := 0
  lastCnp : Nat := 0
  cnpSent : Option Nat := none
  tokens : Int := 0
  tmQueue : Nat := 0
  tc : Nat := 0
  deriving DecidableEq, Repr

/-- Where an attempt of a storage command stands (R403, R418): waiting in front of a connection, issued on a connection under a tag. -/
inductive Attempt where
  | waiting (conn : Nat)
  | issued (conn tag : Nat)
  deriving DecidableEq, Repr

/-- A tenant's storage command from its fetch to its completion (R399-R422): function, generation, whether it came on a
virtqueue, its queue and identifier, the back-end operation, its range, the host buffers of its data, the address of its
metadata or status byte, protection fields, the back-end bytes of a write, bytes of a read received so far, its path, its
attempt, and what the fault ring will say of it. `retrans` and `lost` describe the first attempt's end. -/
structure StoCmd where
  id : Nat
  fn : Nat
  gen : Nat
  virt : Bool
  q : Nat
  cid : Nat
  op : Nat
  ns : Nat
  slba : Nat
  nlb : Nat
  cdw11 : Nat := 0
  cdw12 : Nat := 0
  segs : List (Nat × Nat) := []
  mdAddr : Nat := 0
  pract : Bool := false
  prchk : Nat := 0
  ilbrt : Nat := 0
  lbat : Nat := 0
  lbatm : Nat := 0
  payload : List (BitVec 8) := []
  got : Map (BitVec 8) := []
  gotLen : Nat := 0
  path : Nat := 0
  attempt : Nat := 1
  place : Attempt
  key : Nat := 0
  retrans : Nat := 0
  lost : Bool := false
  corr : Nat := 0
  wLen : Nat := 0
  deriving DecidableEq, Repr

/-- The storage and RDMA unit. Namespace and path contexts are numbers of 64 bytes in the layout of R428; `pathConns` the
connections of a path, the admin queue's first; `nsKeys` the XTS keys of R412. -/
structure Storage where
  ctrls : Map (Option Ctrl) := []
  ns : Map Nat := []
  nsKeys : Map Nat := []
  paths : Map Nat := []
  pathConns : Map (List Nat) := []
  conns : Map Conn := []
  qps : Map Qp := []
  cmds : List StoCmd := []
  nextCmd : Nat := 0
  staging : Map (List (BitVec 8)) := []
  deriving DecidableEq, Repr

end Sys2Proof.Machine
end

