-- ==== Sys2Proof/Machine/TypesTime.lean ====
section
/-! DEFINITION. Machine/TypesTime.lean: the state of Flowstone and of the units that carry time (spec chapters 02 and
03) beside their registers. Offsets, delays and stamps are signed numbers in units of 2^-16 ns. -/

namespace Sys2Proof.Machine

/-- A measurement a time source has completed since the last vote boundary or step (R73). -/
structure Meas where
  offset : Int
  err : Nat
  deriving DecidableEq, Repr

/-- A TIME_STEP command accepted and waiting for its drip boundary (R89, R91); `fn` is the issuer. -/
structure StepReq where
  fn : Nat
  abs : Bool
  sec : Nat
  ns : Nat
  frac : Nat
  rel : Int
  deriving DecidableEq, Repr

/-- Flowstone (R47-R94): the time counter, the drip, the pending decisions of the state machine, the staged values of
TIME_SOURCE_SET and the measurements of the vote. -/
structure Flow where
  sec : Nat := 0
  ns : Nat := 0
  frac : Nat := 0
  drip : Nat := 0
  cycle : Nat := 0
  len : Nat := 512
  alignAdd : Nat := 0
  aligning : Bool := false
  alignNext : Bool := false
  plainNext : Bool := false
  lockDecided : Bool := false
  relockWait : Bool := false
  relockOffset : Int := 0
  lossCount : Nat := 0
  lossValid : Bool := false
  realign : Option Nat := none
  adjNext : Option Int := none
  staged : Map (Option Nat) := []
  applyFns : List Nat := []
  stepReqs : List StepReq := []
  voteDue : Bool := false
  atVote : Bool := false
  firstVoteAfterStep : Bool := false
  meas : Map (Option Meas) := []
  leftState : Map Nat := []
  holdRuns : List (Int × Nat) := []
  oscReturn : Bool := false
  refEth : Bool := false
  hybridActive : Bool := false
  offsets : List Int := []
  sinceSel : Nat := 0
  agree : Nat := 0
  srcErr : Nat := 0
  localErr : Nat := 0
  holdErr : Nat := 0
  traceSeq : Nat := 0
  bound : Nat := 4294967295
  fwSnapSec : Nat := 0
  fwSnapNs : Nat := 0
  fwSnapDrip : Nat := 0
  fwSnapSeq : Nat := 0
  deriving DecidableEq, Repr

/-- The Announce data of a port's foreign master, and of the parent (R110, R142). -/
structure Announce where
  src : Nat := 0
  gmIdentity : Nat := 0
  priority1 : Nat := 0
  gmClass : Nat := 255
  gmAccuracy : Nat := 254
  gmVariance : Nat := 0
  priority2 : Nat := 0
  steps : Nat := 0
  timeSource : Nat := 0
  timeTraceable : Bool := false
  freqTraceable : Bool := false
  utcOffset : Int := 37
  utcValid : Bool := false
  deriving DecidableEq, Repr

/-- A Sync received and waiting for its Follow_Up (R110). -/
structure SyncHeld where
  port : Nat
  src : Nat
  seq : Nat
  t2 : Int
  corr : Int
  deriving DecidableEq, Repr

/-- A Follow_Up, Delay_Resp or Pdelay_Resp_Follow_Up held without its match (R115, R122). -/
structure PtpHeld where
  port : Nat
  kind : Nat
  seq : Nat
  src : Nat
  deriving DecidableEq, Repr

/-- A unicast grant the engine has given (as master) or holds (as client) (R120, R121). -/
structure Grant where
  client : Nat
  kind : Nat
  seconds : Nat
  deriving DecidableEq, Repr

/-- Peer-delay measurement of one port (R110). -/
structure PeerDelay where
  seq : Nat := 0
  t1 : Int := 0
  t4 : Int := 0
  turn : Int := 0
  waitFup : Bool := false
  sent : Bool := false
  mean : Int := 0
  deriving DecidableEq, Repr

/-- One PTP instance (R104-R122). -/
structure PtpInst where
  parentPort : Option Nat := none
  parent : Announce := {}
  foreign : Map Announce := []
  heldSync : Option SyncHeld := none
  t1 : Int := 0
  t2 : Int := 0
  syncOk : Bool := false
  meanDelay : Int := 0
  reqSeq : Nat := 0
  reqT3 : Option Int := none
  reqPort : Nat := 0
  minDelayReq : Int := -3
  peer : Map PeerDelay := []
  exchanges : List (Int × Int) := []
  unmatched : List PtpHeld := []
  syncSeq : Nat := 0
  annSeq : Nat := 0
  given : List Grant := []
  held : List Grant := []
  denied : List Grant := []
  authFails : List Nat := []
  msgCount : Nat := 0
  deriving DecidableEq, Repr

/-- Inputs of the frequency DPLL and ESMC state (R124-R127): QL per input 0-11, whether its signal is present, hold-off
and wait-to-restore running, ESMC frames counted in the current second. -/
structure SynceIn where
  ql : Nat := 15
  failed : Bool := false
  signal : Bool := false
  holdOff : Bool := false
  wtr : Bool := false
  frames : Nat := 0
  deriving DecidableEq, Repr

/-- One PPS output (R128, R129). -/
structure PpsOut where
  high : Bool := false
  noPulseBefore : Option Int := none
  pulsed : List (Int × Int) := []
  deriving DecidableEq, Repr

/-- One PPS input and the time-of-day pairing (R130-R133). -/
structure PpsIn where
  lastEdge : Option Int := none
  edge : Option Int := none
  todSec : Option Int := none
  lastTod : Option Int := none
  named : Option Int := none
  deriving DecidableEq, Repr

/-- The PTM requester of one attachment (R135-R138). -/
structure Ptm where
  open_ : Option Int := none
  bad : Nat := 0
  pairs : List (Int × Int) := []
  hostT : Int := 0
  devT : Int := 0
  rate : Int := 0
  deriving DecidableEq, Repr

/-- The units that carry time. -/
structure Carry where
  inst : Map PtpInst := []
  syncIn : Map SynceIn := []
  ppsOut : Map PpsOut := []
  ppsIn : Map PpsIn := []
  ptm : Map Ptm := []
  fdpllRef : Bool := false
  deriving DecidableEq, Repr

end Sys2Proof.Machine
end

