-- ==== Sys2Proof/Machine/TypesUnits.lean ====
section
/-! DEFINITION. Machine/TypesUnits.lean: the state of Grotto and of the units beside the packet path. -/

namespace Sys2Proof.Machine

/-- One MRAM copy of a principal's counter record (R612): LAST, sequence, and whether its CRC32C holds. -/
structure CtrRec where
  last : Nat := 0
  seq : Nat := 0
  valid : Bool := true
  deriving DecidableEq, Repr

/-- An SPDM secure session (R602, R603): its endpoint, whether FINISH has established it, its heartbeat period in seconds. -/
structure SpdmSess where
  conn : Nat
  est : Bool := false
  beat : Nat := 0
  deriving DecidableEq, Repr

/-- An SPDM connection (R602, R603): 0 nothing yet, 1 VERSION, 2 CAPABILITIES, 3 ALGORITHMS answered; the version in use. -/
structure SpdmConn where
  phase : Nat := 0
  ver : Nat := 0
  deriving DecidableEq, Repr

/-- Grotto's own memories (R595-R627): principal keys by slot, counter records at 2k and 2k + 1 for slot k, PTP keys by slot, the
generation of the tenant-import key; SPDM connections by endpoint (0 to 3 DOE of an attachment, 4 SMBus, 5 to 8 VDM of an attachment)
and sessions by number; IDE key sets at (9a + s) * 2 + K and those armed. LIFECYCLE, rights, BOOT_BANK and the minimum SVNs stand
in the GRT registers. -/
structure Grotto where
  prinKey : Map Nat := []
  ctrs : Map CtrRec := []
  ptpKey : Map Nat := []
  tik : Nat := 0
  conns : Map SpdmConn := []
  sess : Map (Option SpdmSess) := []
  ideKeys : Map (Option Nat) := []
  ideArmed : List Nat := []
  deriving DecidableEq, Repr

/-- A Lantern step in progress (R681): the thread and the instructions it may still issue. -/
structure LntStep where
  gal : Nat
  eng : Nat
  thr : Nat
  left : Nat
  deriving DecidableEq, Repr

/-- The board side of the device (R630, R655-R698): PWR_GOOD, SYS_RESET_N, whether the synthesiser has locked, whether the core reset is asserted, a device reset that
is due with its cause, whether THERMTRIP_N is driven, clocks present, the flash (each byte exclusive-ored with 0xFF, so that an
unlisted byte is erased), the banks already tried at this boot, whether the control firmware image has passed, the control cores
halted by Lantern, its step in progress, the instruction of the test access port, engines
parked by each shed step (newest first: gallery, engine, position), THERMAL entries kept in MRAM (temperature, drip), and the
subsystem identifiers of the configuration block. -/
structure Board where
  powered : Bool := true
  sysResetN : Bool := true
  synth : Bool := true
  held : Bool := false
  resetDue : Option Nat := none
  tripped : Bool := false
  ethClk : Bool := true
  mgmtClk : Bool := true
  ncsiClk : Bool := true
  flash : Mem := []
  tried : List Nat := []
  ctrlOk : Bool := false
  coreHalted : List Nat := []
  step : Option LntStep := none
  tapIr : Nat := 2
  parked : List (List (Nat × Nat × Nat)) := []
  tripLog : List (Nat × Nat) := []
  subsys : Nat := 0
  deriving DecidableEq, Repr

/-- The crypto unit (R361-R393): bytes 0x00-0x7F of each session context as one number, its replay bitmap, the key material
Grotto gave it, the bytes of a TLS session's current record, the TLS_RX sessions whose record header is confirmed, and
the sessions whose context is on chip (R363). -/
structure Crypto where
  ctx : Map Nat := []
  replay : Map Nat := []
  keys : Map Nat := []
  recs : Map (List (BitVec 8)) := []
  confirmed : List Nat := []
  cache : List Nat := []
  deriving DecidableEq, Repr

/-- A start request of a Rope channel (R524, R539). -/
structure RopeReq where
  entry : Nat
  p0 : Nat
  p1 : Nat
  p2 : Nat
  p3 : Nat
  gen : Nat := 0
  deriving DecidableEq, Repr

/-- A chunk of a MOVE (R534-R536): spaces and addresses, whether its read waits for every earlier write, whether its MOVE
writes one record of 32 bytes or less, whether its read has started, and its data once read. -/
structure RopeChunk where
  id : Nat
  ss : Nat
  sa : Nat
  ds : Nat
  da : Nat
  len : Nat
  fence : Bool := false
  small : Bool := false
  asked : Bool := false
  data : Option (List (BitVec 8)) := none
  deriving DecidableEq, Repr

/-- A loop of a rope program: first and last body instruction, runs left including the present one (R531). -/
structure RopeLoop where
  first : Nat
  last : Nat
  left : Nat
  deriving DecidableEq, Repr

/-- One Rope channel beside its registers (R524-R539): p0 to p7, its start queue, requesters that wait for room in it, the
request it runs, loops innermost first, its WAIT, and its chunks in program order. -/
structure RopeChan where
  p : List Nat := []
  queue : List RopeReq := []
  waitq : List RopeReq := []
  run : Option RopeReq := none
  loops : List RopeLoop := []
  waitMask : Nat := 0
  waitWrites : Bool := false
  waitCons : Bool := false
  waitLeft : Nat := 0
  chunks : List RopeChunk := []
  nextChunk : Nat := 0
  due : Option (Nat × Nat) := none
  deriving DecidableEq, Repr

/-- Rope (R523-R540): channels, the program stores (instruction i of engine e at e * 4096 + i, W0 + W1 * 2^64), the shared
buffers (byte b of engine e at e * 2^21 + b), packets placed for a channel by handle, the channel and entry that serve
function f's receive queue q at f * 4096 + q, words sent to control cores and to the queue manager (newest first), and the
round-robin pointers of the read and write engines. -/
structure Rope where
  chans : Map RopeChan := []
  prog : Map Nat := []
  buf : Mem := []
  pkts : Map (List (BitVec 8)) := []
  serve : Map (Option (Nat × Nat)) := []
  notices : List (Nat × Nat) := []
  words : List (Nat × Nat × Nat × Nat) := []
  rrRead : Map Nat := []
  rrWrite : Map Nat := []
  deriving DecidableEq, Repr

/-- Mailboxes beside their registers (R543, R546): reset counts of the control cores at 0 to 15 and of Grotto at 16, and
the management PFs whose receiver or empty interrupt is due. -/
structure Mailbox where
  gens : Map Nat := []
  rxDue : Map Bool := []
  emptyDue : Map Bool := []
  deriving DecidableEq, Repr

end Sys2Proof.Machine
end

