-- ==== Sys2Proof/Machine/State.lean ====
section
/-! DEFINITION. Machine/State.lean: the whole state of the device as plain data, its faults and refusals, and the state
after reset. -/

namespace Sys2Proof.Machine

/-- Why a step may stop with a fault. -/
inductive Fault where
  /-- Raised by no command of this model: every command the spec gives an effect answers a next state (safe). -/
  | none
  deriving DecidableEq, Repr

/-- Why a step may be refused. -/
inductive Refusal where
  /-- The command has no meaning in the model yet; raised by the dispatch alone (safe). -/
  | notModelled (mnemonic : String)
  deriving DecidableEq, Repr

/-- The device. Registers stand in `regs` by BAR 0 offset (an unlisted register reads its reset value); host memory in
`mem`, the byte of attachment a at address x at key a * 2^64 + x; HBM in `hbm`. -/
structure State where
  pending : List Instr := []
  out : List Emit := []
  free : Nat := 0
  regs : Map Word := []
  split : Map Split := []
  mem : Mem := []
  hbm : Mem := []
  fst : Flow := {}
  car : Carry := {}
  funcs : Map Func := []
  reads : List Read := []
  readWait : List Read := []
  quar : List Quar := []
  links : Map Link := []
  adminOrder : List Nat := []
  held : List (Nat × List (BitVec 8)) := []
  blkInt : Map Bool := []
  path : Path := {}
  eng : Engines := {}
  grt : Grotto := {}
  cry : Crypto := {}
  tm : Tm := {}
  prt : Ports := {}
  sto : Storage := {}
  rope : Rope := {}
  mbx : Mailbox := {}
  board : Board := {}
  deriving DecidableEq, Repr

/-- What a meaning answers. -/
abbrev Out := Host.Outcome State Fault Refusal

/-- A management PF whose attachment is present: created, with the allotments of R480 (R478). -/
def mgmtAtReset : Func := { created := true, qpAllot := 256, vecAllot := 64, vecTable := 64 }

/-- The device right after release of the core reset: one attachment of sixteen lanes (log entry 14), its management PF created. -/
def State.reset : State := { funcs := [(0, mgmtAtReset)] }

end Sys2Proof.Machine
end

