-- ==== Sys2Proof/Machine/Ops.lean ====
section
/-! DEFINITION. Machine/Ops.lean: the named operations every command is built on: registers and fields, counters
(R644-R646), block interrupts (R718), the fault ring (R629-R643), functions, rings, event entries (R505, R506), interrupt
messages (R453-R457) and the counter's value as a compact timestamp. -/

namespace Sys2Proof.Machine

open Sys2Proof

set_option cleanup.letToHave false

/-! Registers -/

/-- Reset values that R541, R432 and the register tables give by instance or from the straps (all straps 0 but
RECOVERY_N, one attachment of sixteen lanes; log entries 13 and 14). -/
def regSpecial (off : Nat) : Option Word :=
  if off = R.GLB_STRAPS then some 0x800#64
  else if off = R.HIF_STATUS then some 0x10#64
  else if off = R.HIF_VF_RANGE 0 then some (BitVec.ofNat 64 (2048 * 2 ^ 16))
  else if off = R.QMG_POOL then some (BitVec.ofNat 64 (65280 + 16320 * 2 ^ 17 + 65536 * 2 ^ 32))
  else if R.PRS_CORE_STATUS 256 ≤ off ∧ off ≤ R.PRS_CORE_STATUS 271 then some 1#64
  else if R.MAT_STEER 0 ≤ off ∧ off ≤ R.MAT_STEER 511 ∧ off % 8 = 0 then
    let k := (off - R.MAT_STEER 0) / 8
    let g := 8 * k % 64
    some (BitVec.ofNat 64 (g + (g + 1) * 2 ^ 8 + (g + 2) * 2 ^ 16 + (g + 3) * 2 ^ 24 + (g + 4) * 2 ^ 32
      + (g + 5) * 2 ^ 40 + (g + 6) * 2 ^ 48 + (g + 7) * 2 ^ 56))
  else if 0x1000000 ≤ off ∧ off < 0x1400000 ∧ 0x2000 ≤ off % 0x10000 ∧ off % 0x10000 < 0xA800 ∧ off % 0x800 = 0 then
    let e := (off % 0x10000 - 0x2000) / 0x800
    some (BitVec.ofNat 64 (e * 2 ^ 8 + (if e = 16 then 1 else 0)))
  else if 0x2010000 ≤ off ∧ off < 0x2018000 ∧ off % 0x40 = 8 ∧ 62 ≤ (off - 0x2010000) / 0x40 % 64 then some 5#64
  else if 0x2100000 ≤ off ∧ off < 0x2110000 then
    let m := (off - 0x2100000) / 0x1000
    let o := off % 0x1000
    if o = 0x20 then some (BitVec.ofNat 64 (mbxCfgReset m))
    else if 0x100 ≤ o ∧ o < 0x300 ∧ o % 0x10 = 0 then some (BitVec.ofNat 64 (mbxChanReset m ((o - 0x100) / 0x10)))
    else none
  else if off = R.GRT_DSN then some (BitVec.ofNat 64 Config.dsn)
  else if off = R.GRT_DEBUG_NONCE then some (BitVec.ofNat 64 (Config.freeNat 0))
  else none
where
  /-- Receiver kind and index of a mailbox (R541). -/
  mbxCfgReset (m : Nat) : Nat := if m < 4 then m * 2 ^ 4 else if m = 4 then 2 else 1 + (m - 5) * 2 ^ 4
  /-- SECURE, sender kind and sender index of a channel (R541). -/
  mbxChanReset (m c : Nat) : Nat :=
    (if c < 16 then 2 else 0) +
      (if m < 4 then (if c < 16 then 0 else 1 * 2 ^ 2 + (c - 16) * 2 ^ 4)
       else if m = 4 then (if c < 16 then 1 * 2 ^ 2 + c * 2 ^ 4 else 0)
       else if c < 15 then 1 * 2 ^ 2 + c * 2 ^ 4
       else if c = 15 then 2 * 2 ^ 2
       else if c < 20 then 3 * 2 ^ 2 + (c - 16) * 2 ^ 4 else 0)

/-- What the register at an offset holds after reset. -/
def regReset (off : Nat) : Word :=
  match regSpecial off with
  | some v => v
  | none =>
    match findRow (regRowsAt off) off with
    | some r => BitVec.ofNat 64 (fieldsReset r.flds)
    | none => 0

/-- The register at a BAR 0 offset. -/
def State.reg (s : State) (off : Nat) : Word := Map.get s.regs (regReset off) off

/-- Set the register at a BAR 0 offset. -/
def State.setReg (s : State) (off : Nat) (v : Word) : State :=
  { s with regs := Map.set s.regs (regReset off) off v }

/-- A number with its field of `w` bits at `lo` replaced. -/
def putBits (n lo w v : Nat) : Nat := n - bitsOf n lo w * 2 ^ lo + v % 2 ^ w * 2 ^ lo

/-- Read a field. -/
def State.rd (s : State) (f : Fld) : Nat := bitsOf (s.reg f.off).toNat f.lo f.w

/-- Write a field (the device's own write, whatever the access code). -/
def State.wr (s : State) (f : Fld) (v : Nat) : State :=
  s.setReg f.off (BitVec.ofNat 64 (putBits (s.reg f.off).toNat f.lo f.w v))

/-- Read a one-bit field. -/
def State.rdB (s : State) (f : Fld) : Bool := s.rd f == 1

/-- Write a one-bit field. -/
def State.wrB (s : State) (f : Fld) (b : Bool) : State := s.wr f (b2n b)

/-- Read a signed field. -/
def State.rdI (s : State) (f : Fld) : Int := toSigned f.w (s.rd f)

/-- Write a signed field. -/
def State.wrI (s : State) (f : Fld) (i : Int) : State := s.wr f (ofSigned f.w i)

/-- Field `w` bits wide at `lo` of the register at `off`. -/
abbrev fld (off lo w : Nat) : Fld := ⟨off, lo, w⟩

/-- Record an output. -/
def State.emit (s : State) (e : Emit) : State := { s with out := e :: s.out }

/-- A free value (log entry 5) and the state that has used it. -/
def State.fresh (s : State) : Nat × State := (Config.freeNat s.free, { s with free := s.free + 1 })

/-! Block interrupts (R718) -/

/-- Set a bit of a block's INT_STATUS register; the bit going from 0 to 1 where INT_EN[a] enables it makes attachment
a's block message due (R718). -/
def State.raise (s : State) (f : Fld) : State :=
  if s.rdB f then s
  else
    let s1 := s.wr f 1
    let due := fun (t : State) (a : Nat) =>
      if bitOf (t.reg (f.off + 8 + 8 * a)).toNat f.lo then { t with blkInt := Map.set t.blkInt false a true } else t
    due (due (due (due s1 0) 1) 2) 3

/-- Raise bit `i` of a field that has one bit an instance. -/
def State.raiseBit (s : State) (f : Fld) (i : Nat) : State := s.raise ⟨f.off, f.lo + i, 1⟩

/-! Counters (R644-R646) -/

/-- A statistic: 64 bits, wrapping (R644). -/
def State.statAdd (s : State) (off n : Nat) : State :=
  s.setReg off (s.reg off + BitVec.ofNat 64 n)

/-- One more in a statistic. -/
def State.stat (s : State) (off : Nat) : State := s.statAdd off 1

/-- The block code of the register prefix at an offset (R636). -/
def blockCode (off : Nat) : Nat :=
  if off < 0x80000 then 0x00 else if off < 0x100000 then 0x11 else if off < 0x200000 then 0x01
  else if off < 0x400000 then 0x0B else if off < 0x800000 then 0x0C else if off < 0xA00000 then 0x03
  else if off < 0x1000000 then 0x04
  else if off < 0x1800000 then
    (if off % 0x10000 < 0x1000 then 0x05 else if off % 0x10000 < 0x2000 then 0x07 else 0x06)
  else if off < 0x1C00000 then 0x08 else if off < 0x1E00000 then 0x09 else if off < 0x2000000 then 0x0A
  else if off < 0x2100000 then 0x0D else if off < 0x2200000 then 0x0E else if off < 0x2400000 then 0x02
  else if off < 0x2600000 then 0x0F else 0x10

/-- The SAT bit of the INT_STATUS register of the block that holds a counter (R645); Grotto's block has none. -/
def satField (off : Nat) : Option Fld :=
  if off < 0x100000 then none
  else if off < 0x200000 then some F.FST_INT_STATUS_SAT
  else if off < 0x400000 then some F.HIF_INT_STATUS_SAT
  else if off < 0x800000 then some F.QMG_INT_STATUS_SAT
  else if off < 0xA00000 then some F.PRS_INT_STATUS_SAT
  else if off < 0x1000000 then some F.MAT_INT_STATUS_SAT
  else if off < 0x1800000 then some (F.GAL_INT_STATUS_SAT ((off - 0x1000000) / 0x10000))
  else if off < 0x1C00000 then some F.TMG_INT_STATUS_SAT
  else if off < 0x1E00000 then some F.CRY_INT_STATUS_SAT
  else if off < 0x2000000 then some F.STO_INT_STATUS_SAT
  else if off < 0x2100000 then some F.ROPE_INT_STATUS_SAT
  else if off < 0x2200000 then some F.MBX_INT_STATUS_SAT
  else if off < 0x2400000 then some F.PRT_INT_STATUS_SAT
  else if off < 0x2600000 then some F.FLT_INT_STATUS_SAT
  else none

/-- Increment COUNT at bit `lo` of the register at `off`; true when this increment set SAT (R645). -/
def State.cntStep (s : State) (off lo : Nat) : State × Bool :=
  let c := fld off lo 32
  let sat := fld off (lo + 32) 1
  if s.rd c < 0xFFFFFFFF then (s.wr c (s.rd c + 1), false)
  else if s.rdB sat then (s, false)
  else
    let s1 := s.wr sat 1
    (match satField off with
     | some f => s1.raise f
     | none => s1, true)

/-! The fault ring (R629-R643) -/

/-- A fault-ring entry before it is placed (R631). -/
structure FaultRec where
  cls : Nat
  cause : Nat
  unit : Nat
  corr : Nat := 0
  drip : Option Nat := none
  aligned : Option Bool := none
  snapshot : Nat := 0
  lower : Nat := 0
  upper : Nat := 0
  sparesOut : Bool := false
  attach : Option Nat := none
  detail : Nat := 0
  deriving DecidableEq, Repr

/-- Unit addresses of kind 0b11 (R20, R637). -/
def unitOf (cls inst : Nat) : Nat := 3 * 2 ^ 14 + cls % 64 * 2 ^ 8 + inst % 256

/-- The unit address of a thread (R20). -/
def unitThread (g e t : Nat) : Nat := g % 64 * 2 ^ 8 + e % 32 * 2 ^ 3 + t % 8

/-- The four words of an entry, its SEQ being the ring's count at the write (R630, R631). -/
def FaultRec.words (r : FaultRec) (seq : Nat) : List Nat :=
  [ r.cls % 256 + r.cause % 256 * 2 ^ 8 + r.unit % 2 ^ 16 * 2 ^ 16 + r.corr % 2 ^ 32 * 2 ^ 32,
    (r.drip.getD 0) % 2 ^ 64,
    r.snapshot % 2 ^ 32 + r.lower % 8 * 2 ^ 32 + r.upper % 8 * 2 ^ 35 + b2n (r.aligned.getD false) * 2 ^ 38
      + b2n r.sparesOut * 2 ^ 39 + (r.attach.getD 0) % 4 * 2 ^ 40 + b2n r.attach.isSome * 2 ^ 42 + seq % 2 ^ 16 * 2 ^ 48,
    r.detail % 2 ^ 64 ]

/-- FAULT_PENDING of attachment a is set again while FLT_RING_PI differs from its read index (R634). -/
def State.faultPending (s : State) : State :=
  let chk := fun (t : State) (a : Nat) =>
    if (t.rd F.FLT_RING_PI_PI + 2 ^ 32 - t.rd (F.FLT_RING_RD_RD a)) % 2 ^ 32 = 0 then t
    else t.raiseBit F.FLT_INT_STATUS_FAULT_PENDING a
  chk (chk (chk (chk s 0) 1) 2) 3

/-- Place one entry: index PI mod 4,096, PI counts modulo 2^32 (R630). -/
def State.faultPlace (s : State) (r : FaultRec) : State :=
  let pi := s.rd F.FLT_RING_PI_PI
  let r := { r with drip := some (r.drip.getD s.fst.drip),
                    aligned := some (r.aligned.getD (s.rdB F.FST_STATUS_ALIGNED)) }
  let i := pi % 4096
  let w := r.words pi
  let s := s.setReg (R.FLT_RING i 0) (BitVec.ofNat 64 (w.getD 0 0))
  let s := s.setReg (R.FLT_RING i 1) (BitVec.ofNat 64 (w.getD 1 0))
  let s := s.setReg (R.FLT_RING i 2) (BitVec.ofNat 64 (w.getD 2 0))
  let s := s.setReg (R.FLT_RING i 3) (BitVec.ofNat 64 (w.getD 3 0))
  let s := s.wr F.FLT_RING_PI_PI (pi + 1)
  s.wr F.FLT_STATUS_ENTRIES (min 4096 (s.rd F.FLT_STATUS_ENTRIES + 1))

/-- The SATURATED entry of a counter (R635, R636, R717). -/
def satRec (off : Nat) : FaultRec :=
  { cls := 0x0F, cause := blockCode off, unit := unitOf 0x18 (blockCode off), snapshot := 0xFFFFFFFF,
    detail := if off < 0x2600000 then off else off - 0x2600000 }

/-- Apply a function to the state for each element of a list in order. -/
def State.each {α : Type} (s : State) (l : List α) (g : State → α → State) : State := l.foldl g s

/-- An attachment 4,096 or more entries behind has one more lost; a lost counter that saturates writes its own entry by f (R634). -/
def State.ringLose (f : State → FaultRec → State) (pi : Nat) (s : State) (a : Nat) : State :=
  if 4096 ≤ (pi + 2 ^ 32 - s.rd (F.FLT_RING_RD_RD a)) % 2 ^ 32 then
    match s.cntStep (R.FLT_RING_LOST a) 0 with
    | (t, true) => f t (satRec (R.FLT_RING_LOST a))
    | (t, false) => t
  else s

/-- Write one entry and count it lost for attachments too far behind (R634). The writes are bounded by fuel: at most four counters
can saturate. -/
def State.faultFuel (s : State) (r : FaultRec) : Nat → State
  | 0 => (s.faultPlace r).faultPending
  | n + 1 =>
    let pi := s.rd F.FLT_RING_PI_PI
    ((s.faultPlace r).each [0, 1, 2, 3] (State.ringLose (fun t x => t.faultFuel x n) pi)).faultPending

/-- Write one fault-ring entry. -/
def State.fault (s : State) (r : FaultRec) : State := s.faultFuel r 4

/-- An error counter's increment with everything R645 gives it. -/
def State.errAt (s : State) (off lo : Nat) : State :=
  match s.cntStep off lo with
  | (s1, true) => s1.fault (satRec off)
  | (s1, false) => s1

/-- An error counter register's increment. -/
def State.err (s : State) (off : Nat) : State := s.errAt off 0

/-- COUNT of an error counter. -/
def State.cnt (s : State) (off : Nat) : Nat := s.rd (fld off 0 32)

/-- Assign a correlation ID: in increasing order modulo 2^32, skipping 0 (R21). -/
def State.newCorr (s : State) : Nat × State :=
  let c := s.rd F.FLT_CORR_NEXT_CORR
  (c, s.wr F.FLT_CORR_NEXT_CORR (if c = 0xFFFFFFFF then 1 else c + 1))

/-- The ACCESS entry of R635 and R717. -/
def State.accessFault (s : State) (cause inst detailOff rid cnt : Nat) (func : Option Nat) : State :=
  s.fault { cls := 0x0E, cause := cause,
            unit := if cause = 3 then unitOf 0x0D inst else if cause = 4 then unitOf 0x0C inst else unitOf 0x0E inst,
            snapshot := cnt, attach := func,
            detail := detailOff % 2 ^ 32 + rid % 2 ^ 16 * 2 ^ 32 }

/-! The counter -/

/-- TAI of the counter in units of 2^-16 ns (R50). -/
def Flow.now (f : Flow) : Int := ((f.sec * 1000000000 + f.ns) * 65536 + f.frac / 65536 : Nat)

/-- Whole nanoseconds of the counter since the PTP epoch. -/
def Flow.nowNs (f : Flow) : Nat := f.sec * 1000000000 + f.ns

/-- The exported fraction: upper 16 bits (R50). -/
def Flow.frac16 (f : Flow) : Nat := f.frac / 65536

/-! Host memory -/

/-- Key of a host byte of an attachment. -/
def hostKey (att addr : Nat) : Nat := att * 2 ^ 64 + addr % 2 ^ 64

/-- Read `n` bytes of the host memory of an attachment. -/
def State.hostRead (s : State) (att addr n : Nat) : List Byte := Mem.bytes s.mem (hostKey att addr) n

/-- Read a little-endian number of host memory. -/
def State.hostLe (s : State) (att addr n : Nat) : Nat := Mem.le s.mem (hostKey att addr) n

/-- Write bytes into host memory (a posted write of the device). -/
def State.hostWrite (s : State) (att addr : Nat) (bs : List Byte) : State :=
  { s with mem := Mem.putBytes s.mem (hostKey att addr) bs }

/-! Functions -/

/-- A function's state. -/
def State.func (s : State) (f : Nat) : Func := Map.get s.funcs {} f

/-- Set a function's state. -/
def State.setFunc (s : State) (f : Nat) (x : Func) : State := { s with funcs := Map.set s.funcs {} f x }

/-- Change a function's state. -/
def State.updFunc (s : State) (f : Nat) (g : Func → Func) : State := s.setFunc f (g (s.func f))

/-- Whether a function is a management PF (R14). -/
def isMgmt (f : Nat) : Bool := decide (f < 8) && f % 2 == 0

/-- Whether a function is a VF. -/
def isVf (f : Nat) : Bool := decide (8 ≤ f)

/-- Whether an attachment's VF range holds VF number v (R432). -/
def State.vfIn (s : State) (a v : Nat) : Bool :=
  decide (s.rd (F.HIF_VF_RANGE_FIRST a) ≤ v) &&
    decide (v < s.rd (F.HIF_VF_RANGE_FIRST a) + s.rd (F.HIF_VF_RANGE_COUNT a))

/-- The attachment of a function (R14, R432). -/
def State.attOf (s : State) (f : Nat) : Nat :=
  if f < 8 then f / 2
  else if s.vfIn 0 (f - 8) then 0 else if s.vfIn 1 (f - 8) then 1 else if s.vfIn 2 (f - 8) then 2 else 3

/-- Whether an attachment exists (HIF_STATUS.PRESENT). -/
def State.present (s : State) (a : Nat) : Bool := bitOf (s.rd F.HIF_STATUS_PRESENT) a

/-- The functions of an attachment that the state lists. -/
def State.funcsOf (s : State) (a : Nat) : List Nat :=
  (s.funcs.map (·.1)).filter (fun f => s.attOf f == a)

/-- Whether the memory requests of its host reach the BARs of function f: Memory Space Enable of a PF; for a VF of NumVFs, VF Enable and
the VFs' Memory Space Enable; not while a reset is in progress (R442, R459, R475). -/
def State.barOpen (s : State) (f : Nat) : Bool :=
  let c := (s.func (2 * s.attOf f + 1)).cfg
  !(s.func f).resetting &&
    (if isVf f then c.vfEnable && c.vfMemSpace && decide (f < 8 + s.rd (F.HIF_VF_RANGE_FIRST (s.attOf f)) + c.numVfs)
     else (s.func f).cfg.memSpace)

/-- Such a request that does not: a read is answered with UR, a write discarded; counted during a reset, else an AER Unsupported Request
(R459, R475). -/
def State.barRefuse (s : State) (f : Nat) (read : Bool) : State :=
  let a := s.attOf f
  let s := if (s.func f).resetting then s.err (R.HIF_MALFORMED_CNT a) else s.updFunc f (fun x => { x with aer := { x.aer with unsupported := true } })
  if read then s.emit (.unsupported a) else s

/-- Whether the registers are open to a party: one of the control cores and Grotto, or the host of attachment 0 to 3 (R475). -/
def State.partyOpen (s : State) (who : Nat) : Bool := decide (4 ≤ who) || s.barOpen (2 * who)

/-- Every management PF that exists. -/
def State.mgmtPfs (s : State) : List Nat := [0, 2, 4, 6].filter (fun f => s.present (f / 2))

/-! Interrupt messages (R453-R457) -/

/-- Send the interrupt of vector `vec` of function `f`, in the mode the host has chosen; a message that may not be sent
sets its pending bit. -/
def State.sendInt (s : State) (f vec : Nat) : State :=
  let x := s.func f
  let c := x.cfg
  if c.msixEn then
    if vec < x.vecTable ∧ vec < 1024 then
      let e := Map.get x.msix {} vec
      if e.masked || c.funcMask || !c.master then
        s.setFunc f { x with msix := Map.set x.msix {} vec { e with pba := true } }
      else s.emit (.msix f vec e.addr e.data)
    else s
  else if c.msiEn && !isVf f then
    let k := vec % 2 ^ c.msiMme
    if bitOf c.msiMask k || !c.master then
      s.setFunc f { x with cfg := { c with msiPend := c.msiPend ||| 2 ^ k } }
    else s.emit (.msi f k)
  else if !c.intDisable && !isVf f then
    let s := if c.intxOn then s else s.emit (.intx f true)
    s.setFunc f { x with cfg := { c with intxOn := true,
                                         intxPend := if vec ∈ c.intxPend then c.intxPend else vec :: c.intxPend } }
  else s

/-- An event of vector `vec` is no longer pending: INTx falls when none remains (R455). -/
def State.clearInt (s : State) (f vec : Nat) : State :=
  let x := s.func f
  let p := x.cfg.intxPend.filter (· ≠ vec)
  let s1 := s.setFunc f { x with cfg := { x.cfg with intxPend := p, intxOn := x.cfg.intxOn && !p.isEmpty } }
  if x.cfg.intxOn && p.isEmpty then s1.emit (.intx f false) else s1

/-! Rings the device writes -/

/-- Entries of the ring that are not free: written and not yet returned (R487). -/
def OutRing.held (r : OutRing) : Nat := (r.wi + 65536 - r.hd) % 65536

/-- Whether the ring has a free entry beyond those reserved: a ring of S entries holds at most S - 1 (R487, R500). -/
def OutRing.room (r : OutRing) : Bool := decide (r.held + r.reserved + 1 < 2 ^ r.log2)

/-- The ring after one entry: write index, phase and moderation (R500, R504). -/
def OutRing.advance (r : OutRing) : OutRing :=
  let w := (r.wi + 1) % 65536
  { r with wi := w, phase := if w % 2 ^ r.log2 = 0 then !r.phase else r.phase,
           mod := { r.mod with since := r.mod.since + 1, age := if r.mod.since = 0 then 0 else r.mod.age } }

/-- The 32 bytes of an entry of four words, PHASE in bit 63 of the last. -/
def entryBytes (w0 w1 w2 w3 : Nat) (phase : Bool) : List Byte :=
  leBytes w0 8 ++ leBytes w1 8 ++ leBytes w2 8 ++ leBytes (w3 % 2 ^ 63 + b2n phase * 2 ^ 63) 8

/-- The host address of the ring's next entry. -/
def OutRing.addr (r : OutRing) : Nat := r.base + r.wi % 2 ^ r.log2 * 32

/-! The event ring (R505, R506) -/

/-- Write an event entry to a function's event ring, or lose and count it (R505, R506). -/
def State.event (s : State) (f code subject arg32 arg64 corr : Nat) : State :=
  let x := s.func f
  if x.evt.on && x.cfg.master && x.evt.room then
    let bs := entryBytes (code % 2 ^ 16 + subject % 2 ^ 16 * 2 ^ 16 + arg32 % 2 ^ 32 * 2 ^ 32) s.fst.drip arg64
      (corr % 2 ^ 32) x.evt.phase
    (s.hostWrite (s.attOf f) x.evt.addr bs).setFunc f { x with evt := x.evt.advance }
  else
    ((s.setFunc f { x with evtLost := x.evtLost + 1 }).stat R.QMG_EVENT_LOST_CNT).raise F.QMG_INT_STATUS_EVENT_LOST

/-- The numbers of the created functions. -/
def State.created (s : State) : List Nat := (s.funcs.filter (fun p => p.2.created)).map (·.1)

/-- Write an event to the event ring of every created function. -/
def State.eventAll (s : State) (code subject arg32 arg64 : Nat) : State :=
  s.each s.created (fun t f => t.event f code subject arg32 arg64 0)

/-- ALIGNED has become 0: every gate list is suspended, loses its start instant, and its gates are held open (R84, R353). -/
def State.gatesSuspend (s : State) : State :=
  s.each (List.range 8) (fun t p =>
    let off := fun (l : GateList) => { l with start := none }
    let t := { t with tm := { t.tm with gates := Map.upd t.tm.gates {} p (fun g => { g with
      oper := g.oper.map off, pend := g.pend.map off, copying := g.copying.map (fun x => (x.1, off x.2)) }) } }
    if t.rdB (F.TMG_GATE_STATUS_OPER_VALID p) || t.rdB (F.TMG_GATE_STATUS_WAITING p) then
      ((t.wrB (F.TMG_GATE_STATUS_SUSPENDED p) true).wr (F.TMG_GATE_STATUS_STATES p) 0xFF).raise F.TMG_INT_STATUS_GATES_SUSPENDED
    else t)

/-- A change of ALIGNED raises ALIGN_CHANGE and writes TIME_ALIGN to every function (R77); the traffic manager holds gates
open while it is 0 (R84). -/
def State.setAligned (s : State) (b : Bool) : State :=
  if s.rdB F.FST_STATUS_ALIGNED == b then s
  else
    let s := s.wrB F.TMG_STATUS_HELD_OPEN (!b)
    let s := if b then s else s.gatesSuspend
    ((s.wrB F.FST_STATUS_ALIGNED b).raise F.FST_INT_STATUS_ALIGN_CHANGE).eventAll 0x0002 0 (b2n b) 0

/-- Owner of an event that has one, or every management PF (R505). -/
def State.eventOwner (s : State) (owner : Option Nat) (code subject arg32 arg64 : Nat) : State :=
  match owner with
  | some f => s.event f code subject arg32 arg64 0
  | none => s.each s.mgmtPfs (fun t f => t.event f code subject arg32 arg64 0)

/-! Admin completions (R508, R511) -/

/-- Admin status codes (R509). -/
abbrev stSuccess : Nat := 0x00
abbrev stBadOpcode : Nat := 0x01
abbrev stBadField : Nat := 0x02
abbrev stNoResource : Nat := 0x03
abbrev stAuthFailed : Nat := 0x04
abbrev stCounterStale : Nat := 0x05
abbrev stCounterExhausted : Nat := 0x06
abbrev stNotPermitted : Nat := 0x07
abbrev stBusy : Nat := 0x08
abbrev stUnschedulable : Nat := 0x09
abbrev stWindowFull : Nat := 0x0A
abbrev stTimeout : Nat := 0x0B

/-- Place an admin completion entry of four words; while Bus Master Enable is clear the entry waits, as READY does in
R491 (log entry 16). -/
def State.admEntry (s : State) (f w0 w1 w2 w3 : Nat) : State :=
  let x := s.func f
  let bs := entryBytes w0 w1 w2 w3 x.admCpl.phase
  if x.cfg.master then
    (s.hostWrite (s.attOf f) x.admCpl.addr bs).setFunc f { x with admCpl := x.admCpl.advance }
  else { s with held := s.held ++ [(f, leBytes w0 8 ++ leBytes w1 8 ++ leBytes w2 8 ++ leBytes w3 8)] }

/-- A 64-bit operand word of a slot. -/
def AdmCmd.word (c : AdmCmd) (off : Nat) : Nat := leNat ((c.bytes.drop off).take 8)

/-- The slot's OPCODE and TARGET (R507). -/
def AdmCmd.op (c : AdmCmd) : Nat := bitsOf (c.word 0) 0 8
def AdmCmd.target (c : AdmCmd) : Nat := bitsOf (c.word 0) 16 12

/-- The opcodes of critical commands (R512). -/
def critOp (op : Nat) : Bool :=
  [0x02, 0x03, 0x04, 0x23, 0x28, 0x29, 0x2A, 0x32, 0x33, 0x40, 0x41, 0x42, 0x43].contains op

/-- What an admin command reports beside its status (R508). -/
structure AdmResult where
  detail : Nat := 0
  item : Nat := 0
  r0 : Nat := 0
  r1 : Nat := 0
  r2 : Nat := 0
  deriving DecidableEq, Repr

/-- Complete the command a function's admin ring is running: entry written, QMG_ADMIN_CNT counted, the ring free to
start its next slot (R508, R511, R522). -/
def State.admDone (s : State) (f status : Nat) (r : AdmResult := {}) : State :=
  let x := s.func f
  match x.cur with
  | none => s
  | some c =>
    let op := (c.bytes.getD 0 0).toNat
    let w0 := c.slot % 2 ^ 16 + op * 2 ^ 16 + status % 256 * 2 ^ 24 + r.detail % 256 * 2 ^ 32 + r.item % 2 ^ 16 * 2 ^ 48
    let s := if critOp op then
        s.setReg R.GRT_LAST_CMD (BitVec.ofNat 64 (op + status % 256 * 2 ^ 8 + bitsOf (c.word 0x48) 0 2 * 2 ^ 16
          + s.attOf f * 2 ^ 18 + c.target * 2 ^ 20))
      else s
    let s := s.setFunc f { x with cur := none }
    let s := { s with adminOrder := s.adminOrder.filter (· ≠ f) }
    (s.admEntry f w0 r.r0 r.r1 (r.r2 % 2 ^ 63)).stat R.QMG_ADMIN_CNT

end Sys2Proof.Machine
end

