-- ==== Sys2Proof/Machine/Admin.lean ====
section
/-! DEFINITION. Machine/Admin.lean: how an admin command runs: whose turn it is (R511), the trailer of a critical command
(R610-R613), reserved bits (R510), and commands that wait. -/

namespace Sys2Proof.Machine

open Sys2Proof

set_option cleanup.letToHave false

/-- The command of function f with opcode `op`, when it has been fetched, has not begun, and, for a command marked M, is
the oldest fetched one of the device (R511). -/
def State.admCmd (s : State) (f op : Nat) (m : Bool) : Option AdmCmd :=
  match (s.func f).cur with
  | some c => if c.op = op ∧ c.begun = false ∧ (m = false ∨ s.adminOrder.head? = some f) then some c else none
  | none => none

/-- The right bit of a critical command (R609). -/
def rightBit (op : Nat) : Nat :=
  if op = 0x32 then 0 else if op = 0x33 then 1 else if op = 0x40 then 2 else if op = 0x02 then 3 else if op = 0x03 then 4
  else if op = 0x04 then 5 else if op = 0x23 then 6 else if op = 0x2A then 7 else if op = 0x28 then 8
  else if op = 0x29 then 9 else if op = 0x41 then 10 else if op = 0x42 then 11 else 12

/-- The sticking counters of the Grotto window (R628). -/
def State.grtCount (s : State) (off : Nat) : State := s.err off

/-- Write an accepted counter into the copy with the older sequence (R612). -/
def State.ctrWrite (s : State) (k v : Nat) : State :=
  let a := Map.get s.grt.ctrs {} (2 * k)
  let b := Map.get s.grt.ctrs {} (2 * k + 1)
  let older := if a.seq ≤ b.seq then 2 * k else 2 * k + 1
  let r : CtrRec := { last := v, seq := (max a.seq b.seq + 1) % 2 ^ 32, valid := true }
  let s := { s with grt := { s.grt with ctrs := Map.set s.grt.ctrs {} older r } }
  (s.setReg (R.GRT_COUNTER k) (BitVec.ofNat 64 v)).wrB (F.GRT_PRINCIPAL_EXHAUSTED k) (v == 2 ^ 64 - 1)

/-- The trailer check of R611: a status code, 0 when the command may go on. -/
def State.trailer (s : State) (c : AdmCmd) : Nat × State :=
  let k := bitsOf (c.word 0x48) 0 8
  if 3 < k ∨ s.rd F.GRT_STATUS_LIFECYCLE ≠ 1 ∨ ¬ s.rdB (F.GRT_PRINCIPAL_PROVISIONED k) then (stAuthFailed, s)
  else
    let msg := leBytes (s.reg R.GRT_DSN).toNat 8 ++ c.bytes.take 80
    if Config.cmac (Map.get s.grt.prinKey 0 k) msg % 2 ^ 128 ≠ leNat ((c.bytes.drop 0x50).take 16) then
      (stAuthFailed, s.grtCount R.GRT_AUTH_FAIL_CNT)
    else
      let last := (s.reg (R.GRT_COUNTER k)).toNat
      let ctr := c.word 0x40
      if last = 2 ^ 64 - 1 then (stCounterExhausted, s)
      else if ctr ≤ last then (stCounterStale, s)
      else
        let s := s.ctrWrite k ctr
        if bitOf (s.rd (F.GRT_PRINCIPAL_RIGHTS k)) (rightBit c.op) then (stSuccess, s) else (stNotPermitted, s)

/-- Whether every reserved bit of a slot is zero, `masks` giving the operand bits in use of the words at 0x08, 0x10, …
(R507, R510), and TARGET names a function (SHARE_SET looks itself, R483). The trailer of a command that is not critical is ignored. -/
def AdmCmd.clean (c : AdmCmd) (masks : List Nat) : Bool :=
  let ok := fun (off mask : Nat) => c.word off &&& mask == c.word off
  ok 0x00 0x0FFF00FF && (c.op == 0x04 || decide (c.target < 2056))
    && (List.range 7).all (fun i => ok (8 + 8 * i) (masks.getD i 0))
    && (!critOp c.op || ok 0x48 0xFF)
    && [0x60, 0x68, 0x70, 0x78].all (fun o => c.word o == 0)

/-- Whether TARGET has a reset in progress (R514); SHARE_SET ignores TARGET for RESOURCE 1 and 2 (R483). -/
def State.targetBusy (s : State) (c : AdmCmd) : Bool :=
  (s.func c.target).resetting && !(c.op == 0x04 && [1, 2].contains (bitsOf (c.word 8) 0 4))

/-- Whether a command reads a structure of host memory that an operand names (R512, R513, R622, R624, R719). -/
def AdmCmd.reads (c : AdmCmd) : Bool :=
  if c.op = 0x21 then bitsOf (c.word 8) 16 8 != 3
  else if c.op = 0x41 then !bitOf (c.word 8) 31
  else if c.op = 0x42 then bitsOf (c.word 8) 0 2 == 3
  else [0x30, 0x32, 0x34, 0x3A, 0x3C].contains c.op

/-- A host read has failed twice, or ended with UR or CA: HIF_CTO_CNT, AER, CTO and the fault ring (R450, R452, R635). `cause` 1 timeout,
2 poisoned, 3 UR, 4 CA; `reps` and `recs` the replays and Recoveries meanwhile; `first` drip, ALIGNED and cause of the first failure
of a repeated read. -/
def State.readFailed (s : State) (f q : Nat) (ur : Bool) (corr cause reps recs : Nat) (first : Option (Nat × Bool × Nat)) : State :=
  let a := s.attOf f
  let s := s.err (R.HIF_CTO_CNT a)
  let s := if ur then s
    else (s.updFunc f (fun x => { x with aer := if cause = 2 then { x.aer with poisoned := true } else { x.aer with cplTimeout := true } })).raiseBit
      F.HIF_INT_STATUS_CTO a
  s.fault { cls := if ur then 0x11 else 0x07, cause := match first with | some x => x.2.2 | none => cause,
            drip := first.map (·.1), aligned := first.map (·.2.1), unit := unitOf 0x07 a, corr := if ur then 0 else corr,
            snapshot := s.cnt (R.HIF_CTO_CNT a), lower := if ur then 3 else 2, upper := 4, attach := some a,
            detail := f % 4096 + q % 4096 * 2 ^ 16 + min 65535 reps * 2 ^ 32 + min 255 recs * 2 ^ 48 }

/-- The read of a command's structure has failed: the command completes with TIMEOUT and changes nothing (R719). -/
def State.admReadFail (s : State) (f : Nat) (c : AdmCmd) : State :=
  let (k, s) := if c.opRead = 1 then s.newCorr else (0, s)
  (s.readFailed f 0 (c.opRead != 1) k (if c.opRead = 1 then 1 else 3) 0 0 none).admDone f stTimeout

/-- Run a command that is not critical: reserved bits and ranges, a reset of TARGET, then its own conditions `k`. -/
def State.admRun (s : State) (f op : Nat) (m : Bool) (masks : List Nat) (good : AdmCmd → Bool)
    (k : State → AdmCmd → State) : State :=
  match s.admCmd f op m with
  | none => s
  | some c =>
    if c.reads && c.opRead != 0 then s.admReadFail f c
    else if !(c.clean masks && good c) then s.admDone f stBadField
    else if s.targetBusy c then s.admDone f stBusy
    else k s c

/-- Run a critical command: its trailer first (R510 step 3, R611). -/
def State.admCrit (s : State) (f op : Nat) (masks : List Nat) (good : AdmCmd → Bool) (k : State → AdmCmd → State) : State :=
  match s.admCmd f op true with
  | none => s
  | some c =>
    let (st, s) := s.trailer c
    if st ≠ stSuccess then s.admDone f st
    else if c.reads && c.opRead != 0 then s.admReadFail f c
    else if !(c.clean masks && good c) then s.admDone f stBadField
    else if s.targetBusy c then s.admDone f stBusy
    else k s c

/-- A command whose checks have passed waits for its event. -/
def State.admWait (s : State) (f : Nat) : State :=
  s.updFunc f (fun x => { x with cur := x.cur.map (fun c => { c with begun := true }) })

end Sys2Proof.Machine
end

