-- ==== Sys2Proof/Machine/Packet.lean ====
section
/-! DEFINITION. Machine/Packet.lean: the metadata word (R165), CRC32C (R716), keys (R166, R167), action records (R180,
R722), counts of packets in flight (R193), and where a packet is found and put. -/

namespace Sys2Proof.Machine

open Sys2Proof

set_option cleanup.letToHave false

/-! CRC32C (R716) -/

/-- One bit of the reflected CRC. -/
def crcBit (r : Nat) : Nat := if r % 2 = 1 then (r / 2) ^^^ 0x82F63B78 else r / 2

/-- One byte. -/
def crcByte (r : Nat) (b : Byte) : Nat :=
  crcBit (crcBit (crcBit (crcBit (crcBit (crcBit (crcBit (crcBit (r ^^^ b.toNat))))))))

/-- The bare register after some bytes. -/
def crcReg (r : Nat) (l : List Byte) : Nat := l.foldl crcByte r

/-- CRC32C(SEED, bytes). -/
def crc32c (seed : Nat) (l : List Byte) : Nat := crcReg (seed ^^^ 0xFFFFFFFF) l ^^^ 0xFFFFFFFF

/-! The metadata word (R165): a field is its lowest bit and its width -/

abbrev Md.version : Nat × Nat := (0, 16)
abbrev Md.srcFunc : Nat × Nat := (16, 12)
abbrev Md.srcKind : Nat × Nat := (28, 3)
abbrev Md.aligned : Nat × Nat := (31, 1)
abbrev Md.srcPort : Nat × Nat := (32, 3)
abbrev Md.funcGen : Nat × Nat := (35, 12)
abbrev Md.pktLen : Nat × Nat := (47, 14)
abbrev Md.tsNs : Nat × Nat := (64, 64)
abbrev Md.tsFrac : Nat × Nat := (128, 16)
abbrev Md.parseErr : Nat × Nat := (144, 8)
abbrev Md.layerValid : Nat × Nat := (152, 8)
abbrev Md.layer (k : Nat) : Nat × Nat := (160 + 9 * k, 9)
abbrev Md.flowHit : Nat × Nat := (232, 1)
abbrev Md.stopped : Nat × Nat := (233, 1)
abbrev Md.chainId : Nat × Nat := (256, 12)
abbrev Md.allow : Nat × Nat := (268, 6)
abbrev Md.destKind : Nat × Nat := (274, 3)
abbrev Md.destFunc : Nat × Nat := (277, 12)
abbrev Md.destPort : Nat × Nat := (289, 3)
abbrev Md.tmQueue : Nat × Nat := (292, 16)
abbrev Md.tc : Nat × Nat := (308, 3)
abbrev Md.cryptoEn : Nat × Nat := (311, 1)
abbrev Md.cryptoSession : Nat × Nat := (312, 22)
abbrev Md.policerEn : Nat × Nat := (334, 1)
abbrev Md.policer : Nat × Nat := (335, 18)
abbrev Md.mirror : Nat × Nat := (353, 4)
abbrev Md.flowClass : Nat × Nat := (357, 6)
abbrev Md.drop : Nat × Nat := (363, 1)
abbrev Md.punt : Nat × Nat := (364, 1)
abbrev Md.puntReason : Nat × Nat := (365, 8)
abbrev Md.flowId : Nat × Nat := (373, 25)

/-- A field of a metadata word. -/
def mdGet (m : BitVec 512) (f : Nat × Nat) : Nat := bitsOf m.toNat f.1 f.2

/-- A metadata word with a field replaced. -/
def mdPut (m : BitVec 512) (f : Nat × Nat) (v : Nat) : BitVec 512 := BitVec.ofNat 512 (putBits m.toNat f.1 f.2 v)

/-- A field of a packet's metadata word. -/
def Pkt.g (p : Pkt) (f : Nat × Nat) : Nat := mdGet p.md f

/-- A packet with a metadata field set. -/
def Pkt.s (p : Pkt) (f : Nat × Nat) (v : Nat) : Pkt := { p with md := mdPut p.md f v }

/-- Byte k of the metadata word. -/
def mdByte (m : BitVec 512) (k : Nat) : Byte := BitVec.ofNat 8 (m.toNat / 2 ^ (8 * k))

/-- The 64 bytes of the metadata word. -/
def mdBytes (m : BitVec 512) : List Byte := (List.range 64).map (mdByte m)

/-! Keys (R166, R167) -/

/-- The bytes a segment takes. -/
def segBytes (p : Pkt) (seg : Nat) : List Byte :=
  let off := bitsOf seg 0 7
  let src := if bitOf seg 7 then p.scratch else mdBytes p.md
  (List.range (bitsOf seg 8 4 + 1)).map (fun i => src.getD (off + i) 0)

/-- A key built by a template. -/
def buildKey (p : Pkt) (b : Binding) : List Byte := (b.segs.take b.nseg).flatMap (segBytes p)

/-- A list of bytes padded with zeros, or cut, to n. -/
def padTo (n : Nat) (l : List Byte) : List Byte := (l ++ List.replicate (n - l.length) 0).take n

/-! Counters and packets in flight -/

/-- Whether counter c is allocated (R180, R513). -/
def Path.ctrAllocated (x : Path) (c : Nat) : Bool := x.ctrRanges.any (fun r => decide (r.1 ≤ c) && decide (c < r.1 + r.2))

/-- Add a packet of n bytes to a counter pair. -/
def State.ctrAdd (s : State) (c n : Nat) : State :=
  let m := Map.upd s.path.counters {} c (fun x => { pkts := (x.pkts + 1) % 2 ^ 64, bytes := (x.bytes + n) % 2 ^ 64 })
  { s with path := { s.path with counters := m } }

/-- The packet enters the count of its version (R193). -/
def State.inflightAdd (s : State) (v : Nat) : State :=
  s.wr (F.MAT_INFLIGHT_COUNT (v % 4)) (s.rd (F.MAT_INFLIGHT_COUNT (v % 4)) + 1)

/-- The packet leaves the count of its version (R193). -/
def State.inflightSub (s : State) (v : Nat) : State :=
  s.wr (F.MAT_INFLIGHT_COUNT (v % 4)) (s.rd (F.MAT_INFLIGHT_COUNT (v % 4)) - 1)

/-- Key of a queue of a function: its ring kind and number. -/
def qKey (kind q : Nat) : Nat := kind * 4096 + q

/-- The outcome of a frame whose transmit descriptor asked for its departure stamp (R499, R501), unless the function has been
reset since. -/
def State.txOutcome (s : State) (p : Pkt) (status ns frac : Nat) (aligned : Bool) : State :=
  if p.txStamp ∧ p.txGen = (s.func p.txFn).gen then
    s.updFunc p.txFn (fun x => { x with queues := Map.upd x.queues {} (qKey p.txKind p.txQueue) (fun q =>
      { q with txPend := q.txPend.map (fun e => if e.desc = p.txDesc ∧ e.status = none then
          { e with status := some status, tsNs := ns, tsFrac := frac, aligned := aligned } else e) }) })
  else s

/-- A frame of a function is dropped: a descriptor that asked for its stamp learns so (R499). -/
def State.txDropped (s : State) (p : Pkt) : State := s.txOutcome p 1 0 0 false

/-- A packet is dropped: it leaves the count. -/
def State.pktGone (s : State) (p : Pkt) : State := (s.inflightSub (p.g Md.version)).txDropped p

/-- The next packet identity of the run. -/
def State.newPkt (s : State) (p : Pkt) : Pkt × State :=
  ({ p with id := s.path.nextId }, { s with path := { s.path with nextId := s.path.nextId + 1 } })

/-- Hand a packet to the parse cores (R154). -/
def State.toParse (s : State) (p : Pkt) : State :=
  let (p, s) := s.newPkt p
  { s with path := { s.path with wait := s.path.wait ++ [p] } }

/-- Send a packet to control firmware's receive queue, out of the count (R183, R193). -/
def State.toCpu (s : State) (p : Pkt) : State :=
  let s := s.pktGone p
  { s with path := { s.path with cpuQueue := s.path.cpuQueue ++ [p] } }

/-- Put a packet on the way to the traffic manager. -/
def State.pushTm (s : State) (p : Pkt) : State := { s with path := { s.path with toTm := s.path.toTm ++ [p] } }

/-- Hand a packet to the traffic manager, out of the count (R193). -/
def State.toTm (s : State) (p : Pkt) : State := (s.inflightSub (p.g Md.version)).pushTm p

/-- A packet waits in the crypto unit. -/
def State.toCry (s : State) (p : Pkt) (point : Nat) : State :=
  { s with path := { s.path with cry := s.path.cry ++ [{ pkt := p, point := point }] } }

/-! Action records (R180, R722) -/

/-- Whether bit i of OPS is set. -/
def opsBit (a i : Nat) : Bool := bitOf a i

/-- Set fields of a packet when a condition holds. -/
def Pkt.when (p : Pkt) (c : Bool) (l : List ((Nat × Nat) × Nat)) : Pkt :=
  if c then l.foldl (fun q x => q.s x.1 x.2) p else p

/-- The FIELD effect: only bits wholly within 416-511. -/
def Pkt.fieldEffect (p : Pkt) (a : Nat) : Pkt :=
  let foff := bitsOf a 160 9
  let w := bitsOf a 169 6 + 1
  if opsBit a 7 ∧ 416 ≤ foff ∧ foff + w ≤ 512 then p.s (foff, w) (bitsOf a 192 64) else p

/-- The effects of an action record on a packet's metadata. -/
def Pkt.act (p : Pkt) (a : Nat) : Pkt :=
  ((((((((((p.when (opsBit a 0) [(Md.chainId, bitsOf a 16 12), (Md.allow, bitsOf a 28 6)]).when (opsBit a 1)
    [(Md.destKind, bitsOf a 34 3), (Md.destFunc, bitsOf a 37 12), (Md.destPort, bitsOf a 49 3)]).when (opsBit a 2)
    [(Md.tmQueue, bitsOf a 64 16), (Md.tc, bitsOf a 80 3)]).when (opsBit a 3)
    [(Md.cryptoSession, bitsOf a 84 22), (Md.cryptoEn, 1)]).when (opsBit a 4)
    [(Md.policer, bitsOf a 106 18), (Md.policerEn, 1)]).when (opsBit a 5) [(Md.mirror, bitsOf a 124 4)]).when (opsBit a 8)
    [(Md.flowClass, bitsOf a 128 6)]).when (opsBit a 9) [(Md.drop, 1)]).when (opsBit a 10)
    [(Md.punt, 1), (Md.puntReason, bitsOf a 176 8)]).when (opsBit a 11) [(Md.stopped, 1)]).fieldEffect a

/-- Apply an action record: the metadata effects, and COUNT where the counter is allocated. -/
def State.applyAction (s : State) (p : Pkt) (a : Nat) : Pkt × State :=
  let c := bitsOf a 136 20
  (p.act a, if opsBit a 6 ∧ s.path.ctrAllocated c then s.ctrAdd c (p.g Md.pktLen) else s)

/-- A number of n little-endian bytes from a list. -/
def leAt (l : List Byte) (off n : Nat) : Nat := leNat ((l.drop off).take n)

end Sys2Proof.Machine
end

