-- ==== Sys2Proof/Machine/Egress.lean ====
section
/-! DEFINITION. Machine/Egress.lean: walking a frame to its outer IP header and the egress fix-up (R369-R371). -/

namespace Sys2Proof.Machine

open Sys2Proof

set_option cleanup.letToHave false

/-- A 16-bit wire field. -/
def be16 (l : List Byte) (o : Nat) : Nat := (l.getD o 0).toNat * 256 + (l.getD (o + 1) 0).toNat

/-- Write bytes over a frame from offset o on. -/
def putAt (l : List Byte) (o : Nat) (v : List Byte) : List Byte := l.take o ++ v ++ l.drop (o + v.length)

/-- Write a 16-bit wire field. -/
def put16 (l : List Byte) (o v : Nat) : List Byte := putAt l o (beBytes v 2)

/-- Offset of the EtherType after one 0x8100 tag or a 0x88A8, 0x8100 pair. -/
def etherTypeAt (l : List Byte) : Nat :=
  if be16 l 12 = 0x8100 then 16 else if be16 l 12 = 0x88A8 ∧ be16 l 16 = 0x8100 then 20 else 12

/-- The first IP header of a frame: its offset and whether it is IPv6. -/
def firstIp (l : List Byte) : Option (Nat × Bool) :=
  let o := etherTypeAt l
  if be16 l o = 0x0800 ∧ o + 22 ≤ l.length then some (o + 2, false)
  else if be16 l o = 0x86DD ∧ o + 42 ≤ l.length then some (o + 2, true)
  else none

/-- Length of the IP header at o. -/
def ipHdrLen (l : List Byte) (o : Nat) (v6 : Bool) : Nat := if v6 then 40 else (l.getD o 0).toNat % 16 * 4

/-- Protocol or Next Header. -/
def ipProto (l : List Byte) (o : Nat) (v6 : Bool) : Nat := (l.getD (if v6 then o + 6 else o + 9) 0).toNat

/-- Set Protocol or Next Header. -/
def setProto (l : List Byte) (o : Nat) (v6 : Bool) (p : Nat) : List Byte :=
  putAt l (if v6 then o + 6 else o + 9) [BitVec.ofNat 8 p]

/-- Sum of big-endian 16-bit words, an odd byte padded with zero. -/
def sum16 : List Byte → Nat
  | a :: b :: t => a.toNat * 256 + b.toNat + sum16 t
  | [a] => a.toNat * 256
  | [] => 0

/-- Fold carries into 16 bits. -/
def fold16 (n : Nat) : Nat :=
  let a := n % 65536 + n / 65536
  let b := a % 65536 + a / 65536
  b % 65536 + b / 65536

/-- The Internet checksum of some bytes. -/
def inetCsum (l : List Byte) : Nat := 0xFFFF - fold16 (sum16 l)

/-- Total Length or Payload Length set to the frame that follows. -/
def setIpLen (l : List Byte) (o : Nat) (v6 : Bool) : List Byte :=
  if v6 then put16 l (o + 4) (l.length - o - 40) else put16 l (o + 2) (l.length - o)

/-- The IPv4 header checksum recomputed. -/
def setIpCsum (l : List Byte) (o : Nat) : List Byte :=
  let z := put16 l (o + 10) 0
  put16 z (o + 10) (inetCsum ((z.drop o).take (ipHdrLen z o false)))

/-- The UDP checksum over the pseudo header. -/
def udpCsum (l : List Byte) (o : Nat) (v6 : Bool) (u : Nat) : Nat :=
  let z := put16 l (u + 6) 0
  let addrs := if v6 then (z.drop (o + 8)).take 32 else (z.drop (o + 12)).take 8
  let c := 0xFFFF - fold16 (sum16 addrs + 17 + (z.length - u) + sum16 (z.drop u))
  if c = 0 then 0xFFFF else c

/-- UDP destination ports of the stacks of R369. -/
def tunnelPort (d : Nat) : Bool := [4789, 6081, 6635, 4500].contains d

/-- The fix-ups enabled in a CRY_FIXUP_CFG value, with the packet's STEER_HASH; the UDP ones only on the stacks of R369
(log entry 22). -/
def fixup (cfg hash : Nat) (l : List Byte) : List Byte :=
  match firstIp l with
  | none => l
  | some (o, v6) =>
    let l := if bitOf cfg 0 then setIpLen l o v6 else l
    let u := o + ipHdrLen l o v6
    let l :=
      if ipProto l o v6 = 17 ∧ tunnelPort (be16 l (u + 2)) ∧ u + 8 ≤ l.length then
        let smin := bitsOf cfg 16 16
        let smax := bitsOf cfg 32 16
        let l := if bitOf cfg 5 ∧ be16 l (u + 2) ≠ 4500 then put16 l u (smin + hash % (smax - smin + 1)) else l
        let l := if bitOf cfg 2 then put16 l (u + 4) (l.length - u) else l
        let mode := bitsOf cfg 3 2
        if mode = 0 then l
        else if mode = 2 ∨ (mode = 1 ∧ v6) then put16 l (u + 6) (udpCsum l o v6 u)
        else put16 l (u + 6) 0
      else l
    if bitOf cfg 1 ∧ ¬ v6 then setIpCsum l o else l

/-- A packet whose bytes are replaced; PKT_LEN follows (R367, R377). -/
def Pkt.withData (p : Pkt) (d : List Byte) : Pkt := { p with data := d }.s Md.pktLen d.length

/-- The fix-up of a packet on its way to a port (R371). -/
def State.fixupPkt (s : State) (p : Pkt) : Pkt :=
  p.withData (fixup (s.reg (R.CRY_FIXUP_CFG (p.g Md.destPort))).toNat p.steerHash p.data)

end Sys2Proof.Machine
end

