-- ==== Sys2Proof/Machine/StoMatch.lean ====
section
/-! DEFINITION. Machine/StoMatch.lean: storage contexts and the check a packet meets when it is handed to the storage unit
(R394, R406, R428). -/

namespace Sys2Proof.Machine

open Sys2Proof

set_option cleanup.letToHave false

def State.stoConn (s : State) (c : Nat) : Conn := Map.get s.sto.conns {} c
def State.setConn (s : State) (c : Nat) (x : Conn) : State := { s with sto := { s.sto with conns := Map.set s.sto.conns {} c x } }
def State.qp (s : State) (q : Nat) : Qp := Map.get s.sto.qps {} q
def State.setQp (s : State) (q : Nat) (x : Qp) : State := { s with sto := { s.sto with qps := Map.set s.sto.qps {} q x } }

/-- Fields of a path and of a namespace context: lowest bit counted from byte 0x00, and width (R428). -/
def State.pf (s : State) (p lo w : Nat) : Nat := bitsOf (Map.get s.sto.paths 0 p) lo w
def State.setPf (s : State) (p lo w v : Nat) : State :=
  { s with sto := { s.sto with paths := Map.upd s.sto.paths 0 p (fun x => putBits x lo w v) } }
def State.nf (s : State) (n lo w : Nat) : Nat := bitsOf (Map.get s.sto.ns 0 n) lo w
def State.setNf (s : State) (n lo w v : Nat) : State :=
  { s with sto := { s.sto with ns := Map.upd s.sto.ns 0 n (fun x => putBits x lo w v) } }

/-- REMOTE_ADDR as a number in wire order. -/
def State.remoteAddr (s : State) (p : Nat) : Nat :=
  beNat (leBytes (s.pf p 128 128) (if s.pf p 8 1 = 1 then 16 else 4))

/-- REMOTE_PORT, 4420 where it was left 0 (R428). -/
def State.remotePort (s : State) (p : Nat) : Nat := if s.pf p 256 16 = 0 then 4420 else s.pf p 256 16

/-- Source and destination address of an IP header. -/
def ipAddrs (l : List Byte) (o : Nat) (v6 : Bool) : Nat × Nat :=
  if v6 then (beNat ((l.drop (o + 8)).take 16), beNat ((l.drop (o + 24)).take 16))
  else (beNat ((l.drop (o + 12)).take 4), beNat ((l.drop (o + 16)).take 4))

/-- The TCP segment of a frame: offset of its header and end of its IP packet. -/
def tcpAt (l : List Byte) : Option (Nat × Bool × Nat × Nat) :=
  match firstIp l with
  | none => none
  | some (o, v6) =>
    let u := o + ipHdrLen l o v6
    let stop := min l.length (if v6 then o + 40 + be16 l (o + 4) else o + be16 l (o + 2))
    if ipProto l o v6 = 6 ∧ u + 20 ≤ stop then some (o, v6, u, stop) else none

/-- The Base Transport Header of a RoCEv2 frame: IP offset and version, offset of the header, end of its IP packet. -/
def bthAt (l : List Byte) : Option (Nat × Bool × Nat × Nat) :=
  match firstIp l with
  | none => none
  | some (o, v6) =>
    let u := o + ipHdrLen l o v6
    let stop := min l.length (if v6 then o + 40 + be16 l (o + 4) else o + be16 l (o + 2))
    if ipProto l o v6 = 17 ∧ be16 l (u + 2) = 4791 ∧ u + 24 ≤ stop then some (o, v6, u + 8, stop) else none

/-- Context kind and index a packet names (R406). -/
def Pkt.stoKind (p : Pkt) : Nat := p.g (438, 3)
def Pkt.stoIndex (p : Pkt) : Nat := p.g (416, 22)

/-- Whether a packet matches the valid context it names (R406). -/
def State.stoOk (s : State) (p : Pkt) : Bool :=
  let i := p.stoIndex
  if p.stoKind = 1 then
    let c := s.stoConn i
    match tcpAt p.data with
    | none => false
    | some (o, v6, u, _) =>
      decide (i < 65536) && decide (c.st ≠ .down) && s.pf c.path 0 1 == 1 && v6 == (s.pf c.path 8 1 == 1)
        && (ipAddrs p.data o v6).1 == s.remoteAddr c.path && (ipAddrs p.data o v6).2 == Config.localAddr (s.pf c.path 5 3)
        && be16 p.data u == s.remotePort c.path && be16 p.data (u + 2) == Config.localPort i
  else if p.stoKind = 2 then
    match bthAt p.data with
    | none => false
    | some (_, _, b, _) => decide (i < 1048576) && (s.qp i).valid && beNat ((p.data.drop (b + 5)).take 3) == i
  else false

/-- A packet reaches the storage unit, or is dropped and counted (R406). -/
def State.toSto (s : State) (p : Pkt) : State :=
  if s.stoOk p then { s with path := { s.path with stoQueue := s.path.stoQueue ++ [p] } }
  else (s.err R.STO_NO_CTX_CNT).txDropped p

end Sys2Proof.Machine
end

