-- ==== Sys2Proof/Machine/StoPi.lean ====
section
/-! DEFINITION. Machine/StoPi.lean: protection information and encryption of each LBA (R408-R412), and the host buffers of
an NVMe command (R400). -/

namespace Sys2Proof.Machine

open Sys2Proof

set_option cleanup.letToHave false

/-- One bit of the T10 CRC, polynomial 0x8BB7 (R408). -/
def t10Bit (r : Nat) : Nat := if r / 32768 % 2 = 1 then (r * 2 % 65536) ^^^ 0x8BB7 else r * 2 % 65536

/-- One byte of the T10 CRC. -/
def t10Byte (r : Nat) (b : Byte) : Nat := t10Bit (t10Bit (t10Bit (t10Bit (t10Bit (t10Bit (t10Bit (t10Bit (r ^^^ b.toNat * 256))))))))

/-- The guard of some bytes (R408). -/
def guard (l : List Byte) : Nat := l.foldl t10Byte 0

/-- Protection information as its guard, application tag and reference tag; on the medium all three are big-endian. -/
structure Pi where
  guard : Nat
  app : Nat
  ref : Nat
  deriving DecidableEq, Repr

/-- The 8 bytes of protection information. -/
def Pi.bytes (p : Pi) : List Byte := beBytes p.guard 2 ++ beBytes p.app 2 ++ beBytes p.ref 4

/-- Protection information from 8 bytes. -/
def piOf (l : List Byte) : Pi := { guard := beNat (l.take 2), app := beNat ((l.drop 2).take 2), ref := beNat ((l.drop 4).take 4) }

/-- The reference tag of R410 for a type: LBA, the command's initial tag, position in the command. -/
def refTag (type lba ilbrt i : Nat) : Nat :=
  if type = 1 then lba % 2 ^ 32 else if type = 2 then (ilbrt + i) % 2 ^ 32 else 0xFFFFFFFF

/-- Whether the application tag disables the checks of an LBA (R410). -/
def Pi.off (p : Pi) (type : Nat) : Bool := p.app == 0xFFFF && (type != 3 || p.ref == 0xFFFFFFFF)

/-- The first failed check: 0 none, or SC 0x82, 0x83, 0x84 (R411). `chk` is PRCHK: bit 2 guard, 1 application tag, 0 reference tag. -/
def Pi.fails (p : Pi) (type chk g lba ilbrt i lbat mask : Nat) : Nat :=
  if p.off type then 0
  else if bitOf chk 2 ∧ p.guard ≠ g then 0x82
  else if bitOf chk 1 ∧ p.app &&& mask ≠ lbat &&& mask then 0x83
  else if bitOf chk 0 ∧ type ≠ 3 ∧ p.ref ≠ refTag type lba ilbrt i then 0x84
  else 0

/-- Namespace fields R409 uses. -/
structure NsFmt where
  n : Nat
  size : Nat
  xts : Bool
  key : Nat
  tweak : Nat
  hostPi : Nat
  bePi : Nat
  deriving DecidableEq, Repr

/-- The format of a namespace. -/
def State.nsFmt (s : State) (n : Nat) : NsFmt :=
  { n := n, size := if s.nf n 3 1 = 1 then 4096 else 512, xts := s.nf n 1 1 == 1, key := Map.get s.sto.nsKeys 0 n,
    tweak := s.nf n 256 64, hostPi := s.nf n 4 2, bePi := s.nf n 6 2 }

/-- Bytes of one LBA on the back end (R408). -/
def NsFmt.beSize (f : NsFmt) : Nat := f.size + (if f.bePi = 0 then 0 else 8)

/-- AES-XTS-256 of one LBA under its tweak (R409). -/
def NsFmt.crypt (f : NsFmt) (enc : Bool) (lba : Nat) (d : List Byte) : List Byte :=
  if f.xts then Config.xts enc f.key ((f.tweak + lba) % 2 ^ 64) d else d

/-- One LBA of a write (R409): the back-end bytes, or the code of a failed check. `md` is the host's protection information. -/
def NsFmt.write (f : NsFmt) (c : StoCmd) (i : Nat) (d md : List Byte) : Nat × List Byte :=
  let lba := c.slba + i
  let made : Pi := { guard := guard d, app := c.lbat, ref := refTag f.hostPi lba c.ilbrt i }
  let host : Pi := if f.hostPi = 0 then { guard := 0, app := Config.appTag f.n lba, ref := refTag f.bePi lba c.ilbrt i }
    else if c.pract then made else piOf md
  let e := if f.hostPi = 0 ∨ c.pract then 0 else host.fails f.hostPi c.prchk (guard d) lba c.ilbrt i c.lbat c.lbatm
  let x := f.crypt true lba d
  (e, x ++ (if f.bePi = 0 then [] else { host with guard := guard x }.bytes))

/-- The LBAs of a write in order: the code of the first failed check, and the back-end bytes. -/
def NsFmt.writeAll (f : NsFmt) (c : StoCmd) : Nat → Nat → List Byte → List Byte → Nat × List Byte
  | _, 0, _, _ => (0, [])
  | i, n + 1, d, md =>
    let (e, x) := f.write c i (d.take f.size) (md.take 8)
    if e ≠ 0 then (e, [])
    else
      let (e, y) := NsFmt.writeAll f c (i + 1) n (d.drop f.size) (md.drop 8)
      (e, x ++ y)

/-- One LBA of a read (R409): code, host data, host protection information. -/
def NsFmt.read (f : NsFmt) (c : StoCmd) (i : Nat) (b : List Byte) : Nat × List Byte × List Byte :=
  let lba := c.slba + i
  let x := b.take f.size
  let p := piOf (b.drop f.size)
  let e := if f.bePi = 0 then 0
    else p.fails f.bePi (4 + (if f.hostPi = 0 then 0 else c.prchk % 4)) (guard x) lba c.ilbrt i c.lbat c.lbatm
  let d := f.crypt false lba x
  let host : Pi := if f.bePi = 0 then { guard := guard d, app := c.lbat, ref := refTag f.hostPi lba c.ilbrt i }
    else { p with guard := guard d }
  (e, d, if f.hostPi = 0 ∨ c.pract then [] else host.bytes)

/-- The LBAs of a read in order. -/
def NsFmt.readAll (f : NsFmt) (c : StoCmd) : Nat → Nat → List Byte → Nat × List Byte × List Byte
  | _, 0, _ => (0, [], [])
  | i, n + 1, b =>
    let (e, d, m) := f.read c i (b.take f.beSize)
    if e ≠ 0 then (e, [], [])
    else
      let (e, d', m') := NsFmt.readAll f c (i + 1) n (b.drop f.beSize)
      (e, d ++ d', m ++ m')

/-! Host buffers: PRP entries, PRP lists and SGLs (R400); layouts of NVMe 2.0 with pages of 4,096 bytes (log entry 45) -/

/-- Read through a list of (address, length). -/
def State.gather (s : State) (a : Nat) (l : List (Nat × Nat)) : List Byte := l.flatMap (fun x => s.hostRead a x.1 x.2)

/-- Write through a list of (address, length). -/
def State.scatter (s : State) (a : Nat) : List (Nat × Nat) → List Byte → State
  | [], _ => s
  | x :: t, d => State.scatter (s.hostWrite a x.1 (d.take x.2)) a t (d.drop x.2)

/-- Total length of a list of buffers. -/
def segLen (l : List (Nat × Nat)) : Nat := (l.map (·.2)).sum

/-- Buffers named by a PRP list from `p` on, `n` bytes still to cover; none for an entry with an offset (R427). The last entry of
a page of the list, when more pages follow, points to the next part of the list. -/
def State.prpList (s : State) (a : Nat) : Nat → Nat → Nat → Option (List (Nat × Nat))
  | _, _, 0 => some []
  | p, n, fuel + 1 =>
    if n = 0 then some []
    else
      let e := s.hostLe a p 8
      if p % 4096 = 4088 ∧ 4096 < n then
        if e % 8 ≠ 0 then none else State.prpList s a e n fuel
      else if e % 4096 ≠ 0 then none
      else (State.prpList s a (p + 8) (n - 4096) fuel).map (fun l => (e, min n 4096) :: l)

/-- The buffers of a command's PRP pair for `n` bytes. -/
def State.prps (s : State) (a p1 p2 n : Nat) : Option (List (Nat × Nat)) :=
  let first := 4096 - p1 % 4096
  if p1 % 4 ≠ 0 then none
  else if n ≤ first then some [(p1, n)]
  else if n - first ≤ 4096 then (if p2 % 4096 ≠ 0 then none else some [(p1, first), (p2, n - first)])
  else if p2 % 8 ≠ 0 then none
  else (s.prpList a p2 (n - first) (2 * (n / 4096) + 4)).map (fun l => (p1, first) :: l)

/-- The buffers of SGL descriptors from `p` on: data blocks, then a segment or last segment; none for any other type (R400). -/
def State.sgls (s : State) (a : Nat) : Nat → Nat → Nat → Option (List (Nat × Nat))
  | _, _, 0 => none
  | p, bytes, fuel + 1 =>
    if bytes < 16 then some []
    else
      let d := s.hostRead a p 16
      let t := (d.getD 15 0).toNat
      let addr := leNat (d.take 8)
      let len := leNat ((d.drop 8).take 4)
      if t = 0x00 then (State.sgls s a (p + 16) (bytes - 16) fuel).map (fun l => (addr, len) :: l)
      else if (t = 0x20 ∨ t = 0x30) ∧ bytes < 32 then State.sgls s a addr len fuel
      else none

/-- The first descriptor of a command, which stands in the submission entry itself. -/
def State.sglFirst (s : State) (a : Nat) (d : List Byte) : Option (List (Nat × Nat)) :=
  let t := (d.getD 15 0).toNat
  let addr := leNat (d.take 8)
  let len := leNat ((d.drop 8).take 4)
  if t = 0x00 then some [(addr, len)]
  else if t = 0x20 ∨ t = 0x30 then s.sgls a addr len 65536
  else none

/-- A list of buffers cut to n bytes. -/
def cutSegs : List (Nat × Nat) → Nat → List (Nat × Nat)
  | [], _ => []
  | x :: t, n => if n = 0 then [] else (x.1, min x.2 n) :: cutSegs t (n - x.2)

end Sys2Proof.Machine
end

