-- ==== Sys2Proof/Machine/ClockPage.lean ====
section
/-! DEFINITION. Machine/ClockPage.lean: the clock page, the traceability record and the error bound (R139-R150), and the
small exact arithmetic they use. -/

namespace Sys2Proof.Machine

open Sys2Proof

set_option cleanup.letToHave false

/-- Integer square root, rounded down, bit by bit from the top. -/
def isqrtAux (n r : Nat) : Nat → Nat
  | 0 => if (r + 1) * (r + 1) ≤ n then r + 1 else r
  | k + 1 => isqrtAux n (if (r + 2 ^ (k + 1)) * (r + 2 ^ (k + 1)) ≤ n then r + 2 ^ (k + 1) else r) k

/-- The largest r with r * r ≤ n. -/
def isqrt (n : Nat) : Nat := isqrtAux n 0 (n.log2 / 2 + 1)

/-- A quotient rounded up. -/
def ceilDiv (a b : Nat) : Nat := (a + b - 1) / b

/-- Values stop at 0xFFFF_FFFF (R150). -/
def stop32 (n : Nat) : Nat := min n 0xFFFFFFFF

/-- Sum of a list of signed numbers. -/
def sumI (l : List Int) : Int := l.foldl (· + ·) 0

/-- N² times the population variance of N values: N * Σx² - (Σx)². -/
def varScaled (l : List Int) : Nat :=
  (l.length * sumI (l.map (fun x => x * x)) - sumI l * sumI l).toNat

/-- 3.89 standard deviations of values in 2^-16 ns, in half ps, rounded up: the smallest integer that is not below
7780 * sqrt(varScaled) / (65536 N). -/
def sigma389Up (l : List Int) : Nat :=
  let d := 65536 * l.length
  if d = 0 then 0
  else
    let a := 7780 * 7780 * varScaled l
    let r := isqrt a
    ceilDiv (if r * r = a then r else r + 1) d

/-- 3.89 σ + |μ| + 1,000 ps (R148), and whether the value is a whole number of ps; the record holds whole ps and the
spec does not say how it rounds them, so the rounding of a fraction is free (log entry 17). -/
def localErrPs (l : List Int) : Nat × Bool :=
  let d := 65536 * l.length
  if d = 0 then (1000, true)
  else
    let a := 3890 * 3890 * varScaled l
    let r := isqrt a
    let n := r + 1000 * (sumI l).natAbs
    (n / d + 1000, r * r = a && n % d == 0)

/-- HOLD_ERR of R149 in ps, y0 and a in units of 10^-13 (and per day): y0 t / 10 + a t² / 1,728,000, and whether whole. -/
def holdErrPs (y0 a t : Nat) : Nat × Bool :=
  let n := 172800 * y0 * t + a * t * t
  (n / 1728000, n % 1728000 == 0)

/-- A figure in ps whose fraction is rounded as the implementation chooses. -/
def State.roundPs (s : State) (x : Nat × Bool) : Nat × State :=
  if x.2 then (x.1, s) else let (v, s1) := s.fresh; (x.1 + v % 2, s1)

/-- y0 and a in force: class XO while OSC_IN is lost (R72, R149). -/
def State.holdModel (s : State) : Nat × Nat :=
  if s.rdB F.FST_STATUS_OSC_LOST then (20000, 50000)
  else (s.rd F.FST_HOLD_MODEL_Y0, s.rd F.FST_HOLD_MODEL_A)

/-- The PTP instance of the selected source, if the selected source is one. -/
def State.selInst (s : State) : Option PtpInst :=
  let n := s.rd F.FST_STATUS_SELECTED
  if s.rdB F.FST_STATUS_SELECTED_VALID && s.rd (F.FST_SRC_CFG_TYPE n) == 1 then
    some (Map.get s.car.inst {} (s.rd (F.FST_SRC_CFG_INSTANCE n)))
  else none

/-- UTC_OFFSET of the clock page (R143). -/
def State.utcOffset (s : State) : Int :=
  match s.selInst with
  | some p => if p.parent.utcValid then p.parent.utcOffset else s.rdI F.FST_TOD_CFG_UTC_OFFSET
  | none => s.rdI F.FST_TOD_CFG_UTC_OFFSET

/-- TIME_STATE of a Flowstone state (R76, R142). -/
def timeFlag (st : Nat) : Nat := if st = 2 then 1 else if st = 3 then 2 else if st = 4 then 3 else 0

/-- HOST_ERR by the PTM granularity (R144). -/
def hostErr (gran : Nat) : Nat := if gran = 0 then 0xFFFF else if gran ≤ 2 then 5 else 5 + gran

/-- Words 0x00-0x38 of a function's clock page (R142) with the sequence value given. -/
def State.timeBlock (s : State) (f seq : Nat) : List Nat :=
  let a := s.attOf f
  let p := Map.get s.car.ptm {} a
  [ seq % 2 ^ 32 + timeFlag (s.rd F.FST_STATUS_STATE) * 2 ^ 32 + s.rd F.FST_STATUS_ALIGNED * 2 ^ 35
      + s.rd (F.FST_PTM_STATUS_PTM_VALID a) * 2 ^ 36 + ofSigned 16 s.utcOffset * 2 ^ 48,
    ofSigned 64 p.hostT,
    ofSigned 64 (p.devT.ediv 65536),
    (p.devT.emod 65536).toNat + hostErr (s.rd (F.FST_PTM_STATUS_GRAN a)) * 2 ^ 16 + s.fst.bound % 2 ^ 32 * 2 ^ 32,
    ofSigned 64 p.rate,
    s.fst.drip % 2 ^ 64, 0, 0 ]

/-- Words 0x40-0x78 of the clock page, the traceability record (R142), with the sequence value given. -/
def State.traceRecord (s : State) (seq : Nat) : List Nat :=
  let n := s.rd F.FST_STATUS_SELECTED
  let sel := s.rdB F.FST_STATUS_SELECTED_VALID
  let kind := if sel then s.rd (F.FST_SRC_CFG_TYPE n) else 0
  let ann := match s.selInst with | some p => some p.parent | none => none
  let steps := match ann with | some x => (x.steps + 1) % 65536 | none => 0
  let gm := match ann with | some x => x.gmIdentity % 2 ^ 64 | none => 0
  let w50 := match ann with
    | some x => x.gmClass % 256 + x.gmAccuracy % 256 * 2 ^ 8 + x.gmVariance % 65536 * 2 ^ 16 + x.timeSource % 256 * 2 ^ 32
        + b2n x.timeTraceable * 2 ^ 40 + b2n x.freqTraceable * 2 ^ 41
    | none => 0
  [ seq % 2 ^ 32 + kind % 4 * 2 ^ 32 + (if sel then n else 0) % 4 * 2 ^ 34 + s.fst.agree % 8 * 2 ^ 36
      + s.rd F.FST_STATUS_STATE * 2 ^ 40 + steps * 2 ^ 48,
    gm, w50,
    s.fst.srcErr % 2 ^ 32 + s.rd F.FST_TRACE_CFG_HOP_ERR * 2 ^ 32,
    s.fst.localErr % 2 ^ 32 + s.fst.holdErr % 2 ^ 32 * 2 ^ 32,
    s.fst.bound % 2 ^ 32 + s.rd F.FST_STATUS_HOLDOVER_AGE * 2 ^ 32,
    s.fst.nowNs % 2 ^ 64, 0 ]

/-- Write a block of eight words in the order of R141: sequence odd, the rest, sequence even. -/
def State.writeBlock (s : State) (att addr : Nat) (odd : Nat) (ws : Nat → List Nat) : State :=
  let s1 := s.hostWrite att addr (leBytes ((ws odd).getD 0 0) 8)
  let s2 := s1.hostWrite att (addr + 8) ((ws odd).tail.flatMap (fun w => leBytes w 8))
  s2.hostWrite att addr (leBytes ((ws ((odd + 1) % 2 ^ 32)).getD 0 0) 8)

/-- Functions with a registered clock page and Bus Master Enable set (R139, R140). -/
def State.pageFuncs (s : State) : List Nat :=
  s.created.filter (fun f => (s.func f).clockPage != 0 && (s.func f).cfg.master)

/-- Rewrite the time block of one function's page. -/
def State.writeTimePage (s : State) (f : Nat) : State :=
  let x := s.func f
  let s1 := s.writeBlock (s.attOf f) x.clockPage (x.clockSeq + 1) (s.timeBlock f)
  s1.updFunc f (fun y => { y with clockSeq := (y.clockSeq + 2) % 2 ^ 32 })

/-- Rewrite the time block of every registered page (R140), of one attachment or of all. -/
def State.writeTimePages (s : State) (att : Option Nat) : State :=
  s.each (s.pageFuncs.filter (fun f => match att with | some a => s.attOf f == a | none => true)) State.writeTimePage

/-- Rewrite the traceability record of every registered page, and FST_TRACE (R140, R153). -/
def State.writeTracePages (s : State) : State :=
  let s := { s with fst := { s.fst with traceSeq := (s.fst.traceSeq + 2) % 2 ^ 32 } }
  let ws := s.traceRecord s.fst.traceSeq
  let s1 := s.each (List.range 8) (fun t k => t.setReg (R.FST_TRACE k) (BitVec.ofNat 64 (ws.getD k 0)))
  s1.each s1.pageFuncs (fun t f =>
    let x := t.func f
    let t1 := t.writeBlock (t.attOf f) (x.clockPage + 0x40) (x.clockTSeq + 1) t.traceRecord
    t1.updFunc f (fun y => { y with clockTSeq := (y.clockTSeq + 2) % 2 ^ 32 }))

/-- A Flowstone state change raises STATE_CHANGE, writes TIME_STATE to every function and rewrites the time blocks (R77,
R140). -/
def State.setTimeState (s : State) (n : Nat) : State :=
  if s.rd F.FST_STATUS_STATE = n then s
  else
    let s1 := (s.wr F.FST_STATUS_STATE n).raise F.FST_INT_STATUS_STATE_CHANGE
    let s2 := s1.eventAll 0x0001 0 (n + s1.rd F.FST_STATUS_ALIGNED * 8) s1.fst.bound
    s2.writeTimePages none

end Sys2Proof.Machine
end

