-- ==== Sys2Proof/Machine/Ptp.lean ====
section
/-! DEFINITION. Machine/Ptp.lean: the PTP engine (R97-R122, R147): stamps, acceptance of messages, every message type, the
outcome of the best master clock algorithm and unicast grants. -/

namespace Sys2Proof.Machine

open Sys2Proof

set_option cleanup.letToHave false

/-- A mean in whole units of 2^-16 ns; which neighbour a fraction takes is free (log entry 17). -/
def meanDiv (a : Int) (n : Nat) : Int :=
  if a.emod n = 0 then a.ediv n else a.ediv n + (if Config.roundUp a n then 1 else 0)

/-- A PTP instance's state. -/
def State.inst (s : State) (i : Nat) : PtpInst := Map.get s.car.inst {} i

/-- Change a PTP instance's state. -/
def State.updInst (s : State) (i : Nat) (g : PtpInst → PtpInst) : State :=
  { s with car := { s.car with inst := Map.upd s.car.inst {} i g } }

/-- Constant receive and transmit delays of a mode (LINK_STATUS.SPEED) and FEC in quarters of a nanosecond (R582). -/
def modeDelay (speed fec : Nat) : Nat × Nat :=
  if speed = 1 then (232, 86) else if speed = 2 then (227, 85) else if speed = 3 then (222, 84)
  else if speed = 4 then (217, 83) else if speed = 5 then (388, 141)
  else if speed = 6 then (if fec = 2 then (730, 192) else if fec = 1 then (281, 126) else (75, 49))
  else if speed = 7 then (if fec = 1 then (688, 306) else (179, 116))
  else (0, 0)

/-- The constant delays of a port in units of 2^-16 ns. -/
def State.portDelay (s : State) (p : Nat) : Nat × Nat :=
  let d := modeDelay (s.rd (F.PRT_LINK_STATUS_SPEED p)) (s.rd (F.PRT_LINK_STATUS_FEC p))
  (d.1 * 16384, d.2 * 16384)

/-- Arrival stamp at the MDI of a port: the counter at the core, `sub` within the cycle, less the measured, external and
constant receive delays (R97, R98, R100, R582). -/
def State.stampRx (s : State) (p sub : Nat) : Int :=
  s.fst.now + sub - s.rd (F.FST_PORT_CAL_RX_CAL p) - s.rd (F.FST_PORT_EXT_RX_EXT p) - (s.portDelay p).1

/-- Departure stamp at the MDI of a port. -/
def State.stampTx (s : State) (p sub : Nat) : Int :=
  s.fst.now + sub + s.rd (F.FST_PORT_CAL_TX_CAL p) + s.rd (F.FST_PORT_EXT_TX_EXT p) + (s.portDelay p).2

/-- Whether port p is a PTP port of the enabled instance i (R104). -/
def State.ptpMember (s : State) (i p : Nat) : Bool :=
  s.rdB (F.FST_PTP_CFG_ENABLE i) && bitOf (s.rd (F.FST_PTP_PORTS_MEMBERS i)) p

/-- portState of port p (FST_PTP_STATUS.PORT_STATE). -/
abbrev portStateFld (i p : Nat) : Fld := ⟨R.FST_PTP_STATUS i, 4 * p, 4⟩

/-- IEEE 1588 port states the model names (log entry 18). -/
abbrev psListening : Nat := 4
abbrev psMaster : Nat := 6
abbrev psSlave : Nat := 9

/-- R114: a member port whose MACsec protects PTP frames makes the instance send two-step. -/
def State.secyPtp (s : State) (p : Nat) : Bool :=
  s.rdB (F.CRY_SECY_CFG_ENABLE p) && s.rdB (F.CRY_SECY_CFG_PROTECT p) && !s.rdB (F.CRY_SECY_CFG_BYPASS_PTP p)

/-- Recompute ONE_STEP_DOWN of an instance (R114). -/
def State.oneStepDown (s : State) (i : Nat) : State :=
  let any := (List.range 8).any (fun p => s.ptpMember i p && s.secyPtp p)
  s.wrB (F.FST_PTP_STATUS_ONE_STEP_DOWN i) (any && !s.rdB (F.FST_PTP_CFG_TWO_STEP i))

/-- Mark every source that names instance i UNTRUSTED (R117). -/
def State.untrustInst (s : State) (i : Nat) : State :=
  s.each [0, 1, 2, 3] (fun t n =>
    if t.rd (F.FST_SRC_CFG_TYPE n) = 1 ∧ t.rd (F.FST_SRC_CFG_INSTANCE n) = i then t.wr (F.FST_SRC_STATUS_SSTATE n) 4
    else t)

/-- A failed authentication: dropped and counted; the third within 16 s marks the sources UNTRUSTED (R117). -/
def State.ptpAuthFail (s : State) (i : Nat) : State :=
  let s1 := s.err (R.FST_PTP_AUTH_CNT i)
  let now := s1.fst.nowNs
  let recent := ((s1.inst i).authFails.filter (fun t => decide (now < t + 16000000000))).take 2
  let s2 := s1.updInst i (fun x => { x with authFails := now :: recent })
  if recent.length = 2 then (s2.untrustInst i).raise F.FST_INT_STATUS_AUTH_FAIL else s2

/-- Checks every received message meets before its type's own handling (R108, R109, R116, R117, R122); `minLen` is the
type's minimum length. None: the message was dropped and counted. -/
def State.ptpAccept (s : State) (i p : Nat) (m : PtpMsg) (minLen : Nat) : Option State × State :=
  if !s.ptpMember i p then (none, s)
  else
    let n := (s.inst i).msgCount
    if 4096 ≤ n then (none, s.err (R.FST_PTP_MALFORMED_CNT i))
    else
      let s := (s.stat (R.FST_PTP_RX_CNT i)).updInst i (fun x => { x with msgCount := n + 1 })
      if m.ver ≠ 2 ∨ 1 < m.minor then (none, s.err (R.FST_PTP_REFUSED_CNT i))
      else if m.msgLen < minLen ∨ m.frameLen < m.msgLen then (none, s.err (R.FST_PTP_MALFORMED_CNT i))
      else if m.auth = 2 then (none, s.err (R.FST_PTP_REFUSED_CNT i))
      else if s.rdB (F.FST_PTP_CFG_AUTH i) &&
          !(m.auth == 1 && m.icv == Config.ptpMac (Map.get s.grt.ptpKey 0 (s.rd (F.FST_PTP_PORTS_KEY_SLOT i))) m.body) then
        (none, s.ptpAuthFail i)
      else (some s, s)

/-- Whether the accepted form applies, else the state as the refusal left it. -/
def withAccepted (r : Option State × State) (k : State → State) : State :=
  match r with
  | (some s, _) => k s
  | (none, s) => s

/-- A port of a client instance is in client state when it is the parent port. -/
def State.isClientPort (s : State) (i p : Nat) : Bool := s.rd (portStateFld i p) == psSlave

/-- The peer-delay state of a port. -/
def PtpInst.pd (x : PtpInst) (p : Nat) : PeerDelay := Map.get x.peer {} p

/-- Set MEAN_DELAY and the instance's mean path delay. -/
def State.setMeanDelay (s : State) (i : Nat) (d : Int) : State :=
  (s.updInst i (fun x => { x with meanDelay := d })).wrI (F.FST_PTP_DELAY_MEAN_DELAY i) d

/-- Complete an exchange: offsetFromMaster = t2 - t1 - meanPathDelay - corrections, with delayAsymmetry (R111). -/
def State.ptpExchange (s : State) (i : Nat) (offset delay : Int) : State :=
  s.updInst i (fun x => { x with exchanges := (delay, offset) :: x.exchanges })

/-- t1 and t2 of a Sync are known: store them; in peer-delay mode the exchange is complete (R110, R111). -/
def State.ptpSyncDone (s : State) (i p : Nat) (t1 t2 : Int) : State :=
  let s1 := s.updInst i (fun x => { x with t1 := t1, t2 := t2, syncOk := true, heldSync := none })
  if s1.rdB (F.FST_PTP_CFG_P2P i) then
    let d := ((s1.inst i).pd p).mean
    s1.ptpExchange i (t2 - t1 - d - s1.rdI (F.FST_PORT_ASYM_ASYM p)) d
  else s1

/-- The upper limit, in half ps, of the accuracy a clockAccuracy code of IEEE 1588-2019 denotes; none where it denotes no
upper limit (R147; the code values are log entry 18). -/
def accuracyHalfPs (code : Nat) : Option Nat :=
  if code < 0x17 ∨ 0x30 < code then none
  else ([2, 5, 20, 50, 200, 500, 2000, 5000, 20000, 50000, 200000, 500000, 2000000, 5000000, 20000000, 50000000, 200000000,
    500000000, 2000000000, 5000000000, 20000000000, 50000000000, 200000000000, 500000000000, 2000000000000,
    20000000000000] : List Nat)[code - 0x17]?

/-- ERR_EST of R147 in ns, for the kept offsets of a second. -/
def State.ptpErrEst (s : State) (i : Nat) (kept : List Int) : Nat :=
  let par := (s.inst i).parent
  let hop := s.rd F.FST_TRACE_CFG_HOP_ERR
  let g := if par.gmAccuracy = 0xFE then some (2 * s.rd F.FST_TRACE_CFG_GM_ERR) else accuracyHalfPs par.gmAccuracy
  match g with
  | none => 0xFFFFFFFF
  | some g => stop32 (ceilDiv (g + 2 * (par.steps + 1) * hop + sigma389Up kept) 2000)

/-- The instance's report at a vote boundary (R103, R112, R147): the negated mean of the kept exchanges. -/
def State.ptpReport (s : State) (i : Nat) : Option Meas :=
  let x := s.inst i
  match (x.exchanges.map (·.1)).min? with
  | none => none
  | some lo =>
    let win : Int := (s.rd (F.FST_PTP_PORTS_FILTER_WIN i) : Int) * 65536
    let kept := (x.exchanges.filter (fun e => decide (e.1 ≤ lo + win))).map (·.2)
    let calFail := match x.parentPort with | some p => s.rdB (F.FST_PORT_CAL_STATUS_CAL_FAIL p) | none => false
    some { offset := -(meanDiv (sumI kept) kept.length), err := if calFail then 0xFFFFFFFF else s.ptpErrEst i kept }

/-! The best master clock algorithm (R118) -/

/-- The foreign data sets the algorithm decides on, by port. -/
def PtpInst.candidates (x : PtpInst) : List (Nat × Nat × Nat) :=
  x.foreign.map (fun e => (e.1, e.2.gmIdentity,
    ((((e.2.priority1 * 256 + e.2.gmClass) * 256 + e.2.gmAccuracy) * 65536 + e.2.gmVariance) * 256 + e.2.priority2) * 256
      + e.2.steps))

/-- Re-decide every port state: the parent port, if any, goes to client state unless MASTER_ONLY; another member takes
a state R118 allows it (log entry 7). A transparent clock has no port state (R106). -/
def State.bmca (s : State) (i : Nat) : State :=
  let x := s.inst i
  let prof := s.rd (F.FST_PTP_CFG_PROFILE i)
  let c := Config.bmcaParent prof (s.rd (F.FST_PTP_CFG_PRIORITY1 i) * 256 + s.rd (F.FST_PTP_CFG_PRIORITY2 i))
    (s.rd (F.FST_PTP_PORTS_LOCAL_PRIO i)) x.candidates
  let ok := s.ptpMember i c && !bitOf (s.rd (F.FST_PTP_PORTS_MASTER_ONLY i)) c && (Map.get x.foreign {} c).src != 0
    && s.rd (F.FST_PTP_CFG_ROLE i) != 2
  let parent := if ok then some c else none
  let others := fun p =>
    let r := Config.bmcaPort prof i p x.candidates.length
    let m := s.rdB (F.FST_PTP_CFG_CLIENT_ONLY i)
    if m then [psListening, 7].getD (r % 2) psListening else [psListening, psMaster, 7].getD (r % 3) psMaster
  let s1 := s.each (List.range 8) (fun t p =>
    t.wr (portStateFld i p)
      (if !t.ptpMember i p || t.rd (F.FST_PTP_CFG_ROLE i) == 2 then 0
       else if parent == some p then psSlave else others p))
  match parent with
  | some p =>
    let a := Map.get x.foreign {} p
    let s2 := s1.updInst i (fun y => { y with parentPort := some p, parent := a })
    ((s2.wr (F.FST_PTP_STATUS_STEPS_REMOVED i) a.steps).wr (F.FST_PTP_STATUS_GM_CLASS i) a.gmClass).wr
      (F.FST_PTP_GM_GM_IDENTITY i) a.gmIdentity
  | none => s1.updInst i (fun y => { y with parentPort := none })

/-! The commands -/

/-- Whether the engine sends two-step on a port (TWO_STEP, R114). -/
def State.sendsTwoStep (s : State) (i p : Nat) : Bool := s.rdB (F.FST_PTP_CFG_TWO_STEP i) || s.secyPtp p

/-- Send a PTP message: counted, with the authentication TLV where AUTH is 1 (R116). -/
def State.ptpSend (s : State) (i p kind seq : Nat) (ts corr : Int) (two : Bool) : State :=
  (s.stat (R.FST_PTP_TX_CNT i)).emit (.ptp i p kind seq ts corr two (s.rdB (F.FST_PTP_CFG_AUTH i)))

/-- PTP_SYNC_TX: a master port sends Sync, one-step with the stamp or two-step with Follow_Up (R110, R113, R114). -/
def execPtpSyncTx (i p : Nat) (s : State) : Out :=
  if s.ptpMember i p && s.rd (portStateFld i p) == psMaster then
    let s := s.oneStepDown i
    let seq := (s.inst i).syncSeq
    let t := s.stampTx p 0
    let two := s.sendsTwoStep i p
    let s1 := s.updInst i (fun x => { x with syncSeq := (seq + 1) % 65536 })
    let s2 := s1.ptpSend i p 0x0 seq (if two then 0 else t) 0 two
    .next (if two then s2.ptpSend i p 0x8 seq t 0 true else s2)
  else .next s

/-- PTP_SYNC_RX: the parent's Sync is stamped t2; one-step completes, two-step waits for its Follow_Up (R110, R122). -/
def execPtpSyncRx (i p : Nat) (m : PtpMsg) (s : State) : Out :=
  .next (withAccepted (s.ptpAccept i p m 44) (fun s =>
    if s.isClientPort i p && (s.inst i).parentPort == some p && (s.inst i).parent.src == m.src then
      let t2 := s.stampRx p m.sub
      if m.twoStep then
        s.updInst i (fun x => { x with heldSync := some ⟨p, m.src, m.seq, t2, m.corr⟩ })
      else s.ptpSyncDone i p (m.ts + m.corr) t2
    else s.err (R.FST_PTP_UNMATCHED_CNT i)))

/-- PTP_FOLLOW_UP_RX: completes t1 of its Sync; with no Sync it is discarded and counted (R110, R122). -/
def execPtpFollowUpRx (i p : Nat) (m : PtpMsg) (s : State) : Out :=
  .next (withAccepted (s.ptpAccept i p m 44) (fun s =>
    match (s.inst i).heldSync with
    | some h =>
      if h.port = p ∧ h.src = m.src ∧ h.seq = m.seq then s.ptpSyncDone i p (m.ts + m.corr + h.corr) h.t2
      else s.err (R.FST_PTP_UNMATCHED_CNT i)
    | none => s.err (R.FST_PTP_UNMATCHED_CNT i)))

/-- PTP_DELAY_REQ_TX: a client port sends Delay_Req and stamps t3 (R110). -/
def execPtpDelayReqTx (i p : Nat) (s : State) : Out :=
  if s.ptpMember i p && s.isClientPort i p && !s.rdB (F.FST_PTP_CFG_P2P i) then
    let seq := ((s.inst i).reqSeq + 1) % 65536
    let t := s.stampTx p 0
    .next ((s.updInst i (fun x => { x with reqSeq := seq, reqT3 := some t, reqPort := p })).ptpSend i p 0x1 seq 0 0 false)
  else .next s

/-- PTP_DELAY_REQ_RX: a master port stamps t4 and returns Delay_Resp with it (R110). -/
def execPtpDelayReqRx (i p : Nat) (m : PtpMsg) (s : State) : Out :=
  .next (withAccepted (s.ptpAccept i p m 44) (fun s =>
    if s.rd (portStateFld i p) = psMaster then s.ptpSend i p 0x9 m.seq (s.stampRx p m.sub) m.corr false else s))

/-- PTP_DELAY_RESP_RX: matched by sequenceId and requestingPortIdentity (here the requesting instance's port), it gives
meanPathDelay and completes the exchange (R110, R111, R119); unmatched it is held (R122). -/
def execPtpDelayRespRx (i p : Nat) (m : PtpMsg) (s : State) : Out :=
  .next (withAccepted (s.ptpAccept i p m 54) (fun s =>
    let x := s.inst i
    match x.reqT3 with
    | some t3 =>
      if x.reqSeq = m.seq ∧ x.reqPort = p ∧ m.req = i * 8 + p then
        let s := s.updInst i (fun y => { y with reqT3 := none, minDelayReq := m.logInterval })
        if x.syncOk then
          let d := meanDiv ((x.t2 - t3) + (m.ts - x.t1) - m.corr) 2
          (s.setMeanDelay i d).ptpExchange i (x.t2 - x.t1 - d - s.rdI (F.FST_PORT_ASYM_ASYM p)) d
        else s
      else s.updInst i (fun y => { y with unmatched := y.unmatched ++ [⟨p, 0x9, m.seq, m.src⟩] })
    | none => s.updInst i (fun y => { y with unmatched := y.unmatched ++ [⟨p, 0x9, m.seq, m.src⟩] })))

/-- PTP_PDELAY_REQ_TX: a peer-delay port sends Pdelay_Req and stamps t1 (R110). -/
def execPtpPdelayReqTx (i p : Nat) (s : State) : Out :=
  if s.ptpMember i p && s.rdB (F.FST_PTP_CFG_P2P i) then
    let seq := (((s.inst i).pd p).seq + 1) % 65536
    let t := s.stampTx p 0
    let s1 := s.updInst i (fun x => { x with
      peer := Map.upd x.peer {} p (fun d => { d with seq := seq, t1 := t, sent := true, waitFup := false }) })
    .next (s1.ptpSend i p 0x2 seq 0 0 false)
  else .next s

/-- PTP_PDELAY_REQ_RX: answered one-step when TWO_STEP is 0, else two-step (R110). -/
def execPtpPdelayReqRx (i p : Nat) (m : PtpMsg) (s : State) : Out :=
  .next (withAccepted (s.ptpAccept i p m 54) (fun s =>
    let t2 := s.stampRx p m.sub
    let t3 := s.stampTx p m.sub
    let two := s.sendsTwoStep i p
    if two then (s.ptpSend i p 0x3 m.seq t2 0 true).ptpSend i p 0xA m.seq t3 m.corr true
    else s.ptpSend i p 0x3 m.seq 0 (m.corr + (t3 - t2)) false))

/-- The link delay of a port from its round trip and the responder's turnaround (R110). -/
def State.ptpPeerDone (s : State) (i p : Nat) (turn : Int) : State :=
  let d := (s.inst i).pd p
  let mean := meanDiv ((d.t4 - d.t1) - turn) 2
  let s1 := s.updInst i (fun x => { x with
    peer := Map.upd x.peer {} p (fun d => { d with mean := mean, sent := false, waitFup := false }) })
  if (s1.inst i).parentPort = some p then s1.setMeanDelay i mean else s1

/-- PTP_PDELAY_RESP_RX: t4 is stamped; a one-step response completes meanLinkDelay, a two-step one waits (R110). -/
def execPtpPdelayRespRx (i p : Nat) (m : PtpMsg) (s : State) : Out :=
  .next (withAccepted (s.ptpAccept i p m 54) (fun s =>
    let d := (s.inst i).pd p
    if d.sent ∧ d.seq = m.seq then
      let t4 := s.stampRx p m.sub
      let s1 := s.updInst i (fun x => { x with
        peer := Map.upd x.peer {} p (fun d => { d with t4 := t4, turn := -m.ts + m.corr, waitFup := m.twoStep }) })
      if m.twoStep then s1 else s1.ptpPeerDone i p m.corr
    else s))

/-- PTP_PDELAY_RESP_FOLLOW_UP_RX: gives the responder's send time and completes meanLinkDelay; unmatched it is held
(R110, R122). -/
def execPtpPdelayRespFollowUpRx (i p : Nat) (m : PtpMsg) (s : State) : Out :=
  .next (withAccepted (s.ptpAccept i p m 54) (fun s =>
    let d := (s.inst i).pd p
    if d.waitFup ∧ d.seq = m.seq then s.ptpPeerDone i p (d.turn + m.ts + m.corr)
    else s.updInst i (fun y => { y with unmatched := y.unmatched ++ [⟨p, 0xA, m.seq, m.src⟩] })))

/-- PTP_ANNOUNCE_TX: a master port sends Announce (R110). -/
def execPtpAnnounceTx (i p : Nat) (s : State) : Out :=
  if s.ptpMember i p && s.rd (portStateFld i p) == psMaster then
    let seq := (s.inst i).annSeq
    .next ((s.updInst i (fun x => { x with annSeq := (seq + 1) % 65536 })).ptpSend i p 0xB seq 0 0 false)
  else .next s

/-- PTP_ANNOUNCE_RX: input to the BMCA, which decides the port states; stepsRemoved 255 or more is discarded (R110,
R118). -/
def execPtpAnnounceRx (i p : Nat) (m : PtpMsg) (a : AnnounceMsg) (s : State) : Out :=
  .next (withAccepted (s.ptpAccept i p m 64) (fun s =>
    if 255 ≤ a.steps then s
    else
      let s1 := s.updInst i (fun x => { x with
        foreign := Map.set x.foreign {} p
          { src := m.src, gmIdentity := a.gmIdentity, priority1 := a.priority1, gmClass := a.gmClass,
            gmAccuracy := a.gmAccuracy, gmVariance := a.gmVariance, priority2 := a.priority2, steps := a.steps,
            timeSource := a.timeSource, timeTraceable := a.timeTraceable, freqTraceable := a.freqTraceable,
            utcOffset := a.utcOffset, utcValid := a.utcValid } })
      s1.bmca i))

/-- Clients of an instance that hold grants, each once. -/
def PtpInst.clients (x : PtpInst) : List Nat := (x.given.map (·.client)).eraseDups

/-- Clients given grants across all instances (R121). -/
def State.grantClients (s : State) : Nat := s.car.inst.foldl (fun n e => n + e.2.clients.length) 0

/-- PTP_SIGNALING_RX: a master grants or refuses a request; a client takes or loses a grant; L1Sync TLVs are accepted
(R120, R121). -/
def execPtpSignalingRx (i p : Nat) (m : PtpMsg) (v : PtpTlv) (s : State) : Out :=
  .next (withAccepted (s.ptpAccept i p m 44) (fun s =>
    match v with
    | .l1sync => s
    | .request k lp dur =>
      let others := (s.inst i).given.filter (fun g => !(g.client == m.src && g.kind == k))
      if s.rdB (F.FST_PTP_CFG_UNICAST i) ∧ (s.grantClients < 512 ∨ (s.inst i).clients.contains m.src) ∧ s.rdI (F.FST_PTP_CFG_LOG_SYNC i) ≤ lp then
        let d := min dur 300
        (s.updInst i (fun x => { x with given := ⟨m.src, k, d⟩ :: others })).emit (.ptpGrant i m.src k d)
      else (s.err (R.FST_PTP_REFUSED_CNT i)).emit (.ptpGrant i m.src k 0)
    | .grant k lp dur =>
      let keep := (s.inst i).held.filter (fun g => !(g.client == m.src && g.kind == k))
      if dur = 0 ∨ 0 < lp then
        s.updInst i (fun x => { x with held := keep, denied := ⟨m.src, k, 60⟩ :: x.denied })
      else s.updInst i (fun x => { x with held := ⟨m.src, k, dur⟩ :: keep })))

/-- PTP_MANAGEMENT_RX: dropped and counted, with no answer (R109, R122). -/
def execPtpManagementRx (i p : Nat) (m : PtpMsg) (s : State) : Out :=
  .next (withAccepted (s.ptpAccept i p m 48) (fun s => s.err (R.FST_PTP_REFUSED_CNT i)))

/-- PTP_UNMATCHED_TIMEOUT: the oldest held message without its match is discarded and counted (R122). -/
def execPtpUnmatchedTimeout (i : Nat) (s : State) : Out :=
  let x := s.inst i
  match x.unmatched, x.heldSync with
  | _ :: t, _ => .next ((s.updInst i (fun y => { y with unmatched := t })).err (R.FST_PTP_UNMATCHED_CNT i))
  | [], some _ => .next ((s.updInst i (fun y => { y with heldSync := none })).err (R.FST_PTP_UNMATCHED_CNT i))
  | [], none =>
    match s.tm.tcHeld with
    | [] => .next s
    | (_, p) :: t => .next (({ s with tm := { s.tm with tcHeld := t } }.err (R.FST_PTP_UNMATCHED_CNT i)).txDropped p)

/-- PTP_GRANT_RENEW: the client renews each grant when half of it has elapsed, for 300 s (R120). -/
def execPtpGrantRenew (i k : Nat) (s : State) : Out :=
  match (s.inst i).held.find? (fun g => g.kind == k) with
  | some g => .next (s.emit (.ptpGrant i g.client k 300))
  | none => .next s

/-- PTP_GRANT_REQUEST_RETRY: 60 s after a denial or slower grant, the request is repeated (R120). -/
def execPtpGrantRequestRetry (i k : Nat) (s : State) : Out :=
  match (s.inst i).denied.find? (fun g => g.kind == k) with
  | some g => .next ((s.updInst i (fun x => { x with denied := x.denied.filter (· ≠ g) })).emit (.ptpGrant i g.client k 300))
  | none => .next s

/-- PTP_GRANT_EXPIRY: a grant given to a client ends (R121). -/
def execPtpGrantExpiry (i client k : Nat) (s : State) : Out :=
  .next (s.updInst i (fun x => { x with given := x.given.filter (fun g => !(g.client == client && g.kind == k)) }))

/-- PTP_ANNOUNCE_RECEIPT_TIMEOUT: the parent's data set is dropped and the BMCA re-decides (R118). -/
def execPtpAnnounceReceiptTimeout (i : Nat) (s : State) : Out :=
  match (s.inst i).parentPort with
  | some p => .next ((s.updInst i (fun x => { x with foreign := Map.set x.foreign {} p {} })).bmca i)
  | none => .next s

/-- PORT_CALIBRATION_DONE: the loop-back measurement fills FST_PORT_CAL and sets CAL_DONE; a failed one sets CAL_FAIL and
keeps the previous results (R98, R103). The port's link-up that waits for it completes. -/
def State.calibrate (s : State) (p : Nat) (ok : Bool) (tx rx temp : Nat) : State :=
  if ok then
    ((((s.wr (F.FST_PORT_CAL_TX_CAL p) tx).wr (F.FST_PORT_CAL_RX_CAL p) rx).wr (F.FST_PORT_CAL_STATUS_CAL_DONE p) 1).wr
      (F.FST_PORT_CAL_STATUS_CAL_FAIL p) 0).wr (F.FST_PORT_CAL_STATUS_CAL_TEMP p) temp
  else s.wr (F.FST_PORT_CAL_STATUS_CAL_FAIL p) 1

/-- DELAY_TEMP_CORRECTION: once a second while the link is up the measured delays follow the die temperature (R99). -/
def execDelayTempCorrection (p : Nat) (s : State) : Out :=
  if s.rdB (F.PRT_LINK_STATUS_UP p) then
    let t : Int := s.rd F.FLT_THERM_TEMP
    let c := fun k => Config.tempCorr p k (t - s.rd (F.FST_PORT_CAL_STATUS_CAL_TEMP p))
    .next ((s.wrI (F.FST_PORT_CAL_TX_CAL p) (s.rd (F.FST_PORT_CAL_TX_CAL p) + c 0)).wrI (F.FST_PORT_CAL_RX_CAL p)
      (s.rd (F.FST_PORT_CAL_RX_CAL p) + c 1))
  else .next s

end Sys2Proof.Machine
end

