-- ==== Sys2Proof/Machine/Tm.lean ====
section
/-! DEFINITION. Machine/Tm.lean: the traffic manager (R324-R360): configuration tables, policers, admission, back-pressure,
shapers, gates, selection, the end of a frame, sampling. -/

namespace Sys2Proof.Machine

open Sys2Proof

set_option cleanup.letToHave false

/-! Configuration tables (R358, R359) -/

abbrev tQueue : Nat := 0
abbrev tGroup : Nat := 1
abbrev tClass : Nat := 2
abbrev tPort : Nat := 3
abbrev tProfile : Nat := 4
abbrev tPolicer : Nat := 5
abbrev tGateAdmin : Nat := 6

/-- Key of a table entry. -/
def tmKey (t i : Nat) : Nat := t * 2 ^ 20 + i

/-- A field of a configuration entry. -/
def State.tmF (s : State) (t i lo w : Nat) : Nat := bitsOf (Map.get s.tm.tbl 0 (tmKey t i)) lo w

/-- A field as in force since the last drip boundary (R333, R341). -/
def State.tmE (s : State) (t i lo w : Nat) : Nat := bitsOf (Map.get s.tm.eff 0 (tmKey t i)) lo w

/-- A queue, a group. -/
def State.tq (s : State) (q : Nat) : TmQueue := Map.get s.tm.queues {} q
def State.tg (s : State) (g : Nat) : TmGroup := Map.get s.tm.groups {} g

def State.setTq (s : State) (q : Nat) (x : TmQueue) : State := { s with tm := { s.tm with queues := Map.set s.tm.queues {} q x } }
def State.setTg (s : State) (g : Nat) (x : TmGroup) : State := { s with tm := { s.tm with groups := Map.set s.tm.groups {} g x } }

def State.prt1 (s : State) (p : Nat) : Port := Map.get s.prt.port {} p
def State.setPrt (s : State) (p : Nat) (x : Port) : State := { s with prt := { s.prt with port := Map.set s.prt.port {} p x } }

/-- The group of a queue; the port and class of a group. -/
def State.groupOf (s : State) (q : Nat) : Nat := s.tmF tQueue q 0 11
def State.portOf (s : State) (g : Nat) : Nat := s.tmF tGroup g 0 3
def State.classOf (s : State) (g : Nat) : Nat := s.tmF tGroup g 3 3

/-! Frame lengths (R326, R383, R384) -/

/-- Whether a frame is PTP, over Ethernet or UDP ports 319 and 320: the offset of the PTP header. -/
def ptpAt (l : List Byte) : Option Nat :=
  let e := etherTypeAt l
  if be16 l e = 0x88F7 then some (e + 2)
  else match firstIp l with
    | some (o, v6) =>
      let u := o + ipHdrLen l o v6
      if ipProto l o v6 = 17 ∧ (be16 l (u + 2) = 319 ∨ be16 l (u + 2) = 320) then some (u + 8) else none
    | none => none

/-- Whether the SecY of a port acts on a frame it sends (R383, R384). -/
def State.secyTx (s : State) (p : Nat) (l : List Byte) : Bool :=
  s.rdB (F.CRY_SECY_CFG_ENABLE p) && s.rdB (F.CRY_SECY_CFG_PROTECT p) && be16 l (etherTypeAt l) != 0x888E
    && !(s.rdB (F.CRY_SECY_CFG_BYPASS_PTP p) && (ptpAt l).isSome)

/-- The frame length of a packet at a port (R326, R383). -/
def State.flen (s : State) (p : Nat) (x : Pkt) : Nat := x.data.length + (if s.secyTx p x.data then 32 else 0)

/-- The wire length. -/
def wireLen (n : Nat) : Nat := max n 60 + 24

/-- The cells of a packet (R329). -/
def cellsOf (n : Nat) : Nat := (n + 255) / 256

/-! Policers (R335-R338) -/

/-- Meter a packet by its policer: 0 green, 1 yellow, 2 red (R336). -/
def State.police (s : State) (p : Pkt) (len : Nat) : Nat × State :=
  let i := p.g Md.policer
  let e := fun lo w => s.tmF tPolicer i lo w
  if p.g Md.policerEn = 0 ∨ e 136 1 = 0 then (0, s)
  else
    let b : PolBkt := Map.get s.tm.pol {} i
    let n : Int := (((max len 60 + 4 : Nat) : Int) + toSigned 8 (e 128 8)) * 256
    let set := fun (x : PolBkt) => { s with tm := { s.tm with pol := Map.set s.tm.pol {} i x } }
    if b.tpb < n then (2, s)
    else if b.tcb < n then (1, set { b with tpb := b.tpb - n })
    else (0, set { tcb := b.tcb - n, tpb := b.tpb - n })

/-- Whether a red packet is dropped, and its counts (R337). -/
def State.policeDrop (s : State) (p : Pkt) (colour : Nat) : Bool × State :=
  let i := p.g Md.policer
  if colour = 2 ∧ s.tmF tPolicer i 137 1 = 1 then
    let m := Map.upd s.tm.redPkts 0 i (fun n => (n + 1) % 2 ^ 64)
    (true, { s with tm := { s.tm with redPkts := m } }.stat R.TMG_POLICE_RED_CNT)
  else (false, s)

/-- Refill of the policers at a drip boundary; a written entry's buckets become full (R336, R338). -/
def State.policeRefill (s : State) : State :=
  let ks := (s.tm.tbl.filter (fun e => decide (e.1 / 2 ^ 20 = tPolicer))).map (fun e => e.1 % 2 ^ 20)
  let s := s.each ks (fun t i =>
    let e := fun lo => (t.tmF tPolicer i lo 32 : Nat)
    let b : PolBkt := Map.get t.tm.pol {} i
    let cbs : Int := (e 64 * 256 : Nat)
    let pbs : Int := (e 96 * 256 : Nat)
    let x : PolBkt := if t.tm.polFill.contains i then { tcb := cbs, tpb := pbs }
      else { tcb := min (b.tcb + e 0) cbs, tpb := min (b.tpb + e 32) pbs }
    { t with tm := { t.tm with pol := Map.set t.tm.pol {} i x } })
  { s with tm := { s.tm with polFill := [] } }

/-! MAC control frames and priority flow control (R574, R576) -/

/-- Change an NC-SI channel. -/
def State.updNc (s : State) (c : Nat) (f : NcChan → NcChan) : State :=
  { s with prt := { s.prt with nc := { s.prt.nc with chans := Map.upd s.prt.nc.chans {} c f } } }

/-- Send a control frame now. -/
def State.ctlSend (s : State) (p : Nat) : CtlFrame → State
  | .pfc v ts => (s.stat (R.PRT_TX_PFC_CNT p)).emit (.pfc p v ts)
  | .pass c d =>
    (s.updNc c (fun x => { x with txBmc := x.txBmc + 1 })).emit
      (.frame p (d ++ List.replicate (60 - d.length) 0) (s.stampTx p 0) false)

/-- Send a control frame between two frames: at once, or after the frame being sent (R574). -/
def State.ctlFrame (s : State) (p : Nat) (c : CtlFrame) : State :=
  if (s.prt1 p).tx.isNone then s.ctlSend p c
  else s.setPrt p { s.prt1 p with ctl := (s.prt1 p).ctl ++ [c] }

/-- The control frames that waited are sent. -/
def State.ctlFlush (s : State) (p : Nat) : State :=
  let l := (s.prt1 p).ctl
  (s.setPrt p { s.prt1 p with ctl := [] }).each l (fun t c => t.ctlSend p c)

/-- The XOFF frame of a port: PAUSE_TIME for every priority held (R576). -/
def State.pfcFrame (s : State) (p : Nat) : CtlFrame :=
  let l := (List.range 8).filter (fun i => (s.prt1 p).heldPrio.contains i)
  .pfc (l.map (fun i => 2 ^ i)).sum (l.map (fun _ => s.rd (F.PRT_PFC_CFG_PAUSE_TIME p)))

/-- A queue entered back-pressure because of a frame of priority i from port p (R576). -/
def State.pfcHold (s : State) (p i : Nat) : State :=
  let x := s.prt1 p
  let s := if x.heldPrio.contains i then s else s.setPrt p { x with heldPrio := i :: x.heldPrio }
  s.ctlFrame p (s.pfcFrame p)

/-- Whether some queue holds a source. -/
def State.srcHeld (s : State) (h : HoldSrc) : Bool := s.tm.queues.any (fun e => e.2.held.contains h)

/-- The last queue that holds priority i has left back-pressure: PFC with time 0 (R576). -/
def State.pfcRelease (s : State) (h : HoldSrc) : State :=
  match h with
  | .port p i =>
    if s.srcHeld h then s
    else (s.setPrt p { s.prt1 p with heldPrio := (s.prt1 p).heldPrio.filter (· ≠ i) }).ctlFrame p (.pfc (2 ^ i) [0])
  | .host _ _ => s

/-- Queues of a group leave back-pressure once both occupancies are below their shares (R332). -/
def State.release (s : State) (g : Nat) : State :=
  let qs := (s.tm.queues.filter (fun e => e.2.backp)).map (·.1)
  s.each qs (fun t q =>
    if t.groupOf q = g ∧ (t.tq q).occ < t.tmE tQueue q 64 18 ∧ (t.tg g).occ < t.tmE tGroup g 88 18 then
      let h := (t.tq q).held
      (t.setTq q { t.tq q with backp := false, held := [] }).each h State.pfcRelease
    else t)

/-! Entry and admission (R325-R333) -/

/-- The source of a packet that R332 holds back. -/
def Pkt.source (p : Pkt) : Option HoldSrc :=
  if p.g Md.srcKind = 0 then some (.port (p.g Md.srcPort) p.prio)
  else if p.g Md.srcKind = 1 then some (.host p.txFn (qKey p.txKind p.txQueue))
  else none

/-- Put an admitted packet into its queue. -/
def State.tmPut (s : State) (q g cells : Nat) (p : Pkt) : State :=
  let x := s.tq q
  let s := s.setTq q { x with pkts := x.pkts ++ [{ pkt := p, cells := cells, since := s.fst.nowNs }], occ := x.occ + cells }
  let s := s.setTg g { s.tg g with occ := (s.tg g).occ + cells }
  let s := s.wr F.TMG_STATUS_FREE_CELLS (s.rd F.TMG_STATUS_FREE_CELLS - cells)
  let qo := if s.tm.qOrder.contains q then s.tm.qOrder else s.tm.qOrder ++ [q]
  let go := if s.tm.gOrder.contains g then s.tm.gOrder else s.tm.gOrder ++ [g]
  { s with tm := { s.tm with qOrder := qo, gOrder := go } }

/-- A packet is tail-dropped (R331). -/
def State.tailDrop (s : State) (q : Nat) (p : Pkt) : State :=
  (s.setTq q { s.tq q with drops := ((s.tq q).drops + 1) % 2 ^ 64 }).txDropped p

/-- Buffer admission (R330, R331). -/
def State.admit1 (s : State) (q g : Nat) (p : Pkt) (colour cells : Nat) : State :=
  let x := s.tq q
  let share := s.tmE tQueue q 64 18
  let gshare := s.tmE tGroup g 88 18
  let shares := decide (x.occ + cells ≤ share) && decide ((s.tg g).occ + cells ≤ gshare)
    && (colour == 0 || decide (x.occ + cells ≤ share * s.tmE tQueue q 56 8 / 256))
  if s.rd F.TMG_STATUS_FREE_CELLS < cells then (s.stat R.TMG_NO_CELL_CNT).txDropped p
  else if shares then s.tmPut q g cells p
  else
    let c := s.portOf g * 8 + s.classOf g
    let noPfc := p.g Md.srcKind = 0 ∧ bitOf (s.rd (F.PRT_PFC_CFG_PFC_TX (p.g Md.srcPort))) p.prio = false
    if s.tmF tClass c 14 1 = 0 ∨ noPfc ∨ gshare + s.tmE tGroup g 106 16 < (s.tg g).occ + cells then s.tailDrop q p
    else
      let s := s.tmPut q g cells p
      match p.source with
      | none => s.setTq q { s.tq q with backp := true }
      | some h =>
        let y := s.tq q
        let s := s.setTq q { y with backp := true, held := if y.held.contains h then y.held else h :: y.held }
        match h with
        | .port a i => s.pfcHold a i
        | .host _ _ => s

/-- The packet reaches its traffic-manager queue (R325-R331, R335). -/
def State.tmEnter (s : State) (p : Pkt) : State :=
  let q := p.g Md.tmQueue
  let g := s.groupOf q
  let port := s.portOf g
  let c := s.classOf g
  if p.g Md.destPort ≠ port ∨ p.g Md.tc ≠ c ∨ s.tmF tQueue q 11 1 = 0 ∨ s.tmF tGroup g 6 1 = 0
      ∨ bitOf (s.rd F.PRT_STATUS_CONFIGURED) port = false then (s.stat R.TMG_MISROUTE_CNT).txDropped p
  else
    let len := s.flen port p
    if s.tmF tClass (port * 8 + c) 0 14 < len then (s.stat R.TMG_OVERSIZE_CNT).txDropped p
    else
      let (colour, s) := s.police p len
      let (dropped, s) := s.policeDrop p colour
      if dropped then s.txDropped p else s.admit1 q g p colour (cellsOf len)

/-- TM_ENQUEUE: a packet reaches its queue and is checked, policed and admitted (R325). -/
def execTmEnqueue (id : Nat) (s : State) : Out :=
  match s.path.toTm.find? (fun p => p.id == id) with
  | none => .next s
  | some p => .next ({ s with path := { s.path with toTm := s.path.toTm.filter (fun x => x.id ≠ id) } }.tmEnter p)

/-! Shapers (R339-R341) -/

/-- Profile in force of a queue, a group, a port. -/
def State.profQ (s : State) (q : Nat) : Nat := s.tmE tQueue q 16 13
def State.profG (s : State) (g : Nat) : Nat := s.tmE tGroup g 32 13
def State.profP (s : State) (p : Nat) : Nat := s.tmE tPort p 0 13

/-- Whether a bucket is eligible (R340). -/
def bktOk (prof : Nat) (tok : Int) : Bool := prof == 0 || decide (0 ≤ tok)

/-- A bucket after a refill. -/
def State.bktRefill (s : State) (prof : Nat) (tok : Int) : Int :=
  min (tok + s.tmE tProfile prof 0 32) ((s.tmE tProfile prof 32 32 * 256 : Nat) : Int)

/-- A bucket after the charge of a frame. -/
def State.bktCharge (s : State) (prof : Nat) (tok : Int) (len : Nat) : Int :=
  if prof = 0 then tok
  else tok - (((max len 60 + 4 : Nat) : Int) + toSigned 8 (s.tmE tProfile prof 64 8)) * 256

/-- A drip boundary: the values written take force, back-pressure that the new shares end is left, every bucket refills
(R332, R333, R340, R341). -/
def State.tmRefill (s : State) : State :=
  let s := { s with tm := { s.tm with eff := s.tm.tbl } }
  let s := s.each ((s.tm.queues.filter (fun e => e.2.backp)).map (·.1)) (fun t q => t.release (t.groupOf q))
  let keys := fun (t : Nat) => (s.tm.eff.filter (fun e => decide (e.1 / 2 ^ 20 = t))).map (fun e => e.1 % 2 ^ 20)
  let s := s.each (keys tQueue) (fun t q =>
    let pr := t.profQ q
    if pr = 0 then t else t.setTq q { t.tq q with tok := t.bktRefill pr (t.tq q).tok })
  let s := s.each (keys tGroup) (fun t g =>
    let pr := t.profG g
    if pr = 0 then t else t.setTg g { t.tg g with tok := t.bktRefill pr (t.tg g).tok })
  s.each (keys tPort) (fun t p =>
    let pr := t.profP p
    let k := Map.get t.tm.portTok 0 p
    if pr = 0 then t else { t with tm := { t.tm with portTok := Map.set t.tm.portTok 0 p (t.bktRefill pr k) } })

/-! Gate lists (R344-R353). Instants and lengths are in units of 2^-16 ns. -/

/-- Whether a PRT_LANE_CFG value configures ports at all: no reserved code, quad 1 with quad 0 in 800 Gb/s (R562). -/
def laneCfgOk (v : Nat) : Bool :=
  bitsOf v 0 2 != 3 && bitsOf v 2 2 != 3 && (bitsOf v 0 2 != 2 || bitsOf v 2 2 == 2)
    && (List.range 8).all (fun l => decide (bitsOf v (16 + 3 * l) 3 ≤ 4))

/-- Mode of a port by PRT_LANE_CFG as a code of LINK_STATUS.SPEED, 0 when it is not configured (R561, R562). -/
def laneMode (v p : Nat) : Nat :=
  let m := bitsOf v (2 * (p / 4)) 2
  if laneCfgOk v = false then 0
  else if bitsOf v 0 2 = 2 then (if p = 0 then 1 else 0)
  else if m = 1 then (if p % 4 = 0 then 2 else 0)
  else if m = 0 then
    if bitOf v (8 + p / 2) then (if p % 2 = 0 then 3 else 0)
    else
      let c := bitsOf v (16 + 3 * p) 3
      if c = 0 then 0 else c + 3
  else 0

/-- The mode of a port. -/
def State.portMode (s : State) (p : Nat) : Nat := laneMode (s.reg R.PRT_LANE_CFG).toNat p

/-- Nominal rate of a port in bit/ns (R563): of its resolved speed, or of its mode while none is resolved. -/
def State.portRate (s : State) (p : Nat) : Nat :=
  let c := s.rd (F.PRT_LINK_STATUS_SPEED p)
  ([0, 800, 400, 200, 100, 50, 25, 10] : List Nat).getD (if c = 0 then s.portMode p else c) 0

def State.gate (s : State) (p : Nat) : GatePort := Map.get s.tm.gates {} p
def State.setGate (s : State) (p : Nat) (x : GatePort) : State := { s with tm := { s.tm with gates := Map.set s.tm.gates {} p x } }

/-- Entry in force at an offset into the cycle, its states, and the offset of the next boundary; the last entry holds to the
end of the cycle (R345). -/
def gateWalk (cycle off : Nat) : List (Nat × Nat) → Nat → Nat → Nat × Nat × Nat
  | [], k, _ => (k, 0xFF, cycle)
  | [(st, _)], k, _ => (k, st, cycle)
  | (st, iv) :: t, k, acc =>
    if off < acc + iv * 65536 ∨ cycle ≤ acc + iv * 65536 then (k, st, min cycle (acc + iv * 65536))
    else gateWalk cycle off t (k + 1) (acc + iv * 65536)

/-- Entry, states and next boundary of a started list at an instant. -/
def GateList.at (l : GateList) (t : Nat) : Nat × Nat × Nat :=
  let st := (l.start.getD 0) * 65536
  let c := l.cycle * 65536
  let off := (t - st) % c
  let r := gateWalk c off l.entries 0 0
  (r.1, r.2.1, t - off + r.2.2)

/-- The first boundary from `t` on at which class c is closed, looking over `fuel` boundaries and before `stop`. -/
def GateList.closes (l : GateList) (c : Nat) (stop : Option Nat) : Nat → Nat → Option Nat
  | 0, _ => none
  | fuel + 1, t =>
    let r := l.at t
    if (match stop with | some x => decide (x ≤ t) | none => false) then none
    else if bitOf r.2.1 c = false then some t
    else l.closes c stop fuel r.2.2

/-- Whether gates act on a port: a mode of 100 Gb/s or less and a list (R84, R344, R345). -/
def State.gatesActive (s : State) (p : Nat) : Bool :=
  decide (4 ≤ s.portMode p) && s.rdB F.FST_STATUS_ALIGNED
    && ((s.gate p).oper.isSome || (s.gate p).pend.isSome || !(s.gate p).copying.isEmpty)

/-- Whether a list runs at an instant: a suspended list has no start, or one that is still to come (R353). -/
def GateList.runs (l : GateList) (t : Nat) : Bool :=
  match l.start with
  | some st => decide (st * 65536 ≤ t)
  | none => false

/-- Gate states of a port at an instant: all open without an operating list that runs. -/
def State.gateStates (s : State) (p : Nat) (t : Nat) : Nat :=
  match (s.gate p).oper with
  | some l => if l.runs t then (l.at t).2.1 else 0xFF
  | none => 0xFF

/-- The list that waits for its start, or is being copied and has its start already. -/
def GatePort.next (g : GatePort) : Option GateList := (g.copying.getLast?.map (·.2)).orElse (fun _ => g.pend)

/-- Time until class c closes, none when it never does (R347). -/
def State.untilClose (s : State) (p c t : Nat) : Option Nat :=
  let g := s.gate p
  let ps := match g.next with | some l => l.start.map (fun x => x * 65536) | none => none
  let a := match g.oper with
    | some l => match l.start with
      | some st => l.closes c ps (l.entries.length + 2) (max t (st * 65536))
      | none => none
    | none => none
  match a with
  | some x => some (x - t)
  | none =>
    match g.next, ps with
    | some l, some st => (l.closes c none (l.entries.length + 2) (max st t)).map (fun x => x - t)
    | _, _ => none

/-- The guard band of a class (R347). -/
def State.guardBand (s : State) (p c : Nat) : Nat :=
  let e := p * 8 + c
  let r := s.portRate p
  (((s.tmF tClass e 0 14 + 24) * 16 + r - 1) / r + 2 * s.tmF tClass e 16 16) * 32768

/-- Whether a class may begin a frame as far as gates go (R342). -/
def State.gateLets (s : State) (p c : Nat) : Bool :=
  let t := s.fst.now.toNat
  !s.gatesActive p ||
    (bitOf (s.gateStates p t) c &&
      (match s.untilClose p c t with | some d => decide (s.guardBand p c ≤ d) | none => true))

/-- Whether PFC pauses a class (R577). -/
def State.paused (s : State) (p c : Nat) : Bool :=
  (List.range 8).any (fun i => decide (s.fst.now < Map.get (s.prt1 p).pause 0 i)
    && bitOf (s.reg (R.PRT_PFC_MAP p)).toNat (8 * i + c))

/-! Selection (R342, R343) -/

/-- Whether a queue, a group is eligible. -/
def State.qElig (s : State) (q : Nat) : Bool := !(s.tq q).pkts.isEmpty && bktOk (s.profQ q) (s.tq q).tok
def State.gElig (s : State) (g : Nat) : Bool :=
  bktOk (s.profG g) (s.tg g).tok && s.tm.qOrder.any (fun q => s.groupOf q == g && s.qElig q)

/-- Wire length of a queue's head. -/
def State.headWire (s : State) (q : Nat) : Nat :=
  match (s.tq q).pkts with
  | x :: _ => wireLen (s.flen (s.portOf (s.groupOf q)) x.pkt)
  | [] => 0

/-- Move a member to the tail of its round. -/
def toTail (l : List Nat) (m : Nat) : List Nat := l.filter (· ≠ m) ++ [m]

/-- Deficit round robin over the queues of a group; the fuel covers the rounds that the smallest quantum needs. -/
def State.drrQueue (s : State) (g : Nat) : Nat → Option Nat × State
  | 0 => (none, s)
  | fuel + 1 =>
    match s.tm.qOrder.find? (fun q => s.groupOf q == g && s.qElig q) with
    | none => (none, s)
    | some q =>
      let x := s.tq q
      let x := if x.fresh then x else { x with deficit := x.deficit + s.tmF tQueue q 32 24, fresh := true }
      if (s.headWire q : Int) ≤ x.deficit then (some q, s.setTq q x)
      else
        let s := s.setTq q { x with fresh := false }
        State.drrQueue { s with tm := { s.tm with qOrder := toTail s.tm.qOrder q } } g fuel

/-- Deficit round robin over the groups of a port and class. -/
def State.drrGroup (s : State) (p c : Nat) : Nat → Option (Nat × Nat) × State
  | 0 => (none, s)
  | fuel + 1 =>
    match s.tm.gOrder.find? (fun g => s.portOf g == p && s.classOf g == c && s.gElig g) with
    | none => (none, s)
    | some g =>
      let x := s.tg g
      let x := if x.fresh then x else { x with deficit := x.deficit + s.tmF tGroup g 64 24, fresh := true }
      let s := s.setTg g x
      match s.drrQueue g (300 * (s.tm.qOrder.length + 1)) with
      | (none, s) => (none, s)
      | (some q, s) =>
        if (s.headWire q : Int) ≤ x.deficit then (some (g, q), s)
        else
          let s := s.setTg g { s.tg g with fresh := false }
          State.drrGroup { s with tm := { s.tm with gOrder := toTail s.tm.gOrder g } } p c fuel

/-- A queue that has emptied, and a group none of whose queues holds a packet, leave their rounds (R343). -/
def State.leaveRounds (s : State) (q g : Nat) : State :=
  let s := if (s.tq q).pkts.isEmpty then
      let s := s.setTq q { s.tq q with deficit := 0, fresh := false }
      { s with tm := { s.tm with qOrder := s.tm.qOrder.filter (· ≠ q) } }
    else s
  if s.tm.qOrder.any (fun x => s.groupOf x == g) then s
  else
    let s := s.setTg g { s.tg g with deficit := 0, fresh := false }
    { s with tm := { s.tm with gOrder := s.tm.gOrder.filter (· ≠ g) } }

/-- Cells are freed, and back-pressure may end (R329, R332). -/
def State.freeCells (s : State) (q cells : Nat) : State :=
  let g := s.groupOf q
  let s := s.setTq q { s.tq q with occ := (s.tq q).occ - cells }
  let s := s.setTg g { s.tg g with occ := (s.tg g).occ - cells }
  (s.wr F.TMG_STATUS_FREE_CELLS (s.rd F.TMG_STATUS_FREE_CELLS + cells)).release g

/-- Take the head of a queue out of it. -/
def State.popHead (s : State) (q : Nat) : State := s.setTq q { s.tq q with pkts := (s.tq q).pkts.drop 1 }

/-! Transparent clocks (R115; the header's layout is log entry 18) -/

/-- The 64-bit correctionField and its replacement. -/
def ptpCorr (l : List Byte) (h : Nat) : Int := toSigned 64 (beNat ((l.drop (h + 8)).take 8))
def ptpSetCorr (l : List Byte) (h : Nat) (c : Int) : List Byte := putAt l (h + 8) (beBytes (ofSigned 64 c) 8)

/-- The transparent-clock instance whose members a packet passes between. -/
def State.tcInst (s : State) (p : Pkt) (port h : Nat) : Option Nat :=
  (List.range 8).find? (fun i => s.ptpMember i port && s.ptpMember i (p.g Md.srcPort) && s.rd (F.FST_PTP_CFG_ROLE i) == 2
    && s.rd (F.FST_PTP_CFG_DOMAIN i) == (p.data.getD (h + 4) 0).toNat && p.g Md.srcKind == 0)

/-- What a transparent clock makes of a packet leaving a port: corrected in place, a correction owed to its follow-up, or
held until its event message has passed. -/
inductive TcFate where
  | go (p : Pkt)
  | owe (p : Pkt) (c : TcCorr)
  | hold
  | pay (p : Pkt) (c : TcCorr)

/-- R115: residence time plus the asymmetries, and in peer mode the ingress link delay for Sync. -/
def State.tcFate (s : State) (p : Pkt) (port : Nat) : TcFate :=
  match ptpAt p.data with
  | none => .go p
  | some h =>
    match s.tcInst p port h with
    | none => .go p
    | some i =>
      let l := p.data
      let kind := (l.getD h 0).toNat % 16
      let two := bitOf (l.getD (h + 6) 0).toNat 1
      let seq := be16 l (h + 30)
      let src := beNat ((l.drop (h + 20)).take 10)
      let req := beNat ((l.drop (h + 44)).take 10)
      let ip := p.g Md.srcPort
      let rx : Int := ((p.g Md.tsNs * 65536 + p.g Md.tsFrac : Nat) : Int)
      let asymIn := s.rdI (F.FST_PORT_ASYM_ASYM ip)
      let asymOut := s.rdI (F.FST_PORT_ASYM_ASYM port)
      let res := s.stampTx port 0 - rx
      let peer := if s.rdB (F.FST_PTP_CFG_P2P i) then ((s.inst i).pd ip).mean else 0
      let put := fun (c : Int) => p.withData (ptpSetCorr l h (ptpCorr l h + c))
      if kind = 0 then
        let c := res + asymIn + peer
        if two then .owe p { inst := i, port := port, kind := 8, seq := seq, src := src, corr := c } else .go (put c)
      else if kind = 1 then
        let c := res - asymOut
        if s.rdB (F.FST_PTP_CFG_TWO_STEP i) then .owe p { inst := i, port := 8, kind := 9, seq := seq, src := src, corr := c }
        else .go (put c)
      else if kind = 2 then .go (put (res - asymOut))
      else if kind = 3 then
        if two then .owe p { inst := i, port := port, kind := 10, seq := seq, src := req, corr := res + asymIn }
        else .go (put (res + asymIn))
      else if kind = 8 ∨ kind = 9 ∨ kind = 10 then
        if kind = 9 ∧ s.rdB (F.FST_PTP_CFG_TWO_STEP i) = false then .go p
        else
          let id := if kind = 8 then src else req
          match s.tm.tcCorr.find? (fun c => c.inst == i && c.kind == kind && c.seq == seq && c.src == id
              && (c.port == 8 || c.port == port)) with
          | some c => .pay (put c.corr) c
          | none => if kind = 10 then .go p else .hold
      else .go p

/-- Follow-up messages held for an event message go back to the traffic manager once it has passed. -/
def State.tcWake (s : State) : State :=
  let l := s.tm.tcHeld
  let s := { s with tm := { s.tm with tcHeld := [] } }
  s.each l (fun t e => t.pushTm e.2)

/-! Starting a frame -/

/-- Whether a frame that has arrived with a bad end may have begun to leave already (R573). -/
def State.cutThrough (s : State) (p : Nat) (x : Pkt) : Bool :=
  s.rdB (F.PRT_MAC_CFG_CUT_THROUGH p) && decide (s.portRate p ≤ s.portRate (x.g Md.srcPort)) && x.sessions.isEmpty
    && !s.secyTx p x.data && x.g Md.srcKind == 0

/-- Note the sojourn of a frame that starts, in every enabled sample set that covers its queue (R357). -/
def State.sojourn (s : State) (q ns : Nat) : State :=
  s.each (List.range 16) (fun t k =>
    let f := t.rd (F.TMG_SAMPLE_CFG_FIRST k)
    if t.rdB (F.TMG_SAMPLE_CFG_ENABLE k) ∧ f ≤ q ∧ q ≤ f + t.rd (F.TMG_SAMPLE_CFG_COUNT_M1 k) then
      let x := Map.get t.tm.samples {} k
      let m := Map.upd x.maxs 0 q (fun v => max v ns)
      { t with tm := { t.tm with samples := Map.set t.tm.samples {} k { x with maxs := m } } }
    else t)

/-- A selected frame starts: deficits and buckets are charged, the port sends it (R340, R342). -/
def State.startFrame (s : State) (p c q g : Nat) (x : TmPkt) (y : Pkt) : State :=
  let len := s.flen p x.pkt
  let w : Int := wireLen len
  let s := s.popHead q
  let s := s.setTq q { s.tq q with deficit := (s.tq q).deficit - w, tok := s.bktCharge (s.profQ q) (s.tq q).tok len }
  let s := s.setTg g { s.tg g with deficit := (s.tg g).deficit - w, tok := s.bktCharge (s.profG g) (s.tg g).tok len }
  let k := s.bktCharge (s.profP p) (Map.get s.tm.portTok 0 p) len
  let s := { s with tm := { s.tm with portTok := Map.set s.tm.portTok 0 p k } }
  let s := (s.leaveRounds q g).sojourn q (s.fst.nowNs - x.since)
  let f : TxFrame := { q := q, pkt := y, cells := x.cells, start := s.fst.now, secy := s.secyTx p y.data, stomp := y.badFcs,
                       preemptable := s.rdB (F.PRT_PREEMPT_STATUS_ACTIVE p) && s.tmF tClass (p * 8 + c) 15 1 == 1
                         && (ptpAt y.data).isNone }
  s.setPrt p { s.prt1 p with tx := some f }

/-- A packet leaves its queue without being sent. -/
def State.discardHead (s : State) (q g cells : Nat) : State := ((s.popHead q).leaveRounds q g).freeCells q cells

/-- Select over the classes from `c` down; a discarded head does not end the selection (R334). -/
def State.selectFrom (s : State) (p : Nat) (express : Bool) : Nat → Nat → State
  | 0, _ => s
  | fuel + 1, c =>
    let skip := s.gateLets p c = false ∨ s.paused p c ∨ (express ∧ s.tmF tClass (p * 8 + c) 15 1 = 1)
    let r := if skip then (none, s) else s.drrGroup p c (300 * (s.tm.gOrder.length + 1))
    match r with
    | (none, s) => if c = 0 then s else State.selectFrom s p express fuel (c - 1)
    | (some (g, q), s) =>
      match (s.tq q).pkts with
      | [] => s
      | x :: _ =>
        let y := x.pkt
        if y.g Md.srcKind = 1 ∧ y.g Md.funcGen ≠ (s.func (y.g Md.srcFunc)).gen then
          State.selectFrom ((s.discardHead q g x.cells).stat R.TMG_GEN_DISCARD_CNT) p express fuel c
        else if y.badFcs ∧ s.cutThrough p y = false then
          State.selectFrom (s.discardHead q g x.cells) p express fuel c
        else
          match s.tcFate y p with
          | .go z => s.startFrame p c q g x z
          | .owe z k => (({ s with tm := { s.tm with tcCorr := s.tm.tcCorr ++ [k] } }.startFrame p c q g x z)).tcWake
          | .pay z k => { s with tm := { s.tm with tcCorr := s.tm.tcCorr.erase k } }.startFrame p c q g x z
          | .hold =>
            let s := s.discardHead q g x.cells
            State.selectFrom { s with tm := { s.tm with tcHeld := s.tm.tcHeld ++ [(q, y)] } } p express fuel c

/-- Bytes of the current fragment sent by now. -/
def State.sentNow (s : State) (p : Nat) (f : TxFrame) : Nat :=
  f.sent + ((s.fst.now - f.start) * s.portRate p / 524288).toNat

/-- Whether the frame being sent can be preempted now (R580). -/
def State.canPreempt (s : State) (p : Nat) (f : TxFrame) : Bool :=
  let n := s.sentNow p f
  f.preemptable && s.rdB (F.PRT_PREEMPT_STATUS_ACTIVE p) && (s.prt1 p).frag.isNone
    && decide (64 * (1 + s.rd (F.PRT_PREEMPT_CFG_ADD_FRAG_SIZE p)) ≤ n)
    && decide (n + 64 ≤ f.pkt.data.length + 4)

/-- Whether a port may begin a frame: up and in neither fault (R570). -/
def State.portSends (s : State) (p : Nat) : Bool :=
  s.rdB (F.PRT_LINK_STATUS_UP p) && !s.rdB (F.PRT_LINK_STATUS_LOCAL_FAULT p) && !s.rdB (F.PRT_LINK_STATUS_REMOTE_FAULT p)

/-- Packets that wait for the traffic manager or in it, a bound on the discards of one selection. -/
def State.tmCount (s : State) : Nat := (s.tm.queues.map (fun e => e.2.pkts.length)).sum

/-- Select the next frame of a port. -/
def State.tmSelect (s : State) (p : Nat) : State :=
  if !s.portSends p || !bktOk (s.profP p) (Map.get s.tm.portTok 0 p) then s
  else
    match (s.prt1 p).tx with
    | none => s.selectFrom p false (s.tmCount + 8) 7
    | some f =>
      if s.canPreempt p f then
        let t := (s.setPrt p { s.prt1 p with tx := none }).selectFrom p true (s.tmCount + 8) 7
        if (t.prt1 p).tx.isNone then t.setPrt p { t.prt1 p with tx := some f }
        else t.setPrt p { t.prt1 p with frag := some { f with sent := s.sentNow p f } }
      else s

/-- Pass-through frames of a channel that waited for their gate (R592). -/
def State.ncRelease (s : State) (p : Nat) : State :=
  let l := (Map.get s.prt.nc.chans {} p).wait
  if !l.isEmpty && s.portSends p && s.gateLets p (s.rd F.PRT_NCSI_STATUS_NCSI_TC) then
    (s.updNc p (fun x => { x with wait := [] })).each l (fun t d => t.ctlFrame p (.pass p d))
  else s

/-- TM_SELECT: when a port can begin a frame one is selected and started (R342). -/
def execTmSelect (p : Nat) (s : State) : Out := .next ((s.ncRelease p).tmSelect p)

/-- PORT_FRAME_TX_END: the last byte leaves: stamp, counts, cells, then control frames and a preempted frame (R329, R574,
R580). -/
def execPortFrameTxEnd (p : Nat) (s : State) : Out :=
  match (s.prt1 p).tx with
  | none => .next s
  | some f =>
    if f.secy then .next s
    else
      let l := f.pkt.data
      let stamp := s.stampTx p 0 - s.fst.now + f.start
      let s := s.setPrt p { s.prt1 p with tx := none }
      let s := if f.stomp then s.err (R.PRT_STOMP_CNT p) else s
      let s := (s.emit (.frame p (l ++ List.replicate (60 - l.length) 0) stamp f.stomp)).stat (R.PRT_TX_PKTS_CNT p)
      let s := s.statAdd (R.PRT_TX_BYTES_CNT p) (max l.length 60 + 4)
      let x := s.tq f.q
      let s := s.setTq f.q { x with txPkts := (x.txPkts + 1) % 2 ^ 64, txBytes := (x.txBytes + l.length) % 2 ^ 64 }
      let s := s.txOutcome f.pkt 0 (stamp / 65536).toNat (stamp % 65536).toNat (s.rdB F.FST_STATUS_ALIGNED)
      let s := (s.freeCells f.q f.cells).ctlFlush p
      match (s.prt1 p).frag with
      | some g => .next (s.setPrt p { s.prt1 p with frag := none, tx := some { g with start := s.fst.now } })
      | none => .next s

/-- A frame being sent is cut short with an invalid FCS (R570). -/
def State.portAbort (s : State) (p : Nat) : State :=
  let cut := fun (t : State) (f : TxFrame) =>
    ((((t.err (R.PRT_TX_ABORT_CNT p)).emit (.frame p (f.pkt.data.take (t.sentNow p f)) f.start true)).freeCells f.q f.cells)).txDropped f.pkt
  let x := s.prt1 p
  let s := s.setPrt p { x with tx := none, frag := none }
  let s := match x.tx with | some f => cut s f | none => s
  match x.frag with | some f => cut s f | none => s

/-! Gate list commands (R346-R353) -/

/-- Show a port's gates in its registers. -/
def State.showGate (s : State) (p : Nat) : State :=
  let g := s.gate p
  let len := fun (l : Option GateList) => match l with | some x => x.entries.length | none => 0
  let s := (s.wrB (F.TMG_GATE_STATUS_OPER_VALID p) g.oper.isSome).wrB (F.TMG_GATE_STATUS_WAITING p) g.pend.isSome
  let s := s.wrB (F.TMG_GATE_STATUS_SUSPENDED p) (s.rdB (F.TMG_GATE_STATUS_SUSPENDED p) && (g.oper.isSome || g.pend.isSome))
  let s := (s.wrB (F.TMG_GATE_STATUS_COPYING p) !g.copying.isEmpty).wr (F.TMG_GATE_STATUS_OPER_LEN p) (len g.oper)
  let s := s.wr (F.TMG_GATE_STATUS_PEND_LEN p) (len g.pend)
  let s := s.wr (F.TMG_GATE_OPER_BASE_BASE_TIME p) (match g.oper with | some x => x.base | none => 0)
  let s := s.wr (F.TMG_GATE_OPER_CYCLE_CYCLE_TIME p) (match g.oper with | some x => x.cycle | none => 0)
  let s := s.wr (F.TMG_GATE_PEND_BASE_BASE_TIME p) (match g.pend with | some x => x.base | none => 0)
  s.wr (F.TMG_GATE_PEND_CYCLE_CYCLE_TIME p) (match g.pend with | some x => x.cycle | none => 0)

/-- Show the current states and entry. -/
def State.showStates (s : State) (p : Nat) : State :=
  let t := s.fst.now.toNat
  let r := match (s.gate p).oper with
    | some l => if s.gatesActive p ∧ l.runs t then ((l.at t).1, (l.at t).2.1) else (0, 0xFF)
    | none => (0, 0xFF)
  (s.wr (F.TMG_GATE_STATUS_ENTRY p) r.1).wr (F.TMG_GATE_STATUS_STATES p) r.2

/-- A suspended operating list restarts at its new start instant (R353). -/
def State.gateRestart (s : State) (p : Nat) : State :=
  match (s.gate p).oper with
  | some l =>
    if s.rdB (F.TMG_GATE_STATUS_SUSPENDED p) ∧ l.runs s.fst.now.toNat then
      (s.wrB (F.TMG_GATE_STATUS_SUSPENDED p) false).wr (F.TMG_GATE_OPER_START_START p) (l.start.getD 0)
    else s
  | none => s

/-- GATE_CHANGE: the counter is at or past the instant of an entry, and the gate states follow (R346). -/
def execGateChange (p : Nat) (s : State) : Out := .next (((s.gateRestart p).showStates p).ncRelease p)

/-- ACTUAL_START: the first BASE_TIME + N * CYCLE_TIME at or after T + 512 ns (R349). -/
def actualStart (base cycle t : Nat) : Nat :=
  if t + 512 ≤ base then base else base + (t + 512 - base + cycle - 1) / cycle * cycle

/-- A list takes its commit time at a drip boundary (R349). -/
def State.gateTime (s : State) (p : Nat) (l : GateList) : GateList × State :=
  let st := actualStart l.base l.cycle s.fst.nowNs
  let s := s.wr (F.TMG_GATE_ACTUAL_START_ACTUAL_START p) st
  let s := if st = l.base then s.wrB (F.TMG_GATE_STATUS_LATE p) false
    else
      let s := ((s.wrB (F.TMG_GATE_STATUS_LATE p) true).raise F.TMG_INT_STATUS_CONFIG_PENDING_LATE).stat (R.TMG_GATE_LATE_CNT p)
      s.eventOwner none 0x0030 p p st
  ({ l with start := some st }, s)

/-- The lists being copied take their commit time when they have none. -/
def State.gateTimeAll (s : State) (p : Nat) : List (Nat × GateList) → List (Nat × GateList) × State
  | [] => ([], s)
  | (f, l) :: r =>
    let t := if l.start.isSome then (l, s) else s.gateTime p l
    let u := State.gateTimeAll t.2 p r
    ((f, t.1) :: u.1, u.2)

/-- A drip boundary for the gate lists of one port: lists without a start, committed or suspended, take T once drips are
aligned (R85, R349, R353). -/
def State.gateBoundary (s : State) (p : Nat) : State :=
  if !s.rdB F.FST_STATUS_ALIGNED then s
  else
    let g := s.gate p
    let r := s.gateTimeAll p g.copying
    let s := r.2.setGate p { r.2.gate p with copying := r.1 }
    let s := match g.oper with
      | some l =>
        if l.start.isSome then s
        else
          let (l, s) := s.gateTime p l
          s.setGate p { s.gate p with oper := some l }
      | none => s
    let s := match g.pend with
      | some l =>
        if l.start.isSome then s
        else
          let (l, s) := s.gateTime p l
          s.setGate p { s.gate p with pend := some l }
      | none => s
    ((s.gateRestart p).showGate p).showStates p

/-- The first LENGTH entries of a port's administrative list. -/
def State.gateAdmin (s : State) (p n : Nat) : List Nat := (List.range n).map (fun k => s.tmF tGateAdmin (p * 1024 + k) 0 64)

/-- Whether a commit's operands and entries are in range (R344, R348). -/
def State.gateOk (s : State) (c : AdmCmd) : Bool :=
  let p := bitsOf (c.word 0x08) 0 3
  let len := bitsOf (c.word 0x08) 16 11
  let cyc := bitsOf (c.word 0x18) 0 32
  decide (1 ≤ len) && decide (len ≤ 1024) && decide (512 ≤ cyc) && decide (cyc ≤ 1000000000)
    && decide (4 ≤ s.portMode p) && (s.gateAdmin p len).all (fun e => bitsOf e 32 32 != 0 && bitsOf e 8 24 == 0)

/-- GATE_LIST_COMMIT (R348, R351): with CANCEL the waiting list is withdrawn; otherwise the list is copied, takes its commit
time at the next aligned drip boundary, and the command waits for the end of the copy. -/
def execGateListCommit (f : Nat) (s : State) : Out :=
  .next (s.admCrit f 0x2A [0x07FF0107, 2 ^ 64 - 1, 0xFFFFFFFF] (fun c => bitOf (c.word 0x08) 8 || s.gateOk c) (fun s c =>
    let p := bitsOf (c.word 0x08) 0 3
    if bitOf (c.word 0x08) 8 then ((s.setGate p { s.gate p with pend := none }).showGate p).admDone f stSuccess
    else
      let l : GateList := { base := c.word 0x10, cycle := bitsOf (c.word 0x18) 0 32, start := none,
                            entries := (s.gateAdmin p (bitsOf (c.word 0x08) 16 11)).map (fun e => (e % 256, bitsOf e 32 32)) }
      ((s.setGate p { s.gate p with copying := (s.gate p).copying ++ [(f, l)], pend := none }).showGate p).admWait f))

/-- GATE_LIST_COPY_DONE: the copy into the waiting list ends, and the command completes (R348, R351). -/
def execGateListCopyDone (p : Nat) (s : State) : Out :=
  match (s.gate p).copying with
  | [] => .next s
  | (f, l) :: r =>
    let s := s.setGate p { s.gate p with pend := if r.isEmpty then some l else (s.gate p).pend, copying := r }
    .next ((s.showGate p).admDone f stSuccess { r0 := l.start.getD 0 })

/-- GATE_LIST_START: at ACTUAL_START the waiting list becomes the operating list (R350). -/
def execGateListStart (p : Nat) (s : State) : Out :=
  match (s.gate p).pend with
  | some l =>
    match l.start with
    | some st =>
      if st ≤ s.fst.nowNs then
        let s := (s.setGate p { s.gate p with oper := some l, pend := none }).wrB (F.TMG_GATE_STATUS_SUSPENDED p) false
        let s := (s.wr (F.TMG_GATE_OPER_START_START p) st).raise F.TMG_INT_STATUS_GATE_STARTED
        .next ((s.showGate p).showStates p)
      else .next s
    | none => .next s
  | none => .next s

/-! Sampling (R354-R357) -/

/-- SAMPLE_CFG_WRITE: ENABLE 1 is refused where R354 says. Control firmware reserves a Rope channel of its own choice for an
enabled set (log entry 5). -/
def State.sampleCfg (s : State) (k : Nat) (v : Word) : State :=
  let f := fun lo w => bitsOf v.toNat lo w
  let kk := f 1 5
  let count := f 22 10 + 1
  let ring := f 48 4
  let ok := decide (4 ≤ kk) && decide (kk ≤ 20) && decide (6 ≤ ring) && decide (f 32 12 ≤ 2055)
    && decide ((s.reg (R.TMG_SAMPLE_RING k)).toNat % 64 = 0) && decide (count ≤ min 1024 (64 * 2 ^ (kk - 4)))
    && decide (2 * (count + 1) ≤ 2 ^ ring) && decide (f 6 16 + count ≤ 65536)
  let mask := 0x000F0FFFFFFFFFFF
  if f 0 1 = 0 then
    (s.setReg (R.TMG_SAMPLE_CFG k) (BitVec.ofNat 64 (v.toNat &&& mask))).wrB (F.TMG_SAMPLE_STATUS_ACTIVE k) false
  else if ok then
    let (c, s) := s.fresh
    let s := s.setReg (R.TMG_SAMPLE_CFG k) (BitVec.ofNat 64 (v.toNat &&& mask))
    ((s.wrB (F.TMG_SAMPLE_STATUS_ACTIVE k) true).wrB (F.TMG_SAMPLE_STATUS_CFG_ERR k) false).wr (F.TMG_SAMPLE_STATUS_CHANNEL k) (c % 512)
  else
    let s := s.setReg (R.TMG_SAMPLE_CFG k) (BitVec.ofNat 64 ((v.toNat &&& mask) / 2 * 2))
    (s.wrB (F.TMG_SAMPLE_STATUS_ACTIVE k) false).wrB (F.TMG_SAMPLE_STATUS_CFG_ERR k) true

def execSampleCfgWrite (k : Nat) (v : Word) (s : State) : Out := .next (s.sampleCfg k v)

/-- SAMPLE_RING_WRITE: the ring restarts at record 0 with PHASE 1 (R356). -/
def State.sampleRing (s : State) (k : Nat) (v : Word) : State :=
  let x : SampleSet := { Map.get s.tm.samples {} k with next := 0, phase := true }
  { s.setReg (R.TMG_SAMPLE_RING k) v with tm := { s.tm with samples := Map.set s.tm.samples {} k x } }

def execSampleRingWrite (k : Nat) (v : Word) (s : State) : Out := .next (s.sampleRing k v)

/-- Write one record of a set at its place in the ring. -/
def State.sampleRec (s : State) (k w0 w1 : Nat) : State :=
  let x := Map.get s.tm.samples {} k
  let f := s.rd (F.TMG_SAMPLE_CFG_FUNC k)
  let a := (s.reg (R.TMG_SAMPLE_RING k)).toNat + 16 * x.next
  let s := s.hostWrite (s.attOf f) a (leBytes (w0 + b2n x.phase) 8 ++ leBytes w1 8)
  let wrap := decide (x.next + 1 = 2 ^ s.rd (F.TMG_SAMPLE_CFG_RING_LOG2 k))
  let y := { x with next := if wrap then 0 else x.next + 1, phase := if wrap then !x.phase else x.phase }
  { s with tm := { s.tm with samples := Map.set s.tm.samples {} k y } }

/-- The two words of a queue record: stuck sojourns set SAT (R357). -/
def State.sampleQueue (s : State) (k q : Nat) : Nat × Nat :=
  let x := s.tq q
  let depth := (x.pkts.map (fun e => s.flen (s.portOf (s.groupOf q)) e.pkt)).sum
  let head := match x.pkts with | e :: _ => s.fst.nowNs - e.since | [] => 0
  let mx := Map.get (Map.get s.tm.samples {} k).maxs 0 q
  let stick := fun n => min n 0xFFFFFFFF
  (b2n (decide (0xFFFFFFFF ≤ head ∨ 0xFFFFFFFF ≤ mx)) * 4 + q * 2 ^ 16 + depth % 2 ^ 32 * 2 ^ 32, stick head + stick mx * 2 ^ 32)

/-- SAMPLE_ROUND: at a drip that is a multiple of 2^K a set writes a round, or skips it; `busy`: the previous round is still
being written (R354-R356). -/
def execSampleRound (k : Nat) (busy : Bool) (s : State) : Out :=
  if s.rdB (F.TMG_SAMPLE_STATUS_ACTIVE k) ∧ s.fst.drip % 2 ^ s.rd (F.TMG_SAMPLE_CFG_K k) = 0 then
    let f := s.rd (F.TMG_SAMPLE_CFG_FUNC k)
    let rnd := (s.rd (F.TMG_SAMPLE_STATUS_ROUND k) + 1) % 2 ^ 32
    let s := s.wr (F.TMG_SAMPLE_STATUS_ROUND k) rnd
    if busy ∨ (s.func f).cfg.master = false ∨ s.rdB (F.HIF_LINK_STATUS_DL_UP (s.attOf f)) = false then
      .next ((s.stat (R.TMG_SAMPLE_SKIP_CNT k)).raise F.TMG_INT_STATUS_SAMPLE_SKIP)
    else
      let n := s.rd (F.TMG_SAMPLE_CFG_COUNT_M1 k)
      let first := s.rd (F.TMG_SAMPLE_CFG_FIRST k)
      let s := s.sampleRec k (2 + n * 4 + rnd * 2 ^ 32) s.fst.drip
      let s := s.each (List.range (n + 1)) (fun t i =>
        let w := t.sampleQueue k (first + i)
        t.sampleRec k w.1 w.2)
      let x := Map.get s.tm.samples {} k
      .next { s with tm := { s.tm with samples := Map.set s.tm.samples {} k { x with maxs := [] } } }
  else .next s

/-! The table port (R352, R358, R359) -/

/-- How many entries a table has. -/
def tmSize (t : Nat) : Nat := ([65536, 2048, 64, 8, 8192, 262144, 8192, 8192, 65536] : List Nat).getD t 0

/-- The bits of an entry that fields use. -/
def tmMask (t : Nat) : Nat :=
  ([0x3FFFFFFFFFFFF1FFF0FFF, 0x3FFFFFFFFFFFFFF00001FFF000FFF7F, 0xFFFFFFFF, 0x1FFF, 0xFFFFFFFFFFFFFFFFFF,
    0x3FFFFFFFFFFFFFFFFFFFFFFFFFFFFFFFFFF, 0xFFFFFFFFFFFFFFFF] : List Nat).getD t 0

/-- Whether the fields that a write of an entry writes are in range (R338, R345, R359). -/
def tmFieldsOk (t v : Nat) : Bool :=
  let f := fun lo w => bitsOf v lo w
  let ovh := fun lo => decide (-32 ≤ toSigned 8 (f lo 8)) && decide (toSigned 8 (f lo 8) ≤ 63)
  if t = tQueue then decide (64 ≤ f 32 24) && decide (f 64 18 ≤ 180224)
  else if t = tGroup then decide (64 ≤ f 64 24)
  else if t = tClass then decide (60 ≤ f 0 14)
  else if t = tProfile then ovh 64
  else if t = tPolicer then ovh 128 && decide (f 0 32 ≤ f 32 32) && decide (f 64 32 ≤ f 96 32)
  else true

/-- The value a written entry takes: GROUP keeps PROFILE and BUF_SHARE (R359). -/
def State.tmMerge (s : State) (t i v : Nat) : Nat :=
  let v := v &&& tmMask t
  if t = tGroup then putBits (putBits v 32 13 (s.tmF tGroup i 32 13)) 88 18 (s.tmF tGroup i 88 18) else v

/-- A queue whose GROUP has changed belongs to the new group with the packets and cells it has (R324, R329). -/
def State.tmRegroup (s : State) (q g h : Nat) : State :=
  if g = h then s
  else
    let o := (s.tq q).occ
    let s := (s.setTg g { s.tg g with occ := (s.tg g).occ - o })
    let s := (s.setTg h { s.tg h with occ := (s.tg h).occ + o }).leaveRounds q g
    let s := if (s.tq q).pkts.isEmpty || s.tm.gOrder.contains h then s else { s with tm := { s.tm with gOrder := s.tm.gOrder ++ [h] } }
    s.release g

/-- Store a configuration entry. -/
def State.tmStore (s : State) (t i v : Nat) : State :=
  let g := s.groupOf i
  let s := { s with tm := { s.tm with tbl := Map.set s.tm.tbl 0 (tmKey t i) v,
                                      polFill := if t = tPolicer then i :: s.tm.polFill else s.tm.polFill } }
  if t = tQueue then s.tmRegroup i g (s.groupOf i) else s

/-- An entry as a read shows it. -/
def State.tmRead (s : State) (t i : Nat) : Nat :=
  if t = tPolicer then s.tmF t i 0 192 + Map.get s.tm.redPkts 0 i * 2 ^ 192
  else if t = 7 then
    match (s.gate (i / 1024)).oper with
    | some l => match l.entries[i % 1024]? with | some (st, iv) => st + iv * 2 ^ 32 | none => 0
    | none => 0
  else if t = 8 then
    let x := s.tq i
    let depth := (x.pkts.map (fun e => s.flen (s.portOf (s.groupOf i)) e.pkt)).sum
    x.txPkts + x.txBytes * 2 ^ 64 + x.drops * 2 ^ 128 + depth % 2 ^ 32 * 2 ^ 192 + b2n x.backp * 2 ^ 224
  else Map.get s.tm.tbl 0 (tmKey t i)

/-- The 32 bytes of a table port's data registers. -/
def State.tmData (s : State) (a : Nat) : Nat :=
  ((List.range 4).map (fun i => (s.reg (R.TMG_TBL_DATA a i)).toNat * 2 ^ (64 * i))).sum

/-- The outcome of an access. -/
def State.tmErr (s : State) (a code : Nat) : State :=
  (s.wrB (F.TMG_TBL_CTRL_ERR a) (code != 0)).wr (F.TMG_TBL_CTRL_ERR_CODE a) code

/-- Start an access: the control fields are stored and BUSY is 1; a GO while BUSY is 1 is ignored (log entry 39). -/
def State.tmStart (s : State) (a t i : Nat) (write : Bool) (k : State → State) : State :=
  if s.rdB (F.TMG_TBL_CTRL_BUSY a) then s
  else
    let s := (s.wr (F.TMG_TBL_CTRL_TABLE a) t).wr (F.TMG_TBL_CTRL_INDEX a) i
    k ((s.wrB (F.TMG_TBL_CTRL_WRITE a) write).wrB (F.TMG_TBL_CTRL_BUSY a) true)

/-- A read of a table entry. -/
def State.tmTableRead (s : State) (a t i : Nat) : State :=
  s.tmStart a t i false (fun s =>
    if 8 < t ∨ tmSize t ≤ i then s.tmErr a 1
    else
      let v := s.tmRead t i
      (s.each (List.range 4) (fun y k => y.setReg (R.TMG_TBL_DATA a k) (BitVec.ofNat 64 (v / 2 ^ (64 * k))))).tmErr a 0)

/-- A write of a table entry; a refused one changes nothing and is counted. -/
def State.tmTableWrite (s : State) (a t i : Nat) : State :=
  s.tmStart a t i true (fun s =>
    let v := s.tmData a
    let code := if 8 < t ∨ tmSize t ≤ i then 1
      else if t = 7 ∨ t = 8 ∨ (t = tProfile ∧ i = 0) then 3
      else if t = tGateAdmin ∧ s.rdB (F.TMG_GATE_STATUS_COPYING (i / 1024)) then 4
      else if tmFieldsOk t v = false then 2
      else 0
    if code = 0 then (s.tmStore t i (s.tmMerge t i v)).tmErr a 0
    else (s.err R.TMG_TBL_REFUSED_CNT).tmErr a code)

/-- TM_TABLE_READ: GO with WRITE 0 (R358). -/
def execTmTableRead (a t i : Nat) (s : State) : Out := .next (s.tmTableRead a t i)

/-- TM_TABLE_WRITE: GO with WRITE 1 (R358). -/
def execTmTableWrite (a t i : Nat) (s : State) : Out := .next (s.tmTableWrite a t i)

/-- TM_TABLE_ACCESS_DONE: BUSY returns to 0 (R358). -/
def execTmTableAccessDone (a : Nat) (s : State) : Out := .next (s.wrB (F.TMG_TBL_CTRL_BUSY a) false)

end Sys2Proof.Machine
end

