-- ==== Sys2Proof/Machine/Virtq.lean ====
section
/-! DEFINITION. Machine/Virtq.lean: virtio 1.2 split and packed virtqueues (R515, R518): the next available chain, used
elements and event suppression. The layouts are virtio 1.2's (PRESUMED, log entry 45). -/

namespace Sys2Proof.Machine

open Sys2Proof

set_option cleanup.letToHave false

/-- Queue of a function by kind and number. -/
def State.que (s : State) (f k q : Nat) : Queue := Map.get (s.func f).queues {} (qKey k q)

/-- Whether a queue exists. -/
def State.hasQue (s : State) (f k q : Nat) : Bool := (s.func f).queues.any (fun e => e.1 == qKey k q)

/-- Change a queue. -/
def State.updQue (s : State) (f k q : Nat) (g : Queue → Queue) : State :=
  s.updFunc f (fun x => { x with queues := Map.upd x.queues {} (qKey k q) g })

/-- Whether a queue may fetch: ENABLED with Bus Master Enable set (R493). -/
def State.queRuns (s : State) (f k q : Nat) : Bool :=
  s.hasQue f k q && decide ((s.que f k q).st = .enabled) && !(s.que f k q).disabling && (s.func f).cfg.master

/-- One buffer of a chain: address, length, whether the device writes it. -/
structure VBuf where
  addr : Nat
  len : Nat
  wr : Bool
  deriving DecidableEq, Repr

/-- A chain: its identifier, its buffers in order, and how many ring places it takes. -/
structure VChain where
  id : Nat
  bufs : List VBuf
  count : Nat
  deriving DecidableEq, Repr

/-- Descriptors of a split table from index i on. -/
def State.splitChain (s : State) (a : Nat) (q : Queue) : Nat → Nat → List VBuf
  | _, 0 => []
  | i, n + 1 =>
    let d := q.base + 16 * (i % 2 ^ q.log2)
    let fl := s.hostLe a (d + 12) 2
    { addr := s.hostLe a d 8, len := s.hostLe a (d + 8) 4, wr := bitOf fl 1 } ::
      (if bitOf fl 0 then State.splitChain s a q (s.hostLe a (d + 14) 2) n else [])

/-- Descriptors of a packed ring from place i on, with the buffer identifier of the last. -/
def State.packedChain (s : State) (a : Nat) (q : Queue) : Nat → Nat → List VBuf × Nat
  | _, 0 => ([], 0)
  | i, n + 1 =>
    let d := q.base + 16 * (i % 2 ^ q.log2)
    let fl := s.hostLe a (d + 14) 2
    let b : VBuf := { addr := s.hostLe a d 8, len := s.hostLe a (d + 8) 4, wr := bitOf fl 1 }
    if bitOf fl 0 then
      let (r, id) := State.packedChain s a q (i + 1) n
      (b :: r, id)
    else ([b], s.hostLe a (d + 12) 2)

/-- The next available chain. -/
def State.vqNext (s : State) (f k n : Nat) : Option VChain :=
  let q := s.que f k n
  let a := s.attOf f
  if s.queRuns f k n = false ∨ q.ci = q.got then none
  else if q.packed then
    let (b, id) := s.packedChain a q (q.ci % 2 ^ 15) (2 ^ q.log2)
    some { id := id, bufs := b, count := b.length }
  else
    let h := s.hostLe a (q.drv + 4 + 2 * (q.ci % 2 ^ q.log2)) 2
    some { id := h, bufs := s.splitChain a q h (2 ^ q.log2), count := 1 }

/-- A position of a packed ring, wrap counter in bit 15, moved on by n places of 2^l. -/
def packedMove (l pos n : Nat) : Nat :=
  let o := pos % 2 ^ 15 + n
  if o < 2 ^ l then pos / 2 ^ 15 * 2 ^ 15 + o else (1 - pos / 2 ^ 15) * 2 ^ 15 + (o - 2 ^ l)

/-- The chain is taken: the consumer index moves on. -/
def State.vqTake (s : State) (f k n : Nat) (c : VChain) : State :=
  s.updQue f k n (fun q => { q with ci := if q.packed then packedMove q.log2 q.ci c.count else (q.ci + 1) % 2 ^ 16 })

/-- A chain is returned with `len` bytes written: the used element or descriptor, then the used index (R518). -/
def State.vqUsed (s : State) (f k n : Nat) (c : VChain) (len : Nat) : State :=
  let q := s.que f k n
  let a := s.attOf f
  if q.packed then
    let d := q.base + 16 * (q.used % 2 ^ 15)
    let w := q.used / 2 ^ 15
    let s := (s.hostWrite a (d + 8) (leBytes len 4 ++ leBytes c.id 2)).hostWrite a (d + 14)
      (leBytes (w * 2 ^ 15 + w * 2 ^ 7 + (if len = 0 then 0 else 2)) 2)
    s.updQue f k n (fun q => { q with used := packedMove q.log2 q.used c.count, notify := true })
  else
    let s := s.hostWrite a (q.dev + 4 + 8 * (q.used % 2 ^ q.log2)) (leBytes c.id 4 ++ leBytes len 4)
    let u := (q.used + 1) % 2 ^ 16
    (s.hostWrite a (q.dev + 2) (leBytes u 2)).updQue f k n (fun q => { q with used := u, notify := true })

/-- Whether event suppression asks for a notification: the event index lies in the elements used since the last one. -/
def needEvent (ev new old : Nat) : Bool :=
  decide ((new + 2 * 2 ^ 16 - ev - 1) % 2 ^ 16 < (new + 2 ^ 16 - old) % 2 ^ 16)

/-- Whether a notification is asked for. -/
def State.vqAsks (s : State) (f k n : Nat) : Bool :=
  let q := s.que f k n
  let a := s.attOf f
  let evIdx := bitOf q.feats 29
  if q.packed then
    let fl := s.hostLe a (q.drv + 2) 2 % 4
    let ow := s.hostLe a q.drv 2
    if fl = 1 then false
    else if fl = 2 ∧ evIdx then
      let ev := if ow / 2 ^ 15 = q.used / 2 ^ 15 then ow % 2 ^ 15 else ow % 2 ^ 15 + 2 ^ 16 - 2 ^ q.log2
      needEvent ev (q.used % 2 ^ 15) (if q.sigUsed / 2 ^ 15 = q.used / 2 ^ 15 then q.sigUsed % 2 ^ 15
        else q.sigUsed % 2 ^ 15 + 2 ^ 16 - 2 ^ q.log2)
    else true
  else if evIdx then needEvent (s.hostLe a (q.drv + 4 + 2 * 2 ^ q.log2) 2) q.used q.sigUsed
  else !bitOf (s.hostLe a q.drv 2) 0

/-- At a drip boundary: the vector of a virtqueue with used elements is sent when event suppression asks for it (R518). -/
def State.vqNotify (s : State) (f k n : Nat) : State :=
  let q := s.que f k n
  if q.notify && s.vqAsks f k n then
    (s.updQue f k n (fun q => { q with notify := false, sigUsed := q.used })).sendInt f q.vec
  else s

/-- Read bytes from buffers in order. -/
def State.vRead (s : State) (a : Nat) (l : List VBuf) : List Byte := l.flatMap (fun b => s.hostRead a b.addr b.len)

/-- Write bytes into buffers in order. -/
def State.vWrite (s : State) (a : Nat) : List VBuf → List Byte → State
  | [], _ => s
  | b :: t, d => State.vWrite (s.hostWrite a b.addr (d.take b.len)) a t (d.drop b.len)

end Sys2Proof.Machine
end

