-- ==== Sys2Proof/Machine/Backend.lean ====
section
/-! DEFINITION. Machine/Backend.lean: storage commands on their way to the remote subsystem and back (R403-R422): queues
in front of connections, attempts and their ends, NVMe/TCP, completions to the tenant. Byte layouts of NVMe, NVMe/TCP and
TCP are those of their specifications (PRESUMED, log entry 45). -/

namespace Sys2Proof.Machine

open Sys2Proof

set_option cleanup.letToHave false

/-! Packets the unit builds (R407) -/

/-- A packet of a context goes to the traffic manager at its TM_QUEUE and TC, without a parse core. -/
def State.stoSend (s : State) (ctx port q tc : Nat) (payload : List Byte) : State :=
  let (n, s) := s.fresh
  let d := Config.stoHeader ctx n ++ payload
  let p : Pkt := { data := d }
  let p := ((((p.s Md.destKind 2).s Md.destPort port).s Md.tmQueue q).s Md.tc tc).s Md.pktLen d.length
  let (p, s) := s.newPkt p
  s.pushTm p

/-- Bytes cut into pieces of at most n (n at least 1). -/
def pieces (n : Nat) : List Byte → Nat → List (List Byte)
  | _, 0 => []
  | [], _ => []
  | l, f + 1 => l.take n :: pieces n (l.drop n) f

/-- Send one TCP segment. -/
def State.tcpSeg (s : State) (c : Nat) (l : List Byte) : State :=
  let x := s.stoConn c
  s.stoSend c (s.pf x.path 5 3) x.tmQueue x.tc l

/-- Send bytes on a connection: cut into segments, kept until they are acknowledged (R413). -/
def State.tcpSend (s : State) (c : Nat) (l : List Byte) : State :=
  s.each (pieces (max 1 (Config.mss (s.stoConn c).path)) l l.length) (fun t p =>
    let x := t.stoConn c
    (t.setConn c { x with snd := (x.snd + p.length) % 2 ^ 32, unacked := x.unacked ++ [(x.snd, p)] }).tcpSeg c p)

/-! The path and its connections (R415, R416) -/

/-- Connections of a path, the admin queue's first. -/
def State.connsOf (s : State) (p : Nat) : List Nat := Map.get s.sto.pathConns [] p

/-- Whether a connection is up. -/
def State.connUp (s : State) (c : Nat) : Bool := decide ((s.stoConn c).st = .up)

/-- UP and STO_STATUS.PATHS_UP (R428, R429). -/
def State.setPathUp (s : State) (p : Nat) (b : Bool) : State :=
  let s := s.setPf p 2 1 (b2n b)
  s.wr F.STO_STATUS_PATHS_UP ((s.sto.paths.filter (fun e => bitOf e.2 2)).length)

/-- RDMA send is written with the queue-pair unit; a connection at or above 65,536 is a queue pair's (R414). -/
def roceConn (c : Nat) : Bool := decide (65536 ≤ c)

/-- One RoCEv2 SEND ONLY of a queue pair, kept until it is acknowledged; its rate bucket decides when it leaves (R414, R425). -/
def State.qpEmit (s : State) (q : Nat) (l : List Byte) : State :=
  let x := s.qp q
  if 0 < x.tokens then
    (s.setQp q { x with tokens := x.tokens - ((l.length * 8000 : Nat) : Int) }).stoSend (65536 + q) x.port x.tmQueue x.tc l
  else s.setQp q { x with waiting := x.waiting ++ [l] }

/-- A Base Transport Header (log entry 45). -/
def bth (op dqpn psn : Nat) (ack : Bool) : List Byte :=
  [BitVec.ofNat 8 op, 0, 0xFF, 0xFF, 0] ++ beBytes dqpn 3 ++ [if ack then 0x80 else 0] ++ beBytes psn 3

/-- A RoCEv2 packet's transport bytes with its invariant CRC. -/
def withIcrc (l : List Byte) : List Byte := l ++ leBytes (Config.icrc l).toNat 4

/-- Send one message of a queue pair, cut at its path MTU. -/
def State.qpSend (s : State) (q : Nat) (l : List Byte) : State :=
  let ps := if l = [] then [[]] else pieces (max 1 (s.qp q).mtu) l l.length
  (s.each (ps.zipIdx) (fun t e =>
    let x := t.qp q
    let op := if ps.length = 1 then 4 else if e.2 = 0 then 0 else if e.2 + 1 = ps.length then 2 else 1
    let w := withIcrc (bth op x.dqpn x.snd true ++ e.1)
    (t.setQp q { x with snd := (x.snd + 1) % 2 ^ 24, unacked := x.unacked ++ [(x.snd, w)] }).qpEmit q w))

/-- Send an NVMe-oF capsule or PDU on a connection of either transport. -/
def State.capSend (s : State) (c : Nat) (l : List Byte) : State :=
  if roceConn c then s.qpSend (c - 65536) l else s.tcpSend c l

/-- An NVMe/TCP PDU: type, flags, header after the 8 common bytes, data; the digests the connection uses are added. -/
def State.pdu (s : State) (c type flags : Nat) (hdr data : List Byte) (digests : Bool) : List Byte :=
  let x := s.stoConn c
  let hd := digests && x.hdgst
  let dd := digests && x.ddgst && !data.isEmpty
  let hlen := 8 + hdr.length
  let base := hlen + (if hd then 4 else 0)
  let al := (x.cpda + 1) * 4
  let pdo := if data.isEmpty then 0 else (base + al - 1) / al * al
  let len := (if data.isEmpty then base else pdo + data.length) + (if dd then 4 else 0)
  let h := [BitVec.ofNat 8 type, BitVec.ofNat 8 (flags + b2n hd + 2 * b2n dd), BitVec.ofNat 8 hlen, BitVec.ofNat 8 pdo]
    ++ leBytes len 4 ++ hdr
  h ++ (if hd then leBytes (crc32c 0 h) 4 else []) ++ List.replicate (if data.isEmpty then 0 else pdo - base) 0 ++ data
    ++ (if dd then leBytes (crc32c 0 data) 4 else [])

/-- A connection opens: TCP by a SYN, a queue pair by control firmware's RDMA CM (R413, R414). -/
def State.connOpen (s : State) (c : Nat) : State :=
  let x := s.stoConn c
  if roceConn c then s.setConn c { x with st := .ready }
  else
    (s.setConn c { x with st := .syn, snd := 1, rcv := 0, unacked := [], retries := 0, rx := [], inbox := [], tags := [],
                          aliveTag := none, hdgst := false, ddgst := false, cpda := 0 }).tcpSeg c []

/-- A tag no outstanding command of the connection uses. -/
def freeTag (used : List Nat) : Nat → Nat → Nat
  | t, 0 => t
  | t, n + 1 => if used.contains t then freeTag used (t + 1) n else t

/-- The lowest free tag of a connection. -/
def Conn.newTag (x : Conn) : Nat :=
  let used := x.tags.map (·.tag) ++ x.aliveTag.toList
  freeTag used 0 used.length

/-- A 64-byte submission entry: opcode, tag, namespace, data descriptor of 16 bytes, dwords 10 to 15. -/
def sqe (op cid nsid : Nat) (sgl : List Byte) (d10 : List Nat) : List Byte :=
  [BitVec.ofNat 8 op, 0x40] ++ leBytes cid 2 ++ leBytes nsid 4 ++ List.replicate 16 0 ++ sgl
    ++ (List.range 6).flatMap (fun i => leBytes (d10.getD i 0) 4)

/-- A command capsule with in-capsule data on a connection. -/
def State.capsule (s : State) (c : Nat) (e data : List Byte) : State :=
  if roceConn c then s.qpSend (c - 65536) (e ++ data) else s.tcpSend c (s.pdu c 0x04 0 e data true)

/-- Fabrics Connect is sent on a connection (R415); its 1,024 data bytes name hosts and subsystems no rule states. -/
def State.sendConnect (s : State) (c : Nat) : State :=
  let x := s.stoConn c
  let data := (List.range 1024).map (Config.stoByte 0 c)
  let sgl := leBytes 0 8 ++ leBytes 1024 4 ++ [0, 0, 0, 0x01]
  let e := [0x7F, 0x40] ++ leBytes 0 2 ++ [0x01] ++ List.replicate 19 0 ++ sgl ++ leBytes 0 2 ++ leBytes x.num 2
    ++ leBytes (s.pf x.path 272 16 - 1) 2 ++ leBytes 0 2 ++ leBytes (s.pf x.path 352 32) 4 ++ List.replicate 12 0
  (s.setConn c { x with st := .connecting, failed := false }).capsule c e data

/-- A connection is ready for Fabrics Connect: the admin queue's at once, another once the admin queue is up. -/
def State.tryConnect (s : State) (c : Nat) : State :=
  let x := s.stoConn c
  if x.st = .ready ∧ (x.num = 0 ∨ s.connUp ((s.connsOf x.path).getD 0 0)) then s.sendConnect c else s

/-! The end of a command (R404, R411, R418, R422) -/

/-- Attachment of a command's function. -/
def State.cmdAtt (s : State) (c : StoCmd) : Nat := s.attOf c.fn

/-- Change a command. -/
def State.updCmd (s : State) (c : StoCmd) : State :=
  { s with sto := { s.sto with cmds := s.sto.cmds.map (fun x => if x.id = c.id then c else x) } }

/-- The command leaves the unit; the keys issued for it are no longer valid (R414). -/
def State.dropCmd (s : State) (c : StoCmd) : State :=
  { s with sto := { s.sto with cmds := s.sto.cmds.filter (fun x => x.id ≠ c.id),
                               staging := Map.erase s.sto.staging c.id,
                               qps := s.sto.qps.map (fun e => (e.1, { e.2 with regions := e.2.regions.filter (fun r => !(r.staging && r.att == c.id)) })) } }

/-- The controller a function owns. -/
def State.ctrlOf (s : State) (f : Nat) : Option (Nat × Ctrl) :=
  (s.sto.ctrls.filterMap (fun e => match e.2 with
    | some x => if x.owner = f then some (e.1, x) else none
    | none => none)).head?

/-- Change a controller. -/
def State.setCtrl (s : State) (n : Nat) (x : Ctrl) : State :=
  { s with sto := { s.sto with ctrls := Map.set s.sto.ctrls none n (some x) } }

/-- Place one completion entry, given without its phase, in a completion queue. -/
def State.cqPut (s : State) (f cq body : Nat) : State :=
  let q := s.que f 9 cq
  let a := q.base + 16 * q.used
  let s := s.hostWrite (s.attOf f) a (leBytes (body + b2n q.phase * 2 ^ 112) 16)
  let u := (q.used + 1) % q.size
  let s := s.updQue f 9 cq (fun q => { q with used := u, phase := if u = 0 then !q.phase else q.phase })
  if q.ien then s.sendInt f q.vec else s

/-- Whether a completion queue has room. -/
def Queue.cqRoom (q : Queue) : Bool := decide ((q.used + 1) % q.size ≠ q.cqHead)

/-- Complete an NVMe command: the tenant's identifier and submission queue head stand in the entry (R404); an entry that finds
its completion queue full waits for the head doorbell. -/
def State.nvmeDone (s : State) (f q cid sct sc dnr dw0 : Nat) : State :=
  let sq := s.que f 8 q
  let body := dw0 % 2 ^ 32 + sq.ci % 2 ^ 16 * 2 ^ 64 + q % 2 ^ 16 * 2 ^ 80 + cid % 2 ^ 16 * 2 ^ 96
    + (sc + sct * 2 ^ 8 + dnr * 2 ^ 14) % 2 ^ 15 * 2 ^ 113
  match s.ctrlOf f with
  | some (n, x) =>
    if (s.que f 9 sq.cq).cqRoom && !x.hold.any (fun e => e.1 == sq.cq) then s.cqPut f sq.cq body
    else s.setCtrl n { x with hold := x.hold ++ [(sq.cq, body)] }
  | none => s

/-- Complete a tenant's command: an NVMe status, or the virtio-blk status byte and the used element (R402, R411, R418). -/
def State.cmdDone (s : State) (c : StoCmd) (sct sc dnr written : Nat) : State :=
  let s := s.dropCmd c
  if c.virt then
    let s := s.hostWrite (s.cmdAtt c) c.mdAddr [if sct = 0 ∧ sc = 0 then 0 else 1]
    s.vqUsed c.fn 7 c.q { id := c.cid, bufs := [], count := c.wLen } (written + 1)
  else s.nvmeDone c.fn c.q c.cid sct sc dnr 0

/-- The fault-ring entry of a command that needed the second level (R422, R635). -/
def State.stoFault (s : State) (c : StoCmd) (ok : Bool) : State :=
  if c.attempt = 2 then
    s.fault { cls := 0x08, cause := if c.lost then 2 else 1, unit := unitOf 0x08 0, corr := c.corr,
              snapshot := s.cnt R.STO_TIMEOUT_CNT, lower := if ok then 1 else 2, upper := if ok then 0 else 4,
              attach := some (s.cmdAtt c), detail := c.path % 4096 + min 15 c.retrans * 2 ^ 16 + c.fn * 2 ^ 20 }
  else s

/-- The command's second attempt has failed (R418). -/
def State.stoFail (s : State) (c : StoCmd) : State := (s.stoFault c false).cmdDone c 0 0x22 0 0

/-- Number on its path of the connection an attempt stands at. -/
def State.attemptNum (s : State) (c : StoCmd) : Nat :=
  match c.place with
  | .waiting k => (s.stoConn k).num
  | .issued k _ => (s.stoConn k).num

/-- The next I/O connection that is up after number n (1 to count) of a path, the one of number n itself last (R418). -/
def State.nextUp (s : State) (p n : Nat) : Option Nat :=
  let l := (s.connsOf p).drop 1
  (l.drop n ++ l.take n).find? s.connUp

/-- An attempt has ended without a completion: issued once more, or the command fails (R418). -/
def State.reissue (s : State) (c : StoCmd) (lost : Bool) (retrans : Nat) : State :=
  if c.attempt = 2 then s.stoFail c
  else
    let (k, s) := if c.corr = 0 then s.newCorr else (c.corr, s)
    let c := { c with attempt := 2, corr := k, lost := lost, retrans := retrans, got := [], gotLen := 0 }
    let alt := s.pf c.path 32 12
    match s.nextUp c.path (s.attemptNum c) with
    | some n => (s.updCmd { c with place := .waiting n }).stat R.STO_REISSUE_CNT
    | none =>
      if s.pf c.path 44 1 = 1 then
        match s.nextUp alt (s.attemptNum c) with
        | some n => (s.updCmd { c with place := .waiting n, path := alt }).stat R.STO_REISSUE_CNT
        | none => s.stoFail c
      else s.stoFail c

/-- Whether a command's attempt is issued on a connection. -/
def StoCmd.on (c : StoCmd) (k : Nat) : Bool :=
  match c.place with
  | .issued j _ => j == k
  | .waiting _ => false

/-- A connection or queue pair is lost: its commands are issued once more, PATH_DOWN is raised when no I/O connection of the path is
up, and a reconnection begins (R416, R418). -/
def State.connLost (s : State) (k : Nat) : State :=
  let x := s.stoConn k
  let was := s.pf x.path 2 1
  let re := if roceConn k then (s.qp (k - 65536)).retries else x.retries
  let s := s.setConn k { x with st := .down, tags := [], aliveTag := none }
  let s := s.each ((s.sto.cmds.filter (fun c => c.on k))) (fun t c => t.reissue c true re)
  let s := if was = 1 ∧ ((s.connsOf x.path).drop 1).all (fun c => !s.connUp c) then
      (s.setPathUp x.path false).raise F.STO_INT_STATUS_PATH_DOWN
    else s
  if s.pf x.path 0 1 = 1 then (s.connOpen k).tryConnect k else s

/-- The final step of a command that the remote end has completed with success: a read's data is checked, decrypted and
written to the host before the completion (R405, R409-R411). -/
def State.stoGood (s : State) (c : StoCmd) : State :=
  let s := s.stoFault c true
  if c.op = 2 then
    let f := s.nsFmt c.ns
    let raw := match Map.get s.sto.staging [] c.id with
      | [] => Mem.bytes c.got 0 ((c.nlb) * f.beSize)
      | l => l
    let (e, d, m) := f.readAll c 0 c.nlb raw
    if e ≠ 0 then (s.err R.STO_PI_ERR_CNT).cmdDone c 2 e 0 0
    else
      let s := s.scatter (s.cmdAtt c) c.segs d
      let s := if m = [] then s else s.hostWrite (s.cmdAtt c) c.mdAddr m
      s.cmdDone c 0 0 0 d.length
  else s.cmdDone c 0 0 0 0

/-! Issue (R403, R404, R413) -/

/-- The attempts that wait in front of a connection, second attempts ahead of first ones (R403). -/
def State.waitingOn (s : State) (k : Nat) : List StoCmd :=
  let w := s.sto.cmds.filter (fun c => decide (c.place = .waiting k))
  w.filter (fun c => c.attempt = 2) ++ w.filter (fun c => c.attempt ≠ 2)

/-- The command capsule of a command under a tag (R404, R413). -/
def State.sendCmd (s : State) (k tag : Nat) (c : StoCmd) : State :=
  let f := s.nsFmt c.ns
  let len := if c.op = 2 then c.nlb * f.beSize else c.payload.length
  let inCap := roceConn k == false && !c.payload.isEmpty && decide (c.payload.length ≤ 8192)
    && decide (64 + c.payload.length ≤ 16 * Config.ioccsz (s.stoConn k).path)
  let (key, s) := if roceConn k then s.fresh else (0, s)
  let sgl := if len = 0 then List.replicate 16 0
    else if inCap then leBytes 0 8 ++ leBytes len 4 ++ [0, 0, 0, 0x01]
    else if roceConn k then leBytes 0 8 ++ leBytes len 3 ++ leBytes key 4 ++ [0x40]
    else leBytes 0 8 ++ leBytes len 4 ++ [0, 0, 0, 0x5A]
  let blk := c.op = 1 ∨ c.op = 2 ∨ c.op = 8
  let d10 := if blk then [c.slba % 2 ^ 32, c.slba / 2 ^ 32, c.nlb - 1 + c.cdw12 / 2 ^ 30 % 4 * 2 ^ 30, 0, c.ilbrt, 0]
    else if c.op = 9 then [c.payload.length / 16 - 1, 4] else []
  let s := if roceConn k ∧ len ≠ 0 then
      let q := k - 65536
      let x := s.qp q
      let s := s.setQp q { x with regions := x.regions ++ [{ key := key % 2 ^ 32, staging := true, att := c.id, base := 0, len := len }] }
      { s with sto := { s.sto with staging := Map.set s.sto.staging [] c.id (if c.op = 2 then List.replicate len 0 else c.payload) } }
    else s
  s.capsule k (sqe c.op tag (s.nf c.ns 128 32) sgl d10) (if inCap then c.payload else [])

/-- BACKEND_ISSUE: the first waiting attempt of a connection is issued under a tag, once fewer than QUEUE_SIZE - 1 commands are
outstanding (R403). -/
def execBackendIssue (k : Nat) (s : State) : Out :=
  let x := s.stoConn k
  match s.waitingOn k with
  | c :: _ =>
    if x.st = .up ∧ x.tags.length + 1 < s.pf x.path 272 16 then
      let t := x.newTag
      let s := s.setConn k { x with tags := x.tags ++ [{ tag := t, cmd := c.id, attempt := c.attempt }] }
      .next ((s.updCmd { c with place := .issued k t }).sendCmd k t c)
    else .next s
  | [] => .next s

/-- ATTEMPT_TIMEOUT: a command's issued attempt got no completion within BE_TIMEOUT_EFF (R417, R418). -/
def execAttemptTimeout (id : Nat) (s : State) : Out :=
  match s.sto.cmds.find? (fun c => c.id == id) with
  | some c =>
    match c.place with
    | .issued k _ =>
      let r := if roceConn k then (s.qp (k - 65536)).retries else (s.stoConn k).retries
      .next ((s.err R.STO_TIMEOUT_CNT).reissue c false r)
    | .waiting _ => .next s
  | none => .next s

/-- ISSUE_WAIT_TIMEOUT: an attempt waited BE_TIMEOUT_EFF without being issued and is not sent (R419). -/
def execIssueWaitTimeout (id : Nat) (s : State) : Out :=
  match s.sto.cmds.find? (fun c => c.id == id) with
  | some c =>
    match c.place with
    | .waiting _ => .next ((s.err R.STO_TIMEOUT_CNT).reissue c false 0)
    | .issued _ _ => .next s
  | none => .next s

/-! Receive (R406, R413, R421, R427) -/

/-- The unit takes the oldest packet handed to it when it is of a context kind and `ok`; the policer meters it on the way (R335). -/
def State.stoTake (s : State) (kind : Nat) (ok : Pkt → Bool) : Option Pkt × State :=
  match s.path.stoQueue with
  | [] => (none, s)
  | p :: t =>
    if p.stoKind = kind ∧ ok p then
      let s := { s with path := { s.path with stoQueue := t } }
      let (col, s) := s.police p p.data.length
      let (gone, s) := s.policeDrop p col
      let s := if p.txStamp then s.txOutcome p 0 0 0 false else s
      if gone then (none, s) else (some p, s)
    else (none, s)

/-- Payload, sequence number, acknowledgement number and flags of a TCP segment. -/
def tcpParse (l : List Byte) : List Byte × Nat × Nat × Nat :=
  match tcpAt l with
  | none => ([], 0, 0, 0)
  | some (_, _, u, stop) =>
    let h := (l.getD (u + 12) 0).toNat / 16 * 4
    ((l.take stop).drop (u + h), beNat ((l.drop (u + 4)).take 4), beNat ((l.drop (u + 8)).take 4), (l.getD (u + 13) 0).toNat)

/-- The acknowledgement number frees what it covers and stops or restarts the retransmission timer. -/
def Conn.acked (x : Conn) (ack : Nat) : Conn :=
  let u := x.unacked.filter (fun e => !decide ((ack + 2 ^ 32 - (e.1 + e.2.length)) % 2 ^ 32 < 2 ^ 31))
  if u.length = x.unacked.length then x else { x with unacked := u, retries := 0 }

/-- A violation closes the connection: H2CTermReq with a Fatal Error Status, and the commands are issued again (R427). -/
def State.tcpTerm (s : State) (k fes : Nat) (count : Bool) : State :=
  let s := if count then s.err R.STO_TCP_TERM_CNT else s
  let s := s.tcpSend k (s.pdu k 0x02 0 (leBytes fes 2 ++ List.replicate 14 0) [] false)
  if count then s.connLost k
  else s.setConn k { s.stoConn k with st := .down, failed := true, rx := [], inbox := [] }

/-- The command a tag of a connection stands for, if it still waits for it (R421). -/
def State.tagCmd (s : State) (k tag : Nat) : Option StoCmd :=
  match (s.stoConn k).tags.find? (fun t => t.tag == tag) with
  | none => none
  | some t => s.sto.cmds.find? (fun c => c.id == t.cmd && c.attempt == t.attempt && decide (c.place = .issued k tag))

/-- H2CData PDUs for a range of a write's bytes, each within MAXH2CDATA. -/
def State.h2cData (s : State) (k tag ttag off : Nat) (l : List Byte) : State :=
  let x := s.stoConn k
  let ps := pieces (max 1 x.maxData) l l.length
  (ps.foldl (fun (acc : State × Nat × Nat) d =>
    let (t, o, i) := acc
    let fl := if i + 1 = ps.length then 4 else 0
    let h := leBytes tag 2 ++ leBytes ttag 2 ++ leBytes o 4 ++ leBytes d.length 4 ++ leBytes 0 4
    (t.tcpSend k (t.pdu k 0x06 fl h d true), o + d.length, i + 1)) (s, off, 0)).1

/-- Act on one whole PDU; true when the connection goes on (R427). -/
def State.pduRx (s : State) (k : Nat) (b : List Byte) : State × Bool :=
  let x := s.stoConn k
  let ty := (b.getD 0 0).toNat
  let fl := (b.getD 1 0).toNat
  let hlen := (b.getD 2 0).toNat
  let pdo := (b.getD 3 0).toNat
  let plen := leAt b 4 4
  let hd := bitOf fl 0
  let dd := bitOf fl 1
  let tag := leAt b 8 2
  if ty = 0x03 then (s.connLost k, false)
  else if x.st = .icreq ∧ ty ≠ 0x01 ∨ x.st ≠ .icreq ∧ ¬ (ty = 0x05 ∨ ty = 0x07 ∨ ty = 0x09) then (s.tcpTerm k 1 true, false)
  else if hlen ≠ (if ty = 0x01 then 128 else 24) then (s.tcpTerm k 1 true, false)
  else if ty ≠ 0x01 ∧ hd = x.hdgst ∧ x.hdgst ∧ leAt b hlen 4 ≠ crc32c 0 (b.take hlen) then (s.tcpTerm k 3 true, false)
  else if ty = 0x01 ∨ ty = 0x05 then (s.setConn k { s.stoConn k with inbox := x.inbox ++ [b] }, true)
  else if ty = 0x09 then
    match s.tagCmd k tag with
    | none => (s, true)
    | some c =>
      let o := leAt b 12 4
      let n := leAt b 16 4
      if c.payload.length < o + n ∨ n = 0 then (s.tcpTerm k 1 true, false)
      else (s.h2cData k tag (leAt b 10 2) o ((c.payload.drop o).take n), true)
  else
    let o := leAt b 12 4
    let n := leAt b 16 4
    let data := (b.drop pdo).take n
    if pdo < hlen + (if hd then 4 else 0) ∨ plen ≠ pdo + n + (if dd then 4 else 0) then (s.tcpTerm k 1 true, false)
    else
      match s.tagCmd k tag with
      | none => (s, true)
      | some c =>
        if c.op ≠ 2 ∨ c.nlb * (s.nsFmt c.ns).beSize < o + n then (s.tcpTerm k 4 true, false)
        else if dd ∧ x.ddgst ∧ leAt b (pdo + n) 4 ≠ crc32c 0 data then
          ((s.err R.STO_TCP_DDGST_CNT).reissue c false x.retries, true)
        else
          let s := s.updCmd { c with got := Mem.putBytes c.got o data, gotLen := c.gotLen + n }
          if bitOf fl 3 ∧ bitOf fl 2 then
            (s.setConn k { s.stoConn k with inbox := x.inbox ++ [[0x05, 0, 24, 0, 24, 0, 0, 0] ++ List.replicate 12 0 ++ leBytes tag 2 ++ [0, 0]] }, true)
          else (s, true)

/-- Take whole PDUs off the received bytes; each takes at least 8 bytes. -/
def State.pdus (s : State) (k : Nat) : Nat → State
  | 0 => s
  | n + 1 =>
    let x := s.stoConn k
    let plen := leAt x.rx 4 4
    if x.rx.length < 8 then s
    else if plen < 24 ∨ 2 ^ 24 < plen then s.tcpTerm k 1 true
    else if x.rx.length < plen then s
    else
      match (s.setConn k { x with rx := x.rx.drop plen }).pduRx k (x.rx.take plen) with
      | (s, true) => State.pdus s k n
      | (s, false) => s

/-- NVME_TCP_PDU_RX: a segment with payload arrives for a connection: in order it is added to the stream, and each whole PDU is
processed or answered as a violation (R413, R427). -/
def execNvmeTcpPduRx (s : State) : Out :=
  match s.stoTake 1 (fun p => !(tcpParse p.data).1.isEmpty) with
  | (none, s) => .next s
  | (some p, s) =>
    let k := p.stoIndex
    let (l, seq, ack, _) := tcpParse p.data
    let x := (s.stoConn k).acked ack
    if x.st = .syn ∨ x.st = .down then .next s
    else if seq ≠ x.rcv then .next ((s.setConn k x).tcpSeg k [])
    else
      let x := { x with rcv := (x.rcv + l.length) % 2 ^ 32, rx := x.rx ++ l }
      .next (((s.setConn k x).tcpSeg k []).pdus k x.rx.length)

/-- ICReq: PFV 0, HPDA 0, the digests asked for, sixteen ready-to-transfer PDUs (R413). -/
def State.sendIcreq (s : State) (k : Nat) : State :=
  let p := (s.stoConn k).path
  s.tcpSend k (s.pdu k 0x00 0 (leBytes 0 2 ++ [0, BitVec.ofNat 8 (s.pf p 3 2)] ++ leBytes 15 4 ++ List.replicate 112 0) [] false)

/-- TCP_ACK_RX: a segment without payload: a SYN-ACK opens the connection, so ICReq goes out; an ACK frees what it covers; a reset
or the target's end of the connection loses it (R413, R416). -/
def execTcpAckRx (s : State) : Out :=
  match s.stoTake 1 (fun p => (tcpParse p.data).1.isEmpty) with
  | (none, s) => .next s
  | (some p, s) =>
    let k := p.stoIndex
    let (_, seq, ack, fl) := tcpParse p.data
    let x := s.stoConn k
    if bitOf fl 2 ∨ bitOf fl 0 then .next (s.connLost k)
    else if x.st = .syn then
      if bitOf fl 1 ∧ bitOf fl 4 then
        let s := s.setConn k { x with st := .icreq, rcv := (seq + 1) % 2 ^ 32, retries := 0 }
        .next (s.sendIcreq k)
      else .next s
    else .next (s.setConn k (x.acked ack))

/-- ICRESP_RX: the connection's ICResp is accepted, or answered with H2CTermReq, FES 0x06 (R413). -/
def execIcrespRx (k : Nat) (s : State) : Out :=
  let x := s.stoConn k
  match x.inbox with
  | b :: t =>
    if x.st = .icreq ∧ b.getD 0 0 = 1 then
      let dg := (b.getD 11 0).toNat
      let want := s.pf x.path 3 2
      let s := s.setConn k { x with inbox := t }
      if leAt b 8 2 ≠ 0 ∨ 31 < (b.getD 10 0).toNat ∨ dg &&& want ≠ dg ∨ leAt b 12 4 < 4096 then .next (s.tcpTerm k 6 false)
      else
        .next ((s.setConn k { x with inbox := t, st := .ready, cpda := (b.getD 10 0).toNat, hdgst := bitOf dg 0,
                                     ddgst := bitOf dg 1, maxData := leAt b 12 4 }).tryConnect k)
    else .next s
  | [] => .next s

/-- The 16 bytes of a completion that stand first in a connection's inbox. -/
def Conn.cqe (x : Conn) (k : Nat) : Option (List Byte) :=
  match x.inbox with
  | b :: _ => if roceConn k then some (b.take 16) else if b.getD 0 0 = 5 then some ((b.drop 8).take 16) else none
  | [] => none

/-- FABRICS_CONNECT_RESPONSE: CNTLID is recorded and the connection is up, or the path is left down and PATH_DOWN raised (R415). -/
def execFabricsConnectResponse (k : Nat) (s : State) : Out :=
  let x := s.stoConn k
  match x.cqe k with
  | some e =>
    if x.st = .connecting then
      let s := s.setConn k { x with inbox := x.inbox.drop 1 }
      if leAt e 14 2 / 2 = 0 then
        let s := s.setConn k { s.stoConn k with st := .up, failed := false }
        if x.num = 0 then .next (s.each ((s.connsOf x.path).drop 1) (fun t c => t.tryConnect c) |>.setPf x.path 320 16 (leAt e 0 2))
        else if (s.connsOf x.path).all (fun c => !(s.stoConn c).failed) then .next (s.setPathUp x.path true)
        else .next s
      else
        let s := s.setConn k { s.stoConn k with st := .ready, failed := true }
        .next ((s.setPathUp x.path false).raise F.STO_INT_STATUS_PATH_DOWN)
    else .next s
  | none => .next s

/-- FABRICS_CONNECT_RETRY: a failed Connect is sent again while the path is VALID (R415). -/
def execFabricsConnectRetry (p : Nat) (s : State) : Out :=
  if s.pf p 0 1 = 1 then
    .next (s.each (s.connsOf p) (fun t k =>
      let x := t.stoConn k
      if x.failed then
        let t := t.setConn k { x with failed := false }
        if x.st = .down then t.connOpen k else t.tryConnect k
      else t))
  else .next s

/-- KEEP_ALIVE_TIMER: Keep Alive goes out on the admin queue of a path whose Connect succeeded (R415). -/
def execKeepAliveTimer (p : Nat) (s : State) : Out :=
  let k := (s.connsOf p).getD 0 0
  let x := s.stoConn k
  if s.pf p 0 1 = 1 ∧ s.connsOf p ≠ [] ∧ x.st = .up ∧ s.pf p 352 32 ≠ 0 ∧ x.aliveTag = none then
    let t := x.newTag
    .next ((s.setConn k { x with aliveTag := some t }).capsule k (sqe 0x18 t 0 (List.replicate 16 0) []) [])
  else .next s

/-- BACKEND_COMPLETION: the completion that stands first in a connection's inbox; the command it names completes, or the completion is
an orphan, and its tag is freed (R404, R405, R421). -/
def execBackendCompletion (k : Nat) (s : State) : Out :=
  let x := s.stoConn k
  match x.cqe k with
  | some e =>
    if x.st = .up then
      let tag := leAt e 12 2
      let st := leAt e 14 2
      let c := s.tagCmd k tag
      let s := s.setConn k { x with inbox := x.inbox.drop 1, tags := x.tags.filter (fun t => t.tag ≠ tag),
                                    aliveTag := if x.aliveTag = some tag then none else x.aliveTag }
      if x.aliveTag = some tag then .next s
      else
        match c with
        | none => .next (s.err R.STO_ORPHAN_CNT)
        | some c =>
          if st / 2 = 0 then
            .next (if c.op = 2 ∧ ¬ roceConn k ∧ c.gotLen < c.nlb * (s.nsFmt c.ns).beSize then s.tcpTerm k 1 true else s.stoGood c)
          else .next ((s.stoFault c true).cmdDone c (bitsOf st 9 3) (bitsOf st 1 8) (bitsOf st 15 1) 0)
    else .next s
  | none => .next s

/-- TCP_RTO_EXPIRY: the oldest segment is sent again, or, the budget T_tr spent, the connection is lost (R416). -/
def execTcpRtoExpiry (k : Nat) (s : State) : Out :=
  let x := s.stoConn k
  if roceConn k ∨ x.st = .down ∨ (x.unacked = [] ∧ x.st ≠ .syn) then .next s
  else if x.retries < s.rd F.STO_TCP_CFG_RETRIES then
    let s := s.setConn k { x with retries := x.retries + 1 }
    .next (s.tcpSeg k ((x.unacked.head?.map (·.2)).getD []))
  else .next (s.connLost k)

end Sys2Proof.Machine
end

