-- ==== Sys2Proof/Machine/Nvme.lean ====
section
/-! DEFINITION. Machine/Nvme.lean: the commands of emulated NVMe controllers (R397-R401, R409-R412, R427). A command acts on
the entry at the head of a submission queue when the entry holds it. Entry layouts, status codes and Identify data are
those of NVMe 2.0 (PRESUMED, log entry 45). -/

namespace Sys2Proof.Machine

open Sys2Proof

set_option cleanup.letToHave false

/-- The opcodes of R399, by queue. -/
def nvmeAdminOps : List Nat := [0x00, 0x01, 0x02, 0x04, 0x05, 0x06, 0x08, 0x09, 0x0A, 0x0C]
def nvmeIoOps : List Nat := [0x00, 0x01, 0x02, 0x08, 0x09]

/-- Whether an opcode is one of its queue's. -/
def nvmeKnown (q op : Nat) : Bool := if q = 0 then nvmeAdminOps.contains op else nvmeIoOps.contains op

/-- Opcodes of what R400 refuses: Namespace Management and Attachment; reservations and zoned namespaces. -/
def nvmeRefusedOps (q op : Nat) : Bool :=
  if q = 0 then [0x0D, 0x15].contains op else [0x0D, 0x0E, 0x11, 0x15, 0x79, 0x7A, 0x7D].contains op

/-- The entry at the head of submission queue q of function f, when it is fetched and passes `want`. -/
def State.sqHead (s : State) (f q : Nat) (want : List Byte → Bool) : Option (List Byte) :=
  let x := s.que f 8 q
  match s.ctrlOf f with
  | some (_, c) =>
    if c.kind = 0 ∧ s.queRuns f 8 q ∧ x.ci ≠ x.got then
      let e := s.hostRead (s.attOf f) (x.base + 64 * x.ci) 64
      if want e then some e else none
    else none
  | none => none

/-- The head entry is taken (R399): its slot is free, and the command is counted. -/
def State.sqTake (s : State) (f q : Nat) : State :=
  (s.updQue f 8 q (fun x => { x with ci := (x.ci + 1) % max 1 x.size })).stat R.STO_CMD_CNT

/-- Run a command of one opcode on a queue: fused commands and keyed SGLs are refused (R400). -/
def State.nvme (s : State) (f q op : Nat) (k : State → List Byte → Nat → State) : State :=
  match s.sqHead f q (fun e => e.getD 0 0 == BitVec.ofNat 8 op) with
  | none => s
  | some e =>
    let cid := leAt e 2 2
    let s := s.sqTake f q
    let fl := (e.getD 1 0).toNat
    if fl % 4 ≠ 0 ∨ fl / 64 = 3 then s.nvmeDone f q cid 0 0x02 0 0 else k s e cid

/-- Dword n of an entry. -/
def dw (e : List Byte) (n : Nat) : Nat := leAt e (4 * n) 4

/-- A namespace of a controller by NSID (R396). -/
def State.nsOf (s : State) (ctrl nsid : Nat) : Option Nat :=
  ((s.sto.ns.filter (fun x => bitOf x.2 0 && bitsOf x.2 64 11 == ctrl && bitsOf x.2 80 5 + 1 == nsid)).map (·.1)).head?

/-- NSIDs of a controller's namespaces, rising. -/
def State.nsids (s : State) (ctrl : Nat) : List Nat := ((List.range 32).map (· + 1)).filter (fun i => (s.nsOf ctrl i).isSome)

/-- The buffers of a command's data pointer for n bytes: PRPs or SGLs; a status code on failure (R400, R427). -/
def State.dptr (s : State) (f : Nat) (e : List Byte) (n : Nat) : Nat × List (Nat × Nat) :=
  let a := s.attOf f
  if (e.getD 1 0).toNat / 64 = 0 then
    match s.prps a (leAt e 24 8) (leAt e 32 8) n with
    | some l => (0, l)
    | none => (0x13, [])
  else
    match s.sglFirst a ((e.drop 24).take 16) with
    | some l => if segLen l < n then (0x0F, []) else (0, cutSegs l n)
    | none => (0x02, [])

/-- Bring a data-pointer failure to the tenant: a misaligned PRP is counted (R427). -/
def State.dptrFail (s : State) (f q cid code : Nat) : State :=
  (if code = 0x13 then s.err R.STO_TENANT_ERR_CNT else s).nvmeDone f q cid 0 code 0 0

/-- Return data of an admin command to the host. -/
def State.nvmeData (s : State) (f cid : Nat) (e d : List Byte) : State :=
  match s.dptr f e d.length with
  | (0, l) => (s.scatter (s.attOf f) l d).nvmeDone f 0 cid 0 0 0 0
  | (c, _) => s.dptrFail f 0 cid c

/-- CRDT1: the longest wait of R420 over the paths of the controller's namespaces, in units of 100 ms, rounded up. -/
def State.crdt1 (s : State) (ctrl : Nat) : Nat :=
  let l := (s.nsids ctrl).filterMap (s.nsOf ctrl)
  let m := (l.map (fun n => s.pf (s.nf n 96 12) 96 32)).foldl max 0
  (4 * m + 1 + 99) / 100

/-- Bytes of Identify data: those the spec or the command set of R399 fixes, the others free (log entry 44). -/
def identify (purpose obj : Nat) (fixed : List (Nat × List Byte)) : List Byte :=
  fixed.foldl (fun l x => putAt l x.1 x.2) ((List.range 4096).map (Config.stoByte purpose obj))

/-- NVME_IDENTIFY: CNS 00h namespace, 01h controller, 02h active namespaces, 03h namespace descriptors (R396, R399, R408, R420). -/
def execNvmeIdentify (f : Nat) (s : State) : Out :=
  .next (s.nvme f 0 0x06 (fun s e cid =>
    let cns := dw e 10 % 256
    let ctrl := ((s.ctrlOf f).map (·.1)).getD 0
    let ns := s.nsOf ctrl (dw e 1)
    if cns = 1 then
      s.nvmeData f cid e (identify 1 ctrl [(80, leBytes 0x20000 4), (128, leBytes (s.crdt1 ctrl) 2), (512, [0x66, 0x44]),
        (516, leBytes 32 4), (520, leBytes 0x0C 2), (536, leBytes 1 4)])
    else if cns = 2 then
      s.nvmeData f cid e (padTo 4096 (((s.nsids ctrl).filter (fun i => dw e 1 < i)).flatMap (fun i => leBytes i 4)))
    else
      match ns with
      | none => s.nvmeDone f 0 cid 0 (if cns = 0 ∨ cns = 3 then 0x0B else 0x02) 0 0
      | some n =>
        if cns = 0 then
          let z := leBytes (s.nf n 192 64) 8
          let p := s.nf n 4 2
          s.nvmeData f cid e (identify 0 n [(0, z ++ z ++ z), (25, [0, 0]), (27, [2]), (29, [BitVec.ofNat 8 p]),
            (128, leBytes ((if p = 0 then 0 else 8) + (if s.nf n 3 1 = 1 then 12 else 9) * 2 ^ 16) 4)])
        else if cns = 3 then s.nvmeData f cid e (identify 3 n [])
        else s.nvmeDone f 0 cid 0 0x02 0 0))

/-- NVME_GET_LOG_PAGE: pages 01h, 02h and 03h; their content is free (R399); the ANA page is refused (R400). -/
def execNvmeGetLogPage (f : Nat) (s : State) : Out :=
  .next (s.nvme f 0 0x02 (fun s e cid =>
    let lid := dw e 10 % 256
    let n := ((dw e 10 / 65536 + dw e 11 % 65536 * 65536) + 1) * 4
    let off := dw e 12 + dw e 13 * 2 ^ 32
    if lid = 0x0C then s.nvmeDone f 0 cid 0 0x02 0 0
    else if lid = 0 ∨ 3 < lid then s.nvmeDone f 0 cid 1 0x09 0 0
    else
      let (v, s) := s.fresh
      s.nvmeData f cid e ((List.range n).map (fun i => Config.stoByte (256 + lid) v (off + i)))))

/-- Features 07h, 08h and 0Bh (R399). -/
def nvmeFeature (fid : Nat) : Bool := fid == 0x07 || fid == 0x08 || fid == 0x0B

/-- NVME_SET_FEATURES: number of queues answers the lesser of the request and 64 pairs (R398, R399). -/
def execNvmeSetFeatures (f : Nat) (s : State) : Out :=
  .next (s.nvme f 0 0x09 (fun s e cid =>
    let fid := dw e 10 % 256
    match s.ctrlOf f with
    | some (n, c) =>
      if nvmeFeature fid then
        let v := if fid = 7 then min 63 (dw e 11 % 65536) + min 63 (dw e 11 / 65536) * 65536 else dw e 11
        (s.setCtrl n { c with feat := Map.set c.feat 0 fid v }).nvmeDone f 0 cid 0 0 0 (if fid = 7 then v else 0)
      else s.nvmeDone f 0 cid 0 0x02 0 0
    | none => s))

/-- NVME_GET_FEATURES (R399). -/
def execNvmeGetFeatures (f : Nat) (s : State) : Out :=
  .next (s.nvme f 0 0x0A (fun s e cid =>
    let fid := dw e 10 % 256
    match s.ctrlOf f with
    | some (_, c) =>
      if nvmeFeature fid then s.nvmeDone f 0 cid 0 0 0 (Map.get c.feat 0 fid) else s.nvmeDone f 0 cid 0 0x02 0 0
    | none => s))

/-- NVME_CREATE_IO_CQ (R398, R399). -/
def execNvmeCreateIoCq (f : Nat) (s : State) : Out :=
  .next (s.nvme f 0 0x05 (fun s e cid =>
    let q := dw e 10 % 65536
    let n := dw e 10 / 65536 + 1
    let vec := dw e 11 / 65536
    if q = 0 ∨ 64 < q ∨ s.hasQue f 9 q then s.nvmeDone f 0 cid 1 0x01 0 0
    else if n < 2 then s.nvmeDone f 0 cid 1 0x02 0 0
    else if bitOf (dw e 11) 1 ∧ (s.func f).vecTable ≤ vec then s.nvmeDone f 0 cid 1 0x08 0 0
    else if bitOf (dw e 11) 0 = false then s.nvmeDone f 0 cid 0 0x02 0 0
    else
      (s.updQue f 9 q (fun _ => { st := .enabled, base := leAt e 24 8, size := n, log2 := Nat.log2 n, vec := vec, ien := bitOf (dw e 11) 1 })).nvmeDone
        f 0 cid 0 0 0 0))

/-- NVME_CREATE_IO_SQ: takes one unit of the queue-pair allotment, or completes with an NVMe error, which the spec does not name, when
none is free (R398, R519; log entry 5). The queue is ENABLED at once (log entry 46). -/
def execNvmeCreateIoSq (f : Nat) (s : State) : Out :=
  .next (s.nvme f 0 0x01 (fun s e cid =>
    let q := dw e 10 % 65536
    let n := dw e 10 / 65536 + 1
    let cq := dw e 11 / 65536
    let x := s.func f
    if q = 0 ∨ 64 < q ∨ s.hasQue f 8 q then s.nvmeDone f 0 cid 1 0x01 0 0
    else if n < 2 then s.nvmeDone f 0 cid 1 0x02 0 0
    else if cq = 0 ∨ ¬ s.hasQue f 9 cq then s.nvmeDone f 0 cid 1 0x00 0 0
    else if bitOf (dw e 11) 0 = false then s.nvmeDone f 0 cid 0 0x02 0 0
    else if x.qpAllot ≤ x.qpUsed then
      let (v, s) := s.fresh
      s.nvmeDone f 0 cid (v / 256 % 8) (1 + v % 255) 0 0
    else
      ((s.setFunc f { x with qpUsed := x.qpUsed + 1 }).updQue f 8 q (fun _ =>
        { st := .enabled, base := leAt e 24 8, size := n, log2 := Nat.log2 n, cq := cq })).nvmeDone f 0 cid 0 0 0 0))

/-- A queue ceases to exist. -/
def State.dropQue (s : State) (f k q : Nat) : State :=
  s.updFunc f (fun x => { x with queues := Map.erase x.queues (qKey k q) })

/-- NVME_DELETE_IO_SQ: its commands leave the unit, those not sent complete as aborted, those sent become orphans; its unit returns
to the allotment. -/
def execNvmeDeleteIoSq (f : Nat) (s : State) : Out :=
  .next (s.nvme f 0 0x00 (fun s e cid =>
    let q := dw e 10 % 65536
    if q = 0 ∨ ¬ s.hasQue f 8 q then s.nvmeDone f 0 cid 1 0x01 0 0
    else
      let s := s.each (s.sto.cmds.filter (fun c => c.fn == f && !c.virt && c.q == q)) (fun t c => t.cmdDone c 0 0x08 0 0)
      ((s.dropQue f 8 q).updFunc f (fun x => { x with qpUsed := x.qpUsed - 1 })).nvmeDone f 0 cid 0 0 0 0))

/-- NVME_DELETE_IO_CQ: refused while a submission queue still names it. -/
def execNvmeDeleteIoCq (f : Nat) (s : State) : Out :=
  .next (s.nvme f 0 0x04 (fun s e cid =>
    let q := dw e 10 % 65536
    if q = 0 ∨ ¬ s.hasQue f 9 q then s.nvmeDone f 0 cid 1 0x01 0 0
    else if (s.func f).queues.any (fun x => decide (8 * 4096 ≤ x.1) && decide (x.1 < 9 * 4096) && x.2.cq == q) then
      s.nvmeDone f 0 cid 1 0x0C 0 0
    else (s.dropQue f 9 q).nvmeDone f 0 cid 0 0 0 0))

/-- NVME_ABORT: a command not yet sent is removed and completes with SC 0x07; one already sent is not aborted (R401). -/
def execNvmeAbort (f : Nat) (s : State) : Out :=
  .next (s.nvme f 0 0x08 (fun s e cid =>
    let q := dw e 10 % 65536
    let id := dw e 10 / 65536
    match s.sto.cmds.find? (fun c => c.fn == f && !c.virt && c.q == q && c.cid == id) with
    | some c =>
      match c.place with
      | .waiting _ =>
        if c.attempt = 1 then (s.cmdDone c 0 0x07 0 0).nvmeDone f 0 cid 0 0 0 0 else s.nvmeDone f 0 cid 0 0 0 1
      | .issued _ _ => s.nvmeDone f 0 cid 0 0 0 1
    | none => s.nvmeDone f 0 cid 0 0 0 1))

/-- An asynchronous event of a controller: completes the oldest request, or waits for one (R427). -/
def State.nvmeEvent (s : State) (f v : Nat) : State :=
  match s.ctrlOf f with
  | some (n, c) =>
    match c.aers with
    | id :: t => (s.setCtrl n { c with aers := t }).nvmeDone f 0 id 0 0 0 v
    | [] => s.setCtrl n { c with events := c.events ++ [v] }
  | none => s

/-- NVME_ASYNC_EVENT_REQUEST: waits for an event, or completes with one that already waits (R399). -/
def execNvmeAsyncEventRequest (f : Nat) (s : State) : Out :=
  .next (s.nvme f 0 0x0C (fun s _ cid =>
    match s.ctrlOf f with
    | some (n, c) =>
      match c.events with
      | v :: t => (s.setCtrl n { c with events := t }).nvmeDone f 0 cid 0 0 0 v
      | [] => s.setCtrl n { c with aers := c.aers ++ [cid] }
    | none => s))

/-- NVME_UNSUPPORTED_OPCODE: any other opcode completes with Invalid Command Opcode (R399), that of a command R400 refuses with Invalid
Field in Command (log entry 46). -/
def execNvmeUnsupportedOpcode (f q : Nat) (s : State) : Out :=
  match s.sqHead f q (fun e => !nvmeKnown q (e.getD 0 0).toNat) with
  | none => .next s
  | some e =>
    .next ((s.sqTake f q).nvmeDone f q (leAt e 2 2) 0 (if nvmeRefusedOps q (e.getD 0 0).toNat then 0x02 else 0x01) 0 0)

/-! I/O commands -/

/-- A fetched command waits in front of its connection: queue k of a path's namespace on connection k mod IO_CONNS (R403). -/
def State.stoSubmit (s : State) (c : StoCmd) : State :=
  let p := s.nf c.ns 96 12
  let k := (s.connsOf p).getD (1 + c.q % max 1 (s.pf p 16 7)) 0
  { s with sto := { s.sto with cmds := s.sto.cmds ++ [{ c with id := s.sto.nextCmd, path := p, place := .waiting k }],
                               nextCmd := s.sto.nextCmd + 1 } }

/-- The checks every I/O command of a range meets: namespace, key, LBA range (R399, R412, R427); a status code or the namespace. -/
def State.nvmeNs (s : State) (f nsid : Nat) (keyed : Bool) (lba n : Nat) : Nat × Nat :=
  match s.ctrlOf f with
  | none => (0x0B, 0)
  | some (k, _) =>
    match s.nsOf k nsid with
    | none => (0x0B, 0)
    | some ns =>
      if keyed ∧ s.nf ns 1 1 = 1 ∧ s.nf ns 2 1 = 0 then (0x02, ns)
      else if s.nf ns 192 64 < lba + n then (0x80, ns)
      else (0, ns)

/-- A refused I/O command; an LBA beyond SIZE_LBA is counted (R427). -/
def State.nvmeRefuse (s : State) (f q cid code : Nat) : State :=
  (if code = 0x80 then s.err R.STO_TENANT_ERR_CNT else s).nvmeDone f q cid 0 code 0 0

/-- A command built from an I/O entry. -/
def State.ioCmd (s : State) (f q cid ns op : Nat) (e : List Byte) : StoCmd :=
  { id := 0, fn := f, gen := (s.func f).gen, virt := false, q := q, cid := cid, op := op, ns := ns,
    slba := leAt e 40 8, nlb := dw e 12 % 65536 + 1, cdw11 := dw e 11, cdw12 := dw e 12, mdAddr := leAt e 16 8,
    pract := bitOf (dw e 12) 29, prchk := bitsOf (dw e 12) 26 3, ilbrt := dw e 14, lbat := dw e 15 % 65536,
    lbatm := dw e 15 / 65536, place := .waiting 0 }

/-- NVME_FLUSH (R399). -/
def execNvmeFlush (f q : Nat) (s : State) : Out :=
  .next (if q = 0 then s else s.nvme f q 0x00 (fun s e cid =>
    match s.nvmeNs f (dw e 1) false 0 0 with
    | (0, ns) => s.stoSubmit { s.ioCmd f q cid ns 0 e with slba := 0, nlb := 0 }
    | (c, _) => s.nvmeRefuse f q cid c))

/-- NVME_WRITE: protection information checked or inserted, data encrypted, back-end protection information added; a failed check
completes it and nothing is sent (R409-R412). -/
def execNvmeWrite (f q : Nat) (s : State) : Out :=
  .next (if q = 0 then s else s.nvme f q 0x01 (fun s e cid =>
    let c := s.ioCmd f q cid 0 1 e
    match s.nvmeNs f (dw e 1) true c.slba c.nlb with
    | (0, ns) =>
      let c := { c with ns := ns }
      let fm := s.nsFmt ns
      match s.dptr f e (c.nlb * fm.size) with
      | (0, l) =>
        let md := if fm.hostPi = 0 ∨ c.pract then [] else s.hostRead (s.attOf f) c.mdAddr (8 * c.nlb)
        match fm.writeAll c 0 c.nlb (s.gather (s.attOf f) l) md with
        | (0, d) => s.stoSubmit { c with segs := l, payload := d }
        | (x, _) => (s.err R.STO_PI_ERR_CNT).nvmeDone f q cid 2 x 0 0
      | (x, _) => s.dptrFail f q cid x
    | (x, _) => s.nvmeRefuse f q cid x))

/-- NVME_READ: what the back end returns is checked and decrypted at its completion (R409-R412). -/
def execNvmeRead (f q : Nat) (s : State) : Out :=
  .next (if q = 0 then s else s.nvme f q 0x02 (fun s e cid =>
    let c := s.ioCmd f q cid 0 2 e
    match s.nvmeNs f (dw e 1) true c.slba c.nlb with
    | (0, ns) =>
      match s.dptr f e (c.nlb * (s.nsFmt ns).size) with
      | (0, l) => s.stoSubmit { c with ns := ns, segs := l }
      | (x, _) => s.dptrFail f q cid x
    | (x, _) => s.nvmeRefuse f q cid x))

/-- NVME_WRITE_ZEROES (R399). -/
def execNvmeWriteZeroes (f q : Nat) (s : State) : Out :=
  .next (if q = 0 then s else s.nvme f q 0x08 (fun s e cid =>
    let c := s.ioCmd f q cid 0 8 e
    match s.nvmeNs f (dw e 1) false c.slba c.nlb with
    | (0, ns) => s.stoSubmit { c with ns := ns }
    | (x, _) => s.nvmeRefuse f q cid x))

/-- NVME_DATASET_MANAGEMENT: deallocate only; a command that does not ask for it completes with nothing to do (R399; log entry 46). -/
def execNvmeDatasetManagement (f q : Nat) (s : State) : Out :=
  .next (if q = 0 then s else s.nvme f q 0x09 (fun s e cid =>
    let c := s.ioCmd f q cid 0 9 e
    match s.nvmeNs f (dw e 1) false 0 0 with
    | (0, ns) =>
      let n := dw e 10 % 256 + 1
      match s.dptr f e (16 * n) with
      | (0, l) =>
        let d := s.gather (s.attOf f) l
        let big := (List.range n).any (fun i => decide (s.nf ns 192 64 < leAt d (16 * i + 8) 8 + leAt d (16 * i + 4) 4))
        if big then s.nvmeRefuse f q cid 0x80
        else if bitOf (dw e 11) 2 then s.stoSubmit { c with ns := ns, slba := 0, nlb := 0, payload := d }
        else s.nvmeDone f q cid 0 0 0 0
      | (x, _) => s.dptrFail f q cid x
    | (x, _) => s.nvmeRefuse f q cid x))

/-! virtio-blk (R402, R411) -/

/-- A request of a virtqueue: its chain, type, sector, the bytes the driver gives, the buffers the device fills before the status
byte, and the address of the status byte. -/
structure BlkReq where
  chain : VChain
  type : Nat
  sector : Nat
  data : List Byte
  room : List VBuf
  status : Nat
  noStatus : Bool := false
  deriving DecidableEq, Repr

/-- The next request of virtio-blk virtqueue n of function f. -/
def State.blkNext (s : State) (f n : Nat) : Option BlkReq :=
  match s.ctrlOf f, s.vqNext f 7 n with
  | some (_, c), some ch =>
    if c.kind = 1 then
      let a := s.attOf f
      let o := s.vRead a (ch.bufs.filter (fun b => !b.wr))
      let w := (ch.bufs.filter (·.wr)).reverse
      match w with
      | b :: t =>
        some { chain := ch, type := leAt o 0 4, sector := leAt o 8 8, data := o.drop 16,
               room := (if b.len ≤ 1 then t else { b with len := b.len - 1 } :: t).reverse, status := b.addr + b.len - 1 }
      | [] => some { chain := ch, type := leAt o 0 4, sector := leAt o 8 8, data := o.drop 16, room := [],
                         status := 0, noStatus := true }
    else none
  | _, _ => none

/-- Complete a request at once with a status: 0 OK, 1 IOERR, 2 UNSUPP. -/
def State.blkDone (s : State) (f n : Nat) (r : BlkReq) (status written : Nat) : State :=
  if r.noStatus then s.vqUsed f 7 n r.chain 0
  else (s.hostWrite (s.attOf f) r.status [BitVec.ofNat 8 status]).vqUsed f 7 n r.chain (written + 1)

/-- Run a request of one type; one without a buffer for its status is returned without an effect (log entry 46). -/
def State.blk (s : State) (f n type : Nat) (k : State → BlkReq → State) : State :=
  match s.blkNext f n with
  | some r =>
    if r.type = type then
      let s := (s.vqTake f 7 n r.chain).stat R.STO_CMD_CNT
      if r.noStatus then s.blkDone f n r 1 0 else k s r
    else s
  | none => s

/-- The one namespace of a virtio-blk device, and a range of 512-byte sectors as its LBAs; none where it does not fit (R396, R427). -/
def State.blkRange (s : State) (f sector n : Nat) : Option (Nat × Nat × Nat) :=
  match s.ctrlOf f with
  | none => none
  | some (k, _) =>
    match s.nsOf k 1 with
    | none => none
    | some ns =>
      let u := if s.nf ns 3 1 = 1 then 8 else 1
      if sector % u ≠ 0 ∨ n % u ≠ 0 ∨ s.nf ns 192 64 < (sector + n) / u then none else some (ns, sector / u, n / u)

/-- A command of a request. -/
def State.blkCmd (s : State) (f n : Nat) (r : BlkReq) (op ns lba nlb : Nat) : StoCmd :=
  { id := 0, fn := f, gen := (s.func f).gen, virt := true, q := n, cid := r.chain.id, op := op, ns := ns, slba := lba,
    nlb := nlb, segs := r.room.map (fun b => (b.addr, b.len)), mdAddr := r.status, pract := true,
    ilbrt := lba % 2 ^ 32, wLen := r.chain.count, place := .waiting 0 }

/-- Whether the namespace's key is wanting (R412). -/
def State.noKey (s : State) (ns : Nat) : Bool := s.nf ns 1 1 == 1 && s.nf ns 2 1 == 0

/-- VIRTIO_BLK_IN (R402, R409). -/
def execVirtioBlkIn (f n : Nat) (s : State) : Out :=
  .next (s.blk f n 0 (fun s r =>
    let len := (r.room.map (·.len)).sum
    match s.blkRange f r.sector (len / 512) with
    | some (ns, lba, k) =>
      if len % 512 ≠ 0 ∨ k = 0 ∨ s.noKey ns then s.blkDone f n r 1 0 else s.stoSubmit (s.blkCmd f n r 2 ns lba k)
    | none => (s.err R.STO_TENANT_ERR_CNT).blkDone f n r 1 0))

/-- VIRTIO_BLK_OUT (R402, R409). -/
def execVirtioBlkOut (f n : Nat) (s : State) : Out :=
  .next (s.blk f n 1 (fun s r =>
    let len := r.data.length
    match s.blkRange f r.sector (len / 512) with
    | some (ns, lba, k) =>
      if len % 512 ≠ 0 ∨ k = 0 ∨ s.noKey ns then s.blkDone f n r 1 0
      else
        let c := s.blkCmd f n r 1 ns lba k
        match (s.nsFmt ns).writeAll c 0 k r.data [] with
        | (0, d) => s.stoSubmit { c with payload := d }
        | (_, _) => (s.err R.STO_PI_ERR_CNT).blkDone f n r 1 0
    | none => (s.err R.STO_TENANT_ERR_CNT).blkDone f n r 1 0))

/-- VIRTIO_BLK_FLUSH (R402). -/
def execVirtioBlkFlush (f n : Nat) (s : State) : Out :=
  .next (s.blk f n 4 (fun s r =>
    match s.blkRange f 0 0 with
    | some (ns, _, _) => s.stoSubmit (s.blkCmd f n r 0 ns 0 0)
    | none => s.blkDone f n r 1 0))

/-- VIRTIO_BLK_GET_ID: twenty bytes, whose content is free (R402). -/
def execVirtioBlkGetId (f n : Nat) (s : State) : Out :=
  .next (s.blk f n 8 (fun s r =>
    let d := (List.range 20).map (Config.stoByte 4 f)
    (s.vWrite (s.attOf f) r.room d).blkDone f n r 0 (min 20 ((r.room.map (·.len)).sum))))

/-- The ranges of a DISCARD or WRITE_ZEROES request: 16 bytes each, sector and number of sectors. -/
def blkRanges (l : List Byte) : List (Nat × Nat) := (List.range (l.length / 16)).map (fun i => (leAt l (16 * i) 8, leAt l (16 * i + 8) 4))

/-- VIRTIO_BLK_DISCARD: a deallocation of its ranges (R402). -/
def execVirtioBlkDiscard (f n : Nat) (s : State) : Out :=
  .next (s.blk f n 11 (fun s r =>
    let rs := blkRanges r.data
    let ok := rs.filterMap (fun x => s.blkRange f x.1 x.2)
    match ok with
    | (ns, _, _) :: _ =>
      if ok.length ≠ rs.length then (s.err R.STO_TENANT_ERR_CNT).blkDone f n r 1 0
      else s.stoSubmit { s.blkCmd f n r 9 ns 0 0 with payload := ok.flatMap (fun x => leBytes 0 4 ++ leBytes x.2.2 4 ++ leBytes x.2.1 8) }
    | [] => (s.err R.STO_TENANT_ERR_CNT).blkDone f n r 1 0))

/-- VIRTIO_BLK_WRITE_ZEROES: one range; more complete with IOERR (R402; log entry 46). -/
def execVirtioBlkWriteZeroes (f n : Nat) (s : State) : Out :=
  .next (s.blk f n 13 (fun s r =>
    match blkRanges r.data with
    | [x] =>
      match s.blkRange f x.1 x.2 with
      | some (ns, lba, k) =>
        if k = 0 then s.blkDone f n r 0 0 else s.stoSubmit (s.blkCmd f n r 8 ns lba k)
      | none => (s.err R.STO_TENANT_ERR_CNT).blkDone f n r 1 0
    | _ => s.blkDone f n r 1 0))

/-- VIRTIO_BLK_UNSUPPORTED: any other type completes with VIRTIO_BLK_S_UNSUPP (R402). -/
def execVirtioBlkUnsupported (f n : Nat) (s : State) : Out :=
  match s.blkNext f n with
  | some r =>
    if [0, 1, 4, 8, 11, 13].contains r.type then .next s
    else .next (((s.vqTake f 7 n r.chain).stat R.STO_CMD_CNT).blkDone f n r 2 0)
  | none => .next s

end Sys2Proof.Machine
end

