-- ==== Sys2Proof/Machine/Reads.lean ====
section
/-! DEFINITION. Machine/Reads.lean: host reads the device issues: bounds (R448), completions, timeouts and their one retry
(R449-R452), tags in quarantine (R451), the end of the queue that needed them (R493), and the queue states (R456, R493). -/

namespace Sys2Proof.Machine

open Sys2Proof

set_option cleanup.letToHave false

/-! Bounds -/

/-- Reads of an attachment outstanding. -/
def State.readsOn (s : State) (a : Nat) : List Read := s.reads.filter (fun r => r.att == a)

/-- The tag limit of an attachment (R448). -/
def State.tagLimit (s : State) (a : Nat) : Nat :=
  if s.rdB (F.HIF_LINK_STATUS_FLIT a) then 4096 else if (s.func (2 * a)).cfg.tag10 then 768 else 256

/-- Whether one more read keeps every bound (R448). -/
def State.readFits (s : State) (r : Read) : Bool :=
  let l := s.readsOn r.att
  decide (l.length < s.tagLimit r.att) && decide ((l.map (·.bytes)).sum + r.bytes ≤ 2 ^ 20)
    && decide ((l.filter (fun x => x.func == r.func)).length < (s.func r.func).readCap)

/-- The lowest tag of an attachment neither outstanding nor in quarantine (R451). -/
def State.newTagOn (s : State) (a : Nat) : Nat :=
  let used := (s.readsOn a).map (·.tag) ++ (s.quar.filter (fun q => q.att == a)).map (·.tag)
  go used 0 used.length
where
  /-- The first number from t on that is not used. -/
  go (used : List Nat) (t : Nat) : Nat → Nat
    | 0 => t
    | n + 1 => if used.contains t then go used (t + 1) n else t

/-- Whether the function may issue requests: link up, Bus Master Enable set, D0 (R24, R438, R456). -/
def State.mayRequest (s : State) (f : Nat) : Bool :=
  (s.func f).cfg.master && s.rdB (F.HIF_LINK_STATUS_DL_UP (s.attOf f)) && !(s.func f).resetting

/-- Put a read on the waiting list of its attachment. -/
def State.askRead (s : State) (f bytes : Nat) (why : ReadFor) : State :=
  { s with readWait := s.readWait ++ [{ att := s.attOf f, func := f, gen := (s.func f).gen, bytes := bytes, why := why }] }

/-- Issue a read under a new tag. -/
def State.issue (s : State) (r : Read) : State :=
  let r := { r with tag := s.newTagOn r.att, reps := if r.retried then r.reps else s.cnt (R.HIF_REPLAY_CNT r.att),
                    recs := if r.retried then r.recs else s.cnt (R.HIF_RECOVERY_CNT r.att) }
  { s with reads := s.reads ++ [r] }.emit (.readReq r.att r.tag r.func r.bytes)

/-- HOST_READ_ISSUE: the oldest waiting read of an attachment is issued when the bounds allow (R448). -/
def execHostReadIssue (a : Nat) (s : State) : Out :=
  match s.readWait.find? (fun r => r.att == a) with
  | none => .next s
  | some r =>
    if s.readFits r && s.mayRequest r.func then .next ({ s with readWait := s.readWait.erase r }.issue r) else .next s

/-! Queues (R493, R494) -/

/-- Whether a read belongs to a queue of a function. -/
def Read.ofQueue (r : Read) (f k q : Nat) : Bool :=
  r.func == f && (match r.why with
    | .entries k' q' _ => k' == k && q' == q
    | .tx k' q' _ => k' == k && q' == q
    | .rope _ _ => false)

/-- Release a reserved completion entry of the queue's completion ring. -/
def State.unreserve (s : State) (f cq n : Nat) : State :=
  s.updFunc f (fun x => { x with cqs := Map.upd x.cqs {} cq (fun r => { r with reserved := r.reserved - n }) })

/-- Entries the doorbell covers and that are not yet read are asked for (R446, R488). -/
def State.askEntries (s : State) (f k q : Nat) : State :=
  let x := s.que f k q
  if s.queRuns f k q ∧ x.got ≠ x.pi then s.askRead f (if k = 8 then 64 else 32) (.entries k q x.pi) else s

/-- The queue stops fetching: frames whose buffers are not all read, and everything behind them, will be taken again from the
ring; waiting reads are dropped (R456, R493). -/
def State.queueHalt (s : State) (f k q : Nat) (st : QState) : State :=
  let x := s.que f k q
  let keep := x.txPend.takeWhile (fun e => e.left == 0)
  let cut := x.txPend.drop keep.length
  let ci := match cut with
    | e :: _ => e.desc
    | [] => x.ci
  let s := s.updQue f k q (fun y => { y with st := st, ci := ci, got := ci, txPend := keep })
  let s := if k = 0 then s.unreserve f x.cq cut.length else s
  { s with readWait := s.readWait.filter (fun r => !r.ofQueue f k q),
           reads := s.reads.map (fun r => if r.ofQueue f k q then { r with discard := true, bmeDrop := r.bmeDrop || decide (st = .paused) } else r) }

/-- The queue is STOPPED: interrupt and QUEUE_STOPPED with KIND and reason 1 or 2 (R493, R505). -/
def State.queueStop (s : State) (f k q why : Nat) : State :=
  ((s.queueHalt f k q .stopped).raise F.QMG_INT_STATUS_QUEUE_STOPPED).event f 0x0010 q (k + why * 16) 0 0

/-- Whether a queue has reads outstanding. -/
def State.queueBusy (s : State) (f k q : Nat) : Bool := s.reads.any (fun r => r.ofQueue f k q)

/-! Transmit frames whose buffers are read (R501) -/

/-- Build the frame and give it to the parse cores; a virtio-net frame loses its header, and one that asks for an offload is
dropped and counted (R516). -/
def State.txEnter (s : State) (f k q : Nat) (e : TxPend) : State :=
  let d := e.segs.flatMap (fun x => s.hostRead (s.attOf f) x.1 x.2)
  let p : Pkt := { data := if k = 6 then d.drop 12 else d, txKind := k, txQueue := q, txDesc := e.desc, txStamp := e.tstamp,
                   txFn := f, txGen := (s.func f).gen, tls := e.hint.map (fun h => { recSeq := h.1, recTcp := h.2.1, noSend := h.2.2 }) }
  let p := (p.s Md.srcKind 1).s Md.srcFunc f
  if k = 6 ∧ (d.length ≤ 12 ∨ d.getD 0 0 ≠ 0 ∨ d.getD 1 0 ≠ 0) then s.err R.QMG_BAD_DB_CNT else s.toParse p

/-- The frames of a queue whose buffers have all been read enter the pipeline, in descriptor order. -/
def State.txEnterAll (s : State) (f k q : Nat) : List TxPend → State
  | [] => s
  | e :: t =>
    if e.entered then State.txEnterAll s f k q t
    else if e.left ≠ 0 then s
    else
      let s := s.updQue f k q (fun x => { x with txPend := x.txPend.map (fun y => if y.desc = e.desc then { y with entered := true } else y) })
      State.txEnterAll (if e.status = none then s.txEnter f k q e else s) f k q t

/-- One buffer read of a frame has ended well. -/
def State.txRead (s : State) (f k q desc : Nat) : State :=
  let s := s.updQue f k q (fun x => { x with txPend := x.txPend.map (fun y => if y.desc = desc then { y with left := y.left - 1 } else y) })
  s.txEnterAll f k q (s.que f k q).txPend

/-- A buffer read of a frame has failed: its completion says so and the queue stops (R499, R493). -/
def State.txReadFail (s : State) (f k q desc why : Nat) : State :=
  let s := s.updQue f k q (fun x => { x with txPend := x.txPend.map (fun y =>
    if y.desc = desc then { y with left := 0, status := some 2, entered := true } else y) })
  s.queueStop f k q why

end Sys2Proof.Machine
end

