-- ==== Sys2Proof/Machine/Doorbells.lean ====
section
/-! DEFINITION. Machine/Doorbells.lean: doorbells and their checks (R485-R488), SETUP (R489-R491), interrupt moderation (R504), and the
fetch of admin slots (R507-R511, R719). A doorbell is given as its QUEUE, INDEX, GEN and bits [63:44]; its command fixes
KIND. -/

namespace Sys2Proof.Machine

open Sys2Proof

set_option cleanup.letToHave false

/-! Checks -/

/-- A doorbell ignored and counted. -/
def State.badDb (s : State) : State := s.err R.QMG_BAD_DB_CNT

/-- The checks every doorbell meets (R24, R459, R475, R486): `there` whether the ring exists, `off` whether it is DISABLED, `inRange` whether
INDEX is in its range; `setup` admits GEN 0. -/
def State.doorbell (s : State) (f gen hi : Nat) (setup there off inRange : Bool) (k : State → State) : State :=
  let x := s.func f
  if ¬ s.barOpen f then s.barRefuse f false
  else if x.created = false then s.badDb
  else if gen ≠ x.gen ∧ ¬ (setup ∧ gen = 0) then s.err R.QMG_STALE_DB_CNT
  else if hi ≠ 0 ∨ ¬ there then s.badDb
  else if off ∨ ¬ inRange then s.badDb
  else k s

/-- A producer index in range (R487). -/
def prodOk (p c log2 : Nat) : Bool := decide ((p + 65536 - c) % 65536 < 2 ^ log2)

/-- A free-entry index in range (R487). -/
def freeOk (r : OutRing) (h : Nat) : Bool := decide ((r.wi + 65536 - h) % 65536 ≤ 2 ^ r.log2)

/-- A producer position of a packed ring in range: fewer than 2^log2 places ahead (R487, R518). -/
def packedOk (p c log2 : Nat) : Bool :=
  let o := p % 2 ^ 15
  let d := if p / 2 ^ 15 = c / 2 ^ 15 then o + 2 ^ 16 - c % 2 ^ 15 else o + 2 ^ 16 + 2 ^ log2 - c % 2 ^ 15
  decide (o < 2 ^ log2) && decide (2 ^ 16 ≤ d) && decide (d < 2 ^ 16 + 2 ^ log2)

/-- A producer doorbell of a queue: the index is recorded in any state but DISABLED, and a running queue reads what it covers. -/
def State.dbQueue (s : State) (f k q idx gen hi : Nat) : State :=
  let x := s.que f k q
  s.doorbell f gen hi false (s.hasQue f k q) (decide (x.st = .disabled))
    (if x.packed then packedOk idx x.ci x.log2 else prodOk idx x.ci x.log2)
    (fun s =>
      let s := s.updQue f k q (fun y => { y with pi := idx })
      if k = 0 then s else s.askEntries f k q)

/-- DB_TX_QUEUE (kind 0). -/
def execDbTxQueue (f q idx gen hi : Nat) (s : State) : Out := .next (s.dbQueue f 0 q idx gen hi)

/-- DB_RX_QUEUE (kind 1). -/
def execDbRxQueue (f q idx gen hi : Nat) (s : State) : Out := .next (s.dbQueue f 1 q idx gen hi)

/-- DB_VIRTIO_NET (kind 6, R518). -/
def execDbVirtioNet (f q idx gen hi : Nat) (s : State) : Out := .next (s.dbQueue f 6 q idx gen hi)

/-- DB_VIRTIO_BLK (kind 7, R518). -/
def execDbVirtioBlk (f q idx gen hi : Nat) (s : State) : Out := .next (s.dbQueue f 7 q idx gen hi)

/-- Entries returned: the read index moves on and the ring may send its message again (R487, R504). -/
def OutRing.returned (r : OutRing) (h : Nat) : OutRing := { r with hd := h, mod := { r.mod with armed := true } }

/-- DB_COMPLETION_RING (kind 2). -/
def execDbCompletionRing (f q idx gen hi : Nat) (s : State) : Out :=
  let x := s.func f
  let r := Map.get x.cqs {} q
  .next (s.doorbell f gen hi false (x.cqs.any (fun e => e.1 == q)) false (freeOk r idx)
    (fun s => (s.updFunc f (fun x => { x with cqs := Map.upd x.cqs {} q (fun r => r.returned idx) })).clearInt f r.mod.vec))

/-- EVENT_LOST is written when an entry is free again (R506). -/
def State.eventLost (s : State) (f : Nat) : State :=
  let x := s.func f
  if x.evtLost ≠ 0 ∧ x.evt.on ∧ x.evt.room ∧ x.cfg.master then
    (s.setFunc f { x with evtLost := 0 }).event f 0x00F0 0 (min x.evtLost 0xFFFFFFFF) 0 0
  else s

/-- DB_EVENT_RING (kind 3). -/
def execDbEventRing (f q idx gen hi : Nat) (s : State) : Out :=
  let x := s.func f
  .next (s.doorbell f gen hi false (x.evt.on && q == 0) false (freeOk x.evt idx)
    (fun s => ((s.updFunc f (fun x => { x with evt := x.evt.returned idx })).clearInt f x.evt.mod.vec).eventLost f))

/-- DB_ADMIN_SLOT (kind 4); a ring stopped by a failed slot read fetches again (R719). -/
def execDbAdminSlot (f q idx gen hi : Nat) (s : State) : Out :=
  let x := s.func f
  .next (s.doorbell f gen hi false (x.adminEn && q == 0) false (prodOk idx x.adm.ci x.adm.log2)
    (fun s => s.updFunc f (fun x => { x with adm := { x.adm with pi := idx }, slotStop := false })))

/-- DB_ADMIN_COMPLETION (kind 5). -/
def execDbAdminCompletion (f q idx gen hi : Nat) (s : State) : Out :=
  let x := s.func f
  .next (s.doorbell f gen hi false (x.admCpl.on && q == 0) false (freeOk x.admCpl idx)
    (fun s => (s.updFunc f (fun x => { x with admCpl := x.admCpl.returned idx })).clearInt f x.admCpl.mod.vec))

/-- DB_NVME_SQ_TAIL (kind 8): a tail beyond the queue is ignored, and the tenant learns of it by an asynchronous event (R427, R486). -/
def execDbNvmeSqTail (f q idx gen hi : Nat) (s : State) : Out :=
  let x := s.que f 8 q
  let wrong := s.barOpen f && (s.func f).created && gen == (s.func f).gen && hi == 0 && s.hasQue f 8 q
    && decide (x.st ≠ .disabled) && decide (x.size ≤ idx)
  let s := s.doorbell f gen hi false (s.hasQue f 8 q) (decide (x.st = .disabled)) (decide (idx < x.size))
    (fun s => (s.updQue f 8 q (fun y => { y with pi := idx })).askEntries f 8 q)
  .next (if wrong then (s.err R.STO_TENANT_ERR_CNT).nvmeEvent f 0x10100 else s)

/-- Completion entries that waited for room are placed as far as there is room. -/
def State.cqFlush (s : State) (f q : Nat) : Nat → State
  | 0 => s
  | n + 1 =>
    match s.ctrlOf f with
    | some (c, x) =>
      match x.hold.find? (fun e => e.1 == q) with
      | some e =>
        if (s.que f 9 q).cqRoom then State.cqFlush ((s.setCtrl c { x with hold := x.hold.erase e }).cqPut f q e.2) f q n else s
      | none => s
    | none => s

/-- DB_NVME_CQ_HEAD (kind 9): the head moves on, within the entries written (R485, R486). -/
def execDbNvmeCqHead (f q idx gen hi : Nat) (s : State) : Out :=
  let x := s.que f 9 q
  let wrong := s.barOpen f && (s.func f).created && gen == (s.func f).gen && hi == 0 && s.hasQue f 9 q
    && decide (x.size ≤ idx)
  let ahead := (idx + x.size - x.cqHead) % max 1 x.size ≤ (x.used + x.size - x.cqHead) % max 1 x.size
  let s := s.doorbell f gen hi false (s.hasQue f 9 q) false (decide (idx < x.size) && decide ahead)
    (fun s => ((s.updQue f 9 q (fun y => { y with cqHead := idx })).clearInt f x.vec).cqFlush f q x.size)
  .next (if wrong then (s.err R.STO_TENANT_ERR_CNT).nvmeEvent f 0x10100 else s)

/-! SETUP (R489-R491) -/

/-- The results of IDENTIFY_FUNCTION (R512). -/
def State.identity (s : State) (f : Nat) : AdmResult :=
  let x := s.func f
  { r0 := f % 4096 + x.gen * 2 ^ 12 + s.attOf f * 2 ^ 24 + b2n (isMgmt f) * 2 ^ 26,
    r1 := x.qpAllot + x.vecAllot * 2 ^ 16 + x.share * 2 ^ 32, r2 := x.tmFirst + x.tmCount * 2 ^ 16 }

/-- SETUP_ITEM: items 0 to 16 take their 16 bits while the admin ring is disabled (R489, R490). -/
def execSetupItem (f item value gen hi : Nat) (s : State) : Out :=
  .next (s.doorbell f gen hi true true false true (fun s =>
    if (s.func f).adminEn ∨ 16 < item then s.err R.QMG_SETUP_ERR_CNT
    else s.updFunc f (fun x => { x with setup := Map.set x.setup 0 item value })))

/-- A 64-bit base from four items. -/
def Func.setupBase (x : Func) (i : Nat) : Nat :=
  let g := fun k => Map.get x.setup 0 (i + k)
  g 0 + g 1 * 2 ^ 16 + g 2 * 2 ^ 32 + g 3 * 2 ^ 48

/-- Whether the items admit ENABLE (R490). -/
def Func.setupOk (x : Func) : Bool :=
  let g := fun k => Map.get x.setup 0 k
  let size := fun k (n : Nat) => decide (6 ≤ g k % 32) && decide (g k % 32 ≤ n)
  [0, 4, 8].all (fun i => x.setupBase i % 4096 == 0) && size 12 12 && size 13 12 && size 14 16
    && decide (g 15 % 2048 < x.vecTable) && decide (g 16 % 2048 < x.vecTable)

/-- SETUP_ENABLE: item 17 enables the three rings, or is refused; READY goes into admin completion slot 0 (R490, R491). -/
def execSetupEnable (f value gen hi : Nat) (s : State) : Out :=
  .next (s.doorbell f gen hi true true false true (fun s =>
    let x := s.func f
    let g := fun k => Map.get x.setup 0 k
    if x.adminEn then s.err R.QMG_SETUP_ERR_CNT
    else if value % 2 = 0 then s
    else if ¬ x.setupOk then (s.err R.QMG_SETUP_ERR_CNT).raise F.QMG_INT_STATUS_SETUP_ERR
    else
      let adm : Queue := { st := .enabled, base := x.setupBase 0, log2 := g 12 % 32 }
      let cpl : OutRing := { on := true, base := x.setupBase 4, log2 := g 13 % 32, mod := { vec := g 15 % 2048 } }
      let evt : OutRing := { on := true, base := x.setupBase 8, log2 := g 14 % 32, mod := { vec := g 16 % 2048 } }
      let s := s.setFunc f { x with adminEn := true, adm := adm, admCpl := cpl, evt := evt }
      let r := s.identity f
      s.admEntry f 0xFFFF r.r0 r.r1 r.r2))

/-! Interrupt moderation (R504) -/

/-- The ring at a drip boundary: whether its message is due, and the ring after it. -/
def OutRing.tick (r : OutRing) : Bool × OutRing :=
  let m := r.mod
  if r.on && decide (0 < m.since) && m.armed && m.intEn && (decide (m.count ≤ m.since) || decide (m.drips ≤ m.age)) then
    (true, { r with mod := { m with since := 0, age := 0, armed := false } })
  else (false, { r with mod := { m with age := if m.since = 0 then 0 else m.age + 1 } })

/-- Moderation of the rings of a function at a drip boundary. -/
def State.moderate (s : State) (f : Nat) : State :=
  let x := s.func f
  let cs := x.cqs.map (fun e => (e.1, e.2.tick))
  let (a1, a) := x.admCpl.tick
  let (e1, e) := x.evt.tick
  let s := s.setFunc f { x with cqs := cs.map (fun c => (c.1, c.2.2)), admCpl := a, evt := e }
  let s := s.each cs (fun t c => if c.2.1 then t.sendInt f c.2.2.mod.vec else t)
  let s := if a1 then s.sendInt f a.mod.vec else s
  if e1 then s.sendInt f e.mod.vec else s

/-! The admin queue (R510, R511) -/

/-- The commands of R512: marked M alone, or F. -/
def cmdM (op : Nat) : Option Bool :=
  if [0x02, 0x03, 0x04, 0x20, 0x21, 0x22, 0x23, 0x28, 0x29, 0x2A, 0x32, 0x33, 0x38, 0x39, 0x3A, 0x3B, 0x3C, 0x3D, 0x40, 0x41, 0x42,
      0x43].contains op then some true
  else if [0x01, 0x05, 0x06, 0x07, 0x08, 0x09, 0x0A, 0x0B, 0x0C, 0x30, 0x31, 0x34].contains op then some false
  else none

/-- ADMIN_SLOT_FETCH: the next slot is read once the previous command has completed and a completion entry is free; its command starts,
or fails steps 1 and 2 of R510. `slotRead` and `opRead` say how the reads of the slot and of a structure its ADDR names end: 0
answered, 1 failed twice, 2 UR or CA (R511, R719). -/
def execAdminSlotFetch (f slotRead opRead : Nat) (s : State) : Out :=
  let x := s.func f
  if x.adminEn ∧ s.mayRequest f ∧ x.cur = none ∧ ¬ x.slotStop ∧ x.adm.ci ≠ x.adm.pi ∧ x.admCpl.room
      ∧ ¬ s.held.any (fun h => h.1 == f) then
    if slotRead ≠ 0 then
      let (k, s) := if slotRead = 1 then s.newCorr else (0, s)
      let s := s.readFailed f 0 (slotRead != 1) k (if slotRead = 1 then 1 else 3) 0 0 none
      let s := s.updFunc f (fun x => { x with slotStop := true })
      .next ((s.raise F.QMG_INT_STATUS_QUEUE_STOPPED).event f 0x0010 0 (4 + min slotRead 2 * 16) 0 0)
    else
      let i := x.adm.ci % 2 ^ x.adm.log2
      let c : AdmCmd := { slot := i, bytes := s.hostRead (s.attOf f) (x.adm.base + 128 * i) 128, opRead := opRead }
      let s := s.setFunc f { x with cur := some c, adm := { x.adm with ci := (x.adm.ci + 1) % 65536 } }
      match cmdM c.op with
      | none => .next (s.admDone f stBadOpcode)
      | some m =>
        if ¬ (isMgmt f ∨ (m = false ∧ c.target = f)) then .next (s.admDone f stNotPermitted)
        else if m then .next { s with adminOrder := s.adminOrder ++ [f] }
        else .next s
  else .next s

end Sys2Proof.Machine
end

