-- ==== Sys2Proof/Machine/Session.lean ====
section
/-! DEFINITION. Machine/Session.lean: crypto session contexts (R372) and what becomes of a packet that names a session at
points P1, P2 and P3 (R364-R366). -/

namespace Sys2Proof.Machine

open Sys2Proof

set_option cleanup.letToHave false

/-- Bytes 0x00-0x7F of a session context as a number. -/
def State.ctx (s : State) (n : Nat) : Nat := Map.get s.cry.ctx 0 n

/-- Set a session context. -/
def State.setCtx (s : State) (n v : Nat) : State := { s with cry := { s.cry with ctx := Map.set s.cry.ctx 0 n v } }

/-- Fields of a context: lowest bit, counted from byte 0x00, and width (R372). -/
abbrev Cx.valid : Nat × Nat := (0, 1)
abbrev Cx.keyValid : Nat × Nat := (1, 1)
abbrev Cx.kind : Nat × Nat := (2, 3)
abbrev Cx.cipher : Nat × Nat := (5, 1)
abbrev Cx.ext : Nat × Nat := (6, 1)
abbrev Cx.tunnel : Nat × Nat := (7, 1)
abbrev Cx.natt : Nat × Nat := (8, 1)
abbrev Cx.outerV6 : Nat × Nat := (9, 1)
abbrev Cx.recirc : Nat × Nat := (10, 1)
abbrev Cx.exhausted : Nat × Nat := (11, 1)
abbrev Cx.softHit : Nat × Nat := (12, 1)
abbrev Cx.failed : Nat × Nat := (13, 1)
abbrev Cx.owner : Nat × Nat := (16, 12)
abbrev Cx.ownerGen : Nat × Nat := (28, 12)
abbrev Cx.window : Nat × Nat := (40, 13)
abbrev Cx.spi : Nat × Nat := (64, 32)
abbrev Cx.salt : Nat × Nat := (96, 32)
abbrev Cx.seq : Nat × Nat := (128, 64)
abbrev Cx.seqSoft : Nat × Nat := (192, 64)
abbrev Cx.bytes : Nat × Nat := (256, 64)
abbrev Cx.pkts : Nat × Nat := (320, 64)
abbrev Cx.bytesHard : Nat × Nat := (384, 64)
abbrev Cx.authFail : Nat × Nat := (448, 32)
abbrev Cx.replay : Nat × Nat := (480, 32)
abbrev Cx.selSrc : Nat × Nat := (512, 128)
abbrev Cx.selDst : Nat × Nat := (640, 128)
abbrev Cx.srcPlen : Nat × Nat := (768, 8)
abbrev Cx.dstPlen : Nat × Nat := (776, 8)
abbrev Cx.selEn : Nat × Nat := (784, 1)
abbrev Cx.nattSport : Nat × Nat := (832, 16)
abbrev Cx.nattDport : Nat × Nat := (848, 16)
abbrev Cx.xpnSalt : Nat × Nat := (512, 96)
abbrev Cx.nextTcp : Nat × Nat := (512, 32)
abbrev Cx.recOff : Nat × Nat := (544, 32)
abbrev Cx.recSeq : Nat × Nat := (576, 64)
abbrev Cx.rxState : Nat × Nat := (640, 2)
abbrev Cx.resyncTcp : Nat × Nat := (672, 32)

/-- Session kinds. -/
abbrev kEspIn : Nat := 1
abbrev kEspOut : Nat := 2
abbrev kMacsecRx : Nat := 3
abbrev kMacsecTx : Nat := 4
abbrev kTlsRx : Nat := 5
abbrev kTlsTx : Nat := 6

/-- A field of a session. -/
def State.cx (s : State) (n : Nat) (f : Nat × Nat) : Nat := bitsOf (s.ctx n) f.1 f.2

/-- A session with a field set. -/
def State.setCx (s : State) (n : Nat) (f : Nat × Nat) (v : Nat) : State := s.setCtx n (putBits (s.ctx n) f.1 f.2 v)

/-- What the crypto unit does with a packet that names a session. -/
inductive CryGate where
  | pass
  | wait
  | drop (counter : Nat)
  deriving DecidableEq, Repr

/-- Whether R366 lets a session act on a packet. -/
def State.ownerOk (s : State) (p : Pkt) (n : Nat) : Bool :=
  let o := s.cx n Cx.owner
  let k := s.cx n Cx.kind
  if o = 0xFFF then true
  else if k = kEspIn ∨ k = kTlsRx then p.g Md.destKind == 1 && p.g Md.destFunc == o
  else p.g Md.srcKind == 1 && p.g Md.srcFunc == o

/-- The fate of a packet at point 1, 2 or 3 (R364-R366). -/
def State.cryGate (s : State) (p : Pkt) (point : Nat) : CryGate :=
  if p.g Md.cryptoEn = 0 ∨ p.sessions.contains (p.g Md.cryptoSession) then .pass
  else
    let n := p.g Md.cryptoSession
    let k := s.cx n Cx.kind
    if s.cx n Cx.valid = 0 then .drop R.CRY_NO_SESSION_CNT
    else if k = kMacsecRx ∨ k = kMacsecTx then .drop R.CRY_KIND_CNT
    else if (k = kEspIn ∨ k = kTlsRx) ↔ point = 1 then
      if s.ownerOk p n then .wait else .drop R.CRY_OWNER_CNT
    else .pass

end Sys2Proof.Machine
end

