-- ==== Sys2Proof/Machine/Roce.lean ====
section
/-! DEFINITION. Machine/Roce.lean: RoCEv2 queue pairs of back-end paths and tenants: requests, acknowledgements, congestion
notification and rates (R414, R423-R427). Header layouts and opcodes are the InfiniBand specification's (PRESUMED, log
entry 45). -/

namespace Sys2Proof.Machine

open Sys2Proof

set_option cleanup.letToHave false

/-- Send a packet of a queue pair at once, outside its rate: an acknowledgement, a NAK, a response or a CNP. -/
def State.qpReply (s : State) (q : Nat) (l : List Byte) : State :=
  let x := s.qp q
  s.stoSend (65536 + q) x.port x.tmQueue x.tc (withIcrc l)

/-- An acknowledgement packet with a syndrome. -/
def State.qpAck (s : State) (q psn syn : Nat) : State :=
  s.qpReply q (bth 17 (s.qp q).dqpn psn false ++ [BitVec.ofNat 8 syn] ++ beBytes (s.qp q).msn 3)

/-- ECN of an IP header. -/
def ecn (l : List Byte) (o : Nat) (v6 : Bool) : Nat :=
  if v6 then (l.getD (o + 1) 0).toNat / 16 % 4 else (l.getD (o + 1) 0).toNat % 4

/-- A packet with congestion experienced makes the queue pair send a CNP, at most one in CNP_DRIPS drips (R424). -/
def State.cnpTx (s : State) (q : Nat) : State :=
  let x := s.qp q
  let ok := match x.cnpSent with
    | some d => decide (d + s.rd F.STO_RC_CFG_CNP_DRIPS ≤ s.fst.drip)
    | none => true
  if ok then
    ((s.setQp q { x with cnpSent := some s.fst.drip }).qpReply q (bth 0x81 x.dqpn 0 false ++ List.replicate 16 0)).stat R.STO_CNP_TX_CNT
  else s

/-- A violation of R427: counted and answered with a NAK. -/
def State.qpNak (s : State) (q syn : Nat) : State := (s.err R.STO_ROCE_NAK_CNT).qpAck q (s.qp q).epsn syn

/-- An invalid key or an access out of bounds: NAK Remote Access Error, and the queue pair goes to error (R427); a back-end queue
pair is lost (R416). -/
def State.qpAccess (s : State) (q : Nat) : State :=
  let s := s.qpNak q 0x62
  let s := s.setQp q { s.qp q with error := true }
  if (s.qp q).conn.isSome then s.connLost (65536 + q) else s

/-- The region a key admits for a range. -/
def Qp.region (x : Qp) (key va len : Nat) : Option Region :=
  x.regions.find? (fun r => r.key == key && decide (r.base ≤ va) && decide (va + len ≤ r.base + r.len))

/-- Write bytes at an address of a region: staging in HBM, or host memory. -/
def State.regionWrite (s : State) (r : Region) (va : Nat) (d : List Byte) : State :=
  if r.staging then
    { s with sto := { s.sto with staging := Map.upd s.sto.staging [] r.att (fun l => putAt l va d) } }
  else s.hostWrite r.att va d

/-- Read bytes at an address of a region. -/
def State.regionRead (s : State) (r : Region) (va len : Nat) : List Byte :=
  if r.staging then ((Map.get s.sto.staging [] r.att).drop va).take len else s.hostRead r.att va len

/-- Responses to an RDMA READ, one packet for each path MTU. -/
def State.readResp (s : State) (q psn : Nat) (l : List Byte) : State :=
  let x := s.qp q
  let ps := if l = [] then [[]] else pieces (max 1 x.mtu) l l.length
  s.each ps.zipIdx (fun t e =>
    let one := ps.length = 1
    let op := if one then 16 else if e.2 = 0 then 13 else if e.2 + 1 = ps.length then 15 else 14
    let aeth := if op = 14 then [] else [0] ++ beBytes x.msn 3
    t.qpReply q (bth op x.dqpn ((psn + e.2) % 2 ^ 24) false ++ aeth ++ e.1))

/-- A message is complete at the receiver: a back-end queue pair's capsule is a completion, a tenant's message waits for it with
its immediate data. -/
def State.qpMessage (s : State) (q : Nat) (l : List Byte) (imm : Option Nat) : State :=
  let x := s.qp q
  if x.conn.isSome then
    let c := s.stoConn (65536 + q)
    s.setConn (65536 + q) { c with inbox := c.inbox ++ [l] }
  else s.setQp q { x with inbox := x.inbox ++ [(l, imm)] }

/-- One request packet with the expected PSN: opcode, bytes after the BTH without pad and ICRC (R423). -/
def State.qpRequest (s : State) (q op psn : Nat) (b : List Byte) (ack : Bool) : State :=
  let x := s.qp q
  let next := (psn + 1) % 2 ^ 24
  let adv := fun (t : State) (n : Nat) => t.setQp q { t.qp q with epsn := n, gap := false }
  let done := fun (t : State) => if ack then t.qpAck q psn 0 else t
  let last := fun (t : State) => t.setQp q { t.qp q with msn := ((t.qp q).msn + 1) % 2 ^ 24 }
  let send := op ≤ 5
  if send then
    let hasImm := op = 3 ∨ op = 5
    let d := if hasImm then b.drop 4 else b
    let got := (if op = 0 ∨ op = 4 ∨ op = 5 then [] else x.got) ++ d
    let s := adv (s.setQp q { x with got := got }) next
    if op = 0 ∨ op = 1 then done s
    else
      let s := last (s.setQp q { s.qp q with got := [] })
      done (s.qpMessage q got (if hasImm then some (beNat (b.take 4)) else none))
  else if op ≤ 11 then
    let first := op = 6 ∨ op = 10 ∨ op = 11
    let va := beNat (b.take 8)
    let key := beNat ((b.drop 8).take 4)
    let len := beNat ((b.drop 12).take 4)
    let dest := if first then some (key, va, len) else x.into
    let rest := if first then b.drop 16 else b
    let hasImm := op = 9 ∨ op = 11
    let d := if hasImm then rest.drop 4 else rest
    match dest with
    | none => s.qpNak q 0x61
    | some (key, va, left) =>
      match x.region key va (max left d.length) with
      | none => s.qpAccess q
      | some r =>
        if left < d.length then s.qpAccess q
        else
          let s := (adv s next).regionWrite r va d
          let s := s.setQp q { s.qp q with into := some (key, va + d.length, left - d.length) }
          if op = 6 ∨ op = 7 then done s
          else
            let s := last (s.setQp q { s.qp q with into := none })
            done (if hasImm then s.qpMessage q [] (some (beNat (rest.take 4))) else s)
  else
    let va := beNat (b.take 8)
    let len := beNat ((b.drop 12).take 4)
    match x.region (beNat ((b.drop 8).take 4)) va len with
    | none => s.qpAccess q
    | some r =>
      let n := max 1 ((len + x.mtu - 1) / max 1 x.mtu)
      (last (adv s ((psn + n) % 2 ^ 24))).readResp q psn (s.regionRead r va len)

/-- Go back: every packet not yet acknowledged is sent again (R423). -/
def State.goBack (s : State) (q : Nat) : State :=
  s.each (s.qp q).unacked (fun t e => t.qpEmit q e.2)

/-- The queue pair is lost: a tenant's goes to error, a back-end path loses its connection (R416). -/
def State.qpLost (s : State) (q : Nat) : State :=
  if (s.qp q).conn.isSome then
    let s := s.connLost (65536 + q)
    s.setQp q { s.qp q with unacked := [], waiting := [], retries := 0 }
  else s.setQp q { s.qp q with error := true }

/-- An acknowledgement arrives at the requester. -/
def State.qpAcked (s : State) (q psn syn : Nat) : State :=
  let x := s.qp q
  let upTo := fun (n : Nat) => x.unacked.filter (fun e => !decide ((n + 2 ^ 24 - e.1) % 2 ^ 24 < 2 ^ 23))
  if syn / 32 % 4 = 0 then s.setQp q { x with unacked := upTo psn, retries := 0, rnrs := 0 }
  else if syn / 32 % 4 = 1 then
    if x.rnrRetry = 7 ∨ x.rnrs < x.rnrRetry then
      (s.setQp q { x with unacked := upTo ((psn + 2 ^ 24 - 1) % 2 ^ 24), rnrs := x.rnrs + 1 }).goBack q
    else s.qpLost q
  else if syn % 32 = 0 then
    if x.retries < x.retryCnt then
      (s.setQp q { x with unacked := upTo ((psn + 2 ^ 24 - 1) % 2 ^ 24), retries := x.retries + 1 }).goBack q
    else s.qpLost q
  else s.qpLost q

/-- ROCE_PACKET_RX: the oldest packet handed to the unit, when it is a queue pair's and no CNP, is processed, dropped or NAKed
(R414, R423, R424, R427). -/
def execRocePacketRx (s : State) : Out :=
  let op := fun (p : Pkt) => match bthAt p.data with
    | some (_, _, b, _) => (p.data.getD b 0).toNat
    | none => 0
  match s.stoTake 2 (fun p => op p ≠ 0x81) with
  | (none, s) => .next s
  | (some p, s) =>
    match bthAt p.data with
    | none => .next s
    | some (o, v6, b, stop) =>
      let q := p.stoIndex
      let l := p.data.take stop
      if leNat (l.drop (stop - 4)) ≠ (Config.icrc ((l.take (stop - 4)).drop o)).toNat then .next (s.err R.STO_ICRC_CNT)
      else
        let s := if ecn l o v6 = 3 then s.cnpTx q else s
        let op := op p
        let x := s.qp q
        let psn := beNat ((l.drop (b + 9)).take 3)
        let pad := (l.getD (b + 1) 0).toNat / 16 % 4
        let body := (l.take (stop - 4 - pad)).drop (b + 12)
        if x.error then .next s
        else if x.ud then
          if op = 0x64 then .next (s.qpMessage q (body.drop 8) none)
          else if op = 0x65 then .next (s.qpMessage q (body.drop 12) (some (beNat ((body.drop 8).take 4))))
          else .next (s.err R.STO_ROCE_NAK_CNT)
        else if op = 17 then .next (s.qpAcked q psn (body.getD 0 0).toNat)
        else if 13 ≤ op ∧ op ≤ 16 then .next (s.qpAcked q psn 0)
        else if psn ≠ x.epsn then
          if (psn + 2 ^ 24 - x.epsn) % 2 ^ 24 < 2 ^ 23 then
            let s' := s.setQp q { x with gap := true }
            .next (if x.gap then s.err R.STO_ROCE_NAK_CNT else s'.qpNak q 0x60)
          else .next (s.qpAck q ((x.epsn + 2 ^ 24 - 1) % 2 ^ 24) 0)
        else if op ≤ 12 then .next (s.qpRequest q op psn body ((l.getD (b + 8) 0).toNat / 128 = 1))
        else .next (s.qpNak q 0x61)

/-- ROCE_ACK_TIMEOUT: go-back-N, or, the retries spent, the queue pair is lost (R416, R423). -/
def execRoceAckTimeout (q : Nat) (s : State) : Out :=
  let x := s.qp q
  if x.unacked = [] then .next s
  else if x.retries < x.retryCnt then .next ((s.setQp q { x with retries := x.retries + 1 }).goBack q)
  else .next (s.qpLost q)

/-- CNP_RX: a received CNP raises alpha and may cut the rate (R425). -/
def execCnpRx (s : State) : Out :=
  let isCnp := fun (p : Pkt) => match bthAt p.data with
    | some (_, _, b, _) => p.data.getD b 0 == 0x81
    | none => false
  match s.stoTake 2 isCnp with
  | (none, s) => .next s
  | (some p, s) =>
    let q := p.stoIndex
    let x := s.qp q
    let s := s.stat R.STO_CNP_RX_CNT
    let d := s.fst.drip
    let x := { x with alpha := x.alpha + (1024 - x.alpha) / 16, lastCnp := d }
    let x := if s.rd F.STO_RC_CFG_CUT_DRIPS ≤ d - x.lastCut then
        { x with target := x.rate, rate := max (x.rate - x.rate * x.alpha / 2048) (s.rd F.STO_RC_CFG_MIN_RATE), lastCut := d, stage := 0 }
      else x
    .next (s.setQp q x)

/-- RATE_INCREASE_PERIOD: INC_DRIPS drips without a CNP lower alpha and raise the rate (R425). -/
def execRateIncreasePeriod (q : Nat) (s : State) : Out :=
  let x := s.qp q
  if x.valid ∧ x.lastCnp + s.rd F.STO_RC_CFG_INC_DRIPS ≤ s.fst.drip then
    let x := { x with alpha := x.alpha - x.alpha / 16, lastCnp := s.fst.drip }
    let x := if x.stage < 5 then { x with stage := x.stage + 1 }
      else { x with target := min (x.target + s.rd F.STO_RC_CFG_AI_RATE) (1000 * s.portRate x.port) }
    .next (s.setQp q { x with rate := (x.rate + x.target) / 2 })
  else .next s

/-- Send what waits for a queue pair's rate, as far as its tokens go. -/
def State.qpDrain (s : State) (q : Nat) : Nat → State
  | 0 => s
  | n + 1 =>
    let x := s.qp q
    match x.waiting with
    | l :: t => if 0 < x.tokens then State.qpDrain ((s.setQp q { x with waiting := t }).qpEmit q l) q n else s
    | [] => s

/-- Drip boundary: the token buckets are refilled, a drip being 256 ns, and what waited is sent (R425). -/
def State.qpRefill (s : State) : State :=
  s.each (s.sto.qps.map (·.1)) (fun t q =>
    let x := t.qp q
    (t.setQp q { x with tokens := min (x.tokens + ((x.rate * 256 : Nat) : Int)) ((Config.rateBucket q : Nat) : Int) }).qpDrain q x.waiting.length)

/-- QP_MODIFY: a tenant's request sets a queue pair's attributes; UC and XRC are rejected by RDMA CM, a path MTU that is not one of
R423 completes with BAD_FIELD. -/
def execQpModify (q : Nat) (a : QpAttr) (s : State) : Out :=
  if 2 ≤ a.svc then .next (s.emit (.qpDone q 0x100))
  else if ¬ (a.mtu = 1024 ∨ a.mtu = 2048 ∨ a.mtu = 4096) ∨ 7 < a.retryCnt ∨ 7 < a.rnrRetry then .next (s.emit (.qpDone q stBadField))
  else if (s.qp q).conn.isSome ∨ (s.func a.fn).created = false then .next (s.emit (.qpDone q stNotPermitted))
  else
    let r := 1000 * s.portRate a.port
    let rs : List Region := a.regions.map (fun x => ⟨x.1, false, s.attOf a.fn, x.2.1, x.2.2⟩)
    let x := { s.qp q with valid := true, error := false, ud := a.svc == 1, owner := some a.fn, port := a.port, v6 := a.v6 }
    let x := { x with peer := a.peer, mtu := a.mtu, retryCnt := a.retryCnt, rnrRetry := a.rnrRetry, ackTo := a.ackTo }
    let x := { x with dqpn := a.dqpn, snd := a.psn, epsn := a.epsn, rate := r, target := r, tmQueue := a.tmQueue, tc := a.tc }
    .next ((s.setQp q { x with regions := rs }).emit (.qpDone q stSuccess))

end Sys2Proof.Machine
end

