-- ==== Sys2Proof/Machine/StoAdmin.lean ====
section
/-! DEFINITION. Machine/StoAdmin.lean: admin commands of controllers, namespaces and paths (R394-R396, R428, R512), timeouts of
paths (R416, R417), the context port (R429), and what a function reset does to the storage unit (R426). -/

namespace Sys2Proof.Machine

open Sys2Proof

set_option cleanup.letToHave false

/-! Timeouts (R416, R417) -/

/-- The transport retry budget of a path in ns (R416). -/
def State.tTr (s : State) (p : Nat) : Nat :=
  if s.pf p 1 1 = 1 then (s.pf p 288 3 + 1) * 4096 * 2 ^ s.pf p 291 5
  else
    let rmin := s.rd F.STO_TCP_CFG_RTO_MIN
    let rmax := s.rd F.STO_TCP_CFG_RTO_MAX
    ((List.range (s.rd F.STO_TCP_CFG_RETRIES + 1)).map (fun k => min (rmin * 2 ^ k) rmax)).sum * 100000

/-- BE_TIMEOUT_EFF of a path (R417). -/
def State.setEff (s : State) (p : Nat) : State :=
  s.setPf p 96 32 (max (s.pf p 64 32) ((s.tTr p + 10000000 + 999999) / 1000000))

/-- A write of STO_TCP_CFG: every path's BE_TIMEOUT_EFF is computed again (R417). -/
def State.stoTcpCfg (s : State) (v : Word) : State :=
  let s := s.setReg R.STO_TCP_CFG (BitVec.ofNat 64 (v.toNat % 2 ^ 36))
  s.each (s.sto.paths.map (·.1)) (fun t p => t.setEff p)

def execStoTcpCfgWrite (v : Word) (s : State) : Out := .next (s.stoTcpCfg v)

/-! The context port (R429) -/

/-- A GO: 32 bytes of a context stand in STO_CTX_DATA; the layout of connection and queue-pair contexts is open (log entry 5). -/
def State.stoCtxRead (s : State) (a table index part : Nat) : State :=
  let s := ((s.wr (F.STO_CTX_CTRL_TABLE a) table).wr (F.STO_CTX_CTRL_INDEX a) index).wr (F.STO_CTX_CTRL_PART a) part
  let top := ([16384, 4096, 65536, 1048576] : List Nat).getD (table % 4) 0
  if top ≤ index then s.wrB (F.STO_CTX_CTRL_ERR a) true
  else
    let s := s.wrB (F.STO_CTX_CTRL_ERR a) false
    let v := if table % 4 = 0 then Map.get s.sto.ns 0 index else Map.get s.sto.paths 0 index
    s.each (List.range 4) (fun t i =>
      if table % 4 ≤ 1 then t.setReg (R.STO_CTX_DATA a i) (BitVec.ofNat 64 (v / 2 ^ (256 * part + 64 * i)))
      else
        let (x, t) := t.fresh
        t.setReg (R.STO_CTX_DATA a i) (BitVec.ofNat 64 x))

def execStoContextRead (a table index part : Nat) (s : State) : Out := .next (s.stoCtxRead a table index part)

/-! Controllers (R395) -/

/-- Whether a controller exists. -/
def State.hasCtrl (s : State) (n : Nat) : Bool := (Map.get s.sto.ctrls none n).isSome

/-- CTRL_CREATE: owner is TARGET, a created bulk PF or VF, which owns at most one controller. -/
def execCtrlCreate (f : Nat) (s : State) : Out :=
  .next (s.admRun f 0x38 true [0x107FF] (fun _ => true) (fun s c =>
    let n := bitsOf (c.word 8) 0 11
    if isMgmt c.target ∨ (s.func c.target).created = false then s.admDone f stBadField
    else if s.hasCtrl n ∨ (s.ctrlOf c.target).isSome then s.admDone f stBusy
    else (s.setCtrl n { kind := bitsOf (c.word 8) 16 1, owner := c.target }).admDone f stSuccess))

/-- CTRL_DESTROY: refused while a namespace or a queue of it exists. -/
def execCtrlDestroy (f : Nat) (s : State) : Out :=
  .next (s.admRun f 0x39 true [0x7FF] (fun _ => true) (fun s c =>
    let n := bitsOf (c.word 8) 0 11
    match Map.get s.sto.ctrls none n with
    | none => s.admDone f stBadField
    | some x =>
      let qs := (s.func x.owner).queues.any (fun e => decide (7 * 4096 ≤ e.1))
      if s.sto.ns.any (fun e => bitOf e.2 0 && bitsOf e.2 64 11 == n) ∨ qs then s.admDone f stBusy
      else { s with sto := { s.sto with ctrls := Map.set s.sto.ctrls none n none } }.admDone f stSuccess))

/-! Namespaces (R396, R428) -/

/-- Whether a number of 64 bytes has only bits of the masks of its eight words. -/
def onlyBits (x : Nat) (masks : List Nat) : Bool :=
  (List.range 8).all (fun i => bitsOf x (64 * i) 64 &&& masks.getD i 0 == bitsOf x (64 * i) 64)

/-- Bits a namespace context uses (R428). -/
def nsMasks : List Nat := [0xFFFFFF00FF, 0xFFF001F07FF, 0xFFFFFFFF, 2 ^ 64 - 1, 2 ^ 64 - 1]

/-- Bits a path context uses (R428). -/
def pathMasks : List Nat :=
  [0x1FFF007F01FF, 2 ^ 64 - 1, 2 ^ 64 - 1, 2 ^ 64 - 1, 0xFFFFFFFFFF, 0xFFFFFFFF0000FFFF, 0, 0]

/-- NS_CREATE: 64 bytes at ADDR in the layout of R428; KEY_VALID and OWNER_GEN are the device's. -/
def execNsCreate (f : Nat) (s : State) : Out :=
  .next (s.admRun f 0x3A true [0x3FFF, 2 ^ 64 - 1] (fun _ => true) (fun s c =>
    let n := bitsOf (c.word 8) 0 14
    let x := leNat (s.hostRead (s.attOf f) (c.word 0x10) 64)
    let ctrl := bitsOf x 64 11
    let own := bitsOf x 16 12
    match Map.get s.sto.ctrls none ctrl with
    | none => s.admDone f stBadField
    | some k =>
      if ¬ onlyBits x nsMasks ∨ bitOf x 0 = false ∨ (k.owner ≠ own ∧ own ≠ 0xFFF) ∨ (k.kind = 1 ∧ bitsOf x 80 5 ≠ 0)
          ∨ s.pf (bitsOf x 96 12) 0 1 = 0 then s.admDone f stBadField
      else if s.nf n 0 1 = 1 ∨ (s.nsOf ctrl (bitsOf x 80 5 + 1)).isSome then s.admDone f stBusy
      else
        let x := putBits (putBits x 2 1 0) 28 12 (if own = 0xFFF then 0 else (s.func own).gen)
        { s with sto := { s.sto with ns := Map.set s.sto.ns 0 n x, nsKeys := Map.set s.sto.nsKeys 0 n 0 } }.admDone f stSuccess))

/-- NS_DESTROY: refused while commands of it run. -/
def execNsDestroy (f : Nat) (s : State) : Out :=
  .next (s.admRun f 0x3B true [0x3FFF] (fun _ => true) (fun s c =>
    let n := bitsOf (c.word 8) 0 14
    if s.nf n 0 1 = 0 then s.admDone f stBadField
    else if s.sto.cmds.any (fun x => x.ns == n) then s.admDone f stBusy
    else { s with sto := { s.sto with ns := Map.erase s.sto.ns n, nsKeys := Map.erase s.sto.nsKeys n } }.admDone f stSuccess))

/-! Paths (R413-R417, R428) -/

/-- The lowest numbers below `top` that are not used, `n` of them. -/
def freeNums (used : List Nat) (n : Nat) : Nat → Nat → List Nat
  | _, 0 => []
  | k, top + 1 =>
    if n = 0 then [] else if used.contains k then freeNums used n (k + 1) top else k :: freeNums used (n - 1) (k + 1) top

/-- Contexts of a new path, the admin queue's first: connections, or queue pairs at 65,536 on (log entry 29). -/
def State.newConns (s : State) (roce : Bool) (n : Nat) : List Nat :=
  let used := (s.sto.pathConns.flatMap (·.2)) ++ (s.sto.qps.filter (·.2.valid)).map (fun e => 65536 + e.1)
  if roce then freeNums used n 65536 1048576 else freeNums used n 0 65536

/-- PATH_CREATE: contexts are taken, BE_TIMEOUT_EFF computed, and the connections begin to open (R413-R417). -/
def execPathCreate (f : Nat) (s : State) : Out :=
  .next (s.admRun f 0x3C true [0xFFF, 2 ^ 64 - 1] (fun _ => true) (fun s c =>
    let p := bitsOf (c.word 8) 0 12
    let x := leNat (s.hostRead (s.attOf f) (c.word 0x10) 64)
    let roce := bitOf x 1
    let n := bitsOf x 16 7
    let qs := bitsOf x 272 16
    if ¬ onlyBits x pathMasks ∨ bitOf x 0 = false ∨ n = 0 ∨ 64 < n ∨ qs < 2 ∨ qs = 65536
        ∨ (roce ∧ (bitsOf x 288 3 = 7 ∨ bitsOf x 291 5 = 0)) then s.admDone f stBadField
    else if s.pf p 0 1 = 1 then s.admDone f stBusy
    else
      let l := s.newConns roce (n + 1)
      if l.length ≠ n + 1 then s.admDone f stNoResource
      else
        let x := putBits (putBits (putBits x 2 1 0) 96 32 0) 320 16 0
        let st := { s.sto with paths := Map.set s.sto.paths 0 p x, pathConns := Map.set s.sto.pathConns [] p l }
        let s := { s with sto := st }.setEff p
        let s := s.each l.zipIdx (fun t e =>
          let t := t.setConn e.1 { path := p, num := e.2 }
          let t := if roce then
              let r := 1000 * t.portRate (bitsOf x 5 3)
              let q : Qp := { valid := true, conn := some e.1, port := bitsOf x 5 3, v6 := bitOf x 8, peer := t.remoteAddr p }
              let q := { q with mtu := 4096, retryCnt := bitsOf x 288 3, ackTo := bitsOf x 291 5, rnrRetry := 7, rate := r, target := r }
              t.setQp (e.1 - 65536) q
            else t
          t.connOpen e.1)
        (s.tryConnect (l.getD 0 0)).admDone f stSuccess))

/-- PATH_DESTROY: refused while a namespace or another path names it; its contexts are free again. -/
def execPathDestroy (f : Nat) (s : State) : Out :=
  .next (s.admRun f 0x3D true [0xFFF] (fun _ => true) (fun s c =>
    let p := bitsOf (c.word 8) 0 12
    if s.pf p 0 1 = 0 then s.admDone f stBadField
    else if s.sto.ns.any (fun e => bitOf e.2 0 && bitsOf e.2 96 12 == p)
        ∨ s.sto.paths.any (fun e => e.1 != p && bitOf e.2 44 && bitsOf e.2 32 12 == p) then s.admDone f stBusy
    else
      let s := s.setPathUp p false
      let s := s.each (s.connsOf p) (fun t k =>
        let st := { t.sto with conns := Map.erase t.sto.conns k, qps := if roceConn k then Map.erase t.sto.qps (k - 65536) else t.sto.qps }
        { t with sto := st })
      let st := { s.sto with paths := Map.erase s.sto.paths p, pathConns := Map.erase s.sto.pathConns p }
      { s with sto := st }.admDone f stSuccess))

/-! Function reset (R426) -/

/-- The commands of a function leave the unit, those sent becoming orphans; its namespace keys and its queue-pair contexts are
zeroed (R426). -/
def State.stoReset (s : State) (f : Nat) : State :=
  let s := s.each (s.sto.cmds.filter (fun c => c.fn == f)) (fun t c => t.dropCmd c)
  let own := (s.sto.ns.filter (fun e => bitsOf e.2 16 12 == f)).map (·.1)
  let s := s.each own (fun t n =>
    let t := t.setNf n 2 1 0
    { t with sto := { t.sto with nsKeys := Map.erase t.sto.nsKeys n } })
  let s := match s.ctrlOf f with
    | some (n, c) => s.setCtrl n { kind := c.kind, owner := c.owner }
    | none => s
  { s with sto := { s.sto with qps := s.sto.qps.filter (fun e => e.2.owner ≠ some f) } }

end Sys2Proof.Machine
end

