-- ==== Sys2Proof/Machine/Keys.lean ====
section
/-! DEFINITION. Machine/Keys.lean: session writes and updates (R373, R389), key envelopes (R616-R621), and the retirement of keys
(R375, R412). -/

namespace Sys2Proof.Machine

open Sys2Proof

set_option cleanup.letToHave false

/-- A number with the bits of a mask taken from another. -/
def mixBits (old new mask : Nat) : Nat := (old &&& ((2 ^ 1024 - 1) ^^^ mask)) ||| (new &&& mask)

/-- The mask of a field. -/
def fMask (f : Nat × Nat) : Nat := (2 ^ f.2 - 1) * 2 ^ f.1

/-- The words of a context a KIND may use (R372). -/
def cxUsed (kind : Nat) : List Nat :=
  let all := 2 ^ 64 - 1
  let lo := 2 ^ 53 - 1 - 2 ^ 14 - 2 ^ 15
  [lo, all, all, all, all, all, all, all] ++
    (if kind = 1 then [all, all, all, all, 0x1FFFF, 2 ^ 32 - 1]
     else if kind = 2 then [all, all, all, all, all, 2 ^ 32 - 1]
     else if kind = 3 ∨ kind = 4 then [all, 2 ^ 32 - 1]
     else if kind = 5 then [all, all, 0xFFFFFFFF00000003]
     else if kind = 6 then [all, all] else [])

/-- Whether a context has only bits its KIND uses and every field in its range (R372, R373). -/
def cxGood (x : Nat) : Bool :=
  let k := bitsOf x 2 3
  let own := bitsOf x 16 12
  decide (k ≠ 7) && decide (bitsOf x 40 13 ≤ 4096) && (decide (own < 2056) || own == 0xFFF)
    && (k != 1 || (decide (bitsOf x 768 8 ≤ 128) && decide (bitsOf x 776 8 ≤ 128)))
    && (List.range 16).all (fun i => bitsOf x (64 * i) 64 &&& (cxUsed k).getD i 0 == bitsOf x (64 * i) 64)

/-- Fields the device sets, whatever a write carries (R372, R373; log entry 47). -/
def cxDevice : Nat :=
  ([Cx.valid, Cx.keyValid, Cx.exhausted, Cx.softHit, Cx.failed, Cx.ownerGen, Cx.bytes, Cx.pkts, Cx.authFail, Cx.replay].map fMask).foldl
    (fun a b => a ||| b) 0

/-- Fields the device moves on once a key is installed: SEQ, and the record position of a TLS session (log entry 47). -/
def cxMoves (kind : Nat) : Nat :=
  fMask Cx.seq ||| (if kind = 5 ∨ kind = 6 then (2 ^ 256 - 1) * 2 ^ 512 else 0)

/-- Fields that may change while KEY_VALID is 1: SEQ_SOFT, BYTES_HARD, WINDOW and the selectors (R373). -/
def cxLive (kind : Nat) : Nat :=
  fMask Cx.seqSoft ||| fMask Cx.bytesHard ||| fMask Cx.window |||
    (if kind = 1 then fMask Cx.selSrc ||| fMask Cx.selDst ||| fMask Cx.srcPlen ||| fMask Cx.dstPlen ||| fMask Cx.selEn else 0)

/-- Whether a function may write a session: the manager any, another function those it owns (R373). -/
def State.maySession (s : State) (f n : Nat) : Bool := isMgmt f || s.cx n Cx.owner == f

/-- SESSION_WRITE (R373). -/
def execSessionWrite (f : Nat) (s : State) : Out :=
  .next (s.admRun f 0x30 false [0x3FFFFF, 2 ^ 64 - 1] (fun _ => true) (fun s c =>
    let n := bitsOf (c.word 8) 0 22
    let x := leNat (s.hostRead (s.attOf f) (c.word 0x10) 128)
    let old := s.ctx n
    let keyed := s.cx n Cx.keyValid = 1
    let kind := if keyed then s.cx n Cx.kind else bitsOf x 2 3
    let free := if keyed then cxDevice ||| cxMoves kind else cxDevice
    if ¬ s.maySession f n then s.admDone f stNotPermitted
    else if ¬ cxGood x then s.admDone f stBadField
    else
      let new := mixBits x old free
      let owner := bitsOf new 16 12
      if ¬ isMgmt f ∧ owner ≠ s.cx n Cx.owner then s.admDone f stNotPermitted
      else if keyed ∧ mixBits new old (cxLive kind) ≠ old then s.admDone f stNotPermitted
      else
        let new := putBits new 28 12 (if owner = 0xFFF then 0 else (s.func owner).gen)
        (s.setCtx n new).admDone f stSuccess))

/-- SESSION_UPDATE: confirms a record header of a TLS_RX session in SEARCH (R389). -/
def execSessionUpdate (f : Nat) (s : State) : Out :=
  .next (s.admRun f 0x31 false [0x3FFFFF, 2 ^ 32 - 1, 2 ^ 64 - 1] (fun _ => true) (fun s c =>
    let n := bitsOf (c.word 8) 0 22
    if ¬ s.maySession f n then s.admDone f stNotPermitted
    else if s.cx n Cx.kind ≠ kTlsRx then s.admDone f stBadField
    else if s.cx n Cx.rxState ≠ 1 then s.admDone f stNotPermitted
    else
      let s := (s.setCx n Cx.resyncTcp (c.word 0x10)).setCx n Cx.recSeq (c.word 0x18)
      { s with cry := { s.cry with confirmed := if s.cry.confirmed.contains n then s.cry.confirmed else n :: s.cry.confirmed } }.admDone
        f stSuccess))

/-! Retirement (R375, R412) -/

/-- A session loses its key, its context and its replay block (R375). -/
def State.retireSession (s : State) (n : Nat) : State :=
  { s with cry := { s.cry with ctx := Map.erase s.cry.ctx n, replay := Map.erase s.cry.replay n, keys := Map.erase s.cry.keys n,
                               recs := Map.erase s.cry.recs n, confirmed := s.cry.confirmed.filter (· ≠ n) } }

/-- A namespace loses its key (R412). -/
def State.retireNs (s : State) (n : Nat) : State :=
  let s := s.setNf n 2 1 0
  { s with sto := { s.sto with nsKeys := Map.erase s.sto.nsKeys n } }

/-- Sessions of a function, or of every function (R626). -/
def State.sessionsOf (s : State) (own : Nat → Bool) : List Nat := (s.cry.ctx.filter (fun e => own (bitsOf e.2 16 12))).map (·.1)

/-- The owner of sessions is reset: they are retired, the numbers staying its own (R375, R495; log entry 47). -/
def State.cryReset (s : State) (f : Nat) : State :=
  s.each (s.sessionsOf (· == f)) (fun t n => (t.retireSession n).setCx n Cx.owner f)

/-- KEY_RETIRE (R375). -/
def execKeyRetire (f : Nat) (s : State) : Out :=
  .next (s.admCrit f 0x33 [0x13FFFFF] (fun c => !bitOf (c.word 8) 24 || decide (bitsOf (c.word 8) 0 22 < 16384)) (fun s c =>
    let n := bitsOf (c.word 8) 0 22
    (if bitOf (c.word 8) 24 then s.retireNs n else s.retireSession n).admDone f stSuccess))

/-! Key envelopes (R616-R621) -/

/-- A field of an envelope. -/
def envAt (e : List Byte) (off lo w : Nat) : Nat := bitsOf (leAt e off 8) lo w

/-- KEY_LEN a target needs (R618). -/
def State.keyLenOk (s : State) (kind target len : Nat) : Bool :=
  if kind = 1 then
    let c := s.cx target Cx.cipher
    let k := s.cx target Cx.kind
    if k = kTlsRx ∨ k = kTlsTx then len == (if c = 0 then 28 else 44) else k != 0 && len == (if c = 0 then 16 else 32)
  else if kind = 2 then len == 64 else len == 32

/-- Steps 1 and 2 of R619. -/
def State.envForm (s : State) (e : List Byte) : Bool :=
  let kind := envAt e 0 8 8
  let target := envAt e 0 32 32
  let top := ([0, 4194304, 16384, 4, 64] : List Nat).getD kind 0
  envAt e 0 0 8 == 1 && decide (target < top) && s.keyLenOk kind target (envAt e 8 24 8) && envAt e 0 16 16 == 0
    && envAt e 8 32 32 == 0 && ((e.drop 0x81).take 7).all (· == 0) && ((e.drop 0xD0).take 48).all (· == 0)
    && leAt e 0x10 8 == (s.reg R.GRT_DSN).toNat && Config.pointOk ((e.drop 0x20).take 97)

/-- The owner of a target (R619). -/
def State.envOwner (s : State) (kind target : Nat) : Nat :=
  if kind = 1 then s.cx target Cx.owner else if kind = 2 then s.nf target 16 12 else 0xFFF

/-- Step 3 of R619 for an envelope that function f's command carries. -/
def State.envOwned (s : State) (f : Nat) (e : List Byte) : Bool :=
  let kind := envAt e 0 8 8
  let target := envAt e 0 32 32
  let own := envAt e 8 0 12
  own == s.envOwner kind target
    && (if own = 0xFFF then envAt e 8 12 12 == 0 else own == f && envAt e 8 12 12 == (s.func own).gen)
    && (kind != 1 || s.cx target Cx.keyValid == 0) && (kind != 2 || s.nf target 0 1 == 1 && s.nf target 2 1 == 0)

/-- A key is installed (R116, R374, R412). -/
def State.installKey (s : State) (kind target key : Nat) : State :=
  if kind = 1 then
    ({ s with cry := { s.cry with keys := Map.set s.cry.keys 0 target key } }.setCx target Cx.keyValid 1).setCx target Cx.valid 1
  else if kind = 2 then
    { s with sto := { s.sto with nsKeys := Map.set s.sto.nsKeys 0 target key } }.setNf target 2 1 1
  else { s with grt := { s.grt with ptpKey := Map.set s.grt.ptpKey 0 target key } }

/-- The key check value of R620: the first 8 bytes of the CMAC of a zero block under the AES key, the first of an XTS pair. -/
def State.keyCheck (s : State) (kind target key : Nat) : Nat :=
  let k := if kind = 2 then key / 2 ^ 256
    else if kind = 1 ∧ (s.cx target Cx.kind = kTlsRx ∨ s.cx target Cx.kind = kTlsTx) then key / 2 ^ 96 else key
  Config.cmac k (List.replicate 16 0) % 2 ^ 64

/-- An envelope of a function's command: its kinds are those of `kinds`, and `own` says which owners the command admits (R619-R621). -/
def State.envelope (s : State) (f addr : Nat) (kinds : List Nat) (own : Nat → Bool) (done : State → List Byte → Nat → State) : State :=
  let e := s.hostRead (s.attOf f) addr 256
  let kind := envAt e 0 8 8
  if ¬ (kinds.contains kind ∧ s.envForm e) then s.admDone f stBadField
  else if ¬ (s.envOwned f e ∧ own (envAt e 8 0 12)) then s.admDone f stNotPermitted
  else
    match Config.unwrap s.grt.tik e with
    | none => (s.err R.GRT_AUTH_FAIL_CNT).admDone f stAuthFailed
    | some key => done s e key

/-- KEY_INSTALL: device-owned sessions and namespaces, and PTP key slots (R621). -/
def execKeyInstall (f : Nat) (s : State) : Out :=
  .next (s.admCrit f 0x32 [2 ^ 64 - 1] (fun _ => true) (fun s c =>
    s.envelope f (c.word 8) [1, 2, 4] (· == 0xFFF) (fun s e key =>
      (s.installKey (envAt e 0 8 8) (envAt e 0 32 32) key).admDone f stSuccess)))

/-- KEY_ENVELOPE_IMPORT: a function's own session or namespace; RESULT0 is the key check value (R620). -/
def execKeyEnvelopeImport (f : Nat) (s : State) : Out :=
  .next (s.admRun f 0x34 false [2 ^ 64 - 1] (fun _ => true) (fun s c =>
    s.envelope f (c.word 8) [1, 2] (· != 0xFFF) (fun s e key =>
      let kind := envAt e 0 8 8
      let target := envAt e 0 32 32
      (s.installKey kind target key).admDone f stSuccess { r0 := s.keyCheck kind target key })))

end Sys2Proof.Machine
end

