-- ==== Sys2Proof/Machine/Parse.lean ====
section
/-! DEFINITION. Machine/Parse.lean: taking a packet (R154-R158, R198) and the parse microcode (R159-R164, R199). A parse
core executes the instruction at its PC in the parse image of the packet's version; each command names the core and the
instruction, and does nothing when another instruction stands there. -/

namespace Sys2Proof.Machine

open Sys2Proof

set_option cleanup.letToHave false

/-- The version a packet carries. -/
def State.ver (s : State) (v : Nat) : Version := Map.get s.path.versions {} (v % 4)

/-- A parse core. -/
def State.core (s : State) (k : Nat) : ParseCore := Map.get s.path.cores {} k

/-- Set a parse core. -/
def State.setCore (s : State) (k : Nat) (c : ParseCore) : State :=
  { s with path := { s.path with cores := Map.set s.path.cores {} k c } }

/-- Whether a parse core is in service and free. -/
def State.coreFree (s : State) (k : Nat) : Bool :=
  s.rd (F.PRS_CORE_STATUS_STATE k) == 0 && (s.core k).pkt.isNone && decide (k < 272)

/-- The metadata word a take builds (R155, R156, R165). -/
def State.takeMd (s : State) (p : Pkt) : BitVec 512 :=
  let kind := if p.recirc then 2 else p.g Md.srcKind
  let f := if kind = 1 then p.g Md.srcFunc else 0xFFF
  let gen := if kind = 1 then (s.func f).gen else 0
  let v := if p.recirc then p.g Md.version else s.rd F.MAT_VER_STATUS_CURRENT
  let port := if kind = 0 then p.g Md.srcPort else 0
  let ns := if kind = 0 then p.g Md.tsNs else s.fst.nowNs % 2 ^ 64
  let frac := if kind = 0 then p.g Md.tsFrac else s.fst.frac16
  let upper := if p.recirc then p.md.toNat / 2 ^ 256 * 2 ^ 256 else 0
  BitVec.ofNat 512 (v + f % 4096 * 2 ^ 16 + kind * 2 ^ 28 + s.rd F.FST_STATUS_ALIGNED * 2 ^ 31 + port * 2 ^ 32
    + gen % 4096 * 2 ^ 35 + p.data.length % 2 ^ 14 * 2 ^ 47 + ns % 2 ^ 64 * 2 ^ 64 + frac % 65536 * 2 ^ 128 + upper)

/-- The match lane of a packet (R157); the lane in service carries both when the other is retired (R200). -/
def State.laneOf (s : State) (kind : Nat) : Nat :=
  let l := if kind = 0 then 0 else 1
  if s.rd (F.MAT_LANE_STATUS_STATE l) = 1 then 1 - l else l

/-- PARSE_TAKE: a free core takes the oldest waiting packet once its first 64 bytes, or all of it, are buffered; `arrived`
is how many bytes are (R154, R159, R160). Without a ruleset the packet is dropped and counted (R198). -/
def execParseTake (k arrived : Nat) (s : State) : Out :=
  match s.path.wait with
  | [] => .next s
  | p :: rest =>
    if s.coreFree k ∧ min 64 p.data.length ≤ arrived then
      let s := { s with path := { s.path with wait := rest } }
      if s.rd F.PRS_STATUS_RULESET = 0 then .next ((s.stat R.PRS_NO_RULESET_CNT).txDropped p)
      else
        let md := s.takeMd p
        let kind := mdGet md Md.srcKind
        let p := { p with md := md, scratch := List.replicate 128 0, lane := s.laneOf kind, recirc := false }
        let was := kind == 2
        let c : ParseCore := { pkt := some p, arrived := arrived, taken := md,
                               pc := (s.ver (mdGet md Md.version)).entries.getD kind 0 }
        let s := (s.setCore k c).stat R.PRS_PKT_CNT
        .next (if was then s else s.inflightAdd (mdGet md Md.version))
    else .next s

/-! Instructions (R161, R162) -/

abbrev pOp (w : Nat) : Nat := bitsOf w 58 6
abbrev pD (w : Nat) : Nat := bitsOf w 55 3
abbrev pS (w : Nat) : Nat := bitsOf w 52 3
abbrev pC (w : Nat) : Nat := bitsOf w 49 3
abbrev pX (w : Nat) : Nat := bitsOf w 40 9
abbrev pL (w : Nat) : Nat := bitsOf w 32 8
abbrev pImm (w : Nat) : Nat := bitsOf w 0 32

/-- What an instruction leads to. -/
inductive PRes where
  | next (c : ParseCore)
  | jump (c : ParseCore) (pc : Nat)
  | stall
  | finish (c : ParseCore) (code : Nat)
  deriving DecidableEq, Repr

/-- A working register. -/
def ParseCore.r (c : ParseCore) (i : Nat) : Nat := (Map.get c.w 0 i).toNat

/-- Set a working register. -/
def ParseCore.setR (c : ParseCore) (i v : Nat) : ParseCore := { c with w := Map.set c.w 0 i (BitVec.ofNat 64 v) }

/-- Length of the packet. -/
def ParseCore.len (c : ParseCore) : Nat := match c.pkt with | some p => p.data.length | none => 0

/-- Change the packet. -/
def ParseCore.updPkt (c : ParseCore) (f : Pkt → Pkt) : ParseCore := { c with pkt := c.pkt.map f }

/-- Read n window bytes at an offset: out of the packet, not yet arrived, or the bytes (R159, R164). -/
def ParseCore.window (c : ParseCore) (off n : Nat) (k : List Byte → PRes) : PRes :=
  if min c.len 512 < off + n then .finish c 0xFE
  else if c.arrived < off + n then .stall
  else k (match c.pkt with | some p => (p.data.drop off).take n | none => [])

/-- Whether a condition holds. -/
def ParseCore.cond (c : ParseCore) (k : Nat) : Bool :=
  if k = 0 then true else if k = 1 then c.eq else if k = 2 then !c.eq else if k = 3 then c.lt else !c.lt

/-- Branch when the condition holds. -/
def ParseCore.branch (c : ParseCore) (w : Nat) : PRes :=
  if c.cond (pC w) then .jump c (pImm w % 2048) else .next c

/-- Set EQ and LT from a comparison. -/
def ParseCore.compare (c : ParseCore) (a b : Nat) : ParseCore := { c with eq := a == b, lt := decide (a < b) }

def pExt (w : Nat) (c : ParseCore) : PRes := c.window (c.cur + pX w) (pL w) (fun l => .next (c.setR (pD w) (beNat l)))

def pExtb (w : Nat) (c : ParseCore) : PRes :=
  let sh := pImm w % 8
  let n := (sh + pL w + 7) / 8
  c.window (c.cur + pX w) n (fun l => .next (c.setR (pD w) (beNat l / 2 ^ (8 * n - sh - pL w) % 2 ^ pL w)))

def pMovi (w : Nat) (c : ParseCore) : PRes := .next (c.setR (pD w) (pImm w))
def pShl (w : Nat) (c : ParseCore) : PRes := .next (c.setR (pD w) (c.r (pS w) * 2 ^ (pX w % 64)))
def pShr (w : Nat) (c : ParseCore) : PRes := .next (c.setR (pD w) (c.r (pS w) / 2 ^ (pX w % 64)))
def pAnd (w : Nat) (c : ParseCore) : PRes := .next (c.setR (pD w) (c.r (pS w) &&& pImm w))
def pOr (w : Nat) (c : ParseCore) : PRes := .next (c.setR (pD w) (c.r (pS w) ||| pImm w))
def pAdd (w : Nat) (c : ParseCore) : PRes := .next (c.setR (pD w) (c.r (pS w) + pImm w))
def pCmp (w : Nat) (c : ParseCore) : PRes := .next (c.compare (c.r (pS w)) (pImm w))
def pBr (w : Nat) (c : ParseCore) : PRes := c.branch w

def pBrf (w : Nat) (c : ParseCore) : PRes :=
  c.window (c.cur + pX w) (pL w) (fun l => (c.compare (beNat l) (pImm w / 65536)).branch w)

def pAdvi (w : Nat) (c : ParseCore) : PRes := .next { c with cur := min (c.cur + pX w) 1023 }
def pAdvr (w : Nat) (c : ParseCore) : PRes := .next { c with cur := min (c.cur + c.r (pS w)) 1023 }

def pEmit (w : Nat) (c : ParseCore) : PRes :=
  c.window (c.cur + pX w) (pL w) (fun l =>
    .next (c.updPkt (fun p => { p with scratch := (p.scratch.take (pImm w % 128) ++ l
                                  ++ p.scratch.drop (pImm w % 128 + l.length)).take 128 })))

def pEmitr (w : Nat) (c : ParseCore) : PRes :=
  let l := beBytes (c.r (pS w)) (pL w)
  .next (c.updPkt (fun p => { p with scratch := (p.scratch.take (pImm w % 128) ++ l
                                ++ p.scratch.drop (pImm w % 128 + l.length)).take 128 }))

def pSetmd (w : Nat) (c : ParseCore) : PRes := .next (c.updPkt (fun p => p.s (pImm w % 512, pL w) (c.r (pS w))))

def pMark (w : Nat) (c : ParseCore) : PRes :=
  let v := c.cur + pX w
  let i := pImm w % 8
  if min c.len 511 < v then .finish c 0xFE
  else .next (c.updPkt (fun p => (p.s (Md.layer i) v).s (152 + i, 1) 1))

def pDone (_w : Nat) (c : ParseCore) : PRes := .finish c 0
def pFail (w : Nat) (c : ParseCore) : PRes := .finish c (pImm w % 256)

/-- A fault-ring entry of a parse core (R635, R638, R641). -/
def State.parseFaultEntry (s : State) (c : ParseCore) (lower upper spare : Nat) (out : Bool) : State :=
  s.fault { cls := 0x02, cause := c.cause, unit := 2 ^ 14 + c.firstCore, corr := c.corr, drip := some c.faultDrip,
            aligned := some c.faultAligned, snapshot := s.rd (F.PRS_CORE_STATUS_TRANSIENT c.firstCore), lower := lower,
            upper := upper, sparesOut := out, detail := spare }

/-- The second parse has succeeded: the fault was transient (R199). -/
def State.parseTransient (s : State) (c : ParseCore) : State :=
  (s.errAt (R.PRS_CORE_STATUS c.firstCore) 16).parseFaultEntry c 1 1 0x1FF false

/-- Parsing ends: PARSE_ERR, its counter, and the packet goes on to stage 0 (R164, R202). -/
def State.parseEnd (s : State) (k : Nat) (c : ParseCore) (code : Nat) : State :=
  let s := if code = 0 then s
    else s.stat (R.PRS_EXC_CNT (if code = 0xFC then 1 else if code = 0xFE then 2 else if code = 0xFF then 3 else 0))
  let s := if c.second then s.parseTransient c else s
  let s := match c.pkt with
    | some p =>
      let p := p.s Md.parseErr code
      let m : InMatch := { pkt := p, stage := 0, first := p.md }
      { s with path := { s.path with inMatch := s.path.inMatch ++ [m] } }
    | none => s
  s.setCore k {}

/-- Continue at an instruction, unless the image or the limit of 128 instructions ends the parse (R164). -/
def State.parseGo (s : State) (k : Nat) (c : ParseCore) (pc : Nat) : State :=
  let size := match c.pkt with | some p => (s.ver (p.g Md.version)).parse.length | none => 0
  let c := { c with pc := pc, steps := c.steps + 1, stalled := false }
  if size ≤ pc then s.parseEnd k c 0xFC
  else if 128 ≤ c.steps then s.parseEnd k c 0xFF
  else s.setCore k c

/-- The instruction at a core's PC, if the core runs a packet. -/
def State.parseInsn (s : State) (k : Nat) : Option Nat :=
  match (s.core k).pkt with
  | some p => ((s.ver (p.g Md.version)).parse[(s.core k).pc]?).map BitVec.toNat
  | none => none

/-- Take the result of an instruction. -/
def State.parseRes (s : State) (k : Nat) (r : PRes) : State :=
  match r with
  | .next c => s.parseGo k c (c.pc + 1)
  | .jump c pc => s.parseGo k c pc
  | .stall => s.setCore k { s.core k with stalled := true }
  | .finish c code => s.parseEnd k c code

/-- Run the instruction at a core's PC when its opcode is `op`. -/
def State.parseRun (s : State) (k op : Nat) (f : Nat → ParseCore → PRes) : State :=
  match s.parseInsn k with
  | some w => if pOp w = op ∧ (s.core k).stalled = false then s.parseRes k (f w (s.core k)) else s
  | none => s

def execParseExt (k : Nat) (s : State) : Out := .next (s.parseRun k 0x01 pExt)
def execParseExtb (k : Nat) (s : State) : Out := .next (s.parseRun k 0x02 pExtb)
def execParseMovi (k : Nat) (s : State) : Out := .next (s.parseRun k 0x03 pMovi)
def execParseShl (k : Nat) (s : State) : Out := .next (s.parseRun k 0x04 pShl)
def execParseShr (k : Nat) (s : State) : Out := .next (s.parseRun k 0x05 pShr)
def execParseAnd (k : Nat) (s : State) : Out := .next (s.parseRun k 0x06 pAnd)
def execParseOr (k : Nat) (s : State) : Out := .next (s.parseRun k 0x07 pOr)
def execParseAdd (k : Nat) (s : State) : Out := .next (s.parseRun k 0x08 pAdd)
def execParseCmp (k : Nat) (s : State) : Out := .next (s.parseRun k 0x09 pCmp)
def execParseBr (k : Nat) (s : State) : Out := .next (s.parseRun k 0x0A pBr)
def execParseBrf (k : Nat) (s : State) : Out := .next (s.parseRun k 0x0B pBrf)
def execParseAdvi (k : Nat) (s : State) : Out := .next (s.parseRun k 0x0C pAdvi)
def execParseAdvr (k : Nat) (s : State) : Out := .next (s.parseRun k 0x0D pAdvr)
def execParseEmit (k : Nat) (s : State) : Out := .next (s.parseRun k 0x0E pEmit)
def execParseEmitr (k : Nat) (s : State) : Out := .next (s.parseRun k 0x0F pEmitr)
def execParseSetmd (k : Nat) (s : State) : Out := .next (s.parseRun k 0x10 pSetmd)
def execParseMark (k : Nat) (s : State) : Out := .next (s.parseRun k 0x11 pMark)
def execParseDone (k : Nat) (s : State) : Out := .next (s.parseRun k 0x12 pDone)
def execParseFail (k : Nat) (s : State) : Out := .next (s.parseRun k 0x13 pFail)

/-- PARSE_STALL_END: the missing window bytes arrive and the stalled instruction completes (R159). -/
def execParseStallEnd (k : Nat) (s : State) : Out :=
  let c := s.core k
  if c.stalled then
    let c := { c with arrived := c.len, stalled := false }
    let s := s.setCore k c
    match s.parseInsn k with
    | some w =>
      let op := pOp w
      .next (s.parseRes k (if op = 0x01 then pExt w c else if op = 0x02 then pExtb w c else if op = 0x0B then pBrf w c
        else pEmit w c))
    | none => .next s
  else .next s

/-- A retired parse core is replaced by a spare (R199, R639). -/
def State.parseRetire (s : State) (c : ParseCore) : State :=
  let s := (s.wr (F.PRS_CORE_STATUS_STATE c.firstCore) 2).raise F.PRS_INT_STATUS_CORE_RETIRED
  match ((List.range 272).find? (fun k => s.rd (F.PRS_CORE_STATUS_STATE k) == 1)) with
  | some k =>
    let s := (s.wr (F.PRS_CORE_STATUS_STATE k) 0).wr F.PRS_STATUS_SPARES (s.rd F.PRS_STATUS_SPARES - 1)
    s.parseFaultEntry c 2 2 k false
  | none =>
    let s := (s.wr F.PRS_STATUS_IN_SERVICE (s.rd F.PRS_STATUS_IN_SERVICE - 1)).raise F.PRS_INT_STATUS_SPARES_OUT
    s.parseFaultEntry c 2 3 0x1FF true

/-- PARSE_CORE_FAULT: the first fault parses the packet again on another core; a fault of that second parse is its failure:
the first core is retired, and the packet, which is not repeated a third time, is dropped (R199, R638, log entry 23). -/
def execParseCoreFault (k other cause : Nat) (s : State) : Out :=
  let c := s.core k
  match c.pkt with
  | none => .next s
  | some p =>
    if c.second then .next (((s.setCore k {}).parseRetire c).pktGone p)
    else if s.coreFree other ∧ other ≠ k then
      let (corr, s) := s.newCorr
      let p := { p with md := c.taken, scratch := List.replicate 128 0 }
      let d : ParseCore := { pkt := some p, taken := c.taken, arrived := c.arrived, second := true, firstCore := k, cause := cause,
                             corr := corr, faultDrip := s.fst.drip, faultAligned := s.rdB F.FST_STATUS_ALIGNED,
                             pc := (s.ver (p.g Md.version)).entries.getD (p.g Md.srcKind) 0 }
      .next ((s.setCore k {}).setCore other d)
    else .next s

end Sys2Proof.Machine
end

