-- ==== Sys2Proof/Machine/Match.lean ====
section
/-! DEFINITION. Machine/Match.lean: program images' directories (R282), tables and their lookups (R166-R179), the match
stages (R181-R184), routing after stage 15 (R183, R242, R364) and the input queues of the galleries (R244). -/

namespace Sys2Proof.Machine

open Sys2Proof

set_option cleanup.letToHave false

/-! The engine image of a version (R282) -/

/-- Directory entry k of a version's image. -/
def Version.dir (v : Version) (k : Nat) : Nat := Mem.le v.image (8 * k) 8

/-- The instruction word at a word index of the slot. -/
def Version.word (v : Version) (i : Nat) : Nat := Mem.le v.image (4 * i) 4

abbrev dirEntry (d : Nat) : Nat := bitsOf d 0 11
abbrev dirValid (d : Nat) : Bool := bitOf d 11
abbrev dirChain (d : Nat) : Nat := bitsOf d 12 12
abbrev dirSlots (d : Nat) : Nat := bitsOf d 32 16
abbrev dirCycles (d : Nat) : Nat := bitsOf d 48 16

/-- The directory entry of a chain. -/
def Version.chain (v : Version) (c : Nat) : Option Nat :=
  if c = 0 then none else ((List.range 64).map v.dir).find? (fun d => dirValid d && dirChain d == c)

/-! Lookups -/

/-- Visibility of a versioned entry (R172). -/
def Entry.visible (e : Entry) (v : Nat) : Bool :=
  !(e.addPend && decide (3 < (v + 65536 - e.addVer) % 65536)) && !(e.delPend && decide ((v + 65536 - e.delVer) % 65536 ≤ 3))

/-- Bit i of a byte string, the most significant bit of byte 0 first. -/
def bitAt (l : List Byte) (i : Nat) : Bool := bitOf (l.getD (i / 8) 0).toNat (7 - i % 8)

/-- The first n bits of two byte strings agree. -/
def samePrefix (n : Nat) (a b : List Byte) : Bool := (List.range n).all (fun i => bitAt a i == bitAt b i)

/-- Longest prefix within the scope: key bytes 0-3 are the scope (R168, R174). -/
def lpmFind (l : List Entry) (v : Nat) (key : List Byte) : Option Entry :=
  (l.filter (fun e => e.visible v && e.key.take 4 == key.take 4 && samePrefix e.plen (e.key.drop 4) (key.drop 4))).foldl
    (fun b e => match b with
      | none => some e
      | some x => if x.plen < e.plen then some e else some x) none

/-- Key widths (R167). -/
def keyWidth (kind family : Nat) : Nat :=
  if kind = 1 then 24 else if kind = 2 then 80 else if kind = 3 then 56 else if kind = 5 then 79
  else if family = 0 then 8 else 20

/-- A TCAM entry matches a key: bytes 1-79 hold the key, [635:632] are don't-care (R178). -/
def TcamEntry.hit (e : TcamEntry) (v : Nat) (key : List Byte) : Bool :=
  bitOf e.slots (v % 4) && (List.range 79).all (fun k =>
    (e.value.getD (k + 1) 0 &&& e.mask.getD (k + 1) 0) == (key.getD k 0 &&& e.mask.getD (k + 1) 0))

/-- The candidates of a flow key (R169). -/
def flowCands (key : List Byte) : Nat × Nat := (crc32c 0 key % 33554432, crc32c 0xFFFFFFFF key % 33554432)

/-- A flow entry. -/
def State.flow (s : State) (i : Nat) : FlowEntry := Map.get s.path.flow {} i

/-- Set a flow entry. -/
def State.setFlow (s : State) (i : Nat) (e : FlowEntry) : State :=
  { s with path := { s.path with flow := Map.set s.path.flow {} i e } }

/-- The flow entry of a key, at one of its candidates (R169, R176). -/
def State.flowFind (s : State) (key : List Byte) : Option Nat :=
  let c := flowCands key
  let hit := fun i => (s.flow i).valid && (s.flow i).key == key
  if hit c.1 then some c.1 else if hit c.2 then some c.2 else none

/-- The flow cache's locator of a key (R176); the place a fingerprint takes among the 1,048,576 is log entry 25. -/
def cachePlace (key : List Byte) : Nat := crc32c 0x5A5A5A5A key % 1048576

/-- A lookup through the flow cache fills the cache when a candidate matches. -/
def State.cacheFill (s : State) (key : List Byte) (i : Nat) : State :=
  { s with path := { s.path with flowCache := Map.set s.path.flowCache none (cachePlace key) (some i) } }

/-- Removing a flow entry invalidates its locator. -/
def State.cacheDrop (s : State) (key : List Byte) (i : Nat) : State :=
  if Map.get s.path.flowCache none (cachePlace key) = some i then
    { s with path := { s.path with flowCache := Map.set s.path.flowCache none (cachePlace key) none } }
  else s

/-- A FLOW lookup that finds entry i: FLOW_ID, FLOW_HIT and the entry's counters (R177). -/
def State.flowHit (s : State) (p : Pkt) (i : Nat) : Pkt × State :=
  let e := s.flow i
  ((p.s Md.flowId i).s Md.flowHit 1,
   (s.setFlow i { e with pkts := (e.pkts + 1) % 2 ^ 64, bytes := (e.bytes + p.g Md.pktLen) % 2 ^ 64,
                         lastDrip := s.fst.drip }).stat R.MAT_FLOW_HIT_CNT)

/-- Look a packet up under a binding: the action found, the packet and the state (R168-R179). -/
def State.lookup (s : State) (p : Pkt) (b : Binding) : Option Nat × Pkt × State :=
  let t := Map.get s.path.tables {} b.table
  let key := padTo (keyWidth b.kind t.family) (buildKey p b)
  let v := p.g Md.version
  if b.kind = 1 ∨ b.kind = 2 then
    ((t.entries.find? (fun e => e.visible v && e.key == key)).map (·.action), p, s)
  else if b.kind = 4 then ((lpmFind t.entries v key).map (·.action), p, s)
  else if b.kind = 5 then
    let inRun := fun (i : Nat) => decide (b.tcamFirst * 1024 ≤ i) && decide (i < (b.tcamFirst + b.tcamBlocks) * 1024)
    ((s.path.tcam.find? (fun e => inRun e.1 && e.2.hit v key)).map (·.2.action), p, s)
  else
    match s.flowFind key with
    | some i =>
      let (p, s) := (s.cacheFill key i).flowHit p i
      (some (s.flow i).action, p, s)
    | none => (none, p, s.stat R.MAT_FLOW_MISS_CNT)

/-- One stage on a packet (R181, R182). -/
def State.stageRun (s : State) (p : Pkt) (n : Nat) : Pkt × State :=
  let b := Map.get (s.ver (p.g Md.version)).bindings {} n
  if p.g Md.stopped = 1 ∨ b.kind = 0 then (p, s)
  else
    let s := s.stat (R.MAT_STAGE_LOOKUP_CNT n)
    match s.lookup p b with
    | (some a, p, s) => (s.stat (R.MAT_STAGE_HIT_CNT n)).applyAction p a
    | (none, p, s) => s.applyAction p b.miss

/-! Routing (R183, R184, R242) -/

/-- The steering hash of a packet (R242). -/
def steerHashOf (p : Pkt) : Nat :=
  if p.g Md.flowHit = 1 then p.g Md.flowId else crc32c 0 ((List.range 12).map (fun i => mdByte p.md (52 + i)))

/-- Entry i of the steering table (R255). -/
def State.steer (s : State) (i : Nat) : Nat := s.rd ⟨R.MAT_STEER (i / 8), 8 * (i % 8), 6⟩

/-- A packet that goes to a port from the match stages: fix-up, the crypto of P3, then the traffic manager (R183, R364,
R371). -/
def State.routePort (s : State) (p : Pkt) : State :=
  match s.cryGate p 3 with
  | .wait => s.toCry (s.fixupPkt p) 3
  | .pass => s.toTm (s.fixupPkt p)
  | .drop c => (s.err c).pktGone p

/-- The rows of R183; a CHAIN_ID that the packet's version does not have is dropped and counted. -/
def State.route (s : State) (p : Pkt) : State :=
  if p.g Md.drop = 1 then s.pktGone p
  else if p.g Md.punt = 1 then s.toCpu p
  else if p.g Md.chainId ≠ 0 then
    if ((s.ver (p.g Md.version)).chain (p.g Md.chainId)).isSome then
      let h := steerHashOf p
      let q := { p with steerHash := h }
      { s with path := { s.path with toGal := s.path.toGal ++ [(s.steer (h % 4096), q)] } }
    else (s.stat R.MAT_NO_CHAIN_CNT).pktGone p
  else if p.g Md.destKind = 2 then s.routePort { p with steerHash := steerHashOf p }
  else (s.stat R.MAT_NO_CHAIN_CNT).pktGone p

/-- Point P1, then routing (R364-R366). -/
def State.afterStages (s : State) (p : Pkt) : State :=
  if p.g Md.drop = 1 ∨ p.g Md.punt = 1 then s.route p
  else
    match s.cryGate p 1 with
    | .wait => s.toCry p 1
    | .pass => s.route p
    | .drop c => (s.err c).pktGone p

/-- The copy a mirror session makes: the session's action record gives its destination (R184, log entry 24). -/
def State.mirrorCopy (s : State) (p : Pkt) : State :=
  let m := p.g Md.mirror
  if m = 0 then s
  else
    let c := [Md.drop, Md.punt, Md.mirror, Md.chainId, Md.destKind, Md.cryptoEn].foldl (fun q f => q.s f 0) p
    let (c, s) := s.newPkt c
    let (c, s) := s.applyAction c (Map.get (s.ver (p.g Md.version)).mirrors 0 m)
    (s.inflightAdd (p.g Md.version)).afterStages (c.s Md.mirror 0)

/-- Whether two packets come from one port or one transmit queue of one function (R158). -/
def sameSource (a b : Pkt) : Bool :=
  a.g Md.srcKind == b.g Md.srcKind &&
    ((a.g Md.srcKind == 0 && a.g Md.srcPort == b.g Md.srcPort)
      || (a.g Md.srcKind == 1 && a.g Md.srcFunc == b.g Md.srcFunc && a.txKind == b.txKind && a.txQueue == b.txQueue))

/-- Whether an earlier packet of the same source has not left stage 15 (R158). -/
def State.olderInMatch (s : State) (p : Pkt) : Bool :=
  s.path.inMatch.any (fun m => sameSource m.pkt p && decide (m.pkt.id < p.id))
    || s.path.cores.any (fun c => match c.2.pkt with | some q => sameSource q p && decide (q.id < p.id) | none => false)

/-- Change the packet list of the match stages. -/
def State.setInMatch (s : State) (l : List InMatch) : State := { s with path := { s.path with inMatch := l } }

/-- The fault-ring entry of a match lane; no lane is a spare (R20, R635, R641). -/
def State.laneFaultEntry (s : State) (l : Nat) (r : MatchRetry) (lower upper : Nat) : State :=
  s.fault { cls := 0x03, cause := r.cause, unit := 2 * 2 ^ 14 + 2 * r.stage + l, corr := r.corr, drip := some r.drip,
            aligned := some r.aligned, snapshot := s.rd (F.MAT_LANE_STATUS_TRANSIENT l), lower := lower, upper := upper,
            sparesOut := upper == 3, detail := r.stage }

/-- MATCH_STAGE: packet `id` passes its next stage; after stage 15 it is mirrored, meets P1 and goes on by R183, in the
order of R158; a packet that started again after a lane fault shows the fault to be transient (R639). -/
def execMatchStage (id : Nat) (s : State) : Out :=
  match s.path.inMatch.find? (fun m => m.pkt.id == id) with
  | none => .next s
  | some m =>
    if m.stage = 15 ∧ s.olderInMatch m.pkt then .next s
    else
      let (p, s) := s.stageRun m.pkt m.stage
      if m.stage < 15 then
        .next (s.setInMatch (s.path.inMatch.map (fun x => if x.pkt.id == id then { x with pkt := p, stage := m.stage + 1 } else x)))
      else
        let s := s.setInMatch (s.path.inMatch.filter (fun x => x.pkt.id != id))
        let s := match m.retry with
          | some r => (s.errAt (R.MAT_LANE_STATUS m.pkt.lane) 16).laneFaultEntry m.pkt.lane r 1 1
          | none => s
        .next ((s.mirrorCopy p).afterStages (p))

/-! Input queues (R244) -/

/-- A gallery. -/
def State.gal (s : State) (g : Nat) : Gallery := Map.get s.eng.gal {} g

/-- Set a gallery. -/
def State.setGal (s : State) (g : Nat) (x : Gallery) : State :=
  { s with eng := { s.eng with gal := Map.set s.eng.gal {} g x } }

/-- DISPATCHER_ENQUEUE: the oldest packet steered to the gallery enters its input queue, or is dropped and counted when the
queue holds 512 (R244). -/
def execDispatcherEnqueue (g : Nat) (s : State) : Out :=
  match s.path.toGal.find? (fun x => x.1 == g) with
  | none => .next s
  | some (_, p) =>
    let s := { s with path := { s.path with toGal := s.path.toGal.filter (fun x => !(x.1 == g && x.2.id == p.id)) } }
    let x := s.gal g
    if x.input.length < 512 then .next (s.setGal g { x with input := x.input ++ [{ p with entry := none }] })
    else .next ((s.stat (R.DSP_QUEUE_FULL_CNT g)).pktGone p)

end Sys2Proof.Machine
end

