-- ==== Sys2Proof/Machine/PyWord.lean ====
section
/-! DEFINITION. Machine/PyWord.lean: the fields of a Pyray instruction word (R259), which words are legal (R260), and the
class and Cycles figure of each instruction (R270, R273-R280). -/

namespace Sys2Proof.Machine

open Sys2Proof

set_option cleanup.letToHave false

abbrev iOp (w : Nat) : Nat := bitsOf w 26 6
abbrev iD (w : Nat) : Nat := bitsOf w 21 5
abbrev iA (w : Nat) : Nat := bitsOf w 16 5
abbrev iB (w : Nat) : Nat := bitsOf w 11 5
abbrev iT (w : Nat) : Nat := bitsOf w 6 3
abbrev iFn (w : Nat) : Nat := bitsOf w 0 6
abbrev iImm (w : Nat) : Nat := bitsOf w 0 16
abbrev iPos (w : Nat) : Nat := bitsOf w 10 6
abbrev iLen (w : Nat) : Nat := bitsOf w 4 6 + 1
abbrev iN (w : Nat) : Nat := bitsOf w 13 3 + 1
abbrev iOff13 (w : Nat) : Int := toSigned 13 (bitsOf w 0 13)
/-- Format B and L name their registers at [25:21] and [20:16]. -/
abbrev iBA (w : Nat) : Nat := bitsOf w 21 5
abbrev iBB (w : Nat) : Nat := bitsOf w 16 5
abbrev iOff16 (w : Nat) : Nat := bitsOf w 0 16
abbrev iTarget (w : Nat) : Nat := bitsOf w 0 11
abbrev iMax (w : Nat) : Nat := bitsOf w 10 11
abbrev iLoopLen (w : Nat) : Nat := bitsOf w 0 10
abbrev iSid (w : Nat) : Nat := bitsOf w 7 9
abbrev iNb (w : Nat) : Nat := bitsOf w 6 1
abbrev iTag (w : Nat) : Nat := bitsOf w 4 2

/-- Whether a word keeps R260: opcode, function code, ranges and unused fields. -/
def pyLegal (w : Nat) : Bool :=
  let op := iOp w
  let d0 := iD w == 0
  let a0 := iA w == 0
  let b0 := iB w == 0
  let rt0 := bitsOf w 6 5 == 0
  let fn := iFn w
  if op = 0x01 then rt0 && (decide (fn ≤ 0x0F) || (decide (fn ≤ 0x13) && b0))
  else if op ≤ 0x05 ∧ 0x02 ≤ op then true
  else if op ≤ 0x08 ∧ 0x06 ≤ op then bitsOf w 6 10 == 0
  else if op = 0x09 then decide (iA w ≤ 3)
  else if op = 0x0A ∨ op = 0x0B then decide (iPos w + iLen w ≤ 64) && bitsOf w 0 4 == 0
  else if 0x10 ≤ op ∧ op ≤ 0x1A then true
  else if op = 0x1B ∨ op = 0x1C then b0 && rt0 && decide (fn ≤ 15)
  else if 0x20 ≤ op ∧ op ≤ 0x23 then true
  else if op = 0x24 ∨ op = 0x25 then bitsOf w 11 15 == 0
  else if op = 0x26 ∨ op = 0x3F then bitsOf w 0 26 == 0
  else if op = 0x27 then iMax w != 0 && iLoopLen w != 0
  else if op = 0x28 then bitsOf w 0 21 == 0
  else if op = 0x29 then d0 && b0 && rt0 && (decide (fn ≤ 15) || fn == 31)
  else if op = 0x2A then b0 && rt0 && decide (fn ≤ 1)
  else if op = 0x2B then d0 && bitsOf w 0 16 == 0
  else if op = 0x2C then d0 && iNb w == 0 && bitsOf w 0 4 == 0
  else if op = 0x2D then iTag w == 0 && bitsOf w 0 4 == 0
  else if op = 0x2E then d0 && a0 && bitsOf w 6 10 == 0
  else if op = 0x2F then bitsOf w 0 26 == 0
  else if 0x30 ≤ op ∧ op ≤ 0x32 then true
  else if op = 0x33 then b0 && rt0 && decide (fn ≤ 15)
  else if op = 0x34 ∨ op = 0x35 then d0 && rt0 && fn == 0
  else if op = 0x38 then d0 && a0 && b0 && rt0 && decide (fn ≤ 3)
  else if op = 0x3C then a0 && bitsOf w 8 8 == 0
  else if op = 0x3D then d0 && bitsOf w 8 8 == 0
  else if op = 0x3E then
    bitsOf w 9 2 == 0 &&
    (if fn = 0 then a0
     else if fn = 1 then b0
     else if fn = 2 then d0 && b0 && iT w == 0
     else if fn = 3 then d0 && a0 && b0
     else if fn = 4 then d0 && a0 && b0 && iT w == 0
     else false)
  else false

/-- Class A or M (R270). -/
def pyClassAM (w : Nat) : Bool := decide (0x01 ≤ iOp w) && decide (iOp w ≤ 0x1C)

/-- The Cycles figure (R273-R280). -/
def pyCycles (w : Nat) : Nat :=
  let op := iOp w
  if op = 0x01 then (if iFn w = 8 ∨ iFn w = 9 then 3 else if iFn w = 0x13 then 2 else 1)
  else if op = 0x1A then 48
  else if (0x10 ≤ op ∧ op ≤ 0x13) ∨ op = 0x18 then 6
  else if 0x30 ≤ op ∧ op ≤ 0x33 then 160
  else if op = 0x2D then (if iSid w < 32 then 6 else 40)
  else 1

/-- Whether an instruction writes register r (for the RELEASE rule of R283). -/
def pyWrites (w r : Nat) : Bool :=
  let op := iOp w
  let dst := (0x01 ≤ op ∧ op ≤ 0x0B) ∨ (0x10 ≤ op ∧ op ≤ 0x13) ∨ op = 0x18 ∨ (0x1A ≤ op ∧ op ≤ 0x1C) ∨ op = 0x2A
    ∨ op = 0x2D ∨ (0x30 ≤ op ∧ op ≤ 0x33) ∨ op = 0x3C ∨ (op = 0x3E ∧ iFn w = 0)
  (decide dst && iD w == r) || (op == 0x2D && iA w == r)

/-- The g registers an instruction reads or writes (R271). -/
def pyRegs (w : Nat) : List Nat :=
  let op := iOp w
  if op = 0x01 then [iD w, iA w, iB w]
  else if op = 0x09 then [iD w]
  else if 0x20 ≤ op ∧ op ≤ 0x23 then [iBA w, iBB w]
  else if op = 0x27 ∨ op = 0x28 then [iBA w]
  else if 0x24 ≤ op ∧ op ≤ 0x26 then []
  else if op = 0x29 ∨ op = 0x2B ∨ op = 0x2C ∨ op = 0x3D then [iA w]
  else if op = 0x2E ∨ op = 0x2F ∨ op = 0x38 ∨ op = 0x3F then []
  else if op = 0x34 ∨ op = 0x35 then [iA w, iB w]
  else if op = 0x33 then [iD w, iA w]
  else if op = 0x3C then [iD w]
  else if op = 0x3E then (if iFn w = 0 then [iD w] else if iFn w = 1 ∨ iFn w = 2 then [iA w] else [])
  else [iD w, iA w]

/-- Whether a word has an opcode, and for OP 0x01, 0x38 and 0x3E a function code, of the tables (R273-R280). -/
def pyKnown (w : Nat) : Bool :=
  let op := iOp w
  if op = 0x01 then decide (iFn w ≤ 0x13)
  else if op = 0x38 then decide (iFn w ≤ 3)
  else if op = 0x3E then decide (iFn w ≤ 4)
  else (decide (0x02 ≤ op) && decide (op ≤ 0x0B)) || (decide (0x10 ≤ op) && decide (op ≤ 0x1C))
    || (decide (0x20 ≤ op) && decide (op ≤ 0x35)) || op == 0x3C || op == 0x3D || op == 0x3F

end Sys2Proof.Machine
end

