-- ==== Sys2Proof/Machine/Loader.lean ====
section
/-! DEFINITION. Machine/Loader.lean: the checks of RULESET_COMMIT (R191, R167, R260, R283, R286, R287, R304) and the bounds
of a program image. -/

namespace Sys2Proof.Machine

open Sys2Proof

set_option cleanup.letToHave false

/-! Parse images (R162, R191) -/

/-- Bits of a parse instruction that its opcode uses, beside OP; none for a reserved opcode. -/
def pUsed (op : Nat) : Option Nat :=
  let d := 0x7 * 2 ^ 55
  let s := 0x7 * 2 ^ 52
  let c := 0x7 * 2 ^ 49
  let x := 0x1FF * 2 ^ 40
  let l := 0xFF * 2 ^ 32
  let imm := 0xFFFFFFFF
  ([(1, d + x + l), (2, d + x + l + 7), (3, d + imm), (4, d + s + 0x3F * 2 ^ 40), (5, d + s + 0x3F * 2 ^ 40),
    (6, d + s + imm), (7, d + s + imm), (8, d + s + imm), (9, s + imm), (10, c + 0x7FF), (11, c + x + l + 0xFFFF07FF),
    (12, x), (13, s), (14, x + l + 0x7F), (15, s + l + 0x7F), (16, s + l + 0x1FF), (17, x + 7), (18, 0), (19, 0xFF)] :
      List (Nat × Nat)).lookup op

/-- Window bytes an instruction reads from X on. -/
def pSpan (w : Nat) : Nat :=
  let op := pOp w
  if op = 1 ∨ op = 11 ∨ op = 14 then pL w else if op = 2 then (pImm w % 8 + pL w + 7) / 8 else 0

/-- Ranges of the fields of a parse instruction (REASON 0x02; EXTB counts the bytes its bits lie in, log entry 26). -/
def pFieldsOk (w : Nat) : Bool :=
  let op := pOp w
  let lo := fun (a b : Nat) => decide (a ≤ pL w) && decide (pL w ≤ b)
  let used := (pUsed op).getD 0
  (w % 2 ^ 58 &&& used == w % 2 ^ 58)
    && (if op = 1 then lo 1 8 else if op = 2 then lo 1 32 else if op = 11 then lo 1 2 else if op = 14 then lo 1 16
        else if op = 15 then lo 1 8 else if op = 16 then lo 1 64 else true)
    && decide (pX w + pSpan w ≤ 512)
    && (if op = 14 ∨ op = 15 then decide (pImm w + pL w ≤ 128) else true)
    && (if op = 16 then decide (416 ≤ pImm w) && decide (pImm w + pL w ≤ 512) else true)
    && (if op = 10 ∨ op = 11 then decide (pC w ≤ 4) else true)
    && (if op = 19 then decide (1 ≤ pImm w) && decide (pImm w ≤ 0xEF) else true)

/-- Index of the first element that fails a test. -/
def firstBad {α : Type} (l : List α) (bad : α → Bool) : Option Nat := l.findIdx? bad

/-- A refused check: REASON, ITEM, and RESULT0 and RESULT1 of REASON 0x07. -/
structure Refuse where
  reason : Nat
  item : Nat
  r0 : Nat := 0
  r1 : Nat := 0
  deriving DecidableEq, Repr

/-- The parse-image checks. -/
def Version.checkParse (v : Version) : Option Refuse :=
  let l := v.parse.map BitVec.toNat
  match firstBad l (fun w => (pUsed (pOp w)).isNone) with
  | some i => some { reason := 0x01, item := i }
  | none =>
    match firstBad l (fun w => !pFieldsOk w) with
    | some i => some { reason := 0x02, item := i }
    | none =>
      match firstBad l (fun w => (pOp w == 10 || pOp w == 11) && decide (l.length ≤ pImm w % 2048)) with
      | some i => some { reason := 0x03, item := i }
      | none =>
        match (List.range 4).find? (fun k => decide (l.length ≤ v.entries.getD k 2047)) with
        | some k => some { reason := 0x03, item := 0x800 + k }
        | none => none

/-! Templates and bindings (R166, R167, R179) -/

/-- The first fault of a stage's template. -/
def Binding.checkTemplate (b : Binding) (n width : Nat) : Option Refuse :=
  let item := fun (k : Nat) => some { reason := 0x05, item := n * 8 + k : Refuse }
  if (b.kind = 0 ∧ b.nseg ≠ 0) ∨ (b.kind ≠ 0 ∧ (b.nseg = 0 ∨ 8 < b.nseg)) then item 0
  else
    let lens := b.segs.map (fun g => bitsOf g 8 4 + 1)
    match (List.range 8).find? (fun k =>
      let g := b.segs.getD k 0
      if k < b.nseg then
        decide ((if bitOf g 7 then 128 else 64) < bitsOf g 0 7 + (bitsOf g 8 4 + 1))
          || decide (width < ((lens.take (k + 1)).sum))
      else g != 0) with
    | some k => item k
    | none => none

/-- The key width of a binding's table. -/
def State.bindWidth (s : State) (b : Binding) : Nat := keyWidth b.kind (Map.get s.path.tables {} b.table).family

/-- The first fault of the sixteen templates. -/
def State.checkTemplates (s : State) (v : Version) : Option Refuse :=
  (List.range 16).findSome? (fun n =>
    let b := Map.get v.bindings {} n
    b.checkTemplate n (s.bindWidth b))

/-- Whether two block runs share a block. -/
def runsMeet (a b : Binding) : Bool :=
  decide (a.tcamFirst < b.tcamFirst + b.tcamBlocks) && decide (b.tcamFirst < a.tcamFirst + a.tcamBlocks)

/-- The first fault of the sixteen bindings. -/
def State.checkBindings (s : State) (v : Version) : Option Refuse :=
  let bad := fun (n : Nat) =>
    let b := Map.get v.bindings {} n
    let t := Map.get s.path.tables {} b.table
    b.kind != 0 && (t.kind == 0 || b.kind == 6 || b.kind != t.kind || b.hbm != t.hbm
      || (b.kind == 5 && (decide (32 < b.tcamFirst + b.tcamBlocks)
        || (List.range n).any (fun m =>
          let c := Map.get v.bindings {} m
          c.kind == 5 && runsMeet b c))))
  ((List.range 16).find? bad).map (fun n => { reason := 0x06, item := n })

/-! Action records of a version (R191) -/

/-- An action record with its place: kind of place, stage or mirror session, index. -/
structure PlacedAction where
  place : Nat
  stage : Nat
  index : Nat
  action : Nat
  deriving DecidableEq, Repr

/-- The action records of a version: table entries it sees, miss actions, TCAM actions, mirror sessions. -/
def State.actionsOf (s : State) (v : Version) : List PlacedAction :=
  let st := List.range 16
  let b := fun (n : Nat) => Map.get v.bindings {} n
  let tables := st.flatMap (fun n =>
    if (b n).kind = 1 ∨ (b n).kind = 2 ∨ (b n).kind = 4 then
      ((Map.get s.path.tables {} (b n).table).entries.filter (fun e => e.visible v.num)).map
        (fun e => { place := 0, stage := n, index := e.place, action := e.action })
    else [])
  let miss := st.flatMap (fun n => if (b n).kind = 0 then [] else [{ place := 1, stage := n, index := 0, action := (b n).miss }])
  let tcam := st.flatMap (fun n =>
    if (b n).kind = 5 then
      (s.path.tcam.filter (fun e => bitOf e.2.slots (v.num % 4) && decide ((b n).tcamFirst * 1024 ≤ e.1)
        && decide (e.1 < ((b n).tcamFirst + (b n).tcamBlocks) * 1024))).map
        (fun e => { place := 2, stage := n, index := e.1, action := e.2.action })
    else [])
  let mirror := (List.range 15).map (fun m =>
    { place := 3, stage := m + 1, index := 0, action := Map.get v.mirrors 0 (m + 1) })
  tables ++ miss ++ tcam ++ mirror

/-- The fault of one action record, if any. -/
def State.checkAction (s : State) (v : Version) (p : PlacedAction) : Option Refuse :=
  let a := p.action
  let r0 := p.place + p.stage * 2 ^ 8 + p.index * 2 ^ 32
  let c := bitsOf a 16 12
  let foff := bitsOf a 160 9
  let fwid := bitsOf a 169 6
  if opsBit a 0 ∧ c ≠ 0 ∧ (v.chain c).isNone then some { reason := 0x07, item := c, r0 := r0, r1 := c }
  else if opsBit a 7 ∧ (foff < 416 ∨ 512 < foff + fwid + 1) then
    some { reason := 0x07, item := 0x1000 + foff, r0 := r0, r1 := foff + fwid * 2 ^ 16 }
  else if opsBit a 6 ∧ ¬ s.path.ctrAllocated (bitsOf a 136 20) then
    some { reason := 0x07, item := 0x2000, r0 := r0, r1 := bitsOf a 136 20 }
  else none

/-! Program structure (R283) -/

/-- A set of word indexes as a bit mask. -/
abbrev WordSet := Nat

/-- Whether an index is in a set. -/
def inSet (m : WordSet) (i : Nat) : Bool := bitOf m i

/-- A set with an index added. -/
def addSet (m : WordSet) (i : Nat) : WordSet := if bitOf m i then m else m + 2 ^ i

/-- Indexes where instructions may stand. -/
def wordOk (i : Nat) : Bool := decide (128 ≤ i) && decide (i ≤ 2047)

/-- The LOOPs of a set whose bodies hold an index: their own indexes, outermost first. -/
def Version.loopsAt (v : Version) (fn : WordSet) (i : Nat) : List Nat :=
  (List.range i).filter (fun j => inSet fn j && iOp (v.word j) == 0x27 && decide (i ≤ j + iLoopLen (v.word j)))

/-- Whether the RELEASE at i certainly has bit 0 of its mask set (R283 rule 5); `marks` are the branch targets and directory
entries. -/
def Version.releaseOk (v : Version) (marks loopEnds : WordSet) (i : Nat) : Bool :=
  let r := iA (v.word i)
  if r = 0 then false
  else
    match (List.range i).reverse.find? (fun j => pyWrites (v.word j) r) with
    | none => false
    | some j =>
      let w := v.word j
      let between := (List.range i).filter (fun k => decide (j < k))
      let straight := between.all (fun k => !inSet marks k && iOp (v.word k) != 0x25 && iOp (v.word k) != 0x26
        && iOp (v.word k) != 0x27 && !inSet loopEnds k) && !inSet marks i && !inSet loopEnds j
      let good := (iOp w == 0x04 && bitOf w 0) || (iOp w == 0x09 && iA w == 0 && bitOf w 0)
        || ((iOp w == 0x02 || iOp w == 0x05) && iA w == 0 && bitOf w 0)
      straight && good

/-- Where execution goes after the instruction at i, not entering a CALL; `ends` are words that end the run here. -/
def Version.succs (v : Version) (fn : WordSet) (stop : Nat → Bool) (i : Nat) : List Nat :=
  let w := v.word i
  let op := iOp w
  if stop i then []
  else if 0x20 ≤ op ∧ op ≤ 0x23 then [i + 1, i + iOff16 w]
  else if op = 0x24 then [iTarget w]
  else if op = 0x26 ∨ op = 0x38 then []
  else if op = 0x3E ∧ iFn w = 4 then []
  else if op = 0x27 then [i + 1, i + 1 + iLoopLen w]
  else if op = 0x28 then
    match (v.loopsAt fn i).getLast? with
    | some j => [i + 1, j + 1 + iLoopLen (v.word j)]
    | none => [i + 1]
  else [i + 1]

/-- Words reached from a list of starts, by following execution; `enter` also enters CALL targets. -/
def Version.reach (v : Version) (enter : Bool) (stop : Nat → Bool) : Nat → List Nat → WordSet → WordSet
  | 0, _, m => m
  | _ + 1, [], m => m
  | n + 1, i :: t, m =>
    if !wordOk i || inSet m i then Version.reach v enter stop n t m
    else
      let m := addSet m i
      let call := if enter && iOp (v.word i) == 0x25 then [iTarget (v.word i)] else []
      Version.reach v enter stop n (call ++ v.succs m stop i ++ t) m

/-- Enough steps for any image. -/
abbrev reachFuel : Nat := 8192

/-- The valid directory entries: index and entry. -/
def Version.dirs (v : Version) : List (Nat × Nat) :=
  ((List.range 64).map (fun k => (k, v.dir k))).filter (fun e => dirValid e.2)

/-- The kinds of an entry's paths: 0 START, 1 SUP, 2 a chain. -/
def entryKind (k : Nat) : Nat := min k 2

/-- Words of a set that satisfy a test, rising. -/
def setList (m : WordSet) (p : Nat → Bool) : List Nat := (List.range 2048).filter (fun i => inSet m i && p i)

/-- Everything the structural rules need of an image: the words reached, the branch targets and directory entries, the loop
ends, and the words of each function, `fns0` of those that run from START and `fns` of those that run from another entry. -/
structure Prog where
  all : WordSet
  marks : WordSet
  loopEnds : WordSet
  fns0 : List (Nat × WordSet)
  fns : List (Nat × WordSet)
  deriving DecidableEq, Repr

/-- Branch targets and directory entries, and loop ends, of the words reached. -/
def Version.marksOf (v : Version) (all : WordSet) : WordSet × WordSet :=
  let brs := setList all (fun i => decide (0x20 ≤ iOp (v.word i)) && decide (iOp (v.word i) ≤ 0x25))
  let tgt := fun (i : Nat) => if iOp (v.word i) ≤ 0x23 then i + iOff16 (v.word i) else iTarget (v.word i)
  ((brs.map tgt ++ v.dirs.map (fun e => dirEntry e.2)).foldl addSet 0,
   ((setList all (fun i => iOp (v.word i) == 0x27)).map (fun i => i + iLoopLen (v.word i))).foldl addSet 0)

/-- A RELEASE that certainly releases thread 0: a path of START ends there. -/
def Version.stopAt (v : Version) (m : WordSet × WordSet) (i : Nat) : Bool :=
  iOp (v.word i) == 0x3E && iFn (v.word i) == 2 && v.releaseOk m.1 m.2 i

/-- Entries of START, or of the other directory entries. -/
def Version.heads (v : Version) (start : Bool) : List Nat := (v.dirs.filter (fun e => (e.1 == 0) == start)).map (fun e => dirEntry e.2)

/-- Words reached from START, where `stop` ends a path, and from the other entries. -/
def Version.reachAll (v : Version) (stop : Nat → Bool) : WordSet × WordSet :=
  (v.reach true stop reachFuel (v.heads true) 0, v.reach true (fun _ => false) reachFuel (v.heads false) 0)

/-- The analysis of an image. Which RELEASE ends a path of START depends on the branch targets among the words reached, and
these on where START's paths end: the targets are found first as if none ended. -/
def Version.prog (v : Version) : Prog :=
  let u := fun (x : WordSet × WordSet) => x.1 ||| x.2
  let m0 := v.marksOf (u (v.reachAll (fun _ => false)))
  let m := v.marksOf (u (v.reachAll (v.stopAt m0)))
  let r := v.reachAll (v.stopAt m)
  let fns := fun (start : Bool) (stop : Nat → Bool) (all : WordSet) =>
    ((v.heads start ++ (setList all (fun i => iOp (v.word i) == 0x25)).map (fun i => iTarget (v.word i))).eraseDups).map
      (fun h => (h, v.reach false stop reachFuel [h] 0))
  { all := u r, marks := m.1, loopEnds := m.2, fns0 := fns true (v.stopAt m) r.1, fns := fns false (fun _ => false) r.2 }

/-- The words of a function as it runs from START, or from another entry. -/
def Prog.fn (p : Prog) (start : Bool) (h : Nat) : WordSet := ((if start then p.fns0 else p.fns).lookup h).getD 0

/-- CALL targets in a set. -/
def Version.callees (v : Version) (m : WordSet) : List Nat :=
  (setList m (fun i => iOp (v.word i) == 0x25)).map (fun i => iTarget (v.word i))

/-- Whether a call path from h nests more than `n` calls (a cycle nests without end). -/
def Version.tooDeep (v : Version) (p : Prog) (start : Bool) : Nat → Nat → Bool
  | 0, h => !(v.callees (p.fn start h)).isEmpty
  | n + 1, h => (v.callees (p.fn start h)).any (fun c => Version.tooDeep v p start n c)

/-- The deepest nest of loops on any path from h, the callers' loops counted; calls followed n deep. -/
def Version.loopDepth (v : Version) (p : Prog) (start : Bool) : Nat → Nat → Nat
  | 0, _ => 0
  | n + 1, h =>
    let m := p.fn start h
    ((setList m (fun _ => true)).map (fun i =>
      let here := (v.loopsAt m i).length
      if iOp (v.word i) = 0x27 then here + 1
      else if iOp (v.word i) = 0x25 then here + Version.loopDepth v p start n (iTarget (v.word i)) else here)).foldl max 0

/-- Rule 1 broken at a word of a function. -/
def Version.breaks1 (v : Version) (m : WordSet) (i : Nat) : Bool :=
  let w := v.word i
  let op := iOp w
  if 0x20 ≤ op ∧ op ≤ 0x24 then
    let t := if op = 0x24 then iTarget w else i + iOff16 w
    decide (t ≤ i) || !wordOk t || (v.loopsAt m i).getLast? != (v.loopsAt m t).getLast?
  else false

/-- Rule 2 broken at a LOOP. -/
def Version.breaks2 (v : Version) (m : WordSet) (i : Nat) : Bool :=
  let w := v.word i
  if iOp w = 0x27 then
    let e := i + iLoopLen w
    decide (2047 < e) || (match (v.loopsAt m i).getLast? with
      | some j => decide (j + iLoopLen (v.word j) < e)
      | none => false) || !pyClassAM (v.word e)
  else false

/-- Rule 3 broken at a BRKNZ. -/
def Version.breaks3 (v : Version) (m : WordSet) (i : Nat) : Bool :=
  iOp (v.word i) == 0x28 && (v.loopsAt m i).isEmpty

/-- Every function that can be running on a path from h, calls followed n deep. -/
def Version.running (v : Version) (p : Prog) (start : Bool) : Nat → Nat → List Nat
  | 0, h => [h]
  | n + 1, h => h :: (v.callees (p.fn start h)).flatMap (fun c => Version.running v p start n c)

/-- A word at which a path of an entry of kind k ends wrongly; `top` in the entry's own function (rule 5). -/
def Version.breaks5 (v : Version) (p : Prog) (k : Nat) (top : Bool) (m : WordSet) (i : Nat) : Bool :=
  let w := v.word i
  let op := iOp w
  if op = 0x38 then k != 2
  else if op = 0x3E ∧ iFn w = 4 then k != 1
  else if op = 0x26 then top
  else if k = 0 ∧ v.stopAt (p.marks, p.loopEnds) i then false
  else (v.succs m (fun _ => false) i).any (fun t => !wordOk t)

/-- The structural rules in order: the first broken one and the word (R304 checks 0x82-0x86). -/
def Version.checkStructure (v : Version) (p : Prog) : Option Refuse :=
  let bad := fun (reason : Nat) (f : WordSet → Nat → Bool) =>
    ((setList p.all (fun i => (p.fns0 ++ p.fns).any (fun x => inSet x.2 i && f x.2 i))).head?).map
      (fun i => { reason := reason, item := i : Refuse })
  match bad 0x82 v.breaks1 with
  | some r => some r
  | none =>
    match bad 0x83 v.breaks2 with
    | some r => some r
    | none =>
      match bad 0x84 v.breaks3 with
      | some r => some r
      | none =>
        let ents := v.dirs.map (fun e => (e.1 == 0, dirEntry e.2))
        let deep := (ents.find? (fun h => v.tooDeep p h.1 4 h.2)).map (·.2)
        let far := (setList p.all (fun i => iOp (v.word i) == 0x25 && !wordOk (iTarget (v.word i)))).head?
        let nest := (ents.find? (fun h => decide (4 < v.loopDepth p h.1 5 h.2))).map (·.2)
        match far.orElse (fun _ => deep.orElse (fun _ => nest)) with
        | some i => some { reason := 0x85, item := i }
        | none =>
          v.dirs.findSome? (fun e =>
            let h := dirEntry e.2
            (v.running p (e.1 == 0) 4 h).findSome? (fun f =>
              let m := p.fn (e.1 == 0) f
              ((setList m (fun i => v.breaks5 p (entryKind e.1) (f == h) m i)).head?).map
                (fun i => { reason := 0x86, item := i })))

/-! Bounds (R286) -/

/-- Bounds from each index of a region on: `l` holds those of the indexes after i. A path leaving the region ends. -/
def boundAt (l : List Nat) (i t : Nat) : Nat := if t ≤ i then 0 else l.getD (t - i - 1) 0

/-- Bounds of the region from index `lo`, `n` words long, loops nested at most `depth` deep; `wt` weighs an instruction,
`callee` gives a called function's bound, and a path ends at a word where `stop` holds (a RELEASE of START). The head of the answer is the bound from `lo`. -/
def Version.region (v : Version) (wt : Nat → Nat) (callee : Nat → Nat) (stop : Nat → Bool) (inLoop : Bool) : Nat → Nat → Nat → List Nat
  | 0, _, _ => []
  | depth + 1, lo, n =>
    (List.range n).foldl (fun l k =>
      let i := lo + n - 1 - k
      let w := v.word i
      let op := iOp w
      let nextB := boundAt l i (i + 1)
      let b :=
        if 0x20 ≤ op ∧ op ≤ 0x23 then max nextB (boundAt l i (i + iOff16 w))
        else if op = 0x24 then boundAt l i (iTarget w)
        else if op = 0x25 then callee (iTarget w) + nextB
        else if op = 0x26 ∨ op = 0x38 ∨ (op = 0x3E ∧ iFn w = 4) ∨ stop i then 0
        else if op = 0x27 then
          iMax w * ((Version.region v wt callee stop true depth (i + 1) (iLoopLen w)).headD 0)
            + boundAt l i (i + 1 + iLoopLen w)
        else if op = 0x28 ∧ inLoop then nextB
        else nextB
      (wt w + b) :: l) []

/-- Bound of the function that begins at h, with given bounds of its callees. -/
def Version.fnBound (v : Version) (wt : Nat → Nat) (callee : Nat → Nat) (stop : Nat → Bool) (h : Nat) : Nat :=
  (v.region wt callee stop false 5 h (2048 - h)).headD 0

/-- Bounds of every function, callees taken from the round before; five rounds reach the deepest call. -/
def Version.fnBounds (v : Version) (wt : Nat → Nat) (p : Prog) (start : Bool) : Nat → List (Nat × Nat)
  | 0 => []
  | n + 1 =>
    let t := Version.fnBounds v wt p start n
    (if start then p.fns0 else p.fns).map (fun f =>
      (f.1, v.fnBound wt (fun c => (t.lookup c).getD 0) (fun i => start && v.stopAt (p.marks, p.loopEnds) i) f.1))

/-- The two recomputed bounds of the entry that begins at h, START or another: slots and cycles. -/
def Version.bounds (v : Version) (p : Prog) (start : Bool) (h : Nat) : Nat × Nat :=
  (((v.fnBounds (fun _ => 1) p start 5).lookup h).getD 0, ((v.fnBounds pyCycles p start 5).lookup h).getD 0)

/-! The order of R304 -/

/-- Check 0x87: the directory. -/
def Version.checkDir (v : Version) : Option Refuse :=
  let bad := fun (k : Nat) =>
    let d := v.dir k
    if k < 2 ∧ ¬ dirValid d then true
    else if dirValid d then
      !wordOk (dirEntry d) || bitsOf d 24 8 != 0 || (if k < 2 then dirChain d != 0 else dirChain d == 0)
        || (decide (2 ≤ k) && (List.range k).any (fun j => decide (2 ≤ j) && dirValid (v.dir j) && dirChain (v.dir j) == dirChain d))
    else false
  if !v.hasImage then some { reason := 0x87, item := 0 }
  else ((List.range 64).find? bad).map (fun k => { reason := 0x87, item := k })

/-- Checks 0x88 and 0x89: the bounds. -/
def Version.checkBounds (v : Version) (p : Prog) : Option Refuse :=
  let bs := v.dirs.map (fun e => (e, v.bounds p (e.1 == 0) (dirEntry e.2)))
  match bs.find? (fun x => decide (65535 < x.2.1) || decide (65535 < x.2.2)) with
  | some x => some { reason := 0x88, item := x.1.1 }
  | none =>
    (bs.find? (fun x => x.2.1 != dirSlots x.1.2 || x.2.2 != dirCycles x.1.2)).map (fun x => { reason := 0x89, item := x.1.1 })

/-- A function's reservation for a budget (R296). -/
def shareSlots (share budget : Nat) : Nat := share * budget / 65536

/-- Checks 0x90-0x92 on the actions of a version, for shares by function, MARGIN and STRETCH (R302, R304). -/
def checkSchedule (acts : List PlacedAction) (v : Version) (shares : List (Nat × Nat)) (margin stretch : Nat) : Option Refuse :=
  let budget := 1024 * 15 - margin
  let pool := budget - (shares.map (fun x => shareSlots x.2 budget)).sum
  let named := acts.filterMap (fun p =>
    if opsBit p.action 0 then (v.chain (bitsOf p.action 16 12)).map (fun d => (p.action, d)) else none)
  let item := fun (r : Nat) (x : Nat × Nat) => { reason := r, item := dirChain x.2 : Refuse }
  let toFn := fun (a : Nat) => opsBit a 1 && bitsOf a 34 3 == 1
  match named.find? (fun x => decide (512 * (bitsOf x.1 28 6 + 1) < dirCycles x.2 * stretch + 64)) with
  | some x => some (item 0x90 x)
  | none =>
    match named.find? (fun x => toFn x.1 &&
      decide (shareSlots ((shares.lookup (bitsOf x.1 37 12)).getD 0) budget + pool < dirSlots x.2)) with
    | some x => some (item 0x91 x)
    | none => (named.find? (fun x => !toFn x.1 && decide (pool < dirSlots x.2))).map (item 0x92)

/-- A flow class policy is in range (check 0x93). -/
def policyOk (p : Nat) : Bool :=
  bitsOf p 0 2 != 3 && (bitsOf p 2 2 == 0 || bitsOf p 2 2 == 2) && decide (1 ≤ bitsOf p 4 4) && decide (bitsOf p 4 4 ≤ 8)
    && decide (p < 65536)

/-- The reset value of a flow class policy. -/
abbrev policyReset : Nat := 0x10

/-- ENGINE_SHARE by function. -/
def State.shares (s : State) : List (Nat × Nat) := s.funcs.map (fun x => (x.1, x.2.share))

/-- The engine-program checks of R304, in order. -/
def State.checkPrograms (s : State) (v : Version) : Option Refuse :=
  let p := v.prog
  match (setList p.all (fun i => !pyLegal (v.word i))).head? with
  | some i => some { reason := 0x81, item := i }
  | none =>
    match v.checkStructure p with
    | some r => some r
    | none =>
      match v.checkDir with
      | some r => some r
      | none =>
        match v.checkBounds p with
        | some r => some r
        | none =>
          match checkSchedule (s.actionsOf v) v s.shares (s.rd (F.DSP_BUDGET_CFG_MARGIN 0)) (s.rd (F.DSP_BUDGET_CFG_STRETCH 0)) with
          | some r => some r
          | none =>
            ((List.range 64).find? (fun c => !policyOk (Map.get v.policies policyReset c))).map
              (fun c => { reason := 0x93, item := c })

/-- Every check of RULESET_COMMIT after that of the version's number, in the order of R191. -/
def State.checkVersion (s : State) (v : Version) : Option Refuse :=
  match v.checkParse with
  | some r => some r
  | none =>
    match s.checkTemplates v with
    | some r => some r
    | none =>
      match s.checkBindings v with
      | some r => some r
      | none =>
        match (s.actionsOf v).findSome? (s.checkAction v) with
        | some r => some r
        | none => s.checkPrograms v

end Sys2Proof.Machine
end

