-- ==== Sys2Proof/Machine/Mailbox.lean ====
section
/-! DEFINITION. Machine/Mailbox.lean: mailboxes (R541-R550, R558, R559). A party is a number: 0 to 3 the management PF of that
attachment, 4 to 19 control core 0 to 15, 20 Grotto. -/

namespace Sys2Proof.Machine

open Sys2Proof

set_option cleanup.letToHave false

/-- Whether a party is a secure master (R542). -/
def secureParty (who : Nat) : Bool := decide (4 ≤ who)

/-- The party that a kind and an index of CFG (0 management PF, 1 control core, 2 Grotto) name. -/
def State.mbxReceiver (s : State) (m : Nat) : Nat :=
  let k := s.rd (F.MBX_CFG_RX_KIND m)
  let i := s.rd (F.MBX_CFG_RX_INDEX m)
  if k = 0 then i else if k = 1 then 4 + i else 20

/-- The sender of a channel, if it has one. -/
def State.mbxSender (s : State) (m c : Nat) : Option Nat :=
  let k := s.rd (F.MBX_CHAN_SENDER_KIND m c)
  let i := s.rd (F.MBX_CHAN_SENDER_INDEX m c)
  if k = 0 then none else if k = 1 then some (4 + i) else if k = 2 then some 20 else some i

/-- A party's current generation (R543). -/
def State.partyGen (s : State) (who : Nat) : Nat :=
  if who < 4 then (s.func (2 * who)).gen else Map.get s.mbx.gens 1 (who - 4)

/-- A party's generation after its reset: 4,095 wraps to 1 (R15). -/
def nextGen (g : Nat) : Nat := if g = 4095 then 1 else g + 1

/-- Whether a channel holds a message. -/
def State.mbxFull (s : State) (m c : Nat) : Bool := bitOf (s.rd (F.MBX_DOORBELL_FULL m)) c

/-! Interrupts (R544-R546) -/

/-- Whether the receiver interrupt of a management PF's mailbox stands. -/
def State.rxCond (s : State) (a : Nat) : Bool :=
  (List.range 16).any (fun m => s.mbxReceiver m == a
    && (s.rd (F.MBX_DOORBELL_FULL m) &&& (0xFFFFFFFF - s.rd (F.MBX_MASK_MASK m))) != 0)

/-- Whether the empty interrupt of a management PF stands: a set empty bit, not masked, of a channel it sends on. -/
def State.emptyCond (s : State) (a : Nat) : Bool :=
  (List.range 16).any (fun m => (List.range 32).any (fun c =>
    bitOf (s.rd (F.MBX_EMPTY_EMPTY m)) c && !bitOf (s.rd (F.MBX_EMPTY_MASK_EMASK m)) c && s.mbxSender m c == some a))

/-- A change of the mailboxes, with the conditions that became true (R546). -/
def State.mbxChange (s t : State) : State :=
  t.each (List.range 4) (fun t a =>
    let t := if !s.rxCond a && t.rxCond a then { t with mbx := { t.mbx with rxDue := Map.set t.mbx.rxDue false a true } } else t
    if !s.emptyCond a && t.emptyCond a then { t with mbx := { t.mbx with emptyDue := Map.set t.mbx.emptyDue false a true } } else t)

/-- The mailbox messages of a drip boundary (R546). -/
def State.mbxDrip (s : State) : State :=
  let rx := s.mbx.rxDue.map (·.1)
  let em := s.mbx.emptyDue.map (·.1)
  let s := { s with mbx := { s.mbx with rxDue := [], emptyDue := [] } }
  let s := s.each rx (fun t a => t.sendInt (2 * a) (t.rd (F.MBX_HOST_VEC_RX_VEC a)))
  s.each em (fun t a => t.sendInt (2 * a) (t.rd (F.MBX_HOST_VEC_EMPTY_VEC a)))

/-! Refusals (R542) -/

/-- An access is refused, counted, and recorded with its requester. -/
def State.mbxDeny (s : State) (who rid m off : Nat) : State :=
  let s := s.err R.MBX_DENIED_CNT
  s.accessFault 3 m off rid (s.cnt R.MBX_DENIED_CNT) (if who < 4 then some who else none)

/-- Whether a channel is closed to a party (R542). -/
def State.mbxClosed (s : State) (who m c : Nat) : Bool := s.rdB (F.MBX_CHAN_SECURE m c) && !secureParty who

/-! Messages (R543-R545, R559) -/

/-- Store a slot word: discarded while the doorbell bit is 1 (R543). -/
def State.mbxStore (s : State) (who rid m c w : Nat) (v : Word) : State :=
  if s.mbxClosed who m c then s.mbxDeny who rid m (R.MBX_SLOT m c w)
  else if s.mbxFull m c then s.err R.MBX_BUSY_CNT
  else s.setReg (R.MBX_SLOT m c w) v

/-- MBX_SLOT_STORE. -/
def execMbxSlotStore (who rid m c w : Nat) (v : Word) (s : State) : Out :=
  .next (if s.partyOpen who then s.mbxStore who rid m c w v else s.barRefuse (2 * who) false)

/-- Ring a channel: the sender's generation is recorded (R542, R543). -/
def State.mbxRing (s : State) (who rid m c : Nat) : State :=
  if s.mbxClosed who m c ∨ s.mbxSender m c ≠ some who then s.mbxDeny who rid m (R.MBX_DOORBELL m)
  else if s.mbxFull m c then s.err R.MBX_BUSY_CNT
  else
    let t := s.wr (F.MBX_DOORBELL_FULL m) (s.rd (F.MBX_DOORBELL_FULL m) + 2 ^ c)
    s.mbxChange (t.wr (F.MBX_CHAN_SENDER_GEN m c) (s.partyGen who))

/-- MBX_DOORBELL_WRITE. -/
def execMbxDoorbellWrite (who rid m c : Nat) (s : State) : Out :=
  .next (if s.partyOpen who then s.mbxRing who rid m c else s.barRefuse (2 * who) false)

/-- A channel is emptied: slot zeroed, doorbell bit cleared, cause recorded, empty bit set (R544, R547). -/
def State.mbxEmpty (s : State) (m c cause : Nat) : State :=
  let s := s.each (List.range 8) (fun t w => t.setReg (R.MBX_SLOT m c w) 0)
  let s := s.wr (F.MBX_DOORBELL_FULL m) (s.rd (F.MBX_DOORBELL_FULL m) - 2 ^ c)
  (s.wr (F.MBX_CHAN_EMPTY_CAUSE m c) cause).wr (F.MBX_EMPTY_EMPTY m) (s.rd (F.MBX_EMPTY_EMPTY m) ||| 2 ^ c)

/-- A read of a slot word: its value, and what the read does (R542, R544). -/
def State.mbxRead (s : State) (who rid m c w : Nat) : Word × State :=
  if s.mbxClosed who m c ∨ s.mbxReceiver m ≠ who then (0, s.mbxDeny who rid m (R.MBX_SLOT m c w))
  else
    let v := s.reg (R.MBX_SLOT m c w)
    (v, if w = 7 ∧ s.mbxFull m c then s.mbxChange (s.mbxEmpty m c 1) else s)

/-- MBX_SLOT_WORD7_READ: the read of word 7, or of its high half, takes the message. -/
def execMbxSlotWord7Read (who rid m c : Nat) (s : State) : Out :=
  if ¬ s.partyOpen who then .next (s.barRefuse (2 * who) true) else
  let (v, s) := s.mbxRead who rid m c 7
  .next (if who < 4 then s.emit (.readData who v.toNat) else s)

/-- Clear an empty bit: only for the channel's sender (R542, R545). -/
def State.mbxClear (s : State) (who rid m c : Nat) : State :=
  if s.mbxClosed who m c then s.mbxDeny who rid m (R.MBX_EMPTY m)
  else if s.mbxSender m c = some who then
    s.wr (F.MBX_EMPTY_EMPTY m) (s.rd (F.MBX_EMPTY_EMPTY m) &&& (0xFFFFFFFF - 2 ^ c))
  else s

/-- MBX_EMPTY_CLEAR. -/
def execMbxEmptyClear (who rid m c : Nat) (s : State) : Out :=
  .next (if s.partyOpen who then s.mbxClear who rid m c else s.barRefuse (2 * who) false)

/-- Write MBX_MASK (`empty` false) or MBX_EMPTY_MASK: only the writer's own bits change (R559). -/
def State.mbxMask (s : State) (who m : Nat) (empty : Bool) (v : Nat) : State :=
  if empty then
    let own := (List.range 32).foldl (fun n c => if s.mbxSender m c = some who then n + 2 ^ c else n) 0
    let f := F.MBX_EMPTY_MASK_EMASK m
    s.mbxChange (s.wr f ((s.rd f &&& (0xFFFFFFFF - own)) ||| (v &&& own)))
  else if s.mbxReceiver m = who then s.mbxChange (s.wr (F.MBX_MASK_MASK m) v)
  else s

/-- MBX_MASK_WRITE. -/
def execMbxMaskWrite (who m : Nat) (empty : Bool) (v : Nat) (s : State) : Out :=
  .next (if s.partyOpen who then s.mbxMask who m empty v else s.barRefuse (2 * who) false)

/-! Resets of the parties (R547, R548) -/

/-- A mailbox's receiver is reset. -/
def State.mbxRxReset (s : State) (m : Nat) : State :=
  let t := s.each ((List.range 32).filter (fun c => s.mbxFull m c)) (fun t c => t.mbxEmpty m c 2)
  s.mbxChange (t.wr (F.MBX_MASK_MASK m) 0xFFFFFFFF)

/-- The receiver resets of a party. -/
def State.mbxPartyReset (s : State) (who : Nat) : State :=
  s.each ((List.range 16).filter (fun m => s.mbxReceiver m == who)) (fun t m => t.mbxRxReset m)

/-- A control core (4 to 19) or Grotto (20) is reset: its generation counts, and its mailboxes empty. -/
def State.coreReset (s : State) (who : Nat) : State :=
  let s := { s with mbx := { s.mbx with gens := Map.upd s.mbx.gens 1 (who - 4) nextGen } }
  s.mbxPartyReset who

end Sys2Proof.Machine
end

