-- ==== Sys2Proof/Machine/FuncReset.lean ====
section
/-! DEFINITION. Machine/FuncReset.lean: the reset of a function: Function Level Reset (R458-R460, R520), the other causes that act as it
does (R461, R467, R482), and its completion. -/

namespace Sys2Proof.Machine

open Sys2Proof

set_option cleanup.letToHave false

/-- Whether reads or old-generation reads of a function are outstanding. -/
def State.readsOut (s : State) (f : Nat) : Bool := s.reads.any (fun r => r.func == f)

/-- A function after the start of its reset: allotments, share, read cap and sticky AER bits stay (R458, R495). -/
def Func.atReset (x : Func) (out : Bool) : Func :=
  { created := x.created, resetting := true, resetCmd := x.resetCmd, gen := nextGen x.gen, qpAllot := x.qpAllot,
    vecAllot := x.vecAllot, vecTable := x.vecAllot, tmFirst := x.tmFirst, tmCount := x.tmCount, share := x.share,
    readCap := x.readCap, aer := x.aer, cfg := { transPending := out },
    tdi := if x.tdi = .unlocked then .unlocked else .error, tdiNonce := x.tdiNonce, tdiStream := x.tdiStream }

/-- Commands that function f issued and that have not completed are abandoned; GRT_LAST_CMD says so of a critical one (R514, R628). -/
def State.abandon (s : State) (f : Nat) : State :=
  let s := match (s.func f).cur with
    | some c =>
      if c.begun && critOp c.op then
        s.setReg R.GRT_LAST_CMD (BitVec.ofNat 64 (c.op + 0xFF * 2 ^ 8 + bitsOf (c.word 0x48) 0 2 * 2 ^ 16 + s.attOf f * 2 ^ 18 + c.target * 2 ^ 20))
      else s
    | none => s
  let mine := fun (n : Option Nat) => if n = some f then none else n
  let fs := s.funcs.map (fun (e : Nat × Func) => (e.1, { e.2 with resetCmd := mine e.2.resetCmd }))
  let s := { s with
    adminOrder := s.adminOrder.filter (· ≠ f),
    held := s.held.filter (fun h => h.1 != f),
    path := { s.path with commit := s.path.commit.filter (fun c => c.fn != f) },
    fst := { s.fst with applyFns := s.fst.applyFns.filter (· ≠ f), stepReqs := s.fst.stepReqs.filter (fun q => q.fn != f) },
    funcs := fs }
  s.each (List.range 8) (fun t p =>
    if (t.gate p).copying.any (fun x => x.1 == f) then
      (t.setGate p { t.gate p with copying := (t.gate p).copying.filter (fun x => x.1 != f) }).showGate p
    else t)

/-- A TDI in CONFIG_LOCKED or RUN goes to ERROR and raises TDI_ERROR (R467). -/
def State.tdiError (s : State) (f : Nat) : State :=
  if (s.func f).tdi = .locked ∨ (s.func f).tdi = .run then
    (s.updFunc f (fun x => { x with tdi := .error })).raiseBit F.HIF_INT_STATUS_TDI_ERROR (s.attOf f)
  else s

/-- Queues of a function that leave ENABLED. -/
def State.queuesOff (s : State) (f : Nat) (st : QState) : State :=
  s.each ((s.func f).queues.filter (fun e => e.1 / 4096 != 9 && decide (e.2.st = .enabled)))
    (fun t e => t.queueHalt f (e.1 / 4096) (e.1 % 4096) st)

/-- Queues of a locked interface are stopped, its reads discarded, and it goes to ERROR (R467). -/
def State.tdiStop (s : State) (f : Nat) : State :=
  if (s.func f).tdi = .locked ∨ (s.func f).tdi = .run then
    let s := (s.queuesOff f .stopped).tdiError f
    let rs := s.reads.map (fun (r : Read) => if r.func = f then { r with discard := true } else r)
    { s with reads := rs }
  else s

/-- Registers that show configuration-space fields of the management PF of attachment a, which its reset puts back: the completion
timeout, the PTM granularity and the IDE streams (R449, R458, R476; log entry 73). -/
def State.cfgShownReset (s : State) (a : Nat) : State :=
  let s := (s.wr (F.HIF_CTO_EFFECTIVE a) 50).wr (F.FST_PTM_STATUS_GRAN a) 0
  s.each (List.range 9) (fun t k => t.setReg (R.HIF_IDE_STATUS a k) 0)

/-- The reset of one function begins: generation, configuration space, queues and rings, its sample sets (R354, R458, R495, R520). -/
def State.resetOne (s : State) (f : Nat) : State :=
  let x := s.func f
  let s := s.tdiError f
  let s := s.abandon f
  let s := if x.cfg.intxOn then s.emit (.intx f false) else s
  let s := s.updFunc f (fun x => x.atReset (s.readsOut f))
  let s := { s with readWait := s.readWait.filter (fun r => r.func != f) }
  let s := s.each (List.range 16) (fun t k =>
    if t.rdB (F.TMG_SAMPLE_CFG_ENABLE k) ∧ t.rd (F.TMG_SAMPLE_CFG_FUNC k) = f then
      (t.wrB (F.TMG_SAMPLE_CFG_ENABLE k) false).wrB (F.TMG_SAMPLE_STATUS_ACTIVE k) false
    else t)
  if isMgmt f then (s.cfgShownReset (f / 2)).mbxPartyReset (f / 2) else s

/-- The reset of function f: a bulk PF takes the VFs of its attachment along, and VF Enable is cleared with its configuration
(R460). -/
def State.resetFunc (s : State) (f : Nat) : State :=
  let s := s.resetOne f
  if f < 8 ∧ f % 2 = 1 then s.each ((s.funcsOf (f / 2)).filter isVf) (fun t v => t.resetOne v) else s

/-- FLR_INITIATE: the host sets Initiate FLR of a function (R458). -/
def execFlrInitiate (f : Nat) (s : State) : Out := .next (s.resetFunc f)

/-- The allotments of a function go back to their pools, its traffic-manager queues are disabled, and it is not created (R482, R484). -/
def State.returnAll (s : State) (f : Nat) : State :=
  let x := s.func f
  let s := s.each (List.range x.tmCount) (fun t i => t.tmStore tQueue (x.tmFirst + i) (putBits (Map.get t.tm.tbl 0 (tmKey tQueue (x.tmFirst + i))) 11 1 0))
  s.updFunc f (fun x => { x with created := false, qpAllot := 0, vecAllot := 0, vecTable := 0, tmFirst := 0, tmCount := 0, share := 0 })

/-- FLR_COMPLETE: the function's reads are answered or discarded and its contexts zeroed (R375, R426, R458); a FUNCTION_DESTROY that
waited completes. -/
def execFlrComplete (f : Nat) (s : State) : Out :=
  let x := s.func f
  if x.resetting then
    let s := (s.cryReset f).stoReset f
    let s := s.updFunc f (fun x => { x with resetting := false, resetCmd := none, cfg := { x.cfg with transPending := false } })
    let s := s.stat (R.HIF_FLR_CNT (s.attOf f))
    match x.resetCmd with
    | some i => .next ((s.returnAll f).admDone i stSuccess)
    | none => .next s
  else .next s

end Sys2Proof.Machine
end

