-- ==== Sys2Proof/Machine/Functions.lean ====
section
/-! DEFINITION. Machine/Functions.lean: admin commands on functions, their shares and allotments (R478-R484), completion rings and
queues (R492-R494, R516, R519), interrupt moderation (R504) and the clock page (R139). -/

namespace Sys2Proof.Machine

open Sys2Proof

set_option cleanup.letToHave false

/-- IDENTIFY_FUNCTION (R512). -/
def execIdentifyFunction (f : Nat) (s : State) : Out :=
  .next (s.admRun f 0x01 false [] (fun _ => true) (fun s c => s.admDone f stSuccess (s.identity c.target)))

/-! Pools and shares (R480-R484) -/

/-- What is taken of a pool. -/
def State.taken (s : State) (g : Func → Nat) : Nat := (s.funcs.map (fun e => if e.2.created then g e.2 else 0)).sum

/-- Whether a range of traffic-manager queues overlaps one held by another function. -/
def State.tmOverlap (s : State) (f first count : Nat) : Bool :=
  s.funcs.any (fun e => e.1 != f && e.2.created && decide (0 < count) && decide (0 < e.2.tmCount)
    && decide (first < e.2.tmFirst + e.2.tmCount) && decide (e.2.tmFirst < first + count))

/-- FUNCTION_CREATE (R481). -/
def execFunctionCreate (f : Nat) (s : State) : Out :=
  .next (s.admCrit f 0x02 [0x7FF1FFF, 0x1FFFFFFFF, 0x1FFFF]
    (fun c => decide (bitsOf (c.word 8) 0 13 ≤ 4096) && decide (bitsOf (c.word 8) 16 11 ≤ 1024)
      && decide (bitsOf (c.word 16) 0 16 + bitsOf (c.word 16) 16 17 ≤ 65536) && decide (c.word 24 ≤ 65536))
    (fun s c =>
      let t := c.target
      let x := s.func t
      let qp := bitsOf (c.word 8) 0 13
      let vec := bitsOf (c.word 8) 16 11
      let first := bitsOf (c.word 16) 0 16
      let count := bitsOf (c.word 16) 16 17
      let share := c.word 24
      if x.created ∨ isMgmt t ∨ s.present (s.attOf t) = false then s.admDone f stBadField
      else if 65536 < s.taken Func.qpAllot + qp ∨ 16384 < s.taken Func.vecAllot + vec ∨ 65536 < s.taken Func.share + share
          ∨ s.tmOverlap t first count then s.admDone f stNoResource
      else
        (s.setFunc t { x with created := true, gen := nextGen x.gen, qpAllot := qp, vecAllot := vec, vecTable := vec, tmFirst := first,
                              tmCount := count, share := share }).admDone f stSuccess))

/-- FUNCTION_DESTROY: the reset begins, and the command completes with it (R467, R482). -/
def execFunctionDestroy (f : Nat) (s : State) : Out :=
  .next (s.admCrit f 0x03 [] (fun _ => true) (fun s c =>
    if isMgmt c.target ∨ (s.func c.target).created = false then s.admDone f stBadField
    else ((s.admWait f).resetFunc c.target).updFunc c.target (fun x => { x with resetCmd := some f })))

/-- ALLOTMENT_CHANGED to the function; a locked interface leaves CONFIG_LOCKED or RUN (R467, R484). -/
def State.shareDone (s : State) (f t res : Nat) : State :=
  ((s.tdiStop t).event t 0x0040 0 res 0 0).admDone f stSuccess

/-- A change that the schedule of the current version must bear (R302). -/
def State.schedulable (s : State) (shares : List (Nat × Nat)) (margin stretch : Nat) : Option Refuse :=
  let v := s.ver (s.rd F.MAT_VER_STATUS_CURRENT)
  if s.rd F.PRS_STATUS_RULESET = 0 then none else checkSchedule (s.actionsOf v) v shares margin stretch

/-- SHARE_SET ENGINE. -/
def State.shareEngine (s : State) (f t v : Nat) : State :=
  let x := s.func t
  if 65536 < s.taken Func.share - x.share + v then s.admDone f stNoResource
  else
    let s1 := s.setFunc t { x with share := v }
    match s.schedulable s1.shares (s.rd (F.DSP_BUDGET_CFG_MARGIN 0)) (s.rd (F.DSP_BUDGET_CFG_STRETCH 0)) with
    | some r => s.admDone f stUnschedulable { detail := r.reason, item := r.item }
    | none => s1.shareDone f t 0

/-- SHARE_SET BUDGET: MARGIN and STRETCH of every gallery at once (R301). -/
def State.shareBudget (s : State) (f margin stretch : Nat) : State :=
  match s.schedulable s.shares margin stretch with
  | some r => s.admDone f stUnschedulable { detail := r.reason, item := r.item }
  | none =>
    (s.each (List.range 64) (fun t g => (t.wr (F.DSP_BUDGET_CFG_MARGIN g) margin).wr (F.DSP_BUDGET_CFG_STRETCH g) stretch)).admDone f stSuccess

/-- SHARE_SET GROUP (R359). -/
def State.shareGroup (s : State) (f g profile share : Nat) : State :=
  let old := Map.get s.tm.tbl 0 (tmKey tGroup g)
  (s.tmStore tGroup g (putBits (putBits old 32 13 profile) 88 18 share)).admDone f stSuccess

/-- The operand bits of SHARE_SET in use, by RESOURCE (R483). -/
def shareMasks (res : Nat) : List Nat :=
  0xF :: (([[0x1FFFF], [0xFFFFF], [0x7FF, 0x3FFFF00001FFF], [0x1FFF], [0x7FF], [0x1FFFFFFFF]] : List (List Nat)).getD res [])

/-- Whether the operands of SHARE_SET are in range (R301, R359, R480, R483). -/
def shareGood (c : AdmCmd) : Bool :=
  let res := bitsOf (c.word 8) 0 4
  let v0 := c.word 16
  let v1 := c.word 24
  decide (res < 6) &&
    (if res = 0 then decide (c.target < 2056) && decide (v0 ≤ 65536)
     else if res = 1 then decide (32 ≤ bitsOf v0 0 16) && decide (bitsOf v0 0 16 ≤ 8192) && decide (1 ≤ bitsOf v0 16 4) && decide (bitsOf v0 16 4 ≤ 8)
     else if res = 2 then decide (bitsOf v1 0 13 ≤ 8191) && decide (bitsOf v1 32 18 ≤ 180224)
     else if res = 3 then decide (c.target < 2056) && decide (v0 ≤ 4096)
     else if res = 4 then decide (c.target < 2056) && decide (v0 ≤ 1024)
     else decide (c.target < 2056) && decide (bitsOf v0 0 16 + bitsOf v0 16 17 ≤ 65536))

/-- SHARE_SET on a created function; TARGET is looked at only where RESOURCE uses it (R483, R484). -/
def State.shareSet (s : State) (f : Nat) (c : AdmCmd) : State :=
  let res := bitsOf (c.word 8) 0 4
  let v0 := c.word 16
  let t := c.target
  let x := s.func t
  if res = 1 then s.shareBudget f (bitsOf v0 0 16) (bitsOf v0 16 4)
  else if res = 2 then s.shareGroup f v0 (bitsOf (c.word 24) 0 13) (bitsOf (c.word 24) 32 18)
  else if x.created = false then s.admDone f stBadField
  else if res = 0 then s.shareEngine f t v0
  else if res = 3 then
    if 65536 < s.taken Func.qpAllot - x.qpAllot + v0 ∧ x.qpAllot < v0 then s.admDone f stNoResource
    else (s.setFunc t { x with qpAllot := v0 }).shareDone f t 3
  else if res = 4 then
    if 16384 < s.taken Func.vecAllot - x.vecAllot + v0 ∧ x.vecAllot < v0 then s.admDone f stNoResource
    else (s.setFunc t { x with vecAllot := v0 }).shareDone f t 4
  else if s.tmOverlap t (bitsOf v0 0 16) (bitsOf v0 16 17) then s.admDone f stNoResource
  else (s.setFunc t { x with tmFirst := bitsOf v0 0 16, tmCount := bitsOf v0 16 17 }).shareDone f t 5

/-- SHARE_SET (R301, R483): its operand masks depend on RESOURCE. -/
def execShareSet (f : Nat) (s : State) : Out :=
  .next (match s.admCmd f 0x04 true with
    | none => s
    | some c0 =>
      s.admCrit f 0x04 (shareMasks (bitsOf (c0.word 8) 0 4)) shareGood (fun s c => s.shareSet f c))

/-! Completion rings (R492, R494) -/

/-- Whether the queue set of a function is frozen for a locked interface (R467). -/
def State.frozen (s : State) (t : Nat) : Bool := (s.func t).tdi == .locked || (s.func t).tdi == .run

/-- CQ_CREATE. -/
def execCqCreate (f : Nat) (s : State) : Out :=
  .next (s.admRun f 0x05 false [0x103FF001F0FFF, 0xFFFFFFFFFFFFFFFF]
    (fun c => decide (6 ≤ bitsOf (c.word 8) 16 5) && decide (bitsOf (c.word 8) 16 5 ≤ 16) && c.word 16 % 4096 == 0)
    (fun s c =>
      let x := s.func c.target
      let n := bitsOf (c.word 8) 0 12
      if x.created = false ∨ x.vecTable ≤ bitsOf (c.word 8) 32 10 then s.admDone f stBadField
      else if s.frozen c.target then s.admDone f stNotPermitted
      else if x.cqs.any (fun e => e.1 == n) then s.admDone f stBusy
      else if x.qpAllot ≤ x.cqs.length then s.admDone f stNoResource
      else
        let r : OutRing := { on := true, base := c.word 16, log2 := bitsOf (c.word 8) 16 5,
                             mod := { vec := bitsOf (c.word 8) 32 10, intEn := bitOf (c.word 8) 48 } }
        (s.setFunc c.target { x with cqs := Map.set x.cqs {} n r }).admDone f stSuccess))

/-- CQ_DESTROY: BUSY while a queue names the ring. -/
def execCqDestroy (f : Nat) (s : State) : Out :=
  .next (s.admRun f 0x06 false [0xFFF] (fun _ => true) (fun s c =>
    let x := s.func c.target
    let n := c.word 8
    if x.cqs.any (fun e => e.1 == n) = false then s.admDone f stBadField
    else if s.frozen c.target then s.admDone f stNotPermitted
    else if x.queues.any (fun e => decide (e.1 / 4096 ≤ 1) && e.2.cq == n) then s.admDone f stBusy
    else (s.setFunc c.target { x with cqs := Map.erase x.cqs n }).admDone f stSuccess))

/-! Queues (R493, R494, R516, R519) -/

/-- Features offered to virtio-net and virtio-blk (R402, R516). -/
def featsOf (kind : Nat) : Nat :=
  if kind = 6 then 2 ^ 32 + 2 ^ 34 + 2 ^ 33 + 2 ^ 29 + 2 ^ 5 + 2 ^ 3 + 2 ^ 15 + 2 ^ 16
  else 2 ^ 32 + 2 ^ 34 + 2 ^ 33 + 2 ^ 1 + 2 ^ 2 + 2 ^ 6 + 2 ^ 9 + 2 ^ 10 + 2 ^ 12 + 2 ^ 13 + 2 ^ 14

/-- Whether FEATURES is acceptable: offered, VERSION_1, that of the function's other virtqueues of the kind, and agreeing with
PACKED (R516). -/
def Func.featsOk (x : Func) (kind feats : Nat) (packed : Bool) : Bool :=
  (feats &&& featsOf kind == feats) && bitOf feats 32 && (bitOf feats 34 == packed)
    && x.queues.all (fun e => e.1 / 4096 != kind || e.2.feats == feats)

/-- Whether the size and base of a new queue of a kind are in range (R492, R519). -/
def queueShape (kind log2 base : Nat) : Bool :=
  if kind ≤ 1 then decide (6 ≤ log2) && decide (log2 ≤ 16) && base % 4096 == 0
  else if kind = 8 then decide (1 ≤ log2) && decide (log2 ≤ 12) && base % 4096 == 0
  else (kind == 6 || kind == 7) && decide (log2 ≤ 15)

/-- Whether the function has what the kind needs: a controller for block and NVMe queues (R402, R517, R519), a vector in range, features. -/
def State.queueGood (s : State) (t : Nat) (c : AdmCmd) : Bool :=
  let w := c.word 8
  let kind := bitsOf w 12 4
  let x := s.func t
  let ctrl := match s.ctrlOf t with | some (_, k) => some k.kind | none => none
  x.created && (decide (kind < 6) || decide (bitsOf (c.word 0x28) 0 11 < x.vecTable))
    && (if kind = 6 then x.featsOk 6 (c.word 0x30) (bitOf w 22)
        else if kind = 7 then x.featsOk 7 (c.word 0x30) (bitOf w 22) && decide (bitsOf w 0 12 < 64) && ctrl == some 1
        else if kind = 8 then bitsOf w 0 12 == 0 && ctrl == some 0 else true)

/-- The new queue. Positions of a packed ring begin with wrap counter 1. -/
def newQueue (c : AdmCmd) : Queue :=
  let w := c.word 8
  let kind := bitsOf w 12 4
  let p := decide (6 ≤ kind) && decide (kind ≤ 7) && bitOf w 22
  let i := if p then 0x8000 else 0
  let l := bitsOf w 16 5
  { base := c.word 0x10, log2 := l, roPayload := bitOf w 21, packed := p, cq := if kind ≤ 1 then bitsOf w 32 12 else 0,
    drv := if kind ≤ 1 then 0 else c.word 0x18, dev := if kind ≤ 1 then 0 else c.word 0x20,
    vec := bitsOf (c.word 0x28) 0 11, feats := if kind = 6 ∨ kind = 7 then c.word 0x30 else 0, size := 2 ^ l,
    ci := i, pi := i, got := i, used := i }

/-- QUEUE_CREATE: a queue in DISABLED; kind 8 brings the NVMe admin completion queue with it (R493, R519). -/
def execQueueCreate (f : Nat) (s : State) : Out :=
  .next (s.admRun f 0x07 false
    [0xFFF007FFFFF, 0xFFFFFFFFFFFFFFFF, 0xFFFFFFFFFFFFFFFF, 0xFFFFFFFFFFFFFFFF, 0x7FF, 0xFFFFFFFFFFFFFFFF]
    (fun c => queueShape (bitsOf (c.word 8) 12 4) (bitsOf (c.word 8) 16 5) (c.word 0x10))
    (fun s c =>
      let t := c.target
      let x := s.func t
      let kind := bitsOf (c.word 8) 12 4
      let q := bitsOf (c.word 8) 0 12
      if s.queueGood t c = false then s.admDone f stBadField
      else if s.frozen t then s.admDone f stNotPermitted
      else if s.hasQue t kind q then s.admDone f stBusy
      else if x.qpAllot ≤ x.qpUsed then s.admDone f stNoResource
      else
        let y := newQueue c
        let s := s.setFunc t { x with qpUsed := x.qpUsed + 1, queues := Map.set x.queues {} (qKey kind q) y }
        let s := if kind = 8 then
            s.updQue t 9 0 (fun _ => { base := c.word 0x18, log2 := y.log2, size := y.size, vec := y.vec, ien := true, st := .enabled })
          else s
        s.admDone f stSuccess))

/-- A command on an existing queue. -/
def State.queueCmd (s : State) (f op : Nat) (k : State → Nat → Nat → Nat → State) : State :=
  s.admRun f op false [0xFFFF] (fun _ => true) (fun s c =>
    let kind := bitsOf (c.word 8) 12 4
    let q := bitsOf (c.word 8) 0 12
    if s.hasQue c.target kind q = false ∨ kind = 9 then s.admDone f stBadField else k s c.target kind q)

/-- QUEUE_DESTROY: only a DISABLED queue; its unit returns to the allotment. -/
def execQueueDestroy (f : Nat) (s : State) : Out :=
  .next (s.queueCmd f 0x08 (fun s t kind q =>
    if s.frozen t then s.admDone f stNotPermitted
    else if (s.que t kind q).st ≠ .disabled then s.admDone f stBusy
    else
      let s := s.dropQue t kind q
      let s := if kind = 8 ∧ q = 0 then s.dropQue t 9 0 else s
      (s.updFunc t (fun x => { x with qpUsed := x.qpUsed - 1 })).admDone f stSuccess))

/-- QUEUE_ENABLE: fetching starts, or goes on where it stopped (R493, R494). -/
def execQueueEnable (f : Nat) (s : State) : Out :=
  .next (s.queueCmd f 0x09 (fun s t kind q =>
    let x := s.que t kind q
    if (s.func t).cfg.master = false then s.admDone f stNotPermitted
    else if kind ≤ 1 ∧ (s.func t).cqs.any (fun e => e.1 == x.cq) = false then s.admDone f stNotPermitted
    else
      let s := s.updQue t kind q (fun y => { y with st := .enabled })
      (if kind = 0 then s else s.askEntries t kind q).admDone f stSuccess))

/-- QUEUE_DISABLE begins: the queue fetches no more and its reads are discarded; a DISABLED queue completes at once. -/
def execQueueDisable (f : Nat) (s : State) : Out :=
  .next (s.queueCmd f 0x0A (fun s t kind q =>
    if (s.que t kind q).st = .disabled then s.admDone f stSuccess
    else ((s.queueHalt t kind q (s.que t kind q).st).updQue t kind q (fun y => { y with disabling := true })).admWait f))

/-- QUEUE_DISABLE_COMPLETE: the queue's reads are answered, or `late` twice the effective completion timeout has passed: indexes to 0,
reserved completion entries free (R493, R494). A reset of TARGET meanwhile has ended the queue already (R495). -/
def execQueueDisableComplete (f : Nat) (late : Bool) (s : State) : Out :=
  match (s.func f).cur with
  | none => .next s
  | some c =>
    let t := c.target
    let kind := bitsOf (c.word 8) 12 4
    let q := bitsOf (c.word 8) 0 12
    let x := s.que t kind q
    if c.op ≠ 0x0A ∨ ¬ c.begun then .next s
    else if ¬ s.hasQue t kind q then .next (s.admDone f stSuccess)
    else if ¬ x.disabling ∨ (s.queueBusy t kind q ∧ ¬ late) then .next s
    else
      let st := if s.queueBusy t kind q then stTimeout else stSuccess
      let i := if x.packed then 0x8000 else 0
      let s := if kind ≤ 1 then s.unreserve t x.cq (if kind = 0 then x.txPend.length else x.rxPend.length) else s
      let s := s.updQue t kind q (fun y => { y with
        st := .disabled, disabling := false, ci := i, pi := i, got := i, used := i, phase := true, sqHead := 0, sigUsed := 0, notify := false,
        txPend := [], rxPend := [], skip := false })
      let s := if kind = 8 ∧ q = 0 then s.updQue t 9 0 (fun y => { y with used := 0, cqHead := 0, phase := true }) else s
      .next (s.admDone f st)

/-! Moderation and the clock page -/

/-- MODERATION_SET: COUNT and DRIPS of a completion ring, the event ring or the admin completion ring (R504). -/
def execModerationSet (f : Nat) (s : State) : Out :=
  .next (s.admRun f 0x0C false [0x3FFF, 0xFFFFFFFF]
    (fun c => decide (1 ≤ bitsOf (c.word 16) 0 16) && decide (bitsOf (c.word 8) 12 2 ≠ 3)) (fun s c =>
    let x := s.func c.target
    let n := bitsOf (c.word 8) 0 12
    let set := fun (r : OutRing) => { r with mod := { r.mod with count := bitsOf (c.word 16) 0 16, drips := bitsOf (c.word 16) 16 16 } }
    if bitOf (c.word 8) 12 then
      if x.evt.on then (s.setFunc c.target { x with evt := set x.evt }).admDone f stSuccess else s.admDone f stBadField
    else if bitOf (c.word 8) 13 then
      if x.admCpl.on then (s.setFunc c.target { x with admCpl := set x.admCpl }).admDone f stSuccess else s.admDone f stBadField
    else if x.cqs.any (fun e => e.1 == n) then (s.setFunc c.target { x with cqs := Map.upd x.cqs {} n set }).admDone f stSuccess
    else s.admDone f stBadField))

/-- CLOCK_PAGE_SET: registers the function's clock page, or with ADDR 0 unregisters it (R139). -/
def execClockPageSet (f : Nat) (s : State) : Out :=
  .next (s.admRun f 0x0B false [0xFFFFFFFFFFFFFFFF] (fun c => c.word 8 % 128 == 0) (fun s c =>
    (s.updFunc c.target (fun x => { x with clockPage := c.word 8, clockSeq := 0, clockTSeq := 0 })).admDone f stSuccess))

end Sys2Proof.Machine
end

