-- ==== Sys2Proof/Machine/RopeBase.lean ====
section
/-! DEFINITION. Machine/RopeBase.lean: Rope channels: their state, start requests (R524, R525, R539), and the retired channel's
replacement (R540). -/

namespace Sys2Proof.Machine

open Sys2Proof

set_option cleanup.letToHave false

/-- Channel states of CHAN_STATUS. -/
abbrev rIdle : Nat := 0
abbrev rRunning : Nat := 1
abbrev rWaiting : Nat := 2
abbrev rHeld : Nat := 3
abbrev rRetired : Nat := 4
abbrev rSpare : Nat := 5

/-- A channel's state. -/
def State.chan (s : State) (c : Nat) : RopeChan := Map.get s.rope.chans {} c

/-- Set a channel's state; QUEUED follows its start queue. -/
def State.setChan (s : State) (c : Nat) (x : RopeChan) : State :=
  { s with rope := { s.rope with chans := Map.set s.rope.chans {} c x } }.wr (F.ROPE_CHAN_STATUS_QUEUED c) (min 64 x.queue.length)

/-- Change a channel's state. -/
def State.updChan (s : State) (c : Nat) (g : RopeChan → RopeChan) : State := s.setChan c (g (s.chan c))

/-- CHAN_STATUS.STATE. -/
def State.rst (s : State) (c : Nat) : Nat := s.rd (F.ROPE_CHAN_STATUS_STATE c)

/-- Set CHAN_STATUS.STATE. -/
def State.setRst (s : State) (c v : Nat) : State := s.wr (F.ROPE_CHAN_STATUS_STATE c) v

/-- The function a channel is bound to (R525). -/
def State.boundTo (s : State) (c : Nat) : Option Nat :=
  let f := s.rd (F.ROPE_CHAN_CFG_FUNC c)
  if f = 0xFFF then none else some f

/-- The generation a start request records. -/
def State.boundGen (s : State) (c : Nat) : Nat :=
  match s.boundTo c with
  | some f => (s.func f).gen
  | none => 0

/-- The instance that stands for a channel: what took a retired one's place (R540). An engine has two spares, so two steps
reach it. -/
def State.ropeAt (s : State) (c : Nat) : Nat :=
  let nx := fun c => if s.rst c = rRetired ∧ s.rd (F.ROPE_CHAN_STATUS_TAKEN_BY c) ≠ 0 then s.rd (F.ROPE_CHAN_STATUS_TAKEN_BY c) else c
  nx (nx c)

/-- A start request: into the start queue, or waiting for room there (R524). -/
def State.ropeStart (s : State) (c : Nat) (r : RopeReq) : State :=
  let c := s.ropeAt c
  s.updChan c (fun x =>
    if x.queue.length < 64 ∧ x.waitq = [] then { x with queue := x.queue ++ [{ r with gen := s.boundGen c }] }
    else { x with waitq := x.waitq ++ [r] })

/-- ROPE_START_REQUEST: a requester asks channel c to run the program at an entry with p0 to p3. -/
def execRopeStartRequest (c entry p0 p1 p2 p3 : Nat) (s : State) : Out :=
  .next (s.ropeStart c { entry := entry, p0 := p0, p1 := p1, p2 := p2, p3 := p3 })

/-- Whether a bound channel may reach its function: its link is up and Bus Master Enable set (R24, R525). -/
def State.ropeMay (s : State) (c : Nat) : Bool :=
  match s.boundTo c with
  | some f => s.mayRequest f
  | none => true

end Sys2Proof.Machine
end

