-- ==== Sys2Proof/Machine/HostRx.lean ====
section
/-! DEFINITION. Machine/HostRx.lean: delivery of a packet to a function's receive queue (R32, R335, R498-R503, R516) and the
completion entries of native queues. -/

namespace Sys2Proof.Machine

open Sys2Proof

set_option cleanup.letToHave false

/-- Write an entry of four words into a completion ring of a function; `res` says that it was reserved (R500). -/
def State.cqeWrite (s : State) (f cq w0 w1 w2 w3 : Nat) (res : Bool) : State :=
  let x := s.func f
  let r := Map.get x.cqs {} cq
  let s := s.hostWrite (s.attOf f) r.addr (entryBytes w0 w1 w2 w3 r.phase)
  s.setFunc f { x with cqs := Map.set x.cqs {} cq { r.advance with reserved := r.reserved - b2n res } }

/-- The words of a completion entry (R498); BUFS is 4 bits, so 16 reads as 0 (log entry 48). -/
def cqeWords (desc q kind tag ns frac len bufs tls status hash user : Nat) (late aligned : Bool) : List Nat :=
  [desc % 2 ^ 16 + q % 2 ^ 12 * 2 ^ 16 + kind * 2 ^ 28 + tag % 2 ^ 32 * 2 ^ 32, ns % 2 ^ 64,
   frac % 2 ^ 16 + len % 2 ^ 16 * 2 ^ 16 + bufs % 16 * 2 ^ 32 + b2n late * 2 ^ 36 + tls % 4 * 2 ^ 37 + b2n aligned * 2 ^ 39
     + status * 2 ^ 40,
   hash % 2 ^ 32 + user % 2 ^ 16 * 2 ^ 32]

/-- Buffers of a native receive queue for n bytes from index i on, at most `left` of them: address and length of each used (R497, R503). -/
def State.rxBufs (s : State) (a : Nat) (q : Queue) : Nat → Nat → Nat → Option (List (Nat × Nat))
  | _, n, 0 => if n = 0 then some [] else none
  | i, n, left + 1 =>
    if n = 0 then some []
    else
      let d := q.base + 32 * (i % 2 ^ q.log2)
      let len := s.hostLe a (d + 8) 2 % 2 ^ 14
      (State.rxBufs s a q (i + 1) (n - len) left).map (fun l => (s.hostLe a d 8, len) :: l)

/-- A packet that could not be delivered is dropped and counted. -/
def State.rxDrop (s : State) (p : Pkt) (off : Nat) : State := (s.stat off).txDropped p

/-- Write a frame into a list of buffers, each filled before the next is used (R503). -/
def State.fill (s : State) (a : Nat) : List (Nat × Nat) → List Byte → State
  | [], _ => s
  | b :: t, d => State.fill (s.hostWrite a b.1 (d.take b.2)) a t (d.drop b.2)

/-- Completion entries of a receive queue whose payload is written, in descriptor order (R501). -/
def State.rxFlush (s : State) (f n : Nat) : List RxPend → State
  | [] => s
  | e :: t =>
    if e.done then
      let s := s.updQue f 1 n (fun q => { q with rxPend := t })
      State.rxFlush (s.cqeWrite f (s.que f 1 n).cq (e.words.getD 0 0) (e.words.getD 1 0) (e.words.getD 2 0) (e.words.getD 3 0) true) f n t
    else s

/-- The payload of a request is written. -/
def State.rxDone (s : State) (f n req : Nat) : State :=
  let s := s.updQue f 1 n (fun q => { q with rxPend := q.rxPend.map (fun e => if e.req = req then { e with done := true } else e) })
  s.rxFlush f n (s.que f 1 n).rxPend

/-- The payload of a request will not be written: its completion entry is free again. -/
def State.rxGone (s : State) (f n req : Nat) : State :=
  let q := s.que f 1 n
  if q.rxPend.any (fun e => e.req == req) then
    let s := (s.updQue f 1 n (fun q => { q with rxPend := q.rxPend.filter (fun e => e.req != req) })).unreserve f q.cq 1
    s.rxFlush f n (s.que f 1 n).rxPend
  else s

/-- Delivery to native receive queue n: payload first, then its completion entry (R32, R500). A Rope channel that serves the queue
takes a frame that fits one buffer (R526); any other frame is written here. -/
def State.rxNative (s : State) (f n : Nat) (p : Pkt) : State :=
  let q := s.que f 1 n
  let a := s.attOf f
  let r := Map.get (s.func f).cqs {} q.cq
  if ¬ (r.on && r.room) then s.rxDrop p R.QMG_CQ_FULL_CNT
  else
    match s.rxBufs a q q.ci p.data.length (min 16 ((q.got + 65536 - q.ci) % 65536)) with
    | none => s.rxDrop p R.QMG_RX_NO_BUF_CNT
    | some l =>
      let tag := s.hostLe a (q.base + 32 * (q.ci % 2 ^ q.log2) + 12) 4
      let w := cqeWords q.ci n 1 tag (p.g Md.tsNs) (p.g Md.tsFrac) p.data.length l.length p.tlsStat 0 p.steerHash (p.g (432, 16))
        p.late (p.g Md.aligned == 1)
      let rope := if l.length = 1 then Map.get s.rope.serve none (f * 4096 + n) else none
      let s := s.updFunc f (fun x => { x with cqs := Map.upd x.cqs {} q.cq (fun r => { r with reserved := r.reserved + 1 }) })
      let s := s.updQue f 1 n (fun q => { q with ci := (q.ci + l.length) % 65536, rxPend := q.rxPend ++ [{ req := p.id, words := w, done := false }] })
      let s := match rope with
        | some (c, e) =>
          let s := { s with rope := { s.rope with pkts := Map.set s.rope.pkts [] p.id p.data } }
          s.ropeStart c { entry := e, p0 := (l.getD 0 (0, 0)).1, p1 := p.id * 2 ^ 24,
                          p2 := p.data.length % 2 ^ 24 + b2n q.roPayload * 2 ^ 33, p3 := p.id }
        | none => (s.fill a l p.data).rxDone f n p.id
      s.txOutcome p 0 0 0 false

/-- Chains of a receive virtqueue for n bytes: one, or with VIRTIO_NET_F_MRG_RXBUF as many as it takes; the chains in order. -/
def State.rxChains (s : State) (f q n : Nat) : Nat → Option (List VChain × State)
  | 0 => none
  | fuel + 1 =>
    match s.vqNext f 6 q with
    | none => none
    | some c =>
      let room := ((c.bufs.filter (·.wr)).map (·.len)).sum
      let s := s.vqTake f 6 q c
      if n ≤ room then some ([c], s)
      else if bitOf (s.que f 6 q).feats 15 then (State.rxChains s f q (n - room) fuel).map (fun r => (c :: r.1, r.2))
      else none

/-- Write the bytes of a frame into its chains, returning each as used. -/
def State.rxFill (s : State) (f q : Nat) : List VChain → List Byte → State
  | [], _ => s
  | c :: t, d =>
    let w := c.bufs.filter (·.wr)
    let n := min d.length ((w.map (·.len)).sum)
    State.rxFill ((s.vWrite (s.attOf f) w (d.take n)).vqUsed f 6 q c n) f q t (d.drop n)

/-- Delivery to a virtio-net receive queue, behind the 12-byte header with num_buffers (R516). -/
def State.rxVirtio (s : State) (f n : Nat) (p : Pkt) : State :=
  match s.rxChains f n (12 + p.data.length) (2 ^ (s.que f 6 n).log2) with
  | none => s.rxDrop p R.QMG_RX_NO_BUF_CNT
  | some (l, t) => (t.rxFill f n l (List.replicate 10 0 ++ leBytes l.length 2 ++ p.data)).txOutcome p 0 0 0 false

/-- A packet handed off to a function: metered, then to the queue its metadata names (R335, R502, R573). -/
def State.deliver (s : State) (p : Pkt) : State :=
  if p.badFcs then s.txDropped p
  else
    let (col, s) := s.police p p.data.length
    let (gone, s) := s.policeDrop p col
    let f := p.g Md.destFunc
    let set := p.g (428, 1) = 1
    let n := if set then p.g (416, 12) else 0
    let virt := set ∧ p.g (429, 1) = 1
    if gone then s.txDropped p
    else if virt then (if s.queRuns f 6 (2 * n) then s.rxVirtio f (2 * n) p else s.rxDrop p R.QMG_RX_NO_QUEUE_CNT)
    else if s.queRuns f 1 n then s.rxNative f n p
    else s.rxDrop p R.QMG_RX_NO_QUEUE_CNT

end Sys2Proof.Machine
end

