-- ==== Sys2Proof/Machine/Crypto.lean ====
section
/-! DEFINITION. Machine/Crypto.lean: ESP and TLS operations of the crypto unit (R361-R389), the session context cache and
the session read port (R363, R392). -/

namespace Sys2Proof.Machine

open Sys2Proof

set_option cleanup.letToHave false

/-! Sequence numbers, lifetime and statistics of a session (R372, R378, R379) -/

/-- One more in a session's AUTH_FAIL or REPLAY, which stick (R372). -/
def State.cxStick (s : State) (n : Nat) (f : Nat × Nat) : State :=
  if s.cx n f = 0xFFFFFFFF then s.raise F.CRY_INT_STATUS_SAT else s.setCx n f (s.cx n f + 1)

/-- The owner of a session, none for a device-owned one. -/
def State.sessOwner (s : State) (n : Nat) : Option Nat :=
  if s.cx n Cx.owner = 0xFFF then none else some (s.cx n Cx.owner)

/-- A number equal to SEQ_SOFT was assigned or accepted (R379). -/
def State.softCheck (s : State) (n seq : Nat) : State :=
  if s.cx n Cx.seqSoft ≠ 0 ∧ seq = s.cx n Cx.seqSoft then
    ((s.setCx n Cx.softHit 1).raise F.CRY_INT_STATUS_SA_SOFT).eventOwner (s.sessOwner n) 0x0020 0 n seq
  else s

/-- The session becomes EXHAUSTED (R378). -/
def State.exhaust (s : State) (n : Nat) : State :=
  if s.cx n Cx.exhausted = 1 then s
  else
    let s := (s.setCx n Cx.exhausted 1).raise F.CRY_INT_STATUS_SA_EXHAUSTED
    let s := (s.wr F.CRY_EXH_LOG_SESSION n).wr F.CRY_EXH_LOG_KIND (s.cx n Cx.kind)
    s.eventOwner (s.sessOwner n) 0x0021 0 n 0

/-- The last number that may be assigned (R378). -/
def State.lastSeq (s : State) (n : Nat) : Nat :=
  if s.cx n Cx.ext = 0 ∧ s.cx n Cx.kind ≠ kTlsTx then 0xFFFFFFFF else 0xFFFFFFFFFFFFFFFF

/-- The sequencer assigns the next number (R378). -/
def State.assignSeq (s : State) (n : Nat) : Nat × State :=
  let q := s.cx n Cx.seq + 1
  let s := (s.setCx n Cx.seq q).softCheck n q
  (q, if q = s.lastSeq n then s.exhaust n else s)

/-- An accepted result of `len` cipher bytes (R372, R378). -/
def State.account (s : State) (n len : Nat) : State :=
  let s := (s.setCx n Cx.bytes (s.cx n Cx.bytes + len)).setCx n Cx.pkts (s.cx n Cx.pkts + 1)
  if s.cx n Cx.bytesHard ≠ 0 ∧ s.cx n Cx.bytesHard ≤ s.cx n Cx.bytes then s.exhaust n else s

/-! AES-GCM -/

/-- Bytes under the key stream from a position on: encrypts and decrypts. -/
def gcmXor (key nonce : Nat) : Nat → List Byte → List Byte
  | _, [] => []
  | pos, b :: t => (b ^^^ Config.gcmStream key nonce pos) :: gcmXor key nonce (pos + 1) t

/-- The key of a session, with its cipher. -/
def State.gcmKey (s : State) (n : Nat) : Nat :=
  let k := s.cx n Cx.kind
  let m := Map.get s.cry.keys 0 n
  (if k = kTlsRx ∨ k = kTlsTx then m / 2 ^ 96 else m) * 2 + s.cx n Cx.cipher

/-- The nonce of an ESP packet: SALT, then the IV (R376). -/
def State.espNonce (s : State) (n : Nat) (iv : List Byte) : Nat := beNat (leBytes (s.cx n Cx.salt) 4 ++ iv)

/-- The nonce of a TLS record (R387). -/
def State.tlsNonce (s : State) (n seq : Nat) : Nat := (Map.get s.cry.keys 0 n) % 2 ^ 96 ^^^ seq

/-- The tag. -/
def gcmTag16 (key nonce : Nat) (aad ct : List Byte) : List Byte := beBytes (Config.gcmTag key nonce aad ct) 16

/-! The work list of the unit (R362, R364) -/

/-- The packet with identity `id`, when no earlier packet of its session is in the unit (R362). -/
def cryFind (id : Nat) : List CryWork → List Nat → Option CryWork
  | [], _ => none
  | w :: t, seen =>
    if w.pkt.id = id then (if seen.contains (w.pkt.g Md.cryptoSession) then none else some w)
    else cryFind id t (w.pkt.g Md.cryptoSession :: seen)

/-- The packet leaves the unit. -/
def State.cryOff (s : State) (id : Nat) : State :=
  { s with path := { s.path with cry := s.path.cry.filter (fun w => w.pkt.id ≠ id) } }

/-- The packet goes on from its point: routing (P1), the traffic manager or a function's ring (P2), the traffic manager (P3). -/
def State.cryPass (s : State) (w : CryWork) (p : Pkt) : State :=
  if w.point = 1 then s.route p
  else if w.point = 3 then s.toTm p
  else if p.g Md.destKind = 2 then s.pushTm p
  else s.deliver p

/-- The packet is dropped. -/
def State.cryDrop (s : State) (w : CryWork) : State := if w.point = 2 then s.txDropped w.pkt else s.pktGone w.pkt

/-- The packet is dropped and counted. -/
def State.cryDropCnt (s : State) (w : CryWork) (off : Nat) : State := (s.err off).cryDrop w

/-- Run an operation of a session kind on a packet: its conditions are read afresh, since a session may have been retired
while the packet waited (R365, R366, R375); an exhausted session drops it (R378). -/
def State.cryRun (s : State) (id kind : Nat) (k : State → CryWork → Nat → State) : State :=
  match cryFind id s.path.cry [] with
  | none => s
  | some w =>
    let n := w.pkt.g Md.cryptoSession
    if s.cry.cache.contains n = false then s
    else
      match s.cryGate w.pkt w.point with
      | .drop c => (s.cryOff id).cryDropCnt w c
      | .pass => (s.cryOff id).cryPass w w.pkt
      | .wait =>
        if s.cx n Cx.kind ≠ kind then s
        else if s.cx n Cx.exhausted = 1 then (s.cryOff id).cryDropCnt w R.CRY_EXHAUSTED_CNT
        else k (s.cryOff id) w n

/-- A session has been applied to the packet. -/
def Pkt.applied (p : Pkt) (n : Nat) : Pkt := { p with sessions := p.sessions ++ [n] }

/-- CRYPTO_CONTEXT_FETCH: an uncached context that an operation waits for arrives; a full cache of 65,536 gives up one,
which the spec does not choose (R363; log entry 5). -/
def execCryptoContextFetch (n : Nat) (s : State) : Out :=
  let secy := (List.range 8).any (fun p => !(Map.get s.prt.port {} p).secyRx.isEmpty
    || ((Map.get s.prt.port {} p).tx.map (·.secy)).getD false)
  if !s.cry.cache.contains n && (s.path.cry.any (fun w => w.pkt.g Md.cryptoSession == n) || secy) then
    if s.cry.cache.length < 65536 then .next { s with cry := { s.cry with cache := n :: s.cry.cache } }
    else
      let (v, s) := s.fresh
      .next { s with cry := { s.cry with cache := n :: s.cry.cache.eraseIdx (v % 65536) } }
  else .next s

/-! ESP (R376-R381) -/

/-- The ESP packet of a frame: IP header offset and version, offset of the ESP header, end of the IP packet. -/
def espFind (l : List Byte) (natt : Bool) : Option (Nat × Bool × Nat × Nat) :=
  match firstIp l with
  | none => none
  | some (o, v6) =>
    let stop := if v6 then o + 40 + be16 l (o + 4) else o + be16 l (o + 2)
    let e := o + ipHdrLen l o v6 + (if natt then 8 else 0)
    if ipProto l o v6 = (if natt then 17 else 50) ∧ stop ≤ l.length ∧ e + 32 ≤ stop then some (o, v6, e, stop) else none

/-- Additional authenticated data of ESP (R380). -/
def espAad (spi seq : Nat) (ext : Bool) : List Byte :=
  beBytes spi 4 ++ (if ext then beBytes (seq / 2 ^ 32) 4 else []) ++ beBytes (seq % 2 ^ 32) 4

/-- The sequence number of an inbound packet with ESN (R380). -/
def esnSeq (sl t w : Nat) : Nat :=
  let tl := t % 2 ^ 32
  let th := t / 2 ^ 32
  let low := (tl + 2 ^ 32 - w + 1) % 2 ^ 32
  let sh := if w - 1 ≤ tl then (if low ≤ sl then th else th + 1)
    else (if low ≤ sl then (th + 0xFFFFFFFF) % 2 ^ 32 else th)
  sh % 2 ^ 32 * 2 ^ 32 + sl

/-- The replay bitmap of a session. -/
def State.replayMap (s : State) (n : Nat) : Nat := Map.get s.cry.replay 0 n

/-- The replay check (R380). -/
def State.replayOk (s : State) (n seq : Nat) : Bool :=
  let top := s.cx n Cx.seq
  if seq = 0 then false
  else if top < seq then true
  else if s.cx n Cx.window ≤ top - seq then false
  else !bitOf (s.replayMap n) (seq % 4096)

/-- Accept a number in the replay bitmap: the bits the window moves over are cleared, its own is set (R380). -/
def replayTake (m top seq : Nat) : Nat :=
  let m := if seq ≤ top + 1 then m
    else if top + 4096 < seq then 0
    else (List.range (seq - top - 1)).foldl (fun a i => putBits a ((top + 1 + i) % 4096) 1 0) m
  putBits m (seq % 4096) 1 1

/-- Whether the ESP trailer holds: pad length fits, pad bytes 1, 2, 3 (R380). -/
def trailerOk (pt : List Byte) : Bool :=
  let n := (pt.getD (pt.length - 2) 0).toNat
  decide (n + 2 ≤ pt.length) &&
    (List.range n).all (fun i => pt.getD (pt.length - 2 - n + i) 0 == BitVec.ofNat 8 (i + 1))

/-- The EtherType in front of an IP header follows its version (log entry 35). -/
def setEtherIp (l : List Byte) (o : Nat) (v6 : Bool) : List Byte := put16 l (o - 2) (if v6 then 0x86DD else 0x0800)

/-- Layers of a packet after n bytes at `a` are removed (R367). -/
def Pkt.cutLayers (p : Pkt) (a n : Nat) : Pkt :=
  (List.range 8).foldl (fun q k =>
    if bitOf (q.g Md.layerValid) k then
      let v := q.g (Md.layer k)
      if a + n ≤ v then q.s (Md.layer k) (v - n)
      else if a ≤ v then q.s Md.layerValid (putBits (q.g Md.layerValid) k 1 0)
      else q
    else q) p

/-- The packet after an inbound operation at P1: PKT_LEN and layers, then routing or, with RECIRC, a parse core (R367). -/
def State.inboundDone (s : State) (n : Nat) (w : CryWork) (p : Pkt) : State :=
  if s.cx n Cx.recirc = 1 ∧ s.cx n Cx.owner = 0xFFF then s.toParse { p with recirc := true, entry := none }
  else s.cryPass w p

/-- Inner addresses of a tunnel packet within the selectors (R381). -/
def State.selectorOk (s : State) (n nh : Nat) (inner : List Byte) : Bool :=
  if s.cx n Cx.selEn = 0 then true
  else
    let src := if nh = 41 then (inner.drop 8).take 16 else (inner.drop 12).take 4
    let dst := if nh = 41 then (inner.drop 24).take 16 else (inner.drop 16).take 4
    samePrefix (s.cx n Cx.srcPlen) src (leBytes (s.cx n Cx.selSrc) 16)
      && samePrefix (s.cx n Cx.dstPlen) dst (leBytes (s.cx n Cx.selDst) 16)

/-- ESP_IN after decryption and both replay checks: trailer, strip, policy (R380, R381). -/
def State.espStrip (s : State) (n : Nat) (w : CryWork) (o e : Nat) (v6 : Bool) (pt : List Byte) : State :=
  if !trailerOk pt then s.cryDropCnt w R.CRY_MALFORMED_CNT
  else
    let l := w.pkt.data
    let nh := (pt.getD (pt.length - 1) 0).toNat
    let body := pt.take (pt.length - 2 - (pt.getD (pt.length - 2) 0).toNat)
    let p := w.pkt.applied n
    if s.cx n Cx.tunnel = 1 then
      if (nh ≠ 4 ∧ nh ≠ 41) ∨ s.selectorOk n nh body = false then s.cryDropCnt w R.CRY_POLICY_CNT
      else
        let d := setEtherIp (l.take o ++ body) o (nh == 41)
        s.inboundDone n w ((p.withData d).cutLayers o (e + 16 - o))
    else
      let h := o + ipHdrLen l o v6
      let d := setIpLen (setProto (l.take h ++ body) o v6 nh) o v6
      let d := if v6 then d else setIpCsum d o
      s.inboundDone n w ((p.withData d).cutLayers h (e + 16 - h))

/-- ESP_IN of one packet (R380). -/
def State.espIn (s : State) (w : CryWork) (n : Nat) : State :=
  let l := w.pkt.data
  match espFind l (s.cx n Cx.natt == 1) with
  | none => s.cryDropCnt w R.CRY_MALFORMED_CNT
  | some (o, v6, e, stop) =>
    let spi := beNat ((l.drop e).take 4)
    if spi ≠ s.cx n Cx.spi then s.cryDropCnt w R.CRY_MALFORMED_CNT
    else
      let sl := beNat ((l.drop (e + 4)).take 4)
      let ext := s.cx n Cx.ext == 1
      let win := s.cx n Cx.window
      let seq := if ext then esnSeq sl (s.cx n Cx.seq) (if win = 0 then 4096 else win) else sl
      if win ≠ 0 ∧ s.replayOk n seq = false then (s.cxStick n Cx.replay).cryDropCnt w R.CRY_REPLAY_CNT
      else
        let nonce := s.espNonce n ((l.drop (e + 8)).take 8)
        let ct := (l.drop (e + 16)).take (stop - e - 32)
        if gcmTag16 (s.gcmKey n) nonce (espAad spi seq ext) ct ≠ (l.drop (stop - 16)).take 16 then
          (s.cxStick n Cx.authFail).cryDropCnt w R.CRY_AUTH_FAIL_CNT
        else
          let m := replayTake (s.replayMap n) (s.cx n Cx.seq) seq
          let s := if win = 0 then s else { s with cry := { s.cry with replay := Map.set s.cry.replay 0 n m } }
          let s := if s.cx n Cx.seq < seq then s.setCx n Cx.seq seq else s
          let s := ((s.softCheck n seq).account n ct.length).stat R.CRY_IN_PKT_CNT
          s.espStrip n w o e v6 (gcmXor (s.gcmKey n) nonce 0 ct)

/-- ESP_IN_OPERATION: an ESP_IN session decrypts, checks replay and strips a packet at P1 (R380, R381). -/
def execEspInOperation (id : Nat) (s : State) : Out := .next (s.cryRun id kEspIn State.espIn)

/-- The bytes of OUTER in a session context. -/
def State.espOuter (s : State) (n : Nat) : List Byte :=
  leBytes (s.ctx n / 2 ^ 512) (if s.cx n Cx.outerV6 = 1 then 40 else 20)

/-- ESP_OUT of one packet (R377). A packet without an IP header is dropped as malformed (log entry 36). -/
def State.espOut (s : State) (w : CryWork) (n : Nat) : State :=
  let l := w.pkt.data
  let (seq, s) := s.assignSeq n
  match firstIp l with
  | none => s.cryDropCnt w R.CRY_MALFORMED_CNT
  | some (o, v6) =>
    let tun := s.cx n Cx.tunnel == 1
    let h := o + ipHdrLen l o v6
    let body := if tun then l.drop o else l.drop h
    let nh := if tun then (if v6 then 41 else 4) else ipProto l o v6
    let pad := (4 - (body.length + 2) % 4) % 4
    let pt := body ++ (List.range pad).map (fun i => BitVec.ofNat 8 (i + 1)) ++ [BitVec.ofNat 8 pad, BitVec.ofNat 8 nh]
    let iv := beBytes seq 8
    let nonce := s.espNonce n iv
    let ct := gcmXor (s.gcmKey n) nonce 0 pt
    let spi := s.cx n Cx.spi
    let tag := gcmTag16 (s.gcmKey n) nonce (espAad spi seq (s.cx n Cx.ext == 1)) ct
    let esp := beBytes spi 4 ++ beBytes (seq % 2 ^ 32) 4 ++ iv ++ ct ++ tag
    let natt := s.cx n Cx.natt == 1
    let udp := if natt then beBytes (s.cx n Cx.nattSport) 2 ++ beBytes (s.cx n Cx.nattDport) 2
        ++ beBytes (8 + esp.length) 2 ++ beBytes 0 2 else []
    let v6o := if tun then s.cx n Cx.outerV6 == 1 else v6
    let head := if tun then l.take o ++ s.espOuter n else l.take h
    let d := setProto (setEtherIp (head ++ udp ++ esp) o v6o) o v6o (if natt then 17 else 50)
    let d := setIpLen d o v6o
    let d := if v6o then d else setIpCsum d o
    ((s.account n ct.length).stat R.CRY_OUT_PKT_CNT).cryPass w ((w.pkt.applied n).withData d)

/-- ESP_OUT_OPERATION: an ESP_OUT session inserts headers, encrypts and seals a packet at P2 or P3 (R377). -/
def execEspOutOperation (id : Nat) (s : State) : Out := .next (s.cryRun id kEspOut State.espOut)

/-! TLS 1.3 records (R387-R389) -/

/-- The TCP segment of a frame: sequence number, offset and end of its payload. -/
def tcpFind (l : List Byte) : Option (Nat × Nat × Nat) :=
  match firstIp l with
  | none => none
  | some (o, v6) =>
    let t := o + ipHdrLen l o v6
    let stop := if v6 then o + 40 + be16 l (o + 4) else o + be16 l (o + 2)
    let d := t + (l.getD (t + 12) 0).toNat / 16 * 4
    if ipProto l o v6 = 6 ∧ stop ≤ l.length ∧ t + 20 ≤ stop ∧ d ≤ stop then
      some (beNat ((l.drop (t + 4)).take 4), d, stop)
    else none

/-- Records in progress: the bytes of the current record, its number, the output, the bytes consumed, how it ended
(`bad` a record length out of range or a wrong type, `tag` a tag seen, `fail` a tag wrong). -/
structure TlsRun where
  held : List Byte
  seq : Nat
  out : List Byte := []
  used : Nat := 0
  bad : Bool := false
  tag : Bool := false
  fail : Bool := false

/-- Whether the current record's complete header is out of range: longer than 2^14 + 256, or too short for a tag. -/
def TlsRun.wrong (x : TlsRun) (rx : Bool) : Bool :=
  decide (5 ≤ x.held.length) &&
    (decide (16640 < be16 x.held 3) || decide (be16 x.held 3 < 16) || (rx && x.held.getD 0 0 != 0x17#8))

/-- Move k bytes of input: what the record and the output get. -/
def TlsRun.move (x : TlsRun) (k : Nat) (r o : List Byte) : TlsRun :=
  { x with held := x.held ++ r, out := x.out ++ o, used := x.used + k }

/-- Run the record layer over some payload: header bytes pass, the body is encrypted or decrypted, a transmitted tag is
written and a received one checked (R388, R389). -/
def State.tlsWork (s : State) (n : Nat) (rx : Bool) : Nat → List Byte → TlsRun → TlsRun
  | 0, _, x => x
  | fuel + 1, inp, x =>
    if x.wrong rx then { x with bad := true }
    else if inp = [] then x
    else if x.fail then { x with out := x.out ++ inp }
    else
      let r := x.held.length
      if r < 5 then
        let k := min (5 - r) inp.length
        s.tlsWork n rx fuel (inp.drop k) (x.move k (inp.take k) (inp.take k))
      else
        let body := be16 x.held 3 - 16
        let key := s.gcmKey n
        let nonce := s.tlsNonce n x.seq
        if r < 5 + body then
          let k := min (5 + body - r) inp.length
          let y := gcmXor key nonce (r - 5) (inp.take k)
          s.tlsWork n rx fuel (inp.drop k) (x.move k (if rx then inp.take k else y) y)
        else
          let k := min (21 + body - r) inp.length
          let tag := gcmTag16 key nonce (x.held.take 5) ((x.held.drop 5).take body)
          let put := if rx then inp.take k else (tag.drop (r - 5 - body)).take k
          let y := x.move k put put
          let y := if y.held.length = 21 + body then
              { y with held := [], seq := y.seq + 1, tag := true, fail := rx && y.held.drop (5 + body) != tag }
            else y
          s.tlsWork n rx fuel (inp.drop k) y

/-- Store the record state of a session. -/
def State.tlsStore (s : State) (n next : Nat) (x : TlsRun) : State :=
  let s := { s with cry := { s.cry with recs := Map.set s.cry.recs [] n x.held } }
  ((s.setCx n Cx.nextTcp next).setCx n Cx.recOff x.held.length).setCx n Cx.recSeq x.seq

/-- TLS_TX of one segment (R388). -/
def State.tlsTx (s : State) (w : CryWork) (n : Nat) : State :=
  let l := w.pkt.data
  let (_, s) := s.assignSeq n
  match tcpFind l with
  | none => s.cryDropCnt w R.CRY_MALFORMED_CNT
  | some (q, d, stop) =>
    let pay := (l.drop d).take (stop - d)
    let start := match w.pkt.tls with
      | some h => if (h.recTcp + h.noSend) % 2 ^ 32 = q ∧ h.noSend ≤ pay.length then some ([], h.recSeq, h.noSend) else none
      | none => if s.cx n Cx.nextTcp = q then some (Map.get s.cry.recs [] n, s.cx n Cx.recSeq, 0) else none
    match start with
    | none => s.cryDropCnt w R.CRY_MALFORMED_CNT
    | some (rec, rs, skip) =>
      let x := s.tlsWork n false (2 * pay.length + 2) pay { held := rec, seq := rs }
      if x.bad then s.cryDropCnt w R.CRY_MALFORMED_CNT
      else
        let s := s.tlsStore n ((q + pay.length - skip) % 2 ^ 32) x
        let d2 := l.take d ++ x.out.drop skip ++ l.drop stop
        let d2 := if skip = 0 then d2 else match firstIp d2 with
          | some (o, v6) => if v6 then setIpLen d2 o v6 else setIpCsum (setIpLen d2 o v6) o
          | none => d2
        ((s.account n pay.length).stat R.CRY_OUT_PKT_CNT).cryPass w (({ w.pkt with tls := none }.applied n).withData d2)

/-- TLS_TX_OPERATION: records of a transmitted segment are encrypted and sealed, state being rebuilt from a hint (R388). -/
def execTlsTxOperation (id : Nat) (s : State) : Out := .next (s.cryRun id kTlsTx State.tlsTx)

/-- Decryption is lost: TLS_RESYNC with the TCP sequence, and SEARCH (R389). -/
def State.tlsResync (s : State) (n q : Nat) : State :=
  let s := { s with cry := { s.cry with confirmed := s.cry.confirmed.filter (· ≠ n) } }
  ((s.setCx n Cx.rxState 1).raise F.CRY_INT_STATUS_TLS_RESYNC).eventOwner (s.sessOwner n) 0x0022 0 n q

/-- A segment is delivered with its crypto status. -/
def State.tlsDeliver (s : State) (w : CryWork) (n : Nat) (st : Nat) (d : List Byte) : State :=
  s.cryPass w (({ w.pkt with tlsStat := st }.applied n).withData d)

/-- Decrypt a segment from payload offset `from_` on, the record state being `x` (R389). A segment that holds no record's
tag has a status the spec does not give (log entry 37). -/
def State.tlsDecrypt (s : State) (w : CryWork) (n q d stop from_ : Nat) (x : TlsRun) : State :=
  let l := w.pkt.data
  let pay := (l.drop (d + from_)).take (stop - d - from_)
  let y := s.tlsWork n true (2 * pay.length + 2) pay x
  if y.bad then
    let hdr := (q + from_ + y.used + 2 ^ 32 - y.held.length) % 2 ^ 32
    ((s.tlsResync n hdr).stat R.CRY_TLS_NODEC_CNT).tlsDeliver w n 3 l
  else
    let s := (s.tlsStore n ((q + stop - d) % 2 ^ 32) y).setCx n Cx.rxState 0
    let out := l.take (d + from_) ++ y.out ++ l.drop stop
    if y.fail then (((s.setCx n Cx.failed 1).setCx n Cx.rxState 2).cxStick n Cx.authFail).tlsDeliver w n 2 out
    else
      let s := (s.account n pay.length).stat R.CRY_IN_PKT_CNT
      if y.tag then s.tlsDeliver w n 1 out
      else
        let (v, s) := s.fresh
        s.tlsDeliver w n (v % 4) out

/-- TLS_RX of one segment (R389). One that straddles NEXT_TCP is handled as a retransmission (log entry 38). -/
def State.tlsRx (s : State) (w : CryWork) (n : Nat) : State :=
  let l := w.pkt.data
  match tcpFind l with
  | none => s.tlsDeliver w n 3 l
  | some (q, d, stop) =>
    let len := stop - d
    let st := s.cx n Cx.rxState
    if len = 0 then s.tlsDeliver w n 3 l
    else if st = 0 then
      let ahead := (q + 2 ^ 32 - s.cx n Cx.nextTcp) % 2 ^ 32
      if ahead = 0 then s.tlsDecrypt w n q d stop 0 { held := Map.get s.cry.recs [] n, seq := s.cx n Cx.recSeq }
      else if 2 ^ 31 ≤ ahead then (s.stat R.CRY_TLS_NODEC_CNT).tlsDeliver w n 3 l
      else (s.tlsResync n q).tlsDeliver w n 3 l
    else if st = 1 then
      let off := (s.cx n Cx.resyncTcp + 2 ^ 32 - q) % 2 ^ 32
      if s.cry.confirmed.contains n ∧ off < len then
        s.tlsDecrypt w n q d stop off { held := [], seq := s.cx n Cx.recSeq }
      else s.tlsDeliver w n 3 l
    else s.tlsDeliver w n 3 l

/-- TLS_RX_SEGMENT: a received segment of a TLS_RX session is decrypted or delivered as it is (R389). -/
def execTlsRxSegment (id : Nat) (s : State) : Out := .next (s.cryRun id kTlsRx State.tlsRx)

/-! The session read port (R392) -/

/-- SESSION_PORT_READ: GO with INDEX and PART starts the read of 32 bytes of bytes 0x00-0x7F of a context. -/
def State.sessPortRead (s : State) (a index part : Nat) : State :=
  if s.rdB (F.CRY_SESS_CTRL_BUSY a) then s
  else ((s.wr (F.CRY_SESS_CTRL_INDEX a) index).wr (F.CRY_SESS_CTRL_PART a) part).wrB (F.CRY_SESS_CTRL_BUSY a) true

def execSessionPortRead (a index part : Nat) (s : State) : Out := .next (s.sessPortRead a index part)

/-- SESSION_PORT_READ_DONE: the data stand in CRY_SESS_DATA and BUSY returns to 0. Every INDEX that fits names a session. -/
def execSessionPortReadDone (a : Nat) (s : State) : Out :=
  if s.rdB (F.CRY_SESS_CTRL_BUSY a) then
    let v := s.ctx (s.rd (F.CRY_SESS_CTRL_INDEX a)) / 2 ^ (256 * s.rd (F.CRY_SESS_CTRL_PART a))
    let s := s.each (List.range 4) (fun t i => t.setReg (R.CRY_SESS_DATA a i) (BitVec.ofNat 64 (v / 2 ^ (64 * i))))
    .next ((s.wrB (F.CRY_SESS_CTRL_ERR a) false).wrB (F.CRY_SESS_CTRL_BUSY a) false)
  else .next s

end Sys2Proof.Machine
end

