-- ==== Sys2Proof/Machine/Ports.lean ====
section
/-! DEFINITION. Machine/Ports.lean: Ethernet ports and the management port (R560-R588, R593): link state, received frames,
PFC, preemption, module cages. -/

namespace Sys2Proof.Machine

open Sys2Proof

set_option cleanup.letToHave false

/-! NC-SI receive filters (R591) -/

/-- A channel. -/
def State.nc (s : State) (c : Nat) : NcChan := Map.get s.prt.nc.chans {} c

/-- Whether a frame passes the VLAN setting of a channel (log entry 40). -/
def NcChan.vlanOk (x : NcChan) (l : List Byte) : Bool :=
  let tagged := be16 l 12 == 0x8100
  let listed := x.vlans.any (fun e => e.2 == be16 l 14 % 4096 + 4096)
  if x.vlanMode = 0 then !tagged
  else if x.vlanMode = 1 then tagged && listed
  else if x.vlanMode = 2 then !tagged || listed
  else true

/-- Where a received frame goes: to the controller, and on to the other units. A disabled broadcast or multicast filter lets every such
frame through, an enabled one the types it enables (log entry 40). -/
def State.ncFilter (s : State) (p : Nat) (l : List Byte) : Bool × Bool :=
  let x := s.nc p
  if bitOf (s.rd F.PRT_NCSI_STATUS_CH_ENABLED) p = false ∨ x.vlanOk l = false then (false, true)
  else
    let dst := beNat (l.take 6)
    if x.macs.any (fun e => e.2 == dst + 2 ^ 48) then (true, false)
    else if dst = 0xFFFFFFFFFFFF then ((match x.bcast with | some m => Config.ncsiPass 0 m l | none => true), true)
    else if bitOf dst 40 then ((match x.mcast with | some m => Config.ncsiPass 1 m l | none => true), true)
    else (false, true)

/-- Bytes the package's receive buffer holds. -/
def NcPkg.used (x : NcPkg) : Nat := (x.buf.map (fun e => e.2.length)).sum

/-- A frame goes to the controller through the 16 KiB receive buffer, or is dropped and counted (R591). -/
def State.ncRx (s : State) (p : Nat) (l : List Byte) : State :=
  if s.prt.nc.used + l.length ≤ 16384 then
    let s := s.updNc p (fun x => { x with rxBmc := x.rxBmc + 1 })
    { s with prt := { s.prt with nc := { s.prt.nc with buf := s.prt.nc.buf ++ [(p, l)] } } }
  else s.updNc p (fun x => { x with rxDrop := x.rxDrop + 1 })

/-- The oldest frame of the receive buffer leaves to the controller while the package is selected (log entry 41). -/
def State.ncDrain (s : State) : State :=
  match s.prt.nc.buf with
  | (p, l) :: t =>
    if s.rdB F.PRT_NCSI_STATUS_SELECTED && s.board.ncsiClk then
      { s with prt := { s.prt with nc := { s.prt.nc with buf := t } } }.emit (.mgmtFrame p l)
    else s
  | [] => s

/-! Received frames (R571-R575) -/

/-- The enabled ordinary or boundary clock that a PTP frame matches by port, transport, domain and VLAN (R105). -/
def State.ptpTakes (s : State) (p : Nat) (l : List Byte) : Bool :=
  match ptpAt l with
  | none => false
  | some h =>
    let e := etherTypeAt l
    let kind := if be16 l e = 0x88F7 then 0 else if be16 l e = 0x0800 then 1 else 2
    (List.range 8).any (fun i => s.ptpMember i p && s.rd (F.FST_PTP_CFG_ROLE i) != 2
      && s.rd (F.FST_PTP_CFG_TRANSPORT i) == kind && s.rd (F.FST_PTP_CFG_DOMAIN i) == (l.getD (h + 4) 0).toNat
      && (if s.rdB (F.FST_PTP_PORTS_VLAN_EN i) then be16 l 12 == 0x8100 && be16 l 14 % 4096 == s.rd (F.FST_PTP_PORTS_VLAN i)
          else e == 12))

/-- The priority of a frame (R575). -/
def State.framePrio (s : State) (p : Nat) (l : List Byte) : Nat :=
  if be16 l 12 = 0x8100 ∨ be16 l 12 = 0x88A8 then be16 l 14 / 8192 else s.rd (F.PRT_PFC_CFG_DEFAULT_PRIO p)

/-- A frame that the MAC and the SecY have passed goes to the management controller, the PTP engine or the packet buffer
(R105, R154, R591). A PTP message the engine takes acts through its own row. -/
def State.portDeliver (s : State) (p : Nat) (f : RxFrame) : State :=
  let (toNc, on) := if f.bad then (false, true) else s.ncFilter p f.data
  let s := if toNc then s.ncRx p f.data else s
  if !on then s
  else if !f.bad && s.ptpTakes p f.data then s
  else
    let t := f.stamp
    let q : Pkt := { data := f.data, badFcs := f.bad, prio := s.framePrio p f.data }
    s.toParse (((q.s Md.srcPort p).s Md.tsNs (t / 65536).toNat).s Md.tsFrac (t % 65536).toNat)

/-- A received PFC frame pauses or resumes priorities (R577). -/
def State.pfcRx (s : State) (p vec : Nat) (times : List Nat) : State :=
  let s := s.stat (R.PRT_RX_PFC_CNT p)
  s.each (List.range 8) (fun t i =>
    if bitOf vec i && bitOf (t.rd (F.PRT_PFC_CFG_PFC_RX p)) i then
      let n := times.getD i 0
      let x := t.prt1 p
      let stop : Int := if n = 0 then 0 else t.fst.now + ((n * 512 * 65536 / t.portRate p : Nat) : Int)
      t.setPrt p { x with pause := Map.set x.pause 0 i stop }
    else t)

/-- PFC_FRAME_RX (R577). -/
def execPfcFrameRx (p vec : Nat) (times : List Nat) (s : State) : Out := .next (s.pfcRx p vec times)

/-- A MAC control frame (R572). -/
def State.macCtrl (s : State) (p : Nat) (l : List Byte) : State :=
  let op := be16 l 14
  if op = 0x0101 ∧ l.length = 60 then s.pfcRx p (be16 l 16) ((List.range 8).map (fun i => be16 l (18 + 2 * i)))
  else if op = 0x0001 then s.stat (R.PRT_RX_PAUSE_CNT p)
  else s.err (R.PRT_MAC_CTRL_BAD_CNT p)

/-- Whether the SecY of a port acts on a received frame (R383, R384). -/
def State.secyRx (s : State) (p : Nat) (l : List Byte) : Bool :=
  s.rdB (F.CRY_SECY_CFG_ENABLE p) && be16 l (etherTypeAt l) != 0x888E
    && !(s.rdB (F.CRY_SECY_CFG_BYPASS_PTP p) && (ptpAt l).isSome)

/-- PORT_FRAME_RX (R571-R573, R581, R593): stamped, checked, stripped of its FCS, then sent on. `cut`: it is handed on while
it still arrives, so a failed FCS is known only later (R573). -/
def State.portFrame (s : State) (p : Nat) (r : PortRx) : State :=
  let len := r.data.length + 4
  if s.rdB (F.PRT_LINK_STATUS_UP p) = false then s
  else if r.fragErr then s.err (R.PRT_PREEMPT_ERR_CNT p)
  else
    let s := s.statAdd (R.PRT_FEC_CORR_CNT p) r.fecCorr
    let s := if r.fecOk then s else s.err (R.PRT_FEC_UNCORR_CNT p)
    let bad := !(r.fcsOk && r.fecOk)
    if len < 64 then s.err (R.PRT_RX_RUNT_CNT p)
    else if s.rd (F.PRT_MAC_CFG_MAX_LEN p) < len then s.err (R.PRT_RX_OVERSIZE_CNT p)
    else
      let s := if bad then s.err (R.PRT_RX_FCS_CNT p) else s
      if bad && !r.cut then s
      else
        let s := (s.stat (R.PRT_RX_PKTS_CNT p)).statAdd (R.PRT_RX_BYTES_CNT p) len
        let f : RxFrame := { data := r.data, stamp := s.stampRx p r.sub, bad := bad }
        if be16 r.data 12 = 0x8808 then (if bad then s else s.macCtrl p r.data)
        else if s.secyRx p r.data then
          if bad then s else s.setPrt p { s.prt1 p with secyRx := (s.prt1 p).secyRx ++ [f] }
        else s.portDeliver p f

def execPortFrameRx (p : Nat) (r : PortRx) (s : State) : Out := .next (s.portFrame p r)

/-- PFC_PAUSE_EXPIRY: a pause whose time has run out ends (R577). -/
def execPfcPauseExpiry (p i : Nat) (s : State) : Out :=
  let x := s.prt1 p
  if Map.get x.pause 0 i ≤ s.fst.now then .next (s.setPrt p { x with pause := Map.set x.pause 0 i 0 }) else .next s

/-- PFC_REFRESH: while a priority is held the PFC frame is repeated (R576). -/
def execPfcRefresh (p : Nat) (s : State) : Out :=
  if (s.prt1 p).heldPrio = [] then .next s else .next (s.ctlFrame p (s.pfcFrame p))

/-- PFC_CFG_WRITE: refused when REFRESH is not below PAUSE_TIME (R578). -/
def State.pfcCfg (s : State) (p : Nat) (v : Word) : State :=
  if bitsOf v.toNat 48 16 < bitsOf v.toNat 32 16 then
    s.setReg (R.PRT_PFC_CFG p) (BitVec.ofNat 64 (v.toNat &&& 0xFFFFFFFF0007FFFF))
  else s

def execPfcCfgWrite (p : Nat) (v : Word) (s : State) : Out := .next (s.pfcCfg p v)

/-! Frame preemption (R579-R581) -/

/-- Verification starts afresh; it is confined to ports of 100 Gb/s and below (R579). -/
def State.preemptStart (s : State) (p : Nat) : State :=
  let s := s.setPrt p { s.prt1 p with verifyTries := 0 }
  let on := s.rdB (F.PRT_PREEMPT_CFG_PREEMPT_EN p) && decide (4 ≤ s.portMode p)
  let free := s.rdB (F.PRT_PREEMPT_CFG_DISABLE_VERIFY p)
  (s.wr (F.PRT_PREEMPT_STATUS_VERIFY p) (if on && !free then 1 else 0)).wrB (F.PRT_PREEMPT_STATUS_ACTIVE p) (on && free)

/-- PREEMPT_CFG_WRITE: stored, and verification restarts (R579). -/
def State.preemptCfg (s : State) (p : Nat) (v : Word) : State :=
  (s.setReg (R.PRT_PREEMPT_CFG p) (BitVec.ofNat 64 (v.toNat % 4096))).preemptStart p

def execPreemptCfgWrite (p : Nat) (v : Word) (s : State) : Out := .next (s.preemptCfg p v)

/-- PREEMPT_VERIFY_TX: every VERIFY_TIME a verify frame, FAILED after three attempts (R579). -/
def execPreemptVerifyTx (p : Nat) (s : State) : Out :=
  let v := s.rd (F.PRT_PREEMPT_STATUS_VERIFY p)
  let n := (s.prt1 p).verifyTries
  if v ≠ 1 ∧ v ≠ 2 then .next s
  else if n < 3 then
    .next (((s.setPrt p { s.prt1 p with verifyTries := n + 1 }).wr (F.PRT_PREEMPT_STATUS_VERIFY p) 2).emit (.verify p))
  else .next ((s.wr (F.PRT_PREEMPT_STATUS_VERIFY p) 4).raise F.PRT_INT_STATUS_PREEMPT_VERIFY)

/-- PREEMPT_RESPOND_RX: verification ends in SUCCEEDED (R579). -/
def execPreemptRespondRx (p : Nat) (s : State) : Out :=
  if s.rd (F.PRT_PREEMPT_STATUS_VERIFY p) = 2 then
    .next (((s.wr (F.PRT_PREEMPT_STATUS_VERIFY p) 3).wrB (F.PRT_PREEMPT_STATUS_ACTIVE p) true).raise
      F.PRT_INT_STATUS_PREEMPT_VERIFY)
  else .next s

/-! Link state (R562-R570) -/

/-- A Link Status Change AEN, where enabled (R590). -/
def State.linkAen (s : State) (p : Nat) : State :=
  let x := s.nc p
  if x.ready && bitOf x.aen 0 then
    s.emit (.ncsi p 0xFF 0 0 [x.aenMc, s.rd (F.PRT_LINK_STATUS_UP p), s.rd (F.PRT_LINK_STATUS_SPEED p)])
  else s

/-- UP changes: LINK_CHANGE is raised (R569). -/
def State.setUp (s : State) (p : Nat) (up : Bool) : State :=
  if s.rdB (F.PRT_LINK_STATUS_UP p) == up then s
  else
    let s := (s.wrB (F.PRT_LINK_STATUS_UP p) up).wr ⟨R.PRT_STATUS, 8 + p, 1⟩ (b2n up)
    let s := (s.raiseBit F.PRT_INT_STATUS_LINK_CHANGE p).linkAen p
    if up then s.preemptStart p else s

/-- The port goes down: a frame being sent is cut short (R569, R570). -/
def State.portDown (s : State) (p : Nat) : State :=
  ((s.setPrt p { s.prt1 p with calWait := false }).portAbort p).setUp p false

/-- Whether the conditions of R569 hold, with negotiation and training done, and nothing holds the port down (R585, R655, R700). -/
def State.linkReady (s : State) (p : Nat) : Bool :=
  let x := s.prt1 p
  let a := s.rd (F.PRT_LINK_STATUS_AN_STATE p)
  s.board.ethClk && !s.board.tripped && x.locked && !s.rdB (F.PRT_LINK_STATUS_LOCAL_FAULT p) && !s.rdB (F.PRT_LINK_STATUS_REMOTE_FAULT p) && !x.down
    && decide (s.portMode p ≠ 0) && (a == 3 || (a == 0 && !s.rdB (F.PRT_AN_CFG_AN_EN p)))

/-- A condition has failed: at once down when DOWN_HOLD is 0; a frame being sent is cut short (R569, R570). -/
def State.linkFails (s : State) (p : Nat) : State :=
  if s.linkReady p then s
  else if s.rd (F.PRT_AN_CFG_DOWN_HOLD p) = 0 then s.portDown p
  else (s.setPrt p { s.prt1 p with calWait := false }).portAbort p

/-- BLOCK_LOCK_CHANGE: block lock, lane alignment or FEC lock is gained or lost; without it the port has local fault (R569). -/
def execBlockLockChange (p : Nat) (locked : Bool) (s : State) : Out :=
  let s := s.setPrt p { s.prt1 p with locked := locked }
  let s := s.wrB (F.PRT_LINK_STATUS_LOCAL_FAULT p) (!locked)
  let s := s.emit (.faultSeq p (if locked then 2 else 1))
  .next (s.linkFails p)

/-- FAULT_SEQUENCE_RX: kind 0 the fault ends, 1 local fault, 2 remote fault (R570, R593). -/
def execFaultSequenceRx (p kind : Nat) (s : State) : Out :=
  let s := (s.wrB (F.PRT_LINK_STATUS_LOCAL_FAULT p) (kind == 1 || !(s.prt1 p).locked)).wrB (F.PRT_LINK_STATUS_REMOTE_FAULT p) (kind == 2)
  let s := if kind = 1 then (s.raiseBit F.PRT_INT_STATUS_LINK_CHANGE p).emit (.faultSeq p 1)
    else s.emit (.faultSeq p (if kind = 2 then 0 else 2))
  .next (s.linkFails p)

/-- PORT_LINK_UP: the conditions have held for 1 ms, and calibration runs (R98, R569). -/
def execPortLinkUp (p : Nat) (s : State) : Out :=
  if s.linkReady p && !s.rdB (F.PRT_LINK_STATUS_UP p) then .next (s.setPrt p { s.prt1 p with calWait := true }) else .next s

/-- PORT_CALIBRATION_DONE: the measurement fills FST_PORT_CAL, or fails, and the port reports link up (R98, R103, R569). -/
def execPortCalibrationDone (p : Nat) (ok : Bool) (tx rx temp : Nat) (s : State) : Out :=
  if (s.prt1 p).calWait then
    let s := (s.setPrt p { s.prt1 p with calWait := false }).calibrate p ok tx rx temp
    .next (if s.linkReady p then s.setUp p true else s)
  else .next s

/-- PORT_LINK_DOWN: a condition has failed for DOWN_HOLD ms (R569). -/
def execPortLinkDown (p : Nat) (s : State) : Out := if s.linkReady p then .next s else .next (s.portDown p)

/-- The speeds a port advertises, highest first, as codes of LINK_STATUS.SPEED (R564). -/
def State.advSpeeds (s : State) (p : Nat) : List Nat :=
  let m := s.portMode p
  let adv := fun c => bitOf (s.rd (F.PRT_AN_CFG_ADV p)) (c - 1)
  (if m = 0 then [] else if m ≤ 3 then [m] else [4, 5, 6, 7]).filter adv

/-- FEC of a resolved speed from abilities and requests of both sides (R565): ability bit 0 BASE-R, bit 1 RS(528,514);
request 1 BASE-R, 2 RS(528,514). -/
def fecResolve (speed able req pAble pReq : Nat) : Nat :=
  let rs := bitOf able 1 && bitOf pAble 1 && (req == 2 || pReq == 2)
  let br := bitOf able 0 && bitOf pAble 0 && (req == 1 || pReq == 1)
  if speed ≤ 5 then 3 else if speed = 6 ∧ rs then 2 else if br then 1 else 0

/-- AN_COMPLETE: the highest common speed and its FEC, or NO_COMMON (R564, R565); `pAdv` is what the partner advertises,
coded as ADV. -/
def execAnComplete (p pAdv pAble pReq : Nat) (s : State) : Out :=
  if s.rd (F.PRT_LINK_STATUS_AN_STATE p) ≠ 1 then .next s
  else
    match (s.advSpeeds p).find? (fun c => bitOf pAdv (c - 1)) with
    | none => .next ((s.wr (F.PRT_LINK_STATUS_AN_STATE p) 4).err (R.PRT_AN_FAIL_CNT p))
    | some c =>
      let fec := fecResolve c (s.rd (F.PRT_AN_CFG_FEC_ABLE p)) (s.rd (F.PRT_AN_CFG_FEC_REQ p)) pAble pReq
      let s := (s.wr (F.PRT_LINK_STATUS_SPEED p) c).wr (F.PRT_LINK_STATUS_FEC p) fec
      .next (s.wr (F.PRT_LINK_STATUS_AN_STATE p) (if s.rdB (F.PRT_AN_CFG_TRAIN_EN p) then 2 else 3))

/-- Negotiation or training begins again. -/
def State.anBegin (s : State) (p : Nat) : State :=
  s.wr (F.PRT_LINK_STATUS_AN_STATE p) (if s.rdB (F.PRT_AN_CFG_AN_EN p) then 1 else if s.rdB (F.PRT_AN_CFG_TRAIN_EN p) then 2 else 0)

/-- AN_RESTART: after break_link_timer the port negotiates again (R564). -/
def execAnRestart (p : Nat) (s : State) : Out :=
  if s.rdB (F.PRT_AN_CFG_AN_EN p) ∧ s.rd (F.PRT_LINK_STATUS_AN_STATE p) = 4 then .next (s.anBegin p) else .next s

/-- LANE_TRAINING_DONE: every lane has trained, or one has failed (R567). -/
def execLaneTrainingDone (p : Nat) (ok : Bool) (s : State) : Out :=
  if s.rd (F.PRT_LINK_STATUS_AN_STATE p) ≠ 2 then .next s
  else if ok then .next ((s.setPrt p { s.prt1 p with trainFails := 0 }).wr (F.PRT_LINK_STATUS_AN_STATE p) 3)
  else
    let n := (s.prt1 p).trainFails + 1
    let s := (s.setPrt p { s.prt1 p with trainFails := n }).err (R.PRT_AN_FAIL_CNT p)
    .next (if s.rd (F.PRT_AN_CFG_TRAIN_RETRIES p) ≤ n then s.wr (F.PRT_LINK_STATUS_AN_STATE p) 5 else s.anBegin p)

/-- TRAIN_RETRY_TIMER: one second after TRAIN_FAIL the port begins again (R567). -/
def execTrainRetryTimer (p : Nat) (s : State) : Out :=
  if s.rd (F.PRT_LINK_STATUS_AN_STATE p) = 5 then .next ((s.setPrt p { s.prt1 p with trainFails := 0 }).anBegin p) else .next s

/-- Whether a forced FEC is permitted in a mode (R561, R568). -/
def fecPermitted (mode fec : Nat) : Bool :=
  if mode ≤ 5 then fec == 3 else if mode = 6 then fec != 3 else fec == 0 || fec == 1

/-- Control firmware has written PRT_LANE_CFG and PRT_AN_CFG: ports take their modes (R562, R564, R568). -/
def State.portsConfigure (s : State) (lane : Nat) (an : List Nat) : State :=
  let s := s.setReg R.PRT_LANE_CFG (BitVec.ofNat 64 (lane &&& 0xFFFFFF0F0F))
  let s := if laneCfgOk lane then s else s.raise F.PRT_INT_STATUS_LANE_CFG_ERR
  s.each (List.range 8) (fun t p =>
    let t := t.setReg (R.PRT_AN_CFG p) (BitVec.ofNat 64 (an.getD p 0x300000 &&& 0xFFF3F7F3))
    let m := laneMode lane p
    let t := t.wr ⟨R.PRT_STATUS, p, 1⟩ (b2n (m != 0))
    if m = 0 then t
    else if t.rdB (F.PRT_AN_CFG_AN_EN p) then t.anBegin p
    else
      let f := t.rd (F.PRT_AN_CFG_FEC_FORCE p)
      let t := (t.wr (F.PRT_LINK_STATUS_SPEED p) m).wr (F.PRT_LINK_STATUS_FEC p) f
      if fecPermitted m f then t.anBegin p else t.wr (F.PRT_LINK_STATUS_AN_STATE p) 4)

/-! Module cages (R583-R586) -/

/-- A cage's byte of PRT_CAGE_CFG: used, first lane, number of lanes. -/
def State.cageCfg (s : State) (k : Nat) : Bool × Nat × Nat :=
  let b := bitsOf (s.reg R.PRT_CAGE_CFG).toNat (8 * k) 8
  (bitOf b 7, b % 8, 2 ^ bitsOf b 3 2)

/-- The ports on a cage's lanes. -/
def State.cagePorts (s : State) (k : Nat) : List Nat :=
  let (used, first, n) := s.cageCfg k
  if used then (List.range 8).filter (fun p => decide (first ≤ p) && decide (p < first + n)) else []

def State.cage (s : State) (k : Nat) : Cage := Map.get s.prt.cage {} k
def State.setCage (s : State) (k : Nat) (c : Cage) : State := { s with prt := { s.prt with cage := Map.set s.prt.cage {} k c } }

/-- MSTATE changes: MOD_CHANGE is raised (R584). -/
def State.setMstate (s : State) (k v : Nat) : State :=
  if s.rd (F.PRT_MOD_STATUS_MSTATE k) = v then s else (s.wr (F.PRT_MOD_STATUS_MSTATE k) v).raise F.PRT_INT_STATUS_MOD_CHANGE

/-- The ports of a cage are held down, or released. -/
def State.cageHold (s : State) (k : Nat) (down : Bool) : State :=
  s.each (s.cagePorts k) (fun t p =>
    let t := t.setPrt p { t.prt1 p with down := down }
    if down then t.portDown p else t)

/-- MODULE_INSERT: control firmware brings the module up; revisions before CMIS 4.0 are not accepted, and without a matching
application the ports stay down (R584, R585; log entry 42). -/
def execModuleInsert (k rev : Nat) (app : Option Nat) (temp : Nat) (s : State) : Out :=
  let s := s.setCage k {}
  let s := ((s.wrB (F.PRT_MOD_STATUS_PRESENT k) true).wr (F.PRT_MOD_STATUS_CMIS_REV k) rev).wr (F.PRT_MOD_STATUS_TEMP k) temp
  let s := (s.setMstate k 1).setMstate k 2
  match app with
  | some a =>
    if 0x40 ≤ rev then .next ((((s.wr (F.PRT_MOD_STATUS_APPSEL k) a).setMstate k 3)).cageHold k false)
    else .next ((s.setMstate k 5).cageHold k true)
  | none => .next ((s.setMstate k 5).cageHold k true)

/-- MODULE_REMOVE: the cage's ports go down (R585). -/
def execModuleRemove (k : Nat) (s : State) : Out :=
  let s := (s.setCage k {}).wrB (F.PRT_MOD_STATUS_PRESENT k) false
  .next ((s.setMstate k 0).cageHold k true)

/-- Control firmware services a module: its temperature is read, or the transfer is not acknowledged (R584, R585). -/
def State.moduleService (s : State) (k : Nat) (nack : Bool) (temp : Nat) : State :=
  if s.rdB (F.PRT_MOD_STATUS_PRESENT k) = false then s
  else if nack then s.setCage k { s.cage k with retry := true }
  else s.wr (F.PRT_MOD_STATUS_TEMP k) temp

/-- MODULE_INTERRUPT: MOD_INT_N is asserted (R584). -/
def execModuleInterrupt (k : Nat) (nack : Bool) (temp : Nat) (s : State) : Out := .next (s.moduleService k nack temp)

/-- MODULE_POLL: the poll of every 100 ms (R584). -/
def execModulePoll (k : Nat) (nack : Bool) (temp : Nat) (s : State) : Out := .next (s.moduleService k nack temp)

/-- MODULE_I2C_RETRY: a transfer is repeated 1 ms after a NACK; a second NACK is FAULT (R585). -/
def execModuleI2cRetry (k : Nat) (nack : Bool) (s : State) : Out :=
  if (s.cage k).retry then
    let s := s.setCage k { retry := false, fault := nack }
    .next (if nack then (s.setMstate k 4).cageHold k true else s)
  else .next s

/-- Start a module access from PRT_MOD_CTRL; a refused one sets ERR (R586). Memory below byte 128 is not on page 03h (log
entry 42). -/
def State.moduleAccess (s : State) (a k page bank off lenM1 : Nat) (write : Bool) : State :=
  if s.rdB (F.PRT_MOD_CTRL_BUSY a) then s
  else
    let v := k + page * 2 ^ 2 + bank * 2 ^ 10 + off * 2 ^ 18 + lenM1 * 2 ^ 26 + b2n write * 2 ^ 29
    let s := s.setReg (R.PRT_MOD_CTRL a) (BitVec.ofNat 64 v)
    let code := if s.rdB (F.PRT_MOD_STATUS_PRESENT k) = false then 1
      else if write ∧ ¬ (bank = 0 ∧ page = 3 ∧ 128 ≤ off) then 3
      else if 256 < off + lenM1 + 1 then 4 else 0
    if code = 0 then
      (s.wrB (F.PRT_MOD_CTRL_BUSY a) true).emit (.i2c k write page off (lenM1 + 1)
        (if write then (s.reg (R.PRT_MOD_DATA a)).toNat % 2 ^ (8 * (lenM1 + 1)) else 0))
    else (s.wrB (F.PRT_MOD_CTRL_ERR a) true).wr (F.PRT_MOD_CTRL_ERR_CODE a) code

/-- MODULE_READ: GO with WRITE 0 (R586). -/
def execModuleRead (a k page bank off lenM1 : Nat) (s : State) : Out := .next (s.moduleAccess a k page bank off lenM1 false)

/-- MODULE_WRITE: GO with WRITE 1 (R586). -/
def execModuleWrite (a k page bank off lenM1 : Nat) (s : State) : Out := .next (s.moduleAccess a k page bank off lenM1 true)

/-- MODULE_ACCESS_DONE: the transfer ends with its data, or with a NACK (R586). -/
def execModuleAccessDone (a : Nat) (nack : Bool) (data : Nat) (s : State) : Out :=
  if s.rdB (F.PRT_MOD_CTRL_BUSY a) = false then .next s
  else
    let s := s.wrB (F.PRT_MOD_CTRL_BUSY a) false
    if nack then .next ((s.wrB (F.PRT_MOD_CTRL_ERR a) true).wr (F.PRT_MOD_CTRL_ERR_CODE a) 2)
    else if s.rdB (F.PRT_MOD_CTRL_WRITE a) then .next s
    else .next (s.setReg (R.PRT_MOD_DATA a) (BitVec.ofNat 64 (data % 2 ^ (8 * (s.rd (F.PRT_MOD_CTRL_LEN_M1 a) + 1)))))

/-! The management port (R587, R588) -/

/-- MGMT_LINK_CHANGE: the PHY's status gives link and speed; 2500BASE-X has one speed; without MGMT_REFCLK there is no link (R587, R700). -/
def execMgmtLinkChange (up : Bool) (speed : Nat) (s : State) : Out :=
  let up := up && s.board.mgmtClk
  .next ((s.wrB F.PRT_MGMT_STATUS_UP up).wr F.PRT_MGMT_STATUS_SPEED (if s.rdB F.PRT_MGMT_STATUS_MODE then 3 else speed % 3))

/-- MGMT_FRAME_RX: a frame of at most 9,216 bytes for the station, broadcast or a listed multicast address goes to control
firmware (R588). -/
def execMgmtFrameRx (l : List Byte) (s : State) : Out :=
  let dst := beNat (l.take 6)
  if s.rdB F.PRT_MGMT_STATUS_UP && decide (l.length ≤ 9216)
      && (dst == s.prt.mgmtMac || dst == 0xFFFFFFFFFFFF || s.prt.mgmtMc.contains dst) then
    .next { s with prt := { s.prt with mgmtRx := s.prt.mgmtRx ++ [l] } }
  else .next s

end Sys2Proof.Machine
end

