-- ==== Sys2Proof/Machine/Macsec.lean ====
section
/-! DEFINITION. Machine/Macsec.lean: the SecY of each port (R382-R386) and the writes of its registers (R393). -/

namespace Sys2Proof.Machine

open Sys2Proof

set_option cleanup.letToHave false

/-- Whether a port's suite uses extended packet numbering. -/
def State.xpn (s : State) (p : Nat) : Bool := decide (2 ≤ s.rd (F.CRY_SECY_CFG_SUITE p))

/-- The nonce: SCI and PN, or with XPN the salt combined with SSCI and PN (IEEE 802.1AE-2018; log entry 43). -/
def State.secNonce (s : State) (n : Nat) (sci : List Byte) (pn : Nat) (xpn : Bool) : Nat :=
  if xpn then
    beNat (leBytes (s.cx n Cx.xpnSalt) 12) ^^^ (s.cx n Cx.spi * 2 ^ 64 + pn)
  else beNat sci * 2 ^ 32 + pn

/-- The 16-byte SecTAG with explicit SCI: EtherType, TCI and AN, SL, low PN, SCI. -/
def secTag (an : Nat) (conf : Bool) (sl pn : Nat) (sci : List Byte) : List Byte :=
  beBytes 0x88E5 2 ++ [BitVec.ofNat 8 (0x20 + (if conf then 0x0C else 0) + an % 4), BitVec.ofNat 8 sl]
    ++ beBytes (pn % 2 ^ 32) 4 ++ sci

/-- The port's frame leaves nothing behind: cells are freed and the frame is dropped. -/
def State.secyDrop (s : State) (p : Nat) (f : TxFrame) : State :=
  ((s.setPrt p { s.prt1 p with tx := none }).freeCells f.q f.cells).txDropped f.pkt

/-- MACSEC_TX_FRAME: the frame the port is about to send is protected with the session of TX_AN (R378, R382, R385). -/
def execMacsecTxFrame (p : Nat) (s : State) : Out :=
  match (s.prt1 p).tx with
  | none => .next s
  | some f =>
    if f.secy = false then .next s
    else
      let an := s.rd (F.CRY_SECY_CFG_TX_AN p)
      let n := s.rd (F.CRY_SECY_TXSA_SESSION p an)
      if s.rdB (F.CRY_SECY_TXSA_IN_USE p an) = false ∨ s.cx n Cx.valid = 0 ∨ s.cx n Cx.kind ≠ kMacsecTx then
        .next ((s.err R.CRY_NO_SESSION_CNT).secyDrop p f)
      else if s.cry.cache.contains n = false then .next s
      else if s.cx n Cx.exhausted = 1 then .next ((s.err R.CRY_EXHAUSTED_CNT).secyDrop p f)
      else
        let (pn, s) := s.assignSeq n
        let l := f.pkt.data
        let conf := s.rdB (F.CRY_SECY_CFG_CONFIDENTIAL p)
        let sci := leBytes (s.reg (R.CRY_SECY_TXSCI p)).toNat 8
        let body := l.drop 12
        let tag := secTag an conf (if body.length < 48 then body.length else 0) pn sci
        let nonce := s.secNonce n sci pn (s.xpn p)
        let key := s.gcmKey n
        let ct := if conf then gcmXor key nonce 0 body else body
        let icv := if conf then gcmTag16 key nonce (l.take 12 ++ tag) ct else gcmTag16 key nonce (l.take 12 ++ tag ++ ct) []
        let s := (s.account n body.length).stat R.CRY_OUT_PKT_CNT
        .next (s.setPrt p { s.prt1 p with tx := some { f with secy := false,
                                                              pkt := { f.pkt with data := l.take 12 ++ tag ++ ct ++ icv } } })

/-- The receive association of an SCI and AN on a port: a session in use (R386, R393). -/
def State.rxSession (s : State) (p : Nat) (sci : Nat) (an : Nat) : Option Nat :=
  let sc := (List.range 32).find? (fun k => (s.reg (R.CRY_SECY_RXSC (32 * p + k))).toNat == sci
    && (List.range 4).any (fun a => s.rdB (F.CRY_SECY_RXSA_IN_USE (32 * p + k) a)))
  match sc with
  | none => none
  | some k =>
    let n := s.rd (F.CRY_SECY_RXSA_SESSION (32 * p + k) an)
    if s.rdB (F.CRY_SECY_RXSA_IN_USE (32 * p + k) an) ∧ s.cx n Cx.valid = 1 ∧ s.cx n Cx.kind = kMacsecRx then some n else none

/-- The packet number of a frame: with XPN its high half is that of the lowest acceptable PN, or one more when that PN's low
half has its top bit set and the received one has not (IEEE 802.1AE-2018; log entry 43). -/
def xpnRecover (low lowest : Nat) : Nat :=
  (lowest / 2 ^ 32 + (if bitOf lowest 31 && !bitOf low 31 then 1 else 0)) * 2 ^ 32 + low

/-- A received SecTAG: offset of the secured data, TCI and AN byte, SL, low PN, SCI as an RXSC register holds it. -/
def secTagOf (l : List Byte) (port : Nat) : Nat × Nat × Nat × Nat × Nat :=
  let tci := (l.getD 14 0).toNat
  let sci := if bitOf tci 5 then leNat ((l.drop 20).take 8) else leNat (((l.drop 6).take 6) ++ beBytes port 2)
  (if bitOf tci 5 then 28 else 20, tci, (l.getD 15 0).toNat, beNat ((l.drop 16).take 4), sci)

/-- Whether a SecTAG is malformed: V bit 1, E without C, SL not matching the length (R386). -/
def secBad (l : List Byte) (off tci sl : Nat) : Bool :=
  let body := l.length - off - 16
  bitOf tci 7 || (bitOf tci 3 && !bitOf tci 2) || decide (l.length < off + 16)
    || (if sl = 0 then decide (body < 48) else decide (48 ≤ sl) || !(sl == body || (l.length == 60 && decide (sl ≤ body))))

/-- Where the secured data of a frame end and its ICV begins. -/
def secStop (l : List Byte) (off sl : Nat) : Nat := if sl = 0 then l.length - 16 else off + sl

/-- A frame without its SecTAG and ICV: what Check mode passes of a frame that is not encrypted (log entry 43). -/
def secStrip (l : List Byte) (off sl : Nat) : List Byte := l.take 12 ++ (l.drop off).take (secStop l off sl - off)

/-- What becomes of a received frame at the SecY. -/
inductive SecFate where
  | pass (data : List Byte)
  | drop (count : Option Nat) (session : Option (Nat × (Nat × Nat)))
  | accept (n pn : Nat) (data : List Byte) (len : Nat)

/-- R386, row by row; a frame of an exhausted session is dropped (R378). -/
def State.secFate (s : State) (p : Nat) (l : List Byte) : SecFate :=
  let val := s.rd (F.CRY_SECY_CFG_VALIDATE p)
  if be16 l 12 ≠ 0x88E5 then (if val = 2 then .drop (some R.CRY_UNTAGGED_CNT) none else .pass l)
  else
    let (off, tci, sl, low, sci) := secTagOf l 1
    if val = 0 then .pass l
    else if secBad l off tci sl then .drop (some R.CRY_MALFORMED_CNT) none
    else
      let enc := bitOf tci 3
      let an := tci % 4
      match s.rxSession p sci an with
      | none => if val = 1 ∧ enc = false then .pass (secStrip l off sl) else .drop (if val = 2 then some R.CRY_NO_SESSION_CNT else none) none
      | some n =>
        let stop := secStop l off sl
        let body := (l.drop off).take (stop - off)
        let icv := (l.drop stop).take 16
        let top := s.cx n Cx.seq + 1
        let win := s.rd (F.CRY_SECY_CFG_REPLAY_WINDOW p)
        let lowest := if win < top then top - win else 1
        let pn := if s.xpn p then xpnRecover low lowest else low
        let key := s.gcmKey n
        let nonce := s.secNonce n (leBytes sci 8) pn (s.xpn p)
        let head := l.take off
        let good := if enc then gcmTag16 key nonce head body else gcmTag16 key nonce (head ++ body) []
        if s.cx n Cx.exhausted = 1 then .drop (some R.CRY_EXHAUSTED_CNT) none
        else if good ≠ icv then
          if val = 1 ∧ enc = false then .pass (secStrip l off sl) else .drop none (some (n, Cx.authFail))
        else if s.rdB (F.CRY_SECY_CFG_REPLAY_PROTECT p) ∧ pn < lowest then .drop none (some (n, Cx.replay))
        else .accept n pn (l.take 12 ++ (if enc then gcmXor key nonce 0 body else body)) body.length

/-- MACSEC_RX_FRAME: the SecY takes the oldest frame the port has received (R383, R386). -/
def execMacsecRxFrame (p : Nat) (s : State) : Out :=
  match (s.prt1 p).secyRx with
  | [] => .next s
  | f :: t =>
    let off := s.setPrt p { s.prt1 p with secyRx := t }
    match s.secFate p f.data with
    | .pass d => .next (off.portDeliver p { f with data := d })
    | .drop c w =>
      let s := match c with | some r => off.err r | none => off
      .next (match w with | some (n, x) => s.cxStick n x | none => s)
    | .accept n pn d len =>
      if s.cry.cache.contains n = false then .next s
      else
        let s := if off.cx n Cx.seq < pn then off.setCx n Cx.seq pn else off
        let s := ((s.softCheck n pn).account n len).stat R.CRY_IN_PKT_CNT
        .next (s.portDeliver p { f with data := d })

/-- Whether an association entry may name a session: device-owned and of the kind (R393). -/
def State.saOk (s : State) (v : Word) (kind : Nat) : Bool :=
  let n := bitsOf v.toNat 0 22
  bitOf v.toNat 22 == false || (s.cx n Cx.kind == kind && s.cx n Cx.owner == 0xFFF)

/-- A write of a SecY register (R393): `off` is its BAR 0 offset. Instances whose PTP protection changes follow (R114). -/
def State.secyWrite (s : State) (off : Nat) (v : Word) : State :=
  let o := off - R.CRY_STATUS
  let s :=
    if o < 0x2000 then
      let k := o % 0x40
      if k = 0 then s.setReg off (v &&& 0xFFFFFFFF000007FF)
      else if k = 8 then s.setReg off v
      else if s.saOk v kMacsecTx then s.setReg off (v &&& 0x7FFFFF) else s.err R.CRY_KIND_CNT
    else if (o - 0x2000) % 0x30 = 0 then s.setReg off v
    else if s.saOk v kMacsecRx then s.setReg off (v &&& 0x7FFFFF) else s.err R.CRY_KIND_CNT
  s.each (List.range 8) State.oneStepDown

/-- SECY_REGISTER_WRITE (R393). -/
def execSecyRegisterWrite (off : Nat) (v : Word) (s : State) : Out := .next (s.secyWrite off v)

end Sys2Proof.Machine
end

