-- ==== Sys2Proof/Machine/Pcie.lean ====
section
/-! DEFINITION. Machine/Pcie.lean: links of the attachments (R433-R436, R449, R461, R463, R663), Bus Master Enable and power states
(R438, R456, R457), pending interrupts (R454, R457), answers to partner violations (R459, R466, R468, R475), peer windows
(R469-R473) and ATS (R474). -/

namespace Sys2Proof.Machine

open Sys2Proof

set_option cleanup.letToHave false

/-- The link of an attachment. -/
def State.link (s : State) (a : Nat) : Link := Map.get s.links {} a

/-- Change the link of an attachment. -/
def State.updLink (s : State) (a : Nat) (g : Link → Link) : State := { s with links := Map.upd s.links {} a g }

/-- Lanes of an attachment under a bifurcation code (R430). -/
def lanesOf (code a : Nat) : Nat :=
  (([[16], [8, 8], [8, 4, 4], [4, 4, 4, 4]] : List (List Nat)).getD code []).getD a 0

/-- The widest link that `n` lanes carry (R434). -/
def linkWidth (n : Nat) : Nat := if 16 ≤ n then 16 else if 8 ≤ n then 8 else if 4 ≤ n then 4 else if 2 ≤ n then 2 else 1

/-- Every function of an attachment, listed or not (R14, R432). -/
def State.allFuncs (s : State) (a : Nat) : List Nat :=
  [2 * a, 2 * a + 1] ++ (List.range (s.rd (F.HIF_VF_RANGE_COUNT a))).map (fun v => 8 + s.rd (F.HIF_VF_RANGE_FIRST a) + v)

/-! Training -/

/-- Whether attachment a may leave Detect (R663, R655, R700). -/
def State.mayTrain (s : State) (a : Nat) : Bool :=
  s.present a && (s.link a).perstN && (s.link a).refclk && s.rdB F.GLB_BOOT_HIF_READY && !s.board.tripped && !s.board.held

/-- Train with a partner that supports `rate` (1 to 6), `width` lanes and FLIT mode or not (R433, R434). -/
def State.train (s : State) (a rate width : Nat) (flit rev : Bool) : State :=
  let fl := flit && s.rdB (F.HIF_LINK_CFG_FLIT_EN a)
  let r := max 1 (min rate (s.rd (F.HIF_LINK_CFG_MAX_RATE a)))
  let r := if fl then r else min r 5
  let w := linkWidth (min width (lanesOf (s.rd F.HIF_STATUS_BIFURCATION) a))
  let old := (s.reg (R.HIF_LINK_STATUS a)).toNat
  let s := ((s.wr (F.HIF_LINK_STATUS_LTSSM a) 3).wr (F.HIF_LINK_STATUS_RATE a) r).wr (F.HIF_LINK_STATUS_WIDTH a) w
  let s := (s.wrB (F.HIF_LINK_STATUS_FLIT a) fl).wrB (F.HIF_LINK_STATUS_REVERSED a) rev
  let s := (s.wrB (F.HIF_LINK_STATUS_DL_UP a) true).updLink a (fun x => { x with replays := 0 })
  if bitsOf old 4 9 = r % 8 + bitsOf old 7 1 * 8 + w * 16 ∧ bitOf old 14 then s else s.raiseBit F.HIF_INT_STATUS_LINK_CHANGE a

/-- PCIE_LINK_UP: training completes to DL_Active. -/
def execPcieLinkUp (a rate width : Nat) (flit rev : Bool) (s : State) : Out :=
  if s.mayTrain a ∧ ¬ s.rdB (F.HIF_LINK_STATUS_DL_UP a) then .next (s.train a rate width flit rev) else .next s

/-- RETRAIN_LINK: the host sets Retrain Link; the link goes through Recovery (R435). -/
def execRetrainLink (a rate width : Nat) (flit rev : Bool) (s : State) : Out :=
  if s.mayTrain a ∧ s.rdB (F.HIF_LINK_STATUS_DL_UP a) then .next ((s.stat (R.HIF_RECOVERY_CNT a)).train a rate width flit rev) else .next s

/-- REPLAY_TIMER_EXPIRY: the TLP is replayed; the fourth expiry for the same TLP takes the link to Recovery (R449). -/
def execReplayTimerExpiry (a : Nat) (same : Bool) (s : State) : Out :=
  if s.rdB (F.HIF_LINK_STATUS_DL_UP a) then
    let n := if same then (s.link a).replays + 1 else 1
    let s := s.stat (R.HIF_REPLAY_CNT a)
    if n < 4 then .next (s.updLink a (fun x => { x with replays := n }))
    else .next (((s.updLink a (fun x => { x with replays := 0 })).stat (R.HIF_RECOVERY_CNT a)).wr (F.HIF_LINK_STATUS_LTSSM a) 4)
  else .next s

/-- IDE key sets and secure sessions of an attachment that is reset (R606). -/
def State.trustDown (s : State) (a : Nat) : State :=
  let l := s.grt.sess.filter (fun e => match e.2 with | some x => x.conn != a | none => false)
  let ks := s.grt.ideKeys.filter (fun e => e.1 / 18 != a)
  let ar := s.grt.ideArmed.filter (fun k => k / 18 != a)
  let g : Grotto := { s.grt with sess := l, conns := Map.erase s.grt.conns a, ideKeys := ks, ideArmed := ar }
  let s := { s with grt := g }
  s.wr F.GRT_STATUS_SESSIONS l.length

/-- What the loss of an attachment's link or its PERST_N does (R461, R606): every function reset, peer windows and IDE streams off. -/
def State.attDown (s : State) (a : Nat) : State :=
  let was := s.rdB (F.HIF_LINK_STATUS_DL_UP a)
  let s := s.each (s.allFuncs a) State.resetOne
  let s := s.each (List.range 16) (fun t n => t.wrB (F.HIF_WIN_LIVE_CFG_ENABLE a n) false)
  let s := s.setReg (R.HIF_LINK_STATUS a) 0
  let s := (s.updLink a (fun x => { x with winBusy := false, replays := 0 })).wrB (F.HIF_WIN_COMMIT_BUSY a) false
  let s := s.trustDown a
  if was then s.raiseBit F.HIF_INT_STATUS_LINK_CHANGE a else s

/-- PCIE_LINK_DOWN: attachment a leaves DL_Active. -/
def execPcieLinkDown (a : Nat) (s : State) : Out :=
  if s.rdB (F.HIF_LINK_STATUS_DL_UP a) then .next (s.attDown a) else .next s

/-- PERST_ASSERT: before HIF_READY it only holds the link in Detect (R461, R666). -/
def execPerstAssert (a : Nat) (s : State) : Out :=
  let s1 := s.updLink a (fun x => { x with perstN := false })
  if (s.link a).perstN ∧ s.present a ∧ s.rdB F.GLB_BOOT_HIF_READY then .next (s1.attDown a) else .next s1

/-- PERST_RELEASE: the attachment may train again (R463, R663). -/
def execPerstRelease (a : Nat) (s : State) : Out := .next (s.updLink a (fun x => { x with perstN := true }))

/-- PCIE_REFCLK_LOSS (R700). -/
def execPcieRefclkLoss (a : Nat) (s : State) : Out :=
  let s := s.updLink a (fun x => { x with refclk := false })
  if s.rdB (F.HIF_LINK_STATUS_DL_UP a) then .next (s.attDown a) else .next s

/-- PCIE_REFCLK_RETURN. -/
def execPcieRefclkReturn (a : Nat) (s : State) : Out := .next (s.updLink a (fun x => { x with refclk := true }))

/-! Bus Master Enable, D3hot, pending interrupts -/

/-- A function issues no more requests: reads are discarded, queues pause, a locked interface goes to ERROR with its queues stopped
(R456, R467). -/
def State.bmeOff (s : State) (f : Nat) : State :=
  let x := s.func f
  let s := s.queuesOff f (if x.tdi = .locked ∨ x.tdi = .run then .stopped else .paused)
  let rs := s.reads.map (fun (r : Read) => if r.func = f then { r with discard := true, bmeDrop := true } else r)
  let s := { s with reads := rs, readWait := s.readWait.filter (fun r => r.func != f) }
  s.tdiError f

/-- BME_CLEAR. -/
def execBmeClear (f : Nat) (s : State) : Out :=
  if (s.func f).cfg.bme then .next ((s.updFunc f (fun x => { x with cfg := { x.cfg with bme := false } })).bmeOff f) else .next s

/-- Send a vector's pending message when nothing holds it back any more. -/
def State.pbaSend (s : State) (f v : Nat) : State :=
  let x := s.func f
  let e := Map.get x.msix {} v
  if e.pba ∧ ¬ e.masked ∧ ¬ x.cfg.funcMask ∧ x.cfg.master ∧ x.cfg.msixEn then
    (s.setFunc f { x with msix := Map.set x.msix {} v { e with pba := false } }).emit (.msix f v e.addr e.data)
  else s

/-- Send every pending message that nothing holds back: MSI-X, then MSI. -/
def State.pendSend (s : State) (f : Nat) : State :=
  let s := s.each ((s.func f).msix.map (·.1)) (fun t v => t.pbaSend f v)
  let c := (s.func f).cfg
  if c.msiEn ∧ ¬ c.msixEn ∧ c.master then
    s.each ((List.range 32).filter (fun k => bitOf c.msiPend k && !bitOf c.msiMask k)) (fun t k =>
      (t.updFunc f (fun x => { x with cfg := { x.cfg with msiPend := x.cfg.msiPend - 2 ^ k } })).emit (.msi f k))
  else s

/-- Admin completion entries that waited for Bus Master Enable are written (R491; log entry 16). -/
def State.heldFlush (s : State) (f : Nat) : State :=
  let mine := s.held.filter (fun h => h.1 == f)
  let s := { s with held := s.held.filter (fun h => h.1 != f) }
  s.each mine (fun t h =>
    t.admEntry f (leNat (h.2.take 8)) (leNat ((h.2.drop 8).take 8)) (leNat ((h.2.drop 16).take 8)) (leNat ((h.2.drop 24).take 8)))

/-- Pending interrupts and held entries of a function go out, where it may send; no queue resumes (R457, R491). -/
def State.bmeOn (s : State) (f : Nat) : State := (s.heldFlush f).pendSend f

/-- BME_SET. -/
def execBmeSet (f : Nat) (s : State) : Out :=
  .next ((s.updFunc f (fun x => { x with cfg := { x.cfg with bme := true } })).bmeOn f)

/-- D3HOT_ENTRY: as Bus Master Enable cleared; with every function of the attachment in D3hot the link enters L1 (R438). -/
def execD3hotEntry (f : Nat) (s : State) : Out :=
  let s := (s.updFunc f (fun x => { x with cfg := { x.cfg with d3hot := true } })).bmeOff f
  let a := s.attOf f
  let pf := (s.func (2 * a + 1)).cfg
  let vfs := if pf.vfEnable then (List.range pf.numVfs).map (fun k => 8 + s.rd (F.HIF_VF_RANGE_FIRST a) + k) else []
  if s.rdB (F.HIF_LINK_STATUS_DL_UP a) ∧ ([2 * a, 2 * a + 1] ++ vfs).all (fun g => (s.func g).cfg.d3hot) then
    .next (s.wr (F.HIF_LINK_STATUS_LTSSM a) 5)
  else .next s

/-- MSIX_VECTOR_UNMASK: a vector is unmasked, or with none Function Mask is cleared (R454). -/
def execMsixVectorUnmask (f : Nat) (vec : Option Nat) (s : State) : Out :=
  match vec with
  | some v => .next ((s.updFunc f (fun x => { x with msix := Map.upd x.msix {} v (fun e => { e with masked := false }) })).pbaSend f v)
  | none => .next ((s.updFunc f (fun x => { x with cfg := { x.cfg with funcMask := false } })).pendSend f)

/-! Violations (R459, R466, R468, R475) -/

/-- Set AER bits of a function. -/
def State.aerSet (s : State) (f : Nat) (g : Aer → Aer) : State := s.updFunc f (fun x => { x with aer := g x.aer })

/-- MALFORMED_TLP: `kind` 0 malformed; 1 to no BAR or with Memory Space Enable 0; 2 locked read, AtomicOp or PASID; 3 poisoned write; 4
T 0 request to a TDI in RUN; 5 memory access to a function whose reset is in progress. `read` says that the request wants a completion. -/
def execMalformedTlp (f kind : Nat) (read : Bool) (s : State) : Out :=
  let a := s.attOf f
  let ur := fun (t : State) => if read then t.emit (.unsupported a) else t
  if kind = 0 then .next ((s.aerSet f (fun x => { x with malformed := true })).err (R.HIF_MALFORMED_CNT a))
  else if kind = 1 ∨ kind = 2 then .next (ur (s.aerSet f (fun x => { x with unsupported := true })))
  else if kind = 3 then .next (s.aerSet f (fun x => { x with poisoned := true }))
  else if kind = 4 then
    if (s.func f).tdi = .run then .next (ur (s.aerSet f (fun x => { x with unsupported := true }))) else .next s
  else if (s.func f).resetting then .next (ur (s.err (R.HIF_MALFORMED_CNT a)))
  else .next s

/-- IDE_CHECK_FAIL: a TLP of stream k (0 the link stream) of attachment a fails its check; on an Insecure stream it is only discarded
(R466). -/
def execIdeCheckFail (a k : Nat) (s : State) : Out :=
  if s.rdB (F.HIF_IDE_STATUS_SECURE a k) then
    let s := (s.wrB (F.HIF_IDE_STATUS_SECURE a k) false).aerSet (2 * a) (fun x => { x with ideFail := true })
    let s := (s.err (R.HIF_IDE_FAIL_CNT a)).raiseBit F.HIF_INT_STATUS_IDE_FAIL a
    let bound := (s.funcsOf a).filter (fun f => isVf f && (s.func f).tdiStream == k && ((s.func f).tdi == .locked || (s.func f).tdi == .run))
    .next (s.each bound (fun t f =>
      let t := (t.queuesOff f .stopped).tdiError f
      let rs := t.reads.map (fun (r : Read) => if r.func = f then { r with discard := true } else r)
      { t with reads := rs }))
  else .next s

/-! Peer windows (R469-R473) -/

/-- Why a request is refused: 0 when it is translated (R469). -/
def State.winReason (s : State) (a n o len rid : Nat) (write : Bool) : Nat :=
  if ¬ s.rdB (F.HIF_WIN_LIVE_CFG_ENABLE a n) then 1
  else if ¬ (if write then s.rdB (F.HIF_WIN_LIVE_CFG_WR a n) else s.rdB (F.HIF_WIN_LIVE_CFG_RD a n)) then 2
  else if s.rd (F.HIF_WIN_LIVE_CFG_LIMIT a n) * 2 ^ 21 < o + len then 3
  else if s.rdB (F.HIF_WIN_LIVE_CFG_SRC_CHECK a n) ∧
      (rid &&& s.rd (F.HIF_WIN_LIVE_SRC_RID_MASK a n)) ≠ (s.rd (F.HIF_WIN_LIVE_SRC_RID a n) &&& s.rd (F.HIF_WIN_LIVE_SRC_RID_MASK a n)) then 4
  else 0

/-- PEER_WINDOW_REQUEST: a read of `len` bytes, or a write of `data`, at BAR 4 offset x of attachment a, from a requester. -/
def execPeerWindowRequest (a x len rid : Nat) (data : Option (List (BitVec 8))) (s : State) : Out :=
  if ¬ s.barOpen (2 * a) then .next (s.barRefuse (2 * a) data.isNone) else
  let n := x / 2 ^ 30 % 16
  let o := x % 2 ^ 30
  let write := data.isSome
  let len := match data with | some d => d.length | none => len
  let why := s.winReason a n o len rid write
  let addr := s.rd (F.HIF_WIN_LIVE_TARGET_BASE a n) * 2 ^ 21 + o
  if why = 0 then
    match data with
    | some d => .next { s with hbm := Mem.putBytes s.hbm addr d }
    | none => .next (s.emit (.peerData a (Mem.bytes s.hbm addr len)))
  else
    let s := s.setReg (R.HIF_WIN_LOG a) (BitVec.ofNat 64 (rid % 2 ^ 16 + n * 2 ^ 16 + b2n write * 2 ^ 20 + why * 2 ^ 21))
    let s := (s.err (R.HIF_WIN_MISS_CNT a)).raiseBit F.HIF_INT_STATUS_WIN_MISS a
    .next (if write then s else s.emit (.unsupported a))

/-- Whether a shadow window stays inside HIF_PEER_REGION (R470). -/
def State.winInside (s : State) (a n : Nat) : Bool :=
  let b := s.rd (F.HIF_WIN_TARGET_BASE a n)
  let l := s.rd (F.HIF_WIN_CFG_LIMIT a n)
  l == 0 || (decide (s.rd F.HIF_PEER_REGION_BASE ≤ b) && decide (b + l ≤ s.rd F.HIF_PEER_REGION_BASE + s.rd F.HIF_PEER_REGION_SIZE))

/-- GO to HIF_WIN_COMMIT: the named shadows are checked; all of them wait for the next TLP boundary, or none (R470). A GO while BUSY is 1
is ignored (log entry 39). -/
def State.winCommit (s : State) (a mask : Nat) : State :=
  if s.rdB (F.HIF_WIN_COMMIT_BUSY a) then s
  else
    match ((List.range 16).filter (fun n => bitOf mask n)).find? (fun n => !s.winInside a n) with
    | some n => (s.wrB (F.HIF_WIN_COMMIT_ERR a) true).wr (F.HIF_WIN_COMMIT_ERR_WIN a) n
    | none =>
      let s := (s.wrB (F.HIF_WIN_COMMIT_ERR a) false).wrB (F.HIF_WIN_COMMIT_BUSY a) true
      s.updLink a (fun x => { x with winBusy := true, winMask := mask % 2 ^ 16 })

/-- WIN_COMMIT. -/
def execWinCommit (a mask : Nat) (s : State) : Out := .next (s.winCommit a mask)

/-- WIN_SWAP: the shadows become live together (R470). -/
def execWinSwap (a : Nat) (s : State) : Out :=
  let x := s.link a
  if x.winBusy then
    let s := s.each ((List.range 16).filter (fun n => bitOf x.winMask n)) (fun t n =>
      ((t.setReg (R.HIF_WIN_LIVE_CFG a n) (t.reg (R.HIF_WIN_CFG a n))).setReg (R.HIF_WIN_LIVE_TARGET a n)
        (t.reg (R.HIF_WIN_TARGET a n))).setReg (R.HIF_WIN_LIVE_SRC a n) (t.reg (R.HIF_WIN_SRC a n)))
    .next ((s.wrB (F.HIF_WIN_COMMIT_BUSY a) false).updLink a (fun y => { y with winBusy := false, winMask := 0 }))
  else .next s

/-! ATS (R474) -/

/-- Whether a peer channel of an attachment has a host read outstanding. -/
def State.peerBusy (s : State) (a : Nat) : Bool :=
  s.reads.any (fun r => r.att == a && (match r.why with
    | .rope c _ => s.rdB (F.ROPE_CHAN_CFG_PEER c)
    | _ => false))

/-- ATS_INVALIDATE_REQUEST: completes once no request that may use the translation is outstanding. -/
def execAtsInvalidateRequest (a : Nat) (s : State) : Out := if s.peerBusy a then .next s else .next (s.emit (.atsDone a))

end Sys2Proof.Machine
end

