-- ==== Sys2Proof/Machine/Ruleset.lean ====
section
/-! DEFINITION. Machine/Ruleset.lean: building, committing and retiring ruleset versions (R186-R197, R305, R319, R513). -/

namespace Sys2Proof.Machine

open Sys2Proof

set_option cleanup.letToHave false

/-- Set a version's state in its slot. -/
def State.setVer (s : State) (v : Version) : State :=
  { s with path := { s.path with versions := Map.set s.path.versions {} (v.num % 4) v } }

/-- Whether N is the open version. -/
def State.isOpen (s : State) (n : Nat) : Bool :=
  s.rdB F.MAT_VER_STATUS_OPEN && s.rd F.MAT_VER_STATUS_OPEN_VER == n

/-- Change every TCAM entry's slot bits; an entry without one is free (R178). -/
def State.tcamSlots (s : State) (f : Nat → Nat) : State :=
  { s with path := { s.path with
    tcam := (s.path.tcam.map (fun e => (e.1, { e.2 with slots := f e.2.slots }))).filter (fun e => e.2.slots != 0) } }

/-- A bit mask without bit k. -/
def clearBit (n k : Nat) : Nat := if bitOf n k then n - 2 ^ k else n

/-- A bit mask with bit k. -/
def withBit (n k : Nat) : Nat := if bitOf n k then n else n + 2 ^ k

/-- RULESET_OPEN (R187). -/
def execRulesetOpen (f : Nat) (s : State) : Out :=
  let cur := s.rd F.MAT_VER_STATUS_CURRENT
  let done := s.rdB F.PRS_STATUS_RULESET
  .next (s.admRun f 0x20 true [0xFFFF] (fun c => !done || bitsOf (c.word 8) 0 16 == (cur + 1) % 65536) (fun s c =>
    let n := bitsOf (c.word 8) 0 16
    if s.rdB F.MAT_VER_STATUS_OPEN then s.admDone f stBusy
    else if 4 ≤ s.rd F.MAT_VER_STATUS_LIVE then s.admDone f stWindowFull
    else if s.path.clearing.contains (n % 4) then s.admDone f stBusy
    else
      let v : Version := if done then { s.ver cur with num := n, live := false, staged := 0 } else { num := n }
      let s := s.setVer v
      let s := if done then s.tcamSlots (fun m => if bitOf m (cur % 4) then withBit m (n % 4) else m) else s
      ((s.wr F.MAT_VER_STATUS_OPEN 1).wr F.MAT_VER_STATUS_OPEN_VER n).admDone f stSuccess))

/-! RULESET_STAGE (R188, R189, R513) -/

/-- Reserved bits of an action record are zero (R180). -/
def actionClean (a : Nat) : Bool :=
  bitsOf a 12 4 == 0 && bitsOf a 52 12 == 0 && bitsOf a 83 1 == 0 && bitsOf a 134 2 == 0 && bitsOf a 156 4 == 0
    && bitsOf a 175 1 == 0 && bitsOf a 184 8 == 0

/-- The size of an entry of a table kind (R174). -/
def entrySize (kind : Nat) : Nat := if kind = 2 then 128 else 64

/-- An entry's key (scope and prefix for LPM), prefix length and action from its bytes; none when a reserved field is not
zero or a field is out of range (R171, R174). -/
def entryParse (t : MatchTable) (l : List Byte) (del : Bool) : Option (List Byte × Nat × Nat) :=
  let h := leAt l 0 8
  let hdrOk := bitsOf h 3 13 == 0 && bitsOf h 48 16 == 0
  if t.kind = 1 then
    let a := leAt l 32 32
    if del || (hdrOk && actionClean a) then some ((l.drop 8).take 24, 0, a) else none
  else if t.kind = 2 then
    let a := leAt l 96 32
    if del || (hdrOk && actionClean a && leAt l 0x58 8 == 0) then some ((l.drop 8).take 80, 0, a) else none
  else
    let a := leAt l 32 32
    let plen := leAt l 12 1
    let n := if t.family = 0 then 4 else 16
    let pre := (l.drop 16).take 16
    let zeros := (List.range 128).all (fun i => decide (i < plen) || !bitAt pre i)
    if plen ≤ 8 * n ∧ zeros ∧ (del = true ∨ (hdrOk = true ∧ actionClean a = true ∧ leAt l 13 3 = 0)) then
      some ((l.drop 8).take 4 ++ pre.take n, plen, a)
    else none

/-- The places a key may take in a table (R168, R169). -/
def MatchTable.places (t : MatchTable) (key : List Byte) : List Nat :=
  let a := crc32c t.seed1 key % t.count
  let b := crc32c t.seed2 key % t.count
  if t.kind = 4 then List.range t.count
  else if t.hbm then [a, b]
  else (List.range 4).map (fun j => 4 * a + j) ++ (List.range 4).map (fun j => 4 * b + j)

/-- Set a match table. -/
def State.setTable (s : State) (n : Nat) (t : MatchTable) : State :=
  { s with path := { s.path with tables := Map.set s.path.tables {} n t } }

/-- One more staged change of a version. -/
def State.staged1 (s : State) (n : Nat) : State :=
  let v := s.ver n
  s.setVer { v with staged := v.staged + 1 }

/-- ENTRY_ADD. -/
def State.entryAdd (s : State) (f n tab : Nat) (l : List Byte) : State :=
  let t := Map.get s.path.tables {} tab
  match entryParse t l false with
  | none => s.admDone f stBadField
  | some (key, plen, a) =>
    if t.entries.any (fun e => e.visible n && e.key == key && e.plen == plen) then s.admDone f stBadField
    else
      let used := fun (p : Nat) => t.entries.any (fun e => e.place == p) || s.path.retiredPlaces.contains (tab, p)
      match (t.places key).find? (fun p => !used p) with
      | none => s.admDone f stNoResource
      | some p =>
        if 1048576 ≤ (s.ver n).staged then s.admDone f stNoResource
        else
          let e : Entry := { place := p, addPend := true, addVer := n, delPend := false, delVer := 0, key := key,
                             plen := plen, action := a }
          (((s.setTable tab { t with entries := t.entries ++ [e] }).staged1 n).admDone f stSuccess)

/-- ENTRY_DEL. -/
def State.entryDel (s : State) (f n tab : Nat) (l : List Byte) : State :=
  let t := Map.get s.path.tables {} tab
  match entryParse t l true with
  | none => s.admDone f stBadField
  | some (key, plen, _) =>
    match t.entries.find? (fun e => e.visible n && e.key == key && e.plen == plen) with
    | none => s.admDone f stBadField
    | some e =>
      if 1048576 ≤ (s.ver n).staged then s.admDone f stNoResource
      else
        let t' := { t with entries := t.entries.map (fun x => if x == e then { x with delPend := true, delVer := n } else x) }
        ((s.setTable tab t').staged1 n).admDone f stSuccess

/-- TCAM_SET: a free entry takes value, mask and action, visible to N (R178, R513). -/
def State.tcamSet (s : State) (f n i : Nat) (l : List Byte) : State :=
  if 32768 ≤ i ∨ l.getD 0 0 ≠ 0 ∨ l.getD 80 0 ≠ 0 ∨ ¬ actionClean (leAt l 160 32) then s.admDone f stBadField
  else if (Map.get s.path.tcam {} i).slots ≠ 0 then s.admDone f stBusy
  else if 1048576 ≤ (s.ver n).staged ∨ s.path.retiredPlaces.contains (256, i) then s.admDone f stNoResource
  else
    let e : TcamEntry := { slots := 2 ^ (n % 4), value := l.take 80, mask := (l.drop 80).take 80, action := leAt l 160 32 }
    (({ s with path := { s.path with tcam := Map.set s.path.tcam {} i e } }).staged1 n).admDone f stSuccess

/-- TCAM_CLEAR: slot bit N mod 4 of one entry. -/
def State.tcamClear (s : State) (f n i : Nat) : State :=
  if 32768 ≤ i then s.admDone f stBadField
  else if 1048576 ≤ (s.ver n).staged then s.admDone f stNoResource
  else
    let e := Map.get s.path.tcam {} i
    let m := clearBit e.slots (n % 4)
    let e' : TcamEntry := if m = 0 then {} else { e with slots := m }
    (({ s with path := { s.path with tcam := Map.set s.path.tcam {} i e' } }).staged1 n).admDone f stSuccess

/-- PARSE_IMAGE. -/
def State.stageParse (s : State) (f n : Nat) (l : List Byte) : State :=
  let h := leAt l 0 8
  let used := 0x7FF + 0x7FF * 2 ^ 16 + 0x7FF * 2 ^ 32 + 0x7FF * 2 ^ 48
  if h &&& used ≠ h then s.admDone f stBadField
  else
    let words := (List.range ((l.length - 8) / 8)).map (fun i => BitVec.ofNat 64 (leAt l (8 + 8 * i) 8))
    let v := s.ver n
    (s.setVer { v with parse := words, entries := [bitsOf h 0 11, bitsOf h 16 11, bitsOf h 32 11, bitsOf h 48 11] }).admDone f
      stSuccess

/-- BINDING. -/
def State.stageBinding (s : State) (f n st : Nat) (l : List Byte) : State :=
  let h := leAt l 0 8
  let a := leAt l 32 32
  let segs := (List.range 8).map (fun i => leAt l (8 + 2 * i) 2)
  let tail := leAt l 24 8
  if 16 ≤ st ∨ h &&& 0x3F1FFF0F ≠ h ∨ tail &&& 0xF ≠ tail ∨ segs.any (fun g => bitsOf g 12 4 != 0) ∨ ¬ actionClean a then
    s.admDone f stBadField
  else
    let b : Binding := { kind := bitsOf h 0 3, hbm := bitOf h 3, table := bitsOf h 8 8, tcamFirst := bitsOf h 16 5,
                         tcamBlocks := bitsOf h 24 6, nseg := tail, segs := segs, miss := a }
    let v := s.ver n
    (s.setVer { v with bindings := Map.set v.bindings {} st b }).admDone f stSuccess

/-- MIRROR and CLASS_POLICY. -/
def State.stageMirror (s : State) (f n i : Nat) (l : List Byte) : State :=
  if i = 0 ∨ 15 < i ∨ ¬ actionClean (leAt l 0 32) then s.admDone f stBadField
  else
    let v := s.ver n
    (s.setVer { v with mirrors := Map.set v.mirrors 0 i (leAt l 0 32) }).admDone f stSuccess

def State.stagePolicy (s : State) (f n i : Nat) (l : List Byte) : State :=
  if 63 < i then s.admDone f stBadField
  else
    let v := s.ver n
    (s.setVer { v with policies := Map.set v.policies policyReset i (leAt l 0 8) }).admDone f stSuccess

/-- ENGINE_IMAGE. -/
def State.stageEngine (s : State) (f n : Nat) (l : List Byte) : State :=
  let v := s.ver n
  (s.setVer { v with image := Mem.putBytes [] 0 l, hasImage := true }).admDone f stSuccess

/-- The size LEN must have for an object; none for an object that does not exist. -/
def State.stageLen (s : State) (obj tab len : Nat) : Option Nat :=
  let k := (Map.get s.path.tables {} tab).kind
  if obj = 0 ∨ obj = 1 then (if k = 1 ∨ k = 2 ∨ k = 4 then some (entrySize k) else none)
  else if obj = 2 then some 192
  else if obj = 3 then some 0
  else if obj = 4 then (if len % 8 = 0 ∧ 8 ≤ len ∧ len ≤ 8 + 8 * 2048 then some len else none)
  else if obj = 5 then some 64
  else if obj = 6 then some 8192
  else if obj = 7 then some 32
  else if obj = 8 then some 8
  else if obj = 9 then some 32
  else none

/-- Operand bits of RULESET_STAGE in use. -/
abbrev stageMasks : List Nat := [0xFFFFFFFFFFFF, 0xFFFFFFFF, 0xFFFFFFFFFFFFFFFF, 0xFFFFFFFF]

/-- RULESET_STAGE of OBJECT 0 to 8; an OBJECT that does not exist is refused (R188, R189, R197, R513). -/
def execRulesetStage (f : Nat) (s : State) : Out :=
  match s.admCmd f 0x21 true with
  | none => .next s
  | some c0 =>
    if bitsOf (c0.word 8) 16 8 = 9 then .next s
    else
      .next (s.admRun f 0x21 true stageMasks
        (fun c => s.isOpen (bitsOf (c.word 8) 0 16)
          && s.stageLen (bitsOf (c.word 8) 16 8) (bitsOf (c.word 8) 32 16) (bitsOf (c.word 0x20) 0 32)
            == some (bitsOf (c.word 0x20) 0 32))
        (fun s c =>
          let n := bitsOf (c.word 8) 0 16
          let obj := bitsOf (c.word 8) 16 8
          let tab := bitsOf (c.word 8) 32 16
          let i := bitsOf (c.word 0x10) 0 32
          let l := s.hostRead (s.attOf f) (c.word 0x18) (bitsOf (c.word 0x20) 0 32)
          if obj = 0 then s.entryAdd f n tab l
          else if obj = 1 then s.entryDel f n tab l
          else if obj = 2 then s.tcamSet f n i l
          else if obj = 3 then s.tcamClear f n i
          else if obj = 4 then s.stageParse f n l
          else if obj = 5 then s.stageBinding f n (bitsOf (c.word 8) 24 8) l
          else if obj = 6 then s.stageEngine f n l
          else if obj = 7 then s.stageMirror f n i l
          else s.stagePolicy f n i l))

/-- Whether n is a power of two. -/
def isPow2 (n : Nat) : Bool := n != 0 && 2 ^ n.log2 == n

/-- Units of 64 bytes of table SRAM a table takes (R170, R180). -/
def sramNeed (kind count : Nat) : Nat :=
  if kind = 1 then 4 * count else if kind = 2 then 8 * count else if kind = 4 then count else (count + 3) / 4

/-- TABLE_CREATE: RULESET_STAGE of OBJECT 9, with effect at once (R170, R513; the HBM left for tables is log entry 27). -/
def execTableCreate (f : Nat) (s : State) : Out :=
  match s.admCmd f 0x21 true with
  | none => .next s
  | some c0 =>
    if bitsOf (c0.word 8) 16 8 ≠ 9 then .next s
    else
      .next (s.admRun f 0x21 true stageMasks
        (fun c => s.isOpen (bitsOf (c.word 8) 0 16) && bitsOf (c.word 0x20) 0 32 == 32 && decide (bitsOf (c.word 8) 32 16 ≤ 255))
        (fun s c =>
          let tab := bitsOf (c.word 8) 32 16
          let l := s.hostRead (s.attOf f) (c.word 0x18) 32
          let h := leAt l 0 8
          let kind := bitsOf h 0 3
          let hbm := bitOf h 3
          let fam := bitsOf h 4 1
          let s1 := leAt l 8 4
          let s2 := leAt l 12 4
          let count := leAt l 16 4
          let fixed := kind == 3 || kind == 5
          let bad := kind == 0 || kind == 7 || h % 32 != h || leAt l 20 12 != 0
            || ((kind == 1 || kind == 5 || kind == 6) && hbm) || (kind == 3 && !hbm) || (kind != 4 && fam != 0)
            || (if fixed then s1 != 0 || s2 != 0 || count != 0 else !isPow2 count)
            || (kind == 6 && (s2 != 0 || decide (2 ^ 20 ≤ s1) || s1 % count != 0 || decide (2 ^ 20 < s1 + count)
              || s.path.ctrRanges.any (fun r => decide (s1 < r.1 + r.2) && decide (r.1 < s1 + count))))
          if bad then s.admDone f stBadField
          else if (Map.get s.path.tables {} tab).kind ≠ 0 then s.admDone f stBusy
          else
            let units := if fixed || hbm then 0 else sramNeed kind count
            let bytes := if hbm && !fixed then entrySize kind * count else 0
            if 114688 < s.path.sramUnits + units ∨ 44 * 2 ^ 30 < s.path.hbmBytes + bytes then s.admDone f stNoResource
            else
              let t : MatchTable := { kind := kind, hbm := hbm, family := fam, seed1 := s1, seed2 := s2, count := count }
              let s := s.setTable tab t
              let rs := if kind = 6 then s.path.ctrRanges ++ [(s1, count)] else s.path.ctrRanges
              let s := { s with path := { s.path with
                sramUnits := s.path.sramUnits + units, hbmBytes := s.path.hbmBytes + bytes, ctrRanges := rs } }
              s.admDone f stSuccess))

/-- The open version closes. -/
def State.closeOpen (s : State) : State := (s.wr F.MAT_VER_STATUS_OPEN 0).wr F.MAT_VER_STATUS_OPEN_VER 0

/-- The entries of a table once the additions and removals of an aborted version n are undone. -/
def abortEntries (n : Nat) (l : List Entry) : List Entry :=
  (l.filter (fun e => !(e.addPend && e.addVer == n))).map
    (fun e => if e.delPend && e.delVer == n then { e with delPend := false, delVer := 0 } else e)

/-- The entries of a table once version m is settled (R195). -/
def settleEntries (m : Nat) (l : List Entry) : List Entry :=
  (l.filter (fun e => !(e.delPend && e.delVer == m))).map
    (fun e => if e.addPend && e.addVer == m then { e with addPend := false, addVer := 0 } else e)

/-- RULESET_ABORT (R197). -/
def execRulesetAbort (f : Nat) (s : State) : Out :=
  .next (s.admRun f 0x22 true [0xFFFF] (fun c => s.isOpen (bitsOf (c.word 8) 0 16)) (fun s c =>
    let n := bitsOf (c.word 8) 0 16
    let tables := Map.mapVals s.path.tables {} (fun _ t => { t with entries := abortEntries n t.entries })
    let s := { s with path := { s.path with tables := tables, versions := Map.erase s.path.versions (n % 4) } }
    ((s.tcamSlots (fun m => clearBit m (n % 4))).closeOpen).admDone f stSuccess))

/-- Write MAT_COMMIT_RESULT (R191). -/
def State.commitResult (s : State) (status reason item n : Nat) : State :=
  (((s.wr F.MAT_COMMIT_RESULT_STATUS status).wr F.MAT_COMMIT_RESULT_REASON reason).wr F.MAT_COMMIT_RESULT_ITEM item).wr
    F.MAT_COMMIT_RESULT_VERSION n

/-- RULESET_COMMIT: the checks of R191; a version that passes becomes current at the next drip boundary. -/
def execRulesetCommit (f : Nat) (s : State) : Out :=
  .next (s.admCrit f 0x23 [0xFFFF] (fun _ => true) (fun s c =>
    let n := bitsOf (c.word 8) 0 16
    if !s.isOpen n then (s.commitResult stBadField 0x08 0 n).admDone f stBadField { detail := 0x08 }
    else
      match s.checkVersion (s.ver n) with
      | some r =>
        let st := if 0x80 ≤ r.reason then stUnschedulable else stBadField
        (s.commitResult st r.reason r.item n).admDone f st { detail := r.reason, item := r.item, r0 := r.r0, r1 := r.r1 }
      | none => { s.admWait f with path := { s.path with commit := some { fn := f, ver := n } } }))

/-! A version becomes current, is retired and settled -/

/-- Set a measurement from the bytes measured (R599, R628). -/
def State.setMeas (s : State) (i : Nat) (l : List Byte) : State :=
  let d := Config.sha384 l
  s.each (List.range 6) (fun t w => t.setReg (R.GRT_MEAS (i - 1) w) (BitVec.ofNat 64 (d / 2 ^ (64 * w))))

/-- The bytes measurement 6 covers. -/
def Version.measured (v : Version) : List Byte :=
  leBytes v.num 2 ++ v.entries.flatMap (fun e => leBytes e 2) ++ v.parse.flatMap (fun w => leBytes w.toNat 8)
    ++ Mem.bytes v.image 0 8192

/-- MAT_LAT and MAT_PATH_CYC (R185, R319, R323). -/
def State.writeLat (s : State) (v : Version) : State :=
  let acts := (s.actionsOf v).filter (fun p => opsBit p.action 0)
  let s := s.each (List.range 64) (fun t k =>
    let d := v.dir k
    let al := (acts.filter (fun p => bitsOf p.action 16 12 == dirChain d)).map (fun p => bitsOf p.action 28 6 + 1)
    let al := if k < 2 then [] else al
    let w := if dirValid d then
        (if k < 2 then 0 else dirChain d) + 2 ^ 12 + (al.min?.getD 0) * 2 ^ 13 + (al.max?.getD 0) * 2 ^ 20
          + dirSlots d * 2 ^ 32 + dirCycles d * 2 ^ 48
      else 0
    t.setReg (R.MAT_LAT k) (BitVec.ofNat 64 w))
  let cyc := fun (n : Nat) =>
    let b := Map.get v.bindings {} n
    if b.kind = 0 then 2 else if b.kind = 5 then 8 else if b.kind = 3 ∨ b.hbm then 160
    else if b.kind = 1 then 12 else if b.kind = 2 then 14 else 20
  s.wr F.MAT_PATH_CYC_PATH_CYC (144 + ((List.range 16).map cyc).sum)

/-- MAT_STAGE_CFG of the current version. -/
def State.writeStageCfg (s : State) (v : Version) : State :=
  s.each (List.range 16) (fun t n =>
    let b := Map.get v.bindings {} n
    t.setReg (R.MAT_STAGE_CFG n) (BitVec.ofNat 64
      (b.kind + b2n b.hbm * 8 + b.table * 2 ^ 8 + b.tcamFirst * 2 ^ 16 + b.tcamBlocks * 2 ^ 24)))

/-- Begin to settle a version (R195). -/
def State.startSettle (s : State) (m : Nat) : State :=
  { s with path := { s.path with settling := s.path.settling ++ [m] } }.wr F.MAT_VER_STATUS_SETTLING 1

/-- RULESET_CURRENT: at the drip boundary after its checks, N becomes current and its command completes (R192, R195, R319,
R599). -/
def execRulesetCurrent (s : State) : Out :=
  match s.path.commit with
  | none => .next s
  | some q =>
    if s.fst.cycle ≠ 0 then .next s
    else
      let v := { s.ver q.ver with live := true }
      let live := s.rd F.MAT_VER_STATUS_LIVE
      let s := { s with path := { s.path with commit := none } }.setVer v
      let s := s.closeOpen
      let s := (s.wr F.MAT_VER_STATUS_CURRENT q.ver).wr F.MAT_VER_STATUS_LIVE (live + 1)
      let s := if live = 0 then (s.wr F.MAT_VER_STATUS_OLDEST q.ver).startSettle q.ver else s
      let s := s.setReg (R.MAT_INFLIGHT (q.ver % 4)) (BitVec.ofNat 64 (q.ver + 2 ^ 16))
      let s := ((s.wr F.PRS_STATUS_RULESET 1).writeStageCfg v).writeLat v
      let s := (s.setMeas 6 v.measured).raise F.MAT_INT_STATUS_COMMITTED
      .next ((s.commitResult stSuccess 0 0 q.ver).admDone q.fn stSuccess)

/-- VERSION_RETIRE: the oldest live version, not current and with no packet in flight, is retired at a drip boundary; its
TCAM slot starts to be cleared and the new oldest version to be settled (R194-R196). -/
def execVersionRetire (s : State) : Out :=
  let v := s.rd F.MAT_VER_STATUS_OLDEST
  if s.fst.cycle = 0 ∧ 2 ≤ s.rd F.MAT_VER_STATUS_LIVE ∧ v ≠ s.rd F.MAT_VER_STATUS_CURRENT
      ∧ s.rd (F.MAT_INFLIGHT_COUNT (v % 4)) = 0 then
    let m := (v + 1) % 65536
    let s := { s with path := { s.path with versions := Map.erase s.path.versions (v % 4),
                                            clearing := s.path.clearing ++ [v % 4] } }
    let s := s.setReg (R.MAT_INFLIGHT (v % 4)) 0
    let s := (s.wr F.MAT_VER_STATUS_LIVE (s.rd F.MAT_VER_STATUS_LIVE - 1)).wr F.MAT_VER_STATUS_OLDEST m
    .next ((((s.wr F.MAT_VER_STATUS_SLOT_CLEARING 1).raise F.MAT_INT_STATUS_RETIRED).startSettle m))
  else .next s

/-- SETTLE_COMPLETE: ADD_PEND of the settled version is cleared and what it deleted is freed (R195). -/
def execSettleComplete (s : State) : Out :=
  match s.path.settling with
  | [] => .next s
  | m :: rest =>
    let tables := Map.mapVals s.path.tables {} (fun _ t => { t with entries := settleEntries m t.entries })
    let s := { s with path := { s.path with tables := tables, settling := rest } }
    .next ((s.wrB F.MAT_VER_STATUS_SETTLING (!rest.isEmpty)).raise F.MAT_INT_STATUS_SETTLED)

/-- TCAM_SLOT_CLEAR_COMPLETE: the retired version's slot bit is clear in every entry (R196). -/
def execTcamSlotClearComplete (s : State) : Out :=
  match s.path.clearing with
  | [] => .next s
  | k :: rest =>
    let s := { s with path := { s.path with clearing := rest } }.tcamSlots (fun m => clearBit m k)
    .next (s.wrB F.MAT_VER_STATUS_SLOT_CLEARING (!rest.isEmpty))

end Sys2Proof.Machine
end

