-- ==== Sys2Proof/Machine/Boot.lean ====
section
/-! DEFINITION. Machine/Boot.lean: reset pins, straps and device reset (R657-R661, R685, R696-R698), the boot chain of Grotto (R595-R599,
R668, R669, R672), and the release of control firmware and of the host interface (R597, R663, R664). -/

namespace Sys2Proof.Machine

open Sys2Proof

set_option cleanup.letToHave false

/-! Straps and reset (R430, R432, R658-R661) -/

/-- Whether a reserved code on STRAP_CLK or STRAP_OSC stops the boot (R661). -/
def strapsBad (w : Nat) : Bool := bitsOf w 2 2 == 3 || bitsOf w 4 2 == 3

/-- The attachments a bifurcation code gives (R430). -/
def presentOf (code : Nat) : Nat := ([1, 3, 7, 15] : List Nat).getD code 0

/-- FIRST and COUNT of the VFs of each attachment by bifurcation code (R432). -/
def vfDefault (code a : Nat) : Nat × Nat :=
  (([[(0, 2048)], [(0, 1024), (1024, 1024)], [(0, 1024), (1024, 512), (1536, 512)],
     [(0, 512), (512, 512), (1024, 512), (1536, 512)]] : List (List (Nat × Nat))).getD code []).getD a (0, 0)

/-- HIF_VF_RANGE of an attachment set. -/
def State.setVfRange (s : State) (a first count : Nat) : State :=
  (s.wr (F.HIF_VF_RANGE_FIRST a) first).wr (F.HIF_VF_RANGE_COUNT a) count

/-- The straps, in the layout of GLB_STRAPS, read into the fields that show them (R659); the management PFs of the attachments present
are created (R478). -/
def State.latch (s : State) (w : Nat) : State :=
  let code := bitsOf w 0 2
  let s := s.setReg R.GLB_STRAPS (BitVec.ofNat 64 (w % 2 ^ 12))
  let s := (s.wr F.HIF_STATUS_BIFURCATION code).wr F.HIF_STATUS_PRESENT (presentOf code)
  let s := (s.wrB F.HIF_STATUS_SRIS (bitsOf w 2 2 == 2)).wr F.FST_OSC_CFG_FREQ (bitsOf w 4 2)
  let s := (s.wr F.PRT_MGMT_STATUS_MODE (bitsOf w 6 1)).wr F.PRT_NCSI_STATUS_PACKAGE_ID (bitsOf w 8 3)
  let s := s.wrB F.LNT_STATUS_RECOVERY (bitsOf w 11 1 == 0)
  let s := s.each (List.range 4) (fun t a => t.setVfRange a (vfDefault code a).1 (vfDefault code a).2)
  { s with funcs := (List.range 4).filterMap (fun a => if bitOf (presentOf code) a then some (2 * a, mgmtAtReset) else none) }

/-- What MRAM and the fuses keep of the GRT registers: LIFECYCLE, principals, BOOT_BANK, minimum SVNs; the counters come from the valid
copy with the higher sequence (R612, R628, R658). -/
def State.fromMram (t s : State) : State :=
  let t := t.wr F.GRT_STATUS_LIFECYCLE (s.rd F.GRT_STATUS_LIFECYCLE)
  let t := (t.wr F.GRT_BOOT_STATUS_MIN_GROTTO_SVN (s.rd F.GRT_BOOT_STATUS_MIN_GROTTO_SVN)).wr F.GRT_BOOT_STATUS_MIN_CTRL_SVN
    (s.rd F.GRT_BOOT_STATUS_MIN_CTRL_SVN)
  let t := (t.wr F.GRT_BOOT_STATUS_NEXT_BANK (s.rd F.GRT_BOOT_STATUS_NEXT_BANK)).wr F.GRT_STATUS_BANK (s.rd F.GRT_BOOT_STATUS_NEXT_BANK)
  t.each (List.range 4) (fun t k =>
    let a := Map.get s.grt.ctrs {} (2 * k)
    let b := Map.get s.grt.ctrs {} (2 * k + 1)
    let v := if a.valid && (!b.valid || decide (b.seq ≤ a.seq)) then a.last else if b.valid then b.last else 0
    let t := (t.setReg (R.GRT_PRINCIPAL k) (s.reg (R.GRT_PRINCIPAL k))).setReg (R.GRT_COUNTER k) (BitVec.ofNat 64 v)
    t.wrB (F.GRT_PRINCIPAL_EXHAUSTED k) (v == 2 ^ 64 - 1))

/-- The device after a reset with straps `w` and RESET_CAUSE `cause`: everything as after power-on but the pins, flash, MRAM, fuses, the
retired units that flash records, host memory and what waits at the inputs (R629, R639, R658). -/
def State.resetTo (s : State) (w cause : Nat) : State :=
  let b : Board := { powered := s.board.powered, synth := s.board.synth, sysResetN := s.board.sysResetN, held := s.board.held, tripped := s.board.tripped,
                     ethClk := s.board.ethClk, mgmtClk := s.board.mgmtClk, ncsiClk := s.board.ncsiClk, flash := s.board.flash,
                     tapIr := s.board.tapIr, tripLog := s.board.tripLog }
  let g : Grotto := { prinKey := s.grt.prinKey, ctrs := s.grt.ctrs, tik := s.grt.tik }
  let l : Map Link := Map.mapVals s.links {} (fun _ (x : Link) => { perstN := x.perstN, refclk := x.refclk })
  let p : Path := { retiredPlaces := s.path.retiredPlaces.filter (fun x => x.1 ≠ 257) }
  let gs : Map Gallery := Map.mapVals s.eng.gal {} (fun _ (x : Gallery) => { badLines := x.badLines })
  let n : Engines := { gal := gs }
  let (nonce, s) := s.fresh
  let t : State := { pending := s.pending, out := s.out, free := s.free, mem := s.mem, board := b, grt := g, links := l, path := p, eng := n }
  let t := ((t.latch w).fromMram s).wr F.GLB_BOOT_RESET_CAUSE cause
  let t := t.wr F.FLT_STATUS_RETIRED_LINES (s.rd F.FLT_STATUS_RETIRED_LINES)
  t.setReg R.GRT_DEBUG_NONCE (BitVec.ofNat 64 nonce)

/-- A device reset: the straps stay as latched (R658, R660). -/
def State.deviceReset (s : State) (cause : Nat) : State := s.resetTo (s.reg R.GLB_STRAPS).toNat cause

/-- Whether a test instruction holds the core in reset (R684, R685). -/
def tapHolds (ir : Nat) : Bool := [0x00, 0x03, 0x04, 0x05, 0x06].contains ir || (decide (0x80 ≤ ir) && decide (ir ≤ 0xFE))

/-- The core reset: released with the power good and the synthesiser locked, unless SYS_RESET_N, a reserved strap code or a test
instruction holds it (R657, R658, R661, R664, R685). -/
def State.settle (s : State) : State :=
  let b := s.board
  let h := !(b.powered && b.synth && b.sysResetN && !strapsBad (s.reg R.GLB_STRAPS).toNat && !tapHolds b.tapIr)
  { s with board := { b with held := h } }

/-- PWR_GOOD_RISE with the strap levels in the layout of GLB_STRAPS: the straps are latched; the core reset is held until the synthesiser
locks (R657, R660, R664). -/
def execPwrGoodRise (straps : Nat) (s : State) : Out :=
  if s.board.powered then .next s
  else .next ({ s with board := { s.board with powered := true } }.resetTo straps 0).settle

/-- The whole device enters reset, Grotto included (R657, R696, R697). -/
def State.powerOff (s : State) : State :=
  ({ s with board := { s.board with powered := false, synth := false } }.deviceReset 0).settle

/-- PWR_GOOD_FALL. -/
def execPwrGoodFall (s : State) : Out := if s.board.powered then .next s.powerOff else .next s

/-- RAIL_UNDERVOLTAGE: a monitored rail below 90 % for 2 µs acts as the fall of PWR_GOOD (R696). -/
def execRailUndervoltage (s : State) : Out := if s.board.powered then .next s.powerOff else .next s

/-- VDDIO_18_FALL: THERMTRIP_N is released below 1.0 V; the device has lost its supply (R692, R698). -/
def execVddio18Fall (s : State) : Out :=
  let t := { s with board := { s.board with tripped := false } }
  .next (if s.board.tripped then t.emit (.pin "THERMTRIP_N" true) else t).powerOff

/-- SYNTH_LOCK: the synthesiser has locked to OSC_IN (R664). -/
def execSynthLock (s : State) : Out :=
  if s.board.powered then .next { s with board := { s.board with synth := true } }.settle else .next s

/-- SYS_RESET_ASSERT: a device reset begins; PWR_GOOD governs when it is low (R658, R697). -/
def execSysResetAssert (s : State) : Out :=
  let s := { s with board := { s.board with sysResetN := false } }
  if s.board.powered then .next (s.deviceReset 1).settle else .next s

/-- SYS_RESET_RELEASE: the synthesiser has stayed locked, so the core reset is released and the boot timeline runs (R657, R666). -/
def execSysResetRelease (s : State) : Out := .next { s with board := { s.board with sysResetN := true } }.settle

/-- A write of GLB_RESET_CTRL: GO with CONFIRM 0xA5 makes a device reset due 1 ms later (R686). -/
def State.resetCtrl (s : State) (v : Word) : State :=
  if bitsOf v.toNat 0 8 = 0xA5 ∧ bitOf v.toNat 8 then { s with board := { s.board with resetDue := some 2 } } else s

/-- RESET_CTRL_WRITE. -/
def execResetCtrlWrite (v : Word) (s : State) : Out := .next (s.resetCtrl v)

/-- DEVICE_RESET: the reset that is due takes place (R658, R686). -/
def execDeviceReset (s : State) : Out :=
  match s.board.resetDue with
  | some c => .next (s.deviceReset c)
  | none => .next s

/-! Flash (R667-R669) -/

/-- Bytes of the flash. -/
def State.flashBytes (s : State) (a n : Nat) : List Byte := (Mem.bytes s.board.flash a n).map (fun b => b ^^^ 0xFF)

/-- A little-endian number of the flash. -/
def State.flashLe (s : State) (a n : Nat) : Nat := leNat (s.flashBytes a n)

/-- Write bytes of the flash. -/
def State.flashWrite (s : State) (a : Nat) (d : List Byte) : State :=
  { s with board := { s.board with flash := Mem.putBytes s.board.flash a (d.map (fun b => b ^^^ 0xFF)) } }

/-- Where a bank begins. -/
def bankAt (b : Nat) : Nat := if b = 0 then 0x100000 else 0x1000000

/-- Where an image of a kind stands in its bank, and the most it may hold (R667, R668). -/
def imageAt (kind : Nat) : Nat × Nat :=
  if kind = 1 then (0, 2 ^ 20) else if kind = 2 then (0x200000, 6 * 2 ^ 20) else (0x100000, 65536)

/-- A field of the header of an image of a bank. -/
def State.imgField (s : State) (b kind off lo w : Nat) : Nat := bitsOf (s.flashLe (bankAt b + (imageAt kind).1 + off) 8) lo w

/-- Whether the header of an image is well formed (R668). -/
def State.headerOk (s : State) (b kind : Nat) : Bool :=
  let f := s.imgField b kind
  f 0 0 32 == 0x4E524557 && f 4 0 8 == kind && f 4 16 16 == 0x0880 && f 8 0 8 == 0xB1
    && decide (64 + f 0x10 0 32 + (if kind = 3 then 0 else 96) ≤ (imageAt kind).2)

/-- The bytes a signature covers, and the measured image. -/
def State.imageBytes (s : State) (b kind : Nat) : List Byte :=
  s.flashBytes (bankAt b + (imageAt kind).1) (64 + s.imgField b kind 0x10 0 32)

/-- Minimum SVN of an image kind (R596). -/
def State.minSvn (s : State) (kind : Nat) : Nat :=
  if kind = 1 then s.rd F.GRT_BOOT_STATUS_MIN_GROTTO_SVN else s.rd F.GRT_BOOT_STATUS_MIN_CTRL_SVN

/-- R596 of an image: 0 accepted, 1 signature, 2 SVN, 3 absent or malformed. -/
def State.imageCheck (s : State) (b kind : Nat) : Nat :=
  let m := s.imageBytes b kind
  if !s.headerOk b kind then 3
  else if !Config.verifySig 0 m (leNat (s.flashBytes (bankAt b + (imageAt kind).1 + m.length) 96)) then 1
  else if s.imgField b kind 4 8 8 < s.minSvn kind then 2
  else 0

/-- A byte of the configuration block of a bank. -/
def State.cfgByte (s : State) (b off : Nat) : Nat := s.flashLe (bankAt b + 0x100000 + off) 1

/-- A number of the configuration block of a bank. -/
def State.cfgLe (s : State) (b off n : Nat) : Nat := s.flashLe (bankAt b + 0x100000 + off) n

/-- Whether the configuration block leaves the mailbox map to R541. -/
def State.mbxDefault (s : State) (b : Nat) : Bool := s.cfgLe b 0xB8 16 == 0 && s.cfgLe b 0x200 512 == 0

/-- Whether the mailbox map of a configuration block is allowed (R669). -/
def State.mbxMapOk (s : State) (b : Nat) : Bool :=
  s.mbxDefault b || (List.range 16).all (fun m =>
    let r := s.cfgByte b (0xB8 + m)
    let idxOk := fun (mgmt : Nat) (v : Nat) =>
      let k := v % 4
      let i := v / 4
      if k = mgmt then decide (i < 4) && s.present i else if k = 1 then decide (i < 16) else i == 0
    r % 4 != 3 && idxOk 0 r && (List.range 32).all (fun c =>
      let v := s.cfgByte b (0x200 + 32 * m + c)
      (v % 4 == 0 || idxOk 3 v) && (decide (16 ≤ c) || (v % 4 != 3 && (r % 4 != 0 || v % 4 == 0)))))

/-- Whether the configuration block of a bank passes (R669). -/
def State.blockOk (s : State) (b : Nat) : Bool :=
  let len := s.imgField b 3 0x10 0 32
  let vf := fun a => s.cfgLe b (0x48 + 4 * a) 4
  s.headerOk b 3 && crc32c 0 (s.flashBytes (bankAt b + 0x100000 + 64) len) == s.imgField b 3 0x10 32 32
    && [0, 1, 2, 3].all (fun a => decide (bitsOf (vf a) 0 11 + bitsOf (vf a) 16 12 ≤ 2048))
    && decide ((bitsOf (s.cfgLe b 0xA8 4) 0 15 + bitsOf (s.cfgLe b 0xA8 4) 16 12) * 2 ^ 21 ≤ 48 * 2 ^ 30)
    && s.mbxMapOk b

/-! The boot chain (R595-R599, R672) -/

/-- Measurement 5: lifecycle, debug level, boot bank and FALLBACK (R599). -/
def State.meas5 (s : State) : State :=
  s.setMeas 5 [BitVec.ofNat 8 (s.rd F.GRT_STATUS_LIFECYCLE), BitVec.ofNat 8 (s.rd F.GRT_STATUS_DEBUG_LEVEL),
    BitVec.ofNat 8 (s.rd F.GRT_STATUS_BANK), BitVec.ofNat 8 (s.rd F.GRT_STATUS_FALLBACK)]

/-- Recovery mode (R672). -/
def State.recoverMode (s : State) : State := (s.wr F.GRT_BOOT_STATUS_STAGE 0xFF).wrB F.LNT_STATUS_RECOVERY true

/-- GROTTO_ROM_START: the ROM reads BOOT_BANK; with STRAP_RECOVERY_N at 0 no bank is tried (R595, R672). -/
def execGrottoRomStart (s : State) : Out :=
  if s.board.held ∨ s.rd F.GRT_BOOT_STATUS_STAGE ≠ 0 then .next s
  else
    let s := s.setMeas 1 ((List.range (Config.trustLen 0 0)).map (Config.trustByte 0 0))
    if s.rdB F.GLB_STRAPS_RECOVERY_N = false then .next s.recoverMode
    else .next ((s.wr F.GRT_BOOT_STATUS_STAGE 1).wr F.GRT_STATUS_BANK (s.rd F.GRT_BOOT_STATUS_NEXT_BANK))

/-- An image of the bank in use failed: the other bank is tried once, then recovery mode (R598). -/
def State.bankFail (s : State) (code : Nat) : State :=
  let b := s.rd F.GRT_STATUS_BANK
  let s := s.wr F.GRT_BOOT_STATUS_FAIL_CODE code
  let s := { s with board := { s.board with tried := b :: s.board.tried } }
  if s.board.tried.contains (1 - b) then s.recoverMode
  else ((s.wrB F.GRT_STATUS_FALLBACK true).wr F.GRT_STATUS_BANK (1 - b)).wr F.GRT_BOOT_STATUS_STAGE 1

/-- GROTTO_IMAGE_VERIFY_DONE: the ROM has verified the Grotto firmware of the bank, or that firmware the configuration block and the
control firmware (R596-R599). -/
def execGrottoImageVerifyDone (s : State) : Out :=
  let b := s.rd F.GRT_STATUS_BANK
  if s.rd F.GRT_BOOT_STATUS_STAGE = 1 then
    if s.imageCheck b 1 ≠ 0 then .next (s.bankFail (s.imageCheck b 1))
    else
      let s := (s.wr F.GRT_BOOT_STATUS_STAGE 2).wr F.GRT_BOOT_STATUS_GROTTO_SVN (s.imgField b 1 4 8 8)
      .next ((s.wr F.GRT_FW_VERSION_GROTTO_VER (s.imgField b 1 8 32 32)).setMeas 2 (s.imageBytes b 1))
  else if s.rd F.GRT_BOOT_STATUS_STAGE = 2 ∧ ¬ s.board.ctrlOk then
    if ¬ s.blockOk b then .next (s.bankFail 3)
    else if s.imageCheck b 2 ≠ 0 then .next (s.bankFail (s.imageCheck b 2))
    else
      let s := (s.wr F.GRT_BOOT_STATUS_CTRL_SVN (s.imgField b 2 4 8 8)).wr F.GRT_FW_VERSION_CTRL_VER (s.imgField b 2 8 32 32)
      let s := (s.setMeas 3 (s.imageBytes b 2)).setMeas 4 (s.imageBytes b 3 ++ leBytes (s.reg R.GLB_STRAPS).toNat 8)
      let s := s.wrB F.GRT_STATUS_IDE_KEYGEN (bitOf (s.cfgLe b 0x40 8) 32)
      let s := s.meas5
      .next { s with board := { s.board with ctrlOk := true } }
  else .next s

/-- CONTROL_FW_RELEASE: the image has passed; the control cores leave reset (R597). -/
def execControlFwRelease (s : State) : Out :=
  if s.rd F.GRT_BOOT_STATUS_STAGE = 2 ∧ s.board.ctrlOk then
    .next ((s.wr F.GRT_BOOT_STATUS_STAGE 3).wr F.GLB_BOOT_CF_STAGE 1)
  else .next s

/-- The mailbox map of the configuration block (R541, R669). -/
def State.mbxMap (s : State) (b : Nat) : State :=
  if s.mbxDefault b then s
  else s.each (List.range 16) (fun t m =>
    let r := t.cfgByte b (0xB8 + m)
    let t := (t.wr (F.MBX_CFG_RX_KIND m) r).wr (F.MBX_CFG_RX_INDEX m) (r / 4)
    t.each (List.range 32) (fun t c =>
      let v := t.cfgByte b (0x200 + 32 * m + c)
      (t.wr (F.MBX_CHAN_SENDER_KIND m c) v).wr (F.MBX_CHAN_SENDER_INDEX m c) (v / 4)))

/-- The regions control firmware fills from the configuration block (R432, R477, R541, R562, R583, R669). -/
def State.fillRegions (s : State) : State :=
  let b := s.rd F.GRT_STATUS_BANK
  let s := if s.cfgLe b 0x48 16 = 0 then s else s.each (List.range 4) (fun t a =>
    let v := t.cfgLe b (0x48 + 4 * a) 4
    t.setVfRange a (bitsOf v 0 11) (bitsOf v 16 12))
  let s := (s.setReg R.PRT_LANE_CFG (BitVec.ofNat 64 (s.cfgLe b 0x58 8))).setReg R.PRT_CAGE_CFG (BitVec.ofNat 64 (s.cfgLe b 0x60 8))
  let s := s.each (List.range 8) (fun t p => t.setReg (R.PRT_AN_CFG p) (BitVec.ofNat 64 (t.cfgLe b (0x68 + 8 * p) 8)))
  let w := s.cfgLe b 0xA8 4
  let s := (s.wr F.HIF_PEER_REGION_BASE (bitsOf w 0 15)).wr F.HIF_PEER_REGION_SIZE (bitsOf w 16 12)
  let s := { s with prt := { s.prt with mgmtMac := s.cfgLe b 0xB0 6 }, board := { s.board with subsys := s.cfgLe b 0x40 4 } }
  s.mbxMap b

/-- HIF_READY_SET: control firmware has filled the regions, `ms` milliseconds after T0 (R663, R664). -/
def execHifReadySet (ms : Nat) (s : State) : Out :=
  if s.rd F.GRT_BOOT_STATUS_STAGE = 3 ∧ s.rd F.GLB_BOOT_CF_STAGE = 1 then
    .next (((s.fillRegions.wr F.GLB_BOOT_CF_STAGE 2).wrB F.GLB_BOOT_HIF_READY true).wr F.GLB_BOOT_READY_MS ms)
  else .next s

end Sys2Proof.Machine
end

