-- ==== Sys2Proof/Machine/Spdm.lean ====
section
/-! DEFINITION. Machine/Spdm.lean: Grotto as SPDM responder (R601-R604), IDE_KM responder (R605) and device security manager of TDISP
(R467, R607). Endpoints: 0 to 3 the DOE mailbox of an attachment, 4 SMBus, 5 to 8 VDM of an attachment. Response and error codes are
those of SPDM, IDE_KM and TDISP (PRESUMED, log entry 51). -/

namespace Sys2Proof.Machine

open Sys2Proof

set_option cleanup.letToHave false

/-- SPDM error codes. -/
abbrev eInvalid : Nat := 0x01
abbrev eBusy : Nat := 0x03
abbrev eUnexpected : Nat := 0x04
abbrev eUnsupported : Nat := 0x07
abbrev eVersion : Nat := 0x41

/-- Whether Grotto answers on an endpoint: its firmware runs, and the endpoint's link is up. -/
def State.answers (s : State) (c : Nat) : Bool :=
  let st := s.rd F.GRT_BOOT_STATUS_STAGE
  let a := if c < 4 then c else c - 5
  (decide (2 ≤ st) || s.rdB F.LNT_STATUS_RECOVERY) && (c == 4 || s.rdB (F.HIF_LINK_STATUS_DL_UP a))

/-- A violation is counted and answered with ERROR (R604). -/
def State.spdmErr (s : State) (c code : Nat) : State := (s.err R.GRT_SPDM_ERR_CNT).emit (.spdm c 0x7F [code])

/-- The session of a number. -/
def State.sessOf (s : State) (n : Nat) : Option SpdmSess := Map.get s.grt.sess none n

/-- Set or remove a session; SESSIONS counts those open. -/
def State.setSess (s : State) (n : Nat) (x : Option SpdmSess) : State :=
  let l := Map.set s.grt.sess none n x
  { s with grt := { s.grt with sess := l } }.wr F.GRT_STATUS_SESSIONS l.length

/-- The connection of an endpoint. -/
def State.conn (s : State) (c : Nat) : SpdmConn := Map.get s.grt.conns {} c

/-- Set the connection of an endpoint. -/
def State.setSpdm (s : State) (c : Nat) (x : SpdmConn) : State :=
  { s with grt := { s.grt with conns := Map.set s.grt.conns {} c x } }

/-- A request's version and range: `ver` as in its header (0x12 for 1.2), `ok` whether its fields and length are in range. The connection
must have come to `phase`; its state stays where the request is refused (R603, R604). -/
def State.spdmReq (s : State) (c ver phase : Nat) (ok : Bool) (k : State → State) : State :=
  if ¬ s.answers c then s
  else if phase ≠ 0 ∧ (s.conn c).phase < phase then s.spdmErr c eUnexpected
  else if 1 < phase ∧ (s.conn c).ver ≠ 0 ∧ ver ≠ (s.conn c).ver then s.spdmErr c eVersion
  else if ¬ ok then s.spdmErr c eInvalid
  else k s

/-- SPDM_GET_VERSION: 1.2 and 1.3; the connection begins anew. -/
def execSpdmGetVersion (c : Nat) (ok : Bool) (s : State) : Out :=
  .next (s.spdmReq c 0x10 0 ok (fun s => (s.setSpdm c { phase := 1 }).emit (.spdm c 0x04 [0x12, 0x13])))

/-- SPDM_GET_CAPABILITIES: the request's version is the one in use from here on. -/
def execSpdmGetCapabilities (c ver : Nat) (ok : Bool) (s : State) : Out :=
  .next (s.spdmReq c ver 1 ok (fun s =>
    if (s.conn c).phase ≠ 1 then s.spdmErr c eUnexpected
    else if ver ≠ 0x12 ∧ ver ≠ 0x13 then s.spdmErr c eVersion
    else (s.setSpdm c { phase := 2, ver := ver }).emit (.spdm c 0x61 [0x000262D6])))

/-- SPDM_NEGOTIATE_ALGORITHMS: `common` says whether the requester offers the algorithms of R602. -/
def execSpdmNegotiateAlgorithms (c ver : Nat) (common ok : Bool) (s : State) : Out :=
  .next (s.spdmReq c ver 2 ok (fun s =>
    if (s.conn c).phase ≠ 2 then s.spdmErr c eUnexpected
    else if ¬ common then s.spdmErr c eInvalid
    else (s.setSpdm c { s.conn c with phase := 3 }).emit (.spdm c 0x63 [0x80, 0x02])))

/-- The certificate chain of a slot, under the present keys (R600, R601). -/
def State.chain (s : State) (slot : Nat) : List Byte :=
  let g := if slot = 0 then s.rd F.GRT_FW_VERSION_GROTTO_VER else s.grt.tik
  (List.range (Config.trustLen (slot + 1) g)).map (Config.trustByte (slot + 1) g)

/-- SPDM_GET_DIGESTS: of slots 0 and 1. -/
def execSpdmGetDigests (c ver : Nat) (ok : Bool) (s : State) : Out :=
  .next (s.spdmReq c ver 3 ok (fun s => s.emit (.spdm c 0x01 [Config.sha384 (s.chain 0), Config.sha384 (s.chain 1)])))

/-- SPDM_GET_CERTIFICATE: `len` bytes of the chain of a slot from `off` on; the portion's bytes, then what remains. -/
def execSpdmGetCertificate (c ver slot off len : Nat) (ok : Bool) (s : State) : Out :=
  .next (s.spdmReq c ver 3 ok (fun s =>
    let l := s.chain slot
    if 1 < slot ∨ l.length ≤ off then s.spdmErr c eInvalid
    else
      let p := (l.drop off).take len
      s.emit (.spdm c 0x02 (p.map (·.toNat) ++ [l.length - off - p.length]))))

/-- The alias key of this boot (R600). -/
def State.aliasKey (s : State) : Nat :=
  Config.kdf 0 ((List.range 6).flatMap (fun w => leBytes (s.reg (R.GRT_MEAS 1 w)).toNat 8))

/-- A measurement digest. -/
def State.meas (s : State) (i : Nat) : Nat :=
  ((List.range 6).map (fun w => (s.reg (R.GRT_MEAS (i - 1) w)).toNat * 2 ^ (64 * w))).sum

/-- SPDM_CHALLENGE: the chain's digest and a signature of the alias key over the transcript, here the requester's nonce. -/
def execSpdmChallenge (c ver slot nonce : Nat) (ok : Bool) (s : State) : Out :=
  .next (s.spdmReq c ver 3 ok (fun s =>
    if slot ≠ 0 then s.spdmErr c eInvalid
    else s.emit (.spdm c 0x03 [Config.sha384 (s.chain 0), Config.sign s.aliasKey (leBytes nonce 32)])))

/-- SPDM_GET_MEASUREMENTS: 0 asks for their number, 0xFF for all, 1 to 6 for one; `sig` for a signature (R599). -/
def execSpdmGetMeasurements (c ver index nonce : Nat) (sig ok : Bool) (s : State) : Out :=
  .next (s.spdmReq c ver 3 ok (fun s =>
    if 6 < index ∧ index ≠ 0xFF then s.spdmErr c eInvalid
    else
      let l := if index = 0 then [6] else if index = 0xFF then (List.range 6).map (fun i => s.meas (i + 1)) else [s.meas index]
      let m := l.flatMap (fun v => leBytes v 48) ++ leBytes nonce 32
      s.emit (.spdm c 0x60 (l ++ if sig then [Config.sign s.aliasKey m] else []))))

/-- SPDM_KEY_EXCHANGE: opens session n with a heartbeat period, or answers Busy when eight are open (R602). -/
def execSpdmKeyExchange (c ver n beat : Nat) (ok : Bool) (s : State) : Out :=
  .next (s.spdmReq c ver 3 ok (fun s =>
    if 8 ≤ s.grt.sess.length then s.emit (.spdm c 0x7F [eBusy])
    else if (s.sessOf n).isSome then s.spdmErr c eInvalid
    else (s.setSess n (some { conn := c, beat := beat })).emit (.spdm c 0x64 [n, Config.sign s.aliasKey (leBytes n 4)])))

/-- A secured message of a session: one that fails decryption or sequence ends the session unanswered (R603, R604). -/
def State.secured (s : State) (c n : Nat) (good : Bool) (k : State → SpdmSess → State) : State :=
  if ¬ s.answers c then s
  else
    match s.sessOf n with
    | none => s.spdmErr c eUnexpected
    | some x =>
      if x.conn ≠ c then s.spdmErr c eUnexpected
      else if ¬ good then (s.setSess n none).err R.GRT_SPDM_ERR_CNT
      else k s x

/-- SPDM_FINISH: `mac` whether the requester's verification holds. -/
def execSpdmFinish (c n : Nat) (good mac : Bool) (s : State) : Out :=
  .next (s.secured c n good (fun s x =>
    if x.est then s.spdmErr c eUnexpected
    else if ¬ mac then s.spdmErr c eInvalid
    else (s.setSess n (some { x with est := true })).emit (.spdm c 0x65 [n])))

/-- A request inside an established session. -/
def State.inSession (s : State) (c n : Nat) (good : Bool) (k : State → SpdmSess → State) : State :=
  s.secured c n good (fun s x => if x.est then k s x else s.spdmErr c eUnexpected)

/-- SPDM_HEARTBEAT. -/
def execSpdmHeartbeat (c n : Nat) (good : Bool) (s : State) : Out :=
  .next (s.inSession c n good (fun s x => if x.beat = 0 then s.spdmErr c eUnexpected else s.emit (.spdm c 0x68 [n])))

/-- SPDM_KEY_UPDATE: operation 1 update, 2 update all keys, 3 verify new key. -/
def execSpdmKeyUpdate (c n op : Nat) (good : Bool) (s : State) : Out :=
  .next (s.inSession c n good (fun s _ => if op = 0 ∨ 3 < op then s.spdmErr c eInvalid else s.emit (.spdm c 0x69 [op])))

/-- SPDM_END_SESSION. -/
def execSpdmEndSession (c n : Nat) (good : Bool) (s : State) : Out :=
  .next (s.inSession c n good (fun s _ => (s.setSess n none).emit (.spdm c 0x6C [n])))

/-- SPDM_CHUNK_TRANSFER: CHUNK_SEND or CHUNK_GET of a message; an object over 64 KiB is discarded with a DOE abort (R602, R604). -/
def execSpdmChunkTransfer (c ver len : Nat) (send ok : Bool) (s : State) : Out :=
  .next (s.spdmReq c ver 2 ok (fun s =>
    if c < 4 ∧ 65536 < len then (s.err R.GRT_SPDM_ERR_CNT).emit (.spdm c 0x100 [])
    else s.emit (.spdm c (if send then 0x85 else 0x86) [len])))

/-- SPDM_UNSUPPORTED_REQUEST: PSK, mutual authentication, SET_CERTIFICATE, CSR, ENCAP or an unknown code (R602, R604). -/
def execSpdmUnsupportedRequest (c : Nat) (s : State) : Out := if s.answers c then .next (s.spdmErr c eUnsupported) else .next s

/-- SPDM_HEARTBEAT_TIMEOUT: a requester silent beyond the period it negotiated loses its session (R603). -/
def execSpdmHeartbeatTimeout (n : Nat) (s : State) : Out :=
  match s.sessOf n with
  | some x => if x.est ∧ x.beat ≠ 0 then .next (s.setSess n none) else .next s
  | none => .next s

/-- SMBUS_MCTP_RX: an MCTP packet at address 0x32; packet error checking is always on, and a packet that fails it is dropped. A whole
message reaches the SPDM or PLDM responder by its own command (R602, R711). -/
def execSmbusMctpRx (addr : Nat) (pecOk : Bool) (s : State) : Out :=
  if addr = 0x32 ∧ pecOk ∧ ¬ s.board.held then .next (s.emit (.pin "SMB_ACK" true)) else .next s

/-! IDE_KM (R464, R465, R605) -/

/-- Key of a key set: attachment, stream 0 to 8, K bit. -/
def ideKey (a k b : Nat) : Nat := (9 * a + k) * 2 + b

/-- An answer inside a session as a vendor-defined message. -/
def State.vendor (s : State) (c : Nat) (l : List Nat) : State := s.emit (.spdm c 0x7E l)

/-- IDE_KM_QUERY. -/
def execIdeKmQuery (c n : Nat) (good : Bool) (s : State) : Out :=
  .next (s.inSession c n good (fun s _ => s.vendor c [0x01, 1, 8]))

/-- IDE_KM_KEY_PROG: with IDE_KEYGEN set Grotto generates the key set and returns it in KEY_GEN_RESP; otherwise it takes the one given. -/
def execIdeKmKeyProg (c n a k b key : Nat) (good : Bool) (s : State) : Out :=
  .next (s.inSession c n good (fun s _ =>
    if 8 < k ∨ 1 < b ∨ ¬ s.present a then s.spdmErr c eInvalid
    else
      let gen := s.rdB F.GRT_STATUS_IDE_KEYGEN
      let (v, s) := if gen then s.fresh else (key, s)
      let s := { s with grt := { s.grt with ideKeys := Map.set s.grt.ideKeys none (ideKey a k b) (some v),
                                            ideArmed := s.grt.ideArmed.filter (· ≠ ideKey a k b) } }
      s.vendor c (if gen then [0x80, k, b, v] else [0x03, k, b])))

/-- A stream's state follows its configuration and its armed key sets. -/
def State.ideShow (s : State) (a k : Nat) : State :=
  let on := s.rdB (F.HIF_IDE_STATUS_ENABLED a k) && (s.grt.ideArmed.contains (ideKey a k 0) || s.grt.ideArmed.contains (ideKey a k 1))
  s.wrB (F.HIF_IDE_STATUS_SECURE a k) on

/-- IDE_KM_K_SET_GO: arms a key set (R465, R605). -/
def execIdeKmKSetGo (c n a k b : Nat) (good : Bool) (s : State) : Out :=
  .next (s.inSession c n good (fun s _ =>
    if (Map.get s.grt.ideKeys none (ideKey a k b)).isNone then s.spdmErr c eInvalid
    else
      let l := ideKey a k b :: s.grt.ideArmed.filter (· ≠ ideKey a k b)
      let s := { s with grt := { s.grt with ideArmed := l } }
      ((s.wr (F.HIF_IDE_STATUS_KEY_SET a k) b).ideShow a k).vendor c [0x05, k, b]))

/-- IDE_KM_K_SET_STOP: discards a key set. -/
def execIdeKmKSetStop (c n a k b : Nat) (good : Bool) (s : State) : Out :=
  .next (s.inSession c n good (fun s _ =>
    if (Map.get s.grt.ideKeys none (ideKey a k b)).isNone then s.spdmErr c eInvalid
    else
      let s := { s with grt := { s.grt with ideKeys := Map.erase s.grt.ideKeys (ideKey a k b),
                                            ideArmed := s.grt.ideArmed.filter (· ≠ ideKey a k b) } }
      (if s.rdB (F.HIF_IDE_STATUS_SECURE a k) then s.ideShow a k else s).vendor c [0x05, k, b]))

/-! TDISP (R467, R607) -/

/-- TDISP ERROR INVALID_INTERFACE_STATE. -/
def State.tdiRefuse (s : State) (c : Nat) : State := s.vendor c [0x7F, 0x0004]

/-- LOCK_INTERFACE_REQUEST for VF f, its default selective stream k. -/
def execLockInterfaceRequest (c n f k : Nat) (good : Bool) (s : State) : Out :=
  .next (s.inSession c n good (fun s _ =>
    let x := s.func f
    if isVf f ∧ x.created ∧ x.tdi = .unlocked ∧ 1 ≤ k ∧ k ≤ 8 ∧ s.rdB (F.HIF_IDE_STATUS_SECURE (s.attOf f) k) then
      let (v, s) := s.fresh
      (s.updFunc f (fun x => { x with tdi := .locked, tdiNonce := v, tdiStream := k })).vendor c [0x03, f, v]
    else s.tdiRefuse c))

/-- START_INTERFACE_REQUEST with the nonce of the lock. -/
def execStartInterfaceRequest (c n f nonce : Nat) (good : Bool) (s : State) : Out :=
  .next (s.inSession c n good (fun s _ =>
    let x := s.func f
    if x.tdi ≠ .locked then s.tdiRefuse c
    else if nonce ≠ x.tdiNonce then s.vendor c [0x7F, 0x0102]
    else (s.updFunc f (fun x => { x with tdi := .run })).vendor c [0x06, f]))

/-- STOP_INTERFACE_REQUEST: the VF is reset. -/
def execStopInterfaceRequest (c n f : Nat) (good : Bool) (s : State) : Out :=
  .next (s.inSession c n good (fun s _ =>
    if (s.func f).tdi = .run ∨ (s.func f).tdi = .error then
      ((s.updFunc f (fun x => { x with tdi := .unlocked, tdiNonce := 0, tdiStream := 0 })).resetFunc f).vendor c [0x07, f]
    else s.tdiRefuse c))

/-- The address of a VF's BAR 0: 64 KiB each, one after another from the VF BAR 0 of its bulk PF (R441). -/
def State.vfBar (s : State) (f : Nat) : Nat :=
  (s.func (2 * s.attOf f + 1)).cfg.vfBar0 + 65536 * (f - 8 - s.rd (F.HIF_VF_RANGE_FIRST (s.attOf f)))

/-- GET_DEVICE_INTERFACE_REPORT: one MMIO range, the VF's BAR 0 of 64 KiB, with the MSI-X structures marked non-TEE. -/
def execGetDeviceInterfaceReport (c n f : Nat) (good : Bool) (s : State) : Out :=
  .next (s.inSession c n good (fun s _ =>
    let x := s.func f
    if x.tdi = .locked ∨ x.tdi = .run then s.vendor c [0x04, f, 1, s.vfBar f, 65536, 1] else s.tdiRefuse c))

end Sys2Proof.Machine
end

