-- ==== Sys2Proof/Machine/Carry.lean ====
section
/-! DEFINITION. Machine/Carry.lean: SyncE and ESMC (R124-R127), the pulse and time-of-day pins (R128-R134) and PTM
(R135-R138, R144). -/

namespace Sys2Proof.Machine

open Sys2Proof

set_option cleanup.letToHave false

/-! SyncE. Input n is REF_IN[n] for n 0-3 and port n - 4 for n 4-11 (SYNCE_STATUS.SEL_INPUT). -/

/-- An input's state. -/
def State.sin (s : State) (n : Nat) : SynceIn := Map.get s.car.syncIn {} n

/-- Change an input's state. -/
def State.updSin (s : State) (n : Nat) (g : SynceIn → SynceIn) : State :=
  { s with car := { s.car with syncIn := Map.upd s.car.syncIn {} n g } }

/-- QL-DNU. -/
abbrev qlDnu : Nat := 15

/-- The SSM codes of the hierarchy of an EEC type, best first (R126 cites ITU-T G.781; log entry 18). -/
def qlOrder (eec : Nat) : List Nat := if eec = 1 then [1, 0, 7, 4, 13, 10, 12, 14] else [2, 4, 8, 11]

/-- Own QL in free run or holdover (R124). -/
def ownQl (eec : Nat) : Nat := if eec = 1 then 10 else 11

/-- The QL an input has: REF_QL for REF_IN (0 undeclared), the last ESMC code for a port. -/
def State.inQl (s : State) (n : Nat) : Nat :=
  if n < 4 then bitsOf (s.rd F.FST_SYNCE_CFG_REF_QL) (4 * n) 4 else (s.sin n).ql

/-- Whether an input's signal is there: a port's link, a pin's signal. -/
def State.inSignal (s : State) (n : Nat) : Bool :=
  if n < 4 then (s.sin n).signal else s.rdB (F.PRT_LINK_STATUS_UP (n - 4))

/-- Whether an input is a candidate (R126). -/
def State.inCandidate (s : State) (n : Nat) : Bool :=
  let x := s.sin n
  let declared := if n < 4 then s.inQl n != 0 else bitOf (s.rd F.FST_SYNCE_CFG_ESMC_EN) (n - 4)
  declared && s.inSignal n && !x.failed && !x.holdOff && !x.wtr
    && (qlOrder (s.rd F.FST_SYNCE_CFG_EEC_TYPE)).contains (s.inQl n)

/-- The best candidate: best QL, ties to REF_IN before ports, then to the lower index (R126). -/
def State.bestInput (s : State) : Option Nat :=
  let o := qlOrder (s.rd F.FST_SYNCE_CFG_EEC_TYPE)
  o.findSome? (fun q => (List.range 12).find? (fun n => s.inCandidate n && s.inQl n == q))

/-- Send an ESMC frame on every enabled port with its link up; the port that is the selected input sends QL-DNU
(R125). -/
def State.esmcSend (s : State) (event : Bool) : State :=
  s.each (List.range 8) (fun t p =>
    if bitOf (t.rd F.FST_SYNCE_CFG_ESMC_EN) p && t.rdB (F.PRT_LINK_STATUS_UP p) then
      t.emit (.esmc p event (if t.rd F.FST_SYNCE_STATUS_SEL_INPUT = p + 4 then qlDnu else t.rd F.FST_SYNCE_STATUS_TX_QL))
    else t)

/-- Show an input (15 none) as selected with its QL: a change raises SYNCE_EVENT, and a change of the QL sent sends an
event frame at once (R125, R152); a change of input loses the lock of the frequency DPLL. -/
def State.showInput (s : State) (n : Nat) : State :=
  let rq := if n < 12 then (if (s.sin n).failed then qlDnu else s.inQl n) else 0
  let tq := if n < 12 then rq else ownQl (s.rd F.FST_SYNCE_CFG_EEC_TYPE)
  let moved := s.rd F.FST_SYNCE_STATUS_SEL_INPUT != n
  let newRx := s.rd F.FST_SYNCE_STATUS_RX_QL != rq
  let newTx := s.rd F.FST_SYNCE_STATUS_TX_QL != tq
  let s := ((s.wr F.FST_SYNCE_STATUS_SEL_INPUT n).wr F.FST_SYNCE_STATUS_RX_QL rq).wr F.FST_SYNCE_STATUS_TX_QL tq
  let s := if moved then s.wr F.FST_SYNCE_STATUS_LOCKED 0 else s
  let s := if moved || newRx then s.raise F.FST_INT_STATUS_SYNCE_EVENT else s
  if newTx then s.esmcSend true else s

/-- The input SEL and PORT name. -/
def State.cfgInput (s : State) : Nat :=
  let sel := s.rd F.FST_FDPLL_CFG_SEL
  if sel < 4 then sel else if sel = 4 then s.rd F.FST_FDPLL_CFG_PORT + 4 else 15

/-- Follow the ESMC selection when AUTO is 1, keeping a selected input for its hold-off; otherwise follow SEL (R68, R126,
R127). -/
def State.reselect (s : State) : State :=
  if s.rdB F.FST_FDPLL_CFG_AUTO then
    let cur := s.rd F.FST_SYNCE_STATUS_SEL_INPUT
    if cur < 12 ∧ (s.sin cur).holdOff then s.showInput cur
    else
      let n := s.bestInput.getD 15
      let s1 := s.wr F.FST_FDPLL_CFG_SEL (if n < 4 then n else if n < 12 then 4 else 7)
      (if 4 ≤ n ∧ n < 12 then s1.wr F.FST_FDPLL_CFG_PORT (n - 4) else s1).showInput n
  else s.showInput s.cfgInput

/-- ESMC_INFO_TX: every second an information frame on each enabled port (R125); a new second of frame counting. -/
def execEsmcInfoTx (s : State) : Out :=
  .next ((s.each (List.range 8) (fun t p => t.updSin (p + 4) (fun x => { x with frames := 0 }))).esmcSend false)

/-- The selected input's QL has fallen: it stays selected for HOLD_OFF (R127); any other change re-selects. -/
def State.qlChanged (s : State) (n : Nat) (worse : Bool) : State :=
  if worse ∧ s.rd F.FST_SYNCE_STATUS_SEL_INPUT = n then (s.updSin n (fun x => { x with holdOff := true })).reselect
  else s.reselect

/-- Place of a QL in the hierarchy; a QL outside it is worst. -/
def qlRank (eec q : Nat) : Nat := (qlOrder eec).idxOf q

/-- An input takes the QL of a frame; one that had FAILED recovers as synceRecover has it (R127, log entry 19). -/
def SynceIn.taken (x : SynceIn) (q : Nat) : SynceIn :=
  { x with ql := q, failed := false, frames := x.frames + 1, wtr := x.wtr || (x.failed && !x.holdOff), holdOff := x.holdOff && !x.failed }

/-- ESMC_RX: updates the port's QL and the selection; an unknown code is taken as QL-DNU, and frames beyond ten in a
second are ignored, each raising SYNCE_EVENT (R122, R126). -/
def execEsmcRx (port ql : Nat) (s : State) : Out :=
  let n := port + 4
  let x := s.sin n
  if 10 ≤ x.frames then .next (s.raise F.FST_INT_STATUS_SYNCE_EVENT)
  else
    let eec := s.rd F.FST_SYNCE_CFG_EEC_TYPE
    let known := (qlOrder eec).contains ql || ql == qlDnu
    let q := if known then ql else qlDnu
    let worse := qlRank eec x.ql < qlRank eec q
    let s := s.updSin n (fun y => y.taken q)
    let s := if known then s else s.raise F.FST_INT_STATUS_SYNCE_EVENT
    .next (s.qlChanged n worse)

/-- ESMC_TIMEOUT: no frame for 5 s on the selected port: it takes QL-FAILED (R122). -/
def execEsmcTimeout (port : Nat) (s : State) : Out :=
  if s.rd F.FST_SYNCE_STATUS_SEL_INPUT = port + 4 then
    .next (((s.updSin (port + 4) (fun x => { x with failed := true })).raise F.FST_INT_STATUS_SYNCE_EVENT).qlChanged
      (port + 4) true)
  else .next s

/-- SYNCE_INPUT_LOSS: an input loses its link or signal; a selected one starts hold-off (R127). -/
def State.synceLoss (s : State) (n : Nat) : State :=
  (s.updSin n (fun x => { x with signal := false })).qlChanged n true

def execSynceInputLoss (n : Nat) (s : State) : Out := .next (s.synceLoss n)

/-- SYNCE_INPUT_RECOVERY: a recovered input waits WTR before it is a candidate again; a selected input that recovers within
its hold-off simply stays (R127, log entry 19). -/
def State.synceRecover (s : State) (n : Nat) : State :=
  (s.updSin n (fun x => { x with signal := true, holdOff := false, wtr := !x.holdOff })).reselect

def execSynceInputRecovery (n : Nat) (s : State) : Out := .next (s.synceRecover n)

/-- SYNCE_HOLD_OFF_EXPIRY: a degraded selected input is replaced (R127). -/
def execSynceHoldOffExpiry (n : Nat) (s : State) : Out :=
  if (s.sin n).holdOff then .next (s.updSin n (fun x => { x with holdOff := false })).reselect else .next s

/-- SYNCE_WTR_EXPIRY: a recovered input becomes a candidate again (R127). -/
def execSynceWtrExpiry (n : Nat) (s : State) : Out :=
  if (s.sin n).wtr then .next (s.updSin n (fun x => { x with wtr := false })).reselect else .next s

/-- FREQUENCY_DPLL_LOCK: pull-in completes; LOCKED is set, REF_OUT runs and hybrid mode takes effect (R67, R134). -/
def execFrequencyDpllLock (s : State) : Out :=
  if s.rd F.FST_SYNCE_STATUS_SEL_INPUT < 12 then
    .next { s.wr F.FST_SYNCE_STATUS_LOCKED 1 with fst := { s.fst with hybridActive := s.rdB F.FST_PDPLL_CFG_HYBRID } }
  else .next s

/-- FDPLL_INPUT_LOSS: LOCKED falls; in hybrid mode the phase DPLL takes its frequency from the time source again, with no
state change (R67, R134). -/
def execFdpllInputLoss (s : State) : Out :=
  .next { s.wr F.FST_SYNCE_STATUS_LOCKED 0 with fst := { s.fst with hybridActive := false } }

/-! Pulse and time-of-day pins -/

/-- One second in units of 2^-16 ns. -/
abbrev sec16 : Int := 65536000000000

/-- Whether SQUELCH lets pulses out (R128). -/
def State.ppsAllowed (s : State) (n : Nat) : Bool :=
  let q := s.rd (F.FST_PPS_OUT_CFG_SQUELCH n)
  q == 0 || (q == 1 && s.rdB F.FST_STATUS_ALIGNED) || (q == 2 && s.rd F.FST_STATUS_STATE == 2)

/-- Whether a second already had its pulse (R129). -/
def PpsOut.done (x : PpsOut) (k : Int) : Bool := x.pulsed.any (fun r => decide (r.1 ≤ k) && decide (k ≤ r.2))

/-- Record the pulse of second k in the runs of pulsed seconds. -/
def PpsOut.mark (x : PpsOut) (k : Int) : PpsOut :=
  match x.pulsed with
  | (a, b) :: t => if k = b + 1 then { x with high := true, pulsed := (a, k) :: t }
                   else { x with high := true, pulsed := (k, k) :: (a, b) :: t }
  | [] => { x with high := true, pulsed := [(k, k)] }

/-- PPS_OUT_START: the counter has reached a whole second plus OFFSET; the pulse begins if enabled, SQUELCH allows it, the
second has had none, and it lies at least WIDTH + 1 µs after the last step (R128, R129). -/
def execPpsOutStart (n : Nat) (s : State) : Out :=
  let x := Map.get s.car.ppsOut {} n
  let off := s.rdI (F.FST_PPS_OUT_CFG_OFFSET n)
  let k := (s.fst.now - off).ediv sec16
  let start := k * sec16 + off
  let clear := match x.noPulseBefore with | some t => decide (t ≤ start) | none => true
  if s.rdB (F.FST_PPS_OUT_CFG_ENABLE n) && s.ppsAllowed n && !x.done k && clear && !x.high then
    .next ({ s with car := { s.car with ppsOut := Map.set s.car.ppsOut {} n (x.mark k) } }.emit (.pps n true))
  else .next s

/-- PPS_OUT_END: after WIDTH microseconds the pulse ends (R128). -/
def execPpsOutEnd (n : Nat) (s : State) : Out :=
  let x := Map.get s.car.ppsOut {} n
  if x.high then
    .next ({ s with car := { s.car with ppsOut := Map.set s.car.ppsOut {} n { x with high := false } } }.emit (.pps n false))
  else .next s

/-- After a step the next pulse begins at the first whole second plus OFFSET at least WIDTH + 1 µs later (R129). -/
def State.ppsStep (s : State) : State :=
  s.each [0, 1] (fun t n =>
    let w : Int := (t.rd (F.FST_PPS_OUT_CFG_WIDTH n) + 1 : Nat)
    let m := Map.upd t.car.ppsOut {} n (fun x => { x with noPulseBefore := some (t.fst.now + w * 65536000) })
    { t with car := { t.car with ppsOut := m } })

/-- PPS_IN_EDGE: a rising edge captures the counter; an edge less than 999.9 ms or more than 1,000.1 ms after the
previous one the spacing check holds is discarded and counted, and the check restarts from it (R130, log entry 19). -/
def execPpsInEdge (n sub : Nat) (s : State) : Out :=
  let x := Map.get s.car.ppsIn {} n
  let c := s.fst.now + sub
  let good := match x.lastEdge with
    | none => true
    | some l => decide (65536 * 999900000 ≤ c - l) && decide (c - l ≤ 65536 * 1000100000)
  let set := fun (t : State) (y : PpsIn) => { t with car := { t.car with ppsIn := Map.set t.car.ppsIn {} n y } }
  if good then
    .next (set s { x with lastEdge := some c, edge := some c, named := x.todSec, todSec := none })
  else .next ((set s { x with lastEdge := some c }).err (R.FST_PPS_GLITCH_CNT n))

/-- TOD_SENTENCE_RX: a sentence with a good checksum received 10 ms to 990 ms after an accepted edge names that edge (NEXT
0) or the following one (NEXT 1), in UTC; TAI adds UTC_OFFSET. It counts only when it names exactly 1 s more than the
previous one (R131-R133). -/
def execTodSentenceRx (n : Nat) (sumOk : Bool) (utc : Nat) (s : State) : Out :=
  let x := Map.get s.car.ppsIn {} n
  let inWin := match x.edge with
    | some e => decide (65536 * 10000000 ≤ s.fst.now - e) && decide (s.fst.now - e ≤ 65536 * 990000000)
    | none => false
  if sumOk && inWin then
    let tai : Int := utc + s.rdI F.FST_TOD_CFG_UTC_OFFSET
    let ok := x.lastTod == some (tai - 1)
    let y := { x with lastTod := some tai }
    let y := if !ok then y
      else if s.rdB F.FST_TOD_CFG_NEXT then { y with todSec := some tai } else { y with named := some tai }
    .next { s with car := { s.car with ppsIn := Map.set s.car.ppsIn {} n y } }
  else .next s

/-- A PPS source's report at a vote boundary: its edge and the time that named it (R133). -/
def State.ppsReport (s : State) (n : Nat) : Option Meas :=
  let x := Map.get s.car.ppsIn {} n
  match x.edge, x.named with
  | some e, some t => some { offset := t * sec16 - e, err := s.rd F.FST_TOD_CFG_GNSS_ERR }
  | _, _ => none

/-- Measurements of the past interval are dropped at a vote boundary or a step (R73). -/
def State.dropMeas (s : State) : State :=
  { s with fst := { s.fst with meas := [] },
           car := { s.car with
             inst := Map.mapVals s.car.inst {} (fun _ x => { x with exchanges := [], msgCount := 0 }),
             ppsIn := Map.mapVals s.car.ppsIn {} (fun _ x => { x with edge := none, named := none }) } }

/-- A step also discards what was stamped before it (R73). -/
def State.dropStamps (s : State) : State :=
  let s := s.dropMeas
  let peers := fun (x : PtpInst) => Map.mapVals x.peer {} (fun _ d => { d with sent := false, waitFup := false })
  let insts := Map.mapVals s.car.inst {} (fun _ x =>
    { x with heldSync := none, syncOk := false, reqT3 := none, peer := peers x })
  let pins := Map.mapVals s.car.ppsIn {} (fun _ x => { x with lastEdge := none, todSec := none })
  { s with car := { s.car with inst := insts, ppsIn := pins } }

/-! PTM -/

/-- The management PF of an attachment. -/
def mgmtOf (a : Nat) : Nat := 2 * a

/-- PTM_DIALOGUE_START: while PTM is enabled on the management PF, a request is sent and stamped (R136). -/
def execPtmDialogueStart (a : Nat) (s : State) : Out :=
  if (s.func (mgmtOf a)).cfg.ptmEnable && s.rdB (F.HIF_LINK_STATUS_DL_UP a) then
    .next ({ s with car := { s.car with ptm := Map.upd s.car.ptm {} a (fun x => { x with open_ := some s.fst.now }) } }.emit
      (.ptmRequest a))
  else .next s

/-- A discarded dialogue: counted; after three in a row PTM_VALID becomes 0 (R137). -/
def State.ptmDiscard (s : State) (a : Nat) : State :=
  let x := Map.get s.car.ptm {} a
  let s1 := { s with car := { s.car with ptm := Map.set s.car.ptm {} a { x with open_ := none, bad := x.bad + 1 } } }
  let s2 := s1.err (R.FST_PTM_BAD_CNT a)
  if 3 ≤ x.bad + 1 then s2.wr (F.FST_PTM_STATUS_PTM_VALID a) 0 else s2

/-- RATE of R138 from pairs (host, device): the least-squares slope less one, in units of 2^-40; with fewer than two
distinct host times the slope does not exist and the value is free, and so is the rounding of a fraction (log entry 17). -/
def State.ptmRate (s : State) (pairs : List (Int × Int)) : Int × State :=
  let n : Int := pairs.length
  let sx := sumI (pairs.map (·.1))
  let sy := sumI (pairs.map (·.2))
  let sxy := sumI (pairs.map (fun p => p.1 * p.2))
  let sxx := sumI (pairs.map (fun p => p.1 * p.1))
  let den := n * sxx - sx * sx
  let num := (n * sxy - sx * sy - den) * 1099511627776
  let (v, s1) := s.fresh
  if den = 0 then (toSigned 64 v, s1)
  else if num.emod den = 0 then (num.ediv den, s)
  else (num.ediv den + (v % 2 : Nat), s1)

/-- PTM_RESPONSE_RX: from the request stamp t1, the arrival t4, the host's receive time t2 and turnaround, the link delay
and the pair; a negative round trip is discarded. An accepted dialogue updates RATE and rewrites the time blocks (R137,
R138, R140). -/
def execPtmResponseRx (a : Nat) (t2 turn : Int) (s : State) : Out :=
  let x := Map.get s.car.ptm {} a
  match x.open_ with
  | none => .next s
  | some t1 =>
    let t4 := s.fst.now
    let rt := (t4 - t1) - turn
    if rt < 0 then .next (s.ptmDiscard a)
    else
      let host := t2 + turn + rt.ediv 2
      let hostNs := host.ediv 65536
      let dev := t4 - host.emod 65536
      let pairs := ((host, t4) :: x.pairs).take 16
      let (rate, s) := s.ptmRate pairs
      let y := { x with open_ := none, bad := 0, pairs := pairs, hostT := hostNs, devT := dev, rate := rate }
      let s := { s with car := { s.car with ptm := Map.set s.car.ptm {} a y } }
      let s := s.wr (F.FST_PTM_STATUS_PTM_VALID a) 1
      let (d, s) := s.roundPs ((rt.toNat * 1000) / 131072, (rt.toNat * 1000) % 131072 == 0)
      .next ((s.wr (F.FST_PTM_STATUS_LINK_DELAY a) (stop32 d)).writeTimePages (some a))

/-- PTM_RESPONSE_TIMEOUT: no response within 1 ms (R137). -/
def execPtmResponseTimeout (a : Nat) (s : State) : Out :=
  match (Map.get s.car.ptm {} a).open_ with
  | some _ => .next (s.ptmDiscard a)
  | none => .next s

end Sys2Proof.Machine
end

