-- ==== Sys2Proof/Machine/Time.lean ====
section
/-! DEFINITION. Machine/Time.lean: Flowstone (R47-R96, R720, R721): the counter's advance, the vote, the state machine,
the servo, TIME_SOURCE_SET and TIME_STEP, OSC_IN, snapshots and the clock part of a drip boundary. -/

namespace Sys2Proof.Machine

open Sys2Proof

set_option cleanup.letToHave false

/-! The counter's advance (R48, R49) -/

/-- Fraction units the counter advances by at each cycle of the drip (R48, R49, R81). -/
def Flow.inc (f : Flow) : Nat :=
  if f.aligning then 0x80000000 else if f.len = 513 then 2143297520 else if f.len = 511 then 2151686160 else 0x80000000

/-- Units the last cycle of the drip adds (R49, R81). -/
def Flow.lastAdd (f : Flow) : Nat :=
  if f.aligning then f.alignAdd else if f.len = 513 ∨ f.len = 511 then 16 else 0

/-- One second in fraction units. -/
abbrev secUnits : Nat := 1000000000 * 2 ^ 32

/-- The counter moved forward by `u` units of 2^-32 ns, less than a second; a vote boundary is due when the seconds field
increments (R48, R73). -/
def Flow.addUnits (f : Flow) (u : Nat) : Flow :=
  let t := f.ns * 2 ^ 32 + f.frac + u
  if t < secUnits then { f with ns := t / 2 ^ 32, frac := t % 2 ^ 32, atVote := false }
  else
    let r := t - secUnits
    { f with sec := (f.sec + 1) % 2 ^ 48, ns := r / 2 ^ 32, frac := r % 2 ^ 32, voteDue := true, atVote := false }

/-- `n` cycles of the drip, none of them its last. -/
def Flow.cycles (f : Flow) (n : Nat) : Flow := { f.addUnits (n * f.inc) with cycle := f.cycle + n }

/-- The rest of the drip, its last cycle included. -/
def Flow.finish (f : Flow) : Flow := { f.addUnits ((f.len - f.cycle) * f.inc + f.lastAdd) with cycle := 0 }

/-- Cycles to the next increment of the seconds field. -/
def Flow.toSecond (f : Flow) : Nat := ceilDiv (secUnits - (f.ns * 2 ^ 32 + f.frac)) f.inc

/-- One cycle of the core clock, never past the drip's last cycle, whose end is DRIP_BOUNDARY. -/
def State.clockCycle (s : State) : State :=
  if s.fst.cycle + 1 < s.fst.len then { s with fst := s.fst.cycles 1 } else s

/-! PEND and FREQ_ADJ -/

/-- Set PEND, with SLEW_ACTIVE and SLEW_LIMIT (R62, R95). A value beyond PEND's 48 bits is nowhere stated: free
(log entry 20). -/
def State.wrPend (s : State) (v : Int) : State :=
  let (v, s) := if v.natAbs < 2 ^ 47 then (v, s) else let (x, s1) := s.fresh; (toSigned 48 x, s1)
  let s := (s.wrI F.FST_PHASE_PEND_PEND v).wrB F.FST_STATUS_SLEW_ACTIVE (decide (32768 ≤ v.natAbs))
  if 65536 * 1000000 < v.natAbs then s.raise F.FST_INT_STATUS_SLEW_LIMIT else s

/-- Have FREQ_ADJ take a value at the next drip boundary (R58). -/
def State.adjLater (s : State) (v : Int) : State := { s with fst := { s.fst with adjNext := some v } }

/-- FREQ_ADJ takes FREQ_HOLD (R71). -/
def State.holdFreq (s : State) : State := s.adjLater (s.rdI F.FST_FREQ_HOLD_HOLD)

/-- The servo at a consensus of offset o (R63). -/
def State.servo (s : State) (o : Int) : State :=
  let pend := if s.rd F.FST_PDPLL_CFG_SLEW_THRESH * 32768 ≤ o.natAbs then o.tdiv 32768 * 32768 else 0
  let bw := s.rd F.FST_PDPLL_CFG_BW + (if s.fst.hybridActive then 16 else 0)
  (s.wrPend pend).adjLater (toSigned 32 (ofSigned 32 (Config.servoAdj (s.rdI F.FST_FREQ_ADJ_ADJ) bw (o - pend))))

/-- The mean of R71: samples of the most recent `n` drips of the runs, newest first; sum and count. -/
def holdSum : List (Int × Nat) → Nat → Int × Nat
  | [], _ => (0, 0)
  | (v, k) :: t, n =>
    let m := min k n
    let r := holdSum t (n - m)
    (v * m + r.1, m + r.2)

/-- Keep the most recent `n` drips of the runs. -/
def holdTrim : List (Int × Nat) → Nat → List (Int × Nat)
  | [], _ => []
  | (v, k) :: t, n => if n = 0 then [] else if n ≤ k then [(v, n)] else (v, k) :: holdTrim t (n - k)

/-- Nearest integer to a quotient, halves away from zero. -/
def roundAway (a : Int) (n : Nat) : Int :=
  let q : Int := ((2 * a.natAbs + n) / (2 * n) : Nat)
  if a < 0 then -q else q

/-- A drip in LOCKED samples FREQ_ADJ and updates FREQ_HOLD (R71). -/
def State.freqHold (s : State) : State :=
  if s.rd F.FST_STATUS_STATE = 2 then
    let v := s.rdI F.FST_FREQ_ADJ_ADJ
    let runs := match s.fst.holdRuns with
      | (w, k) :: t => if w = v then (w, k + 1) :: t else (v, 1) :: (w, k) :: t
      | [] => [(v, 1)]
    let runs := holdTrim runs (2 ^ 12 * 3906250)
    let r := holdSum runs (2 ^ s.rd F.FST_PDPLL_CFG_HOLD_AVG * 3906250)
    { s with fst := { s.fst with holdRuns := runs } }.wrI F.FST_FREQ_HOLD_HOLD (roundAway r.1 r.2)
  else s

/-! Moving the counter -/

/-- Put the counter at a whole number of 2^-16 ns and count the step; PEND is zeroed and what was stamped before is
discarded (R73, R91, R93). -/
def State.stepTo (s : State) (t : Int) : State :=
  let n := t.toNat
  let s := { s with fst := { s.fst with sec := n / 65536 / 1000000000 % 2 ^ 48, ns := n / 65536 % 1000000000,
                                        frac := n % 65536 * 65536, firstVoteAfterStep := true, atVote := false } }
  (((s.wrPend 0).dropStamps).ppsStep).stat R.FST_STEP_CNT

/-! The vote -/

/-- The report of source n at a vote boundary (R73, R112, R133). -/
def State.srcReport (s : State) (n : Nat) : Option Meas :=
  let r := if s.rd (F.FST_SRC_CFG_TYPE n) = 1 then s.ptpReport (s.rd (F.FST_SRC_CFG_INSTANCE n))
    else if s.rd (F.FST_SRC_CFG_TYPE n) = 2 then s.ppsReport (s.rd (F.FST_SRC_CFG_PPS n)) else none
  r.map (fun m => { m with offset := m.offset + s.rdI (F.FST_SRC_CFG_OFFSET_CORR n) })

/-- SSTATE of a source. -/
def State.sstate (s : State) (n : Nat) : Nat := s.rd (F.FST_SRC_STATUS_SSTATE n)

/-- Whether source n is configured. -/
def State.srcOn (s : State) (n : Nat) : Bool := s.rd (F.FST_SRC_CFG_TYPE n) != 0

/-- A source takes its report, or falls SILENT without one (R73, R720). -/
def State.srcTake (s : State) (n : Nat) : State :=
  if !s.srcOn n then s
  else
    match s.srcReport n with
    | some m =>
      let s := { s with fst := { s.fst with meas := Map.set s.fst.meas none n (some m) } }
      let s := (s.wrI (F.FST_SRC_OFFSET_OFFSET n) m.offset).wr (F.FST_SRC_STATUS_ERR_EST n) (stop32 m.err)
      if s.sstate n = 1 then s.wr (F.FST_SRC_STATUS_SSTATE n) (Map.get s.fst.leftState 2 n) else s
    | none =>
      if s.fst.firstVoteAfterStep then s
      else if s.sstate n = 2 ∨ s.sstate n = 3 then
        let s := { s with fst := { s.fst with leftState := Map.set s.fst.leftState 2 n (s.sstate n) } }
        (s.wr (F.FST_SRC_STATUS_SSTATE n) 1).raise F.FST_INT_STATUS_SRC_LOST
      else s

/-- Insert into a rising list. -/
def insertI (x : Int) : List Int → List Int
  | [] => [x]
  | y :: t => if x ≤ y then x :: y :: t else y :: insertI x t

/-- The median; the mean of the two middle values, rounded toward zero, for an even count (R78). -/
def median (l : List Int) : Int :=
  let a := l.foldr insertI []
  let n := a.length
  if n % 2 = 1 then a.getD (n / 2) 0 else (a.getD (n / 2 - 1) 0 + a.getD (n / 2) 0).tdiv 2

/-- RECOVER, 0 meaning 16 (R95). -/
def State.recover (s : State) : Nat :=
  if s.rd F.FST_VOTE_CFG_RECOVER = 0 then 16 else s.rd F.FST_VOTE_CFG_RECOVER

/-- The vote of R78: the selected source and its offset, or none. -/
def State.voteRun (s : State) : Option (Nat × Int) × State :=
  let cand := [0, 1, 2, 3].filterMap (fun n =>
    if s.srcOn n ∧ (s.sstate n = 2 ∨ s.sstate n = 3) then (Map.get s.fst.meas none n).map (fun m => (n, m)) else none)
  if cand.isEmpty then (none, { s with fst := { s.fst with agree := 0 } })
  else
    let m := median (cand.map (·.2.offset))
    let bound := s.rd F.FST_VOTE_CFG_REJECT_BOUND * 65536
    let ok := fun (c : Nat × Meas) => decide ((c.2.offset - m).natAbs ≤ bound)
    let agree := (cand.filter ok).length
    let s := { s with fst := { s.fst with agree := agree } }
    if agree < cand.length / 2 + 1 ∨ agree < s.rd F.FST_VOTE_CFG_MIN_SOURCES then (none, s)
    else
      let s := s.each cand (fun t c =>
        let n := c.1
        if ok c then
          let run := min (t.rd (F.FST_SRC_STATUS_AGREE_RUN n) + 1) 255
          let t := t.wr (F.FST_SRC_STATUS_AGREE_RUN n) run
          if t.sstate n = 3 ∧ t.recover ≤ run then t.wr (F.FST_SRC_STATUS_SSTATE n) 2 else t
        else
          let t := t.wr (F.FST_SRC_STATUS_AGREE_RUN n) 0
          if t.sstate n = 2 then
            ((t.wr (F.FST_SRC_STATUS_SSTATE n) 3).err (R.FST_SRC_REJECT_CNT n)).raise F.FST_INT_STATUS_FALSETICKER
          else t)
      let good := cand.filter (fun c => ok c && s.sstate c.1 == 2)
      let best := good.foldl (fun (b : Option (Nat × Meas)) c =>
        match b with
        | none => some c
        | some x => if c.2.err < x.2.err then some c else b) none
      (best.map (fun c => (c.1, c.2.offset)), s)

/-- VALID_MASK and REJECT_MASK (R95). -/
def State.srcMasks (s : State) : State :=
  let mask := fun (k : Nat) => ([0, 1, 2, 3].map (fun n => b2n (s.sstate n == k) * 2 ^ n)).sum
  (s.wr F.FST_STATUS_VALID_MASK (mask 2)).wr F.FST_STATUS_REJECT_MASK (mask 3)

/-! The error bound at a vote boundary (R148-R150) -/

/-- SRC_ERR, LOCAL_ERR, HOLD_ERR and BOUND at a vote boundary; `sel` is the vote's outcome, the state the old one. -/
def State.boundUpdate (s : State) (sel : Option (Nat × Int)) : State :=
  let st := s.rd F.FST_STATUS_STATE
  if st < 2 then { s with fst := { s.fst with bound := 0xFFFFFFFF } }
  else
    let s := match (if st = 2 then sel else none) with
      | some (n, o) =>
        let offs := (o :: s.fst.offsets).take 64
        let (le, s) := s.roundPs (localErrPs offs)
        let se := stop32 (s.rd (F.FST_SRC_STATUS_ERR_EST n) * 1000)
        { s with fst := { s.fst with offsets := offs, sinceSel := 0, srcErr := se, localErr := stop32 le, holdErr := 0 } }
      | none =>
        let t := s.fst.sinceSel + 1
        let (he, s) := s.roundPs (holdErrPs s.holdModel.1 s.holdModel.2 t)
        { s with fst := { s.fst with sinceSel := t, holdErr := stop32 he } }
    let b := stop32 (ceilDiv (s.fst.srcErr + s.fst.localErr + s.fst.holdErr) 1000)
    let s := { s with fst := { s.fst with bound := b } }
    if s.rd F.FST_LIMIT_CFG_ERR_LIMIT < b then s.raise F.FST_INT_STATUS_ERR_LIMIT else s

/-! The state machine (R74, R721) -/

/-- Enter LOCKED: LOSS_COUNT 0, the offsets of R148 restart, HOLDOVER_AGE 0. -/
def State.enterLocked (s : State) : State :=
  let s := { s with fst := { s.fst with lossCount := 0, lossValid := false, offsets := [], lockDecided := false,
                                        relockWait := false } }
  (s.wr F.FST_STATUS_HOLDOVER_AGE 0).setTimeState 2

/-- Leave for HOLDOVER (3) or UNTRUSTED (4), holding the frequency when it is not held already. -/
def State.enterHeld (s : State) (n : Nat) : State :=
  let s := if s.rd F.FST_STATUS_STATE = 2 then s.holdFreq else s
  s.setTimeState n

/-- Whether any source is VALID. -/
def State.anyValid (s : State) : Bool := [0, 1, 2, 3].any (fun n => s.sstate n == 2)

/-- Where an acquisition step goes: where no counter value is, the spec states none, and the value is free (log entry 20). -/
def State.stepGoal (s : State) (t : Int) : Int × State :=
  if t < 0 ∨ (2 ^ 48 * 1000000000 * 65536 : Nat) ≤ t then ((s.fresh.1 % (2 ^ 48 * 1000000000 * 65536) : Nat), s.fresh.2) else (t, s)

/-- ACQUIRING at a vote boundary. -/
def State.voteAcquiring (s : State) (sel : Option (Nat × Int)) : State :=
  match sel with
  | none => s.wr F.FST_STATUS_LOCK_COUNT 0
  | some (_, o) =>
    if 65536000 < o.natAbs then
      let (t, s) := s.stepGoal (s.fst.now + o)
      (s.stepTo t).wr F.FST_STATUS_LOCK_COUNT 0
    else if o.natAbs ≤ s.rd F.FST_LOCK_CFG_LOCK_THRESH * 65536 then
      let s := s.servo o
      let c := min (s.rd F.FST_STATUS_LOCK_COUNT + 1) 255
      let s := s.wr F.FST_STATUS_LOCK_COUNT c
      if s.rd F.FST_LOCK_CFG_LOCK_COUNT ≤ c ∧ ¬ s.rdB F.FST_STATUS_OSC_LOST ∧ ¬ s.fst.lockDecided then
        { s with fst := { s.fst with lockDecided := true, alignNext := true } }
      else s
    else (s.servo o).wr F.FST_STATUS_LOCK_COUNT 0

/-- LOCKED at a vote boundary without error bound or oscillator trouble. -/
def State.voteLocked (s : State) (sel : Option (Nat × Int)) : State :=
  match sel with
  | some (_, o) => { s.servo o with fst := { (s.servo o).fst with lossCount := 0, lossValid := false } }
  | none =>
    let n := s.fst.lossCount + 1
    let v := s.fst.lossValid || s.anyValid
    let s := { s with fst := { s.fst with lossCount := n, lossValid := v } }
    if s.rd F.FST_LOCK_CFG_LOSS_PERIODS ≤ n then s.enterHeld (if v then 4 else 3) else s

/-- A consensus in HOLDOVER or UNTRUSTED within RELOCK_MAX: LOCKED at once, or at the first aligned drip (R94). -/
def State.relock (s : State) (o : Int) : State :=
  if s.rdB F.FST_STATUS_ALIGNED then (s.servo o).enterLocked
  else { s with fst := { s.fst with relockWait := true, relockOffset := o } }

/-- HOLDOVER or UNTRUSTED at a vote boundary. -/
def State.voteHeld (s : State) (sel : Option (Nat × Int)) (st : Nat) : State :=
  let s := { s with fst := { s.fst with relockWait := false } }
  match sel with
  | some (_, o) =>
    if o.natAbs ≤ s.rd F.FST_LIMIT_CFG_RELOCK_MAX * 65536 then
      if s.rdB F.FST_STATUS_OSC_LOST then s else s.relock o
    else s.enterHeld 4
  | none => if st = 3 ∧ s.anyValid then s.enterHeld 4 else s

/-- The transition of a vote boundary (R74, R721). -/
def State.voteMove (s : State) (sel : Option (Nat × Int)) : State :=
  let st := s.rd F.FST_STATUS_STATE
  if st = 1 then s.voteAcquiring sel
  else if (st = 2 ∨ st = 3) ∧ (s.rd F.FST_LIMIT_CFG_ERR_LIMIT < s.fst.bound ∨ s.rdB F.FST_STATUS_OSC_LOST) then
    { s with fst := { s.fst with relockWait := false } }.enterHeld 4
  else if st = 2 then s.voteLocked sel
  else if st = 3 ∨ st = 4 then s.voteHeld sel st
  else s

/-- SELECTED and SELECTED_VALID. -/
def State.select (s : State) (sel : Option (Nat × Int)) : State :=
  match sel with
  | some (n, _) => (s.wr F.FST_STATUS_SELECTED n).wr F.FST_STATUS_SELECTED_VALID 1
  | none => s.wr F.FST_STATUS_SELECTED_VALID 0

/-- Everything a vote boundary does (R73, R78, R148-R150, R721, R140). -/
def State.vote (s : State) : State :=
  let s := { s with fst := { s.fst with voteDue := false } }
  let s := s.each [0, 1, 2, 3] State.srcTake
  let (sel, s) := s.voteRun
  let s := (s.srcMasks.select sel).boundUpdate sel
  let s := { s.dropMeas with fst := { s.dropMeas.fst with firstVoteAfterStep := false } }
  let held := decide (3 ≤ s.rd F.FST_STATUS_STATE)
  let s := s.voteMove sel
  let s := if held && decide (3 ≤ s.rd F.FST_STATUS_STATE) then
      s.wr F.FST_STATUS_HOLDOVER_AGE (stop32 (s.rd F.FST_STATUS_HOLDOVER_AGE + 1))
    else s
  { s.writeTracePages with fst := { s.writeTracePages.fst with atVote := true } }

/-- VOTE_BOUNDARY: runs when the seconds field has incremented by advance and no vote has answered it (R73). -/
def execVoteBoundary (s : State) : Out := if s.fst.voteDue then .next s.vote else .next s

/-! The clock part of a drip boundary (R58, R60-R62, R71, R81, R82) -/

/-- The drip runs to its end; a vote boundary that lies before its last cycle is held where it falls (log entry 21). -/
def State.dripFinish (s : State) : State :=
  let s := if s.fst.voteDue then s.vote else s
  let n := s.fst.toSecond
  let s := if s.fst.cycle + n < s.fst.len then { s with fst := s.fst.cycles n }.vote else s
  { s with fst := s.fst.finish }

/-- Start an alignment drip: G is the way to the first multiple of 256 ns at least 256 ns away (R81). -/
def State.startAlign (s : State) : State :=
  let unit := 2 ^ 32
  let now := s.fst.nowNs * unit + s.fst.frac
  let g := ceilDiv (now + 256 * unit) (256 * unit) * (256 * unit) - now
  let half := unit / 2
  { s with fst := { s.fst with aligning := true, len := g / half, alignAdd := g % half, alignNext := false } }.stat
    R.FST_ALIGN_CNT

/-- The drip after the alignment drip: number, ALIGNED, and the LOCKED a decision was waiting for (R74, R82, R94); the
change of drip number is answered for R83. -/
def State.reload (s : State) : Nat × State :=
  let was := s.fst.drip
  let s := { s with fst := { s.fst with drip := s.fst.nowNs / 256 % 2 ^ 64 } }
  let s := s.setAligned true
  let s := if s.fst.lockDecided then s.enterLocked
    else if s.fst.relockWait then (s.servo s.fst.relockOffset).enterLocked
    else s
  ((s.fst.drip + 2 ^ 64 - was) % 2 ^ 64, s)

/-- The length of the drip that begins: 512, or slewed (R61, R62). The drip that a withdrawn decision would have made the alignment drip
lasts 512 cycles (R81), and one that REALIGN_COUNT_EXPIRY makes the alignment drip is not slewed. -/
def State.startDrip (s : State) : State :=
  let pend := s.rdI F.FST_PHASE_PEND_PEND
  let plain := s.fst.plainNext || s.fst.realign == some 0
  let s := { s with fst := { s.fst with aligning := false, alignAdd := 0, len := 512, plainNext := false } }
  if s.fst.drip % 64 = 63 ∧ 32768 ≤ pend.natAbs ∧ ¬ plain then
    if 0 < pend then
      { (s.wrPend (pend - 32768)) with fst := { (s.wrPend (pend - 32768)).fst with len := 511 } }.stat R.FST_SLEW_SHORT_CNT
    else
      { (s.wrPend (pend + 32768)) with fst := { (s.wrPend (pend + 32768)).fst with len := 513 } }.stat R.FST_SLEW_LONG_CNT
  else s

/-- The next drip's number, before a reload. -/
def State.dripTurn (s : State) : State :=
  let x : Flow := { s.fst with drip := (s.fst.drip + 1) % 2 ^ 64, aligning := false, alignAdd := 0,
                               refEth := s.fst.refEth && !s.fst.oscReturn, oscReturn := false, realign := s.fst.realign.map (· - 1) }
  { s with fst := x }

/-- A change of FREQ_ADJ takes effect (R58). -/
def State.adjTake (s : State) : State :=
  match s.fst.adjNext with
  | some v => { s with fst := { s.fst with adjNext := none } }.wrI F.FST_FREQ_ADJ_ADJ v
  | none => s

/-- The drip after an alignment drip is numbered anew (R82, R94). -/
def State.reloadAfter (s : State) (wasAlign : Bool) : Option Nat × State :=
  if wasAlign ∧ (s.fst.lockDecided ∨ 3 ≤ s.rd F.FST_STATUS_STATE) then (some s.reload.1, s.reload.2) else (none, s)

/-- The drip that ends, and the number of the next one; the answer says by how much the drip number was reloaded, if it was. -/
def State.dripRenumber (s : State) : Option Nat × State :=
  let s := s.dripFinish
  s.dripTurn.adjTake.reloadAfter s.fst.aligning

/-- The next drip begins, as the alignment drip where one is due. -/
def State.dripBegin (s : State) : State :=
  let s := s.freqHold
  if s.fst.alignNext then s.startAlign else s.startDrip

/-- The clock's part of a drip boundary. -/
def State.dripClock (s : State) : Option Nat × State := (s.dripRenumber.1, s.dripRenumber.2.dripBegin)

/-- REALIGN_COUNT_EXPIRY: 64 drips after a step applied while ALIGNED was 1, the drip that begins is the alignment drip
(R81, R92). -/
def execRealignCountExpiry (s : State) : Out :=
  if s.fst.realign = some 0 ∧ s.fst.cycle = 0 ∧ ¬ s.fst.aligning then
    .next { s with fst := { s.fst with realign := none } }.startAlign
  else .next s

/-! OSC_IN (R72) -/

/-- A decision to enter LOCKED is withdrawn (R81). -/
def State.withdrawLock (s : State) : State :=
  if s.fst.lockDecided then
    { s with fst := { s.fst with lockDecided := false, alignNext := false, plainNext := s.fst.alignNext } }.wr F.FST_STATUS_LOCK_COUNT 0
  else s

/-- OSC_IN_LOSS: OSC_LOST, ETH_REFCLK, UNTRUSTED from LOCKED or HOLDOVER, and a lock decision withdrawn (R72, R81). -/
def State.oscLoss (s : State) : State :=
  if s.rdB F.FST_STATUS_OSC_LOST then s
  else
    let s := (s.wr F.FST_STATUS_OSC_LOST 1).raise F.FST_INT_STATUS_OSC_LOST
    let s := { s with fst := { s.fst with refEth := true, oscReturn := false, relockWait := false } }
    let st := s.rd F.FST_STATUS_STATE
    let s := s.withdrawLock
    if st = 2 ∨ st = 3 then s.enterHeld 4 else s

def execOscInLoss (s : State) : Out := .next s.oscLoss

/-- OSC_IN_RETURN: OSC_LOST falls; the synthesiser takes OSC_IN back at the next drip boundary (R72). -/
def execOscInReturn (s : State) : Out :=
  if s.rdB F.FST_STATUS_OSC_LOST then
    .next { s.wr F.FST_STATUS_OSC_LOST 0 with fst := { s.fst with oscReturn := true } }
  else .next s

/-! TIME_SOURCE_SET (R86-R88) -/

/-- A bit-field of a number lies within bounds. -/
def within (v lo w a b : Nat) : Bool := decide (a ≤ bitsOf v lo w) && decide (bitsOf v lo w ≤ b)

/-- A signed byte of a number lies within bounds. -/
def withinI (v lo : Nat) (a b : Int) : Bool :=
  decide (a ≤ toSigned 8 (bitsOf v lo 8)) && decide (toSigned 8 (bitsOf v lo 8) ≤ b)

/-- The stated ranges of the fields of the RWK registers (R95, R151). -/
def tsRange (off v : Nat) : Bool :=
  if off = R.FST_PDPLL_CFG then within v 8 4 4 12 && within v 16 8 1 255
  else if off = R.FST_FDPLL_CFG then !(bitsOf v 4 3 == 5 || bitsOf v 4 3 == 6)
  else if off = R.FST_LOCK_CFG then within v 16 8 1 255 && within v 24 8 1 255
  else if off = R.FST_VOTE_CFG then within v 16 3 1 4
  else if [0, 1, 2, 3].any (fun n => off == R.FST_SRC_CFG n) then within v 0 3 0 2
  else if (List.range 8).any (fun i => off == R.FST_PTP_CFG i) then
    within v 1 3 0 4 && within v 4 2 0 2 && within v 16 2 0 2 && withinI v 40 (-7) 1 && withinI v 48 (-3) 3
      && withinI v 56 (-7) 1
  else if off = R.FST_PPS_OUT_CFG 0 ∨ off = R.FST_PPS_OUT_CFG 1 then within v 1 2 0 2 && within v 12 20 1 500000
  else if off = R.FST_TOD_CFG then within v 0 3 0 5
  else if off = R.FST_REF_OUT_CFG 0 ∨ off = R.FST_REF_OUT_CFG 1 then within v 1 3 0 4
  else if off = R.FST_SYNCE_CFG then within v 0 2 0 2 && within v 16 8 3 18 && within v 24 8 0 12
  else true

/-- The RWK bits and the reserved bits of the register at an offset. -/
def rwkMask (r : RegRow) : Nat := (r.flds.map (fun f => if f.acc = .rwk then (2 ^ f.w - 1) * 2 ^ f.lo else 0)).sum

/-- Every bit a field of the register covers. -/
def fieldMask (r : RegRow) : Nat := (r.flds.map (fun f => (2 ^ f.w - 1) * 2 ^ f.lo)).sum

/-- Whether VALUE may be staged for the register at a BAR 0 offset (R87). -/
def tsValueOk (off v : Nat) : Bool :=
  match findRow (regRowsAt off) off with
  | some r => rwkMask r != 0 && off != R.FST_PHASE_PEND && (v &&& fieldMask r == v) && tsRange off v
  | none => false

/-- Stage a value (R86). -/
def State.stageTs (s : State) (off v : Nat) : State :=
  { s with fst := { s.fst with staged := Map.set s.fst.staged none off (some v) } }.wr F.FST_STATUS_STAGED 1

/-- TIME_SOURCE_SET: stages VALUE, and with APPLY at 1 waits for the next vote boundary (R86, R87). -/
def execTimeSourceSet (f : Nat) (s : State) : Out :=
  .next (s.admCrit f 0x28 [0x1001FFFFF, 0xFFFFFFFFFFFFFFFF]
    (fun c => tsValueOk (0x100000 + bitsOf (c.word 8) 0 21) (c.word 0x10))
    (fun s c =>
      let off := 0x100000 + bitsOf (c.word 8) 0 21
      if Map.get s.fst.staged none off = none ∧ 32 ≤ s.fst.staged.length then s.admDone f stNoResource
      else
        let s := s.stageTs off (c.word 0x10)
        if bitOf (c.word 8) 32 then { s.admWait f with fst := { s.fst with applyFns := s.fst.applyFns ++ [f] } }
        else s.admDone f stSuccess))

/-- A register with the staged values written: only RWK bits change; HOLD_MODEL only while CLASS is 3 (R86, R88). -/
def State.writeStaged (s : State) (off v : Nat) : State :=
  match findRow (regRowsAt off) off with
  | some r =>
    let m := rwkMask r
    let old := (s.reg off).toNat
    s.setReg off (BitVec.ofNat 64 ((old - (old &&& m)) + (v &&& m)))
  | none => s

/-- y0 and a of a class (R69). -/
def classModel (c : Nat) : Nat × Nat := if c = 0 then (20000, 50000) else if c = 1 then (2000, 10000) else (100, 500)

/-- All staged values written, before the checks (R86, R88). -/
def State.writeAllStaged (s : State) : State :=
  let l := s.fst.staged
  let s1 := s.each (l.filter (fun e => e.1 != R.FST_HOLD_MODEL)) (fun t e => t.writeStaged e.1 (e.2.getD 0))
  let c := s1.rd F.FST_OSC_CFG_CLASS
  if c = 3 then
    match Map.get l none R.FST_HOLD_MODEL with
    | some v => s1.writeStaged R.FST_HOLD_MODEL v
    | none => s1
  else if (Map.get l none R.FST_OSC_CFG).isSome then
    (s1.wr F.FST_HOLD_MODEL_Y0 (classModel c).1).wr F.FST_HOLD_MODEL_A (classModel c).2
  else s1

/-- The domain range of a profile (R106, R107). -/
def domainOk (profile d : Nat) : Bool :=
  if profile = 2 then decide (24 ≤ d) && decide (d ≤ 43)
  else if profile = 3 then decide (44 ≤ d) && decide (d ≤ 63)
  else decide (d ≤ 127)

/-- The checks an apply makes of the values it would leave in force (R104, R107, R124). -/
def State.tsCross (s : State) : Bool :=
  let doms := fun (p : Nat) => ((List.range 8).filter (fun i => bitOf (s.rd (F.FST_PTP_PORTS_MEMBERS i)) p)).map
    (fun i => s.rd (F.FST_PTP_CFG_DOMAIN i))
  let r104 := (List.range 8).all (fun p => decide ((doms p).length ≤ 4) && decide (doms p).Nodup)
  let r107 := (List.range 8).all (fun i => domainOk (s.rd (F.FST_PTP_CFG_PROFILE i)) (s.rd (F.FST_PTP_CFG_DOMAIN i)))
  let bw := s.rd F.FST_FDPLL_CFG_BW
  let t := s.rd F.FST_SYNCE_CFG_EEC_TYPE
  let r124 := if t = 0 then 1 ≤ bw else if t = 1 then bw = 0 else bw = 1 ∨ bw = 2
  r104 && r107 && decide r124

/-- What an apply does beside writing registers: source states (R720), port states, one-step operation, SyncE selection and
hybrid operation follow the new values. -/
def State.tsFollow (s : State) (wrote : List Nat) : State :=
  let s := s.each [0, 1, 2, 3] (fun t n =>
    if wrote.contains (R.FST_SRC_CFG n) then
      let t := { t with fst := { t.fst with leftState := Map.set t.fst.leftState 2 n 2 } }
      (t.wr (F.FST_SRC_STATUS_SSTATE n) (if t.srcOn n then 2 else 0)).wr (F.FST_SRC_STATUS_AGREE_RUN n) 0
    else t)
  let s := s.each (List.range 8) (fun t i =>
    if wrote.contains (R.FST_PTP_CFG i) || wrote.contains (R.FST_PTP_PORTS i) then (t.oneStepDown i).bmca i else t)
  let s := if wrote.contains R.FST_FDPLL_CFG || wrote.contains R.FST_SYNCE_CFG then s.reselect else s
  let s := { s with fst := { s.fst with
    hybridActive := s.rdB F.FST_PDPLL_CFG_HYBRID && s.rdB F.FST_SYNCE_STATUS_LOCKED } }
  s.srcMasks

/-- The state changes of R74 that an applied configuration makes. -/
def State.tsMove (s : State) : State :=
  let any := [0, 1, 2, 3].any s.srcOn
  let st := s.rd F.FST_STATUS_STATE
  if st = 0 ∧ any then s.setTimeState 1
  else if st = 1 ∧ ¬ any then
    let s := { s.adjLater 0 with fst := { (s.adjLater 0).fst with lockDecided := false, alignNext := false } }
    (s.wr F.FST_STATUS_LOCK_COUNT 0).setTimeState 0
  else if st = 2 ∧ ¬ any then s.enterHeld 3
  else s

/-- The commands that wait for an apply complete. -/
def State.applyDone (s : State) (l : List Nat) (st : Nat) : State := s.each l (fun t f => t.admDone f st)

/-- TIME_SOURCE_APPLY: at the vote boundary, the staged values are checked and written together and the commands that asked for it
complete (R86, R87, R721). -/
def execTimeSourceApply (s : State) : Out :=
  match s.fst.applyFns with
  | f :: l =>
    if s.fst.atVote then
      let s := { s with fst := { s.fst with applyFns := [] } }
      let t := s.writeAllStaged
      if t.tsCross then
        let wrote := s.fst.staged.map (·.1)
        let t := { t with fst := { t.fst with staged := [] } }.wr F.FST_STATUS_STAGED 0
        .next (((t.tsFollow wrote).tsMove).applyDone (f :: l) stSuccess)
      else .next (s.applyDone (f :: l) stBadField)
    else .next s
  | [] => .next s

/-! TIME_STEP (R89-R93) -/

/-- Signed 64-bit operand. -/
def sWord (c : AdmCmd) (off : Nat) : Int := toSigned 64 (c.word off)

/-- MODE and VALUE of TIME_STEP are in range (R89, R90). -/
def stepRangeOk (c : AdmCmd) : Bool :=
  let mode := bitsOf (c.word 8) 0 2
  if mode = 0 then (c.word 0x10 &&& 0xFFFFFFFFFFFF == c.word 0x10) && (c.word 0x18 &&& 0xFFFF3FFFFFFF == c.word 0x18)
    && decide (bitsOf (c.word 0x18) 0 30 < 1000000000)
  else if mode = 1 then c.word 0x18 == 0
  else if mode = 2 then (c.word 0x18 == 0) && decide ((sWord c 0x10).natAbs ≤ 65536 * 1000000)
  else false

/-- TIME_STEP: SLEW_REL adds to PEND at once; a step waits for the next drip boundary (R89-R91, R93). -/
def execTimeStep (f : Nat) (s : State) : Out :=
  .next (s.admCrit f 0x29 [0x3, 0xFFFFFFFFFFFFFFFF, 0xFFFFFFFFFFFFFFFF] stepRangeOk (fun s c =>
    let st := s.rd F.FST_STATUS_STATE
    if st = 1 ∨ st = 2 then s.admDone f stNotPermitted
    else if bitsOf (c.word 8) 0 2 = 2 then
      (s.wrPend (s.rdI F.FST_PHASE_PEND_PEND + sWord c 0x10)).admDone f stSuccess
    else
      let q : StepReq := { fn := f, abs := bitsOf (c.word 8) 0 2 == 0, sec := c.word 0x10,
                           ns := bitsOf (c.word 0x18) 0 30, frac := bitsOf (c.word 0x18) 32 16, rel := sWord c 0x10 }
      { s.admWait f with fst := { s.fst with stepReqs := s.fst.stepReqs ++ [q] } }))

/-- After a step the drips are aligned again by a realignment count, when they were or were to be (R92). -/
def State.stepRealign (s : State) (was : Bool) : State :=
  let x : Flow := { s.fst with aligning := false, alignAdd := 0, len := if s.fst.aligning then 512 else s.fst.len,
                               realign := if was ∨ s.fst.realign.isSome ∨ s.fst.aligning then some 64 else none }
  { s with fst := x }

/-- The counter is stepped to a value. -/
def State.stepNow (s : State) (new : Int) : State :=
  let was := s.rdB F.FST_STATUS_ALIGNED
  let d := new - s.fst.now
  let s := s.setAligned false
  let s := (s.stepTo new).raise F.FST_INT_STATUS_TIME_STEPPED
  (s.eventAll 0x0003 0 0 (ofSigned 64 d)).stepRealign was

/-- TIME_STEP_APPLY: at the drip boundary the counter is stepped by the oldest step that waits; ALIGNED falls before it moves (R52, R91, R92). -/
def execTimeStepApply (s : State) : Out :=
  match s.fst.stepReqs with
  | q :: l =>
    if s.fst.cycle = 0 then
      let s := { s with fst := { s.fst with stepReqs := l } }
      let new : Int := if q.abs then ((q.sec * 1000000000 + q.ns) * 65536 + q.frac : Nat) else s.fst.now + q.rel
      if new < 0 ∨ (2 ^ 48 * 1000000000 * 65536 : Nat) ≤ new then .next (s.admDone q.fn stBadField)
      else
        .next ((s.stepNow new).admDone q.fn stSuccess)
    else .next s
  | [] => .next s

/-! Snapshots (R53-R55) -/

/-- Capture of attachment a's snapshot set. -/
def State.snapshot (s : State) (a : Nat) : State :=
  let seq := (s.rd (F.FST_SNAP_SEC_SEQ a) + 1) % 65536
  let ns := s.fst.ns + s.fst.frac16 * 2 ^ 32 + s.fst.cycle % 1024 * 2 ^ 48 + s.rd F.FST_STATUS_ALIGNED * 2 ^ 58
    + s.rd F.FST_STATUS_STATE * 2 ^ 59
  ((s.setReg (R.FST_SNAP_SEC a) (BitVec.ofNat 64 (s.fst.sec + seq * 2 ^ 48))).setReg (R.FST_SNAP_NS a)
    (BitVec.ofNat 64 ns)).setReg (R.FST_SNAP_DRIP a) (BitVec.ofNat 64 s.fst.drip)

/-- Capture of control firmware's private set (R55). -/
def State.snapshotFw (s : State) : State :=
  let ns := s.fst.ns + s.fst.frac16 * 2 ^ 32 + s.fst.cycle % 1024 * 2 ^ 48 + s.rd F.FST_STATUS_ALIGNED * 2 ^ 58
    + s.rd F.FST_STATUS_STATE * 2 ^ 59
  { s with fst := { s.fst with fwSnapSec := s.fst.sec, fwSnapNs := ns, fwSnapDrip := s.fst.drip,
                               fwSnapSeq := (s.fst.fwSnapSeq + 1) % 65536 } }

/-- SNAPSHOT_TAKE by attachment `who` 0-3, or by control firmware (4) into its private set. -/
def execSnapshotTake (who : Nat) (s : State) : Out := .next (if who < 4 then s.snapshot who else s.snapshotFw)

end Sys2Proof.Machine
end

