-- ==== Sys2Proof/Machine/Gallery.lean ====
section
/-! DEFINITION. Machine/Gallery.lean: engine threads and what they hold (R208-R216, R256), sumps (R226-R234), event bits
(R235), gallery locks (R237-R240), packet contexts (R223-R225, R245, R246), faults of threads and the policies of flow
classes (R289, R309), and hand-off (R247, R248). -/

namespace Sys2Proof.Machine

open Sys2Proof

set_option cleanup.letToHave false

/-! Threads and engines -/

/-- Key of engine e of gallery g. -/
def engKey (g e : Nat) : Nat := g * 17 + e

/-- Key of a thread. -/
def thrKey (g e t : Nat) : Nat := engKey g e * 8 + t

/-- A thread. -/
def State.thr (s : State) (g e t : Nat) : Thread := Map.get s.eng.thr {} (thrKey g e t)

/-- Set a thread. -/
def State.setThr (s : State) (g e t : Nat) (x : Thread) : State :=
  { s with eng := { s.eng with thr := Map.set s.eng.thr {} (thrKey g e t) x } }

/-- Change a thread. -/
def State.updThr (s : State) (g e t : Nat) (f : Thread → Thread) : State := s.setThr g e t (f (s.thr g e t))

/-- An engine. -/
def State.engn (s : State) (g e : Nat) : Engine := Map.get s.eng.eng {} (engKey g e)

/-- Set an engine. -/
def State.setEngn (s : State) (g e : Nat) (x : Engine) : State :=
  { s with eng := { s.eng with eng := Map.set s.eng.eng {} (engKey g e) x } }

/-- Thread states of PE_THREAD.TSTATE (R252). -/
abbrev tHeld : Nat := 0
abbrev tIdle : Nat := 1
abbrev tRunnable : Nat := 2
abbrev tWaiting : Nat := 3
abbrev tSupervisor : Nat := 4
abbrev tFaulted : Nat := 5
abbrev tHalted : Nat := 6

/-- A thread's state. -/
def State.ts (s : State) (g e t : Nat) : Nat := s.rd (F.PE_THREAD_TSTATE g e t)

/-- Set a thread's state. -/
def State.setTs (s : State) (g e t v : Nat) : State := s.wr (F.PE_THREAD_TSTATE g e t) v

/-- A thread's PC. -/
def State.pc (s : State) (g e t : Nat) : Nat := s.rd (F.PE_THREAD_PC g e t)

/-- Set a thread's PC. -/
def State.setPc (s : State) (g e t v : Nat) : State := s.wr (F.PE_THREAD_PC g e t) v

/-- The current version. -/
def State.curVer (s : State) : Nat := s.rd F.MAT_VER_STATUS_CURRENT

/-- Whether thread t runs start or supervisor code. -/
def State.noPacket (s : State) (g e t : Nat) : Bool :=
  (s.thr g e t).starting || (t == 0 && s.rdB (F.PE_SUP_SUP_ACTIVE g e)) || !(s.thr g e t).running

/-- The packet a thread runs. -/
def Thread.pkt (x : Thread) : Option Pkt := if x.running then x.ctxs.head? else none

/-- The packets of a context queue that have not met a policy. -/
def Thread.live (x : Thread) : List Pkt := if x.running && x.gone then x.ctxs.drop 1 else x.ctxs

/-- The packet a thread runs, unless it has met its policy. -/
def Thread.livePkt (x : Thread) : Option Pkt := if x.gone then none else x.pkt

/-- The version whose slot a thread fetches from: its packet's, or the current one in start and supervisor code (R217). -/
def State.thrVer (s : State) (g e t : Nat) : Nat :=
  if s.noPacket g e t then s.curVer
  else match (s.thr g e t).pkt with
    | some p => p.g Md.version
    | none => s.curVer

/-- Threads of a gallery that the state lists: engine, thread, value. -/
def State.galThreads (s : State) (g : Nat) : List (Nat × Nat × Thread) :=
  (s.eng.thr.filter (fun x => x.1 / 136 == g)).map (fun x => (x.1 % 136 / 8, x.1 % 8, x.2))

/-- The engine that fills a position of a gallery (R203, R252). -/
def State.engAt (s : State) (g pos : Nat) : Option Nat :=
  (List.range 17).find? (fun e =>
    let st := s.rd (F.PE_STATUS_STATE g e)
    (st == 0 || st == 3 || st == 4) && s.rd (F.PE_STATUS_POS g e) == pos)

/-- Byte address of engine data memory. -/
def dmemAt (g e a : Nat) : Nat := engKey g e * 0x8000 + a

/-- Byte address of gallery memory. -/
def gmemAt (g a : Nat) : Nat := g * 0x100000 + a

/-- Offset of a thread's current working buffer in its engine's data memory (R219). -/
def State.bufAt (s : State) (g e t : Nat) : Nat := t * 0x400 + (s.thr g e t).buf * 0x200

/-! Event bits (R235) -/

/-- The event bits of an engine. -/
def State.events (s : State) (g e : Nat) : Nat :=
  let v := s.rd (F.PE_EVENTS_EVENTS g e)
  if s.eng.tick24 && !s.eng.cleared24.contains (engKey g e) && !bitOf v 24 then v + 2 ^ 24 else v

/-- Set bits 0-23 of an engine's event bits. -/
def State.setEvents (s : State) (g e mask : Nat) : State :=
  s.wr (F.PE_EVENTS_EVENTS g e) (s.rd (F.PE_EVENTS_EVENTS g e) ||| mask % 2 ^ 24)

/-- Clear event bits. -/
def State.clearEvents (s : State) (g e mask : Nat) : State :=
  let s := if bitOf mask 24 && !s.eng.cleared24.contains (engKey g e) then
      { s with eng := { s.eng with cleared24 := engKey g e :: s.eng.cleared24 } }
    else s
  s.wr (F.PE_EVENTS_EVENTS g e) (s.rd (F.PE_EVENTS_EVENTS g e) &&& (0xFFFFFFFF - mask % 2 ^ 32))

/-! Sumps (R226-R234): key 36 * home gallery + index -/

/-- Key of SUMP_ID as threads of gallery g name it; none for a reserved identifier. -/
def sumpKey (g sid : Nat) : Option Nat :=
  if sid < 32 then some (g * 36 + sid)
  else if 256 ≤ sid ∧ sid < 512 then some ((sid - 256) % 64 * 36 + 32 + (sid - 256) / 64)
  else none

/-- SUMP_ID of a key. -/
def sumpSid (k : Nat) : Nat := if k % 36 < 32 then k % 36 else 256 + (k % 36 - 32) * 64 + k / 36

/-- Fields of a sump's registers. -/
abbrev sWr (k : Nat) : Fld := F.GAL_SUMP_STATUS_WR (k / 36) (k % 36)
abbrev sCmt (k : Nat) : Fld := F.GAL_SUMP_STATUS_CMT (k / 36) (k % 36)
abbrev sRd (k : Nat) : Fld := F.GAL_SUMP_STATUS_RD (k / 36) (k % 36)
abbrev sPkts (k : Nat) : Fld := F.GAL_SUMP_STATUS_PKTS (k / 36) (k % 36)
abbrev sProd (k : Nat) : Fld := F.GAL_SUMP_STATUS_PROD_CLAIM (k / 36) (k % 36)
abbrev sCons (k : Nat) : Fld := F.GAL_SUMP_STATUS_CONS_CLAIM (k / 36) (k % 36)
abbrev sProducer (k : Nat) : Fld := F.GAL_SUMP_OWNER_PRODUCER (k / 36) (k % 36)
abbrev sConsumer (k : Nat) : Fld := F.GAL_SUMP_OWNER_CONSUMER (k / 36) (k % 36)

/-- Gallery memory address of the word at a pointer (R221). -/
def sumpAddr (k ptr : Nat) : Nat :=
  gmemAt (k / 36) ((if k % 36 < 32 then 0x80000 + k % 36 * 0x1000 else 0xA0000 + (k % 36 - 32) * 0x1000) + ptr % 512 * 8)

/-- Words held (R230). -/
def State.sumpUsed (s : State) (k : Nat) : Nat := (s.rd (sWr k) + 1024 - s.rd (sRd k)) % 1024

/-- Words of the claimed packet so far (R230). -/
def State.sumpPartial (s : State) (k : Nat) : Nat := (s.rd (sWr k) + 1024 - s.rd (sCmt k)) % 1024

/-- Store one word; END and ERROR complete the packet and end the claim (R228, R230). -/
def State.sumpStore (s : State) (k unit data tag : Nat) : State :=
  let wr := s.rd (sWr k)
  let m := Mem.putLe s.eng.gmem (sumpAddr k wr) 8 data
  let s := { s with eng := { s.eng with gmem := m, tags := Map.set s.eng.tags 0 (k * 512 + wr % 512) tag } }
  let s := s.wr (sWr k) ((wr + 1) % 1024)
  if tag = 1 then (s.wr (sProd k) 1).wr (sProducer k) unit
  else (((s.wr (sCmt k) ((wr + 1) % 1024)).wr (sPkts k) (s.rd (sPkts k) + 1)).wr (sProd k) 0).wr (sProducer k) 0

/-- Take the next word: data and tag (R229, R230). -/
def State.sumpTake (s : State) (k unit : Nat) : Nat × Nat × State :=
  let rd := s.rd (sRd k)
  let data := Mem.le s.eng.gmem (sumpAddr k rd) 8
  let tag := Map.get s.eng.tags 0 (k * 512 + rd % 512)
  let s := s.wr (sRd k) ((rd + 1) % 1024)
  (data, tag,
    if tag = 1 then (s.wr (sCons k) 1).wr (sConsumer k) unit
    else ((s.wr (sPkts k) (s.rd (sPkts k) - 1)).wr (sCons k) 0).wr (sConsumer k) 0)

/-- The SUMP entry of R635. -/
def State.sumpFault (s : State) (k cause unit : Nat) : State :=
  s.fault { cls := 0x0C, cause := cause, unit := unit, snapshot := s.cnt (R.GAL_SUMP_ERR_CNT (k / 36)), detail := sumpSid k }

/-- Close a claimed partial packet with ERROR (R228, R234). -/
def State.sumpCloseProd (s : State) (k cause : Nat) : State :=
  let u := s.rd (sProducer k)
  ((s.sumpStore k u 0 3).raise (F.GAL_INT_STATUS_SUMP_ERROR (k / 36))).sumpFault k cause u

/-- Read pointer after the end mark of the packet being read. -/
def State.sumpSkip (s : State) (k : Nat) : Nat → Nat → Nat
  | 0, ptr => ptr
  | n + 1, ptr =>
    if Map.get s.eng.tags 0 (k * 512 + ptr % 512) = 1 then State.sumpSkip s k n ((ptr + 1) % 1024) else (ptr + 1) % 1024

/-- Discard the rest of a packet whose consumer is gone (R229). -/
def State.sumpCloseCons (s : State) (k : Nat) : State :=
  let u := s.rd (sConsumer k)
  let s := s.wr (sRd k) (s.sumpSkip k 512 (s.rd (sRd k)))
  let s := ((s.wr (sPkts k) (s.rd (sPkts k) - 1)).wr (sCons k) 0).wr (sConsumer k) 0
  (s.err (R.GAL_SUMP_ERR_CNT (k / 36))).sumpFault k 2 u

/-- Keys of the sumps whose producer (or consumer) side a unit has claimed. -/
def State.sumpClaims (s : State) (unit : Nat) (prod : Bool) : List Nat :=
  s.regs.filterMap (fun r =>
    let rel := r.1 - 0x1000000
    let o := rel % 0x10000
    if 0x1000000 ≤ r.1 ∧ r.1 < 0x1400000 ∧ 0x100 ≤ o ∧ o < 0x340 ∧ o % 0x10 = 0 then
      let k := rel / 0x10000 * 36 + (o - 0x100) / 0x10
      if (if prod then s.rdB (sProd k) && s.rd (sProducer k) == unit else s.rdB (sCons k) && s.rd (sConsumer k) == unit) then
        some k
      else none
    else none)

/-! Locks (R237-R240) -/

/-- Whether lock n of gallery g is held. -/
def State.lockHeld (s : State) (g n : Nat) : Bool := bitOf (s.rd (F.GAL_LOCK_HELD_HELD g)) n

/-- Give a free lock to a unit. -/
def State.lockTake (s : State) (g n unit : Nat) : State :=
  let x := s.gal g
  (s.setGal g { x with lockHolder := Map.set x.lockHolder 0 n unit }).wr ⟨R.GAL_LOCK_HELD g, n, 1⟩ 1

/-- Free a lock. -/
def State.lockFree (s : State) (g n : Nat) : State :=
  let x := s.gal g
  (s.setGal g { x with lockHolder := Map.set x.lockHolder 0 n 0 }).wr ⟨R.GAL_LOCK_HELD g, n, 1⟩ 0

/-- Free a lock whose holder lost it: counted, logged and reported (R239, R240). -/
def State.lockBreak (s : State) (g n cause owner : Nat) : State :=
  let s := (s.lockFree g n).err (R.GAL_LOCK_BROKEN_CNT g)
  let s := ((s.wr (F.GAL_LOCK_LOG_LOCK g) n).wr (F.GAL_LOCK_LOG_CAUSE g) cause).wr (F.GAL_LOCK_LOG_OWNER g) owner
  let s := if cause = 1 then s.raise (F.GAL_INT_STATUS_LOCK_BROKEN g) else s.raise (F.GAL_INT_STATUS_LOCK_OVERRUN g)
  s.fault { cls := 0x0B, cause := cause, unit := owner, snapshot := s.cnt (R.GAL_LOCK_BROKEN_CNT g), detail := n }

/-- Withdraw a unit's request for lock n (R555). -/
def State.lockWithdraw (s : State) (g n unit : Nat) : State :=
  let x := s.gal g
  s.setGal g { x with lockWait := Map.upd x.lockWait [] n (fun l => l.filter (fun w => w.unit != unit)) }

/-- Everything a thread holds is closed: its lock, its lock request and its sump claims (R228, R229, R240, R555). -/
def State.closeHolds (s : State) (g e t : Nat) : State :=
  let u := unitThread g e t
  let th := s.thr g e t
  let s := match th.lock with
    | some n => s.lockBreak g n 1 u
    | none => s
  let s := match th.lockAsk with
    | some n => s.lockWithdraw g n u
    | none => s
  let s := s.each (s.sumpClaims u true) (fun t k => t.sumpCloseProd k 1)
  let s := s.each (s.sumpClaims u false) (fun t k => t.sumpCloseCons k)
  s.updThr g e t (fun x => { x with lock := none, lockAsk := none, sump := none, overrun := false })

/-! Packet contexts (R223-R225, R245) -/

/-- Packets whose contexts a gallery holds. -/
def State.ctxPkts (s : State) (g : Nat) : List Pkt :=
  (s.galThreads g).flatMap (fun x => x.2.2.ctxs) ++ (s.gal g).ended.map (·.pkt)

/-- The 128 bytes before the header area of a context. -/
def Pkt.ctxHead (p : Pkt) : List Byte :=
  mdBytes p.md ++ leBytes p.admitDrip 8 ++ leBytes p.deadline 8
    ++ leBytes (p.id % 2 ^ 32 + p.payloadOff * 2 ^ 32) 8
    ++ leBytes (p.hdrStart + p.hdrEnd * 2 ^ 9 + p.attempt * 2 ^ 18 + p.gen * 2 ^ 24 + p.genFunc * 2 ^ 36) 8
    ++ leBytes (p.steerHash % 2 ^ 32 + p.steerHash % 256 * 2 ^ 32 + p.orderSeq * 2 ^ 48) 8 ++ leBytes 0 24

/-- Write a packet's context; header bytes outside HDR_START to HDR_END keep what the memory held. -/
def State.writeCtx (s : State) (g : Nat) (p : Pkt) : State :=
  let m := Mem.putBytes s.eng.gmem (gmemAt g (p.ctx * 512)) p.ctxHead
  { s with eng := { s.eng with gmem := Mem.putBytes m (gmemAt g (p.ctx * 512 + 128 + p.hdrStart))
                                          (p.data.take (p.hdrEnd - p.hdrStart)) } }

/-- Write a packet's DEADLINE_DRIP into its context (R83). -/
def State.writeDeadline (s : State) (g : Nat) (p : Pkt) : State :=
  { s with eng := { s.eng with gmem := Mem.putLe s.eng.gmem (gmemAt g (p.ctx * 512 + 0x48)) 8 p.deadline } }

/-- The lowest free context of a position and thread, out of lines withdrawn from use (R223, R639; log entry 29). -/
def State.freeCtx (s : State) (g pos t : Nat) : Option Nat :=
  let used := (s.ctxPkts g).map (·.ctx)
  let bad := (s.gal g).badLines
  (((List.range 8).map (fun k => pos * 64 + t * 8 + k)).filter
    (fun c => !used.contains c && !bad.any (fun l => l / 8 == c))).head?

/-- Threads that may be given a packet: of engines in service, neither HELD, FAULTED nor HALTED, nor in the start program
(R245, log entry 28). -/
def State.takers (s : State) (g : Nat) : List (Nat × Nat × Nat) :=
  (List.range 17).flatMap (fun e =>
    if s.rd (F.PE_STATUS_STATE g e) = 0 ∧ s.rd (F.PE_STATUS_POS g e) < 16 then
      ((List.range 8).filter (fun t =>
        let st := s.ts g e t
        st != tHeld && st != tFaulted && st != tHalted && !(s.thr g e t).starting)).map
          (fun t => (s.rd (F.PE_STATUS_POS g e), e, t))
    else [])

/-- The thread R245 chooses, with the context its packet takes. -/
def State.chooser (s : State) (g : Nat) : Option (Nat × Nat × Nat × Nat) :=
  let rr := (s.gal g).assign
  let key := fun (x : Nat × Nat × Nat × Nat) => (s.thr g x.2.1 x.2.2.1).ctxs.length * 128 + (x.1 * 8 + x.2.2.1 + 128 - rr) % 128
  ((s.takers g).filterMap (fun x =>
    if (s.thr g x.2.1 x.2.2).ctxs.length < 8 then (s.freeCtx g x.1 x.2.2).map (fun c => (x.1, x.2.1, x.2.2, c)) else none)).foldl
      (fun b x => match b with
        | none => some x
        | some y => if key x < key y then some x else some y) none

/-- Place an admitted packet in a context queue, or let it wait for a context (R245, R246). -/
def State.place (s : State) (g : Nat) (p : Pkt) : State :=
  let x := s.gal g
  match s.chooser g with
  | some (pos, e, t, c) =>
    let p := { p with ctx := c }
    let hws := x.hws.map (fun h => if p.lead ∧ h.corr = p.corr ∧ h.reUnit = 0 then { h with reUnit := unitThread g e t } else h)
    let s := (s.setGal g { x with assign := (pos * 8 + t + 1) % 128, hws := hws }).writeCtx g p
    s.updThr g e t (fun y => { y with ctxs := y.ctxs ++ [p] })
  | none => s.setGal g { x with stalled := x.stalled ++ [p] }

/-- Packets that wait for a context are placed again, in order. -/
def State.drain (s : State) (g : Nat) : State :=
  let x := s.gal g
  if x.stalled.isEmpty then s else (s.setGal g { x with stalled := [] }).each x.stalled (fun t p => t.place g p)

/-- Move the packets queued behind the running one to other threads (R246). -/
def State.moveQueued (s : State) (g e t : Nat) : State :=
  let th := s.thr g e t
  let rest := if th.running then th.ctxs.drop 1 else th.ctxs
  (s.setThr g e t { th with ctxs := if th.running then th.ctxs.take 1 else [] }).each rest (fun y p => y.place g p)

/-! Hardware faults' records (R317, R641) -/

/-- Write the entry of a hardware fault once both outcomes are known. -/
def State.hwFinish (s : State) (g : Nat) (corr : Nat) : State :=
  let x := s.gal g
  match x.hws.find? (fun h => h.corr == corr) with
  | some h =>
    match h.lower, h.upper with
    | some lo, some up =>
      let s := s.setGal g { x with hws := x.hws.filter (fun y => y.corr != corr) }
      s.fault { cls := 0x01, cause := h.cause, unit := unitThread g h.eng h.thread, corr := h.corr, drip := some h.drip,
                aligned := some h.aligned, snapshot := h.snap, lower := lo, upper := up, sparesOut := h.sparesOut,
                detail := h.pc + h.reUnit * 2 ^ 16 + h.moved % 256 * 2 ^ 32 + h.drips % 16 * 2 ^ 40 }
    | _, _ => s
  | none => s

/-- The re-execution of a packet has ended: LOWER 1 for success, 2 for failure. -/
def State.retryDone (s : State) (g : Nat) (p : Pkt) (lower : Nat) : State :=
  if p.lead = false then s
  else
    let x := s.gal g
    (s.setGal g { x with hws := x.hws.map (fun h => if h.corr = p.corr ∧ h.lower = none then { h with lower := some lower } else h) }).hwFinish
      g p.corr

/-! Policies (R307, R309) -/

/-- The policy of a packet's flow class in its own version (R305). -/
def State.policyOf (s : State) (p : Pkt) : Nat :=
  Map.get (s.ver (p.g Md.version)).policies policyReset (p.g Md.flowClass)

/-- The slow path: the packet as admitted is punted with SLOW_REASON (R307). -/
def State.slowPath (s : State) (g : Nat) (p : Pkt) : State :=
  (s.stat (R.DSP_SLOW_CNT g)).toCpu (p.s Md.puntReason (bitsOf (s.policyOf p) 8 8))

/-- ON_FAULT (R309). -/
def State.onFault (s : State) (g : Nat) (p : Pkt) : State :=
  let s := s.err (R.DSP_FAULT_POLICY_CNT g)
  if bitsOf (s.policyOf p) 2 2 = 2 then s.slowPath g p else s.pktGone p

/-! Faults and stops of a thread -/

/-- Remove the packet a thread runs. -/
def State.dropRun (s : State) (g e t : Nat) : State :=
  s.updThr g e t (fun x => { x with ctxs := if x.running then x.ctxs.drop 1 else x.ctxs, running := false, gone := false })

/-- Supervisor event THREAD_FAULT, or THREAD0_FAULT (R210). -/
def State.faultEvent (s : State) (g e t : Nat) : State :=
  if t = 0 then s.raise (F.GAL_INT_STATUS_THREAD0_FAULT g) else s.wr ⟨R.PE_SUP g e, 8 + t, 1⟩ 1

/-- A thread faults: PE_FAULT, what it holds is closed, FAULTED (R208, R289). -/
def State.thrFault (s : State) (g e t cause : Nat) : State :=
  let pc := s.pc g e t
  let s := s.setReg (R.PE_FAULT g e t) (BitVec.ofNat 64 (cause + (if 0xF0 ≤ cause then 2 ^ 8 else 0) + 2 ^ 9 + pc * 2 ^ 16))
  let s := ((s.closeHolds g e t).setTs g e t tFaulted).wr (F.PE_THREAD_WAIT_KIND g e t) 0
  let s := if t = 0 then s.wr (F.PE_SUP_SUP_ACTIVE g e) 0 else s
  s.updThr g e t (fun x => { x with starting := false })

/-- A program exception (R213, R289): the packet goes to its policy, those queued behind it to other threads. -/
def State.progExc (s : State) (g e t code : Nat) : State :=
  let pc := s.pc g e t
  let v := s.thrVer g e t
  let th := s.thr g e t
  let s := ((s.thrFault g e t code).faultEvent g e t).dropRun g e t
  let s := match th.livePkt with
    | some p => (s.retryDone g p 2).onFault g p
    | none => s
  let chain := match th.pkt with
    | some p => p.g Md.chainId
    | none => 0
  let s := s.fault { cls := 0x0A, cause := code, unit := unitThread g e t, snapshot := s.cnt (R.DSP_FAULT_POLICY_CNT g),
                     upper := if th.livePkt.isSome then 5 else 0, detail := pc + chain * 2 ^ 15 + v * 2 ^ 27 }
  s.moveQueued g e t

/-- The thread is stopped at a deadline, or by a hardware fault beside it: as for a fault, without PE_FAULT or a supervisor
event (R208). -/
def State.stopThr (s : State) (g e t : Nat) : State :=
  let sup := t == 0 && s.rdB (F.PE_SUP_SUP_ACTIVE g e)
  let s := (s.closeHolds g e t).dropRun g e t
  let s := s.updThr g e t (fun x => { x with loops := if sup then x.loops else [], rets := if sup then x.rets else [],
                                             savedLoops := [], savedRets := [], before := tIdle })
  if sup then s else (s.setTs g e t tIdle).wr (F.PE_THREAD_WAIT_KIND g e t) 0

/-- Whether Lantern holds an engine halted. -/
def State.engHalted (s : State) (g e : Nat) : Bool := s.rd (F.PE_STATUS_STATE g e) == 3 && !(s.engn g e).resuming

/-- A running packet meets its policy: its thread is stopped, but for one halted by Lantern, which is stopped at resume
(R679, R680). -/
def State.stopRun (s : State) (g e t : Nat) : State :=
  if s.engHalted g e then s.updThr g e t (fun x => { x with gone := true }) else s.stopThr g e t

/-! Hand-off (R247, R248) -/

/-- Whether a packet admitted earlier, of the same order domain, is still in the gallery (R247). -/
def State.olderInOrder (s : State) (g : Nat) (p : Pkt) : Bool :=
  ((s.galThreads g).flatMap (fun x => x.2.2.live) ++ (s.gal g).ended.map (·.pkt) ++ (s.gal g).stalled).any (fun q => q.steerHash % 256 == p.steerHash % 256 && q.id != p.id
    && decide ((p.orderSeq + 65536 - q.orderSeq) % 65536 < 32768))

/-- Where a packet handed off goes (R248, R364): after the generation check and out of the in-flight count. -/
def State.sendHandoff (s : State) (g : Nat) (p : Pkt) : State :=
  let k := p.g Md.destKind
  if k = 1 ∨ k = 2 then
    match s.cryGate p 2 with
    | .drop c => (s.err c).txDropped p
    | .wait => s.toCry (if k = 2 then s.fixupPkt p else p) 2
    | .pass => if k = 2 then s.pushTm (s.fixupPkt p) else s.deliver p
  else if k = 3 then s.toSto p
  else (s.stat (R.DSP_NO_DEST_CNT g)).txDropped p

/-- The packet as its thread left it: header bytes HDR_START to HDR_END - 1, then PAYLOAD_OFF to the end (R248). -/
def Pkt.built (p : Pkt) : Pkt := { p with data := p.header ++ p.data.drop p.payloadOff }

/-- What the dispatcher does with an ended packet (R33, R248). -/
def State.sendEnded (s : State) (g : Nat) (x : Ended) : State :=
  let p := x.pkt.built
  let s := s.stat (R.DSP_HANDOFF_CNT g)
  let s := if p.late then s.stat (R.DSP_LATE_CNT g) else s
  if p.gen ≠ 0 ∧ (s.func p.genFunc).gen ≠ p.gen then (s.stat (R.DSP_GEN_DISCARD_CNT g)).pktGone p
  else if x.ending = 0 then (s.inflightSub (p.g Md.version)).sendHandoff g p
  else if x.ending = 1 then
    s.toParse { p with recirc := true, entry := none, attempt := 0, corr := 0, lead := false, late := false, ordered := false, orderSeq := 0 }
  else if x.ending = 2 then s.toCpu p
  else (s.stat (R.DSP_DROP_CNT g)).pktGone p

/-- HANDOFF: the dispatcher takes an ended packet, once no earlier one of its order domain is in the gallery (R247), builds
it and sends it on. -/
def execHandoff (g id : Nat) (s : State) : Out :=
  let x := s.gal g
  match x.ended.find? (fun y => y.pkt.id == id) with
  | none => .next s
  | some y =>
    if y.pkt.ordered ∧ s.olderInOrder g y.pkt then
      if y.waited then .next s
      else
        .next ((s.setGal g { x with ended := x.ended.map (fun z => if z.pkt.id == id then { z with waited := true } else z) }).stat
          (R.DSP_ORDER_WAIT_CNT g))
    else
      let s := s.setGal g { x with ended := x.ended.filter (fun z => z.pkt.id != id) }
      .next (((s.retryDone g y.pkt 1).sendEnded g y).drain g)

/-! Starts, wakes and waits of threads -/

/-- ENGINE_START: the g registers are cleared, thread 0 stands at the START entry of the current version, threads 1-7 are
HELD (R205, R208). -/
def execEngineStart (g e : Nat) (s : State) : Out :=
  if s.rd F.PRS_STATUS_RULESET = 1 ∧ (s.engn g e).started = false then
    let v := s.curVer
    let s := s.setEngn g e { s.engn g e with started := true }
    let s := s.each (List.range 8) (fun y t => (y.setThr g e t { starting := t == 0 }).setTs g e t (if t = 0 then tRunnable else tHeld))
    .next (s.setPc g e 0 (v % 4 * 0x2000 + 4 * dirEntry ((s.ver v).dir 0)))
  else .next s

/-- THREAD_PACKET_START: the buffer switches to a copy of the packet's pristine context, and the PC goes to the chain's entry in
the packet's version (R208, R225). -/
def execThreadPacketStart (g e t : Nat) (s : State) : Out :=
  let th := s.thr g e t
  if s.ts g e t = tIdle ∧ th.running = false then
    match th.ctxs.head? with
    | none => .next s
    | some p =>
      let b := 1 - th.buf
      let m := Mem.putBytes s.eng.dmem (dmemAt g e (t * 0x400 + b * 0x200)) (Mem.bytes s.eng.gmem (gmemAt g (p.ctx * 512)) 512)
      let s := { s with eng := { s.eng with dmem := m } }
      let s := s.setThr g e t { th with buf := b, running := true, loops := [], rets := [] }
      let v := p.g Md.version
      let s := s.setPc g e t (v % 4 * 0x2000 + 4 * dirEntry (((s.ver v).chain (p.g Md.chainId)).getD 0))
      .next (s.setTs g e t tRunnable)
  else .next s

/-- A thread becomes HALTED; its lock request is withdrawn (R208, R555). -/
def State.haltThr (s : State) (g e t : Nat) : State :=
  if s.ts g e t = tHalted then s
  else
    let s := match (s.thr g e t).lockAsk with
      | some n => s.lockWithdraw g n (unitThread g e t)
      | none => s
    let st := s.ts g e t
    (s.updThr g e t (fun x => { x with beforeHalt := st })).setTs g e t tHalted

/-- Whether Lantern steps a thread (R681). -/
def State.stepOf (s : State) (g e t : Nat) : Bool :=
  match s.board.step with
  | some x => x.gal == g && x.eng == e && x.thr == t
  | none => false

/-- One more instruction of a step has been issued. -/
def State.stepTake (s : State) (g e t : Nat) : State :=
  if s.stepOf g e t then
    { s with board := { s.board with step := s.board.step.map (fun x => { x with left := x.left - 1 }) } }
  else s

/-- A step ends: its thread is halted again and Lantern answers OK, or ERR 5 (R673, R681). -/
def State.stepEnd (s : State) (g e t : Nat) (ok : Bool) : State :=
  let s := ({ s with board := { s.board with step := none } }.haltThr g e t).wrB F.LNT_STATUS_BUSY false
  if ok then s.emit (.lantern "OK" []) else (s.wr F.LNT_STATUS_LAST_ERR 5).emit (.lantern "ERR" [5])

/-- A step ends when its instructions are issued and completed, or when its thread can issue no other. -/
def State.stepCheck (s : State) (g e t : Nat) : State :=
  match s.board.step with
  | none => s
  | some x =>
    let st := s.ts g e t
    if ¬ s.stepOf g e t ∨ st = tWaiting ∨ (x.left ≠ 0 ∧ (st = tRunnable ∨ st = tSupervisor
        ∨ (st = tIdle ∧ ¬ (s.thr g e t).ctxs.isEmpty))) then s
    else s.stepEnd g e t true

/-- A thread starts to wait (R208). -/
def State.waitOn (s : State) (g e t kind : Nat) : State :=
  let st := s.ts g e t
  ((s.updThr g e t (fun x => { x with beforeWait := st })).setTs g e t tWaiting).wr (F.PE_THREAD_WAIT_KIND g e t) kind

/-- Loop stack and PC after the instruction at byte PC `last` (R284). -/
def finishAt (last : Nat) : List LoopFrame → List LoopFrame × Nat
  | [] => ([], last + 4)
  | f :: r =>
    if f.last = last then
      (if 1 < f.left then ({ f with left := f.left - 1 } :: r, f.first) else finishAt last r)
    else (f :: r, last + 4)

/-- Finish the instruction at byte PC `last`. -/
def State.finish (s : State) (g e t last : Nat) : State :=
  let (l, pc) := finishAt last (s.thr g e t).loops
  (s.updThr g e t (fun x => { x with loops := l })).setPc g e t pc

/-- A wait ends; the PC moves past the waiting instruction when it has completed. -/
def State.wake (s : State) (g e t : Nat) (past : Bool) : State :=
  let s := s.wr (F.PE_THREAD_WAIT_KIND g e t) 0
  let s := s.setTs g e t (s.thr g e t).beforeWait
  (if past then s.finish g e t (s.pc g e t) else s).stepCheck g e t

/-- Write a g register; g0 stays zero (R256). -/
def Thread.setG (x : Thread) (r v : Nat) : Thread :=
  if r = 0 then x else { x with g := Map.set x.g 0 r (BitVec.ofNat 64 v) }

/-- Read a g register. -/
def Thread.getG (x : Thread) (r : Nat) : Nat := if r = 0 then 0 else (Map.get x.g 0 r).toNat

/-- Whether a thread waits on an event that has come. -/
def State.eventHit (s : State) (g e t : Nat) : Bool :=
  s.ts g e t == tWaiting && s.rd (F.PE_THREAD_WAIT_KIND g e t) == 1 && (s.events g e &&& (s.thr g e t).waitMask) != 0

/-- A waiting thread whose event has come takes it: D gets the set bits of its mask, which a consuming thread clears
(R236). -/
def State.eventWake (s : State) (g e t : Nat) : State :=
  if s.eventHit g e t then
    let th := s.thr g e t
    let v := s.events g e &&& th.waitMask
    let s := s.setThr g e t (th.setG th.waitDest v)
    (if th.waitCons then s.clearEvents g e v else s).wake g e t true
  else s

/-- THREAD_WAKE: the thread, and with it every waiting thread of the engine that the same bits release, becomes runnable:
those that consume last, in rising thread number (R236). -/
def execThreadWake (g e t : Nat) (s : State) : Out :=
  if s.eventHit g e t then
    let plain := (List.range 8).filter (fun u => !(s.thr g e u).waitCons)
    let cons := (List.range 8).filter (fun u => (s.thr g e u).waitCons)
    .next ((s.each plain (fun y u => y.eventWake g e u)).each cons (fun y u => y.eventWake g e u))
  else .next s

/-- LOAD_DATA_RETURN: the data of the thread's oldest outstanding load returns (R271). -/
def execLoadDataReturn (g e t : Nat) (s : State) : Out :=
  let th := s.thr g e t
  match th.loads with
  | [] => .next s
  | (r, v) :: rest =>
    let s := s.setThr g e t ({ th with loads := rest }.setG r v.toNat)
    if s.ts g e t = tWaiting ∧ s.rd (F.PE_THREAD_WAIT_KIND g e t) = 4 then .next (s.wake g e t false) else .next s

/-- Whether a write of a unit must wait: another claims the sump, or it has no room (R228, R231). -/
def State.putWaits (s : State) (k unit : Nat) : Bool :=
  (s.rdB (sProd k) && s.rd (sProducer k) != unit) || decide (511 ≤ s.sumpUsed k)

/-- Whether a read of a unit must wait (R229, R232). -/
def State.getWaits (s : State) (k unit : Nat) : Bool :=
  (s.rdB (sCons k) && s.rd (sConsumer k) != unit) || s.rd (sPkts k) == 0

/-- The two results of SGET; into one register the spec names no order, so the value is free (log entry 5). -/
def State.getResult (s : State) (g e t d a data tag : Nat) : State :=
  if d = a ∧ d ≠ 0 then
    let (v, s) := s.fresh
    s.updThr g e t (fun x => x.setG d v)
  else s.updThr g e t (fun x => (x.setG d data).setG a tag)

/-- SUMP_WAIT_END: a waiting sump access completes (R228-R232). -/
def execSumpWaitEnd (g e t : Nat) (s : State) : Out :=
  let th := s.thr g e t
  let u := unitThread g e t
  match th.sump with
  | none => .next s
  | some w =>
    if s.ts g e t ≠ tWaiting ∨ s.rd (F.PE_THREAD_WAIT_KIND g e t) ≠ 2 then .next s
    else if w.put then
      if s.putWaits w.sump u then .next s
      else .next (((s.setThr g e t { th with sump := none }).sumpStore w.sump u w.data w.tag).wake g e t true)
    else if s.getWaits w.sump u then .next s
    else
      let (data, tag, s) := (s.setThr g e t { th with sump := none }).sumpTake w.sump u
      .next ((s.getResult g e t w.d w.a data tag).wake g e t true)

/-- PRIO of the thread with a unit address. -/
def State.prioOf (s : State) (unit : Nat) : Nat := s.rd (F.PE_THREAD_PRIO (unit / 256 % 64) (unit / 8 % 32) (unit % 8))

/-- The waiter R553 chooses: highest PRIO, then earliest, then lowest unit address. -/
def State.lockBest (s : State) (l : List LockWaiter) : Option LockWaiter :=
  l.foldl (fun b w => match b with
    | none => some w
    | some x =>
      let pw := s.prioOf w.unit
      let px := s.prioOf x.unit
      if px < pw ∨ (px = pw ∧ (w.stamp < x.stamp ∨ (w.stamp = x.stamp ∧ w.unit < x.unit))) then some w else some x) none

/-- LOCK_GRANT: a free lock with waiters is granted (R553). A waiter in SUPERVISOR finds its LOCK done when it returns. -/
def execLockGrant (g n : Nat) (s : State) : Out :=
  let x := s.gal g
  if s.lockHeld g n then .next s
  else
    match s.lockBest (Map.get x.lockWait [] n) with
    | none => .next s
    | some w =>
      let e := w.unit / 8 % 32
      let t := w.unit % 8
      let s := (s.lockWithdraw g n w.unit).lockTake g n w.unit
      let s := s.updThr g e t (fun y => { y with lock := some n, lockAsk := none })
      if s.ts g e t = tWaiting then .next (s.wake g e t true)
      else .next (s.updThr g e t (fun y =>
        let (l, pc) := finishAt y.savedPc y.savedLoops
        { y with before := y.savedFrom, savedPc := pc, savedLoops := l, savedKind := 0 }))

/-- LOCK_OVERRUN: the 33rd cycle of a locked sequence; the lock is broken and its holder takes LOCK_OVERRUN at its next
instruction (R239). -/
def execLockOverrun (g n : Nat) (s : State) : Out :=
  if s.lockHeld g n then
    let u := Map.get (s.gal g).lockHolder 0 n
    let s := s.lockBreak g n 2 u
    .next (s.updThr g (u / 8 % 32) (u % 8) (fun y => { y with lock := none, overrun := true }))
  else .next s

/-- Whether a thread waits inside (R214). -/
def State.internal (s : State) (g e t : Nat) : Bool :=
  s.ts g e t == tWaiting && s.rd (F.PE_THREAD_WAIT_KIND g e t) == 1
    && ((s.thr g e t).waitMask &&& s.rd (F.PE_EVT_INTERNAL_INTERNAL g e)) == (s.thr g e t).waitMask

/-- ENGINE_STALL: every active thread is internally waiting (R214-R216). -/
def execEngineStall (g e : Nat) (s : State) : Out :=
  let act := (List.range 8).filter (fun t => s.ts g e t != tIdle && s.ts g e t != tHeld)
  if act ≠ [] ∧ act.all (fun t => s.internal g e t) then
    let s := s.err (R.PE_STALL_CNT g e)
    if s.rdB (F.PE_SUP_SUP_ACTIVE g e) ∨ s.ts g e 0 = tFaulted ∨ s.ts g e 0 = tHeld then
      let s := s.raise (F.GAL_INT_STATUS_STALL_ESCALATED g)
      .next (s.fault { cls := 0x0D, cause := 1, unit := unitThread g e 0, snapshot := s.cnt (R.PE_STALL_CNT g e),
                       detail := (act.map (fun t => 2 ^ t)).sum })
    else .next (s.wr (F.PE_SUP_STALL_PEND g e) 1)
  else .next s

/-- Pending supervisor events: 1-7 the faulted threads, 8 ENGINE_STALL. -/
def State.supPending (s : State) (g e : Nat) : List Nat :=
  ((List.range 8).filter (fun t => t != 0 && bitOf (s.reg (R.PE_SUP g e)).toNat (8 + t)))
    ++ (if s.rdB (F.PE_SUP_STALL_PEND g e) then [8] else [])

/-- SUPERVISOR_ENTRY: thread 0, IDLE or WAITING, takes a pending event; which of several is free (R208, R211, R285, log
entry 30). -/
def execSupervisorEntry (g e : Nat) (s : State) : Out :=
  let st := s.ts g e 0
  let l := s.supPending g e
  if (st = tIdle ∨ st = tWaiting) ∧ s.rdB (F.PE_SUP_SUP_ACTIVE g e) = false ∧ l ≠ [] then
    let (n, s) := if l.length = 1 then (0, s) else s.fresh
    let ev := l.getD (n % l.length) 8
    let f := (s.reg (R.PE_FAULT g e ev)).toNat
    let cause := if ev = 8 then 2 else 1 + ev * 2 ^ 4 + bitsOf f 0 8 * 2 ^ 8 + bitsOf f 16 15 * 2 ^ 16
    let s := if ev = 8 then s.wr (F.PE_SUP_STALL_PEND g e) 0 else s.wr ⟨R.PE_SUP g e, 8 + ev, 1⟩ 0
    let pc := s.pc g e 0
    let kind := s.rd (F.PE_THREAD_WAIT_KIND g e 0)
    let s := s.updThr g e 0 (fun x => { x with before := st, savedPc := pc, savedKind := kind, savedLoops := x.loops,
                                               savedRets := x.rets, loops := [], rets := [], supCause := cause,
                                               savedFrom := x.beforeWait, savedMask := x.waitMask, savedCons := x.waitCons,
                                               savedDest := x.waitDest, savedSump := x.sump, sump := none })
    let v := s.curVer
    let s := (s.setPc g e 0 (v % 4 * 0x2000 + 4 * dirEntry ((s.ver v).dir 1))).wr (F.PE_THREAD_WAIT_KIND g e 0) 0
    .next ((s.wr (F.PE_SUP_SUP_ACTIVE g e) 1).setTs g e 0 tSupervisor)
  else .next s

/-- THREAD0_FIRMWARE_RESTART: control firmware restarts a FAULTED thread 0 (R208, R280). -/
def execThread0FirmwareRestart (g e : Nat) (s : State) : Out :=
  if s.ts g e 0 = tFaulted then
    let s := (s.setTs g e 0 tIdle).wr (F.PE_FAULT_VALID g e 0) 0
    .next (s.updThr g e 0 (fun x => { x with loops := [], rets := [] }))
  else .next s

/-- What a write of GO to GAL_SUMP_ABORT does (R234); a halted producer is stopped at resume (R682). -/
def State.sumpAbort (s : State) (g i : Nat) : State :=
  let k := g * 36 + i
  if i < 36 ∧ s.rdB (sProd k) then
    let u := s.rd (sProducer k)
    let (pg, pe, pt) := (u / 256 % 64, u / 8 % 32, u % 8)
    let s := if s.engHalted pg pe then s.updThr pg pe pt (fun x => { x with aborted := true }) else s
    s.sumpCloseProd k 3
  else s

/-- SUMP_ABORT: a write of GO to GAL_SUMP_ABORT naming sump index i. -/
def execSumpAbort (g i : Nat) (s : State) : Out := .next (s.sumpAbort g i)

/-- PE_EVENTS_WRITE: a written 1 sets its event bit as SIGNAL does (R235, R252). -/
def execPeEventsWrite (g e v : Nat) (s : State) : Out := .next (s.setEvents g e v)

end Sys2Proof.Machine
end

