-- ==== Sys2Proof/Machine/Pyray.lean ====
section
/-! DEFINITION. Machine/Pyray.lean: the instructions of Pyray (R256-R290). Each command names a thread; the thread executes
the word at its PC when that word is the command's instruction, and nothing happens otherwise. A word that no row of the
instruction tables has, or a PC outside the image, is taken as an exception whichever instruction the command names. -/

namespace Sys2Proof.Machine

open Sys2Proof

set_option cleanup.letToHave false

/-- What an instruction leads to: the PC moves on, goes elsewhere, or stays; or an exception. -/
inductive PyRes where
  | ok (s : State)
  | jump (s : State) (pc : Nat)
  | stay (s : State)
  | exc (code : Nat)

/-- Execute a thread's instruction when it satisfies `is` (R258, R260, R271, R282, R289). -/
def State.pyIssue (s : State) (g e t : Nat) (is : Nat → Bool) (f : Nat → State → PyRes) : State :=
  let th := s.thr g e t
  let pc := s.pc g e t
  let v := s.thrVer g e t
  let w := (s.ver v).word (pc % 0x2000 / 4)
  if (s.ts g e t ≠ tRunnable ∧ s.ts g e t ≠ tSupervisor) ∨ (s.engHalted g e ∧ ¬ s.stepOf g e t) then s
  else if th.overrun then s.progExc g e t 0x0C
  else if pc / 0x2000 ≠ v % 4 ∨ pc % 0x2000 / 4 < 128 then s.progExc g e t 0x16
  else if !pyKnown w then s.progExc g e t 0x01
  else if !is w then s
  else if !pyLegal w then ((s.stat (R.PE_ISSUE_CNT g e)).stepTake g e t).progExc g e t 0x01
  else if (pyRegs w).any (fun r => th.loads.any (fun x => x.1 == r)) then s.waitOn g e t 4
  else
    let s := (s.stat (R.PE_ISSUE_CNT g e)).stepTake g e t
    match f w s with
    | .ok s => s.finish g e t pc
    | .jump s pc => s.setPc g e t pc
    | .stay s => s
    | .exc c => s.progExc g e t c

/-- The same, ending the Lantern step that it completes (R681). -/
def State.pyRun (s : State) (g e t : Nat) (is : Nat → Bool) (f : Nat → State → PyRes) : State :=
  (s.pyIssue g e t is f).stepCheck g e t

/-- A g register of a thread. -/
def State.gr (s : State) (g e t r : Nat) : Nat := (s.thr g e t).getG r

/-- Set a g register of a thread. -/
def State.setGr (s : State) (g e t r v : Nat) : State := s.updThr g e t (fun x => x.setG r v)

/-! Arithmetic (R273, R274) -/

/-- An instruction of OP 0x01: D from the old D, A and B. -/
def State.pyAlu (s : State) (g e t fn : Nat) (op : Nat → Nat → Nat → Nat) : State :=
  s.pyRun g e t (fun w => iOp w == 0x01 && iFn w == fn) (fun w s =>
    .ok (s.setGr g e t (iD w) (op (s.gr g e t (iD w)) (s.gr g e t (iA w)) (s.gr g e t (iB w)) % 2 ^ 64)))

/-- An instruction with a D and an A register and an immediate: D from the old D, A and the word. -/
def State.pyImm (s : State) (g e t opc : Nat) (op : Nat → Nat → Nat → Nat) : State :=
  s.pyRun g e t (fun w => iOp w == opc) (fun w s =>
    .ok (s.setGr g e t (iD w) (op (s.gr g e t (iD w)) (s.gr g e t (iA w)) w % 2 ^ 64)))

/-- Arithmetic shift right of 64 bits. -/
def sar64 (a n : Nat) : Nat := ((BitVec.ofNat 64 a).sshiftRight n).toNat

/-- Number of leading zero bits of 64. -/
def clz64 (a : Nat) : Nat := if a = 0 then 64 else 63 - Nat.log2 a

/-- Ones' complement sum with end-around carry. -/
def csum (d a : Nat) : Nat :=
  fold16 (d % 65536 + bitsOf a 0 16 + bitsOf a 16 16 + bitsOf a 32 16 + bitsOf a 48 16)

/-- IMM16 sign-extended to 64 bits (R261). -/
def imm64 (w : Nat) : Nat := ofSigned 64 (toSigned 16 (iImm w))

def execAdd (g e t : Nat) (s : State) : Out := .next (s.pyAlu g e t 0x00 (fun _ a b => a + b))
def execSub (g e t : Nat) (s : State) : Out := .next (s.pyAlu g e t 0x01 (fun _ a b => a + 2 ^ 64 - b))
def execAnd (g e t : Nat) (s : State) : Out := .next (s.pyAlu g e t 0x02 (fun _ a b => a &&& b))
def execOr (g e t : Nat) (s : State) : Out := .next (s.pyAlu g e t 0x03 (fun _ a b => a ||| b))
def execXor (g e t : Nat) (s : State) : Out := .next (s.pyAlu g e t 0x04 (fun _ a b => a ^^^ b))
def execShl (g e t : Nat) (s : State) : Out := .next (s.pyAlu g e t 0x05 (fun _ a b => a * 2 ^ (b % 64)))
def execShr (g e t : Nat) (s : State) : Out := .next (s.pyAlu g e t 0x06 (fun _ a b => a / 2 ^ (b % 64)))
def execSar (g e t : Nat) (s : State) : Out := .next (s.pyAlu g e t 0x07 (fun _ a b => sar64 a (b % 64)))
def execMul (g e t : Nat) (s : State) : Out := .next (s.pyAlu g e t 0x08 (fun _ a b => a * b))
def execMulhu (g e t : Nat) (s : State) : Out := .next (s.pyAlu g e t 0x09 (fun _ a b => a * b / 2 ^ 64))
def execMinu (g e t : Nat) (s : State) : Out := .next (s.pyAlu g e t 0x0A (fun _ a b => min a b))
def execMaxu (g e t : Nat) (s : State) : Out := .next (s.pyAlu g e t 0x0B (fun _ a b => max a b))
def execSltu (g e t : Nat) (s : State) : Out := .next (s.pyAlu g e t 0x0C (fun _ a b => b2n (decide (a < b))))
def execSlt (g e t : Nat) (s : State) : Out :=
  .next (s.pyAlu g e t 0x0D (fun _ a b => b2n (decide (toSigned 64 a < toSigned 64 b))))
def execSeq (g e t : Nat) (s : State) : Out := .next (s.pyAlu g e t 0x0E (fun _ a b => b2n (a == b)))
def execSel (g e t : Nat) (s : State) : Out := .next (s.pyAlu g e t 0x0F (fun d a b => if b = 0 then d else a))
def execBswap (g e t : Nat) (s : State) : Out := .next (s.pyAlu g e t 0x10 (fun _ a _ => leNat (beBytes a 8)))
def execClz (g e t : Nat) (s : State) : Out := .next (s.pyAlu g e t 0x11 (fun _ a _ => clz64 a))
def execCsum (g e t : Nat) (s : State) : Out := .next (s.pyAlu g e t 0x12 (fun d a _ => csum d a))
def execCrc (g e t : Nat) (s : State) : Out :=
  .next (s.pyAlu g e t 0x13 (fun d a _ => crcReg (d % 2 ^ 32) (leBytes a 8)))

def execAddi (g e t : Nat) (s : State) : Out := .next (s.pyImm g e t 0x02 (fun _ a w => a + imm64 w))
def execAndi (g e t : Nat) (s : State) : Out := .next (s.pyImm g e t 0x03 (fun _ a w => a &&& iImm w))
def execOri (g e t : Nat) (s : State) : Out := .next (s.pyImm g e t 0x04 (fun _ a w => a ||| iImm w))
def execXori (g e t : Nat) (s : State) : Out := .next (s.pyImm g e t 0x05 (fun _ a w => a ^^^ iImm w))
def execShli (g e t : Nat) (s : State) : Out := .next (s.pyImm g e t 0x06 (fun _ a w => a * 2 ^ (iImm w % 64)))
def execShri (g e t : Nat) (s : State) : Out := .next (s.pyImm g e t 0x07 (fun _ a w => a / 2 ^ (iImm w % 64)))
def execSari (g e t : Nat) (s : State) : Out := .next (s.pyImm g e t 0x08 (fun _ a w => sar64 a (iImm w % 64)))
def execInsi (g e t : Nat) (s : State) : Out := .next (s.pyImm g e t 0x09 (fun d _ w => putBits d (16 * iA w) 16 (iImm w)))
def execExtr (g e t : Nat) (s : State) : Out := .next (s.pyImm g e t 0x0A (fun _ a w => bitsOf a (iPos w) (iLen w)))
def execInsr (g e t : Nat) (s : State) : Out := .next (s.pyImm g e t 0x0B (fun d a w => putBits d (iPos w) (iLen w) a))

/-! Memory (R262-R266, R275) -/

/-- Natural alignment of an access of n bytes: the smallest power of two that holds it (log entry 31). -/
def alignOf (n : Nat) : Nat := if n ≤ 1 then 1 else if n ≤ 2 then 2 else if n ≤ 4 then 4 else 8

/-- Where an access reaches, or its exception: `true` for gallery memory, and the byte address (R219-R221, R262, R263,
R288). -/
def State.memRef (s : State) (g e t addr n : Nat) (store : Bool) : Except Nat (Bool × Nat) :=
  let inArea := fun (lo size : Nat) => decide (lo ≤ addr) && decide (addr + n ≤ lo + size)
  if inArea (s.bufAt g e t) 0x200 then (if s.noPacket g e t then .error 0x18 else .ok (false, dmemAt g e addr))
  else if inArea (0x2000 + t * 0x200) 0x200 || inArea 0x7000 0x1000
      || (!store && inArea (0x3000 + s.thrVer g e t % 4 * 0x1000) 0x1000) then .ok (false, dmemAt g e addr)
  else if inArea 0x1C0000 0x40000 then
    (if addr % alignOf n = 0 then .ok (true, gmemAt g (addr - 0x100000)) else .error 0x04)
  else .error 0x03

/-- A byte memory of an engine's loads and stores. -/
def State.memBytes (s : State) (r : Bool × Nat) (n : Nat) : List Byte :=
  Mem.bytes (if r.1 then s.eng.gmem else s.eng.dmem) r.2 n

/-- Store bytes. -/
def State.memPut (s : State) (r : Bool × Nat) (l : List Byte) : State :=
  if r.1 then { s with eng := { s.eng with gmem := Mem.putBytes s.eng.gmem r.2 l } }
  else { s with eng := { s.eng with dmem := Mem.putBytes s.eng.dmem r.2 l } }

/-- A result that returns later: the register is not available until LOAD_DATA_RETURN (R271). -/
def State.later (s : State) (g e t r v : Nat) : State :=
  if r = 0 then s else s.updThr g e t (fun x => { x with loads := x.loads ++ [(r, BitVec.ofNat 64 v)] })

/-- A load of n bytes. -/
def State.pyLoad (s : State) (g e t opc : Nat) (size : Nat → Nat) (off : Nat → Nat) (big : Bool) : State :=
  s.pyRun g e t (fun w => iOp w == opc) (fun w s =>
    let addr := (s.gr g e t (iA w) + off w) % 2 ^ 64
    match s.memRef g e t addr (size w) false with
    | .error c => .exc c
    | .ok r =>
      let l := s.memBytes r (size w)
      .ok (s.later g e t (iD w) (if big then beNat l else leNat l)))

/-- A store of n bytes. -/
def State.pyStore (s : State) (g e t opc : Nat) (size : Nat → Nat) (off : Nat → Nat) (big : Bool) : State :=
  s.pyRun g e t (fun w => iOp w == opc) (fun w s =>
    let addr := (s.gr g e t (iA w) + off w) % 2 ^ 64
    match s.memRef g e t addr (size w) true with
    | .error c => .exc c
    | .ok r =>
      let v := s.gr g e t (iD w)
      .ok (s.memPut r (if big then beBytes v (size w) else leBytes v (size w))))

/-- OFF13 sign-extended to 64 bits. -/
def off64 (w : Nat) : Nat := ofSigned 64 (iOff13 w)

def execLd64 (g e t : Nat) (s : State) : Out := .next (s.pyLoad g e t 0x10 (fun _ => 8) imm64 false)
def execLd32 (g e t : Nat) (s : State) : Out := .next (s.pyLoad g e t 0x11 (fun _ => 4) imm64 false)
def execLd16 (g e t : Nat) (s : State) : Out := .next (s.pyLoad g e t 0x12 (fun _ => 2) imm64 false)
def execLd8 (g e t : Nat) (s : State) : Out := .next (s.pyLoad g e t 0x13 (fun _ => 1) imm64 false)
def execSt64 (g e t : Nat) (s : State) : Out := .next (s.pyStore g e t 0x14 (fun _ => 8) imm64 false)
def execSt32 (g e t : Nat) (s : State) : Out := .next (s.pyStore g e t 0x15 (fun _ => 4) imm64 false)
def execSt16 (g e t : Nat) (s : State) : Out := .next (s.pyStore g e t 0x16 (fun _ => 2) imm64 false)
def execSt8 (g e t : Nat) (s : State) : Out := .next (s.pyStore g e t 0x17 (fun _ => 1) imm64 false)
def execLdbe (g e t : Nat) (s : State) : Out := .next (s.pyLoad g e t 0x18 (fun w => iN w) off64 true)
def execStbe (g e t : Nat) (s : State) : Out := .next (s.pyStore g e t 0x19 (fun w => iN w) off64 true)

/-- PLD: bytes of the packet as admitted (R266). -/
def execPld (g e t : Nat) (s : State) : Out :=
  .next (s.pyRun g e t (fun w => iOp w == 0x1A) (fun w s =>
    match (if s.noPacket g e t then none else (s.thr g e t).pkt) with
    | none => .exc 0x18
    | some p =>
      let a := (s.gr g e t (iA w) + off64 w) % 2 ^ 64
      if p.data.length < a + iN w then .exc 0x05
      else .ok (s.later g e t (iD w) (beNat ((p.data.drop a).take (iN w))))))

/-- A shared register's indivisible exchange: D gets the old value, the register a new one (R257, R269). -/
def State.pyShared (s : State) (g e t opc : Nat) (f : Nat → Nat → Nat) : State :=
  s.pyRun g e t (fun w => iOp w == opc) (fun w s =>
    let x := s.engn g e
    let old := (Map.get x.shared 0 (iFn w % 16)).toNat
    let new := f old (s.gr g e t (iA w))
    .ok ((s.setEngn g e { x with shared := Map.set x.shared 0 (iFn w % 16) (BitVec.ofNat 64 new) }).setGr g e t (iD w) old))

def execSxadd (g e t : Nat) (s : State) : Out := .next (s.pyShared g e t 0x1B (fun o a => o + a))
def execSxchg (g e t : Nat) (s : State) : Out := .next (s.pyShared g e t 0x1C (fun _ a => a))

/-! Flow table and counters (R276) -/

/-- All ones. -/
abbrev ones64 : Nat := 0xFFFFFFFFFFFFFFFF

/-- Bytes of engine data memory that a flow instruction names. -/
def State.flowRef (s : State) (g e t w n : Nat) : Except Nat (List Byte) :=
  match s.memRef g e t ((s.gr g e t (iA w) + imm64 w) % 2 ^ 64) n false with
  | .ok (false, a) => .ok (s.memBytes (false, a) n)
  | .ok (true, _) => .error 0x03
  | .error c => .error (if c = 0x04 then 0x03 else c)

/-- FLOOK. -/
def execFlook (g e t : Nat) (s : State) : Out :=
  .next (s.pyRun g e t (fun w => iOp w == 0x30) (fun w s =>
    match s.flowRef g e t w 56 with
    | .error c => .exc c
    | .ok key =>
      match s.flowFind key with
      | some i => .ok ((s.cacheFill key i).later g e t (iD w) i)
      | none => .ok (s.later g e t (iD w) ones64)))

/-- FINS: when both candidates are free, which one is taken is free (log entry 32). -/
def execFins (g e t : Nat) (s : State) : Out :=
  .next (s.pyRun g e t (fun w => iOp w == 0x31) (fun w s =>
    match s.flowRef g e t w 128 with
    | .error c => .exc c
    | .ok l =>
      let key := (l.drop 8).take 56
      match s.flowFind key with
      | some i => .ok (s.later g e t (iD w) (i + 2 ^ 63))
      | none =>
        let c := flowCands key
        let free := fun (i : Nat) => !(s.flow i).valid && !s.path.retiredPlaces.contains (257, i)
        let f1 := free c.1
        let f2 := free c.2
        if !f1 && !f2 then .ok (s.later g e t (iD w) ones64)
        else
          let (n, s) := if f1 && f2 && c.1 != c.2 then s.fresh else (b2n (!f1), s)
          let i := if n % 2 = 0 then c.1 else c.2
          let x : FlowEntry := { valid := true, key := key, action := leAt l 64 32, pkts := 0, bytes := 0,
                                 lastDrip := s.fst.drip, progState := leAt l 120 8 }
          .ok ((s.setFlow i x).later g e t (iD w) i)))

/-- FDEL. -/
def execFdel (g e t : Nat) (s : State) : Out :=
  .next (s.pyRun g e t (fun w => iOp w == 0x32) (fun w s =>
    match s.flowRef g e t w 56 with
    | .error c => .exc c
    | .ok key =>
      match s.flowFind key with
      | some i => .ok (((s.setFlow i {}).cacheDrop key i).later g e t (iD w) i)
      | none => .ok (s.later g e t (iD w) ones64)))

/-- A flow entry in its 128-byte form (R174). -/
def FlowEntry.toBytes (x : FlowEntry) : List Byte :=
  leBytes (b2n x.valid) 8 ++ padTo 56 x.key ++ leBytes x.action 32 ++ leBytes x.pkts 8 ++ leBytes x.bytes 8
    ++ leBytes x.lastDrip 8 ++ leBytes x.progState 8

/-- FLD. -/
def execFld (g e t : Nat) (s : State) : Out :=
  .next (s.pyRun g e t (fun w => iOp w == 0x33) (fun w s =>
    let i := s.gr g e t (iA w)
    if 33554432 ≤ i then .exc 0x13
    else .ok (s.later g e t (iD w) (leAt (s.flow i).toBytes (8 * (iFn w % 16)) 8))))

/-- FSTS. -/
def execFsts (g e t : Nat) (s : State) : Out :=
  .next (s.pyRun g e t (fun w => iOp w == 0x34) (fun w s =>
    let i := s.gr g e t (iA w)
    if 33554432 ≤ i then .exc 0x13
    else .ok (s.setFlow i { s.flow i with progState := s.gr g e t (iB w) })))

/-- CTRADD. -/
def execCtradd (g e t : Nat) (s : State) : Out :=
  .next (s.pyRun g e t (fun w => iOp w == 0x35) (fun w s =>
    let i := s.gr g e t (iA w)
    if 33554432 ≤ i then .exc 0x13
    else if !s.path.ctrAllocated i then .exc 0x14
    else .ok (s.ctrAdd i (s.gr g e t (iB w)))))

/-! Control flow (R277, R284, R285) -/

/-- A branch. -/
def State.pyBranch (s : State) (g e t opc : Nat) (c : Nat → Nat → Bool) : State :=
  s.pyRun g e t (fun w => iOp w == opc) (fun w s =>
    if c (s.gr g e t (iBA w)) (s.gr g e t (iBB w)) then .jump s (s.pc g e t + 4 * iOff16 w) else .ok s)

def execBeq (g e t : Nat) (s : State) : Out := .next (s.pyBranch g e t 0x20 (fun a b => a == b))
def execBne (g e t : Nat) (s : State) : Out := .next (s.pyBranch g e t 0x21 (fun a b => a != b))
def execBltu (g e t : Nat) (s : State) : Out := .next (s.pyBranch g e t 0x22 (fun a b => decide (a < b)))
def execBgeu (g e t : Nat) (s : State) : Out := .next (s.pyBranch g e t 0x23 (fun a b => decide (b ≤ a)))

/-- Byte PC of a word index in the slot a PC lies in. -/
def slotPc (pc idx : Nat) : Nat := pc / 0x2000 * 0x2000 + 4 * idx

def execJmp (g e t : Nat) (s : State) : Out :=
  .next (s.pyRun g e t (fun w => iOp w == 0x24) (fun w s => .jump s (slotPc (s.pc g e t) (iTarget w))))

def execCall (g e t : Nat) (s : State) : Out :=
  .next (s.pyRun g e t (fun w => iOp w == 0x25) (fun w s =>
    let pc := s.pc g e t
    if 4 ≤ (s.thr g e t).rets.length then .exc 0x10
    else .jump (s.updThr g e t (fun x => { x with rets := (pc + 4) :: x.rets })) (slotPc pc (iTarget w))))

def execRet (g e t : Nat) (s : State) : Out :=
  .next (s.pyRun g e t (fun w => iOp w == 0x26) (fun _ s =>
    match (s.thr g e t).rets with
    | [] => .exc 0x10
    | pc :: r => .jump (s.updThr g e t (fun x => { x with rets := r })) pc))

def execLoop (g e t : Nat) (s : State) : Out :=
  .next (s.pyRun g e t (fun w => iOp w == 0x27) (fun w s =>
    let pc := s.pc g e t
    let n := if iBA w = 0 then iMax w else s.gr g e t (iBA w)
    let last := pc + 4 * iLoopLen w
    if iMax w < n then .exc 0x0F
    else if 4 ≤ (s.thr g e t).loops.length then .exc 0x10
    else if n = 0 then .stay (s.finish g e t last)
    else .jump (s.updThr g e t (fun x => { x with loops := { first := pc + 4, last := last, left := n } :: x.loops })) (pc + 4)))

def execBrknz (g e t : Nat) (s : State) : Out :=
  .next (s.pyRun g e t (fun w => iOp w == 0x28) (fun w s =>
    if s.gr g e t (iBA w) = 0 then .ok s
    else match (s.thr g e t).loops with
      | [] => .ok s
      | f :: r => .stay ((s.updThr g e t (fun x => { x with loops := r })).finish g e t f.last)))

/-! Events, sumps, locks (R278) -/

def execSignal (g e t : Nat) (s : State) : Out :=
  .next (s.pyRun g e t (fun w => iOp w == 0x29) (fun w s =>
    let m := s.gr g e t (iA w) % 2 ^ 24
    match (if iFn w % 32 = 31 then some e else s.engAt g (iFn w % 32)) with
    | some x => .ok (s.setEvents g x m)
    | none => .ok s))

def execWait (g e t : Nat) (s : State) : Out :=
  .next (s.pyRun g e t (fun w => iOp w == 0x2A) (fun w s =>
    let m := s.gr g e t (iA w) % 2 ^ 25
    let hit := s.events g e &&& m
    let cons := iFn w % 2 == 1
    if (s.thr g e t).lock.isSome then .exc 0x0B
    else if m = 0 then .exc 0x11
    else if hit ≠ 0 then
      .ok ((if cons then s.clearEvents g e hit else s).setGr g e t (iD w) hit)
    else .stay ((s.updThr g e t (fun x => { x with waitMask := m, waitCons := cons, waitDest := iD w })).waitOn g e t 1)))

def execClrev (g e t : Nat) (s : State) : Out :=
  .next (s.pyRun g e t (fun w => iOp w == 0x2B) (fun w s => .ok (s.clearEvents g e (s.gr g e t (iA w) % 2 ^ 25))))

/-- SPUT (R228, R230, R231). -/
def execSput (g e t : Nat) (s : State) : Out :=
  .next (s.pyRun g e t (fun w => iOp w == 0x2C) (fun w s =>
    let u := unitThread g e t
    let tag := iTag w
    let data := s.gr g e t (iA w)
    match sumpKey g (iSid w) with
    | none => .exc 0x06
    | some k =>
      let mine := !(s.rdB (sProd k) && s.rd (sProducer k) != u)
      if mine ∧ tag ≠ 2 ∧ 511 ≤ s.sumpPartial k + 1 then .exc 0x07
      else if tag = 0 ∨ tag = 3 then .exc 0x08
      else if s.putWaits k u then
        (if (s.thr g e t).lock.isSome then .exc 0x0B
         else .stay ((s.updThr g e t (fun x => { x with sump := some { put := true, sump := k, data := data, tag := tag } })).waitOn
           g e t 2))
      else .ok (s.sumpStore k u data tag)))

/-- SGET (R229, R232). -/
def execSget (g e t : Nat) (s : State) : Out :=
  .next (s.pyRun g e t (fun w => iOp w == 0x2D) (fun w s =>
    let u := unitThread g e t
    match sumpKey g (iSid w) with
    | none => .exc 0x06
    | some k =>
      if s.getWaits k u then
        if iNb w = 1 then .ok (s.getResult g e t (iD w) (iA w) 0 0)
        else if (s.thr g e t).lock.isSome then .exc 0x0B
        else .stay ((s.updThr g e t (fun x => { x with sump := some { put := false, sump := k, d := iD w, a := iA w } })).waitOn
          g e t 2)
      else
        let (data, tag, s) := s.sumpTake k u
        .ok (s.getResult g e t (iD w) (iA w) data tag)))

/-- The core cycle of a lock request. -/
def Flow.stamp (f : Flow) : Nat := f.drip * 1024 + f.cycle

def execLock (g e t : Nat) (s : State) : Out :=
  .next (s.pyRun g e t (fun w => iOp w == 0x2E) (fun w s =>
    let n := iImm w % 64
    let u := unitThread g e t
    let x := s.gal g
    if (s.thr g e t).lock.isSome then .exc 0x0A
    else if s.lockHeld g n = false ∧ (Map.get x.lockWait [] n).isEmpty then
      .ok ((s.lockTake g n u).updThr g e t (fun y => { y with lock := some n }))
    else
      let s := s.setGal g { x with lockWait := Map.upd x.lockWait [] n (fun l => l ++ [{ unit := u, stamp := s.fst.stamp }]) }
      .stay ((s.updThr g e t (fun y => { y with lockAsk := some n })).waitOn g e t 3)))

def execUnlock (g e t : Nat) (s : State) : Out :=
  .next (s.pyRun g e t (fun w => iOp w == 0x2F) (fun _ s =>
    match (s.thr g e t).lock with
    | none => .exc 0x0D
    | some n => .ok ((s.lockFree g n).updThr g e t (fun y => { y with lock := none }))))

/-! Endings (R265, R279) -/

/-- Free bytes (log entry 5). -/
def State.freshBytes (s : State) : Nat → List Byte × State
  | 0 => ([], s)
  | n + 1 =>
    let (v, s) := s.fresh
    let (l, s) := State.freshBytes s n
    (BitVec.ofNat 8 v :: l, s)

/-- The packet as the dispatcher takes it from the working buffer: metadata bits [511:256], HDR_START and HDR_END, and the
header bytes; bytes beyond the header area, which PUNT and DROP do not exclude, are free. -/
def State.takeEnd (s : State) (g e t : Nat) (p : Pkt) : Pkt × State :=
  let b := dmemAt g e (s.bufAt g e t)
  let hi := Mem.le s.eng.dmem (b + 32) 32
  let h := Mem.le s.eng.dmem (b + 0x58) 8
  let hs := bitsOf h 0 9
  let he := bitsOf h 9 9
  let (x, s) := s.freshBytes (he - max hs 384)
  let l := Mem.bytes s.eng.dmem (b + 128 + hs) (min he 384 - hs)
  ({ p with md := BitVec.ofNat 512 (p.md.toNat % 2 ^ 256 + hi * 2 ^ 256), hdrStart := hs, hdrEnd := he, header := l ++ x }, s)

/-- END with a function code: the packet goes to the dispatcher and the thread is IDLE (R208, R279). -/
def State.pyEnd (s : State) (g e t fn : Nat) : State :=
  s.pyRun g e t (fun w => iOp w == 0x38 && iFn w == fn) (fun _ s =>
    let u := unitThread g e t
    let th := s.thr g e t
    let h := Mem.le s.eng.dmem (dmemAt g e (s.bufAt g e t) + 0x58) 8
    if th.lock.isSome then .exc 0x0E
    else if !(s.sumpClaims u true).isEmpty || !(s.sumpClaims u false).isEmpty then .exc 0x09
    else
      match (if s.noPacket g e t then none else th.pkt) with
      | none => .exc 0x18
      | some p =>
        if fn ≤ 1 ∧ (bitsOf h 9 9 < bitsOf h 0 9 ∨ 384 < bitsOf h 9 9) then .exc 0x12
        else
          let (q, s) := s.takeEnd g e t p
          let s := (s.dropRun g e t).updThr g e t (fun x => { x with loops := [], rets := [] })
          let s := (s.setTs g e t tIdle).stat (R.PE_PKT_CNT g e)
          if th.gone then .stay s
          else .stay (s.setGal g { s.gal g with ended := (s.gal g).ended ++ [{ pkt := q, ending := fn, unit := unitThread g e t }] }))

def execEndHandoff (g e t : Nat) (s : State) : Out := .next (s.pyEnd g e t 0)
def execEndRecirc (g e t : Nat) (s : State) : Out := .next (s.pyEnd g e t 1)
def execEndPunt (g e t : Nat) (s : State) : Out := .next (s.pyEnd g e t 2)
def execEndDrop (g e t : Nat) (s : State) : Out := .next (s.pyEnd g e t 3)

/-! Special registers and thread control (R280, R281) -/

/-- The PRIO special register. -/
def State.prioReg (s : State) (g e : Nat) : Nat :=
  ((List.range 8).map (fun t => s.rd (F.PE_THREAD_PRIO g e t) * 2 ^ (2 * t))).sum

/-- A special register's value; none for an unlisted number. Values that depend on a packet are free without one, as RAND
always is (log entry 5). -/
def State.special (s : State) (g e t n : Nat) : Option (Nat × State) :=
  let th := s.thr g e t
  let p := if s.noPacket g e t then none else th.pkt
  let ofPkt := fun (f : Pkt → Nat) => match p with
    | some q => some (f q, s)
    | none => some s.fresh
  if n = 0x00 then some (unitThread g e t, s)
  else if n = 0x01 then some (s.rd (F.PE_STATUS_POS g e), s)
  else if n = 0x02 then some (s.bufAt g e t, s)
  else if n = 0x03 then some (s.thrVer g e t, s)
  else if n = 0x04 then some (s.fst.drip, s)
  else if n = 0x05 then some (s.fst.cycle, s)
  else if n = 0x06 then some (s.fst.nowNs, s)
  else if n = 0x07 then some (s.fst.frac16, s)
  else if n = 0x08 then ofPkt (·.deadline)
  else if n = 0x09 then ofPkt (·.attempt)
  else if n = 0x0A then some ((th.loops.head?.map (·.left)).getD 0, s)
  else if n = 0x0B then some (s.events g e, s)
  else if n = 0x0C then some s.fresh
  else if n = 0x0D then some (s.prioReg g e, s)
  else if n = 0x0E then some (s.rd (F.PE_EVT_INTERNAL_INTERNAL g e), s)
  else if n = 0x0F then some (th.supCause, s)
  else if n = 0x10 then some ((match th.lock with | some k => 64 + k | none => 0), s)
  else none

def execMfsr (g e t : Nat) (s : State) : Out :=
  .next (s.pyRun g e t (fun w => iOp w == 0x3C) (fun w s =>
    match s.special g e t (iImm w % 256) with
    | some (v, s) => .ok (s.setGr g e t (iD w) (v % 2 ^ 64))
    | none => .exc 0x02))

def execMtsr (g e t : Nat) (s : State) : Out :=
  .next (s.pyRun g e t (fun w => iOp w == 0x3D) (fun w s =>
    let v := s.gr g e t (iA w)
    let n := iImm w % 256
    if t ≠ 0 then .exc 0x02
    else if n = 0x0D then .ok (s.each (List.range 8) (fun y u => y.wr (F.PE_THREAD_PRIO g e u) (v / 2 ^ (2 * u) % 4)))
    else if n = 0x0E then .ok (s.wr (F.PE_EVT_INTERNAL_INTERNAL g e) v)
    else .exc 0x02))

/-- A thread-control instruction, permitted to thread 0 alone. -/
def State.pyThr (s : State) (g e t fn : Nat) (f : Nat → State → PyRes) : State :=
  s.pyRun g e t (fun w => iOp w == 0x3E && iFn w == fn) (fun w s => if t ≠ 0 then .exc 0x02 else f w s)

def execGetg (g e t : Nat) (s : State) : Out :=
  .next (s.pyThr g e t 0 (fun w s => .ok (s.setGr g e t (iD w) (s.gr g e (iT w) (iB w)))))

def execPutg (g e t : Nat) (s : State) : Out :=
  .next (s.pyThr g e t 1 (fun w s =>
    if s.ts g e (iT w) = tHeld ∨ s.ts g e (iT w) = tFaulted then
      .ok (s.setGr g e (iT w) (iD w) (s.gr g e t (iA w)))
    else .exc 0x15))

/-- RELEASE: bit 0 takes thread 0 out of its start program (R209, R280). -/
def execRelease (g e t : Nat) (s : State) : Out :=
  .next (s.pyThr g e t 2 (fun w s =>
    let m := s.gr g e t (iA w)
    let s := s.each (List.range 8) (fun y u => if bitOf m u ∧ y.ts g e u = tHeld then y.setTs g e u tIdle else y)
    if bitOf m 0 ∧ (s.thr g e t).starting then
      let s := s.finish g e t (s.pc g e t)
      .stay ((s.updThr g e t (fun x => { x with starting := false, loops := [], rets := [] })).setTs g e t tIdle)
    else .ok s))

def execRestart (g e t : Nat) (s : State) : Out :=
  .next (s.pyThr g e t 3 (fun w s =>
    let u := iT w
    if s.ts g e u = tFaulted then
      let s := (s.setTs g e u tIdle).wr (F.PE_FAULT_VALID g e u) 0
      .ok (s.updThr g e u (fun x => { x with loops := [], rets := [] }))
    else .exc 0x15))

/-- RETS: PC, both stacks and the state before SUPERVISOR are restored (R208, R285). -/
def execRets (g e t : Nat) (s : State) : Out :=
  .next (s.pyThr g e t 4 (fun _ s =>
    if s.rdB (F.PE_SUP_SUP_ACTIVE g e) then
      let th := s.thr g e t
      let back : Thread := { th with
        loops := th.savedLoops, rets := th.savedRets, savedLoops := [], savedRets := [], beforeWait := th.savedFrom,
        waitMask := th.savedMask, waitCons := th.savedCons, waitDest := th.savedDest, sump := th.savedSump, savedSump := none }
      let s := s.setThr g e t back
      let s := ((s.wr (F.PE_SUP_SUP_ACTIVE g e) 0).setPc g e t th.savedPc).setTs g e t th.before
      .stay (s.wr (F.PE_THREAD_WAIT_KIND g e t) (if th.before = tWaiting then th.savedKind else 0))
    else .exc 0x02))

/-- Halt an engine: its threads become HALTED, it leaves dispatch (R208, R678). -/
def State.haltEngine (s : State) (g e : Nat) : State :=
  let s := s.each (List.range 8) (fun y t => y.haltThr g e t)
  let s := s.setEngn g e { s.engn g e with resuming := false }
  if s.rd (F.PE_STATUS_STATE g e) = 3 then s
  else (s.wr F.LNT_STATUS_HALTED (s.rd F.LNT_STATUS_HALTED + 1)).wr (F.PE_STATUS_STATE g e) 3

/-- BKPT: halts the engine past itself when breakpoints are armed, else the exception (R280). -/
def execBkpt (g e t : Nat) (s : State) : Out :=
  .next (s.pyRun g e t (fun w => iOp w == 0x3F) (fun _ s =>
    if (s.engn g e).armed then .stay ((s.finish g e t (s.pc g e t)).haltEngine g e) else .exc 0x17))

end Sys2Proof.Machine
end

