-- ==== Sys2Proof/Machine/Budget.lean ====
section
/-! DEFINITION. Machine/Budget.lean: admission against the drip budget (R291-R300), deadlines and their policies (R306-R310),
hardware faults of engines, the engine check and the spare (R311-R318). -/

namespace Sys2Proof.Machine

open Sys2Proof

set_option cleanup.letToHave false

/-! Admission -/

/-- Engines that serve a gallery: n of R291. -/
def State.serving (s : State) (g : Nat) : Nat :=
  ((List.range 17).filter (fun e => s.rd (F.PE_STATUS_STATE g e) == 0 && decide (s.rd (F.PE_STATUS_POS g e) < 16))).length

/-- The budget of a gallery (R291). -/
def State.budget (s : State) (g : Nat) : Nat := 1024 * s.serving g - s.rd (F.DSP_BUDGET_CFG_MARGIN g)

/-- The function whose generation a packet records (R224): DEST_FUNC before SRC_FUNC where both are functions (log entry 33). -/
def genFuncOf (p : Pkt) : Option Nat :=
  if p.g Md.destKind = 1 then some (p.g Md.destFunc) else if p.g Md.srcKind = 1 then some (p.g Md.srcFunc) else none

/-- The directory entry of a packet's chain in its version (R292). -/
def State.chainOf (s : State) (p : Pkt) : Nat := ((s.ver (p.g Md.version)).chain (p.g Md.chainId)).getD 0

/-- R298: too late to be admitted in drip x. -/
def State.lateFor (s : State) (p : Pkt) (x : Nat) : Bool :=
  decide ((p.deadline + 1 - x) * 512 < dirCycles (s.chainOf p) + 64)

/-- Admission's running values: state, pool, what is left of each reservation, admitted, owners blocked in the pass, packets
left in the queue, and whether admission has ended. -/
structure Adm where
  s : State
  pool : Nat
  res : Map Nat
  used : Map Nat
  count : Nat
  blocked : List (Option Nat)
  left : List Pkt
  stop : Bool

/-- Admit one packet: its context's fields (R223, R224), its place in the order of its domain, a context queue. -/
def State.admitOne (s : State) (g : Nat) (p : Pkt) : State :=
  let hs := 64 * s.rd (F.DSP_CFG_HEADROOM g)
  let c := min p.data.length (384 - hs)
  let f := genFuncOf p
  let x := s.gal g
  let dom := p.steerHash % 256
  let seq := Map.get x.orderSeq 0 dom
  let p := { p with admitDrip := s.fst.drip, payloadOff := c, hdrStart := hs, hdrEnd := hs + c, attempt := 0, corr := 0,
                    lead := false, late := false, header := [],
                    genFunc := f.getD 0, gen := match f with | some n => (s.func n).gen | none => 0,
                    orderSeq := seq, ordered := bitOf (s.rd (F.DSP_ORDER_MASK_ORDERED g)) (p.g Md.flowClass) }
  let s := s.setGal g { x with orderSeq := Map.set x.orderSeq 0 dom ((seq + 1) % 65536) }
  (s.stat (R.DSP_ADMIT_CNT g)).place g p

/-- One packet of one pass of R297. -/
def admitStep (g x pass : Nat) (a : Adm) (p : Pkt) : Adm :=
  if a.stop then { a with left := a.left ++ [p] }
  else if a.count = 64 ∨ ¬ (a.s.gal g).stalled.isEmpty ∨ (a.s.chooser g).isNone then
    { a with stop := true, left := a.left ++ [p] }
  else if a.s.lateFor p x then { a with s := (a.s.stat (R.DSP_NO_BUDGET_CNT g)).pktGone p }
  else
    let o := genFuncOf p
    if a.blocked.contains o then { a with left := a.left ++ [p] }
    else
      let b := dirSlots (a.s.chainOf p)
      let r := match o with | some f => Map.get a.res 0 f | none => 0
      if pass = 0 ∧ o.isSome ∧ b ≤ r then
        let f := o.getD 0
        { a with s := a.s.admitOne g p, res := Map.set a.res 0 f (r - b), used := Map.upd a.used 0 f (· + b), count := a.count + 1 }
      else if b ≤ a.pool then { a with s := a.s.admitOne g p, pool := a.pool - b, count := a.count + 1 }
      else { a with blocked := o :: a.blocked, left := a.left ++ [p] }

/-- Sum of a store's values. -/
def mapSum (m : Map Nat) : Nat := (m.map (·.2)).sum

/-- Admission of a gallery in the current drip (R297, R299). -/
def State.admitDrip (s : State) (g : Nat) : State :=
  let x := s.fst.drip
  let b := s.budget g
  let s := s.drain g
  let res := Map.mapVals s.eng.shares 0 (fun _ v => shareSlots v b)
  let q := (s.gal g).input
  let a0 : Adm := { s := s.setGal g { s.gal g with input := [] }, pool := b - mapSum res, res := res, used := [], count := 0,
                    blocked := [], left := [], stop := false }
  let a1 := q.foldl (admitStep g x 0) a0
  let a2 := if a1.stop then a1 else a1.left.foldl (admitStep g x 1)
    { a1 with pool := a1.pool + mapSum a1.res, res := [], blocked := [], left := [] }
  let s := a2.s.setGal g { a2.s.gal g with input := a2.left ++ (a2.s.gal g).input, shareUsed := a2.used }
  (((s.wr (F.DSP_BUDGET_STATUS_BUDGET g) b).wr (F.DSP_BUDGET_STATUS_POOL_LEFT g) a2.pool).wr
    (F.DSP_BUDGET_STATUS_ADMITTED g) a2.count).wr (F.DSP_BUDGET_STATUS_SERVING g) (s.serving g)

/-- Packets that entered an input queue before this boundary take their entry drip and DEADLINE_DRIP (R294); after a
drip-number reload every recorded deadline has moved by the change (R83). -/
def State.enterDrip (s : State) (g : Nat) : State :=
  let x := s.gal g
  s.setGal g { x with input := x.input.map (fun p => match p.entry with
    | some _ => p
    | none => { p with entry := some s.fst.drip, deadline := s.fst.drip + p.g Md.allow }) }

/-- Add the change of the drip number to every recorded deadline of a gallery (R83). -/
def State.shiftDeadlines (s : State) (g : Nat) (move : Nat → Nat) : State :=
  let f := fun (p : Pkt) => { p with deadline := move p.deadline }
  let x := s.gal g
  let s := s.setGal g { x with input := x.input.map (fun p => if p.entry.isSome then f p else p), stalled := x.stalled.map f,
                               ended := x.ended.map (fun y => { y with pkt := f y.pkt }) }
  let s := s.each (s.galThreads g) (fun t y => t.updThr g y.1 y.2.1 (fun z => { z with ctxs := z.ctxs.map f }))
  s.each (s.ctxPkts g) (fun t p => t.writeDeadline g p)

/-! Deadlines -/

/-- Whether a packet's DEADLINE_DRIP, and `grace` drips after it, have ended, the last cycle counted in. -/
def State.overdue (s : State) (p : Pkt) (grace : Nat) : Bool :=
  decide (p.deadline + grace < s.fst.drip) || (p.deadline + grace == s.fst.drip && decide (s.fst.len ≤ s.fst.cycle + 1))

/-- Where an admitted packet is. -/
inductive Where where
  | thread (e t : Nat) (running : Bool)
  | stalled
  | ended (unit : Nat)
  deriving DecidableEq, Repr

/-- An admitted packet of a gallery that has not met its policy; an ended one counts while it waits for order (R306). -/
def State.admitted (s : State) (g id : Nat) : Option (Pkt × Where) :=
  match (s.galThreads g).findSome? (fun x => (x.2.2.live.find? (fun p => p.id == id)).map (fun p => (x, p))) with
  | some (x, p) => some (p, .thread x.1 x.2.1 (x.2.2.running && (x.2.2.ctxs.head?.map (·.id)) == some id))
  | none =>
    match (s.gal g).stalled.find? (fun p => p.id == id) with
    | some p => some (p, .stalled)
    | none => ((s.gal g).ended.find? (fun y => y.pkt.id == id && y.waited)).map (fun y => (y.pkt, .ended y.unit))

/-- Change an admitted packet in place. -/
def State.updAdmitted (s : State) (g id : Nat) (w : Where) (f : Pkt → Pkt) : State :=
  let on := fun (p : Pkt) => if p.id = id then f p else p
  let x := s.gal g
  match w with
  | .thread e t _ => s.updThr g e t (fun y => { y with ctxs := y.ctxs.map on })
  | .stalled => s.setGal g { x with stalled := x.stalled.map on }
  | .ended _ => s.setGal g { x with ended := x.ended.map (fun y => { y with pkt := on y.pkt }) }

/-- Take an admitted packet out of the gallery; a thread that runs it is stopped (R208). -/
def State.takeOut (s : State) (g id : Nat) (w : Where) : State :=
  let x := s.gal g
  match w with
  | .thread e t true => s.stopRun g e t
  | .thread e t false => s.updThr g e t (fun y => { y with ctxs := y.ctxs.filter (fun p => p.id != id) })
  | .stalled => s.setGal g { x with stalled := x.stalled.filter (fun p => p.id != id) }
  | .ended _ => s.setGal g { x with ended := x.ended.filter (fun y => y.pkt.id != id) }

/-- The unit a deadline fault names: the thread of a packet that has started, else the dispatcher (R307). -/
def Where.unit (g : Nat) : Where → Nat
  | .thread e t true => unitThread g e t
  | .ended u => u
  | _ => unitOf 0x00 g

/-- DEADLINE_FAULT: counted, recorded, and ON_DEADLINE of the flow class (R306, R307). -/
def execDeadlineFault (g id : Nat) (s : State) : Out :=
  match s.admitted g id with
  | none => .next s
  | some (p, w) =>
    if p.late ∨ ¬ s.overdue p 0 then .next s
    else
      let pol := s.policyOf p
      let od := bitsOf pol 0 2
      let s := (s.err (R.DSP_DEADLINE_CNT g)).retryDone g p 2
      let s := s.fault { cls := 0x09, cause := od, unit := w.unit g, corr := p.corr, snapshot := s.cnt (R.DSP_DEADLINE_CNT g),
                         upper := 5, detail := p.g Md.chainId + p.g Md.flowClass * 2 ^ 12 + p.g Md.version * 2 ^ 18 }
      if od = 1 then .next (s.updAdmitted g id w (fun q => { q with late := true }))
      else
        let s := s.takeOut g id w
        .next ((if od = 2 then s.slowPath g p else s.pktGone p).drain g)

/-- GRACE_EXPIRY: a LATE packet whose grace has ended is stopped, dropped and counted again (R308). -/
def execGraceExpiry (g id : Nat) (s : State) : Out :=
  match s.admitted g id with
  | none => .next s
  | some (p, w) =>
    if p.late ∧ s.overdue p (bitsOf (s.policyOf p) 4 4) then
      .next ((((s.takeOut g id w).err (R.DSP_DEADLINE_CNT g)).pktGone p).drain g)
    else .next s

/-- INPUT_QUEUE_EXPIRY: a packet still in the input queue when its DEADLINE_DRIP ends is dropped and counted (R298). -/
def execInputQueueExpiry (g id : Nat) (s : State) : Out :=
  let x := s.gal g
  match x.input.find? (fun p => p.id == id && p.entry.isSome) with
  | none => .next s
  | some p =>
    if s.overdue p 0 then
      let s := s.setGal g { x with input := x.input.filter (fun q => q.id != id) }
      .next ((s.stat (R.DSP_NO_BUDGET_CNT g)).pktGone p)
    else .next s

/-! Hardware faults of engines -/

/-- A drip boundary: the first or the last cycle of a drip, as a command beside DRIP_BOUNDARY sees it. -/
def Flow.atEdge (f : Flow) : Bool := f.cycle == 0 || decide (f.len ≤ f.cycle + 1)

/-- Stop a thread beside the faulting one; a thread that is IDLE, HELD or FAULTED is not changed (R208, R311). -/
def State.stopBeside (s : State) (g e t : Nat) : State :=
  let st := s.ts g e t
  if st = tRunnable ∨ st = tWaiting ∨ st = tSupervisor then
    let s := if t = 0 then s.wr (F.PE_SUP_SUP_ACTIVE g e) 0 else s
    let s := s.stopThr g e t
    s.updThr g e t (fun x => { x with starting := false })
  else s

/-- The packets of an engine, the running ones first, each with whether it was running. -/
def State.enginePkts (s : State) (g e : Nat) : List (Pkt × Bool) :=
  ((List.range 8).filterMap (fun t => (s.thr g e t).livePkt.map (fun p => (p, true))))
    ++ ((List.range 8).flatMap (fun t =>
      let th := s.thr g e t
      (if th.running then th.ctxs.drop 1 else th.ctxs).map (fun p => (p, false))))

/-- ENGINE_HW_FAULT: the thread faults, its engine leaves dispatch with its other threads stopped, and its packets move to
other engines, those that ran with ATTEMPT 1; a second attempt, or one in the last cycle of its DEADLINE_DRIP, goes to
ON_FAULT (R309, R311, R315). -/
def execEngineHwFault (g e t cause : Nat) (s : State) : Out :=
  let st := s.rd (F.PE_STATUS_STATE g e)
  if st ≤ 1 ∧ (cause = 0xF0 ∨ cause = 0xF1 ∨ cause = 0xF2 ∨ cause = 0xF4) then
    let pc := s.pc g e t
    let fp := (s.thr g e t).livePkt
    let pkts := s.enginePkts g e
    let (corr, s) := s.newCorr
    let s := s.thrFault g e t cause
    let s := s.each ((List.range 8).filter (fun u => u != t)) (fun y u => y.stopBeside g e u)
    let s := s.each (List.range 8) (fun y u => y.updThr g e u (fun x => { x with ctxs := [], running := false, gone := false }))
    let s := s.wr (F.PE_STATUS_STATE g e) 4
    let isOver := match fp with
      | some p => decide (p.attempt ≠ 0) || s.overdue p 0
      | none => false
    let fid := fp.map (·.id)
    let moved := pkts.filter (fun x => !(isOver && some x.1.id == fid))
    let h : HwFault := { eng := e, thread := t, cause := cause, pc := pc, corr := corr, drip := s.fst.drip,
                         aligned := s.rdB F.FST_STATUS_ALIGNED, moved := moved.length,
                         lower := if isOver then some 3 else if fp.isNone then some 0 else none }
    let s := s.setGal g { s.gal g with hws := (s.gal g).hws ++ [h] }
    let s := match fp with
      | some p => if isOver then (s.retryDone g p 2).onFault g p else s
      | none => s
    .next (s.each moved (fun y x =>
      if x.2 then
        (y.stat (R.DSP_REEXEC_CNT g)).place g { x.1 with attempt := 1, corr := corr, lead := some x.1.id == fid }
      else y.place g x.1))
  else .next s

/-- Packets whose contexts lie in a gallery memory line: they go to ON_FAULT (R639). -/
def State.ctxLost (s : State) (g c : Nat) : State :=
  s.each ((s.ctxPkts g).filter (fun p => p.ctx == c)) (fun y p =>
    match y.admitted g p.id with
    | some (q, w) => (y.takeOut g q.id w).onFault g q
    | none => y)

/-- GALLERY_MEMORY_FAULT: an error of the gallery memory byte at `addr` that the re-read did not correct. The thread faults
with 0xF3 without an engine check, its packet is re-executed when its context reads back, and the line is retired (R316,
R639; the two entries are log entry 34). -/
def execGalleryMemoryFault (g e t addr : Nat) (s : State) : Out :=
  let pc := s.pc g e t
  let fp := (s.thr g e t).livePkt
  let (corr, s) := s.newCorr
  let s := (s.thrFault g e t 0xF3).faultEvent g e t
  let s := (s.dropRun g e t).moveQueued g e t
  let x := s.gal g
  let s := s.setGal g { x with badLines := if x.badLines.contains (addr / 64) then x.badLines else addr / 64 :: x.badLines }
  let s := s.wr F.FLT_STATUS_RETIRED_LINES (min 255 (s.rd F.FLT_STATUS_RETIRED_LINES + 1))
  let s := s.fault { cls := 0x04, cause := 4, unit := unitOf 0x01 g, corr := corr, snapshot := s.cnt (R.GAL_MEM_ECC_CNT g),
                     lower := 2, upper := 3, sparesOut := true, detail := addr + g * 2 ^ 48 }
  let isOver := match fp with
    | some p => decide (p.attempt ≠ 0) || s.overdue p 0 || (decide (addr < 0x80000) && p.ctx == addr / 512)
    | none => false
  let h : HwFault := { eng := e, thread := t, cause := 0xF3, pc := pc, corr := corr, drip := s.fst.drip,
                       aligned := s.rdB F.FST_STATUS_ALIGNED, upper := some 0, active := false, snap := s.cnt (R.PE_TRANSIENT_CNT g e),
                       moved := if fp.isSome && !isOver then 1 else 0,
                       lower := if isOver then some 3 else if fp.isNone then some 0 else none }
  let s := s.setGal g { s.gal g with hws := (s.gal g).hws ++ [h] }
  let s := match fp with
    | some p =>
      if isOver then (s.retryDone g p 2).onFault g p
      else (s.stat (R.DSP_REEXEC_CNT g)).place g { p with attempt := 1, corr := corr, lead := true }
    | none => s
  let s := s.hwFinish g corr
  .next (if addr < 0x80000 then s.ctxLost g (addr / 512) else s)

/-- The engine check of an engine that has not ended. -/
def State.check (s : State) (g e : Nat) : Option HwFault := (s.gal g).hws.find? (fun h => h.eng == e && h.active)

/-- Change the record of an engine check. -/
def State.updCheck (s : State) (g e : Nat) (f : HwFault → HwFault) : State :=
  let x := s.gal g
  s.setGal g { x with hws := x.hws.map (fun h => if h.eng = e ∧ h.active then f h else h) }

/-- CHECKING and CHECK_ENGINE of DSP_BUDGET_STATUS (R322). -/
def State.showCheck (s : State) (g : Nat) : State :=
  match (s.gal g).hws.find? (fun h => h.active && h.started && h.result.isNone) with
  | some h => (s.wr (F.DSP_BUDGET_STATUS_CHECKING g) 1).wr (F.DSP_BUDGET_STATUS_CHECK_ENGINE g) h.eng
  | none => (s.wr (F.DSP_BUDGET_STATUS_CHECKING g) 0).wr (F.DSP_BUDGET_STATUS_CHECK_ENGINE g) 0

/-- ENGINE_CHECK_START: at the first drip boundary after the fault (R312). -/
def execEngineCheckStart (g e : Nat) (s : State) : Out :=
  match s.check g e with
  | none => .next s
  | some h =>
    if h.started ∨ s.fst.cycle ≠ 0 ∨ s.fst.drip = h.drip then .next s
    else .next ((s.updCheck g e (fun y => { y with started := true })).showCheck g)

/-- ENGINE_CHECK_END: the check has run its four drips (R312). -/
def execEngineCheckEnd (g e : Nat) (pass : Bool) (s : State) : Out :=
  match s.check g e with
  | none => .next s
  | some h =>
    if h.started ∧ h.result = none ∧ 3 ≤ h.drips then
      .next ((s.updCheck g e (fun y => { y with result := some pass, drips := 4 })).showCheck g)
    else .next s

/-- ENGINE_RETURN: a transient fault; the engine returns to dispatch and thread 0, or control firmware, learns of the fault
(R313). -/
def execEngineReturn (g e : Nat) (s : State) : Out :=
  match s.check g e with
  | none => .next s
  | some h =>
    if h.result = some true ∧ s.fst.atEdge then
      let s := s.wr (F.PE_STATUS_STATE g e) (if s.rd (F.PE_STATUS_POS g e) = 16 then 1 else 0)
      let s := (s.err (R.PE_TRANSIENT_CNT g e)).faultEvent g e h.thread
      let n := s.cnt (R.PE_TRANSIENT_CNT g e)
      let s := s.updCheck g e (fun y => { y with active := false, upper := some 1, snap := n })
      .next ((s.hwFinish g h.corr).drain g)
    else .next s

/-- ENGINE_RETIRE: a lasting fault; the engine is retired and the spare, if there is one, fills its position (R204, R314). -/
def execEngineRetire (g e : Nat) (s : State) : Out :=
  match s.check g e with
  | none => .next s
  | some h =>
    if h.result = some false ∧ s.fst.atEdge then
      let pos := s.rd (F.PE_STATUS_POS g e)
      let s := ((s.wr (F.PE_STATUS_STATE g e) 2).err (R.DSP_LASTING_CNT g)).raise (F.GAL_INT_STATUS_ENGINE_RETIRED g)
      let n := s.cnt (R.DSP_LASTING_CNT g)
      let spare := if pos = 16 then none else (List.range 17).find? (fun k => s.rd (F.PE_STATUS_STATE g k) == 1)
      let s := match spare with
        | some k => (s.wr (F.PE_STATUS_STATE g k) 0).wr (F.PE_STATUS_POS g k) pos
        | none => s
      let s := s.updCheck g e (fun y => { y with active := false, upper := some (if spare.isSome then 2 else 3), snap := n,
                                                 sparesOut := spare.isNone })
      .next ((s.hwFinish g h.corr).drain g)
    else .next s

end Sys2Proof.Machine
end

