-- ==== Sys2Proof/Machine/Faults.lean ====
section
/-! DEFINITION. Machine/Faults.lean: faults of match lanes, memories and crypto lanes (R200, R390, R639, R641), temperature (R652-R655),
reference clocks (R700), and the test access port (R683-R685). -/

namespace Sys2Proof.Machine

open Sys2Proof

set_option cleanup.letToHave false

/-! Match lanes (R639) -/

/-- A packet of a retired lane as a parse core takes it again from the packet buffer: it leaves the count until then. -/
def State.retake (s : State) (m : InMatch) : State :=
  let again := mdGet m.first Md.srcKind == 2
  let p := { m.pkt with md := m.first, recirc := again }
  let s := if again then s else s.inflightSub (p.g Md.version)
  { s with path := { s.path with wait := p :: s.path.wait } }

/-- MATCH_LANE_FAULT of packet `id`: it starts again from stage 0 on the same lane; a fault of that second passage retires the lane,
whose packets are taken again, in their order, by parse cores (R200, R639). -/
def execMatchLaneFault (id cause : Nat) (s : State) : Out :=
  match s.path.inMatch.find? (fun m => m.pkt.id == id) with
  | none => .next s
  | some m =>
    match m.retry with
    | none =>
      let (corr, s) := s.newCorr
      let r : MatchRetry := { cause := cause, stage := m.stage, corr := corr, drip := s.fst.drip, aligned := s.rdB F.FST_STATUS_ALIGNED }
      let p := { m.pkt with md := m.first }
      .next (s.setInMatch (s.path.inMatch.map (fun x => if x.pkt.id == id then { x with pkt := p, stage := 0, retry := some r } else x)))
    | some r =>
      let l := m.pkt.lane
      let s := (s.wr (F.MAT_LANE_STATUS_STATE l) 1).raise F.MAT_INT_STATUS_LANE_RETIRED
      let s := s.laneFaultEntry l r 2 3
      let mine := s.path.inMatch.filter (fun x => x.pkt.lane == l)
      let s := s.setInMatch (s.path.inMatch.filter (fun x => x.pkt.lane != l))
      .next (s.each mine.reverse State.retake)

/-! Memories (R200, R639) -/

/-- Whether a list of packets holds a packet. -/
def hasPkt (l : List Pkt) (id : Nat) : Bool := l.any (fun p => p.id == id)

/-- Without a packet. -/
def noPkt (l : List Pkt) (id : Nat) : List Pkt := l.filter (fun p => p.id != id)

/-- Drop a packet of the packet path, out of the count, wherever it waits before the traffic manager. -/
def State.pathDrop (s : State) (id : Nat) : State :=
  let x := s.path
  match x.wait.find? (fun p => p.id == id) with
  | some p =>
    let s := { s with path := { x with wait := noPkt x.wait id } }
    if p.recirc then s.pktGone p else s.txDropped p
  | none =>
    match x.cores.find? (fun c => (c.2.pkt.map (·.id)) == some id) with
    | some c => match c.2.pkt with
      | some p => (s.setCore c.1 {}).pktGone p
      | none => s
    | none =>
      match x.inMatch.find? (fun m => m.pkt.id == id) with
      | some m => (s.setInMatch (x.inMatch.filter (fun y => y.pkt.id != id))).pktGone m.pkt
      | none =>
        match x.cry.find? (fun w => w.pkt.id == id) with
        | some w => (s.cryOff id).cryDrop w
        | none =>
          match x.toGal.find? (fun y => y.2.id == id) with
          | some y => { s with path := { x with toGal := x.toGal.filter (fun z => z.2.id != id) } }.pktGone y.2
          | none =>
            match x.toTm.find? (fun p => p.id == id) with
            | some p => { s with path := { x with toTm := noPkt x.toTm id } }.txDropped p
            | none => s

/-- Drop a packet of a gallery. -/
def State.galDrop (s : State) (g id : Nat) : State :=
  let x := s.gal g
  match x.input.find? (fun p => p.id == id) with
  | some p => (s.setGal g { x with input := noPkt x.input id }).pktGone p
  | none =>
    match s.admitted g id with
    | some (p, w) => ((s.takeOut g id w).pktGone p).drain g
    | none => s

/-- Drop a packet of a traffic-manager queue. -/
def State.tmDrop (s : State) (q id : Nat) : State :=
  match (s.tq q).pkts.find? (fun x => x.pkt.id == id) with
  | some x =>
    let s := s.setTq q { s.tq q with pkts := (s.tq q).pkts.filter (fun y => y.pkt.id != id) }
    ((s.freeCells q x.cells).leaveRounds q (s.groupOf q)).txDropped x.pkt
  | none => s

/-- Drop a packet wherever it is. -/
def State.dropAny (s : State) (id : Nat) : State :=
  let s := s.pathDrop id
  let s := s.each (s.eng.gal.map (·.1)) (fun t g => t.galDrop g id)
  s.each (s.tm.queues.map (·.1)) (fun t q => t.tmDrop q id)

/-- Places of a table (256 the TCAM, 257 the flow table) whose line is retired: what they hold is invisible to every version. -/
def State.placesLost (s : State) (tab : Nat) (places : List Nat) : State :=
  let x := s.path
  let s := { s with path := { x with retiredPlaces := places.map (fun p => (tab, p)) ++ x.retiredPlaces } }
  if tab = 256 then s.each places (fun t i => { t with path := { t.path with tcam := Map.set t.path.tcam {} i {} } })
  else if tab = 257 then s.each places (fun t i => (t.setFlow i {}).cacheDrop (t.flow i).key i)
  else
    let es := (Map.get x.tables {} tab).entries.filter (fun e => !places.contains e.place)
    { s with path := { s.path with tables := Map.upd s.path.tables {} tab (fun t => { t with entries := es }) } }

/-- Unit class of a store (R637). -/
def memClass (store : Nat) : Nat := if store = 1 then 0x02 else if store = 2 then 0x03 else if store = 3 then 0x04 else 0x05

/-- MEMORY_READ_ERROR of a store (1 table SRAM, 2 packet buffer, 3 HBM, 5 TCAM) at a byte address, on behalf of packet `pkt`: `ok` says
that the one repeat of the read succeeded; otherwise the line is out of use, with the places of table `tab` it holds, and the packet is dropped.
`unit` is the pseudo-channel or TCAM block. -/
def execMemoryReadError (store addr tab unit : Nat) (places : List Nat) (pkt : Option Nat) (ok : Bool) (s : State) : Out :=
  let (corr, s) := s.newCorr
  let entry := fun (t : State) (lower upper : Nat) =>
    t.fault { cls := 0x04, cause := store, unit := unitOf (memClass store) (if store = 3 ∨ store = 5 then unit else 0), corr := corr,
              snapshot := t.cnt R.FLT_MEM_CNT, lower := lower, upper := upper, sparesOut := upper == 3,
              detail := addr % 2 ^ 48 + tab % 256 * 2 ^ 48 }
  if ok then .next (entry (s.err R.FLT_MEM_CNT) 1 1)
  else
    let s := s.wr F.FLT_STATUS_RETIRED_LINES (min 255 (s.rd F.FLT_STATUS_RETIRED_LINES + 1))
    let s := if store = 2 then
        (s.wr F.TMG_STATUS_FREE_CELLS (s.rd F.TMG_STATUS_FREE_CELLS - 1)).err R.FLT_MEM_DROP_CNT
      else s.placesLost (if store = 5 then 256 else tab) places
    let s := match pkt with
      | some id => s.dropAny id
      | none => s
    .next (entry s 2 3)

/-! Crypto lanes (R390) -/

/-- Whether two crypto lanes are of one kind (R361). -/
def sameLane (a b : Nat) : Bool := decide (a < 8) == decide (b < 8)

/-- CRYPTO_LANE_FAULT: lane l's result fails its predictor and lane `other` repeats the operation of a session. `outcome` 0: the repeat
passes; 1: it fails too and agrees with the first; 2: it fails and differs, so the packet is dropped. -/
def execCryptoLaneFault (l other cause session outcome : Nat) (s : State) : Out :=
  if s.rd (F.CRY_LANE_STATUS_STATE l) = 1 ∨ s.rd (F.CRY_LANE_STATUS_STATE other) = 1 ∨ l = other ∨ ¬ sameLane l other then .next s
  else
    let (corr, s) := s.newCorr
    let entry := fun (t : State) (lower upper : Nat) =>
      t.fault { cls := 0x06, cause := cause, unit := unitOf 0x06 l, corr := corr, snapshot := t.rd (F.CRY_LANE_STATUS_TRANSIENT l),
                lower := lower, upper := upper, sparesOut := upper == 3, detail := other % 16 + session % 2 ^ 22 * 16 }
    if outcome = 0 then .next (entry (s.errAt (R.CRY_LANE_STATUS l) 16) 1 1)
    else
      let s := (s.wr (F.CRY_LANE_STATUS_STATE l) 1).raise F.CRY_INT_STATUS_LANE_RETIRED
      let f := if l < 8 then F.CRY_STATUS_GCM_LANES else F.CRY_STATUS_XTS_LANES
      let s := s.wr f (s.rd f - 1)
      let s := if outcome = 2 then
          match s.path.cry.find? (fun w => w.pkt.g Md.cryptoSession == session) with
          | some w => (s.cryOff w.pkt.id).cryDrop w
          | none => s
        else s
      .next (entry s 2 3)

/-! Temperature (R652-R655, R711) -/

/-- THERMAL_SAMPLE: the highest reading of the junction sensors. -/
def execThermalSample (temp : Nat) (s : State) : Out :=
  let was := s.rdB F.FLT_THERM_SHEDDING
  let s := (s.wr F.FLT_THERM_TEMP temp).wrB F.FLT_THERM_SHEDDING (decide (100 ≤ temp))
  .next (if was == decide (100 ≤ temp) then s else s.emit (.pin "SMB_ALERT_N" was))

/-- The THERMAL entry. -/
def State.thermEntry (s : State) (cause : Nat) : State :=
  s.fault { cls := 0x10, cause := cause, unit := unitOf 0x0F 0, snapshot := bitsOf (s.reg R.FLT_THERM_STEP_CNT).toNat 0 32,
            detail := s.rd F.FLT_THERM_TEMP + (16 - s.rd F.FLT_THERM_PARKED) * 2 ^ 8 }

/-- The engine in service of highest position of a gallery that has more than eight in service. -/
def State.shedOne (s : State) (g : Nat) : Option (Nat × Nat × Nat) :=
  if s.serving g ≤ 8 then none
  else ((List.range 16).reverse.findSome? (fun pos =>
    ((List.range 17).find? (fun e => s.rd (F.PE_STATUS_STATE g e) == 0 && s.rd (F.PE_STATUS_POS g e) == pos)).map (fun e => (g, e, pos))))

/-- Park an engine: out of dispatch, what is queued behind its threads moves on (R246, R653). -/
def State.park (s : State) (x : Nat × Nat × Nat) : State :=
  let s := s.wr (F.PE_STATUS_STATE x.1 x.2.1) 5
  s.each (List.range 8) (fun t u => t.moveQueued x.1 x.2.1 u)

/-- Whether no gallery has more than eight engines in service. -/
def State.atFloor (s : State) : Bool := (List.range 64).all (fun g => decide (s.serving g ≤ 8))

/-- FLOOR is raised when shedding stops (R653). -/
def State.floorCheck (s : State) : State := if s.atFloor then (s.raise F.FLT_INT_STATUS_FLOOR).thermEntry 3 else s

/-- THERMAL_SHED_STEP (R653). -/
def execThermalShedStep (s : State) : Out :=
  let l := (List.range 64).filterMap s.shedOne
  if s.rdB F.FLT_THERM_SHEDDING = false ∨ l = [] then .next s
  else
    let s := s.each l State.park
    let s := { s with board := { s.board with parked := l :: s.board.parked } }
    let s := ((s.wr F.FLT_THERM_PARKED (s.rd F.FLT_THERM_PARKED + 1)).stat R.FLT_THERM_STEP_CNT).raise F.FLT_INT_STATUS_THERM_STEP
    let s := s.thermEntry 1
    .next s.floorCheck

/-- A parked engine fills the first free position of its gallery (R654). -/
def State.unpark (s : State) (x : Nat × Nat × Nat) : State :=
  let g := x.1
  let e := x.2.1
  if s.rd (F.PE_STATUS_STATE g e) ≠ 5 then s
  else
    match (List.range 16).find? (fun p => (s.engAt g p).isNone) with
    | some p => ((s.wr (F.PE_STATUS_STATE g e) 0).wr (F.PE_STATUS_POS g e) p).drain g
    | none => s

/-- THERMAL_RETURN_STEP (R654). -/
def execThermalReturnStep (s : State) : Out :=
  match s.board.parked with
  | l :: rest =>
    if 95 < s.rd F.FLT_THERM_TEMP then .next s
    else
      let s := { s with board := { s.board with parked := rest } }
      let s := s.each l State.unpark
      let s := ((s.wr F.FLT_THERM_PARKED (s.rd F.FLT_THERM_PARKED - 1)).stat R.FLT_THERM_STEP_CNT).raise F.FLT_INT_STATUS_THERM_STEP
      .next (s.thermEntry 2)
  | [] => .next s

/-- THERMAL_TRIP (R655, R698): THERMTRIP_N, every port and attachment down, the control cores in reset, an entry in MRAM. -/
def execThermalTrip (s : State) : Out :=
  if s.rd F.FLT_THERM_TEMP < 112 ∨ s.board.tripped then .next s
  else
    let e := (s.rd F.FLT_THERM_TEMP, s.fst.drip)
    let s := { s with board := { s.board with tripped := true, tripLog := e :: s.board.tripLog } }
    let s := s.emit (.pin "THERMTRIP_N" false)
    let s := s.each (List.range 8) State.portDown
    let s := s.each ((List.range 4).filter (fun a => s.rdB (F.HIF_LINK_STATUS_DL_UP a))) State.attDown
    .next (s.each (List.range 16) (fun t c => t.coreReset (4 + c)))

/-! Reference clocks (R700) -/

/-- ETH_REFCLK_LOSS: every Ethernet port goes down. With OSC_IN also absent the synthesiser holds its frequency and Flowstone is as R72
left it. -/
def execEthRefclkLoss (s : State) : Out :=
  .next ({ s with board := { s.board with ethClk := false } }.each (List.range 8) State.portDown)

/-- ETH_REFCLK_RETURN: ports with a mode negotiate again. -/
def execEthRefclkReturn (s : State) : Out :=
  if s.board.ethClk then .next s
  else
    .next ({ s with board := { s.board with ethClk := true } }.each (List.range 8) (fun t p =>
      if bitOf (t.rd F.PRT_STATUS_CONFIGURED) p && t.rd (F.PRT_LINK_STATUS_AN_STATE p) != 4 then t.anBegin p else t))

/-- MGMT_REFCLK_LOSS: the management port goes down. -/
def execMgmtRefclkLoss (s : State) : Out :=
  .next ({ s with board := { s.board with mgmtClk := false } }.wrB F.PRT_MGMT_STATUS_UP false)

/-- MGMT_REFCLK_RETURN. -/
def execMgmtRefclkReturn (s : State) : Out := .next { s with board := { s.board with mgmtClk := true } }

/-- NCSI_REFCLK_LOSS: the RBT outputs are in high impedance. -/
def execNcsiRefclkLoss (s : State) : Out :=
  if s.board.ncsiClk then .next ({ s with board := { s.board with ncsiClk := false } }.emit (.pin "NCSI_RBT_DRIVEN" false)) else .next s

/-- NCSI_REFCLK_RETURN. -/
def execNcsiRefclkReturn (s : State) : Out :=
  if s.board.ncsiClk then .next s else .next ({ s with board := { s.board with ncsiClk := true } }.emit (.pin "NCSI_RBT_DRIVEN" true))

/-! The test access port (R661, R683-R685) -/

/-- Another instruction comes into the instruction register: one that holds the core in reset resets it as it comes, with RESET_CAUSE as
it was; leaving such a one is a device reset (R685). -/
def State.tapTo (s : State) (ir : Nat) : State :=
  let old := s.board.tapIr
  let s := { s with board := { s.board with tapIr := ir } }
  (if tapHolds old && old != ir then s.deviceReset 4
    else if tapHolds ir && !tapHolds old then s.deviceReset (s.rd F.GLB_BOOT_RESET_CAUSE)
    else s).settle

/-- Load an instruction: with a reserved strap code only IDCODE and BYPASS respond (R661). -/
def State.tapLoad (s : State) (ir : Nat) : State :=
  if !s.board.powered then s
  else s.tapTo (if strapsBad (s.reg R.GLB_STRAPS).toNat && ir != 2 then 0xFF else ir)

/-- What IDCODE reads (R683). -/
abbrev tapIdcode : Nat := 0x20880A3D

def execTapExtest (s : State) : Out := .next (s.tapLoad 0x00)
def execTapSamplePreload (s : State) : Out := .next (s.tapLoad 0x01)
def execTapIdcode (s : State) : Out := .next ((s.tapLoad 0x02).emit (.tap "IDCODE" tapIdcode))
def execTapHighz (s : State) : Out := .next (s.tapLoad 0x03)
def execTapClamp (s : State) : Out := .next (s.tapLoad 0x04)
def execTapExtestPulse (s : State) : Out := .next (s.tapLoad 0x05)
def execTapExtestTrain (s : State) : Out := .next (s.tapLoad 0x06)

/-- TAP_PRIVATE: below debug level 3 the TAP selects BYPASS (R684). -/
def execTapPrivate (code : Nat) (s : State) : Out :=
  .next (s.tapLoad (if s.rd F.GRT_STATUS_DEBUG_LEVEL = 3 ∧ 0x80 ≤ code ∧ code ≤ 0xFE then code else 0xFF))

def execTapBypass (s : State) : Out := .next (s.tapLoad 0xFF)

/-- TRST_ASSERT: the TAP controller is reset, which selects IDCODE. -/
def execTrstAssert (s : State) : Out := .next (if s.board.powered then s.tapTo 2 else s)

/-- TEST_LOGIC_RESET. -/
def execTestLogicReset (s : State) : Out := .next (if s.board.powered then s.tapTo 2 else s)

end Sys2Proof.Machine
end

