-- ==== Sys2Proof/Machine/Rope.lean ====
section
/-! DEFINITION. Machine/Rope.lean: rope programs: the five instructions (R527-R533), chunks and the read and write engines
(R534-R536, R556), how a program ends (R538, R539), and a channel's replacement (R540). An instruction command names the channel; it
runs the instruction at the channel's PC and changes nothing where that is another one. -/

namespace Sys2Proof.Machine

open Sys2Proof

set_option cleanup.letToHave false

/-! Pulses (R533) -/

/-- Whether a TARGET value is valid for a channel. -/
def State.targetOk (s : State) (c t : Nat) : Bool :=
  let k := bitsOf t 28 4
  let z := fun lo w => decide (bitsOf t lo w = 0)
  if k = 0 then z 0 28
  else if k = 1 then z 5 13 && decide (bitsOf t 0 5 ≤ 23)
  else if k = 2 then z 9 13 && (sumpKey (bitsOf t 22 6) (bitsOf t 0 9)).isSome
  else if k = 3 then z 16 12 && decide (bitsOf t 12 4 ≤ 9) && (s.boundTo c).isSome
  else if k = 4 then z 4 24
  else if k = 5 then z 12 16
  else k = 6 && z 4 24

/-- The unit address of a channel (R20, R637). -/
def ropeUnit (c : Nat) : Nat := unitOf (0x10 + c / 64) (c % 64)

/-- Whether a pulse must wait for its sump (R231). -/
def State.pulseWaits (s : State) (c t : Nat) : Bool :=
  bitsOf t 28 4 == 2 && (match sumpKey (bitsOf t 22 6) (bitsOf t 0 9) with
    | some k => s.putWaits k (ropeUnit c)
    | none => false)

/-- The queue manager takes the data word of a pulse: for a receive queue it is the completion request of R526. -/
def State.qmPulse (s : State) (f k q data : Nat) : State :=
  if k = 1 then s.rxDone f q data else { s with rope := { s.rope with words := (f, k, q, data) :: s.rope.words } }

/-- A pulse to a valid TARGET with a data word. -/
def State.pulse (s : State) (c t data : Nat) : State :=
  let k := bitsOf t 28 4
  let g := bitsOf t 22 6
  if k = 1 then
    match s.engAt g (bitsOf t 18 4) with
    | some e => s.setEvents g e (2 ^ bitsOf t 0 5)
    | none => s
  else if k = 2 then
    match sumpKey g (bitsOf t 0 9) with
    | some x => s.sumpStore x (ropeUnit c) data 2
    | none => s
  else if k = 3 then
    match s.boundTo c with
    | some f => s.qmPulse f (bitsOf t 12 4) (bitsOf t 0 12) data
    | none => s
  else if k = 5 then
    let d := s.ropeAt (bitsOf t 3 9)
    s.wr (F.ROPE_CHAN_EVENTS_EVENTS d) (s.rd (F.ROPE_CHAN_EVENTS_EVENTS d) ||| 2 ^ bitsOf t 0 3)
  else if k = 6 then { s with rope := { s.rope with notices := (bitsOf t 0 4, data) :: s.rope.notices } }
  else s

/-! The end of a program (R538) -/

/-- What a program's end does to its chunks, its packet and its outstanding reads. -/
def State.ropeDrop (s : State) (c : Nat) (r : RopeReq) : State :=
  let mine := fun (x : Read) => match x.why with
    | .rope d _ => d == c
    | _ => false
  let s := { s with rope := { s.rope with pkts := Map.erase s.rope.pkts (r.p1 / 2 ^ 24) },
                    readWait := s.readWait.filter (fun x => !mine x),
                    reads := s.reads.map (fun x => if mine x then { x with discard := true, bmeDrop := x.bmeDrop || !s.ropeMay c } else x) }
  s.updChan c (fun x => { x with run := none, loops := [], chunks := [] })

/-- A received frame whose program did not end well gets no completion entry. -/
def State.ropeGone (s : State) (c : Nat) (r : RopeReq) : State :=
  match s.boundTo c with
  | some f => s.each ((s.func f).queues.map (·.1)) (fun t k => if k / 4096 = 1 then t.rxGone f (k % 4096) r.p3 else t)
  | none => s

/-- A program ends with a result: LAST, and for every result but DONE a pulse to ERR_TARGET, a count and an interrupt. -/
def State.ropeFinish (s : State) (c result : Nat) : State :=
  match (s.chan c).run with
  | none => s
  | some r =>
    let pc := s.rd (F.ROPE_CHAN_STATUS_PC c)
    let s := ((s.ropeDrop c r).wr (F.ROPE_CHAN_STATUS_LAST c) result).setRst c rIdle
    let s := s.stat R.ROPE_PROG_CNT
    if result = 0 then s
    else
      let s := s.ropeGone c r
      let s := (s.err R.ROPE_ABNORMAL_CNT).raise F.ROPE_INT_STATUS_ABNORMAL_END
      let s := if result = 2 then s.err R.ROPE_WAIT_TO_CNT else s
      let t := s.rd (F.ROPE_CHAN_CFG_ERR_TARGET c)
      if ¬ s.targetOk c t then s
      else if s.pulseWaits c t then s.updChan c (fun x => { x with due := some (t, result + pc * 16) })
      else s.pulse c t (result + pc * 16)

/-- Whether the pulse to ERR_TARGET of a program that has ended still waits for its sump (R533, R538). -/
def State.dueWaits (s : State) (c : Nat) : Bool :=
  match (s.chan c).due with
  | some x => s.pulseWaits c x.1
  | none => false

/-- Send it. -/
def State.dueSend (s : State) (c : Nat) : State :=
  match (s.chan c).due with
  | some x => (s.updChan c (fun y => { y with due := none })).pulse c x.1 x.2
  | none => s

/-- ROPE_PROGRAM_START: requests of an older generation are discarded; the oldest of the others begins, or is held while its function
may not issue requests (R524, R525, R539). A pulse to ERR_TARGET that is still due goes first (R538). -/
def execRopeProgramStart (c : Nat) (s : State) : Out :=
  if (s.rst c = rIdle ∨ s.rst c = rHeld) ∧ ¬ s.dueWaits c then
    let s := s.dueSend c
    let x := s.chan c
    let g := s.boundGen c
    let live := x.queue.filter (fun r => r.gen == g)
    match live with
    | [] => .next ((s.setChan c { x with queue := x.waitq.map (fun r => { r with gen := g }), waitq := [] }).setRst c rIdle)
    | r :: t =>
      if s.ropeMay c then
        let all := t ++ x.waitq.map (fun r => { r with gen := g })
        let s := s.setChan c { x with p := [r.p0, r.p1, r.p2, r.p3, 0, 0, 0, 0], queue := all.take 64, waitq := all.drop 64,
                                      run := some r, loops := [] }
        .next (((s.setRst c rRunning).wr (F.ROPE_CHAN_STATUS_PC c) r.entry).wr (F.ROPE_CHAN_STATUS_GEN c) r.gen)
      else .next ((s.setChan c { x with queue := live }).setRst c rHeld)
  else .next s

/-! Instructions -/

/-- The two words at a channel's PC (R527). -/
def State.ropeWord (s : State) (c i : Nat) : Nat :=
  bitsOf (Map.get s.rope.prog 0 (c / 64 * 4096 + s.rd (F.ROPE_CHAN_STATUS_PC c))) (64 * i) 64

/-- The bits of the two words that each instruction uses, with the fields its flags leave unused taken out (R527, R528). -/
def ropeMasks (w0 : Nat) : Nat × Nat :=
  let op := bitsOf w0 0 8
  if op = 1 then
    (if bitOf w0 23 then (if bitOf w0 26 then 0x000000001CFFFFFF else 0x000000001FFFFFFF) else 0x00FFFFFF1F8FFFFF, 0xFFFFFFFFFFFFFFFF)
  else if op = 2 then (if bitOf w0 11 then (0x000000000FFF0FFF, 0) else (0x000000000FFF08FF, 0xFFFFFFFF))
  else if op = 3 then (0x0000FFFF0003FFFF, 0)
  else (0xFFFFFFFF000007FF, 0)

/-- Whether an instruction is legal on its face: its OP, its unused and reserved fields. -/
def ropeLegal (w0 w1 : Nat) : Bool :=
  let m := ropeMasks w0
  decide (1 ≤ bitsOf w0 0 8) && decide (bitsOf w0 0 8 ≤ 5) && (w0 &&& m.1 == w0) && (w1 &&& m.2 == w1)

/-- A parameter register. -/
def RopeChan.preg (x : RopeChan) (i : Nat) : Nat := x.p.getD i 0

/-- A parameter register set. -/
def RopeChan.setP (x : RopeChan) (i v : Nat) : RopeChan := { x with p := x.p.set i (v % 2 ^ 64) }

/-- Where execution goes on after the instruction at an index: loops whose body ends there run again or end (R531). -/
def ropeNext (i : Nat) : List RopeLoop → Nat × List RopeLoop
  | [] => (i + 1, [])
  | l :: t => if l.last = i then (if 1 < l.left then (l.first, { l with left := l.left - 1 } :: t) else ropeNext i t) else (i + 1, l :: t)

/-- The channel goes on after the instruction at an index. -/
def State.ropeGo (s : State) (c i : Nat) : State :=
  let x := s.chan c
  let n := ropeNext i x.loops
  (s.setChan c { x with loops := n.2 }).wr (F.ROPE_CHAN_STATUS_PC c) n.1

/-- Run the instruction at the PC of a running channel when its OP is the command's; an illegal one ends the program. -/
def State.ropeInstr (s : State) (c op : Nat) (k : State → Nat → Nat → Nat → State) : State :=
  let w0 := s.ropeWord c 0
  let w1 := s.ropeWord c 1
  if s.rst c ≠ rRunning ∨ (s.chan c).run = none then s
  else if !ropeLegal w0 w1 && (bitsOf w0 0 8 == op || bitsOf w0 0 8 == 0 || decide (5 < bitsOf w0 0 8)) then s.ropeFinish c 1
  else if bitsOf w0 0 8 = op then k s (s.rd (F.ROPE_CHAN_STATUS_PC c)) w0 w1
  else s

/-! MOVE (R529, R530, R534) -/

/-- The most a chunk at two addresses may hold (R534). -/
def State.chunkMax (s : State) (f : Option Nat) (ss sa ds da : Nat) : Nat :=
  let c := match f with
    | some f => (s.func f).cfg
    | none => {}
  let r := if ss = 0 then min (128 * 2 ^ c.mrrs) (4096 - sa % 4096) else 4096
  let w := if ds = 0 then min (128 * 2 ^ c.mps) (4096 - da % 4096) else 4096
  min r w

/-- The chunks of a MOVE. -/
def State.chunksOf (s : State) (f : Option Nat) (ss ds : Nat) (fence small : Bool) : Nat → Nat → Nat → Nat → Nat → List RopeChunk
  | _, _, _, _, 0 => []
  | id, sa, da, left, n + 1 =>
    if left = 0 then []
    else
      let k := min left (s.chunkMax f ss sa ds da)
      { id := id, ss := ss, sa := sa, ds := ds, da := da, len := k, fence := fence, small := small }
        :: State.chunksOf s f ss ds false small (id + 1) ((sa + k) % 2 ^ 64) ((da + k) % 2 ^ 64) (left - k) n

/-- HBM bytes (R30). -/
abbrev hbmSize : Nat := 48 * 2 ^ 30

/-- Whether a MOVE reaches a space it may not (R530). -/
def State.moveRange (s : State) (c ss sa ds da len : Nat) : Bool :=
  let sp := s.rd (F.ROPE_CHAN_CFG_SPACES c)
  !bitOf sp ss || !bitOf sp ds || ((ss == 0 || ds == 0) && (s.boundTo c).isNone) || (ss == 1 && decide (hbmSize < sa + len))
    || (ds == 1 && decide (hbmSize < da + len))

/-- ROPE_MOVE. -/
def execRopeMove (c : Nat) (s : State) : Out :=
  .next (s.ropeInstr c 1 (fun s pc w0 w1 =>
    let x := s.chan c
    let f := bitsOf w0
    let ds := f 8 3
    let ss := f 11 3
    let dr := f 14 3
    let sr := f 17 3
    let len := if bitOf w0 23 then x.preg (f 20 3) % 2 ^ 24 else f 32 24
    let soff := bitsOf w1 32 32
    let sa := ofSigned 64 (x.preg sr + toSigned 32 soff)
    let da := ofSigned 64 (x.preg dr + toSigned 32 (bitsOf w1 0 32))
    if len = 0 ∨ 5 ≤ ds ∨ 6 ≤ ss ∨ (bitOf w0 26 ∧ ¬ bitOf w0 23) ∨ (ss = 5 ∧ (soff ≠ 0 ∨ len ≠ 8)) then s.ropeFinish c 1
    else if s.moveRange c ss sa ds da len then s.ropeFinish c 6
    else
      let l := s.chunksOf (s.boundTo c) ss ds (bitOf w0 28) (decide (len ≤ 32)) x.nextChunk sa da len len
      let l := if ss = 5 then l.map (fun k => { k with asked := true, data := some (leBytes (x.preg sr) 8) }) else l
      let y := { x with chunks := x.chunks ++ l, nextChunk := x.nextChunk + l.length }
      let y := if bitOf w0 27 then
          (let z := y.setP dr (x.preg dr + len)
           if dr = sr then z else z.setP sr (x.preg sr + len))
        else y
      (s.setChan c y).ropeGo c pc))

/-- ROPE_LOOP (R531). -/
def execRopeLoop (c : Nat) (s : State) : Out :=
  .next (s.ropeInstr c 2 (fun s pc w0 w1 =>
    let x := s.chan c
    let body := bitsOf w0 16 12
    let t := if bitOf w0 11 then x.preg (bitsOf w0 8 3) % 2 ^ 32 else bitsOf w1 0 32
    if body = 0 ∨ 4096 ≤ pc + body ∨ 2 ≤ x.loops.length then s.ropeFinish c 1
    else if t = 0 then s.ropeGo c (pc + body)
    else (s.setChan c { x with loops := { first := pc + 1, last := pc + body, left := t } :: x.loops }).wr (F.ROPE_CHAN_STATUS_PC c) (pc + 1)))

/-- ROPE_WAIT (R532). -/
def execRopeWait (c : Nat) (s : State) : Out :=
  .next (s.ropeInstr c 3 (fun s _ w0 _ =>
    let m := bitsOf w0 8 8
    if (m = 0 ∧ ¬ bitOf w0 16) ∨ bitsOf w0 32 16 = 0 then s.ropeFinish c 1
    else (s.updChan c (fun x => { x with waitMask := m, waitWrites := bitOf w0 16, waitCons := bitOf w0 17,
                                         waitLeft := bitsOf w0 32 16 })).setRst c rWaiting))

/-- ROPE_WAIT_RELEASE: an event bit of MASK is set, or every earlier write is done (R532). -/
def execRopeWaitRelease (c : Nat) (s : State) : Out :=
  let x := s.chan c
  let ev := s.rd (F.ROPE_CHAN_EVENTS_EVENTS c)
  let hit := ev &&& x.waitMask
  if s.rst c = rWaiting ∧ (hit ≠ 0 ∨ (x.waitWrites ∧ x.chunks = [])) then
    let s := if x.waitCons then s.wr (F.ROPE_CHAN_EVENTS_EVENTS c) (ev - hit) else s
    .next ((s.setRst c rRunning).ropeGo c (s.rd (F.ROPE_CHAN_STATUS_PC c)))
  else .next s

/-- ROPE_WAIT_TIMEOUT: TIMEOUT drip boundaries have passed first. -/
def execRopeWaitTimeout (c : Nat) (s : State) : Out :=
  if s.rst c = rWaiting ∧ (s.chan c).waitLeft = 0 then .next (s.ropeFinish c 2) else .next s

/-- A drip boundary counts for every waiting channel. -/
def State.ropeDrip (s : State) : State :=
  s.each (s.rope.chans.map (·.1)) (fun t c => if t.rst c = rWaiting then t.updChan c (fun x => { x with waitLeft := x.waitLeft - 1 }) else t)

/-- ROPE_SIGNAL: once every earlier write is done (R533, R536). -/
def execRopeSignal (c : Nat) (s : State) : Out :=
  .next (s.ropeInstr c 4 (fun s pc w0 _ =>
    let t := bitsOf w0 32 32
    if !s.targetOk c t then s.ropeFinish c 1
    else if (s.chan c).chunks ≠ [] ∨ s.pulseWaits c t then s
    else (s.pulse c t ((s.chan c).preg (bitsOf w0 8 3))).ropeGo c pc))

/-- ROPE_END (R533, R538). -/
def execRopeEnd (c : Nat) (s : State) : Out :=
  .next (s.ropeInstr c 5 (fun s _ w0 _ =>
    let t := bitsOf w0 32 32
    if !s.targetOk c t then s.ropeFinish c 1
    else if (s.chan c).chunks ≠ [] ∨ s.pulseWaits c t then s
    else (s.pulse c t ((s.chan c).preg (bitsOf w0 8 3))).ropeFinish c 0))

/-! Chunks (R534-R536, R556) -/

/-- The packet a handle names: a range placed for a channel, or a packet of a thread (R526, R529). -/
def State.pktBytes (s : State) (h : Nat) : Option (List Byte) :=
  match s.rope.pkts.find? (fun e => e.1 == h) with
  | some e => some e.2
  | none => ((s.eng.thr.flatMap (fun e => e.2.ctxs)).find? (fun p => p.id == h)).map (·.data)

/-- Bytes with others written over them from an offset on; bytes beyond the end are lost. -/
def overlay (l : List Byte) (off : Nat) (d : List Byte) : List Byte :=
  (l.take off ++ d ++ l.drop (off + d.length)).take l.length

/-- Read bytes of a space; bytes of no packet are free (log entry 49). -/
def State.spaceRead (s : State) (c sp a n : Nat) : List Byte :=
  if sp = 0 then (match s.boundTo c with | some f => s.hostRead (s.attOf f) a n | none => [])
  else if sp = 1 then Mem.bytes s.hbm a n
  else if sp = 2 then
    let l := (s.pktBytes (a / 2 ^ 24)).getD []
    (List.range n).map (fun i => l.getD (a % 2 ^ 24 + i) (Config.stoByte 100 (a / 2 ^ 24) (a % 2 ^ 24 + i)))
  else if sp = 3 then (List.range n).map (fun i => Mem.byte s.rope.buf (c / 64 * 2 ^ 21 + (a + i) % 2 ^ 21))
  else (List.range n).map (fun i => Mem.byte s.eng.gmem ((a + i) % 2 ^ 26))

/-- Write bytes of a space. -/
def State.spaceWrite (s : State) (c sp a : Nat) (d : List Byte) : State :=
  if sp = 0 then (match s.boundTo c with | some f => s.hostWrite (s.attOf f) a d | none => s)
  else if sp = 1 then { s with hbm := Mem.putBytes s.hbm a d }
  else if sp = 2 then
    let h := a / 2 ^ 24
    if s.rope.pkts.any (fun e => e.1 == h) then
      { s with rope := { s.rope with pkts := Map.upd s.rope.pkts [] h (fun l => overlay l (a % 2 ^ 24) d) } }
    else
      { s with eng := { s.eng with thr := s.eng.thr.map (fun e => (e.1, { e.2 with
        ctxs := e.2.ctxs.map (fun p => if p.id = h then { p with data := overlay p.data (a % 2 ^ 24) d } else p) })) } }
  else if sp = 3 then
    { s with rope := { s.rope with buf := d.zipIdx.foldl (fun m b => Mem.put m (c / 64 * 2 ^ 21 + (a + b.2) % 2 ^ 21) b.1) s.rope.buf } }
  else { s with eng := { s.eng with gmem := d.zipIdx.foldl (fun m b => Mem.put m ((a + b.2) % 2 ^ 26) b.1) s.eng.gmem } }

/-- Cells a chunk takes from its read until its write (R534). -/
def RopeChunk.cells (k : RopeChunk) : Nat := if k.asked then (k.len + 255) / 256 else 0

/-- Cells of an engine's buffer that are free. -/
def State.ropeCells (s : State) (e : Nat) : Nat :=
  8192 - (s.rope.chans.map (fun x => if x.1 / 64 = e then (x.2.chunks.map RopeChunk.cells).sum else 0)).sum

/-- Reads of an engine outstanding. -/
def State.ropeReads (s : State) (e : Nat) : Nat :=
  ((s.reads ++ s.readWait).filter (fun r => match r.why with | .rope c _ => c / 64 == e && !r.discard | _ => false)).length

/-- Whether a channel's program may go on moving data: its generation and Bus Master Enable (R539). -/
def State.ropeLive (s : State) (c : Nat) : Bool :=
  match (s.chan c).run with
  | some r => decide (s.rst c < rHeld) && r.gen == s.boundGen c && s.ropeMay c
  | none => false

/-- The chunk whose read a channel has ready. -/
def State.readyRead (s : State) (c : Nat) : Option RopeChunk :=
  let x := s.chan c
  match x.chunks.find? (fun k => !k.asked) with
  | some k =>
    if s.ropeLive c && (!k.fence || x.chunks.head? == some k) && decide ((k.len + 255) / 256 ≤ s.ropeCells (c / 64))
        && (k.ss != 0 || decide (s.ropeReads (c / 64) < 512)) then some k else none
  | none => none

/-- The chunk whose write a channel has ready. -/
def State.readyWrite (s : State) (c : Nat) : Option (RopeChunk × List Byte) :=
  match (s.chan c).chunks with
  | k :: _ => if s.ropeLive c then k.data.map (fun d => (k, d)) else none
  | [] => none

/-- The channel an engine selects among those ready: highest PRIO, then the first at or after the pointer (R556). -/
def State.ropePick (s : State) (ptr : Nat) (l : List Nat) : Option Nat :=
  let top := (l.map (fun c => s.rd (F.ROPE_CHAN_CFG_PRIO c))).foldl max 0
  let m := l.filter (fun c => s.rd (F.ROPE_CHAN_CFG_PRIO c) == top)
  match m.find? (fun c => decide (ptr ≤ c % 64)) with
  | some c => some c
  | none => m.head?

/-- The channels of an engine that the state lists. -/
def State.chansOf (s : State) (e : Nat) : List Nat := (s.rope.chans.map (·.1)).filter (fun c => c / 64 == e)

/-- Change one chunk of a channel. -/
def State.updChunk (s : State) (c i : Nat) (g : RopeChunk → RopeChunk) : State :=
  s.updChan c (fun x => { x with chunks := x.chunks.map (fun k => if k.id = i then g k else k) })

/-- The read of a chunk: a host read of the bound function, or the bytes of another space. -/
def State.chunkRead (s : State) (c : Nat) (k : RopeChunk) : State :=
  if k.ss = 0 then (s.updChunk c k.id (fun k => { k with asked := true })).askRead ((s.boundTo c).getD 0) k.len (.rope c k.id)
  else
    let d := s.spaceRead c k.ss k.sa k.len
    s.updChunk c k.id (fun k => { k with asked := true, data := some d })

/-- The host bytes of a chunk have arrived. -/
def State.ropeGot (s : State) (a c i : Nat) : State :=
  s.updChunk c i (fun k => { k with data := some (s.hostRead a k.sa k.len) })

/-- The write of a channel's first chunk. -/
def State.chunkWrite (s : State) (c : Nat) (k : RopeChunk) (d : List Byte) : State :=
  ((s.spaceWrite c k.ds k.da d).updChan c (fun x => { x with chunks := x.chunks.drop 1 })).statAdd R.ROPE_BYTES_CNT d.length

/-- ROPE_CHUNK_READ: the read engine of engine e starts one chunk. -/
def execRopeChunkRead (e : Nat) (s : State) : Out :=
  match s.ropePick (Map.get s.rope.rrRead 0 e) ((s.chansOf e).filter (fun c => (s.readyRead c).isSome)) with
  | none => .next s
  | some c =>
    match s.readyRead c with
    | none => .next s
    | some k => .next ({ s with rope := { s.rope with rrRead := Map.set s.rope.rrRead 0 e ((c + 1) % 64) } }.chunkRead c k)

/-- ROPE_CHUNK_WRITE: the write engine of engine e issues or stores one chunk. -/
def execRopeChunkWrite (e : Nat) (s : State) : Out :=
  match s.ropePick (Map.get s.rope.rrWrite 0 e) ((s.chansOf e).filter (fun c => (s.readyWrite c).isSome)) with
  | none => .next s
  | some c =>
    match s.readyWrite c with
    | none => .next s
    | some (k, d) => .next ({ s with rope := { s.rope with rrWrite := Map.set s.rope.rrWrite 0 e ((c + 1) % 64) } }.chunkWrite c k d)

/-! Stops (R520, R539) -/

/-- A record of 32 bytes or less is completed whole before the stop. -/
def State.finishSmall (s : State) (c : Nat) : List RopeChunk → State
  | [] => s
  | k :: t =>
    if k.small then
      let d := k.data.getD (s.spaceRead c k.ss k.sa k.len)
      State.finishSmall (s.spaceWrite c k.ds k.da d) c t
    else s

/-- ROPE_PROGRAM_STOP: the bound function's generation has changed, or its Bus Master Enable is clear: the program stops, and queued
requests of the old generation are discarded. -/
def execRopeProgramStop (c : Nat) (s : State) : Out :=
  match (s.chan c).run, s.boundTo c with
  | some r, some f =>
    let g := (s.func f).gen
    if (s.rst c = rRunning ∨ s.rst c = rWaiting) ∧ (r.gen ≠ g ∨ (s.func f).cfg.master = false) then
      let s := s.finishSmall c (s.chan c).chunks
      let s := s.updChan c (fun x => { x with queue := x.queue.filter (fun q => q.gen == g) })
      .next (s.ropeFinish c (if r.gen ≠ g then 3 else 4))
    else .next s
  | _, _ => .next s

/-! A channel's fault (R540) -/

/-- The channel of a lasting fault is retired; spare d takes its binding, requests, registers and program. -/
def State.ropeSwap (s : State) (c d : Nat) : State :=
  let x := s.chan c
  let st := s.rst c
  let move := fun (r : Read) => match r.why with
    | .rope k i => if k = c then { r with why := .rope d i } else r
    | _ => r
  let cfg := s.reg (R.ROPE_CHAN_CFG c)
  let ev := s.rd (F.ROPE_CHAN_EVENTS_EVENTS c)
  let stat := (s.reg (R.ROPE_CHAN_STATUS c)).toNat
  let s := (s.setReg (R.ROPE_CHAN_CFG d) cfg).wr (F.ROPE_CHAN_EVENTS_EVENTS d) ev
  let s := ((s.setReg (R.ROPE_CHAN_STATUS d) (BitVec.ofNat 64 stat)).setRst d st).setChan d x
  let s := (((s.setChan c {}).setRst c rRetired).wr (F.ROPE_CHAN_STATUS_TAKEN_BY c) d).wr (F.ROPE_CHAN_CFG_FUNC c) 0xFFF
  { s with reads := s.reads.map move, readWait := s.readWait.map move }

/-- ROPE_CHUNK_FAULT: a chunk of channel c fails an internal check (cause 1 buffer ECC, 2 source ECC, 3 parity) and is repeated; `ok`
says whether the repeat succeeds (R540, R635). -/
def execRopeChunkFault (c cause : Nat) (ok : Bool) (s : State) : Out :=
  if (s.chan c).chunks.any (fun k => k.asked) then
    let (k, s) := s.newCorr
    let pc := s.rd (F.ROPE_CHAN_STATUS_PC c)
    let s := if ok then s.errAt (R.ROPE_CHAN_ERR c) 0 else s
    let r : FaultRec := { cls := 0x05, cause := cause, unit := ropeUnit c, corr := k, snapshot := s.cnt (R.ROPE_CHAN_ERR c) }
    if ok then .next (s.fault { r with lower := 1, upper := 1, detail := c + pc * 2 ^ 20 })
    else
      match ([63, 62].map (fun n => c / 64 * 64 + n)).find? (fun d => s.rst d == rSpare) with
      | some d =>
        let e := c / 64
        let s := (s.ropeSwap c d).wr (F.ROPE_ENG_STATUS_SPARES e) (s.rd (F.ROPE_ENG_STATUS_SPARES e) - 1)
        .next ((s.raise F.ROPE_INT_STATUS_CHAN_RETIRED).fault { r with lower := 2, upper := 2, detail := c + d * 2 ^ 10 + pc * 2 ^ 20 })
      | none =>
        let (v, s) := s.fresh
        let s := (s.setRst c rRetired).wr F.ROPE_STATUS_IN_SERVICE (s.rd F.ROPE_STATUS_IN_SERVICE - 1)
        let s := (s.raise F.ROPE_INT_STATUS_CHAN_RETIRED).raise F.ROPE_INT_STATUS_SPARES_OUT
        .next (s.fault { r with lower := 2, upper := 3, sparesOut := true, detail := c + v % 2 ^ 10 * 2 ^ 10 + pc * 2 ^ 20 })
  else .next s

end Sys2Proof.Machine
end

