-- ==== Sys2Proof/Machine/View.lean ====
section
/-! DEFINITION. Machine/View.lean: what a register shows: its stored fields, or for a summary register the state it summarises. -/

namespace Sys2Proof.Machine

open Sys2Proof

set_option cleanup.letToHave false

/-- A 64-bit word. -/
def w64 (n : Nat) : Word := BitVec.ofNat 64 n

/-- The number whose bits are the elements of a list for which a condition holds. -/
def maskOf (l : List Nat) (f : Nat → Bool) : Nat := l.foldl (fun n i => if f i then n + 2 ^ i else n) 0

/-- GAL_STATUS (R249). -/
def State.galStatus (s : State) (g : Nat) : Nat :=
  let st := fun e => s.rd (F.PE_STATUS_STATE g e)
  let fills := ((List.range 16).filter (fun p => (s.engAt g p).isSome)).length
  fills + b2n ((List.range 17).any (fun e => st e == 1)) * 2 ^ 8 + maskOf (List.range 17) (fun e => st e == 2) * 2 ^ 16
    + maskOf (List.range 17) (fun e => st e == 3) * 2 ^ 40

/-- DSP_SHARE_DATA: share, reservation and slots taken from it, as of the admission of the current drip (R322). -/
def State.shareData (s : State) (g : Nat) : Nat :=
  let f := s.rd (F.DSP_SHARE_SEL_FUNC g)
  let v := Map.get s.eng.shares 0 f
  v + shareSlots v (s.rd (F.DSP_BUDGET_STATUS_BUDGET g)) * 2 ^ 32 + Map.get (s.gal g).shareUsed 0 f * 2 ^ 48

/-- A register of a gallery's window (R249-R254, R305, R321). -/
def State.galView (s : State) (off : Nat) : Word :=
  let g := (off - 0x1000000) / 0x10000
  let o := (off - 0x1000000) % 0x10000
  if o = 0 then w64 (s.galStatus g)
  else if o = 0x1000 then w64 ((s.gal g).input.length + (s.ctxPkts g).length * 2 ^ 16)
  else if o = 0x1818 then w64 (s.shareData g)
  else if 0x1900 ≤ o ∧ o < 0x1B00 ∧ o % 8 = 0 then
    w64 (Map.get (s.ver s.curVer).policies policyReset ((o - 0x1900) / 8) % 2 ^ 16)
  else if 0x2000 ≤ o ∧ o < 0xA800 then
    let e := (o - 0x2000) / 0x800
    let p := (o - 0x2000) % 0x800
    if p = 8 then w64 (s.events g e)
    else if 0x40 ≤ p ∧ p < 0x80 ∧ p % 8 = 0 then
      let t := (p - 0x40) / 8
      w64 (putBits (s.reg off).toNat 8 4 (s.thr g e t).ctxs.length)
    else s.reg off
  else s.reg off

/-- QMG_POOL (R480): what no created function has been allotted. -/
def State.poolView (s : State) : Nat :=
  let sum := fun (f : Func → Nat) => (s.funcs.map (fun e => f e.2)).sum
  (65536 - sum (·.qpAllot)) + (16384 - sum (·.vecAllot)) * 2 ^ 17 + (65536 - sum (·.share)) * 2 ^ 32

/-- QMG_FUNC_DATA of a function. -/
def Func.data (x : Func) : Nat :=
  b2n x.created + b2n x.adminEn * 2 + b2n x.resetting * 4 + x.gen * 2 ^ 4 + x.qpAllot * 2 ^ 16 + x.qpUsed * 2 ^ 32
    + min x.vecAllot 2047 * 2 ^ 48

/-- QMG_QUEUE_DATA of a ring the device writes. -/
def OutRing.data (r : OutRing) : Nat := (if r.on then 1 else 7) + r.wi % 65536 * 2 ^ 16 + r.hd % 65536 * 2 ^ 32 + r.log2 * 2 ^ 48

/-- QMG_QUEUE_DATA.STATE of a queue. -/
def QState.code : QState → Nat
  | .disabled => 0
  | .enabled => 1
  | .paused => 2
  | .stopped => 3

/-- QMG_QUEUE_DATA of a queue of R493. -/
def Queue.data (q : Queue) (st : Nat) : Nat := st + q.ci % 65536 * 2 ^ 16 + q.pi % 65536 * 2 ^ 32 + q.log2 * 2 ^ 48

/-- QMG_QUEUE_DATA of a function's queue by kind and number (R485, R521). -/
def State.queueData (s : State) (f k q : Nat) : Nat :=
  let x := s.func f
  if k = 2 then (Map.get x.cqs {} q).data
  else if k = 3 then (if q = 0 then x.evt.data else 7)
  else if k = 4 then (if q = 0 ∧ x.adminEn then x.adm.data 1 else 7)
  else if k = 5 then (if q = 0 ∧ x.adminEn then x.admCpl.data else 7)
  else if s.hasQue f k q then (s.que f k q).data (s.que f k q).st.code else 7

/-- The blocks that hold a set status bit that attachment a's INT_EN enables, by block code (R636, R718). -/
def State.intSummary (s : State) (a : Nat) : Nat :=
  let on := fun off => ((s.reg off).toNat &&& (s.reg (off + 8 + 8 * a)).toNat) != 0
  let one := fun (c : Nat × Nat) => if on c.2 then 2 ^ c.1 else 0
  ([(0x01, R.FST_INT_STATUS), (0x02, R.PRT_INT_STATUS), (0x03, R.PRS_INT_STATUS), (0x04, R.MAT_INT_STATUS),
    (0x08, R.TMG_INT_STATUS), (0x09, R.CRY_INT_STATUS), (0x0A, R.STO_INT_STATUS), (0x0B, R.HIF_INT_STATUS),
    (0x0C, R.QMG_INT_STATUS), (0x0D, R.ROPE_INT_STATUS), (0x0E, R.MBX_INT_STATUS), (0x0F, R.FLT_INT_STATUS)].map one).sum
    + b2n ((List.range 64).any (fun g => on (R.GAL_INT_STATUS g))) * 2 ^ 5

/-- Whether L1 is blocked (R437). -/
def State.l1Blocked (s : State) (a : Nat) : Bool :=
  s.rd F.FST_STATUS_STATE == 2 && (s.funcsOf a).any (fun f => (s.func f).queues.any (fun e => decide (e.2.st = .enabled)))

/-- The function a read-cap port names, when it belongs to the port's attachment (R477). -/
def State.capFunc (s : State) (a : Nat) : Option Nat :=
  let f := s.rd (F.HIF_READ_CAP_SEL_FUNC a)
  if f < 2056 ∧ s.attOf f = a ∧ (8 ≤ f ∨ s.present a) then some f else none

/-- A register of the host interface. -/
def State.hifView (s : State) (off : Nat) : Word :=
  let a := (off - 0x201000) / 0x1000
  let o := off % 0x1000
  if off < 0x201000 ∨ 0x205000 ≤ off then s.reg off
  else if o = 0 then w64 (putBits (s.reg off).toNat 16 1 (b2n (s.l1Blocked a)))
  else if o = 0x18 then w64 ((s.readsOn a).length + ((s.readsOn a).map (·.bytes)).sum * 2 ^ 32)
  else if o = 0x40 then w64 (match s.capFunc a with | some f => (s.func f).readCap | none => 0)
  else if o = 0x50 then w64 (s.intSummary a)
  else s.reg off

/-- A register of the mailboxes as a party sees it (R542, R548, R558). -/
def State.mbxView (s : State) (who off : Nat) : Word :=
  let m := (off - 0x2100000) / 0x1000
  let o := off % 0x1000
  if 0x2110000 ≤ off then s.reg off
  else if who < 4 ∧ s.mbxReceiver m ≠ who ∧ (List.range 32).all (fun c => s.mbxSender m c != some who) then 0
  else if 0x100 ≤ o ∧ o < 0x300 ∧ o % 16 = 0 then
    let c := (o - 0x100) / 16
    let full := s.mbxFull m c
    let stale := full && (match s.mbxSender m c with
      | some p => s.rd (F.MBX_CHAN_SENDER_GEN m c) != s.partyGen p
      | none => false)
    w64 (putBits (putBits (s.reg off).toNat 0 1 (b2n full)) 20 1 (b2n stale))
  else s.reg off

/-- What the register at an offset shows a party, beside a slot of a mailbox (R13, R42, R58, R243). -/
def State.view (s : State) (who off : Nat) : Word :=
  if off = R.FST_FREQ_ADJ then (if s.rd F.FST_STATUS_STATE = 0 then 0 else s.reg off)
  else if off = R.QMG_POOL then w64 s.poolView
  else if 0x400200 ≤ off ∧ off < 0x400280 then
    let a := (off - 0x400200) / 0x20
    let o := (off - 0x400200) % 0x20
    if o = 8 then w64 (s.func (s.rd (F.QMG_FUNC_SEL_FUNC a))).data
    else if o = 0x18 then
      w64 (s.queueData (s.rd (F.QMG_QUEUE_SEL_FUNC a)) (s.rd (F.QMG_QUEUE_SEL_KIND a)) (s.rd (F.QMG_QUEUE_SEL_QUEUE a)))
    else s.reg off
  else if 0x200000 ≤ off ∧ off < 0x400000 then s.hifView off
  else if R.MAT_STEER 0 ≤ off ∧ off ≤ R.MAT_STEER 511 then Map.get s.path.steerNext (s.reg off) ((off - R.MAT_STEER 0) / 8)
  else if 0x1000000 ≤ off ∧ off < 0x1400000 then s.galView off
  else if 0x2000000 ≤ off ∧ off < 0x2100000 then
    let e := (off - 0x2001000) / 0x1000
    if 0x2001000 ≤ off ∧ off < 0x2009000 ∧ off % 0x1000 = 0 then
      w64 (putBits (putBits (s.reg off).toNat 0 10 (s.ropeReads e)) 16 14 (s.ropeCells e))
    else s.reg off
  else if 0x2100000 ≤ off ∧ off < 0x2200000 then s.mbxView who off
  else s.reg off

/-- The slot word at an offset: mailbox, channel, word. -/
def slotAt (off : Nat) : Option (Nat × Nat × Nat) :=
  let o := off % 0x1000
  if 0x2100000 ≤ off ∧ off < 0x2110000 ∧ 0x800 ≤ o ∧ o % 8 = 0 then
    some ((off - 0x2100000) / 0x1000, (o - 0x800) / 0x40, (o - 0x800) % 0x40 / 8)
  else none

/-- Read the register at an offset; `high` says that the high half is among what is read, which for word 7 of a slot takes the message
(R11, R544). -/
def State.fabricRead (s : State) (who rid off : Nat) (high : Bool) : Word × State :=
  match slotAt off with
  | some (m, c, w) =>
    let (v, t) := s.mbxRead who rid m c w
    if w = 7 ∧ ¬ high ∧ ¬ s.mbxClosed who m c ∧ s.mbxReceiver m = who then (v, s) else (v, t)
  | none => (s.view who off, s)

/-- Whether an offset is that of a register. -/
def isReg (off : Nat) : Bool := (findRow (regRowsAt off) off).isSome

end Sys2Proof.Machine
end

