-- ==== Sys2Proof/Machine/Access.lean ====
section
/-! DEFINITION. Machine/Access.lean: register accesses (R9-R13, R42-R46, R645, R646), writes of configuration space and of MSI-X tables,
and packets that control firmware injects (R154). -/

namespace Sys2Proof.Machine

open Sys2Proof

set_option cleanup.letToHave false

/-! Writing a register (R12, R13) -/

/-- A field's new bits by its access code. -/
def writeField (old v : Nat) (f : FldRow) : Nat :=
  let n := bitsOf v f.lo f.w
  let o := bitsOf old f.lo f.w
  match f.acc with
  | .rw => putBits old f.lo f.w n
  | .rw1c => putBits old f.lo f.w (o &&& (2 ^ f.w - 1 - n))
  | .rw1s => putBits old f.lo f.w (o ||| n)
  | _ => old

/-- A write to a register whose fields only store, clear or set (R13). -/
def State.plainWrite (s : State) (off : Nat) (row : RegRow) (v : Word) : State :=
  s.setReg off (w64 (row.flds.foldl (fun o f => writeField o v.toNat f) (s.reg off).toNat))

/-- A field of the word that a write of bits [63:32] alone amounts to (R12). -/
def hiField (cur v : Nat) (f : FldRow) (n : Nat) : Nat :=
  let hi := v / 2 ^ 32 * 2 ^ 32
  if 32 ≤ f.lo then n + bitsOf hi f.lo f.w * 2 ^ f.lo
  else if f.lo + f.w ≤ 32 then (if f.acc = .rw then n + bitsOf cur f.lo f.w * 2 ^ f.lo else n)
  else
    let low := if f.acc = .rw then cur % 2 ^ 32 else 0
    n + bitsOf (hi + low) f.lo f.w * 2 ^ f.lo

/-- The word that a write of bits [63:32] alone amounts to: fields below bit 32 as they are and without action (R12). -/
def hiWord (row : RegRow) (cur v : Word) : Word := w64 (row.flds.foldl (fun n f => hiField cur.toNat v.toNat f n) 0)

/-- A write to an error counter, COUNT at bit `lo`: 0 clears COUNT and SAT, anything else is ignored (R202, R645). -/
def State.errWrite (s : State) (off lo : Nat) (v : Word) : State :=
  if (if lo = 0 then v.toNat else bitsOf v.toNat lo 32) = 0 then (s.wr (fld off lo 32) 0).wr (fld off (lo + 32) 1) 0 else s

/-- A write to the GRT window (R42). -/
def State.grtWrite (s : State) (a rid off : Nat) : State :=
  let s := s.err R.FLT_ACCESS_CNT
  s.accessFault 2 a off rid (s.cnt R.FLT_ACCESS_CNT) (if a < 4 then some a else none)

/-- Whether bit i of a word is 1. -/
def wBit (v : Word) (i : Nat) : Bool := bitOf v.toNat i

/-- A write of HIF_READ_CAP_DATA (R477). -/
def State.capWrite (s : State) (a v : Nat) : State :=
  match s.capFunc a with
  | some f => s.updFunc f (fun x => { x with readCap := v % 8192 })
  | none => s

/-- A write to a mailbox register (R542-R545, R558, R559): one after another for the bits written. -/
def State.mbxWrite (s : State) (who rid off : Nat) (v : Word) : State :=
  let m := (off - 0x2100000) / 0x1000
  let o := off % 0x1000
  let bits := (List.range 32).filter (wBit v)
  if o = 0 then s.each bits (fun t c => t.mbxRing who rid m c)
  else if o = 8 then s.mbxMask who m false (v.toNat % 2 ^ 32)
  else if o = 0x10 then s.each bits (fun t c => t.mbxClear who rid m c)
  else if o = 0x18 then s.mbxMask who m true (v.toNat % 2 ^ 32)
  else match slotAt off with
    | some (m, c, w) => s.mbxStore who rid m c w v
    | none => s

/-- Writes that do more than store (R53, R234, R235, R243, R354-R358, R392, R393, R417, R429, R470, R578, R579, R586, R634, R686):
none for a register without such a rule. -/
def State.actWrite (s : State) (who rid off : Nat) (v : Word) : Option State :=
  let n := v.toNat
  if off = R.GLB_RESET_CTRL then some (s.resetCtrl v)
  else if 0x100100 ≤ off ∧ off < 0x100180 ∧ off % 0x20 = 0 then
    some (if wBit v 0 then s.snapshot ((off - 0x100100) / 0x20) else s)
  else if 0x201000 ≤ off ∧ off < 0x205000 ∧ off % 0x1000 = 0x30 then
    some (if wBit v 16 then s.winCommit ((off - 0x201000) / 0x1000) (n % 2 ^ 16) else s)
  else if 0x201000 ≤ off ∧ off < 0x205000 ∧ off % 0x1000 = 0x40 then some (s.capWrite ((off - 0x201000) / 0x1000) n)
  else if R.MAT_STEER 0 ≤ off ∧ off ≤ R.MAT_STEER 511 then
    let k := (off - R.MAT_STEER 0) / 8
    some { s with path := { s.path with steerNext := Map.insert (Map.erase s.path.steerNext k) k (v &&& 0x3F3F3F3F3F3F3F3F) } }
  else if 0x1000000 ≤ off ∧ off < 0x1400000 ∧ off % 0x10000 = 0x68 then
    some (if wBit v 63 then s.sumpAbort ((off - 0x1000000) / 0x10000) (n % 64) else s)
  else if 0x1000000 ≤ off ∧ off < 0x1400000 ∧ 0x2000 ≤ off % 0x10000 ∧ off % 0x800 = 8 then
    some (s.setEvents ((off - 0x1000000) / 0x10000) ((off % 0x10000 - 0x2000) / 0x800) n)
  else if 0x1800200 ≤ off ∧ off < 0x1800300 ∧ off % 0x40 = 0 then
    let a := (off - 0x1800200) / 0x40
    if wBit v 25 then
      some (if wBit v 24 then s.tmTableWrite a (bitsOf n 0 4) (bitsOf n 4 18) else s.tmTableRead a (bitsOf n 0 4) (bitsOf n 4 18))
    else none
  else if 0x1800800 ≤ off ∧ off < 0x1800A00 ∧ off % 0x20 = 0 then some (s.sampleCfg ((off - 0x1800800) / 0x20) v)
  else if 0x1800800 ≤ off ∧ off < 0x1800A00 ∧ off % 0x20 = 8 then some (s.sampleRing ((off - 0x1800800) / 0x20) v)
  else if 0x1C00200 ≤ off ∧ off < 0x1C00300 ∧ off % 0x40 = 0 then
    if wBit v 24 then some (s.sessPortRead ((off - 0x1C00200) / 0x40) (bitsOf n 0 22) (bitsOf n 22 2)) else none
  else if 0x1C01000 ≤ off ∧ off < 0x1C05000 then some (s.secyWrite off v)
  else if 0x1E00200 ≤ off ∧ off < 0x1E00300 ∧ off % 0x40 = 0 then
    if wBit v 25 then some (s.stoCtxRead ((off - 0x1E00200) / 0x40) (bitsOf n 0 2) (bitsOf n 2 22) (bitsOf n 24 1)) else none
  else if off = R.STO_TCP_CFG then some (s.stoTcpCfg v)
  else if 0x2100000 ≤ off ∧ off < 0x2110000 then some (s.mbxWrite who rid off v)
  else if 0x2200080 ≤ off ∧ off < 0x22000C0 ∧ off % 0x10 = 0 then
    if wBit v 30 then
      some (s.moduleAccess ((off - 0x2200080) / 0x10) (bitsOf n 0 2) (bitsOf n 2 8) (bitsOf n 10 8) (bitsOf n 18 8) (bitsOf n 26 3) (wBit v 29))
    else none
  else if 0x2201000 ≤ off ∧ off < 0x2202000 ∧ off % 0x200 = 0x18 then some (s.pfcCfg ((off - 0x2201000) / 0x200) v)
  else if 0x2201000 ≤ off ∧ off < 0x2202000 ∧ off % 0x200 = 0x28 then some (s.preemptCfg ((off - 0x2201000) / 0x200) v)
  else none

/-- Write all 64 bits of a register, or with `hi` bits [63:32] alone (R10, R12, R13, R42). -/
def State.regWrite (s : State) (who rid off : Nat) (v : Word) (hi : Bool) : State :=
  if 0x2600000 ≤ off ∧ off < 0x2800000 then s.grtWrite who rid off
  else
    match findRow (regRowsAt off) off with
    | none => s
    | some row =>
      let v := if hi then hiWord row (s.view who off) v else v
      match row.kind with
      | .errCnt lo => if hi ∧ lo = 0 then s else s.errWrite off lo v
      | .stat => s
      | .plain =>
        match s.actWrite who rid off v with
        | some t => t
        | none => (s.plainWrite off row v).faultPending

/-! Accesses by row (R9-R12, R42, R45, R645) -/

/-- BAD_SIZE_REGISTER_ACCESS by attachment a (R9). -/
def execBadSizeRegisterAccess (a rid off : Nat) (read : Bool) (s : State) : Out :=
  if ¬ s.barOpen (2 * a) then .next (s.barRefuse (2 * a) read) else
  let s := s.err R.FLT_ACCESS_CNT
  let s := s.accessFault 1 a off rid (s.cnt R.FLT_ACCESS_CNT) (some a)
  .next (if read then s.emit (.readData a 0) else s)

/-- The split-access latches of an attachment. -/
def State.splitOf (s : State) (a : Nat) : Split := Map.get s.split {} a

/-- Set them. -/
def State.setSplit (s : State) (a : Nat) (x : Split) : State := { s with split := Map.set s.split {} a x }

/-- LOW_HALF_READ of the register at `off` (R11). -/
def execLowHalfRead (a rid off : Nat) (s : State) : Out :=
  if ¬ s.barOpen (2 * a) then .next (s.barRefuse (2 * a) true)
  else if isReg off then
    let (v, s) := s.fabricRead a rid off false
    let h := BitVec.ofNat 32 (v.toNat / 2 ^ 32)
    .next ((s.setSplit a { s.splitOf a with rdOff := off, rdHeld := true, rdHigh := h }).emit (.readData a (v.toNat % 2 ^ 32)))
  else .next (s.emit (.readData a 0))

/-- HIGH_HALF_READ of the register at `off`: what the latch holds for it, else its current high half (R11). -/
def execHighHalfRead (a rid off : Nat) (s : State) : Out :=
  if ¬ s.barOpen (2 * a) then .next (s.barRefuse (2 * a) true) else
  let x := s.splitOf a
  let (v, s) := s.fabricRead a rid off true
  if x.rdHeld ∧ x.rdOff = off then
    .next ((s.setSplit a { x with rdHeld := false, rdOff := 0, rdHigh := 0 }).emit (.readData a x.rdHigh.toNat))
  else .next (s.emit (.readData a (v.toNat / 2 ^ 32)))

/-- LOW_HALF_WRITE: held without effect, replacing what was held (R12, R42). -/
def execLowHalfWrite (a rid off : Nat) (v : BitVec 32) (s : State) : Out :=
  if ¬ s.barOpen (2 * a) then .next (s.barRefuse (2 * a) false)
  else if 0x2600000 ≤ off ∧ off < 0x2800000 then .next (s.grtWrite a rid off)
  else if isReg off then .next (s.setSplit a { s.splitOf a with wrOff := off, wrHeld := true, wrLow := v })
  else .next s

/-- HIGH_HALF_WRITE: with the held low half all 64 bits, else bits [63:32] alone (R12). -/
def execHighHalfWrite (a rid off : Nat) (v : BitVec 32) (s : State) : Out :=
  if ¬ s.barOpen (2 * a) then .next (s.barRefuse (2 * a) false) else
  let x := s.splitOf a
  if x.wrHeld ∧ x.wrOff = off then
    let s := s.setSplit a { x with wrHeld := false, wrOff := 0, wrLow := 0 }
    .next (s.regWrite a rid off (v ++ x.wrLow) false)
  else .next (s.regWrite a rid off (v ++ 0#32) true)

/-- ERROR_COUNTER_WRITE of the error counter at `off` (R645, R646). -/
def execErrorCounterWrite (off : Nat) (v : Word) (s : State) : Out :=
  match findRow (regRowsAt off) off with
  | some row => match row.kind with
    | .errCnt lo => .next (s.errWrite off lo v)
    | _ => .next s
  | none => .next s

/-- DOORBELL_BAD_WRITE at an offset of function f's doorbell BAR (R37). -/
def execDoorbellBadWrite (f rid off : Nat) (s : State) : Out :=
  if ¬ s.barOpen f then .next (s.barRefuse f false) else
  let s := s.badDb
  .next (s.accessFault 4 (s.attOf f) off rid (s.cnt R.QMG_BAD_DB_CNT) (some (s.attOf f)))

/-- GRT_WINDOW_WRITE by attachment a (R42). -/
def execGrtWindowWrite (a rid off : Nat) (s : State) : Out :=
  if s.partyOpen a then .next (s.grtWrite a rid off) else .next (s.barRefuse (2 * a) false)

/-! Configuration space (R438-R442, R449, R453-R457, R464, R467) -/

/-- Upper limits of the completion timeout ranges of PCIe Base 6.0 in milliseconds; 50 for the value 0 (R441, R449). -/
def ctoMs (code : Nat) : Nat :=
  if code = 5 then 55 else if code = 6 then 210 else if code = 9 then 900 else if code = 10 then 3500
  else if code = 13 then 13000 else if code = 14 then 64000 else 50

/-- The VFs of an attachment that the state lists. -/
def State.vfsOf (s : State) (a : Nat) : List Nat := (s.funcsOf a).filter isVf

/-- Whether a VF's BAR 0 is frozen: some interface of the attachment is locked (R467). -/
def State.barFrozen (s : State) (a : Nat) : Bool := (s.vfsOf a).any s.frozen

/-- Change the configuration fields of a function. -/
def State.updCfg (s : State) (f : Nat) (g : Cfg → Cfg) : State := s.updFunc f (fun x => { x with cfg := g x.cfg })

/-- Interrupt Disable: INTx falls when it is set, and rises for what is pending when it is cleared (R455). -/
def State.intxDisable (s : State) (f : Nat) (v : Bool) : State :=
  let c := (s.func f).cfg
  let on := !v && !c.intxPend.isEmpty && !c.msixEn && !c.msiEn
  let s := s.updCfg f (fun c => { c with intDisable := v, intxOn := on })
  if c.intxOn != on then s.emit (.intx f on) else s

/-- A write of a configuration-space field. -/
def State.cfgWrite (s : State) (f : Nat) (fd : CfgField) (v : Nat) : State :=
  let a := s.attOf f
  let b := v % 2 == 1
  let set := s.updCfg f
  let pf := decide (f < 8)
  let bulk := pf && f % 2 == 1
  let mgmt := isMgmt f
  match fd with
  | .memSpace => if pf then set (fun c => { c with memSpace := b }) else s
  | .intDisable => if pf then s.intxDisable f b else s
  | .noSnoop => set (fun c => { c with noSnoop := b })
  | .relaxed => set (fun c => { c with relaxed := b })
  | .mps => set (fun c => { c with mps := v % 8 })
  | .mrrs => set (fun c => { c with mrrs := v % 8 })
  | .tag10 => set (fun c => { c with tag10 := b })
  | .ctoRange =>
    let s := set (fun c => { c with ctoRange := v % 16 })
    if mgmt then s.wr (F.HIF_CTO_EFFECTIVE a) (max (ctoMs (v % 16)) (s.rd (F.HIF_CTO_MIN a))) else s
  | .msiEn => if pf then (set (fun c => { c with msiEn := b })).pendSend f else s
  | .msiMme => if pf then set (fun c => { c with msiMme := min (v % 8) 5 }) else s
  | .msiAddr => if pf then set (fun c => { c with msiAddr := v % 2 ^ 64 }) else s
  | .msiData => if pf then set (fun c => { c with msiData := v % 2 ^ 16 }) else s
  | .msiMask => if pf then (set (fun c => { c with msiMask := v % 2 ^ 32 })).pendSend f else s
  | .msixEn => (set (fun c => { c with msixEn := b })).pendSend f
  | .funcMask => (set (fun c => { c with funcMask := b })).pendSend f
  | .bar0 => if pf then set (fun c => { c with bar0 := v % 2 ^ 64 }) else s
  | .bar2 => if mgmt then set (fun c => { c with bar2 := v % 2 ^ 64 }) else s
  | .bar4 => if mgmt then set (fun c => { c with bar4 := v % 2 ^ 64 }) else s
  | .powerD0 =>
    let s := (set (fun c => { c with d3hot := false })).bmeOn f
    if s.rd (F.HIF_LINK_STATUS_LTSSM a) = 5 then s.wr (F.HIF_LINK_STATUS_LTSSM a) 3 else s
  | .vfEnable => if bulk then set (fun c => { c with vfEnable := b }) else s
  | .vfMemSpace =>
    if bulk then
      let was := (s.func f).cfg.vfMemSpace
      let s := set (fun c => { c with vfMemSpace := b })
      if was && !b then s.each (s.vfsOf a) State.tdiStop else s
    else s
  | .numVfs => if bulk ∧ v ≤ s.rd (F.HIF_VF_RANGE_COUNT a) then set (fun c => { c with numVfs := v }) else s
  | .vfBar0 => if bulk ∧ ¬ s.barFrozen a then set (fun c => { c with vfBar0 := v % 2 ^ 64 }) else s
  | .targetSpeed => if mgmt then set (fun c => { c with targetSpeed := v % 8 }) else s
  | .aspmL1 => if pf then set (fun c => { c with aspmL1 := b }) else s
  | .ptmEnable => if mgmt then set (fun c => { c with ptmEnable := b }) else s
  | .ptmGran => if mgmt then s.wr (F.FST_PTM_STATUS_GRAN a) v else s
  | .atsEnable => if mgmt then set (fun c => { c with atsEnable := b }) else s
  | .aerStatus => s.aerSet f (fun x =>
      { cplTimeout := x.cplTimeout && !bitOf v 0, poisoned := x.poisoned && !bitOf v 1, malformed := x.malformed && !bitOf v 2,
        unsupported := x.unsupported && !bitOf v 3, unexpCpl := x.unexpCpl && !bitOf v 4, ideFail := x.ideFail && !bitOf v 5 })
  | .ideStream k =>
    if mgmt ∧ k < 9 then
      ((s.wr (F.HIF_IDE_STATUS_STREAM_ID a k) v).wrB (F.HIF_IDE_STATUS_ENABLED a k) (bitOf v 8)).ideShow a k
    else s

/-- A write to the MSI-X table of a function (R35, R454). -/
def State.msixWrite (s : State) (f e part v : Nat) : State :=
  if (s.func f).vecTable ≤ e then s
  else
    let g := fun (x : MsixEntry) =>
      if part = 0 then { x with addr := v % 2 ^ 64 } else if part = 1 then { x with data := v % 2 ^ 32 } else { x with masked := v % 2 == 1 }
    (s.updFunc f (fun x => { x with msix := Map.upd x.msix {} e g })).pbaSend f e

/-- REGISTER_WRITE: a write to a register, a configuration-space field, an MSI-X table entry, or of a doorbell whose KIND is reserved
(R13, R43, R44, R486). -/
def execRegisterWrite (t : WriteTo) (s : State) : Out :=
  match t with
  | .reg who rid off v => .next (if s.partyOpen who then s.regWrite who rid off v false else s.barRefuse (2 * who) false)
  | .cfg f fd v => .next (s.cfgWrite f fd v)
  | .msix f e part v => .next (if s.barOpen f then s.msixWrite f e part v else s.barRefuse f false)
  | .doorbell f _ gen => .next (s.doorbell f gen 0 false false false false (fun s => s))

/-! Injection (R154, R310) -/

/-- CF_PACKET_INJECT: control firmware hands a packet to the pipeline; with `id` one of its receive queue. -/
def execCfPacketInject (id : Option Nat) (data : List (BitVec 8)) (s : State) : Out :=
  let q := s.path.cpuQueue
  let d := match id with
    | some i => (q.find? (fun p => p.id == i)).map (·.data)
    | none => some data
  match d with
  | none => .next s
  | some d =>
    let p : Pkt := { data := d }
    let s := { s with path := { s.path with cpuQueue := match id with | some i => noPkt q i | none => q } }
    .next (s.toParse (p.s Md.srcKind 3))

end Sys2Proof.Machine
end

