-- ==== Sys2Proof/Machine/Trust.lean ====
section
/-! DEFINITION. Machine/Trust.lean: the critical commands that act on Grotto: FW_ACTIVATE, PRINCIPAL_REKEY, DEBUG_UNLOCK and
SECURE_ERASE (R608, R615, R622-R627). -/

namespace Sys2Proof.Machine

open Sys2Proof

set_option cleanup.letToHave false

/-- FW_ACTIVATE (R623): DETAIL names the first image that fails. -/
def execFwActivate (f : Nat) (s : State) : Out :=
  .next (s.admCrit f 0x40 [0x101] (fun _ => true) (fun s c =>
    let b := bitsOf (c.word 8) 0 1
    let g := s.imageCheck b 1
    let k := s.imageCheck b 2
    if g ≠ 0 then s.admDone f stBadField { detail := g }
    else if k ≠ 0 then s.admDone f stBadField { detail := k }
    else
      let s1 := s.wr F.GRT_BOOT_STATUS_NEXT_BANK b
      let s1 := if bitOf (c.word 8) 8 then
          (s1.wr F.GRT_BOOT_STATUS_MIN_GROTTO_SVN (max (s.minSvn 1) (s.imgField b 1 4 8 8))).wr F.GRT_BOOT_STATUS_MIN_CTRL_SVN
            (max (s.minSvn 2) (s.imgField b 2 4 8 8))
        else s1
      s1.admDone f stSuccess { r0 := s.imgField b 1 8 32 32 + s.imgField b 2 8 32 32 * 2 ^ 32 }))

/-! PRINCIPAL_REKEY (R608, R615, R622) -/

/-- The slot takes a key and rights; its counter begins again at 0. -/
def State.setPrincipal (s : State) (k key rights : Nat) : State :=
  let g := { s.grt with prinKey := Map.set s.grt.prinKey 0 k key,
                        ctrs := Map.erase (Map.erase s.grt.ctrs (2 * k)) (2 * k + 1) }
  let s := { s with grt := g }
  (s.setReg (R.GRT_PRINCIPAL k) (BitVec.ofNat 64 (1 + rights % 2 ^ 13 * 2 ^ 16))).setReg (R.GRT_COUNTER k) 0

/-- The slot is emptied. -/
def State.clearPrincipal (s : State) (k : Nat) : State :=
  let g := { s.grt with prinKey := Map.erase s.grt.prinKey k, ctrs := Map.erase (Map.erase s.grt.ctrs (2 * k)) (2 * k + 1) }
  (({ s with grt := g }).setReg (R.GRT_PRINCIPAL k) 0).setReg (R.GRT_COUNTER k) 0

/-- Whether the issuing principal may rekey a slot (R615); slot 0 in OPEN needs none (R608). -/
def State.mayRekey (s : State) (c : AdmCmd) (slot : Nat) : Bool :=
  slot != 0 || s.rd F.GRT_STATUS_LIFECYCLE == 0 || bitsOf (c.word 0x48) 0 8 == 0 || s.rdB (F.GRT_PRINCIPAL_EXHAUSTED 0)

/-- The command after its trailer. -/
def State.rekey (s : State) (f : Nat) (c : AdmCmd) : State :=
  let slot := bitsOf (c.word 8) 0 2
  if bitOf (c.word 8) 31 then
    if slot = 0 then s.admDone f stBadField else (s.clearPrincipal slot).admDone f stSuccess
  else if ¬ s.mayRekey c slot then s.admDone f stNotPermitted
  else if envAt (s.hostRead (s.attOf f) (c.word 0x10) 256) 0 32 32 ≠ slot then s.admDone f stBadField
  else
    s.envelope f (c.word 0x10) [3] (fun own => own == 0xFFF) (fun s _ key =>
      let open_ := s.rd F.GRT_STATUS_LIFECYCLE = 0
      let s := s.setPrincipal slot key (if slot = 0 then 0x1FFF else bitsOf (c.word 8) 16 13)
      let s := if open_ then (s.wr F.GRT_STATUS_LIFECYCLE 1).meas5 else s
      s.admDone f stSuccess)

/-- PRINCIPAL_REKEY: in OPEN a rekey of slot 0 is accepted without a trailer. -/
def execPrincipalRekey (f : Nat) (s : State) : Out :=
  let masks := [0x9FFF0003, 2 ^ 64 - 1]
  match s.admCmd f 0x41 true with
  | none => .next s
  | some c =>
    if s.rd F.GRT_STATUS_LIFECYCLE = 0 ∧ bitsOf (c.word 8) 0 2 = 0 then
      .next (if c.reads && c.opRead != 0 then s.admReadFail f c
        else if !c.clean masks then s.admDone f stBadField
        else if s.targetBusy c then s.admDone f stBusy
        else s.rekey f c)
    else .next (s.admCrit f 0x41 masks (fun _ => true) (fun s c => s.rekey f c))

/-! DEBUG_UNLOCK (R624-R626) -/

/-- A new debug nonce. -/
def State.newNonce (s : State) : State :=
  let (v, s) := s.fresh
  s.setReg R.GRT_DEBUG_NONCE (BitVec.ofNat 64 v)

/-- The debug level changes: a rise to 2 or 3 first retires every function-owned key; the level shows in LNT_STATUS (R626, R674). -/
def State.setLevel (s : State) (v : Nat) : State :=
  let old := s.rd F.GRT_STATUS_DEBUG_LEVEL
  let s := if old < v ∧ 2 ≤ v then
      let s := s.each (s.sessionsOf (· != 0xFFF)) (fun t n => t.retireSession n)
      s.each ((s.sto.ns.filter (fun e => bitsOf e.2 16 12 != 0xFFF)).map (·.1)) (fun t n => t.retireNs n)
    else s
  let s := (s.wr F.GRT_STATUS_DEBUG_LEVEL v).wr F.LNT_STATUS_LEVEL v
  if old = v then s else s.meas5

/-- DEBUG_UNLOCK. The debug token holds serial number, level and NOT_AFTER in its first 24 bytes and its signature in its last 96
(log entry 52). -/
def execDebugUnlock (f : Nat) (s : State) : Out :=
  .next (s.admCrit f 0x42 [3, 2 ^ 64 - 1, 2 ^ 64 - 1] (fun _ => true) (fun s c =>
    let lv := bitsOf (c.word 8) 0 2
    let good := c.word 0x10 == (s.reg R.GRT_DEBUG_NONCE).toNat
    let s := s.newNonce
    if !good then s.admDone f stBadField
    else if lv ≠ 3 then (s.setLevel lv).admDone f stSuccess
    else
      let t := s.hostRead (s.attOf f) (c.word 0x18) 256
      if !Config.verifySig 1 (t.take 160) (leNat (t.drop 160)) || leNat (t.take 8) != (s.reg R.GRT_DSN).toNat || leNat ((t.drop 8).take 8) != 3 then
        s.admDone f stAuthFailed
      else if s.rd F.FST_STATUS_STATE ≠ 2 then s.admDone f 0x0C
      else if leNat ((t.drop 16).take 8) < s.fst.sec then s.admDone f stNotPermitted
      else (s.setLevel 3).admDone f stSuccess))

/-! SECURE_ERASE (R627) -/

/-- SECURE_ERASE: every bulk PF and VF is destroyed, every key, principal and counter zeroed, the debug level 0, a new tenant-import key;
Grotto is OPEN. -/
def execSecureErase (f : Nat) (s : State) : Out :=
  .next (s.admCrit f 0x43 [] (fun _ => true) (fun s _ =>
    let s := s.each (s.created.filter (fun n => !isMgmt n)) (fun t n => (t.resetOne n).returnAll n)
    let s := s.each (s.cry.ctx.map (·.1)) (fun t n => t.retireSession n)
    let s := s.each (s.sto.ns.map (·.1)) (fun t n => t.retireNs n)
    let (v, s) := s.fresh
    let s := { s with grt := { s.grt with ptpKey := [], tik := v } }
    let s := s.each (List.range 4) State.clearPrincipal
    let s := (s.wr F.GRT_STATUS_LIFECYCLE 0).setLevel 0
    let s := (s.setReg R.GRT_AUTH_FAIL_CNT 0).setReg R.GRT_SPDM_ERR_CNT 0
    (s.meas5).admDone f stSuccess))

end Sys2Proof.Machine
end

