-- ==== Sys2Proof/Machine/Lantern.lean ====
section
/-! DEFINITION. Machine/Lantern.lean: the commands of the Lantern monitor (R673-R682) and firmware update through PLDM (R671). -/

namespace Sys2Proof.Machine

open Sys2Proof

set_option cleanup.letToHave false

/-- Recovery mode (R672). -/
def State.inRecovery (s : State) : Bool := s.rd F.GRT_BOOT_STATUS_STAGE == 0xFF

/-- Whether Lantern reads a command: control core 0 or, in recovery mode, Grotto serves it, and the last answer has been sent (R673). -/
def State.lntReady (s : State) : Bool :=
  !s.board.held && !s.rdB F.LNT_STATUS_BUSY && (s.rd F.GRT_BOOT_STATUS_STAGE == 3 || s.inRecovery)

/-- ERR and a code (R673, R676). -/
def State.lntErr (s : State) (code : Nat) : State := (s.wr F.LNT_STATUS_LAST_ERR code).emit (.lantern "ERR" [code])

/-- Output lines, then OK (R673). -/
def State.lntOk (s : State) (lines : List (String × List Nat)) : State :=
  (s.each lines (fun t l => t.emit (.lantern l.1 l.2))).emit (.lantern "OK" [])

/-- A command of a level, marked R or not (R674-R676): the checks come in the order unknown, level, arguments. In recovery mode the
commands marked R are served at every level. -/
def State.lnt (s : State) (level : Nat) (rec? : Bool) (args : Bool) (f : State → State) : State :=
  if !s.lntReady then s
  else if s.inRecovery && !rec? then s.lntErr 1
  else if !s.inRecovery && decide (s.rd F.GRT_STATUS_DEBUG_LEVEL < level) then s.lntErr 3
  else if !args then s.lntErr 2
  else f s

/-- The commands with their levels and R marks (R675); `flash` is served in recovery mode alone. -/
def lntCommands : List (String × Nat × Bool) :=
  [("help", 0, true), ("status", 0, true), ("nonce", 0, true), ("lock", 0, false), ("fault", 0, false), ("rd", 1, false),
   ("time", 1, false), ("port", 1, false), ("reset", 1, true), ("wr", 2, false), ("halt", 2, false), ("resume", 2, false),
   ("step", 2, false), ("regs", 2, false), ("bkpt", 2, false), ("sump abort", 2, false), ("core halt", 3, false),
   ("core resume", 3, false), ("core rd", 3, false)]

/-- LNT_HELP. -/
def execLntHelp (s : State) : Out :=
  .next (s.lnt 0 true true (fun s =>
    let ok := fun (c : String × Nat × Bool) => if s.inRecovery then c.2.2 else decide (c.2.1 ≤ s.rd F.GRT_STATUS_DEBUG_LEVEL)
    let l := (lntCommands.filter ok).map (fun c => (c.1, ([] : List Nat)))
    s.lntOk (if s.inRecovery then l ++ [("flash", [])] else l)))

/-- Engines out of service for good. -/
def State.retiredEngines (s : State) : List Nat :=
  (List.range 1088).filter (fun k => s.rd (F.PE_STATUS_STATE (k / 17) (k % 17)) == 2)

/-- LNT_STATUS. -/
def execLntStatus (s : State) : Out :=
  .next (s.lnt 0 true true (fun s => s.lntOk
    [("boot stage", [s.rd F.GRT_BOOT_STATUS_STAGE, s.rd F.GLB_BOOT_CF_STAGE]), ("bank", [s.rd F.GRT_STATUS_BANK]),
     ("versions", [s.rd F.GRT_FW_VERSION_GROTTO_VER, s.rd F.GRT_FW_VERSION_CTRL_VER]), ("flowstone", [s.rd F.FST_STATUS_STATE]),
     ("temp", [s.rd F.FLT_THERM_TEMP]), ("retired", s.rd F.FLT_STATUS_RETIRED_LINES :: s.retiredEngines)]))

/-- LNT_NONCE. -/
def execLntNonce (s : State) : Out :=
  .next (s.lnt 0 true true (fun s => s.lntOk [("nonce", [(s.reg R.GRT_DEBUG_NONCE).toNat])]))

/-- LNT_LOCK: the effect of a DEBUG_UNLOCK of LEVEL 0 (R674). -/
def execLntLock (s : State) : Out := .next (s.lnt 0 false true (fun s => (s.setLevel 0).lntOk []))

/-- What `fault` prints of entry n: its four words, or that it was overwritten (R633). -/
def State.lntFault (s : State) (n : Nat) : String × List Nat :=
  let w := (List.range 4).map (fun j => (s.reg (R.FLT_RING (n % 4096) j)).toNat)
  if (w.getD 2 0) / 2 ^ 48 = n % 65536 ∧ n < s.rd (fld R.FLT_RING_PI 0 32) then ("fault", n :: w) else ("fault", [n])

/-- LNT_FAULT n k. -/
def execLntFault (n k : Nat) (s : State) : Out :=
  .next (s.lnt 0 false (decide (1 ≤ k ∧ k ≤ 64)) (fun s => s.lntOk ((List.range k).map (fun i => s.lntFault (n + i)))))

/-- Reads of registers by control core 0, one after another. -/
def State.lntReads (s : State) (off : Nat) : Nat → List Nat × State
  | 0 => ([], s)
  | k + 1 =>
    let (v, s) := if isReg off then s.fabricRead 4 0 off true else (0#64, s)
    let (l, s) := State.lntReads s (off + 8) k
    (v.toNat :: l, s)

/-- LNT_RD off k. -/
def execLntRd (off k : Nat) (s : State) : Out :=
  .next (s.lnt 1 false (decide (1 ≤ k ∧ k ≤ 64 ∧ off % 8 = 0 ∧ off + 8 * k ≤ 0x4000000)) (fun s =>
    let (l, s) := s.lntReads off k
    s.lntOk [("rd", l)]))

/-- LNT_TIME: control firmware's snapshot is taken and printed (R55). -/
def execLntTime (s : State) : Out :=
  .next (s.lnt 1 false true (fun s =>
    let s := s.snapshotFw
    s.lntOk [("time", [s.fst.fwSnapSec, s.fst.fwSnapNs, s.fst.fwSnapDrip, s.fst.fwSnapSeq])]))

/-- Offsets of a port's counters. -/
def portCounters (p : Nat) : List Nat :=
  ((List.range 64).map (fun i => R.PRT_LINK_STATUS p + 8 * i)).filter (fun off =>
    match findRow (regRowsAt off) off with
    | some row => row.kind != .plain
    | none => false)

/-- LNT_PORT p. -/
def execLntPort (p : Nat) (s : State) : Out :=
  .next (s.lnt 1 false (decide (p < 8)) (fun s => s.lntOk
    [("link", [(s.view 4 (R.PRT_LINK_STATUS p)).toNat]), ("an", [(s.view 4 (R.PRT_AN_CFG p)).toNat]),
     ("counters", (portCounters p).map (fun o => (s.view 4 o).toNat))]))

/-- LNT_RESET: a device reset of RESET_CAUSE 3 (R658). -/
def execLntReset (s : State) : Out := .next (s.lnt 1 true true (fun s => ((s.lntOk []).deviceReset 3).settle))

/-- Whether a row of the register tables holds an RWK field. -/
def RegRow.keyed (r : RegRow) : Bool := r.flds.any (fun f => f.acc == .rwk)

/-- Whether `wr` may write the register at an offset (R675, R676). -/
def lntWritable (off : Nat) : Bool :=
  off % 8 == 0 && !(decide (0x2600000 ≤ off) && decide (off < 0x2800000)) &&
    (match findRow (regRowsAt off) off with
     | some row => !row.keyed
     | none => false)

/-- LNT_WR off v: a write through control core 0 (R677). -/
def execLntWr (off : Nat) (v : Word) (s : State) : Out :=
  .next (s.lnt 2 false (lntWritable off) (fun s => (s.regWrite 4 0 off v false).lntOk []))

/-- A gallery and an engine of it. -/
def engArgs (g e : Nat) : Bool := decide (g < 64) && decide (e < 17)

/-- LNT_HALT g e (R678). -/
def execLntHalt (g e : Nat) (s : State) : Out :=
  .next (s.lnt 2 false (engArgs g e) (fun s =>
    if s.rd (F.PE_STATUS_STATE g e) = 0 then (s.haltEngine g e).lntOk [] else s.lntErr 4))

/-- A halted thread is back in its state before HALTED: a request for a lock is made again with the present cycle, a load is asked for
again (R555, R680). -/
def State.unhalt (s : State) (g e t : Nat) : State :=
  if s.ts g e t ≠ tHalted then s
  else
    let th := s.thr g e t
    let s := s.setTs g e t th.beforeHalt
    let s := if th.beforeHalt = tWaiting ∧ s.rd (F.PE_THREAD_WAIT_KIND g e t) = 4 then
        (s.setTs g e t th.beforeWait).wr (F.PE_THREAD_WAIT_KIND g e t) 0
      else s
    match th.lockAsk with
    | some n =>
      let x := s.gal g
      s.setGal g { x with lockWait := Map.upd x.lockWait [] n (fun l => l ++ [{ unit := unitThread g e t, stamp := s.fst.stamp }]) }
    | none => s

/-- Resume of a thread: one whose packet met its policy, or whose claim was aborted, is stopped; an aborted one's live packet goes to
ON_FAULT (R309, R680, R682). -/
def State.resumeThr (s : State) (g e t : Nat) : State :=
  let th := s.thr g e t
  let s := s.unhalt g e t
  if th.aborted then
    let s := (s.stopThr g e t).updThr g e t (fun x => { x with aborted := false })
    match th.livePkt with
    | some p => (s.retryDone g p 2).onFault g p
    | none => s
  else if th.gone then s.stopThr g e t
  else s

/-- LNT_RESUME g e: the engine returns to dispatch at the next drip boundary (R680). -/
def execLntResume (g e : Nat) (s : State) : Out :=
  .next (s.lnt 2 false (engArgs g e) (fun s =>
    if s.engHalted g e then
      let s := s.setEngn g e { s.engn g e with resuming := true }
      ((s.each (List.range 8) (fun y t => y.resumeThr g e t)).drain g).lntOk []
    else s.lntErr 4))

/-- LNT_STEP g e t n: the thread may issue n instructions, which the commands of its instructions execute; the answer comes with the last
(R681). -/
def execLntStep (g e t n : Nat) (s : State) : Out :=
  .next (s.lnt 2 false (engArgs g e && decide (t < 8) && decide (1 ≤ n) && decide (n ≤ 256)) (fun s =>
    if s.engHalted g e then
      let s := { s with board := { s.board with step := some ⟨g, e, t, n⟩ } }
      ((s.wrB F.LNT_STATUS_BUSY true).unhalt g e t).stepCheck g e t
    else s.lntErr 4))

/-- LNT_STEP_TIMEOUT: an instruction of the step has waited 1,024 cycles; the thread stays at it (R681). -/
def execLntStepTimeout (s : State) : Out :=
  match s.board.step with
  | some x => .next (if s.ts x.gal x.eng x.thr = tWaiting then s.stepEnd x.gal x.eng x.thr false else s)
  | none => .next s

/-- LNT_REGS g e t. -/
def execLntRegs (g e t : Nat) (s : State) : Out :=
  .next (s.lnt 2 false (engArgs g e && decide (t < 8)) (fun s =>
    let th := s.thr g e t
    s.lntOk [("g", (List.range 32).map th.getG), ("pc", [s.pc g e t]), ("loops", th.loops.flatMap (fun f => [f.first, f.last, f.left])),
      ("returns", th.rets), ("state", [s.ts g e t, s.rd (F.PE_THREAD_WAIT_KIND g e t)])]))

/-- BKPT armed or not for an engine (R280). -/
def State.arm (s : State) (g e : Nat) (on : Bool) : State := s.setEngn g e { s.engn g e with armed := on }

/-- LNT_BKPT_ARM g e. -/
def execLntBkptArm (g e : Nat) (s : State) : Out := .next (s.lnt 2 false (engArgs g e) (fun s => (s.arm g e true).lntOk []))

/-- LNT_BKPT_DISARM g e. -/
def execLntBkptDisarm (g e : Nat) (s : State) : Out := .next (s.lnt 2 false (engArgs g e) (fun s => (s.arm g e false).lntOk []))

/-- LNT_SUMP_ABORT g n (R682). -/
def execLntSumpAbort (g n : Nat) (s : State) : Out :=
  .next (s.lnt 2 false (decide (g < 64) && decide (n < 36)) (fun s => (s.sumpAbort g n).lntOk []))

/-- LNT_CORE_HALT c. -/
def execLntCoreHalt (c : Nat) (s : State) : Out :=
  .next (s.lnt 3 false (decide (c < 16)) (fun s =>
    if s.board.coreHalted.contains c then s.lntErr 4
    else { s with board := { s.board with coreHalted := c :: s.board.coreHalted } }.lntOk []))

/-- LNT_CORE_RESUME c. -/
def execLntCoreResume (c : Nat) (s : State) : Out :=
  .next (s.lnt 3 false (decide (c < 16)) (fun s =>
    if s.board.coreHalted.contains c then
      { s with board := { s.board with coreHalted := s.board.coreHalted.filter (· != c) } }.lntOk []
    else s.lntErr 4))

/-- Free words. -/
def State.freshWords (s : State) : Nat → List Nat × State
  | 0 => ([], s)
  | n + 1 =>
    let (v, s) := s.fresh
    let (l, s) := State.freshWords s n
    (v % 2 ^ 64 :: l, s)

/-- LNT_CORE_RD c addr k: what the control core's memory holds is of its firmware, and free. -/
def execLntCoreRd (c addr k : Nat) (s : State) : Out :=
  .next (s.lnt 3 false (decide (c < 16) && decide (1 ≤ k) && decide (k ≤ 64)) (fun s =>
    let (l, s) := s.freshWords k
    s.lntOk [("core rd", addr :: l)]))

/-- Bytes of a bank (R667). -/
abbrev bankSize : Nat := 0xF00000

/-- A command of recovery mode alone. -/
def State.lntFlash (s : State) (args : Bool) (f : State → State) : State :=
  s.lnt 0 true args (fun s => if s.inRecovery then f s else s.lntErr 4)

/-- LNT_FLASH_ERASE b. -/
def execLntFlashErase (b : Nat) (s : State) : Out :=
  .next (s.lntFlash (decide (b < 2)) (fun s =>
    let m := s.board.flash.filter (fun (c : Nat × BitVec 8) => decide (c.1 < bankAt b) || decide (bankAt b + bankSize ≤ c.1))
    { s with board := { s.board with flash := m } }.lntOk []))

/-- LNT_FLASH_WRITE b with the image received. -/
def execLntFlashWrite (b : Nat) (data : List (BitVec 8)) (s : State) : Out :=
  .next (s.lntFlash (decide (b < 2) && decide (data.length ≤ bankSize)) (fun s => (s.flashWrite (bankAt b) data).lntOk []))

/-- LNT_UNKNOWN_COMMAND. -/
def execLntUnknownCommand (s : State) : Out := .next (if s.lntReady then s.lntErr 1 else s)

/-- PLDM_FW_UPDATE of bytes at an offset of bank b: the bank that is not running, or either in recovery mode (R671, R672). -/
def execPldmFwUpdate (b off : Nat) (data : List (BitVec 8)) (s : State) : Out :=
  .next (if s.board.held = false ∧ b < 2 ∧ off + data.length ≤ bankSize
      ∧ (s.inRecovery ∨ (s.rd F.GRT_BOOT_STATUS_STAGE = 3 ∧ b ≠ s.rd F.GRT_STATUS_BANK)) then
    s.flashWrite (bankAt b + off) data
  else s)

end Sys2Proof.Machine
end

