-- ==== Sys2Proof/Machine/Drip.lean ====
section
/-! DEFINITION. Machine/Drip.lean: what every drip boundary does (R60), and one cycle of the core clock. -/

namespace Sys2Proof.Machine

open Sys2Proof

set_option cleanup.letToHave false

/-- Galleries and engines by number. -/
abbrev galleries : List Nat := List.range 64

/-- Recorded deadlines follow a reload of the drip number (R83). -/
def State.reloadDeadlines (s : State) : Option Nat → State
  | some d => s.each galleries (fun t g => t.shiftDeadlines g (fun x => (x + d) % 2 ^ 64))
  | none => s

/-- The drips of the engine checks that run (R312). -/
def State.checkDrips (s : State) : State :=
  s.each galleries (fun t g =>
    let x := t.gal g
    let hws := x.hws.map (fun (h : HwFault) => if h.active ∧ h.started ∧ h.result = none then { h with drips := h.drips + 1 } else h)
    t.setGal g { x with hws := hws })

/-- Engines resumed by Lantern return to dispatch (R680). -/
def State.resumeEngines (s : State) : State :=
  s.each ((s.eng.eng.filter (fun e => e.2.resuming)).map (·.1)) (fun t k =>
    let g := k / 17
    let e := k % 17
    let t := t.setEngn g e { t.engn g e with resuming := false }
    (t.wr (F.PE_STATUS_STATE g e) 0).wr F.LNT_STATUS_HALTED (t.rd F.LNT_STATUS_HALTED - 1))

/-- Entries of the steering table written since the last boundary take effect (R243). -/
def State.steerApply (s : State) : State :=
  let t := s.each s.path.steerNext (fun t e => t.setReg (R.MAT_STEER e.1) e.2)
  { t with path := { t.path with steerNext := [] } }

/-- Shares as admission uses them in the drip that begins (R296, R300). -/
def State.takeShares (s : State) : State :=
  let m : Map Nat := (s.funcs.filter (fun e => e.2.share != 0)).map (fun e => (e.1, e.2.share))
  { s with eng := { s.eng with shares := m } }

/-- Event bit 24 of every engine (R235). -/
def State.tickEvents (s : State) : State := { s with eng := { s.eng with tick24 := true, cleared24 := [] } }

/-- The block interrupts that are due (R718). -/
def State.blockInts (s : State) : State :=
  let l := s.blkInt.map (·.1)
  { s with blkInt := [] }.each l (fun t a => t.sendInt (2 * a) (t.rd (F.HIF_DEV_INT_VEC_VECTOR a)))

/-- The messages of rings and virtqueues (R504, R518). -/
def State.ringInts (s : State) : State :=
  s.each (s.funcs.map (·.1)) (fun t f =>
    (t.moderate f).each ((t.func f).queues.map (·.1)) (fun u k => u.vqNotify f (k / 4096) (k % 4096)))

/-- The dispatchers' part of a drip boundary. -/
def State.dripGalleries (s : State) (d : Option Nat) : State :=
  let s := ((((s.reloadDeadlines d).checkDrips).resumeEngines).steerApply).takeShares
  (s.each galleries (fun t g => (t.enterDrip g).admitDrip g)).tickEvents

/-- The traffic manager's part. -/
def State.dripTm (s : State) : State := (s.policeRefill.tmRefill).each (List.range 8) (fun t p => t.gateBoundary p)

/-- What storage, Rope and the messages to hosts do. -/
def State.dripHosts (s : State) : State := (((s.qpRefill.ropeDrip).ringInts).blockInts).mbxDrip

/-- DRIP_BOUNDARY: the drip's cycles end, the next drip begins, and every action of a boundary runs: the clock, then the dispatchers,
the traffic manager, storage, Rope, and the messages to hosts (R60). -/
def execDripBoundary (s : State) : Out :=
  if s.board.held then .next s
  else
    let r := s.dripClock
    .next (((r.2.dripGalleries r.1).dripTm).dripHosts)

/-- One cycle of the core clock: what the device does with no command waiting (log entry 2). -/
def State.tick (s : State) : State := if s.board.held then s else s.clockCycle.ncDrain

end Sys2Proof.Machine
end

