-- ==== Sys2Proof/Machine/HostTx.lean ====
section
/-! DEFINITION. Machine/HostTx.lean: transmit queues: descriptors of a frame, its payload reads, and its completion entry (R496,
R498-R501). -/

namespace Sys2Proof.Machine

open Sys2Proof

set_option cleanup.letToHave false

/-- One native transmit descriptor (R496). -/
structure TxDesc where
  addr : Nat
  len : Nat
  eop : Bool
  tstamp : Bool
  hint : Bool
  tag : Nat
  recSeq : Nat
  recTcp : Nat
  noSend : Nat
  deriving DecidableEq, Repr

/-- The descriptor at a running index of a queue. -/
def State.txDescAt (s : State) (a : Nat) (q : Queue) (i : Nat) : TxDesc :=
  let d := q.base + 32 * (i % 2 ^ q.log2)
  let w := s.hostLe a (d + 8) 8
  let x := s.hostLe a (d + 24) 8
  { addr := s.hostLe a d 8, len := bitsOf w 0 14, eop := bitOf w 14, tstamp := bitOf w 16, hint := bitOf w 17, tag := bitsOf w 32 32,
    recSeq := s.hostLe a (d + 16) 8, recTcp := bitsOf x 0 32, noSend := bitsOf x 32 14 }

/-- The descriptors from an index on up to the first with EOP, at most n. -/
def State.txDescs (s : State) (a : Nat) (q : Queue) (i : Nat) : Nat → List TxDesc
  | 0 => []
  | n + 1 =>
    let d := s.txDescAt a q i
    if d.eop then [d] else d :: State.txDescs s a q (i + 1) n

/-- Whether descriptors make a bad frame (R499). -/
def txBad (l : List TxDesc) : Bool :=
  decide (16 < l.length) || l.any (fun d => d.len == 0) || (l.drop 1).any (fun d => d.hint)

/-- The lengths of the reads of a buffer: at most Max_Read_Request_Size each, none across a 4 KiB boundary. -/
def readParts (mrrs : Nat) : Nat → Nat → Nat → List Nat
  | _, _, 0 => []
  | addr, len, n + 1 =>
    if len = 0 then []
    else
      let k := min len (min mrrs (4096 - addr % 4096))
      k :: readParts mrrs (addr + k) (len - k) n

/-- A frame is taken: its reads are asked for, or where it has none it enters at once. -/
def State.txTake (s : State) (f k q : Nat) (e : TxPend) : State :=
  let m := 128 * 2 ^ (s.func f).cfg.mrrs
  let parts := e.segs.flatMap (fun x => readParts m x.1 x.2 x.2)
  let s := s.updQue f k q (fun x => { x with txPend := x.txPend ++ [{ e with left := parts.length }] })
  let s := s.each parts (fun t n => t.askRead f n (.tx k q e.desc))
  if parts = [] then s.txEnterAll f k q (s.que f k q).txPend else s

/-- Reserve a completion entry. -/
def State.reserveCq (s : State) (f cq : Nat) : State :=
  s.updFunc f (fun x => { x with cqs := Map.upd x.cqs {} cq (fun r => { r with reserved := r.reserved + 1 }) })

/-- A native queue's next frame: the rest of a discarded frame is passed over; a bad frame completes with STATUS 3 (R499). -/
def State.txNative (s : State) (f n : Nat) : State :=
  let q := s.que f 0 n
  let avail := (q.pi + 65536 - q.ci) % 65536
  let l := s.txDescs (s.attOf f) q q.ci avail
  let whole := match l.getLast? with | some d => d.eop | none => false
  let go := fun (s : State) (skip : Bool) => s.updQue f 0 n (fun q => { q with ci := (q.ci + l.length) % 65536, skip := skip })
  let r := Map.get (s.func f).cqs {} q.cq
  if avail = 0 then s
  else if q.skip then go s (!whole)
  else if !(r.on && r.room) then s
  else
    match l with
    | [] => s
    | d :: _ =>
      let e : TxPend := { desc := q.ci, tag := d.tag, bufs := l.length, tstamp := d.tstamp, status := none, tsNs := 0, tsFrac := 0,
                          aligned := false, segs := l.map (fun x => (x.addr, x.len)),
                          hint := if d.hint then some (d.recSeq, d.recTcp, d.noSend) else none }
      if txBad l then
        let e := { e with status := some 3, segs := [], entered := true }
        (go (s.reserveCq f q.cq) (!whole)).updQue f 0 n (fun x => { x with txPend := x.txPend ++ [e] })
      else if !whole then s
      else (go (s.reserveCq f q.cq) false).txTake f 0 n e

/-- A virtio-net transmit queue's next chain. -/
def State.txVirtio (s : State) (f n : Nat) : State :=
  match s.vqNext f 6 n with
  | none => s
  | some c =>
    let e : TxPend := { desc := (s.que f 6 n).ci, tag := c.id, bufs := c.count, tstamp := false, status := none, tsNs := 0, tsFrac := 0,
                        aligned := false, segs := (c.bufs.filter (fun b => !b.wr)).map (fun b => (b.addr, b.len)) }
    (s.vqTake f 6 n c).txTake f 6 n e

/-- TX_DESCRIPTOR_FETCH: transmit queue q of kind 0, or virtqueue q of kind 6, reads the descriptors of its next frame and asks for its
payload; a queue that backpressure holds does not (R331, R496, R517). -/
def execTxDescriptorFetch (f k q : Nat) (s : State) : Out :=
  if s.queRuns f k q ∧ s.mayRequest f ∧ ¬ s.srcHeld (.host f (qKey k q)) then
    if k = 0 then .next (s.txNative f q) else if k = 6 ∧ q % 2 = 1 then .next (s.txVirtio f q) else .next s
  else .next s

/-- Whether a frame's completion may be written (R501). -/
def TxPend.ready (e : TxPend) : Bool := e.entered && e.left == 0 && (!e.tstamp || e.status.isSome)

/-- TX_COMPLETION_WRITE: the completion of the oldest frame of a queue, once it is due; entries are written in descriptor order (R498,
R501). -/
def execTxCompletionWrite (f k q : Nat) (s : State) : Out :=
  let x := s.que f k q
  match x.txPend with
  | [] => .next s
  | e :: t =>
    if e.ready ∧ s.mayRequest f ∧ s.hasQue f k q then
      let s := s.updQue f k q (fun y => { y with txPend := t })
      if k = 6 then .next (s.vqUsed f 6 q { id := e.tag, bufs := [], count := e.bufs } 0)
      else
        let st := e.status.getD 0
        let ts := e.tstamp && st == 0
        let w := cqeWords e.desc q 0 e.tag (if ts then e.tsNs else 0) (if ts then e.tsFrac else 0) 0 e.bufs 0 st 0 0 false (ts && e.aligned)
        .next (s.cqeWrite f x.cq (w.getD 0 0) (w.getD 1 0) (w.getD 2 0) (w.getD 3 0) true)
    else .next s

end Sys2Proof.Machine
end

