-- ==== Sys2Proof/Machine/Ncsi.lean ====
section
/-! DEFINITION. Machine/Ncsi.lean: the NC-SI commands and pass-through (R589-R592). What each command does on a channel is
DMTF NC-SI 1.2's, which the spec cites (log entry 40). -/

namespace Sys2Proof.Machine

open Sys2Proof

set_option cleanup.letToHave false

/-- Change the package's state. -/
def State.updPkg (s : State) (f : NcPkg → NcPkg) : State := { s with prt := { s.prt with nc := f s.prt.nc } }

/-- A response. -/
def State.ncReply (s : State) (c kind code reason : Nat) (vals : List Nat) : State := s.emit (.ncsi c kind code reason vals)

/-- A command reaches the package: one with a bad checksum is dropped and counted (R593); without NCSI_REFCLK nothing is
received (R700); any but Deselect Package selects the package. -/
def State.ncTake (s : State) (sumOk : Bool) (k : State → State) : State :=
  if !s.board.ncsiClk then s
  else if !sumOk then s.updPkg (fun x => { x with sumErrs := x.sumErrs + 1 })
  else k (s.updPkg (fun x => { x with cmds := x.cmds + 1 }))

/-- A command that acts on channel c, in initial state answered 0x0001, reason 0x0001. -/
def State.ncCmd (s : State) (c kind : Nat) (sumOk : Bool) (k : State → State × List Nat) : State :=
  s.ncTake sumOk (fun s =>
    let s := s.wrB F.PRT_NCSI_STATUS_SELECTED true
    if bitOf (s.rd F.PRT_STATUS_CONFIGURED) c = false then s.ncReply c kind 0x0003 0x7FFF []
    else if (s.nc c).ready = false then s.ncReply c kind 0x0001 0x0001 []
    else
      let (s, vals) := k s
      s.ncReply c kind 0 0 vals)

/-- A command with no values in its response. -/
def State.ncDo (s : State) (c kind : Nat) (sumOk : Bool) (k : State → State) : State :=
  s.ncCmd c kind sumOk (fun s => (k s, []))

/-- A channel's enable bits of PRT_NCSI_STATUS. -/
def State.ncEnable (s : State) (c : Nat) (b : Bool) : State :=
  s.wr F.PRT_NCSI_STATUS_CH_ENABLED (putBits (s.rd F.PRT_NCSI_STATUS_CH_ENABLED) c 1 (b2n b))
def State.ncTx (s : State) (c : Nat) (b : Bool) : State :=
  s.wr F.PRT_NCSI_STATUS_TX_ENABLED (putBits (s.rd F.PRT_NCSI_STATUS_TX_ENABLED) c 1 (b2n b))

/-- NCSI_CLEAR_INITIAL_STATE (0x00). -/
def execNcsiClearInitialState (c : Nat) (sumOk : Bool) (s : State) : Out :=
  .next (s.ncTake sumOk (fun s =>
    let s := s.wrB F.PRT_NCSI_STATUS_SELECTED true
    if bitOf (s.rd F.PRT_STATUS_CONFIGURED) c = false then s.ncReply c 0x00 0x0003 0x7FFF []
    else (s.updNc c (fun x => { x with ready := true })).ncReply c 0x00 0 0 []))

/-- NCSI_SELECT_PACKAGE (0x01). -/
def execNcsiSelectPackage (sumOk : Bool) (s : State) : Out :=
  .next (s.ncTake sumOk (fun s => (s.wrB F.PRT_NCSI_STATUS_SELECTED true).ncReply 0x1F 0x01 0 0 []))

/-- NCSI_DESELECT_PACKAGE (0x02). -/
def execNcsiDeselectPackage (sumOk : Bool) (s : State) : Out :=
  .next (s.ncTake sumOk (fun s => (s.ncReply 0x1F 0x02 0 0 []).wrB F.PRT_NCSI_STATUS_SELECTED false))

/-- NCSI_ENABLE_CHANNEL (0x03). -/
def execNcsiEnableChannel (c : Nat) (sumOk : Bool) (s : State) : Out :=
  .next (s.ncDo c 0x03 sumOk (fun s => s.ncEnable c true))

/-- NCSI_DISABLE_CHANNEL (0x04). -/
def execNcsiDisableChannel (c : Nat) (sumOk : Bool) (s : State) : Out :=
  .next (s.ncDo c 0x04 sumOk (fun s => s.ncEnable c false))

/-- NCSI_RESET_CHANNEL (0x05): the channel returns to its initial state; its statistics stay. -/
def execNcsiResetChannel (c : Nat) (sumOk : Bool) (s : State) : Out :=
  .next (s.ncDo c 0x05 sumOk (fun s =>
    ((s.ncEnable c false).ncTx c false).updNc c (fun x =>
      { rxBmc := x.rxBmc, txBmc := x.txBmc, rxDrop := x.rxDrop, txDrop := x.txDrop })))

/-- NCSI_ENABLE_NETWORK_TX (0x06). -/
def execNcsiEnableNetworkTx (c : Nat) (sumOk : Bool) (s : State) : Out :=
  .next (s.ncDo c 0x06 sumOk (fun s => s.ncTx c true))

/-- NCSI_DISABLE_NETWORK_TX (0x07). -/
def execNcsiDisableNetworkTx (c : Nat) (sumOk : Bool) (s : State) : Out :=
  .next (s.ncDo c 0x07 sumOk (fun s => s.ncTx c false))

/-- NCSI_AEN_ENABLE (0x08): bit 0 Link Status Change, bit 1 Configuration Required, bit 2 Host NC Driver Status Change. -/
def execNcsiAenEnable (c mc mask : Nat) (sumOk : Bool) (s : State) : Out :=
  .next (s.ncDo c 0x08 sumOk (fun s => s.updNc c (fun x => { x with aen := mask % 8, aenMc := mc })))

/-- NCSI_GET_LINK_STATUS (0x0A). -/
def execNcsiGetLinkStatus (c : Nat) (sumOk : Bool) (s : State) : Out :=
  .next (s.ncCmd c 0x0A sumOk (fun s => (s, [s.rd (F.PRT_LINK_STATUS_UP c), s.rd (F.PRT_LINK_STATUS_SPEED c)])))

/-- NCSI_GET_VERSION_ID (0x15): NC-SI 1.2 and the PCI identity (R2, R589). -/
def execNcsiGetVersionId (c : Nat) (sumOk : Bool) (s : State) : Out :=
  .next (s.ncCmd c 0x15 sumOk (fun s => (s, [1, 2, 0x0880, 0x1F9A])))

/-- NCSI_GET_CAPABILITIES (0x16): commands, filters and the receive buffer of R590 and R591. -/
def execNcsiGetCapabilities (c : Nat) (sumOk : Bool) (s : State) : Out :=
  .next (s.ncCmd c 0x16 sumOk (fun s => (s, [8, 16384, 7])))

/-- NCSI_GET_PARAMETERS (0x17): the channel's settings. -/
def execNcsiGetParameters (c : Nat) (sumOk : Bool) (s : State) : Out :=
  .next (s.ncCmd c 0x17 sumOk (fun s =>
    let x := s.nc c
    (s, [b2n (bitOf (s.rd F.PRT_NCSI_STATUS_CH_ENABLED) c), b2n (bitOf (s.rd F.PRT_NCSI_STATUS_TX_ENABLED) c), x.vlanMode,
         x.bcast.getD 0, x.mcast.getD 0, x.aen, x.aenMc] ++ x.macs.map (·.2) ++ x.vlans.map (·.2))))

/-- NCSI_GET_CONTROLLER_STATS (0x18): frames of the channel's port. -/
def execNcsiGetControllerStats (c : Nat) (sumOk : Bool) (s : State) : Out :=
  .next (s.ncCmd c 0x18 sumOk (fun s => (s, [(s.reg (R.PRT_RX_PKTS_CNT c)).toNat, (s.reg (R.PRT_RX_BYTES_CNT c)).toNat,
    (s.reg (R.PRT_TX_PKTS_CNT c)).toNat, (s.reg (R.PRT_TX_BYTES_CNT c)).toNat, s.cnt (R.PRT_RX_FCS_CNT c),
    s.cnt (R.PRT_RX_RUNT_CNT c), s.cnt (R.PRT_RX_OVERSIZE_CNT c)])))

/-- NCSI_GET_NCSI_STATS (0x19): commands received, unsupported, dropped for their checksum. -/
def execNcsiGetNcsiStats (c : Nat) (sumOk : Bool) (s : State) : Out :=
  .next (s.ncCmd c 0x19 sumOk (fun s => (s, [s.prt.nc.cmds, s.prt.nc.unsupported, s.prt.nc.sumErrs])))

/-- NCSI_GET_PASSTHROUGH_STATS (0x1A). -/
def execNcsiGetPassthroughStats (c : Nat) (sumOk : Bool) (s : State) : Out :=
  .next (s.ncCmd c 0x1A sumOk (fun s =>
    let x := s.nc c
    (s, [x.txBmc, x.txDrop, x.rxBmc, x.rxDrop])))

/-- NCSI_SET_MAC_ADDRESS (0x0E): filter `i` takes an address, enabled or not. -/
def execNcsiSetMacAddress (c i addr : Nat) (en sumOk : Bool) (s : State) : Out :=
  .next (s.ncDo c 0x0E sumOk (fun s => s.updNc c (fun x =>
    { x with macs := Map.set x.macs 0 i (if en then addr % 2 ^ 48 + 2 ^ 48 else 0) })))

/-- NCSI_ENABLE_BROADCAST_FILTER (0x10). -/
def execNcsiEnableBroadcastFilter (c mask : Nat) (sumOk : Bool) (s : State) : Out :=
  .next (s.ncDo c 0x10 sumOk (fun s => s.updNc c (fun x => { x with bcast := some mask })))

/-- NCSI_DISABLE_BROADCAST_FILTER (0x11). -/
def execNcsiDisableBroadcastFilter (c : Nat) (sumOk : Bool) (s : State) : Out :=
  .next (s.ncDo c 0x11 sumOk (fun s => s.updNc c (fun x => { x with bcast := none })))

/-- NCSI_ENABLE_MULTICAST_FILTER (0x12). -/
def execNcsiEnableMulticastFilter (c mask : Nat) (sumOk : Bool) (s : State) : Out :=
  .next (s.ncDo c 0x12 sumOk (fun s => s.updNc c (fun x => { x with mcast := some mask })))

/-- NCSI_DISABLE_MULTICAST_FILTER (0x13). -/
def execNcsiDisableMulticastFilter (c : Nat) (sumOk : Bool) (s : State) : Out :=
  .next (s.ncDo c 0x13 sumOk (fun s => s.updNc c (fun x => { x with mcast := none })))

/-- NCSI_SET_VLAN_FILTER (0x0B): filter `i` takes a VLAN ID, enabled or not. -/
def execNcsiSetVlanFilter (c i vid : Nat) (en sumOk : Bool) (s : State) : Out :=
  .next (s.ncDo c 0x0B sumOk (fun s => s.updNc c (fun x =>
    { x with vlans := Map.set x.vlans 0 i (if en then vid % 4096 + 4096 else 0) })))

/-- NCSI_ENABLE_VLAN (0x0C): mode 1 VLAN only, 2 VLAN and untagged, 3 any VLAN and untagged. -/
def execNcsiEnableVlan (c mode : Nat) (sumOk : Bool) (s : State) : Out :=
  .next (s.ncDo c 0x0C sumOk (fun s => s.updNc c (fun x => { x with vlanMode := mode })))

/-- NCSI_DISABLE_VLAN (0x0D). -/
def execNcsiDisableVlan (c : Nat) (sumOk : Bool) (s : State) : Out :=
  .next (s.ncDo c 0x0D sumOk (fun s => s.updNc c (fun x => { x with vlanMode := 0 })))

/-- NCSI_UNSUPPORTED_COMMAND: Set Link and every other command (R590). -/
def execNcsiUnsupportedCommand (c kind : Nat) (sumOk : Bool) (s : State) : Out :=
  .next (s.ncTake sumOk (fun s =>
    ((s.wrB F.PRT_NCSI_STATUS_SELECTED true).updPkg (fun x => { x with unsupported := x.unsupported + 1 })).ncReply
      c kind 0x0003 0x7FFF []))

/-- NCSI_PASSTHROUGH_TX: sent on its channel's port, held for its gate, or dropped and counted (R592). -/
def execNcsiPassthroughTx (c : Nat) (l : List Byte) (s : State) : Out :=
  let x := s.nc c
  let src := beNat ((l.drop 6).take 6)
  if !s.board.ncsiClk then .next s
  else if bitOf (s.rd F.PRT_NCSI_STATUS_TX_ENABLED) c ∧ x.macs.any (fun e => e.2 == src + 2 ^ 48) ∧ s.portSends c then
    if s.gateLets c (s.rd F.PRT_NCSI_STATUS_NCSI_TC) ∧ x.wait = [] then .next (s.ctlFrame c (.pass c l))
    else .next (s.updNc c (fun x => { x with wait := x.wait ++ [l] }))
  else .next (s.updNc c (fun x => { x with txDrop := x.txDrop + 1 }))

end Sys2Proof.Machine
end

