-- ==== Sys2Proof/Machine/ReadEnd.lean ====
section
/-! DEFINITION. Machine/ReadEnd.lean: how a host read ends (R449-R452): completions, timeouts, the one retry, tags in quarantine. -/

namespace Sys2Proof.Machine

open Sys2Proof

set_option cleanup.letToHave false

/-! Completions (R450-R452) -/

/-- What a read that ended well brings. -/
def State.readGood (s : State) (r : Read) : State :=
  match r.why with
  | .entries k q upTo => s.updQue r.func k q (fun x => { x with got := upTo })
  | .tx k q d => s.txRead r.func k q d
  | .rope c i => s.ropeGot r.att c i

/-- What a read that failed for good brings: reason 1 or 2 (R450, R452). -/
def State.readBad (s : State) (r : Read) (why : Nat) : State :=
  match r.why with
  | .entries k q _ => s.queueStop r.func k q why
  | .tx k q d => s.txReadFail r.func k q d why
  | .rope c _ => s.ropeFinish c 5

/-- The queue number of a read, for the fault ring. -/
def Read.qnum (r : Read) : Nat :=
  match r.why with
  | .entries _ q _ => q
  | .tx _ q _ => q
  | .rope c _ => c

/-- The read leaves the outstanding ones. -/
def State.dropRead (s : State) (r : Read) : State := { s with reads := s.reads.erase r }

/-- A read has timed out (cause 1) or was poisoned (cause 2): issued once more with a new tag, or failed; the first failure
is what the fault-ring entry tells of (R450, R641). -/
def State.readAgain (s : State) (r : Read) (cause : Nat) : State :=
  if r.retried then
    let s := s.readFailed r.func r.qnum false r.corr cause (s.cnt (R.HIF_REPLAY_CNT r.att) - r.reps) (s.cnt (R.HIF_RECOVERY_CNT r.att) - r.recs) r.first
    s.readBad r 1
  else
    let (k, s) := s.newCorr
    s.issue { r with retried := true, corr := k, first := some (s.fst.drip, s.rdB F.FST_STATUS_ALIGNED, cause) }

/-- A completion for an outstanding read: status 0 good, 1 UR, 2 CA, 3 poisoned. -/
def State.readDone (s : State) (r : Read) (status : Nat) : State :=
  let s := s.dropRead r
  if r.gen ≠ (s.func r.func).gen then s.stat (R.HIF_GEN_CPL_CNT r.att)
  else if r.discard then (if r.bmeDrop then s.stat (R.HIF_BME_CPL_CNT r.att) else s)
  else if status = 3 then s.readAgain r 2
  else if status = 0 then
    let s := if r.retried then s.err (R.HIF_READ_RETRY_CNT r.att) else s
    let s := if r.retried then
        s.fault { cls := 0x07, cause := match r.first with | some x => x.2.2 | none => 1, drip := r.first.map (·.1), aligned := r.first.map (·.2.1), unit := unitOf 0x07 r.att, corr := r.corr, snapshot := s.cnt (R.HIF_READ_RETRY_CNT r.att),
                  lower := 1, upper := 0, attach := some r.att, detail := r.func % 4096 + r.qnum % 4096 * 2 ^ 16
                    + min 65535 (s.cnt (R.HIF_REPLAY_CNT r.att) - r.reps) * 2 ^ 32 + min 255 (s.cnt (R.HIF_RECOVERY_CNT r.att) - r.recs) * 2 ^ 48 }
      else s
    s.readGood r
  else
    let s := s.readFailed r.func r.qnum true 0 (if status = 1 then 3 else 4) (s.cnt (R.HIF_REPLAY_CNT r.att) - r.reps)
      (s.cnt (R.HIF_RECOVERY_CNT r.att) - r.recs) none
    s.readBad r 2

/-- READ_COMPLETION_RX: a completion for an outstanding read ends it; one for a quarantined tag is late and counted; any other is an
Unexpected Completion (R450-R452, R475). -/
def execReadCompletionRx (a tag status : Nat) (s : State) : Out :=
  match s.reads.find? (fun r => r.att == a && r.tag == tag) with
  | some r => .next (s.readDone r status)
  | none =>
    if s.quar.any (fun q => q.att == a && q.tag == tag) then .next (s.stat (R.HIF_LATE_CPL_CNT a))
    else .next (s.updFunc (2 * a) (fun x => { x with aer := { x.aer with unexpCpl := true } }))

/-- COMPLETION_TIMEOUT: no completion within the effective completion timeout; the tag goes to quarantine (R449-R451). -/
def execCompletionTimeout (a tag : Nat) (s : State) : Out :=
  match s.reads.find? (fun r => r.att == a && r.tag == tag) with
  | some r =>
    let s := s.dropRead r
    let s := { s with quar := s.quar ++ [{ att := a, tag := tag }] }
    if r.gen ≠ (s.func r.func).gen ∨ r.discard then .next s else .next (s.readAgain r 1)
  | none => .next s

/-- TAG_QUARANTINE_END: twice the effective completion timeout has passed, and the tag may be used again (R451). -/
def execTagQuarantineEnd (a tag : Nat) (s : State) : Out :=
  .next { s with quar := s.quar.filter (fun q => !(q.att == a && q.tag == tag)) }

end Sys2Proof.Machine
end

