-- ==== Sys2Proof/Machine/Dispatch.lean ====
section
/-! DEFINITION. Machine/Dispatch.lean: one arm for each command, a direct call of its meaning. -/

namespace Sys2Proof.Machine

def exec (i : Instr) (s : State) : Host.Outcome State Fault Refusal :=
  match i with
  | .badSizeRegisterAccess a rid off read => Sys2Proof.Machine.execBadSizeRegisterAccess a rid off read s
  | .lowHalfRead a rid off => Sys2Proof.Machine.execLowHalfRead a rid off s
  | .highHalfRead a rid off => Sys2Proof.Machine.execHighHalfRead a rid off s
  | .lowHalfWrite a rid off v => Sys2Proof.Machine.execLowHalfWrite a rid off v s
  | .highHalfWrite a rid off v => Sys2Proof.Machine.execHighHalfWrite a rid off v s
  | .registerWrite t => Sys2Proof.Machine.execRegisterWrite t s
  | .errorCounterWrite off v => Sys2Proof.Machine.execErrorCounterWrite off v s
  | .doorbellBadWrite f rid off => Sys2Proof.Machine.execDoorbellBadWrite f rid off s
  | .grtWindowWrite a rid off => Sys2Proof.Machine.execGrtWindowWrite a rid off s
  | .dripBoundary => Sys2Proof.Machine.execDripBoundary s
  | .voteBoundary => Sys2Proof.Machine.execVoteBoundary s
  | .timeSourceSet f => Sys2Proof.Machine.execTimeSourceSet f s
  | .timeSourceApply => Sys2Proof.Machine.execTimeSourceApply s
  | .timeStep f => Sys2Proof.Machine.execTimeStep f s
  | .timeStepApply => Sys2Proof.Machine.execTimeStepApply s
  | .realignCountExpiry => Sys2Proof.Machine.execRealignCountExpiry s
  | .oscInLoss => Sys2Proof.Machine.execOscInLoss s
  | .oscInReturn => Sys2Proof.Machine.execOscInReturn s
  | .fdpllInputLoss => Sys2Proof.Machine.execFdpllInputLoss s
  | .snapshotTake who => Sys2Proof.Machine.execSnapshotTake who s
  | .portCalibrationDone p ok tx rx temp => Sys2Proof.Machine.execPortCalibrationDone p ok tx rx temp s
  | .delayTempCorrection p => Sys2Proof.Machine.execDelayTempCorrection p s
  | .ptpSyncTx ix p => Sys2Proof.Machine.execPtpSyncTx ix p s
  | .ptpSyncRx ix p m => Sys2Proof.Machine.execPtpSyncRx ix p m s
  | .ptpFollowUpRx ix p m => Sys2Proof.Machine.execPtpFollowUpRx ix p m s
  | .ptpDelayReqTx ix p => Sys2Proof.Machine.execPtpDelayReqTx ix p s
  | .ptpDelayReqRx ix p m => Sys2Proof.Machine.execPtpDelayReqRx ix p m s
  | .ptpDelayRespRx ix p m => Sys2Proof.Machine.execPtpDelayRespRx ix p m s
  | .ptpPdelayReqTx ix p => Sys2Proof.Machine.execPtpPdelayReqTx ix p s
  | .ptpPdelayReqRx ix p m => Sys2Proof.Machine.execPtpPdelayReqRx ix p m s
  | .ptpPdelayRespRx ix p m => Sys2Proof.Machine.execPtpPdelayRespRx ix p m s
  | .ptpPdelayRespFollowUpRx ix p m => Sys2Proof.Machine.execPtpPdelayRespFollowUpRx ix p m s
  | .ptpAnnounceTx ix p => Sys2Proof.Machine.execPtpAnnounceTx ix p s
  | .ptpAnnounceRx ix p m a => Sys2Proof.Machine.execPtpAnnounceRx ix p m a s
  | .ptpSignalingRx ix p m v => Sys2Proof.Machine.execPtpSignalingRx ix p m v s
  | .ptpManagementRx ix p m => Sys2Proof.Machine.execPtpManagementRx ix p m s
  | .ptpUnmatchedTimeout ix => Sys2Proof.Machine.execPtpUnmatchedTimeout ix s
  | .ptpGrantRenew ix k => Sys2Proof.Machine.execPtpGrantRenew ix k s
  | .ptpGrantRequestRetry ix k => Sys2Proof.Machine.execPtpGrantRequestRetry ix k s
  | .ptpGrantExpiry ix client k => Sys2Proof.Machine.execPtpGrantExpiry ix client k s
  | .esmcInfoTx => Sys2Proof.Machine.execEsmcInfoTx s
  | .esmcRx port ql => Sys2Proof.Machine.execEsmcRx port ql s
  | .esmcTimeout port => Sys2Proof.Machine.execEsmcTimeout port s
  | .synceInputLoss n => Sys2Proof.Machine.execSynceInputLoss n s
  | .synceHoldOffExpiry n => Sys2Proof.Machine.execSynceHoldOffExpiry n s
  | .synceWtrExpiry n => Sys2Proof.Machine.execSynceWtrExpiry n s
  | .ppsOutStart n => Sys2Proof.Machine.execPpsOutStart n s
  | .ppsOutEnd n => Sys2Proof.Machine.execPpsOutEnd n s
  | .ppsInEdge n sub => Sys2Proof.Machine.execPpsInEdge n sub s
  | .todSentenceRx n sumOk utc => Sys2Proof.Machine.execTodSentenceRx n sumOk utc s
  | .ptmDialogueStart a => Sys2Proof.Machine.execPtmDialogueStart a s
  | .ptmResponseRx a t2 turn => Sys2Proof.Machine.execPtmResponseRx a t2 turn s
  | .ptmResponseTimeout a => Sys2Proof.Machine.execPtmResponseTimeout a s
  | .clockPageSet f => Sys2Proof.Machine.execClockPageSet f s
  | .portFrameRx p r => Sys2Proof.Machine.execPortFrameRx p r s
  | .cfPacketInject id data => Sys2Proof.Machine.execCfPacketInject id data s
  | .parseTake k arrived => Sys2Proof.Machine.execParseTake k arrived s
  | .parseStallEnd k => Sys2Proof.Machine.execParseStallEnd k s
  | .parseExt k => Sys2Proof.Machine.execParseExt k s
  | .parseExtb k => Sys2Proof.Machine.execParseExtb k s
  | .parseMovi k => Sys2Proof.Machine.execParseMovi k s
  | .parseShl k => Sys2Proof.Machine.execParseShl k s
  | .parseShr k => Sys2Proof.Machine.execParseShr k s
  | .parseAnd k => Sys2Proof.Machine.execParseAnd k s
  | .parseOr k => Sys2Proof.Machine.execParseOr k s
  | .parseAdd k => Sys2Proof.Machine.execParseAdd k s
  | .parseCmp k => Sys2Proof.Machine.execParseCmp k s
  | .parseBr k => Sys2Proof.Machine.execParseBr k s
  | .parseBrf k => Sys2Proof.Machine.execParseBrf k s
  | .parseAdvi k => Sys2Proof.Machine.execParseAdvi k s
  | .parseAdvr k => Sys2Proof.Machine.execParseAdvr k s
  | .parseEmit k => Sys2Proof.Machine.execParseEmit k s
  | .parseEmitr k => Sys2Proof.Machine.execParseEmitr k s
  | .parseSetmd k => Sys2Proof.Machine.execParseSetmd k s
  | .parseMark k => Sys2Proof.Machine.execParseMark k s
  | .parseDone k => Sys2Proof.Machine.execParseDone k s
  | .parseFail k => Sys2Proof.Machine.execParseFail k s
  | .matchStage id => Sys2Proof.Machine.execMatchStage id s
  | .rulesetOpen f => Sys2Proof.Machine.execRulesetOpen f s
  | .rulesetStage f => Sys2Proof.Machine.execRulesetStage f s
  | .tableCreate f => Sys2Proof.Machine.execTableCreate f s
  | .rulesetAbort f => Sys2Proof.Machine.execRulesetAbort f s
  | .rulesetCommit f => Sys2Proof.Machine.execRulesetCommit f s
  | .rulesetCurrent => Sys2Proof.Machine.execRulesetCurrent s
  | .versionRetire => Sys2Proof.Machine.execVersionRetire s
  | .settleComplete => Sys2Proof.Machine.execSettleComplete s
  | .tcamSlotClearComplete => Sys2Proof.Machine.execTcamSlotClearComplete s
  | .parseCoreFault k other cause => Sys2Proof.Machine.execParseCoreFault k other cause s
  | .matchLaneFault id cause => Sys2Proof.Machine.execMatchLaneFault id cause s
  | .memoryReadError store addr tab unit places pkt ok => Sys2Proof.Machine.execMemoryReadError store addr tab unit places pkt ok s
  | .engineStart g e => Sys2Proof.Machine.execEngineStart g e s
  | .threadPacketStart g e t => Sys2Proof.Machine.execThreadPacketStart g e t s
  | .threadWake g e t => Sys2Proof.Machine.execThreadWake g e t s
  | .sumpWaitEnd g e t => Sys2Proof.Machine.execSumpWaitEnd g e t s
  | .loadDataReturn g e t => Sys2Proof.Machine.execLoadDataReturn g e t s
  | .lockGrant g n => Sys2Proof.Machine.execLockGrant g n s
  | .lockOverrun g n => Sys2Proof.Machine.execLockOverrun g n s
  | .engineStall g e => Sys2Proof.Machine.execEngineStall g e s
  | .supervisorEntry g e => Sys2Proof.Machine.execSupervisorEntry g e s
  | .thread0FirmwareRestart g e => Sys2Proof.Machine.execThread0FirmwareRestart g e s
  | .sumpAbort g ix => Sys2Proof.Machine.execSumpAbort g ix s
  | .peEventsWrite g e v => Sys2Proof.Machine.execPeEventsWrite g e v s
  | .dispatcherEnqueue g => Sys2Proof.Machine.execDispatcherEnqueue g s
  | .handoff g id => Sys2Proof.Machine.execHandoff g id s
  | .add g e t => Sys2Proof.Machine.execAdd g e t s
  | .sub g e t => Sys2Proof.Machine.execSub g e t s
  | .and g e t => Sys2Proof.Machine.execAnd g e t s
  | .or g e t => Sys2Proof.Machine.execOr g e t s
  | .xor g e t => Sys2Proof.Machine.execXor g e t s
  | .shl g e t => Sys2Proof.Machine.execShl g e t s
  | .shr g e t => Sys2Proof.Machine.execShr g e t s
  | .sar g e t => Sys2Proof.Machine.execSar g e t s
  | .mul g e t => Sys2Proof.Machine.execMul g e t s
  | .mulhu g e t => Sys2Proof.Machine.execMulhu g e t s
  | .minu g e t => Sys2Proof.Machine.execMinu g e t s
  | .maxu g e t => Sys2Proof.Machine.execMaxu g e t s
  | .sltu g e t => Sys2Proof.Machine.execSltu g e t s
  | .slt g e t => Sys2Proof.Machine.execSlt g e t s
  | .seq g e t => Sys2Proof.Machine.execSeq g e t s
  | .sel g e t => Sys2Proof.Machine.execSel g e t s
  | .bswap g e t => Sys2Proof.Machine.execBswap g e t s
  | .clz g e t => Sys2Proof.Machine.execClz g e t s
  | .csum g e t => Sys2Proof.Machine.execCsum g e t s
  | .crc g e t => Sys2Proof.Machine.execCrc g e t s
  | .addi g e t => Sys2Proof.Machine.execAddi g e t s
  | .andi g e t => Sys2Proof.Machine.execAndi g e t s
  | .ori g e t => Sys2Proof.Machine.execOri g e t s
  | .xori g e t => Sys2Proof.Machine.execXori g e t s
  | .shli g e t => Sys2Proof.Machine.execShli g e t s
  | .shri g e t => Sys2Proof.Machine.execShri g e t s
  | .sari g e t => Sys2Proof.Machine.execSari g e t s
  | .insi g e t => Sys2Proof.Machine.execInsi g e t s
  | .extr g e t => Sys2Proof.Machine.execExtr g e t s
  | .insr g e t => Sys2Proof.Machine.execInsr g e t s
  | .ld64 g e t => Sys2Proof.Machine.execLd64 g e t s
  | .ld32 g e t => Sys2Proof.Machine.execLd32 g e t s
  | .ld16 g e t => Sys2Proof.Machine.execLd16 g e t s
  | .ld8 g e t => Sys2Proof.Machine.execLd8 g e t s
  | .st64 g e t => Sys2Proof.Machine.execSt64 g e t s
  | .st32 g e t => Sys2Proof.Machine.execSt32 g e t s
  | .st16 g e t => Sys2Proof.Machine.execSt16 g e t s
  | .st8 g e t => Sys2Proof.Machine.execSt8 g e t s
  | .ldbe g e t => Sys2Proof.Machine.execLdbe g e t s
  | .stbe g e t => Sys2Proof.Machine.execStbe g e t s
  | .pld g e t => Sys2Proof.Machine.execPld g e t s
  | .sxadd g e t => Sys2Proof.Machine.execSxadd g e t s
  | .sxchg g e t => Sys2Proof.Machine.execSxchg g e t s
  | .flook g e t => Sys2Proof.Machine.execFlook g e t s
  | .fins g e t => Sys2Proof.Machine.execFins g e t s
  | .fdel g e t => Sys2Proof.Machine.execFdel g e t s
  | .fld g e t => Sys2Proof.Machine.execFld g e t s
  | .fsts g e t => Sys2Proof.Machine.execFsts g e t s
  | .ctradd g e t => Sys2Proof.Machine.execCtradd g e t s
  | .beq g e t => Sys2Proof.Machine.execBeq g e t s
  | .bne g e t => Sys2Proof.Machine.execBne g e t s
  | .bltu g e t => Sys2Proof.Machine.execBltu g e t s
  | .bgeu g e t => Sys2Proof.Machine.execBgeu g e t s
  | .jmp g e t => Sys2Proof.Machine.execJmp g e t s
  | .call g e t => Sys2Proof.Machine.execCall g e t s
  | .ret g e t => Sys2Proof.Machine.execRet g e t s
  | .loop g e t => Sys2Proof.Machine.execLoop g e t s
  | .brknz g e t => Sys2Proof.Machine.execBrknz g e t s
  | .signal g e t => Sys2Proof.Machine.execSignal g e t s
  | .wait g e t => Sys2Proof.Machine.execWait g e t s
  | .clrev g e t => Sys2Proof.Machine.execClrev g e t s
  | .sput g e t => Sys2Proof.Machine.execSput g e t s
  | .sget g e t => Sys2Proof.Machine.execSget g e t s
  | .lock g e t => Sys2Proof.Machine.execLock g e t s
  | .unlock g e t => Sys2Proof.Machine.execUnlock g e t s
  | .endHandoff g e t => Sys2Proof.Machine.execEndHandoff g e t s
  | .endRecirc g e t => Sys2Proof.Machine.execEndRecirc g e t s
  | .endPunt g e t => Sys2Proof.Machine.execEndPunt g e t s
  | .endDrop g e t => Sys2Proof.Machine.execEndDrop g e t s
  | .mfsr g e t => Sys2Proof.Machine.execMfsr g e t s
  | .mtsr g e t => Sys2Proof.Machine.execMtsr g e t s
  | .getg g e t => Sys2Proof.Machine.execGetg g e t s
  | .putg g e t => Sys2Proof.Machine.execPutg g e t s
  | .release g e t => Sys2Proof.Machine.execRelease g e t s
  | .restart g e t => Sys2Proof.Machine.execRestart g e t s
  | .rets g e t => Sys2Proof.Machine.execRets g e t s
  | .bkpt g e t => Sys2Proof.Machine.execBkpt g e t s
  | .deadlineFault g id => Sys2Proof.Machine.execDeadlineFault g id s
  | .graceExpiry g id => Sys2Proof.Machine.execGraceExpiry g id s
  | .inputQueueExpiry g id => Sys2Proof.Machine.execInputQueueExpiry g id s
  | .engineHwFault g e t cause => Sys2Proof.Machine.execEngineHwFault g e t cause s
  | .galleryMemoryFault g e t addr => Sys2Proof.Machine.execGalleryMemoryFault g e t addr s
  | .engineCheckStart g e => Sys2Proof.Machine.execEngineCheckStart g e s
  | .engineCheckEnd g e pass => Sys2Proof.Machine.execEngineCheckEnd g e pass s
  | .engineReturn g e => Sys2Proof.Machine.execEngineReturn g e s
  | .engineRetire g e => Sys2Proof.Machine.execEngineRetire g e s
  | .shareSet f => Sys2Proof.Machine.execShareSet f s
  | .tmEnqueue id => Sys2Proof.Machine.execTmEnqueue id s
  | .tmSelect p => Sys2Proof.Machine.execTmSelect p s
  | .portFrameTxEnd p => Sys2Proof.Machine.execPortFrameTxEnd p s
  | .gateChange p => Sys2Proof.Machine.execGateChange p s
  | .gateListCommit f => Sys2Proof.Machine.execGateListCommit f s
  | .gateListCopyDone p => Sys2Proof.Machine.execGateListCopyDone p s
  | .gateListStart p => Sys2Proof.Machine.execGateListStart p s
  | .sampleRound k busy => Sys2Proof.Machine.execSampleRound k busy s
  | .sampleCfgWrite k v => Sys2Proof.Machine.execSampleCfgWrite k v s
  | .sampleRingWrite k v => Sys2Proof.Machine.execSampleRingWrite k v s
  | .tmTableRead a t ix => Sys2Proof.Machine.execTmTableRead a t ix s
  | .tmTableWrite a t ix => Sys2Proof.Machine.execTmTableWrite a t ix s
  | .tmTableAccessDone a => Sys2Proof.Machine.execTmTableAccessDone a s
  | .espInOperation id => Sys2Proof.Machine.execEspInOperation id s
  | .espOutOperation id => Sys2Proof.Machine.execEspOutOperation id s
  | .tlsTxOperation id => Sys2Proof.Machine.execTlsTxOperation id s
  | .tlsRxSegment id => Sys2Proof.Machine.execTlsRxSegment id s
  | .macsecTxFrame p => Sys2Proof.Machine.execMacsecTxFrame p s
  | .macsecRxFrame p => Sys2Proof.Machine.execMacsecRxFrame p s
  | .cryptoContextFetch n => Sys2Proof.Machine.execCryptoContextFetch n s
  | .cryptoLaneFault l other cause session outcome => Sys2Proof.Machine.execCryptoLaneFault l other cause session outcome s
  | .sessionWrite f => Sys2Proof.Machine.execSessionWrite f s
  | .sessionUpdate f => Sys2Proof.Machine.execSessionUpdate f s
  | .keyInstall f => Sys2Proof.Machine.execKeyInstall f s
  | .keyRetire f => Sys2Proof.Machine.execKeyRetire f s
  | .keyEnvelopeImport f => Sys2Proof.Machine.execKeyEnvelopeImport f s
  | .sessionPortRead a index part => Sys2Proof.Machine.execSessionPortRead a index part s
  | .sessionPortReadDone a => Sys2Proof.Machine.execSessionPortReadDone a s
  | .secyRegisterWrite off v => Sys2Proof.Machine.execSecyRegisterWrite off v s
  | .nvmeIdentify f => Sys2Proof.Machine.execNvmeIdentify f s
  | .nvmeGetLogPage f => Sys2Proof.Machine.execNvmeGetLogPage f s
  | .nvmeSetFeatures f => Sys2Proof.Machine.execNvmeSetFeatures f s
  | .nvmeGetFeatures f => Sys2Proof.Machine.execNvmeGetFeatures f s
  | .nvmeCreateIoSq f => Sys2Proof.Machine.execNvmeCreateIoSq f s
  | .nvmeCreateIoCq f => Sys2Proof.Machine.execNvmeCreateIoCq f s
  | .nvmeDeleteIoSq f => Sys2Proof.Machine.execNvmeDeleteIoSq f s
  | .nvmeDeleteIoCq f => Sys2Proof.Machine.execNvmeDeleteIoCq f s
  | .nvmeAbort f => Sys2Proof.Machine.execNvmeAbort f s
  | .nvmeAsyncEventRequest f => Sys2Proof.Machine.execNvmeAsyncEventRequest f s
  | .nvmeUnsupportedOpcode f q => Sys2Proof.Machine.execNvmeUnsupportedOpcode f q s
  | .nvmeFlush f q => Sys2Proof.Machine.execNvmeFlush f q s
  | .nvmeWrite f q => Sys2Proof.Machine.execNvmeWrite f q s
  | .nvmeRead f q => Sys2Proof.Machine.execNvmeRead f q s
  | .nvmeWriteZeroes f q => Sys2Proof.Machine.execNvmeWriteZeroes f q s
  | .nvmeDatasetManagement f q => Sys2Proof.Machine.execNvmeDatasetManagement f q s
  | .virtioBlkIn f n => Sys2Proof.Machine.execVirtioBlkIn f n s
  | .virtioBlkOut f n => Sys2Proof.Machine.execVirtioBlkOut f n s
  | .virtioBlkFlush f n => Sys2Proof.Machine.execVirtioBlkFlush f n s
  | .virtioBlkGetId f n => Sys2Proof.Machine.execVirtioBlkGetId f n s
  | .virtioBlkDiscard f n => Sys2Proof.Machine.execVirtioBlkDiscard f n s
  | .virtioBlkWriteZeroes f n => Sys2Proof.Machine.execVirtioBlkWriteZeroes f n s
  | .virtioBlkUnsupported f n => Sys2Proof.Machine.execVirtioBlkUnsupported f n s
  | .backendIssue k => Sys2Proof.Machine.execBackendIssue k s
  | .backendCompletion k => Sys2Proof.Machine.execBackendCompletion k s
  | .attemptTimeout id => Sys2Proof.Machine.execAttemptTimeout id s
  | .issueWaitTimeout id => Sys2Proof.Machine.execIssueWaitTimeout id s
  | .icrespRx k => Sys2Proof.Machine.execIcrespRx k s
  | .fabricsConnectResponse k => Sys2Proof.Machine.execFabricsConnectResponse k s
  | .fabricsConnectRetry p => Sys2Proof.Machine.execFabricsConnectRetry p s
  | .keepAliveTimer p => Sys2Proof.Machine.execKeepAliveTimer p s
  | .tcpRtoExpiry k => Sys2Proof.Machine.execTcpRtoExpiry k s
  | .nvmeTcpPduRx => Sys2Proof.Machine.execNvmeTcpPduRx s
  | .rocePacketRx => Sys2Proof.Machine.execRocePacketRx s
  | .roceAckTimeout q => Sys2Proof.Machine.execRoceAckTimeout q s
  | .cnpRx => Sys2Proof.Machine.execCnpRx s
  | .rateIncreasePeriod q => Sys2Proof.Machine.execRateIncreasePeriod q s
  | .ctrlCreate f => Sys2Proof.Machine.execCtrlCreate f s
  | .ctrlDestroy f => Sys2Proof.Machine.execCtrlDestroy f s
  | .nsCreate f => Sys2Proof.Machine.execNsCreate f s
  | .nsDestroy f => Sys2Proof.Machine.execNsDestroy f s
  | .pathCreate f => Sys2Proof.Machine.execPathCreate f s
  | .pathDestroy f => Sys2Proof.Machine.execPathDestroy f s
  | .stoContextRead a table index part => Sys2Proof.Machine.execStoContextRead a table index part s
  | .stoTcpCfgWrite v => Sys2Proof.Machine.execStoTcpCfgWrite v s
  | .pcieLinkUp a rate width flit rev => Sys2Proof.Machine.execPcieLinkUp a rate width flit rev s
  | .pcieLinkDown a => Sys2Proof.Machine.execPcieLinkDown a s
  | .perstAssert a => Sys2Proof.Machine.execPerstAssert a s
  | .perstRelease a => Sys2Proof.Machine.execPerstRelease a s
  | .retrainLink a rate width flit rev => Sys2Proof.Machine.execRetrainLink a rate width flit rev s
  | .bmeClear f => Sys2Proof.Machine.execBmeClear f s
  | .bmeSet f => Sys2Proof.Machine.execBmeSet f s
  | .flrInitiate f => Sys2Proof.Machine.execFlrInitiate f s
  | .flrComplete f => Sys2Proof.Machine.execFlrComplete f s
  | .d3hotEntry f => Sys2Proof.Machine.execD3hotEntry f s
  | .msixVectorUnmask f vec => Sys2Proof.Machine.execMsixVectorUnmask f vec s
  | .hostReadIssue a => Sys2Proof.Machine.execHostReadIssue a s
  | .readCompletionRx a tag status => Sys2Proof.Machine.execReadCompletionRx a tag status s
  | .completionTimeout a tag => Sys2Proof.Machine.execCompletionTimeout a tag s
  | .tagQuarantineEnd a tag => Sys2Proof.Machine.execTagQuarantineEnd a tag s
  | .malformedTlp f kind read => Sys2Proof.Machine.execMalformedTlp f kind read s
  | .ideCheckFail a k => Sys2Proof.Machine.execIdeCheckFail a k s
  | .peerWindowRequest a x len rid data => Sys2Proof.Machine.execPeerWindowRequest a x len rid data s
  | .winCommit a mask => Sys2Proof.Machine.execWinCommit a mask s
  | .winSwap a => Sys2Proof.Machine.execWinSwap a s
  | .lockInterfaceRequest c n f k good => Sys2Proof.Machine.execLockInterfaceRequest c n f k good s
  | .startInterfaceRequest c n f nonce good => Sys2Proof.Machine.execStartInterfaceRequest c n f nonce good s
  | .stopInterfaceRequest c n f good => Sys2Proof.Machine.execStopInterfaceRequest c n f good s
  | .getDeviceInterfaceReport c n f good => Sys2Proof.Machine.execGetDeviceInterfaceReport c n f good s
  | .atsInvalidateRequest a => Sys2Proof.Machine.execAtsInvalidateRequest a s
  | .dbTxQueue f q idx gen hi => Sys2Proof.Machine.execDbTxQueue f q idx gen hi s
  | .dbRxQueue f q idx gen hi => Sys2Proof.Machine.execDbRxQueue f q idx gen hi s
  | .dbCompletionRing f q idx gen hi => Sys2Proof.Machine.execDbCompletionRing f q idx gen hi s
  | .dbEventRing f q idx gen hi => Sys2Proof.Machine.execDbEventRing f q idx gen hi s
  | .dbAdminSlot f q idx gen hi => Sys2Proof.Machine.execDbAdminSlot f q idx gen hi s
  | .dbAdminCompletion f q idx gen hi => Sys2Proof.Machine.execDbAdminCompletion f q idx gen hi s
  | .dbVirtioNet f q idx gen hi => Sys2Proof.Machine.execDbVirtioNet f q idx gen hi s
  | .dbVirtioBlk f q idx gen hi => Sys2Proof.Machine.execDbVirtioBlk f q idx gen hi s
  | .dbNvmeSqTail f q idx gen hi => Sys2Proof.Machine.execDbNvmeSqTail f q idx gen hi s
  | .dbNvmeCqHead f q idx gen hi => Sys2Proof.Machine.execDbNvmeCqHead f q idx gen hi s
  | .setupItem f item value gen hi => Sys2Proof.Machine.execSetupItem f item value gen hi s
  | .setupEnable f value gen hi => Sys2Proof.Machine.execSetupEnable f value gen hi s
  | .adminSlotFetch f slotRead opRead => Sys2Proof.Machine.execAdminSlotFetch f slotRead opRead s
  | .identifyFunction f => Sys2Proof.Machine.execIdentifyFunction f s
  | .functionCreate f => Sys2Proof.Machine.execFunctionCreate f s
  | .functionDestroy f => Sys2Proof.Machine.execFunctionDestroy f s
  | .cqCreate f => Sys2Proof.Machine.execCqCreate f s
  | .cqDestroy f => Sys2Proof.Machine.execCqDestroy f s
  | .queueCreate f => Sys2Proof.Machine.execQueueCreate f s
  | .queueDestroy f => Sys2Proof.Machine.execQueueDestroy f s
  | .queueEnable f => Sys2Proof.Machine.execQueueEnable f s
  | .queueDisable f => Sys2Proof.Machine.execQueueDisable f s
  | .queueDisableComplete f late => Sys2Proof.Machine.execQueueDisableComplete f late s
  | .moderationSet f => Sys2Proof.Machine.execModerationSet f s
  | .txDescriptorFetch f k q => Sys2Proof.Machine.execTxDescriptorFetch f k q s
  | .txCompletionWrite f k q => Sys2Proof.Machine.execTxCompletionWrite f k q s
  | .ropeStartRequest c entry p0 p1 p2 p3 => Sys2Proof.Machine.execRopeStartRequest c entry p0 p1 p2 p3 s
  | .ropeProgramStart c => Sys2Proof.Machine.execRopeProgramStart c s
  | .ropeMove c => Sys2Proof.Machine.execRopeMove c s
  | .ropeLoop c => Sys2Proof.Machine.execRopeLoop c s
  | .ropeWait c => Sys2Proof.Machine.execRopeWait c s
  | .ropeWaitRelease c => Sys2Proof.Machine.execRopeWaitRelease c s
  | .ropeWaitTimeout c => Sys2Proof.Machine.execRopeWaitTimeout c s
  | .ropeSignal c => Sys2Proof.Machine.execRopeSignal c s
  | .ropeEnd c => Sys2Proof.Machine.execRopeEnd c s
  | .ropeChunkRead e => Sys2Proof.Machine.execRopeChunkRead e s
  | .ropeChunkWrite e => Sys2Proof.Machine.execRopeChunkWrite e s
  | .ropeChunkFault c cause ok => Sys2Proof.Machine.execRopeChunkFault c cause ok s
  | .ropeProgramStop c => Sys2Proof.Machine.execRopeProgramStop c s
  | .mbxSlotStore who rid m c w v => Sys2Proof.Machine.execMbxSlotStore who rid m c w v s
  | .mbxDoorbellWrite who rid m c => Sys2Proof.Machine.execMbxDoorbellWrite who rid m c s
  | .mbxSlotWord7Read who rid m c => Sys2Proof.Machine.execMbxSlotWord7Read who rid m c s
  | .mbxEmptyClear who rid m c => Sys2Proof.Machine.execMbxEmptyClear who rid m c s
  | .mbxMaskWrite who m empty v => Sys2Proof.Machine.execMbxMaskWrite who m empty v s
  | .anComplete p pAdv pAble pReq => Sys2Proof.Machine.execAnComplete p pAdv pAble pReq s
  | .anRestart p => Sys2Proof.Machine.execAnRestart p s
  | .laneTrainingDone p ok => Sys2Proof.Machine.execLaneTrainingDone p ok s
  | .trainRetryTimer p => Sys2Proof.Machine.execTrainRetryTimer p s
  | .portLinkUp p => Sys2Proof.Machine.execPortLinkUp p s
  | .portLinkDown p => Sys2Proof.Machine.execPortLinkDown p s
  | .faultSequenceRx p kind => Sys2Proof.Machine.execFaultSequenceRx p kind s
  | .pfcFrameRx p vec times => Sys2Proof.Machine.execPfcFrameRx p vec times s
  | .pfcPauseExpiry p ix => Sys2Proof.Machine.execPfcPauseExpiry p ix s
  | .pfcRefresh p => Sys2Proof.Machine.execPfcRefresh p s
  | .pfcCfgWrite p v => Sys2Proof.Machine.execPfcCfgWrite p v s
  | .preemptVerifyTx p => Sys2Proof.Machine.execPreemptVerifyTx p s
  | .preemptRespondRx p => Sys2Proof.Machine.execPreemptRespondRx p s
  | .preemptCfgWrite p v => Sys2Proof.Machine.execPreemptCfgWrite p v s
  | .moduleInsert k rev app temp => Sys2Proof.Machine.execModuleInsert k rev app temp s
  | .moduleRemove k => Sys2Proof.Machine.execModuleRemove k s
  | .moduleInterrupt k nack temp => Sys2Proof.Machine.execModuleInterrupt k nack temp s
  | .modulePoll k nack temp => Sys2Proof.Machine.execModulePoll k nack temp s
  | .moduleI2cRetry k nack => Sys2Proof.Machine.execModuleI2cRetry k nack s
  | .moduleRead a k page bank off lenM1 => Sys2Proof.Machine.execModuleRead a k page bank off lenM1 s
  | .moduleWrite a k page bank off lenM1 => Sys2Proof.Machine.execModuleWrite a k page bank off lenM1 s
  | .moduleAccessDone a nack data => Sys2Proof.Machine.execModuleAccessDone a nack data s
  | .mgmtFrameRx l => Sys2Proof.Machine.execMgmtFrameRx l s
  | .ncsiClearInitialState c sumOk => Sys2Proof.Machine.execNcsiClearInitialState c sumOk s
  | .ncsiSelectPackage sumOk => Sys2Proof.Machine.execNcsiSelectPackage sumOk s
  | .ncsiDeselectPackage sumOk => Sys2Proof.Machine.execNcsiDeselectPackage sumOk s
  | .ncsiEnableChannel c sumOk => Sys2Proof.Machine.execNcsiEnableChannel c sumOk s
  | .ncsiDisableChannel c sumOk => Sys2Proof.Machine.execNcsiDisableChannel c sumOk s
  | .ncsiResetChannel c sumOk => Sys2Proof.Machine.execNcsiResetChannel c sumOk s
  | .ncsiEnableNetworkTx c sumOk => Sys2Proof.Machine.execNcsiEnableNetworkTx c sumOk s
  | .ncsiDisableNetworkTx c sumOk => Sys2Proof.Machine.execNcsiDisableNetworkTx c sumOk s
  | .ncsiAenEnable c mc mask sumOk => Sys2Proof.Machine.execNcsiAenEnable c mc mask sumOk s
  | .ncsiGetLinkStatus c sumOk => Sys2Proof.Machine.execNcsiGetLinkStatus c sumOk s
  | .ncsiGetVersionId c sumOk => Sys2Proof.Machine.execNcsiGetVersionId c sumOk s
  | .ncsiGetCapabilities c sumOk => Sys2Proof.Machine.execNcsiGetCapabilities c sumOk s
  | .ncsiGetParameters c sumOk => Sys2Proof.Machine.execNcsiGetParameters c sumOk s
  | .ncsiGetControllerStats c sumOk => Sys2Proof.Machine.execNcsiGetControllerStats c sumOk s
  | .ncsiGetNcsiStats c sumOk => Sys2Proof.Machine.execNcsiGetNcsiStats c sumOk s
  | .ncsiGetPassthroughStats c sumOk => Sys2Proof.Machine.execNcsiGetPassthroughStats c sumOk s
  | .ncsiSetMacAddress c ix addr en sumOk => Sys2Proof.Machine.execNcsiSetMacAddress c ix addr en sumOk s
  | .ncsiEnableBroadcastFilter c mask sumOk => Sys2Proof.Machine.execNcsiEnableBroadcastFilter c mask sumOk s
  | .ncsiDisableBroadcastFilter c sumOk => Sys2Proof.Machine.execNcsiDisableBroadcastFilter c sumOk s
  | .ncsiEnableMulticastFilter c mask sumOk => Sys2Proof.Machine.execNcsiEnableMulticastFilter c mask sumOk s
  | .ncsiDisableMulticastFilter c sumOk => Sys2Proof.Machine.execNcsiDisableMulticastFilter c sumOk s
  | .ncsiSetVlanFilter c ix vid en sumOk => Sys2Proof.Machine.execNcsiSetVlanFilter c ix vid en sumOk s
  | .ncsiEnableVlan c mode sumOk => Sys2Proof.Machine.execNcsiEnableVlan c mode sumOk s
  | .ncsiDisableVlan c sumOk => Sys2Proof.Machine.execNcsiDisableVlan c sumOk s
  | .ncsiUnsupportedCommand c kind sumOk => Sys2Proof.Machine.execNcsiUnsupportedCommand c kind sumOk s
  | .ncsiPassthroughTx c l => Sys2Proof.Machine.execNcsiPassthroughTx c l s
  | .grottoRomStart => Sys2Proof.Machine.execGrottoRomStart s
  | .grottoImageVerifyDone => Sys2Proof.Machine.execGrottoImageVerifyDone s
  | .controlFwRelease => Sys2Proof.Machine.execControlFwRelease s
  | .spdmGetVersion c ok => Sys2Proof.Machine.execSpdmGetVersion c ok s
  | .spdmGetCapabilities c ver ok => Sys2Proof.Machine.execSpdmGetCapabilities c ver ok s
  | .spdmNegotiateAlgorithms c ver common ok => Sys2Proof.Machine.execSpdmNegotiateAlgorithms c ver common ok s
  | .spdmGetDigests c ver ok => Sys2Proof.Machine.execSpdmGetDigests c ver ok s
  | .spdmGetCertificate c ver slot off len ok => Sys2Proof.Machine.execSpdmGetCertificate c ver slot off len ok s
  | .spdmChallenge c ver slot nonce ok => Sys2Proof.Machine.execSpdmChallenge c ver slot nonce ok s
  | .spdmGetMeasurements c ver index nonce sig ok => Sys2Proof.Machine.execSpdmGetMeasurements c ver index nonce sig ok s
  | .spdmKeyExchange c ver n beat ok => Sys2Proof.Machine.execSpdmKeyExchange c ver n beat ok s
  | .spdmFinish c n good mac => Sys2Proof.Machine.execSpdmFinish c n good mac s
  | .spdmHeartbeat c n good => Sys2Proof.Machine.execSpdmHeartbeat c n good s
  | .spdmKeyUpdate c n op good => Sys2Proof.Machine.execSpdmKeyUpdate c n op good s
  | .spdmEndSession c n good => Sys2Proof.Machine.execSpdmEndSession c n good s
  | .spdmChunkTransfer c ver len send ok => Sys2Proof.Machine.execSpdmChunkTransfer c ver len send ok s
  | .spdmUnsupportedRequest c => Sys2Proof.Machine.execSpdmUnsupportedRequest c s
  | .spdmHeartbeatTimeout n => Sys2Proof.Machine.execSpdmHeartbeatTimeout n s
  | .ideKmQuery c n good => Sys2Proof.Machine.execIdeKmQuery c n good s
  | .ideKmKeyProg c n a k b key good => Sys2Proof.Machine.execIdeKmKeyProg c n a k b key good s
  | .ideKmKSetGo c n a k b good => Sys2Proof.Machine.execIdeKmKSetGo c n a k b good s
  | .ideKmKSetStop c n a k b good => Sys2Proof.Machine.execIdeKmKSetStop c n a k b good s
  | .fwActivate f => Sys2Proof.Machine.execFwActivate f s
  | .principalRekey f => Sys2Proof.Machine.execPrincipalRekey f s
  | .debugUnlock f => Sys2Proof.Machine.execDebugUnlock f s
  | .secureErase f => Sys2Proof.Machine.execSecureErase f s
  | .thermalSample temp => Sys2Proof.Machine.execThermalSample temp s
  | .thermalShedStep => Sys2Proof.Machine.execThermalShedStep s
  | .thermalReturnStep => Sys2Proof.Machine.execThermalReturnStep s
  | .thermalTrip => Sys2Proof.Machine.execThermalTrip s
  | .pwrGoodRise straps => Sys2Proof.Machine.execPwrGoodRise straps s
  | .pwrGoodFall => Sys2Proof.Machine.execPwrGoodFall s
  | .sysResetAssert => Sys2Proof.Machine.execSysResetAssert s
  | .resetCtrlWrite v => Sys2Proof.Machine.execResetCtrlWrite v s
  | .deviceReset => Sys2Proof.Machine.execDeviceReset s
  | .synthLock => Sys2Proof.Machine.execSynthLock s
  | .hifReadySet ms => Sys2Proof.Machine.execHifReadySet ms s
  | .trstAssert => Sys2Proof.Machine.execTrstAssert s
  | .tapExtest => Sys2Proof.Machine.execTapExtest s
  | .tapSamplePreload => Sys2Proof.Machine.execTapSamplePreload s
  | .tapIdcode => Sys2Proof.Machine.execTapIdcode s
  | .tapHighz => Sys2Proof.Machine.execTapHighz s
  | .tapClamp => Sys2Proof.Machine.execTapClamp s
  | .tapExtestPulse => Sys2Proof.Machine.execTapExtestPulse s
  | .tapExtestTrain => Sys2Proof.Machine.execTapExtestTrain s
  | .tapPrivate code => Sys2Proof.Machine.execTapPrivate code s
  | .tapBypass => Sys2Proof.Machine.execTapBypass s
  | .lntHelp => Sys2Proof.Machine.execLntHelp s
  | .lntStatus => Sys2Proof.Machine.execLntStatus s
  | .lntNonce => Sys2Proof.Machine.execLntNonce s
  | .lntLock => Sys2Proof.Machine.execLntLock s
  | .lntFault n k => Sys2Proof.Machine.execLntFault n k s
  | .lntRd off k => Sys2Proof.Machine.execLntRd off k s
  | .lntTime => Sys2Proof.Machine.execLntTime s
  | .lntPort p => Sys2Proof.Machine.execLntPort p s
  | .lntReset => Sys2Proof.Machine.execLntReset s
  | .lntWr off v => Sys2Proof.Machine.execLntWr off v s
  | .lntHalt g e => Sys2Proof.Machine.execLntHalt g e s
  | .lntResume g e => Sys2Proof.Machine.execLntResume g e s
  | .lntStep g e t n => Sys2Proof.Machine.execLntStep g e t n s
  | .lntStepTimeout => Sys2Proof.Machine.execLntStepTimeout s
  | .lntRegs g e t => Sys2Proof.Machine.execLntRegs g e t s
  | .lntBkptArm g e => Sys2Proof.Machine.execLntBkptArm g e s
  | .lntBkptDisarm g e => Sys2Proof.Machine.execLntBkptDisarm g e s
  | .lntSumpAbort g n => Sys2Proof.Machine.execLntSumpAbort g n s
  | .lntCoreHalt c => Sys2Proof.Machine.execLntCoreHalt c s
  | .lntCoreResume c => Sys2Proof.Machine.execLntCoreResume c s
  | .lntCoreRd c addr k => Sys2Proof.Machine.execLntCoreRd c addr k s
  | .lntFlashErase b => Sys2Proof.Machine.execLntFlashErase b s
  | .lntFlashWrite b data => Sys2Proof.Machine.execLntFlashWrite b data s
  | .lntUnknownCommand => Sys2Proof.Machine.execLntUnknownCommand s
  | .pldmFwUpdate b off data => Sys2Proof.Machine.execPldmFwUpdate b off data s
  | .railUndervoltage => Sys2Proof.Machine.execRailUndervoltage s
  | .ethRefclkLoss => Sys2Proof.Machine.execEthRefclkLoss s
  | .mgmtRefclkLoss => Sys2Proof.Machine.execMgmtRefclkLoss s
  | .ncsiRefclkLoss => Sys2Proof.Machine.execNcsiRefclkLoss s
  | .ncsiRefclkReturn => Sys2Proof.Machine.execNcsiRefclkReturn s
  | .pcieRefclkLoss a => Sys2Proof.Machine.execPcieRefclkLoss a s
  | .vddio18Fall => Sys2Proof.Machine.execVddio18Fall s
  | .smbusMctpRx addr pecOk => Sys2Proof.Machine.execSmbusMctpRx addr pecOk s
  | .ethRefclkReturn => Sys2Proof.Machine.execEthRefclkReturn s
  | .mgmtRefclkReturn => Sys2Proof.Machine.execMgmtRefclkReturn s
  | .pcieRefclkReturn a => Sys2Proof.Machine.execPcieRefclkReturn a s
  | .mgmtLinkChange up speed => Sys2Proof.Machine.execMgmtLinkChange up speed s
  | .blockLockChange p locked => Sys2Proof.Machine.execBlockLockChange p locked s
  | .synceInputRecovery n => Sys2Proof.Machine.execSynceInputRecovery n s
  | .frequencyDpllLock => Sys2Proof.Machine.execFrequencyDpllLock s
  | .ptpAnnounceReceiptTimeout ix => Sys2Proof.Machine.execPtpAnnounceReceiptTimeout ix s
  | .replayTimerExpiry a same => Sys2Proof.Machine.execReplayTimerExpiry a same s
  | .tcpAckRx => Sys2Proof.Machine.execTcpAckRx s
  | .sysResetRelease => Sys2Proof.Machine.execSysResetRelease s
  | .testLogicReset => Sys2Proof.Machine.execTestLogicReset s
  | .qpModify q a => Sys2Proof.Machine.execQpModify q a s

end Sys2Proof.Machine
end

