-- ==== Sys2Proof/WellFormed.lean ====
section
/-! DEFINITION. WellFormed.lean: which commands are well formed: their operands name parts that the device has. A command that is not well
formed has an effect like any other in `exec`; no sender can form it. -/

namespace Sys2Proof

/-- Whether a number names a function: 0, 2, 4, 6 the management PFs, 1, 3, 5, 7 the bulk PFs, 8 to 2055 the VFs. -/
def okFn (x : Nat) : Bool := decide (x < 2056)

/-- Whether a number names an attachment. -/
def okAtt (x : Nat) : Bool := decide (x < 4)

/-- Whether a number names a port. -/
def okPort (x : Nat) : Bool := decide (x < 8)

/-- Whether a number names a gallery. -/
def okGal (x : Nat) : Bool := decide (x < 64)

/-- Whether a number names a physical engine of a gallery. -/
def okEng (x : Nat) : Bool := decide (x < 17)

/-- Whether a number names a thread of an engine. -/
def okThr (x : Nat) : Bool := decide (x < 8)

/-- Whether a number names a parse core. -/
def okCore (x : Nat) : Bool := decide (x < 272)

/-- Whether a number names a gallery lock. -/
def okLock (x : Nat) : Bool := decide (x < 64)

/-- Whether a number names a Rope channel. -/
def okChan (x : Nat) : Bool := decide (x < 512)

/-- Whether a number names a module cage. -/
def okCage (x : Nat) : Bool := decide (x < 4)

/-- Whether a number names an SPDM endpoint: 0 to 3 DOE, 4 SMBus, 5 to 8 VDM. -/
def okEp (x : Nat) : Bool := decide (x < 9)

/-- Whether a number names a party of the mailboxes: 0 to 3 management PFs, 4 to 19 control cores, 20 Grotto. -/
def okParty (x : Nat) : Bool := decide (x < 21)

/-- Whether a number names a Requester ID. -/
def okRid (x : Nat) : Bool := decide (x < 65536)

/-- Whether a number names an offset in BAR 0. -/
def okOff (x : Nat) : Bool := decide (x < 2 ^ 26)

/-- Whether a number names a byte. -/
def okByte (x : Nat) : Bool := decide (x < 256)

/-- Whether a number names strap levels in the layout of GLB_STRAPS. -/
def okStraps (x : Nat) : Bool := decide (x < 4096)

/-- Whether a number names a memory that holds tables or counters, by its FLT cause. -/
def okStore (x : Nat) : Bool := [1, 2, 3, 5].contains x

/-- Whether a number lies below a bound. -/
def okBelow (n x : Nat) : Bool := decide (x < n)

/-- Whether what a write addresses exists. -/
def WriteTo.wf : WriteTo → Bool
  | .reg who rid off _ => okParty who && okRid rid && okOff off
  | .cfg fn field _ => okFn fn && (match field with
      | .ideStream k => okBelow 9 k
      | _ => true)
  | .msix fn entry part _ => okFn fn && okBelow 1024 entry && okBelow 3 part
  | .doorbell fn kind gen => okFn fn && okBelow 256 kind && okBelow 4096 gen

/-- Whether a command is well formed. -/
def Instr.wf : Instr → Bool
  | .badSizeRegisterAccess a rid off _ => okAtt a && okRid rid && okOff off
  | .lowHalfRead a rid off => okAtt a && okRid rid && okOff off
  | .highHalfRead a rid off => okAtt a && okRid rid && okOff off
  | .lowHalfWrite a rid off _ => okAtt a && okRid rid && okOff off
  | .highHalfWrite a rid off _ => okAtt a && okRid rid && okOff off
  | .registerWrite t => t.wf
  | .errorCounterWrite off _ => okOff off
  | .doorbellBadWrite f rid off => okFn f && okRid rid && okOff off
  | .grtWindowWrite a rid off => okAtt a && okRid rid && okOff off
  | .dripBoundary => true
  | .voteBoundary => true
  | .timeSourceSet f => okFn f
  | .timeSourceApply => true
  | .timeStep f => okFn f
  | .timeStepApply => true
  | .realignCountExpiry => true
  | .oscInLoss => true
  | .oscInReturn => true
  | .fdpllInputLoss => true
  | .snapshotTake who => okBelow 5 who
  | .portCalibrationDone p _ _ _ _ => okPort p
  | .delayTempCorrection p => okPort p
  | .ptpSyncTx i p => okBelow 8 i && okPort p
  | .ptpSyncRx i p _ => okBelow 8 i && okPort p
  | .ptpFollowUpRx i p _ => okBelow 8 i && okPort p
  | .ptpDelayReqTx i p => okBelow 8 i && okPort p
  | .ptpDelayReqRx i p _ => okBelow 8 i && okPort p
  | .ptpDelayRespRx i p _ => okBelow 8 i && okPort p
  | .ptpPdelayReqTx i p => okBelow 8 i && okPort p
  | .ptpPdelayReqRx i p _ => okBelow 8 i && okPort p
  | .ptpPdelayRespRx i p _ => okBelow 8 i && okPort p
  | .ptpPdelayRespFollowUpRx i p _ => okBelow 8 i && okPort p
  | .ptpAnnounceTx i p => okBelow 8 i && okPort p
  | .ptpAnnounceRx i p _ _ => okBelow 8 i && okPort p
  | .ptpSignalingRx i p _ _ => okBelow 8 i && okPort p
  | .ptpManagementRx i p _ => okBelow 8 i && okPort p
  | .ptpUnmatchedTimeout i => okBelow 8 i
  | .ptpGrantRenew i _ => okBelow 8 i
  | .ptpGrantRequestRetry i _ => okBelow 8 i
  | .ptpGrantExpiry i _ _ => okBelow 8 i
  | .esmcInfoTx => true
  | .esmcRx port ql => okPort port && okBelow 16 ql
  | .esmcTimeout port => okPort port
  | .synceInputLoss n => okBelow 12 n
  | .synceHoldOffExpiry n => okBelow 12 n
  | .synceWtrExpiry n => okBelow 12 n
  | .ppsOutStart n => okBelow 2 n
  | .ppsOutEnd n => okBelow 2 n
  | .ppsInEdge n _ => okBelow 2 n
  | .todSentenceRx n _ _ => okBelow 2 n
  | .ptmDialogueStart a => okAtt a
  | .ptmResponseRx a _ _ => okAtt a
  | .ptmResponseTimeout a => okAtt a
  | .clockPageSet f => okFn f
  | .portFrameRx p _ => okPort p
  | .cfPacketInject _ _ => true
  | .parseTake k _ => okCore k
  | .parseStallEnd k => okCore k
  | .parseExt k => okCore k
  | .parseExtb k => okCore k
  | .parseMovi k => okCore k
  | .parseShl k => okCore k
  | .parseShr k => okCore k
  | .parseAnd k => okCore k
  | .parseOr k => okCore k
  | .parseAdd k => okCore k
  | .parseCmp k => okCore k
  | .parseBr k => okCore k
  | .parseBrf k => okCore k
  | .parseAdvi k => okCore k
  | .parseAdvr k => okCore k
  | .parseEmit k => okCore k
  | .parseEmitr k => okCore k
  | .parseSetmd k => okCore k
  | .parseMark k => okCore k
  | .parseDone k => okCore k
  | .parseFail k => okCore k
  | .matchStage _ => true
  | .rulesetOpen f => okFn f
  | .rulesetStage f => okFn f
  | .tableCreate f => okFn f
  | .rulesetAbort f => okFn f
  | .rulesetCommit f => okFn f
  | .rulesetCurrent => true
  | .versionRetire => true
  | .settleComplete => true
  | .tcamSlotClearComplete => true
  | .parseCoreFault k other cause => okCore k && okCore other && okByte cause
  | .matchLaneFault _ cause => okByte cause
  | .memoryReadError store _ _ _ _ _ _ => okStore store
  | .engineStart g e => okGal g && okEng e
  | .threadPacketStart g e t => okGal g && okEng e && okThr t
  | .threadWake g e t => okGal g && okEng e && okThr t
  | .sumpWaitEnd g e t => okGal g && okEng e && okThr t
  | .loadDataReturn g e t => okGal g && okEng e && okThr t
  | .lockGrant g n => okGal g && okLock n
  | .lockOverrun g n => okGal g && okLock n
  | .engineStall g e => okGal g && okEng e
  | .supervisorEntry g e => okGal g && okEng e
  | .thread0FirmwareRestart g e => okGal g && okEng e
  | .sumpAbort g i => okGal g && okBelow 36 i
  | .peEventsWrite g e _ => okGal g && okEng e
  | .dispatcherEnqueue g => okGal g
  | .handoff g _ => okGal g
  | .add g e t => okGal g && okEng e && okThr t
  | .sub g e t => okGal g && okEng e && okThr t
  | .and g e t => okGal g && okEng e && okThr t
  | .or g e t => okGal g && okEng e && okThr t
  | .xor g e t => okGal g && okEng e && okThr t
  | .shl g e t => okGal g && okEng e && okThr t
  | .shr g e t => okGal g && okEng e && okThr t
  | .sar g e t => okGal g && okEng e && okThr t
  | .mul g e t => okGal g && okEng e && okThr t
  | .mulhu g e t => okGal g && okEng e && okThr t
  | .minu g e t => okGal g && okEng e && okThr t
  | .maxu g e t => okGal g && okEng e && okThr t
  | .sltu g e t => okGal g && okEng e && okThr t
  | .slt g e t => okGal g && okEng e && okThr t
  | .seq g e t => okGal g && okEng e && okThr t
  | .sel g e t => okGal g && okEng e && okThr t
  | .bswap g e t => okGal g && okEng e && okThr t
  | .clz g e t => okGal g && okEng e && okThr t
  | .csum g e t => okGal g && okEng e && okThr t
  | .crc g e t => okGal g && okEng e && okThr t
  | .addi g e t => okGal g && okEng e && okThr t
  | .andi g e t => okGal g && okEng e && okThr t
  | .ori g e t => okGal g && okEng e && okThr t
  | .xori g e t => okGal g && okEng e && okThr t
  | .shli g e t => okGal g && okEng e && okThr t
  | .shri g e t => okGal g && okEng e && okThr t
  | .sari g e t => okGal g && okEng e && okThr t
  | .insi g e t => okGal g && okEng e && okThr t
  | .extr g e t => okGal g && okEng e && okThr t
  | .insr g e t => okGal g && okEng e && okThr t
  | .ld64 g e t => okGal g && okEng e && okThr t
  | .ld32 g e t => okGal g && okEng e && okThr t
  | .ld16 g e t => okGal g && okEng e && okThr t
  | .ld8 g e t => okGal g && okEng e && okThr t
  | .st64 g e t => okGal g && okEng e && okThr t
  | .st32 g e t => okGal g && okEng e && okThr t
  | .st16 g e t => okGal g && okEng e && okThr t
  | .st8 g e t => okGal g && okEng e && okThr t
  | .ldbe g e t => okGal g && okEng e && okThr t
  | .stbe g e t => okGal g && okEng e && okThr t
  | .pld g e t => okGal g && okEng e && okThr t
  | .sxadd g e t => okGal g && okEng e && okThr t
  | .sxchg g e t => okGal g && okEng e && okThr t
  | .flook g e t => okGal g && okEng e && okThr t
  | .fins g e t => okGal g && okEng e && okThr t
  | .fdel g e t => okGal g && okEng e && okThr t
  | .fld g e t => okGal g && okEng e && okThr t
  | .fsts g e t => okGal g && okEng e && okThr t
  | .ctradd g e t => okGal g && okEng e && okThr t
  | .beq g e t => okGal g && okEng e && okThr t
  | .bne g e t => okGal g && okEng e && okThr t
  | .bltu g e t => okGal g && okEng e && okThr t
  | .bgeu g e t => okGal g && okEng e && okThr t
  | .jmp g e t => okGal g && okEng e && okThr t
  | .call g e t => okGal g && okEng e && okThr t
  | .ret g e t => okGal g && okEng e && okThr t
  | .loop g e t => okGal g && okEng e && okThr t
  | .brknz g e t => okGal g && okEng e && okThr t
  | .signal g e t => okGal g && okEng e && okThr t
  | .wait g e t => okGal g && okEng e && okThr t
  | .clrev g e t => okGal g && okEng e && okThr t
  | .sput g e t => okGal g && okEng e && okThr t
  | .sget g e t => okGal g && okEng e && okThr t
  | .lock g e t => okGal g && okEng e && okThr t
  | .unlock g e t => okGal g && okEng e && okThr t
  | .endHandoff g e t => okGal g && okEng e && okThr t
  | .endRecirc g e t => okGal g && okEng e && okThr t
  | .endPunt g e t => okGal g && okEng e && okThr t
  | .endDrop g e t => okGal g && okEng e && okThr t
  | .mfsr g e t => okGal g && okEng e && okThr t
  | .mtsr g e t => okGal g && okEng e && okThr t
  | .getg g e t => okGal g && okEng e && okThr t
  | .putg g e t => okGal g && okEng e && okThr t
  | .release g e t => okGal g && okEng e && okThr t
  | .restart g e t => okGal g && okEng e && okThr t
  | .rets g e t => okGal g && okEng e && okThr t
  | .bkpt g e t => okGal g && okEng e && okThr t
  | .deadlineFault g _ => okGal g
  | .graceExpiry g _ => okGal g
  | .inputQueueExpiry g _ => okGal g
  | .engineHwFault g e t cause => okGal g && okEng e && okThr t && okByte cause
  | .galleryMemoryFault g e t _ => okGal g && okEng e && okThr t
  | .engineCheckStart g e => okGal g && okEng e
  | .engineCheckEnd g e _ => okGal g && okEng e
  | .engineReturn g e => okGal g && okEng e
  | .engineRetire g e => okGal g && okEng e
  | .shareSet f => okFn f
  | .tmEnqueue _ => true
  | .tmSelect p => okPort p
  | .portFrameTxEnd p => okPort p
  | .gateChange p => okPort p
  | .gateListCommit f => okFn f
  | .gateListCopyDone p => okPort p
  | .gateListStart p => okPort p
  | .sampleRound k _ => okBelow 16 k
  | .sampleCfgWrite k _ => okBelow 16 k
  | .sampleRingWrite k _ => okBelow 16 k
  | .tmTableRead a t _ => okAtt a && okBelow 16 t
  | .tmTableWrite a t _ => okAtt a && okBelow 16 t
  | .tmTableAccessDone a => okAtt a
  | .espInOperation _ => true
  | .espOutOperation _ => true
  | .tlsTxOperation _ => true
  | .tlsRxSegment _ => true
  | .macsecTxFrame p => okPort p
  | .macsecRxFrame p => okPort p
  | .cryptoContextFetch _ => true
  | .cryptoLaneFault l other _ _ outcome => okBelow 12 l && okBelow 12 other && okBelow 3 outcome
  | .sessionWrite f => okFn f
  | .sessionUpdate f => okFn f
  | .keyInstall f => okFn f
  | .keyRetire f => okFn f
  | .keyEnvelopeImport f => okFn f
  | .sessionPortRead a _ part => okAtt a && okBelow 4 part
  | .sessionPortReadDone a => okAtt a
  | .secyRegisterWrite off _ => okOff off
  | .nvmeIdentify f => okFn f
  | .nvmeGetLogPage f => okFn f
  | .nvmeSetFeatures f => okFn f
  | .nvmeGetFeatures f => okFn f
  | .nvmeCreateIoSq f => okFn f
  | .nvmeCreateIoCq f => okFn f
  | .nvmeDeleteIoSq f => okFn f
  | .nvmeDeleteIoCq f => okFn f
  | .nvmeAbort f => okFn f
  | .nvmeAsyncEventRequest f => okFn f
  | .nvmeUnsupportedOpcode f _ => okFn f
  | .nvmeFlush f _ => okFn f
  | .nvmeWrite f _ => okFn f
  | .nvmeRead f _ => okFn f
  | .nvmeWriteZeroes f _ => okFn f
  | .nvmeDatasetManagement f _ => okFn f
  | .virtioBlkIn f _ => okFn f
  | .virtioBlkOut f _ => okFn f
  | .virtioBlkFlush f _ => okFn f
  | .virtioBlkGetId f _ => okFn f
  | .virtioBlkDiscard f _ => okFn f
  | .virtioBlkWriteZeroes f _ => okFn f
  | .virtioBlkUnsupported f _ => okFn f
  | .backendIssue _ => true
  | .backendCompletion _ => true
  | .attemptTimeout _ => true
  | .issueWaitTimeout _ => true
  | .icrespRx _ => true
  | .fabricsConnectResponse _ => true
  | .fabricsConnectRetry _ => true
  | .keepAliveTimer _ => true
  | .tcpRtoExpiry _ => true
  | .nvmeTcpPduRx => true
  | .rocePacketRx => true
  | .roceAckTimeout _ => true
  | .cnpRx => true
  | .rateIncreasePeriod _ => true
  | .ctrlCreate f => okFn f
  | .ctrlDestroy f => okFn f
  | .nsCreate f => okFn f
  | .nsDestroy f => okFn f
  | .pathCreate f => okFn f
  | .pathDestroy f => okFn f
  | .stoContextRead a _ _ part => okAtt a && okBelow 4 part
  | .stoTcpCfgWrite _ => true
  | .pcieLinkUp a _ _ _ _ => okAtt a
  | .pcieLinkDown a => okAtt a
  | .perstAssert a => okAtt a
  | .perstRelease a => okAtt a
  | .retrainLink a _ _ _ _ => okAtt a
  | .bmeClear f => okFn f
  | .bmeSet f => okFn f
  | .flrInitiate f => okFn f
  | .flrComplete f => okFn f
  | .d3hotEntry f => okFn f
  | .msixVectorUnmask f _ => okFn f
  | .hostReadIssue a => okAtt a
  | .readCompletionRx a _ status => okAtt a && okBelow 8 status
  | .completionTimeout a _ => okAtt a
  | .tagQuarantineEnd a _ => okAtt a
  | .malformedTlp f _ _ => okFn f
  | .ideCheckFail a k => okAtt a && okBelow 9 k
  | .peerWindowRequest a _ _ rid _ => okAtt a && okRid rid
  | .winCommit a mask => okAtt a && okBelow 65536 mask
  | .winSwap a => okAtt a
  | .lockInterfaceRequest c _ f k _ => okEp c && okFn f && okBelow 9 k
  | .startInterfaceRequest c _ f _ _ => okEp c && okFn f
  | .stopInterfaceRequest c _ f _ => okEp c && okFn f
  | .getDeviceInterfaceReport c _ f _ => okEp c && okFn f
  | .atsInvalidateRequest a => okAtt a
  | .dbTxQueue f _ _ _ _ => okFn f
  | .dbRxQueue f _ _ _ _ => okFn f
  | .dbCompletionRing f _ _ _ _ => okFn f
  | .dbEventRing f _ _ _ _ => okFn f
  | .dbAdminSlot f _ _ _ _ => okFn f
  | .dbAdminCompletion f _ _ _ _ => okFn f
  | .dbVirtioNet f _ _ _ _ => okFn f
  | .dbVirtioBlk f _ _ _ _ => okFn f
  | .dbNvmeSqTail f _ _ _ _ => okFn f
  | .dbNvmeCqHead f _ _ _ _ => okFn f
  | .setupItem f _ _ _ _ => okFn f
  | .setupEnable f _ _ _ => okFn f
  | .adminSlotFetch f _ _ => okFn f
  | .identifyFunction f => okFn f
  | .functionCreate f => okFn f
  | .functionDestroy f => okFn f
  | .cqCreate f => okFn f
  | .cqDestroy f => okFn f
  | .queueCreate f => okFn f
  | .queueDestroy f => okFn f
  | .queueEnable f => okFn f
  | .queueDisable f => okFn f
  | .queueDisableComplete f _ => okFn f
  | .moderationSet f => okFn f
  | .txDescriptorFetch f _ _ => okFn f
  | .txCompletionWrite f _ _ => okFn f
  | .ropeStartRequest c _ _ _ _ _ => okChan c
  | .ropeProgramStart c => okChan c
  | .ropeMove c => okChan c
  | .ropeLoop c => okChan c
  | .ropeWait c => okChan c
  | .ropeWaitRelease c => okChan c
  | .ropeWaitTimeout c => okChan c
  | .ropeSignal c => okChan c
  | .ropeEnd c => okChan c
  | .ropeChunkRead e => okBelow 8 e
  | .ropeChunkWrite e => okBelow 8 e
  | .ropeChunkFault c _ _ => okChan c
  | .ropeProgramStop c => okChan c
  | .mbxSlotStore who rid m c w _ => okParty who && okRid rid && okBelow 16 m && okBelow 32 c && okBelow 8 w
  | .mbxDoorbellWrite who rid m c => okParty who && okRid rid && okBelow 16 m && okBelow 32 c
  | .mbxSlotWord7Read who rid m c => okParty who && okRid rid && okBelow 16 m && okBelow 32 c
  | .mbxEmptyClear who rid m c => okParty who && okRid rid && okBelow 16 m && okBelow 32 c
  | .mbxMaskWrite who m _ _ => okParty who && okBelow 16 m
  | .anComplete p _ _ _ => okPort p
  | .anRestart p => okPort p
  | .laneTrainingDone p _ => okPort p
  | .trainRetryTimer p => okPort p
  | .portLinkUp p => okPort p
  | .portLinkDown p => okPort p
  | .faultSequenceRx p kind => okPort p && okBelow 3 kind
  | .pfcFrameRx p vec _ => okPort p && okByte vec
  | .pfcPauseExpiry p i => okPort p && okBelow 8 i
  | .pfcRefresh p => okPort p
  | .pfcCfgWrite p _ => okPort p
  | .preemptVerifyTx p => okPort p
  | .preemptRespondRx p => okPort p
  | .preemptCfgWrite p _ => okPort p
  | .moduleInsert k _ _ _ => okCage k
  | .moduleRemove k => okCage k
  | .moduleInterrupt k _ temp => okCage k && okByte temp
  | .modulePoll k _ temp => okCage k && okByte temp
  | .moduleI2cRetry k _ => okCage k
  | .moduleRead a k page bank off lenM1 => okAtt a && okCage k && okByte page && okByte bank && okByte off && okBelow 8 lenM1
  | .moduleWrite a k page bank off lenM1 => okAtt a && okCage k && okByte page && okByte bank && okByte off && okBelow 8 lenM1
  | .moduleAccessDone a _ _ => okAtt a
  | .mgmtFrameRx _ => true
  | .ncsiClearInitialState c _ => okBelow 8 c
  | .ncsiSelectPackage _ => true
  | .ncsiDeselectPackage _ => true
  | .ncsiEnableChannel c _ => okBelow 8 c
  | .ncsiDisableChannel c _ => okBelow 8 c
  | .ncsiResetChannel c _ => okBelow 8 c
  | .ncsiEnableNetworkTx c _ => okBelow 8 c
  | .ncsiDisableNetworkTx c _ => okBelow 8 c
  | .ncsiAenEnable c _ _ _ => okBelow 8 c
  | .ncsiGetLinkStatus c _ => okBelow 8 c
  | .ncsiGetVersionId c _ => okBelow 8 c
  | .ncsiGetCapabilities c _ => okBelow 8 c
  | .ncsiGetParameters c _ => okBelow 8 c
  | .ncsiGetControllerStats c _ => okBelow 8 c
  | .ncsiGetNcsiStats c _ => okBelow 8 c
  | .ncsiGetPassthroughStats c _ => okBelow 8 c
  | .ncsiSetMacAddress c _ _ _ _ => okBelow 8 c
  | .ncsiEnableBroadcastFilter c _ _ => okBelow 8 c
  | .ncsiDisableBroadcastFilter c _ => okBelow 8 c
  | .ncsiEnableMulticastFilter c _ _ => okBelow 8 c
  | .ncsiDisableMulticastFilter c _ => okBelow 8 c
  | .ncsiSetVlanFilter c _ _ _ _ => okBelow 8 c
  | .ncsiEnableVlan c _ _ => okBelow 8 c
  | .ncsiDisableVlan c _ => okBelow 8 c
  | .ncsiUnsupportedCommand c _ _ => okBelow 8 c
  | .ncsiPassthroughTx c _ => okBelow 8 c
  | .grottoRomStart => true
  | .grottoImageVerifyDone => true
  | .controlFwRelease => true
  | .spdmGetVersion c _ => okEp c
  | .spdmGetCapabilities c _ _ => okEp c
  | .spdmNegotiateAlgorithms c _ _ _ => okEp c
  | .spdmGetDigests c _ _ => okEp c
  | .spdmGetCertificate c _ _ _ _ _ => okEp c
  | .spdmChallenge c _ _ _ _ => okEp c
  | .spdmGetMeasurements c _ _ _ _ _ => okEp c
  | .spdmKeyExchange c _ _ _ _ => okEp c
  | .spdmFinish c _ _ _ => okEp c
  | .spdmHeartbeat c _ _ => okEp c
  | .spdmKeyUpdate c _ _ _ => okEp c
  | .spdmEndSession c _ _ => okEp c
  | .spdmChunkTransfer c _ _ _ _ => okEp c
  | .spdmUnsupportedRequest c => okEp c
  | .spdmHeartbeatTimeout _ => true
  | .ideKmQuery c _ _ => okEp c
  | .ideKmKeyProg c _ a k b _ _ => okEp c && okAtt a && okBelow 9 k && okBelow 2 b
  | .ideKmKSetGo c _ a k b _ => okEp c && okAtt a && okBelow 9 k && okBelow 2 b
  | .ideKmKSetStop c _ a k b _ => okEp c && okAtt a && okBelow 9 k && okBelow 2 b
  | .fwActivate f => okFn f
  | .principalRekey f => okFn f
  | .debugUnlock f => okFn f
  | .secureErase f => okFn f
  | .thermalSample temp => okByte temp
  | .thermalShedStep => true
  | .thermalReturnStep => true
  | .thermalTrip => true
  | .pwrGoodRise straps => okStraps straps
  | .pwrGoodFall => true
  | .sysResetAssert => true
  | .resetCtrlWrite _ => true
  | .deviceReset => true
  | .synthLock => true
  | .hifReadySet _ => true
  | .trstAssert => true
  | .tapExtest => true
  | .tapSamplePreload => true
  | .tapIdcode => true
  | .tapHighz => true
  | .tapClamp => true
  | .tapExtestPulse => true
  | .tapExtestTrain => true
  | .tapPrivate code => okByte code
  | .tapBypass => true
  | .lntHelp => true
  | .lntStatus => true
  | .lntNonce => true
  | .lntLock => true
  | .lntFault _ _ => true
  | .lntRd _ _ => true
  | .lntTime => true
  | .lntPort _ => true
  | .lntReset => true
  | .lntWr _ _ => true
  | .lntHalt _ _ => true
  | .lntResume _ _ => true
  | .lntStep _ _ _ _ => true
  | .lntStepTimeout => true
  | .lntRegs _ _ _ => true
  | .lntBkptArm _ _ => true
  | .lntBkptDisarm _ _ => true
  | .lntSumpAbort _ _ => true
  | .lntCoreHalt _ => true
  | .lntCoreResume _ => true
  | .lntCoreRd _ _ _ => true
  | .lntFlashErase _ => true
  | .lntFlashWrite _ _ => true
  | .lntUnknownCommand => true
  | .pldmFwUpdate _ _ _ => true
  | .railUndervoltage => true
  | .ethRefclkLoss => true
  | .mgmtRefclkLoss => true
  | .ncsiRefclkLoss => true
  | .ncsiRefclkReturn => true
  | .pcieRefclkLoss a => okAtt a
  | .vddio18Fall => true
  | .smbusMctpRx addr _ => okBelow 128 addr
  | .ethRefclkReturn => true
  | .mgmtRefclkReturn => true
  | .pcieRefclkReturn a => okAtt a
  | .mgmtLinkChange _ speed => okBelow 3 speed
  | .blockLockChange p _ => okPort p
  | .synceInputRecovery n => okBelow 12 n
  | .frequencyDpllLock => true
  | .ptpAnnounceReceiptTimeout i => okBelow 8 i
  | .replayTimerExpiry a _ => okAtt a
  | .tcpAckRx => true
  | .sysResetRelease => true
  | .testLogicReset => true
  | .qpModify _ _ => true

end Sys2Proof
end

