-- ==== Sys2Proof/Safety.lean ====
section
/-! DEFINITION. Safety.lean: what holds of the device in every state a run reaches, and what a safe run is. -/

namespace Sys2Proof

/-- The commands that may move the lines that decide the core reset: power, synthesiser, SYS_RESET_N, the TAP, and Lantern's reset. -/
def Instr.lines : Instr → Bool
  | .pwrGoodRise _ | .pwrGoodFall | .railUndervoltage | .vddio18Fall | .synthLock | .sysResetAssert | .sysResetRelease | .lntReset
  | .tapExtest | .tapSamplePreload | .tapIdcode | .tapHighz | .tapClamp | .tapExtestPulse | .tapExtestTrain | .tapPrivate _ | .tapBypass
  | .trstAssert | .testLogicReset => true
  | _ => false

/-- The commands that may write the flash. -/
def Instr.flashes : Instr → Bool
  | .lntFlashErase _ | .lntFlashWrite _ _ | .pldmFwUpdate _ _ _ => true
  | _ => false

/-- The commands that may change a principal's key. -/
def Instr.rekeys : Instr → Bool
  | .principalRekey _ | .secureErase _ => true
  | _ => false

end Sys2Proof

namespace Sys2Proof.Machine

open Sys2Proof

/-- The three byte memories, host memory, HBM and the flash, are in canonical form. -/
def State.memOk (s : State) : Prop := Mem.wf s.mem = true ∧ Mem.wf s.hbm = true ∧ Mem.wf s.board.flash = true

/-- Every waiting command is well formed. -/
def State.queueOk (s : State) : Prop := ∀ c ∈ s.pending, c.wf = true

/-- The core leaves reset only with the power good, the synthesiser locked, SYS_RESET_N released and no test instruction that holds it
(R657, R658, R664, R685). -/
def Board.linesOk (b : Board) : Prop :=
  b.held = false → b.powered = true ∧ b.synth = true ∧ b.sysResetN = true ∧ tapHolds b.tapIr = false

/-- The invariant of every step. -/
def State.Inv (s : State) : Prop := s.memOk ∧ s.queueOk ∧ s.board.linesOk

/-- Command c of function f's admin ring is the critical command op, its trailer verifies leaving state t, and its other checks pass there
(R510, R514, R611). -/
structure State.Verified (s : State) (f op : Nat) (masks : List Nat) (good : AdmCmd → Bool) (c : AdmCmd) (t : State) : Prop where
  cur : s.admCmd f op true = some c
  trail : s.trailer c = (stSuccess, t)
  read : (c.reads && c.opRead != 0) = false
  clean : (c.clean masks && good c) = true
  free : t.targetBusy c = false

/-- Command c of function f's admin ring is command op, which is not critical, and its checks pass (R510, R514). -/
structure State.Checked (s : State) (f op : Nat) (ordered : Bool) (masks : List Nat) (good : AdmCmd → Bool) (c : AdmCmd) : Prop where
  cur : s.admCmd f op ordered = some c
  read : (c.reads && c.opRead != 0) = false
  clean : (c.clean masks && good c) = true
  free : s.targetBusy c = false

/-- Parse core k works on packet p and stands, not stalled, at the parse instruction w of the packet's version; c is the core (R160, R161). -/
structure State.Parses (s : State) (k w : Nat) (c : ParseCore) (p : Pkt) : Prop where
  core : s.core k = c
  pkt : c.pkt = some p
  insn : s.parseInsn k = some w
  runs : c.stalled = false

/-- The n window bytes from `off` on lie in the packet and have arrived (R159, R164). -/
def ParseCore.Holds (c : ParseCore) (off n : Nat) : Prop := off + n ≤ min c.len 512 ∧ off + n ≤ c.arrived

/-- Thread t of engine e of gallery g may issue the legal word w that stands at its PC: the thread runs, its engine is not halted and not
stepped by Lantern, no lock overrun waits, and no register of the word waits for a load (R208, R258, R260, R271, R282). -/
structure State.Stands (s : State) (g e t w : Nat) : Prop where
  runs : s.ts g e t = tRunnable ∨ s.ts g e t = tSupervisor
  live : s.engHalted g e = false
  steps : s.board.step = none
  whole : (s.thr g e t).overrun = false
  slot : s.pc g e t / 0x2000 = s.thrVer g e t % 4 ∧ 128 ≤ s.pc g e t % 0x2000 / 4
  word : (s.ver (s.thrVer g e t)).word (s.pc g e t % 0x2000 / 4) = w
  known : pyKnown w = true
  legal : pyLegal w = true
  loads : (pyRegs w).any (fun r => (s.thr g e t).loads.any (fun x => x.1 == r)) = false

/-- The state with one more instruction of the engine counted as issued. -/
def State.issued (s : State) (g e : Nat) : State := s.stat (R.PE_ISSUE_CNT g e)

/-- The instruction at the thread's PC in s is finished in u: the PC moves on, by the loop ends of R284. -/
def State.past (s u : State) (g e t : Nat) : State := u.finish g e t (s.pc g e t)

/-- The instruction is issued, writes v to register D and is finished. -/
def State.gives (s : State) (g e t w v : Nat) : State := s.past ((s.issued g e).setGr g e t (iD w) v) g e t

/-- The instruction is issued and register D is to take v when the load returns (R271). -/
def State.loads (s : State) (g e t w v : Nat) : State := s.past ((s.issued g e).later g e t (iD w) v) g e t

/-- The work of packet id at a crypto point is at the head of its session n's order, of the kind given: the context is cached, the gate waits for the
operation, and the session is not exhausted (R363, R365, R368). -/
structure State.Ciphers (s : State) (id kind n : Nat) (w : CryWork) : Prop where
  work : cryFind id s.path.cry [] = some w
  session : w.pkt.g Md.cryptoSession = n
  cached : s.cry.cache.contains n = true
  gate : s.cryGate w.pkt w.point = .wait
  kind : s.cx n Cx.kind = kind
  fresh : s.cx n Cx.exhausted ≠ 1

/-- The entry e, a command with opcode op whose flags ask for PRPs and no fusing, is the next of submission queue q of NVMe function f (R399). -/
structure State.NvmeAt (s : State) (f q op : Nat) (e : List Byte) : Prop where
  head : s.sqHead f q (fun e => e.getD 0 0 == BitVec.ofNat 8 op) = some e
  plain : ¬ ((e.getD 1 0).toNat % 4 ≠ 0 ∨ (e.getD 1 0).toNat / 64 = 3)

/-- The request r, of the type given and with room for its status, is the next of virtio-blk queue n of function f (R402). -/
structure State.BlkAt (s : State) (f n type : Nat) (r : BlkReq) : Prop where
  next : s.blkNext f n = some r
  kind : r.type = type
  room : r.noStatus = false

/-- The state after the block device has taken the request off its ring. -/
def State.blkTook (s : State) (f n : Nat) (r : BlkReq) : State := (s.vqTake f 7 n r.chain).stat R.STO_CMD_CNT

/-- A doorbell write that carries generation gen finds function f as R486 wants it: created, its BARs open to its host (which rules out a reset in progress), and of that generation. -/
structure State.Rings (s : State) (f gen : Nat) : Prop where
  created : (s.func f).created = true
  bars : s.barOpen f = true
  gen : gen = (s.func f).gen

/-- The device answers on carrier c, and session n, established, belongs to it (R602-R606). -/
structure State.InSess (s : State) (c n : Nat) (x : SpdmSess) : Prop where
  answers : s.answers c = true
  found : s.sessOf n = some x
  carrier : x.conn = c
  made : x.est = true

/-- Channel c of Rope runs a program and stands at the legal instruction w0, w1 of opcode op (R526-R528). -/
structure State.RopeAt (s : State) (c op w0 w1 : Nat) : Prop where
  runs : s.rst c = rRunning
  prog : (s.chan c).run ≠ none
  word0 : s.ropeWord c 0 = w0
  word1 : s.ropeWord c 1 = w1
  legal : ropeLegal w0 w1 = true
  kind : bitsOf w0 0 8 = op

/-- The state after the NC-SI package has taken a command with a good checksum: it is counted, and the package is selected. -/
def State.ncSeen (s : State) : State := (s.updPkg (fun x => { x with cmds := x.cmds + 1 })).wrB F.PRT_NCSI_STATUS_SELECTED true

/-- The package has its clock, and channel c, a configured port, has left its initial state (R590). -/
structure State.NcReady (s : State) (c : Nat) : Prop where
  clock : s.board.ncsiClk = true
  port : bitOf (s.ncSeen.rd F.PRT_STATUS_CONFIGURED) c = true
  ready : (s.ncSeen.nc c).ready = true

/-- The device answers SPDM requests on carrier c, whose connection has come to the phase given and speaks version ver (R601, R602). -/
structure State.SpdmAt (s : State) (c ver phase : Nat) : Prop where
  answers : s.answers c = true
  phase : phase ≤ (s.conn c).phase
  ver : (s.conn c).ver = ver

/-- Lantern serves a command of the level given: it is ready, the device is not in recovery, and the debug level suffices (R674, R675). -/
structure State.Serves (s : State) (level : Nat) : Prop where
  ready : s.lntReady = true
  normal : s.inRecovery = false
  level : level ≤ s.rd F.GRT_STATUS_DEBUG_LEVEL

/-- A safe run ends in no fault and no refusal. -/
def Safe (o : Host.Outcome State Fault Refusal) : Prop := ∃ t, o = .next t

end Sys2Proof.Machine
end

