-- ==== Sys2Proof/Certificates/Slice0/Obligations.lean ====
section
/-! DEFINITION. Certificates/Slice0/Obligations.lean: the statements about the device. Each says what a rule of the spec, or several, say of the
commands it names; the states are all states, reachable or not. -/

open Sys2Proof Sys2Proof.Machine

set_option cleanup.letToHave false

/-- A step with command c in front of the queue is `exec` of c on the same state with the queue's rest. -/
def Obligations.StepRunsFrontCommand : Prop :=
  ∀ (c : Instr) (l : List Instr) (s : State), step { s with pending := c :: l } = exec c { s with pending := l }

/-- On an empty queue a step answers a next state: one cycle of the core clock outside reset, no change while the core reset is held. This
is the model's choice (DESIGN CHOICE, log entry 2), not a rule. -/
def Obligations.EmptyQueueIsOneCycle : Prop :=
  ∀ s : State, s.pending = [] →
    (s.board.held = true → step s = .next s) ∧
    (s.board.held = false → step s = .next s.clockCycle.ncDrain)

/-- For every state, reachable or not: if the three byte memories (host memory, HBM, flash) are in canonical form, every waiting command is well
formed, and the core reset is held whenever the power is not good, the synthesiser is not locked, SYS_RESET_N is asserted or a test instruction
holds it, then the state after any step has these three properties too. -/
def Obligations.StepKeepsInvariant : Prop :=
  ∀ s t : State, s.Inv → step s = .next t → t.Inv

/-- The invariant of `StepKeepsInvariant` holds of the state after reset. -/
def Obligations.ResetMeetsInvariant : Prop := State.reset.Inv

/-- For every command and every state there is a next state: the model stops on no command. -/
def Obligations.EveryCommandCompletes : Prop := ∀ (c : Instr) (s : State), Safe (exec c s)

/-- Whatever the command: the waiting commands are as they were, what the device has put out stays put out (new outputs come in front), and
free values are taken in rising order. The queue, the outputs' list and the free values' counter are the model's own fields. -/
def Obligations.QueueOutputsAndFreeValues : Prop :=
  ∀ (c : Instr) (s t : State), exec c s = .next t → t.pending = s.pending ∧ s.out <:+ t.out ∧ s.free ≤ t.free

/-- A command other than those of PWR_GOOD, the supply rails, the synthesiser, SYS_RESET_N, the TAP and Lantern's `reset` leaves the power, the
synthesiser's lock, SYS_RESET_N, the TAP's instruction and the core reset as they are. -/
def Obligations.CoreResetLinesFrame : Prop :=
  ∀ (c : Instr) (s t : State), c.lines = false → exec c s = .next t →
    t.board.powered = s.board.powered ∧ t.board.synth = s.board.synth ∧ t.board.sysResetN = s.board.sysResetN ∧
    t.board.tapIr = s.board.tapIr ∧ t.board.held = s.board.held

/-- A command other than PLDM_FW_UPDATE, LNT_FLASH_ERASE and LNT_FLASH_WRITE leaves every byte of the flash as it is. -/
def Obligations.FlashFrame : Prop :=
  ∀ (c : Instr) (s t : State), c.flashes = false → exec c s = .next t → t.board.flash = s.board.flash

/-- A command other than PRINCIPAL_REKEY and SECURE_ERASE leaves the key of every principal as it is: a device reset, too, keeps them. -/
def Obligations.PrincipalKeysFrame : Prop :=
  ∀ (c : Instr) (s t : State), c.rekeys = false → exec c s = .next t → t.grt.prinKey = s.grt.prinKey

/-- Reset values that the spec states: the clock in FREERUN with counter and drip number 0, the fault ring empty, correlation IDs from 1, a mailbox
of a management PF and one of a control core assigned as R541 says, the steering table spread over the galleries, the spare engines of a gallery
idle, and no engine halted by Lantern. -/
def Obligations.ResetValues : Prop :=
  State.reset.rd F.FST_STATUS_STATE = 0 ∧ State.reset.fst.now = 0 ∧ State.reset.fst.drip = 0 ∧
  State.reset.rd F.FLT_RING_PI_PI = 0 ∧ State.reset.rd F.FLT_CORR_NEXT_CORR = 1 ∧
  State.reset.rd (F.MBX_CFG_RX_KIND 0) = 0 ∧ State.reset.rd (F.MBX_CFG_RX_KIND 5) = 1 ∧ State.reset.rd (F.MBX_CFG_RX_INDEX 5) = 0 ∧
  State.reset.rd (F.PE_STATUS_STATE 0 16) = 1 ∧ State.reset.rd (F.PE_STATUS_POS 3 7) = 7 ∧
  State.reset.rd F.LNT_STATUS_HALTED = 0 ∧ State.reset.pending = []

/-- An error counter at an offset: below the maximum an increment adds 1 to COUNT and changes nothing else; at the maximum COUNT stays, the first such
increment sets SAT, sets the SAT bit of the block's INT_STATUS register and writes one SATURATED entry; with SAT set a further increment changes
nothing. A write of 0 by ERROR_COUNTER_WRITE clears COUNT and SAT; any other value is ignored. -/
def Obligations.ErrorCounter : Prop :=
  (∀ (s : State) (off : Nat), s.cnt off < 0xFFFFFFFF → s.err off = s.wr (fld off 0 32) (s.cnt off + 1) ∧
    (s.err off).cnt off = s.cnt off + 1) ∧
  (∀ (s : State) (off : Nat), s.cnt off = 0xFFFFFFFF → s.rd (fld off 32 1) = 1 → s.err off = s) ∧
  (∀ (s : State) (off : Nat), s.cnt off = 0xFFFFFFFF → s.rd (fld off 32 1) = 0 →
    s.err off = (match satField off with
      | some f => (s.wr (fld off 32 1) 1).raise f
      | none => s.wr (fld off 32 1) 1).fault (satRec off)) ∧
  (∀ (s : State) (off lo : Nat) (v : Word) (row : RegRow), findRow (regRowsAt off) off = some row → row.kind = .errCnt lo → lo ≤ 31 →
    exec (.errorCounterWrite off v) s =
      .next (if (if lo = 0 then v.toNat else bitsOf v.toNat lo 32) = 0 then (s.wr (fld off lo 32) 0).wr (fld off (lo + 32) 1) 0 else s))

/-- Placing an entry writes its four words at index FLT_RING_PI mod 4,096 and adds 1 to FLT_RING_PI modulo 2^32; every word of every other index of
the ring is as it was. -/
def Obligations.FaultEntryPlaced : Prop :=
  ∀ (s : State) (r : FaultRec) (k : Nat), k < 4 →
    let pi := s.rd F.FLT_RING_PI_PI
    let w := ({ r with drip := some (r.drip.getD s.fst.drip), aligned := some (r.aligned.getD (s.rdB F.FST_STATUS_ALIGNED)) } : FaultRec).words pi
    (s.faultPlace r).reg (R.FLT_RING (pi % 4096) k) = BitVec.ofNat 64 (w.getD k 0) ∧
    (s.faultPlace r).rd F.FLT_RING_PI_PI = (pi + 1) % 2 ^ 32 ∧
    (∀ j, j < 4096 → j ≠ pi % 4096 → (s.faultPlace r).reg (R.FLT_RING j k) = s.reg (R.FLT_RING j k))

/-- Taking a correlation ID answers the next one; after 0xFFFFFFFF comes 1, never 0. An entry that belongs to no correlated fault carries 0. -/
def Obligations.CorrelationIds : Prop :=
  (∀ s : State, s.newCorr.1 = s.rd F.FLT_CORR_NEXT_CORR ∧
    s.newCorr.2.rd F.FLT_CORR_NEXT_CORR =
      (if s.rd F.FLT_CORR_NEXT_CORR = 0xFFFFFFFF then 1 else s.rd F.FLT_CORR_NEXT_CORR + 1) % 2 ^ 32) ∧
  ∀ (cls cause unit seq : Nat), ((({ cls := cls, cause := cause, unit := unit } : FaultRec).words seq).getD 0 0) / 2 ^ 32 = 0

/-- A low-half read of a register answers bits [31:0] and latches bits [63:32] of the same instant for the attachment, replacing what it had latched; the
high-half read of that register that follows answers the latched half and ends the latch, whatever the register holds by then. With no latch
held for the register, a high-half read answers the current high half and leaves the latch. A low-half read of an offset without a register
answers 0. All of this while the BARs of the attachment's management PF are open to its host. -/
def Obligations.SplitReads : Prop :=
  (∀ (a rid off : Nat) (s : State), s.barOpen (2 * a) = true → isReg off = true →
    let r := s.fabricRead a rid off false
    exec (.lowHalfRead a rid off) s =
      .next ((r.2.setSplit a { r.2.splitOf a with rdOff := off, rdHeld := true, rdHigh := BitVec.ofNat 32 (r.1.toNat / 2 ^ 32) }).emit
        (.readData a (r.1.toNat % 2 ^ 32)))) ∧
  (∀ (a rid off : Nat) (s : State), s.barOpen (2 * a) = true → isReg off = false → exec (.lowHalfRead a rid off) s = .next (s.emit (.readData a 0))) ∧
  (∀ (a rid off : Nat) (s t : State), s.barOpen (2 * a) = true → isReg off = true → exec (.lowHalfRead a rid off) s = .next t → t.barOpen (2 * a) = true →
    ∃ u, exec (.highHalfRead a rid off) t = .next u ∧
      u.out.head? = some (.readData a ((s.fabricRead a rid off false).1.toNat / 2 ^ 32 % 2 ^ 32)) ∧ (u.splitOf a).rdHeld = false) ∧
  (∀ (a rid off : Nat) (s : State), s.barOpen (2 * a) = true → ¬ ((s.splitOf a).rdHeld = true ∧ (s.splitOf a).rdOff = off) →
    let r := s.fabricRead a rid off true
    exec (.highHalfRead a rid off) s = .next (r.2.emit (.readData a (r.1.toNat / 2 ^ 32))))

/-- Outside the GRT window: a low-half write is held, replacing what the attachment held, and changes no register; the high-half write of that register
writes all 64 bits at once and ends the hold; with no low half held for the register it writes bits [63:32] alone. A low-half write of an offset
without a register does nothing. All of this while the BARs of the attachment's management PF are open to its host. -/
def Obligations.SplitWrites : Prop :=
  (∀ (a rid off : Nat) (v : BitVec 32) (s : State), s.barOpen (2 * a) = true → off < 0x2600000 → isReg off = true →
    exec (.lowHalfWrite a rid off v) s = .next (s.setSplit a { s.splitOf a with wrOff := off, wrHeld := true, wrLow := v })) ∧
  (∀ (a rid off : Nat) (v : BitVec 32) (s : State), s.barOpen (2 * a) = true → off < 0x2600000 → isReg off = false → exec (.lowHalfWrite a rid off v) s = .next s) ∧
  (∀ (a rid off : Nat) (lo hi : BitVec 32) (s t : State), s.barOpen (2 * a) = true → off < 0x2600000 → isReg off = true → exec (.lowHalfWrite a rid off lo) s = .next t →
    t.regs = s.regs ∧
    exec (.highHalfWrite a rid off hi) t =
      .next ((t.setSplit a { t.splitOf a with wrHeld := false, wrOff := 0, wrLow := 0 }).regWrite a rid off (hi ++ lo) false)) ∧
  (∀ (a rid off : Nat) (hi : BitVec 32) (s : State), s.barOpen (2 * a) = true → ¬ ((s.splitOf a).wrHeld = true ∧ (s.splitOf a).wrOff = off) →
    exec (.highHalfWrite a rid off hi) s = .next (s.regWrite a rid off (hi ++ 0#32) true))

/-- An access of a wrong size, a write to the GRT window (whole or by halves, as a register write or under its own name) and a bad doorbell write change
nothing but their counter and the fault ring; a read of a wrong size answers 0. Where the BARs of a function are closed to its host (no Memory Space
Enable, or a reset in progress) a read completes with UR, a write is discarded, and AER or HIF_MALFORMED_CNT says so. -/
def Obligations.DiscardedAccesses : Prop :=
  (∀ (a rid off : Nat) (s : State), s.barOpen (2 * a) = true → exec (.badSizeRegisterAccess a rid off true) s =
    .next (((s.err R.FLT_ACCESS_CNT).accessFault 1 a off rid ((s.err R.FLT_ACCESS_CNT).cnt R.FLT_ACCESS_CNT) (some a)).emit (.readData a 0))) ∧
  (∀ (a rid off : Nat) (s : State), s.barOpen (2 * a) = true → exec (.badSizeRegisterAccess a rid off false) s =
    .next ((s.err R.FLT_ACCESS_CNT).accessFault 1 a off rid ((s.err R.FLT_ACCESS_CNT).cnt R.FLT_ACCESS_CNT) (some a))) ∧
  (∀ (a rid off : Nat) (v : Word) (s : State), s.barOpen (2 * a) = true → a < 4 → 0x2600000 ≤ off → off < 0x2800000 →
    exec (.grtWindowWrite a rid off) s =
      .next ((s.err R.FLT_ACCESS_CNT).accessFault 2 a off rid ((s.err R.FLT_ACCESS_CNT).cnt R.FLT_ACCESS_CNT) (some a)) ∧
    exec (.registerWrite (.reg a rid off v)) s = exec (.grtWindowWrite a rid off) s ∧
    exec (.lowHalfWrite a rid off (v.setWidth 32)) s = exec (.grtWindowWrite a rid off) s) ∧
  (∀ (f rid off : Nat) (s : State), s.barOpen f = true → exec (.doorbellBadWrite f rid off) s =
    .next (s.badDb.accessFault 4 (s.badDb.attOf f) off rid (s.badDb.cnt R.QMG_BAD_DB_CNT) (some (s.badDb.attOf f)))) ∧
  (∀ (a rid off : Nat) (v : BitVec 32) (s : State), s.barOpen (2 * a) = false →
    (∀ c ∈ [Instr.lowHalfRead a rid off, .highHalfRead a rid off, .badSizeRegisterAccess a rid off true],
      exec c s = .next (s.barRefuse (2 * a) true)) ∧
    (∀ c ∈ [Instr.lowHalfWrite a rid off v, .highHalfWrite a rid off v, .badSizeRegisterAccess a rid off false, .doorbellBadWrite (2 * a) rid off],
      exec c s = .next (s.barRefuse (2 * a) false)) ∧
    (a < 4 → exec (.registerWrite (.reg a rid off (v ++ v))) s = .next (s.barRefuse (2 * a) false))) ∧
  (∀ (f : Nat) (s : State), (s.barRefuse f true).out = .unsupported (s.attOf f) :: (s.barRefuse f false).out ∧
    ((s.func f).resetting = true → s.barRefuse f false = s.err (R.HIF_MALFORMED_CNT (s.attOf f))) ∧
    ((s.func f).resetting = false → s.barRefuse f false = s.updFunc f (fun x => { x with aer := { x.aer with unsupported := true } })))

/-- A write to a register that has no rule of its own writes its RW fields, clears RW1C bits written 1, sets RW1S bits written 1 and leaves the rest; an
offset without a register takes none; a statistic none; a write of MAX_READ_REQUEST_SIZE changes that field of the function's configuration space,
one of an MSI-X entry's data that entry, where the function has it. -/
def Obligations.RegisterWrites : Prop :=
  (∀ (who rid off : Nat) (v : Word) (s : State) (row : RegRow), s.partyOpen who = true → off < 0x2600000 → findRow (regRowsAt off) off = some row → row.kind = .plain →
    s.actWrite who rid off v = none →
    exec (.registerWrite (.reg who rid off v)) s =
      .next (s.setReg off (w64 (row.flds.foldl (fun o f => writeField o v.toNat f) (s.reg off).toNat))).faultPending) ∧
  (∀ (who rid off : Nat) (v : Word) (s : State), s.partyOpen who = true → off < 0x2600000 → findRow (regRowsAt off) off = none →
    exec (.registerWrite (.reg who rid off v)) s = .next s) ∧
  (∀ (who rid off : Nat) (v : Word) (s : State) (row : RegRow), s.partyOpen who = true → off < 0x2600000 → findRow (regRowsAt off) off = some row → row.kind = .stat →
    exec (.registerWrite (.reg who rid off v)) s = .next s) ∧
  (∀ (f v : Nat) (s : State), exec (.registerWrite (.cfg f .mrrs v)) s =
    .next (s.updFunc f (fun x => { x with cfg := { x.cfg with mrrs := v % 8 } }))) ∧
  (∀ (f e v : Nat) (s : State), s.barOpen f = true → (s.func f).vecTable ≤ e → exec (.registerWrite (.msix f e 1 v)) s = .next s) ∧
  (∀ (f e v : Nat) (s : State), s.barOpen f = true → e < (s.func f).vecTable → exec (.registerWrite (.msix f e 1 v)) s =
    .next ((s.updFunc f (fun x => { x with msix := Map.upd x.msix {} e (fun y => { y with data := v % 2 ^ 32 }) })).pbaSend f e))

/-- A vote runs when one is due. A verified TIME_SOURCE_SET stages VALUE and completes, or with APPLY at 1 waits for the vote boundary; there the staged
values are written together. A verified TIME_STEP is refused in ACQUIRING and LOCKED; elsewhere SLEW_REL adds VALUE to PEND at once and the other
operations wait for the drip boundary, where the counter is stepped, whatever it held. Loss of OSC_IN shows OSC_LOST and takes ETH_REFCLK; its return
ends OSC_LOST. TAKE captures the counter of the instant and adds 1 to SEQ. -/
def Obligations.ClockCommands : Prop :=
  (∀ s : State, s.fst.voteDue = true → exec .voteBoundary s = .next s.vote) ∧
  (∀ s : State, s.fst.voteDue = false → exec .voteBoundary s = .next s) ∧
  (∀ (f : Nat) (s t : State) (c : AdmCmd),
    s.Verified f 0x28 [0x1001FFFFF, 0xFFFFFFFFFFFFFFFF] (fun c => tsValueOk (0x100000 + bitsOf (c.word 8) 0 21) (c.word 0x10)) c t →
    t.fst.staged.length < 32 →
    exec (.timeSourceSet f) s = .next (
      let u := t.stageTs (0x100000 + bitsOf (c.word 8) 0 21) (c.word 0x10)
      if bitOf (c.word 8) 32 then { u.admWait f with fst := { u.fst with applyFns := u.fst.applyFns ++ [f] } } else u.admDone f stSuccess)) ∧
  (∀ (f : Nat) (l : List Nat) (s : State), s.fst.applyFns = f :: l → s.fst.atVote = true →
    let u : State := { s with fst := { s.fst with applyFns := [] } }
    exec .timeSourceApply s = .next (
      if u.writeAllStaged.tsCross then
        ((({ u.writeAllStaged with fst := { u.writeAllStaged.fst with staged := [] } }.wr F.FST_STATUS_STAGED 0).tsFollow
          (List.map Prod.fst u.fst.staged)).tsMove).applyDone (f :: l) stSuccess
      else u.applyDone (f :: l) stBadField)) ∧
  (∀ (f : Nat) (s t : State) (c : AdmCmd), s.Verified f 0x29 [0x3, 0xFFFFFFFFFFFFFFFF, 0xFFFFFFFFFFFFFFFF] stepRangeOk c t →
    (t.rd F.FST_STATUS_STATE = 1 ∨ t.rd F.FST_STATUS_STATE = 2 → exec (.timeStep f) s = .next (t.admDone f stNotPermitted)) ∧
    (t.rd F.FST_STATUS_STATE ≠ 1 → t.rd F.FST_STATUS_STATE ≠ 2 → bitsOf (c.word 8) 0 2 = 2 →
      exec (.timeStep f) s = .next ((t.wrPend (t.rdI F.FST_PHASE_PEND_PEND + sWord c 0x10)).admDone f stSuccess)) ∧
    (t.rd F.FST_STATUS_STATE ≠ 1 → t.rd F.FST_STATUS_STATE ≠ 2 → bitsOf (c.word 8) 0 2 ≠ 2 →
      ∃ q u, exec (.timeStep f) s = .next u ∧ u.fst.stepReqs = t.fst.stepReqs ++ [q] ∧ q.fn = f ∧ u.regs = t.regs)) ∧
  (∀ (s : State) (q : StepReq) (l : List StepReq), s.fst.stepReqs = q :: l → s.fst.cycle = 0 → q.abs = true → q.sec < 2 ^ 48 → q.ns < 1000000000 → q.frac < 65536 →
    exec .timeStepApply s =
      .next (({ s with fst := { s.fst with stepReqs := l } }.stepNow (((q.sec * 1000000000 + q.ns) * 65536 + q.frac : Nat) : Int)).admDone
        q.fn stSuccess)) ∧
  (∀ s : State, s.fst.realign = some 0 → s.fst.cycle = 0 → s.fst.aligning = false →
    exec .realignCountExpiry s = .next { s with fst := { s.fst with realign := none } }.startAlign) ∧
  (∀ s : State, s.rd F.FST_STATUS_OSC_LOST = 0 → s.fst.lockDecided = false → s.rd F.FST_STATUS_STATE ≠ 2 → s.rd F.FST_STATUS_STATE ≠ 3 →
    let u := (s.wr F.FST_STATUS_OSC_LOST 1).raise F.FST_INT_STATUS_OSC_LOST
    exec .oscInLoss s = .next { u with fst := { u.fst with refEth := true, oscReturn := false, relockWait := false } }) ∧
  (∀ s : State, s.rd F.FST_STATUS_OSC_LOST = 1 → exec .oscInReturn s =
    .next { s.wr F.FST_STATUS_OSC_LOST 0 with fst := { s.fst with oscReturn := true } }) ∧
  (∀ s : State, exec .fdpllInputLoss s = .next { s.wr F.FST_SYNCE_STATUS_LOCKED 0 with fst := { s.fst with hybridActive := false } }) ∧
  (∀ (a : Nat) (s : State), a < 4 → ∃ t, exec (.snapshotTake a) s = .next t ∧
    t.reg (R.FST_SNAP_DRIP a) = BitVec.ofNat 64 s.fst.drip ∧
    t.reg (R.FST_SNAP_SEC a) = BitVec.ofNat 64 (s.fst.sec + (s.rd (F.FST_SNAP_SEC_SEQ a) + 1) % 65536 * 2 ^ 48) ∧ t.fst = s.fst)

/-- DRIP_BOUNDARY: the clock's part (the drip number goes up by 1 or is reloaded), then the dispatchers and engines, the traffic manager, and what goes
to storage, Rope and the hosts, in this order; while the core reset is held, nothing. -/
def Obligations.DripBoundary : Prop :=
  (∀ s : State, s.board.held = true → exec .dripBoundary s = .next s) ∧
  (∀ s : State, s.board.held = false → exec .dripBoundary s =
    .next ((((s.dripClock).2.dripGalleries (s.dripClock).1).dripTm).dripHosts))

/-- On a port in master state Sync and Announce are sent with the instance's sequence number, which goes up by 1 modulo 65536; a two-step Sync is
followed by its Follow_Up with the departure stamp. A client port's Delay_Req and a peer-delay port's Pdelay_Req record their sequence number and
departure stamp. On other ports nothing is sent. Grants are asked for anew for 300 s. -/
def Obligations.PtpSends : Prop :=
  (∀ (i p : Nat) (s : State), s.ptpMember i p = true → s.rd (portStateFld i p) = psMaster →
    let u := (s.oneStepDown i).updInst i (fun x => { x with syncSeq := (((s.oneStepDown i).inst i).syncSeq + 1) % 65536 })
    let q := ((s.oneStepDown i).inst i).syncSeq
    let t := (s.oneStepDown i).stampTx p 0
    exec (.ptpSyncTx i p) s = .next (
      if (s.oneStepDown i).sendsTwoStep i p then (u.ptpSend i p 0x0 q 0 0 true).ptpSend i p 0x8 q t 0 true
      else u.ptpSend i p 0x0 q t 0 false)) ∧
  (∀ (i p : Nat) (s : State), s.rd (portStateFld i p) ≠ psMaster → exec (.ptpSyncTx i p) s = .next s ∧ exec (.ptpAnnounceTx i p) s = .next s) ∧
  (∀ (i p : Nat) (s : State), s.ptpMember i p = true → s.rd (portStateFld i p) = psMaster →
    exec (.ptpAnnounceTx i p) s = .next ((s.updInst i (fun x => { x with annSeq := ((s.inst i).annSeq + 1) % 65536 })).ptpSend i p 0xB
      (s.inst i).annSeq 0 0 false)) ∧
  (∀ (i p : Nat) (s : State), s.ptpMember i p = true → s.isClientPort i p = true → s.rd (F.FST_PTP_CFG_P2P i) = 0 →
    exec (.ptpDelayReqTx i p) s = .next ((s.updInst i (fun x => { x with
      reqSeq := ((s.inst i).reqSeq + 1) % 65536, reqT3 := some (s.stampTx p 0), reqPort := p })).ptpSend i p 0x1 (((s.inst i).reqSeq + 1) % 65536) 0 0 false)) ∧
  (∀ (i p : Nat) (s : State), s.ptpMember i p = true → s.rd (F.FST_PTP_CFG_P2P i) = 1 →
    exec (.ptpPdelayReqTx i p) s = .next ((s.updInst i (fun x => { x with peer := Map.upd x.peer {} p (fun d =>
      { d with seq := (((s.inst i).pd p).seq + 1) % 65536, t1 := s.stampTx p 0, sent := true, waitFup := false }) })).ptpSend i p 0x2
        ((((s.inst i).pd p).seq + 1) % 65536) 0 0 false)) ∧
  (∀ (i k : Nat) (g : Grant) (s : State), (s.inst i).held.find? (fun g => g.kind == k) = some g →
    exec (.ptpGrantRenew i k) s = .next (s.emit (.ptpGrant i g.client k 300))) ∧
  (∀ (i k : Nat) (g : Grant) (s : State), (s.inst i).denied.find? (fun g => g.kind == k) = some g →
    exec (.ptpGrantRequestRetry i k) s =
      .next ((s.updInst i (fun x => { x with denied := x.denied.filter (· ≠ g) })).emit (.ptpGrant i g.client k 300))) ∧
  (∀ (i client k : Nat) (s : State), exec (.ptpGrantExpiry i client k) s =
    .next (s.updInst i (fun x => { x with given := x.given.filter (fun g => !(g.client == client && g.kind == k)) })))

/-- With t the state after a message has passed the checks of every message: a client stamps the Sync of its parent and keeps a two-step one for its
Follow_Up; a Follow_Up without its Sync is discarded and counted; a master answers Delay_Req with the arrival stamp; a Delay_Resp that does not match
is kept for a second; Pdelay_Req is answered one-step or two-step; a Pdelay_Resp that does not match changes nothing more; an Announce with
fewer than 255 steps feeds the BMCA; a grant of a slower rate or of 0 s is recorded as denied for 60 s; a management message is counted
as refused with no answer. A held message without a match is discarded and counted after its second. A parent's Announce that stays out ends it. -/
def Obligations.PtpReceives : Prop :=
  (∀ (i p : Nat) (m : PtpMsg) (s t : State), (s.ptpAccept i p m 44).1 = some t →
    (t.isClientPort i p = true → (t.inst i).parentPort = some p → (t.inst i).parent.src = m.src →
      exec (.ptpSyncRx i p m) s = .next (if m.twoStep then
        t.updInst i (fun x => { x with heldSync := some ⟨p, m.src, m.seq, t.stampRx p m.sub, m.corr⟩ })
        else t.ptpSyncDone i p (m.ts + m.corr) (t.stampRx p m.sub))) ∧
    ((t.inst i).heldSync = none → exec (.ptpFollowUpRx i p m) s = .next (t.err (R.FST_PTP_UNMATCHED_CNT i))) ∧
    (∀ h, (t.inst i).heldSync = some h → h.port = p → h.src = m.src → h.seq = m.seq →
      exec (.ptpFollowUpRx i p m) s = .next (t.ptpSyncDone i p (m.ts + m.corr + h.corr) h.t2)) ∧
    (t.rd (portStateFld i p) = psMaster →
      exec (.ptpDelayReqRx i p m) s = .next (t.ptpSend i p 0x9 m.seq (t.stampRx p m.sub) m.corr false))) ∧
  (∀ (i p : Nat) (m : PtpMsg) (s t : State), (s.ptpAccept i p m 54).1 = some t →
    ((t.inst i).reqT3 = none → exec (.ptpDelayRespRx i p m) s =
      .next (t.updInst i (fun y => { y with unmatched := y.unmatched ++ [⟨p, 0x9, m.seq, m.src⟩] }))) ∧
    (∀ t3, (t.inst i).reqT3 = some t3 → (t.inst i).reqSeq = m.seq → (t.inst i).reqPort = p → m.req = i * 8 + p → (t.inst i).syncOk = false →
      exec (.ptpDelayRespRx i p m) s = .next (t.updInst i (fun y => { y with reqT3 := none, minDelayReq := m.logInterval }))) ∧
    (exec (.ptpPdelayReqRx i p m) s = .next (if t.sendsTwoStep i p then
      (t.ptpSend i p 0x3 m.seq (t.stampRx p m.sub) 0 true).ptpSend i p 0xA m.seq (t.stampTx p m.sub) m.corr true
      else t.ptpSend i p 0x3 m.seq 0 (m.corr + (t.stampTx p m.sub - t.stampRx p m.sub)) false)) ∧
    (((t.inst i).pd p).sent = true → ((t.inst i).pd p).seq = m.seq → m.twoStep = true →
      exec (.ptpPdelayRespRx i p m) s = .next (t.updInst i (fun x => { x with
        peer := Map.upd x.peer {} p (fun d => { d with t4 := t.stampRx p m.sub, turn := -m.ts + m.corr, waitFup := m.twoStep }) }))) ∧
    (((t.inst i).pd p).waitFup = true → ((t.inst i).pd p).seq = m.seq →
      exec (.ptpPdelayRespFollowUpRx i p m) s = .next (t.ptpPeerDone i p (((t.inst i).pd p).turn + m.ts + m.corr)))) ∧
  (∀ (i p : Nat) (m : PtpMsg) (a : AnnounceMsg) (s t : State), (s.ptpAccept i p m 64).1 = some t → 255 ≤ a.steps →
    exec (.ptpAnnounceRx i p m a) s = .next t) ∧
  (∀ (i p : Nat) (m : PtpMsg) (a : AnnounceMsg) (s t : State), (s.ptpAccept i p m 64).1 = some t → a.steps < 255 →
    ∃ u, exec (.ptpAnnounceRx i p m a) s = .next (State.bmca u i) ∧ (Map.get (u.inst i).foreign {} p).gmIdentity = a.gmIdentity ∧
      (Map.get (u.inst i).foreign {} p).steps = a.steps ∧ u.regs = t.regs) ∧
  (∀ (i p k : Nat) (lp : Int) (dur : Nat) (m : PtpMsg) (s t : State), (s.ptpAccept i p m 44).1 = some t → dur = 0 ∨ 0 < lp →
    exec (.ptpSignalingRx i p m (.grant k lp dur)) s = .next (t.updInst i (fun x => { x with
      held := (t.inst i).held.filter (fun g => !(g.client == m.src && g.kind == k)), denied := ⟨m.src, k, 60⟩ :: x.denied }))) ∧
  (∀ (i p : Nat) (m : PtpMsg) (s t : State), (s.ptpAccept i p m 48).1 = some t →
    exec (.ptpManagementRx i p m) s = .next (t.err (R.FST_PTP_REFUSED_CNT i))) ∧
  (∀ (i : Nat) (h : PtpHeld) (l : List PtpHeld) (s : State), (s.inst i).unmatched = h :: l →
    exec (.ptpUnmatchedTimeout i) s = .next ((s.updInst i (fun y => { y with unmatched := l })).err (R.FST_PTP_UNMATCHED_CNT i))) ∧
  (∀ (i p : Nat) (s : State), (s.inst i).parentPort = some p → exec (.ptpAnnounceReceiptTimeout i) s =
    .next ((s.updInst i (fun x => { x with foreign := Map.set x.foreign {} p {} })).bmca i))

/-- ESMC frames beyond ten in a second only raise SYNCE_EVENT; an information frame goes out on each enabled port every second. A SyncE input that is
lost, recovers, ends its hold-off or its wait to restore is selected anew as R127 says. PPS_OUT begins a pulse only where none is high, and ends it
after WIDTH. A rising edge on PPS_IN outside the spacing is a glitch: it is counted and restarts the spacing check. A time-of-day sentence whose
checksum fails does nothing. A PTM dialogue without an answer is discarded, and one answered gives the pair, the rate and the link delay, and the pages. CLOCK_PAGE_SET registers the page of its TARGET. A finished
calibration fills the port's delays. -/
def Obligations.CarryingTime : Prop :=
  (∀ (s : State), exec .esmcInfoTx s =
    .next ((s.each (List.range 8) (fun t p => t.updSin (p + 4) (fun x => { x with frames := 0 }))).esmcSend false)) ∧
  (∀ (p ql : Nat) (s : State), 10 ≤ (s.sin (p + 4)).frames → exec (.esmcRx p ql) s = .next (s.raise F.FST_INT_STATUS_SYNCE_EVENT)) ∧
  (∀ (p ql : Nat) (s : State), (s.sin (p + 4)).frames < 10 → (qlOrder (s.rd F.FST_SYNCE_CFG_EEC_TYPE)).contains ql = true →
    exec (.esmcRx p ql) s = .next ((s.updSin (p + 4) (fun y => y.taken ql)).qlChanged (p + 4)
      (decide (qlRank (s.rd F.FST_SYNCE_CFG_EEC_TYPE) (s.sin (p + 4)).ql < qlRank (s.rd F.FST_SYNCE_CFG_EEC_TYPE) ql)))) ∧
  (∀ (p : Nat) (s : State), s.rd F.FST_SYNCE_STATUS_SEL_INPUT = p + 4 → exec (.esmcTimeout p) s =
    .next (((s.updSin (p + 4) (fun x => { x with failed := true })).raise F.FST_INT_STATUS_SYNCE_EVENT).qlChanged (p + 4) true)) ∧
  (∀ (n : Nat) (s : State), exec (.synceInputLoss n) s = .next ((s.updSin n (fun x => { x with signal := false })).qlChanged n true)) ∧
  (∀ (n : Nat) (s : State), exec (.synceInputRecovery n) s =
    .next (s.updSin n (fun x => { x with signal := true, holdOff := false, wtr := !x.holdOff })).reselect) ∧
  (∀ (n : Nat) (s : State), (s.sin n).holdOff = true → exec (.synceHoldOffExpiry n) s =
    .next (s.updSin n (fun x => { x with holdOff := false })).reselect) ∧
  (∀ (n : Nat) (s : State), (s.sin n).wtr = true → exec (.synceWtrExpiry n) s = .next (s.updSin n (fun x => { x with wtr := false })).reselect) ∧
  (∀ (n : Nat) (s : State), (Map.get s.car.ppsOut {} n).high = true → exec (.ppsOutStart n) s = .next s ∧ exec (.ppsOutEnd n) s =
    .next ({ s with car := { s.car with ppsOut := Map.set s.car.ppsOut {} n { Map.get s.car.ppsOut {} n with high := false } } }.emit (.pps n false))) ∧
  (∀ (n : Nat) (s : State), s.rd (F.FST_PPS_OUT_CFG_ENABLE n) = 1 → s.ppsAllowed n = true → Map.get s.car.ppsOut {} n = {} →
    ∃ t, exec (.ppsOutStart n) s = .next t ∧ t.out = .pps n true :: s.out ∧ (Map.get t.car.ppsOut {} n).high = true ∧ t.regs = s.regs) ∧
  (∀ (n sub : Nat) (l : Int) (s : State), (Map.get s.car.ppsIn {} n).lastEdge = some l → s.fst.now + sub - l < 65536 * 999900000 →
    exec (.ppsInEdge n sub) s = .next ({ s with car := { s.car with
      ppsIn := Map.set s.car.ppsIn {} n { Map.get s.car.ppsIn {} n with lastEdge := some (s.fst.now + sub) } } }.err (R.FST_PPS_GLITCH_CNT n))) ∧
  (∀ (n sub : Nat) (s : State), (Map.get s.car.ppsIn {} n).lastEdge = none → ∃ t, exec (.ppsInEdge n sub) s = .next t ∧
    (Map.get t.car.ppsIn {} n).edge = some (s.fst.now + sub) ∧ t.regs = s.regs) ∧
  (∀ (n utc : Nat) (s : State), exec (.todSentenceRx n false utc) s = .next s) ∧
  (∀ (n utc : Nat) (e : Int) (s : State), (Map.get s.car.ppsIn {} n).edge = some e → 65536 * 10000000 ≤ s.fst.now - e →
    s.fst.now - e ≤ 65536 * 990000000 → ∃ t, exec (.todSentenceRx n true utc) s = .next t ∧
      (Map.get t.car.ppsIn {} n).lastTod = some (utc + s.rdI F.FST_TOD_CFG_UTC_OFFSET) ∧ t.regs = s.regs) ∧
  (∀ (a : Nat) (s : State), (s.func (mgmtOf a)).cfg.ptmEnable = true → s.rd (F.HIF_LINK_STATUS_DL_UP a) = 1 → exec (.ptmDialogueStart a) s =
    .next ({ s with car := { s.car with ptm := Map.upd s.car.ptm {} a (fun x => { x with open_ := some s.fst.now }) } }.emit (.ptmRequest a))) ∧
  (∀ (a : Nat) (t2 turn : Int) (s : State), (Map.get s.car.ptm {} a).open_ = none → exec (.ptmResponseRx a t2 turn) s = .next s ∧
    exec (.ptmResponseTimeout a) s = .next s) ∧
  (∀ (a : Nat) (t1 : Int) (s : State), (Map.get s.car.ptm {} a).open_ = some t1 → exec (.ptmResponseTimeout a) s = .next (s.ptmDiscard a) ∧
    ∀ (t2 turn : Int), (s.fst.now - t1 < turn → exec (.ptmResponseRx a t2 turn) s = .next (s.ptmDiscard a)) ∧
      (turn ≤ s.fst.now - t1 →
        let rt := s.fst.now - t1 - turn
        let host := t2 + turn + rt.ediv 2
        let pairs := ((host, s.fst.now) :: (Map.get s.car.ptm {} a).pairs).take 16
        let r := s.ptmRate pairs
        let u : State := { r.2 with
          car := { r.2.car with ptm := Map.set r.2.car.ptm {} a { Map.get s.car.ptm {} a with
            open_ := none, bad := 0, pairs := pairs, hostT := host.ediv 65536, devT := s.fst.now - host.emod 65536, rate := r.1 } } }
        let v := u.wr (F.FST_PTM_STATUS_PTM_VALID a) 1
        let d := v.roundPs ((rt.toNat * 1000) / 131072, (rt.toNat * 1000) % 131072 == 0)
        exec (.ptmResponseRx a t2 turn) s = .next ((d.2.wr (F.FST_PTM_STATUS_LINK_DELAY a) (stop32 d.1)).writeTimePages (some a)))) ∧
  (∀ (f : Nat) (s : State) (c : AdmCmd), s.Checked f 0x0B false [0xFFFFFFFFFFFFFFFF] (fun c => c.word 8 % 128 == 0) c → exec (.clockPageSet f) s =
    .next ((s.updFunc c.target (fun x => { x with clockPage := c.word 8, clockSeq := 0, clockTSeq := 0 })).admDone f stSuccess)) ∧
  (∀ (p tx rx temp : Nat) (s : State), (s.prt1 p).calWait = true →
    let t := (s.setPrt p { s.prt1 p with calWait := false }).calibrate p true tx rx temp
    exec (.portCalibrationDone p true tx rx temp) s = .next (if t.linkReady p then t.setUp p true else t)) ∧
  (∀ (p : Nat) (s : State), s.rd (F.PRT_LINK_STATUS_UP p) = 1 →
    let c := fun k => Config.tempCorr p k ((s.rd F.FLT_THERM_TEMP : Int) - s.rd (F.FST_PORT_CAL_STATUS_CAL_TEMP p))
    exec (.delayTempCorrection p) s = .next ((s.wrI (F.FST_PORT_CAL_TX_CAL p) (s.rd (F.FST_PORT_CAL_TX_CAL p) + c 0)).wrI
      (F.FST_PORT_CAL_RX_CAL p) (s.rd (F.FST_PORT_CAL_RX_CAL p) + c 1))) ∧
  (∀ s : State, s.rd F.FST_SYNCE_STATUS_SEL_INPUT < 12 → exec .frequencyDpllLock s =
    .next { s.wr F.FST_SYNCE_STATUS_LOCKED 1 with fst := { s.fst with hybridActive := s.rdB F.FST_PDPLL_CFG_HYBRID } })

/-- A parse core that stands at one of these instructions: MOVI, SHL, SHR, AND, OR and ADD write register D and nothing else of the core; CMP sets
EQ and LT from S and the immediate; BR goes to its target when its condition holds, else on; ADVI and ADVR move the cursor, which stops at
1,023; EMITR writes the low L bytes of S, most significant first, into the key scratch; SETMD writes L metadata bits; MARK records a layer
offset and its LAYER_VALID bit; DONE ends the parse with code 0 and FAIL with its immediate. After the others the core goes on at its next
instruction (which R164 bounds). At another instruction the command does nothing. -/
def Obligations.ParseRegisterInstructions : Prop :=
  ∀ (k w : Nat) (c : ParseCore) (p : Pkt) (s : State), s.Parses k w c p →
    (pOp w = 0x03 → exec (.parseMovi k) s = .next (s.parseGo k (c.setR (pD w) (pImm w)) (c.pc + 1))) ∧
    (pOp w = 0x04 → exec (.parseShl k) s = .next (s.parseGo k (c.setR (pD w) (c.r (pS w) * 2 ^ (pX w % 64))) (c.pc + 1))) ∧
    (pOp w = 0x05 → exec (.parseShr k) s = .next (s.parseGo k (c.setR (pD w) (c.r (pS w) / 2 ^ (pX w % 64))) (c.pc + 1))) ∧
    (pOp w = 0x06 → exec (.parseAnd k) s = .next (s.parseGo k (c.setR (pD w) (c.r (pS w) &&& pImm w)) (c.pc + 1))) ∧
    (pOp w = 0x07 → exec (.parseOr k) s = .next (s.parseGo k (c.setR (pD w) (c.r (pS w) ||| pImm w)) (c.pc + 1))) ∧
    (pOp w = 0x08 → exec (.parseAdd k) s = .next (s.parseGo k (c.setR (pD w) (c.r (pS w) + pImm w)) (c.pc + 1))) ∧
    (pOp w = 0x09 → exec (.parseCmp k) s =
      .next (s.parseGo k { c with eq := c.r (pS w) == pImm w, lt := decide (c.r (pS w) < pImm w) } (c.pc + 1))) ∧
    (pOp w = 0x0A → exec (.parseBr k) s = .next (s.parseGo k c (if c.cond (pC w) then pImm w % 2048 else c.pc + 1))) ∧
    (pOp w = 0x0C → exec (.parseAdvi k) s = .next (s.parseGo k { c with cur := min (c.cur + pX w) 1023 } (c.pc + 1))) ∧
    (pOp w = 0x0D → exec (.parseAdvr k) s = .next (s.parseGo k { c with cur := min (c.cur + c.r (pS w)) 1023 } (c.pc + 1))) ∧
    (pOp w = 0x0F → exec (.parseEmitr k) s = .next (s.parseGo k { c with pkt := some { p with scratch := (p.scratch.take (pImm w % 128)
      ++ beBytes (c.r (pS w)) (pL w) ++ p.scratch.drop (pImm w % 128 + (beBytes (c.r (pS w)) (pL w)).length)).take 128 } } (c.pc + 1))) ∧
    (pOp w = 0x10 → exec (.parseSetmd k) s = .next (s.parseGo k { c with pkt := some (p.s (pImm w % 512, pL w) (c.r (pS w))) } (c.pc + 1))) ∧
    (pOp w = 0x11 → c.cur + pX w ≤ min p.data.length 511 → exec (.parseMark k) s =
      .next (s.parseGo k { c with pkt := some ((p.s (Md.layer (pImm w % 8)) (c.cur + pX w)).s (152 + pImm w % 8, 1) 1) } (c.pc + 1))) ∧
    (pOp w = 0x11 → min p.data.length 511 < c.cur + pX w → exec (.parseMark k) s = .next (s.parseEnd k c 0xFE)) ∧
    (pOp w = 0x12 → exec (.parseDone k) s = .next (s.parseEnd k c 0)) ∧
    (pOp w = 0x13 → exec (.parseFail k) s = .next (s.parseEnd k c (pImm w % 256))) ∧
    (pOp w ≠ 0x03 → exec (.parseMovi k) s = .next s)

/-- EXT, EXTB, BRF and EMIT read window bytes from the cursor plus X on. Where all of them are in the window and have arrived: EXT loads L bytes most
significant first, EXTB L bits from a bit position on, BRF compares L bytes with the immediate and branches, EMIT copies L bytes into the key scratch.
Bytes beyond the packet or the window end the parse with OUT_OF_PACKET; bytes that have not arrived stall the core, which changes nothing else, and
once they arrive the instruction completes. -/
def Obligations.ParseWindowInstructions : Prop :=
  ∀ (k w : Nat) (c : ParseCore) (p : Pkt) (s : State), s.Parses k w c p →
    let l := (p.data.drop (c.cur + pX w)).take (pL w)
    (pOp w = 0x01 → c.Holds (c.cur + pX w) (pL w) → exec (.parseExt k) s = .next (s.parseGo k (c.setR (pD w) (beNat l)) (c.pc + 1))) ∧
    (pOp w = 0x02 → c.Holds (c.cur + pX w) ((pImm w % 8 + pL w + 7) / 8) → exec (.parseExtb k) s =
      .next (s.parseGo k (c.setR (pD w) (beNat ((p.data.drop (c.cur + pX w)).take ((pImm w % 8 + pL w + 7) / 8))
        / 2 ^ (8 * ((pImm w % 8 + pL w + 7) / 8) - pImm w % 8 - pL w) % 2 ^ pL w)) (c.pc + 1))) ∧
    (pOp w = 0x0B → c.Holds (c.cur + pX w) (pL w) → exec (.parseBrf k) s =
      .next (s.parseGo k (c.compare (beNat l) (pImm w / 65536))
        (if (c.compare (beNat l) (pImm w / 65536)).cond (pC w) then pImm w % 2048 else c.pc + 1))) ∧
    (pOp w = 0x0E → c.Holds (c.cur + pX w) (pL w) → exec (.parseEmit k) s =
      .next (s.parseGo k { c with pkt := some { p with scratch := (p.scratch.take (pImm w % 128) ++ l
        ++ p.scratch.drop (pImm w % 128 + l.length)).take 128 } } (c.pc + 1))) ∧
    (min p.data.length 512 < c.cur + pX w + pL w →
      (pOp w = 0x01 → exec (.parseExt k) s = .next (s.parseEnd k c 0xFE)) ∧ (pOp w = 0x0B → exec (.parseBrf k) s = .next (s.parseEnd k c 0xFE)) ∧
      (pOp w = 0x0E → exec (.parseEmit k) s = .next (s.parseEnd k c 0xFE))) ∧
    (pOp w = 0x01 → c.cur + pX w + pL w ≤ min p.data.length 512 → c.arrived < c.cur + pX w + pL w →
      exec (.parseExt k) s = .next (s.setCore k { c with stalled := true }) ∧
      ∃ t, exec (.parseStallEnd k) (s.setCore k { c with stalled := true }) = .next t ∧
        t = (s.setCore k { c with arrived := p.data.length, stalled := false }).parseGo k
          ({ c with arrived := p.data.length, stalled := false }.setR (pD w) (beNat l)) (c.pc + 1))

/-- A free core takes the oldest waiting packet once its first 64 bytes are there, with its metadata word, lane and program, and is counted in flight unless
recirculated; with no ruleset it is dropped and counted. Control firmware's packet enters with SRC_KIND 3. A stage before 15 runs and hands on; at stage
15 a packet waits for an earlier one of its order. A core's first fault has the packet parsed again from its taken state on another core; a lane's first
fault starts the packet again at stage 0, and a second one retires the lane. A memory read that succeeds when repeated is recorded
and counted, and nothing is retired. -/
def Obligations.ParseTakeAndMatch : Prop :=
  (∀ (k n : Nat) (p : Pkt) (l : List Pkt) (s : State), s.path.wait = p :: l → s.coreFree k = true → min 64 p.data.length ≤ n →
    s.rd F.PRS_STATUS_RULESET = 0 → exec (.parseTake k n) s =
      .next (({ s with path := { s.path with wait := l } }.stat R.PRS_NO_RULESET_CNT).txDropped p)) ∧
  (∀ (k n : Nat) (p : Pkt) (l : List Pkt) (s : State), s.path.wait = p :: l → s.coreFree k = true → min 64 p.data.length ≤ n →
    s.rd F.PRS_STATUS_RULESET = 1 →
    let u : State := { s with path := { s.path with wait := l } }
    let md := u.takeMd p
    let q : Pkt := { p with md := md, scratch := List.replicate 128 0, lane := u.laneOf (mdGet md Md.srcKind), recirc := false }
    let t := (u.setCore k {
      pkt := some q, arrived := n, taken := md, pc := (u.ver (mdGet md Md.version)).entries.getD (mdGet md Md.srcKind) 0 }).stat R.PRS_PKT_CNT
    exec (.parseTake k n) s = .next (if mdGet md Md.srcKind = 2 then t else t.inflightAdd (mdGet md Md.version))) ∧
  (∀ (k n : Nat) (s : State), s.coreFree k = false → exec (.parseTake k n) s = .next s) ∧
  (∀ (d : List (BitVec 8)) (s : State), exec (.cfPacketInject none d) s = .next (s.toParse (({ data := d } : Pkt).s Md.srcKind 3))) ∧
  (∀ (id : Nat) (m : InMatch) (s : State), s.path.inMatch.find? (fun m => m.pkt.id == id) = some m → m.stage < 15 →
    let r := s.stageRun m.pkt m.stage
    exec (.matchStage id) s = .next (r.2.setInMatch (r.2.path.inMatch.map (fun x =>
      if x.pkt.id == id then { x with pkt := r.1, stage := m.stage + 1 } else x)))) ∧
  (∀ (id : Nat) (m : InMatch) (s : State), s.path.inMatch.find? (fun m => m.pkt.id == id) = some m → m.stage = 15 → s.olderInMatch m.pkt = true →
    exec (.matchStage id) s = .next s) ∧
  (∀ (k o cause : Nat) (p : Pkt) (s : State), (s.core k).pkt = some p → (s.core k).second = false → s.coreFree o = true → o ≠ k →
    ∃ t, exec (.parseCoreFault k o cause) s = .next t ∧ (t.core o).second = true ∧ (t.core o).firstCore = k ∧ (t.core o).cause = cause ∧
      (t.core o).taken = (s.core k).taken ∧ (t.core k).pkt = none) ∧
  (∀ (id cause : Nat) (m : InMatch) (s : State), s.path.inMatch.find? (fun m => m.pkt.id == id) = some m → m.retry = none →
    let r : MatchRetry := {
      cause := cause, stage := m.stage, corr := s.newCorr.1, drip := s.newCorr.2.fst.drip, aligned := s.newCorr.2.rdB F.FST_STATUS_ALIGNED }
    exec (.matchLaneFault id cause) s = .next (s.newCorr.2.setInMatch (s.newCorr.2.path.inMatch.map (fun x =>
      if x.pkt.id == id then { x with pkt := { m.pkt with md := m.first }, stage := 0, retry := some r } else x)))) ∧
  (∀ (store addr tab unit : Nat) (places : List Nat) (pkt : Option Nat) (s : State),
    let t := s.newCorr.2.err R.FLT_MEM_CNT
    exec (.memoryReadError store addr tab unit places pkt true) s = .next (t.fault {
      cls := 0x04, cause := store, unit := unitOf (memClass store) (if store = 3 ∨ store = 5 then unit else 0), corr := s.newCorr.1,
      snapshot := t.cnt R.FLT_MEM_CNT, lower := 1, upper := 1, sparesOut := false, detail := addr % 2 ^ 48 + tab % 256 * 2 ^ 48 }))

/-- RULESET_OPEN opens the next version as a copy of the current one, or answers BUSY when one is open and WINDOW_FULL when four are live. RULESET_STAGE and
TABLE_CREATE work on the open version alone: with another one they answer BAD_FIELD and change nothing. RULESET_ABORT frees what was staged and closes the
version. A commit whose checks pass waits for a drip boundary, where the version becomes current; the oldest version retires when it is not
current and no packet of it is in flight; settling and the clearing of a TCAM slot end in order. -/
def Obligations.RulesetCommands : Prop :=
  (∀ (f : Nat) (c : AdmCmd) (s : State),
    s.Checked f 0x20 true [0xFFFF] (fun c => !s.rdB F.PRS_STATUS_RULESET ||
      bitsOf (c.word 8) 0 16 == (s.rd F.MAT_VER_STATUS_CURRENT + 1) % 65536) c →
    (s.rd F.MAT_VER_STATUS_OPEN = 1 → exec (.rulesetOpen f) s = .next (s.admDone f stBusy)) ∧
    (s.rd F.MAT_VER_STATUS_OPEN = 0 → 4 ≤ s.rd F.MAT_VER_STATUS_LIVE → exec (.rulesetOpen f) s = .next (s.admDone f stWindowFull)) ∧
    (s.rd F.MAT_VER_STATUS_OPEN = 0 → s.rd F.MAT_VER_STATUS_LIVE < 4 → s.path.clearing.contains (bitsOf (c.word 8) 0 16 % 4) = false →
      s.rd F.PRS_STATUS_RULESET = 0 → exec (.rulesetOpen f) s =
        .next ((((s.setVer { num := bitsOf (c.word 8) 0 16 }).wr F.MAT_VER_STATUS_OPEN 1).wr F.MAT_VER_STATUS_OPEN_VER
          (bitsOf (c.word 8) 0 16)).admDone f stSuccess))) ∧
  (∀ (f : Nat) (c : AdmCmd) (s : State), s.admCmd f 0x21 true = some c → (c.reads && c.opRead != 0) = false → s.isOpen (bitsOf (c.word 8) 0 16) = false →
    (bitsOf (c.word 8) 16 8 ≠ 9 → exec (.rulesetStage f) s = .next (s.admDone f stBadField)) ∧
    (bitsOf (c.word 8) 16 8 = 9 → exec (.tableCreate f) s = .next (s.admDone f stBadField))) ∧
  (∀ (f : Nat) (c : AdmCmd) (s : State), bitsOf (c.word 8) 16 8 = 3 →
    s.Checked f 0x21 true stageMasks (fun c => s.isOpen (bitsOf (c.word 8) 0 16)
      && s.stageLen (bitsOf (c.word 8) 16 8) (bitsOf (c.word 8) 32 16) (bitsOf (c.word 0x20) 0 32) == some (bitsOf (c.word 0x20) 0 32)) c →
    exec (.rulesetStage f) s = .next (s.tcamClear f (bitsOf (c.word 8) 0 16) (bitsOf (c.word 0x10) 0 32))) ∧
  (∀ (f : Nat) (c : AdmCmd) (s : State), bitsOf (c.word 8) 16 8 = 9 →
    s.Checked f 0x21 true stageMasks (fun c => s.isOpen (bitsOf (c.word 8) 0 16) && bitsOf (c.word 0x20) 0 32 == 32
      && decide (bitsOf (c.word 8) 32 16 ≤ 255)) c →
    let l := s.hostRead (s.attOf f) (c.word 0x18) 32
    let tab := bitsOf (c.word 8) 32 16
    leAt l 0 8 = 1 → leAt l 20 12 = 0 → isPow2 (leAt l 16 4) = true → (Map.get s.path.tables {} tab).kind = 0 →
    s.path.sramUnits + sramNeed 1 (leAt l 16 4) ≤ 114688 → s.path.hbmBytes ≤ 44 * 2 ^ 30 →
    ∃ u : State, exec (.tableCreate f) s = .next (u.admDone f stSuccess) ∧ (Map.get u.path.tables {} tab).kind = 1 ∧
      (Map.get u.path.tables {} tab).count = leAt l 16 4 ∧ u.path.sramUnits = s.path.sramUnits + sramNeed 1 (leAt l 16 4) ∧ u.regs = s.regs) ∧
  (∀ (f : Nat) (c : AdmCmd) (s : State), s.Checked f 0x22 true [0xFFFF] (fun c => s.isOpen (bitsOf (c.word 8) 0 16)) c →
    let n := bitsOf (c.word 8) 0 16
    let u : State := { s with path := { s.path with
      tables := Map.mapVals s.path.tables {} (fun _ t => { t with entries := abortEntries n t.entries }), versions := Map.erase s.path.versions (n % 4) } }
    exec (.rulesetAbort f) s = .next (((u.tcamSlots (fun m => clearBit m (n % 4))).closeOpen).admDone f stSuccess)) ∧
  (∀ (f : Nat) (c : AdmCmd) (s t : State), s.Verified f 0x23 [0xFFFF] (fun _ => true) c t → t.isOpen (bitsOf (c.word 8) 0 16) = true →
    t.checkVersion (t.ver (bitsOf (c.word 8) 0 16)) = none → exec (.rulesetCommit f) s =
      .next { t.admWait f with path := { t.path with commit := some { fn := f, ver := bitsOf (c.word 8) 0 16 } } }) ∧
  (∀ (q : CommitReq) (s : State), s.path.commit = some q → s.fst.cycle ≠ 0 → exec .rulesetCurrent s = .next s) ∧
  (∀ (q : CommitReq) (s : State), s.path.commit = some q → s.fst.cycle = 0 → 0 < s.rd F.MAT_VER_STATUS_LIVE →
    ∃ u : State, exec .rulesetCurrent s = .next ((u.commitResult stSuccess 0 0 q.ver).admDone q.fn stSuccess) ∧ u.path.commit = none) ∧
  (∀ (s : State), s.rd F.MAT_VER_STATUS_OLDEST = s.rd F.MAT_VER_STATUS_CURRENT → exec .versionRetire s = .next s) ∧
  (∀ (s : State), s.fst.cycle = 0 → 2 ≤ s.rd F.MAT_VER_STATUS_LIVE → s.rd F.MAT_VER_STATUS_OLDEST ≠ s.rd F.MAT_VER_STATUS_CURRENT →
    s.rd (F.MAT_INFLIGHT_COUNT (s.rd F.MAT_VER_STATUS_OLDEST % 4)) = 0 →
    ∃ t, exec .versionRetire s = .next t ∧ t.path.clearing = s.path.clearing ++ [s.rd F.MAT_VER_STATUS_OLDEST % 4] ∧
      t.path.versions = Map.erase s.path.versions (s.rd F.MAT_VER_STATUS_OLDEST % 4) ∧ t.eng = s.eng ∧ t.funcs = s.funcs) ∧
  (∀ (m : Nat) (l : List Nat) (s : State), s.path.settling = m :: l → exec .settleComplete s =
    .next (({ s with path := { s.path with
      tables := Map.mapVals s.path.tables {} (fun _ t => { t with entries := settleEntries m t.entries }), settling := l } }.wrB
        F.MAT_VER_STATUS_SETTLING (!l.isEmpty)).raise F.MAT_INT_STATUS_SETTLED)) ∧
  (∀ (k : Nat) (l : List Nat) (s : State), s.path.clearing = k :: l → exec .tcamSlotClearComplete s =
    .next (({ s with path := { s.path with clearing := l } }.tcamSlots (fun m => clearBit m k)).wrB F.MAT_VER_STATUS_SLOT_CLEARING (!l.isEmpty)))

/-- A thread that stands at one of the instructions of OP 0x01, with a and b the values of g[A] and g[B] and d the old value of g[D]: the instruction completes, g[D]
takes the value of the table modulo 2^64, one more instruction is counted as issued, the PC moves on, and nothing else changes. -/
def Obligations.PyrayRegisterArithmetic : Prop :=
  ∀ (g e t w : Nat) (s : State), s.Stands g e t w → iOp w = 0x01 →
    let a := s.gr g e t (iA w)
    let b := s.gr g e t (iB w)
    let d := s.gr g e t (iD w)
    (iFn w = 0x00 → exec (.add g e t) s = .next (s.gives g e t w ((a + b) % 2 ^ 64))) ∧
    (iFn w = 0x01 → exec (.sub g e t) s = .next (s.gives g e t w ((a + 2 ^ 64 - b) % 2 ^ 64))) ∧
    (iFn w = 0x02 → exec (.and g e t) s = .next (s.gives g e t w ((a &&& b) % 2 ^ 64))) ∧
    (iFn w = 0x03 → exec (.or g e t) s = .next (s.gives g e t w ((a ||| b) % 2 ^ 64))) ∧
    (iFn w = 0x04 → exec (.xor g e t) s = .next (s.gives g e t w ((a ^^^ b) % 2 ^ 64))) ∧
    (iFn w = 0x05 → exec (.shl g e t) s = .next (s.gives g e t w ((a * 2 ^ (b % 64)) % 2 ^ 64))) ∧
    (iFn w = 0x06 → exec (.shr g e t) s = .next (s.gives g e t w ((a / 2 ^ (b % 64)) % 2 ^ 64))) ∧
    (iFn w = 0x07 → exec (.sar g e t) s = .next (s.gives g e t w ((sar64 a (b % 64)) % 2 ^ 64))) ∧
    (iFn w = 0x08 → exec (.mul g e t) s = .next (s.gives g e t w ((a * b) % 2 ^ 64))) ∧
    (iFn w = 0x09 → exec (.mulhu g e t) s = .next (s.gives g e t w ((a * b / 2 ^ 64) % 2 ^ 64))) ∧
    (iFn w = 0x0A → exec (.minu g e t) s = .next (s.gives g e t w ((min a b) % 2 ^ 64))) ∧
    (iFn w = 0x0B → exec (.maxu g e t) s = .next (s.gives g e t w ((max a b) % 2 ^ 64))) ∧
    (iFn w = 0x0C → exec (.sltu g e t) s = .next (s.gives g e t w ((if a < b then 1 else 0) % 2 ^ 64))) ∧
    (iFn w = 0x0D → exec (.slt g e t) s = .next (s.gives g e t w ((if toSigned 64 a < toSigned 64 b then 1 else 0) % 2 ^ 64))) ∧
    (iFn w = 0x0E → exec (.seq g e t) s = .next (s.gives g e t w ((if a = b then 1 else 0) % 2 ^ 64))) ∧
    (iFn w = 0x0F → exec (.sel g e t) s = .next (s.gives g e t w ((if b = 0 then d else a) % 2 ^ 64))) ∧
    (iFn w = 0x10 → exec (.bswap g e t) s = .next (s.gives g e t w ((leNat (beBytes a 8)) % 2 ^ 64))) ∧
    (iFn w = 0x11 → exec (.clz g e t) s = .next (s.gives g e t w ((clz64 a) % 2 ^ 64))) ∧
    (iFn w = 0x12 → exec (.csum g e t) s = .next (s.gives g e t w ((csum d a) % 2 ^ 64))) ∧
    (iFn w = 0x13 → exec (.crc g e t) s = .next (s.gives g e t w ((crcReg (d % 2 ^ 32) (leBytes a 8)) % 2 ^ 64)))

/-- The same for the instructions of OP 0x02 to 0x0B, IMM16 sign-extended for ADDI and zero-extended for the others. -/
def Obligations.PyrayImmediateArithmetic : Prop :=
  ∀ (g e t w : Nat) (s : State), s.Stands g e t w →
    let a := s.gr g e t (iA w)
    let d := s.gr g e t (iD w)
    (iOp w = 0x02 → exec (.addi g e t) s = .next (s.gives g e t w ((a + imm64 w) % 2 ^ 64))) ∧
    (iOp w = 0x03 → exec (.andi g e t) s = .next (s.gives g e t w ((a &&& iImm w) % 2 ^ 64))) ∧
    (iOp w = 0x04 → exec (.ori g e t) s = .next (s.gives g e t w ((a ||| iImm w) % 2 ^ 64))) ∧
    (iOp w = 0x05 → exec (.xori g e t) s = .next (s.gives g e t w ((a ^^^ iImm w) % 2 ^ 64))) ∧
    (iOp w = 0x06 → exec (.shli g e t) s = .next (s.gives g e t w ((a * 2 ^ (iImm w % 64)) % 2 ^ 64))) ∧
    (iOp w = 0x07 → exec (.shri g e t) s = .next (s.gives g e t w ((a / 2 ^ (iImm w % 64)) % 2 ^ 64))) ∧
    (iOp w = 0x08 → exec (.sari g e t) s = .next (s.gives g e t w ((sar64 a (iImm w % 64)) % 2 ^ 64))) ∧
    (iOp w = 0x09 → exec (.insi g e t) s = .next (s.gives g e t w ((putBits d (16 * iA w) 16 (iImm w)) % 2 ^ 64))) ∧
    (iOp w = 0x0A → exec (.extr g e t) s = .next (s.gives g e t w ((bitsOf a (iPos w) (iLen w)) % 2 ^ 64))) ∧
    (iOp w = 0x0B → exec (.insr g e t) s = .next (s.gives g e t w ((putBits d (iPos w) (iLen w) a) % 2 ^ 64)))

/-- With addr = g[A] plus the sign-extended offset, modulo 2^64: a load from a place the thread may reach gives g[D] the bytes there, little-endian (LDBE
big-endian), when they return; a store writes the low bytes of g[D] there and no other byte of either memory; an address outside them is a
program exception. PLD gives bytes of the packet as admitted, or an exception beyond its end. SXADD and SXCHG give the old value of the shared
register and write the new one. -/
def Obligations.PyrayMemory : Prop :=
  ∀ (g e t w : Nat) (s : State), s.Stands g e t w →
    let addr := (s.gr g e t (iA w) + imm64 w) % 2 ^ 64
    let addr13 := (s.gr g e t (iA w) + off64 w) % 2 ^ 64
    let v := s.gr g e t (iD w)
    let u := s.issued g e
    (∀ r, iOp w = 0x10 → u.memRef g e t addr 8 false = .ok r → exec (.ld64 g e t) s = .next (s.loads g e t w (leNat (u.memBytes r 8)))) ∧
    (∀ r, iOp w = 0x11 → u.memRef g e t addr 4 false = .ok r → exec (.ld32 g e t) s = .next (s.loads g e t w (leNat (u.memBytes r 4)))) ∧
    (∀ r, iOp w = 0x12 → u.memRef g e t addr 2 false = .ok r → exec (.ld16 g e t) s = .next (s.loads g e t w (leNat (u.memBytes r 2)))) ∧
    (∀ r, iOp w = 0x13 → u.memRef g e t addr 1 false = .ok r → exec (.ld8 g e t) s = .next (s.loads g e t w (leNat (u.memBytes r 1)))) ∧
    (∀ r, iOp w = 0x18 → u.memRef g e t addr13 (iN w) false = .ok r → exec (.ldbe g e t) s = .next (s.loads g e t w (beNat (u.memBytes r (iN w))))) ∧
    (∀ r, iOp w = 0x14 → u.memRef g e t addr 8 true = .ok r → exec (.st64 g e t) s = .next (s.past (u.memPut r (leBytes v 8)) g e t)) ∧
    (∀ r, iOp w = 0x15 → u.memRef g e t addr 4 true = .ok r → exec (.st32 g e t) s = .next (s.past (u.memPut r (leBytes v 4)) g e t)) ∧
    (∀ r, iOp w = 0x16 → u.memRef g e t addr 2 true = .ok r → exec (.st16 g e t) s = .next (s.past (u.memPut r (leBytes v 2)) g e t)) ∧
    (∀ r, iOp w = 0x17 → u.memRef g e t addr 1 true = .ok r → exec (.st8 g e t) s = .next (s.past (u.memPut r (leBytes v 1)) g e t)) ∧
    (∀ r, iOp w = 0x19 → u.memRef g e t addr13 (iN w) true = .ok r → exec (.stbe g e t) s = .next (s.past (u.memPut r (beBytes v (iN w))) g e t)) ∧
    (∀ x, iOp w = 0x10 → u.memRef g e t addr 8 false = .error x → exec (.ld64 g e t) s = .next ((u.progExc g e t x).stepCheck g e t)) ∧
    (∀ x, iOp w = 0x14 → u.memRef g e t addr 8 true = .error x → exec (.st64 g e t) s = .next ((u.progExc g e t x).stepCheck g e t)) ∧
    (∀ p, iOp w = 0x1A → s.noPacket g e t = false → u.noPacket g e t = false → (s.thr g e t).pkt = some p →
      (addr13 + iN w ≤ p.data.length → exec (.pld g e t) s = .next (s.loads g e t w (beNat ((p.data.drop addr13).take (iN w))))) ∧
      (p.data.length < addr13 + iN w → exec (.pld g e t) s = .next ((u.progExc g e t 0x05).stepCheck g e t))) ∧
    (iOp w = 0x1B →
      let old := (Map.get (s.engn g e).shared 0 (iFn w % 16)).toNat
      exec (.sxadd g e t) s = .next (s.past ((u.setEngn g e { s.engn g e with
        shared := Map.set (s.engn g e).shared 0 (iFn w % 16) (BitVec.ofNat 64 (old + s.gr g e t (iA w))) }).setGr g e t (iD w) old) g e t)) ∧
    (iOp w = 0x1C →
      let old := (Map.get (s.engn g e).shared 0 (iFn w % 16)).toNat
      exec (.sxchg g e t) s = .next (s.past ((u.setEngn g e { s.engn g e with
        shared := Map.set (s.engn g e).shared 0 (iFn w % 16) (BitVec.ofNat 64 (s.gr g e t (iA w))) }).setGr g e t (iD w) old) g e t))

/-- With key the bytes of engine data memory that the instruction names: FLOOK gives the place of a valid entry of the key or all ones; FINS the place of an entry
there already, marked, or all ones when both candidates are taken; FDEL empties the entry and gives its place; FLD gives a word of the entry, FSTS
writes its program state, CTRADD adds to an allocated counter; an index beyond the table is an exception. -/
def Obligations.PyrayFlowAndCounters : Prop :=
  ∀ (g e t w : Nat) (s : State), s.Stands g e t w →
    let u := s.issued g e
    let i := s.gr g e t (iA w)
    (∀ key n, iOp w = 0x30 → u.flowRef g e t w 56 = .ok key → u.flowFind key = some n →
      exec (.flook g e t) s = .next (s.past ((u.cacheFill key n).later g e t (iD w) n) g e t)) ∧
    (∀ key, iOp w = 0x30 → u.flowRef g e t w 56 = .ok key → u.flowFind key = none → exec (.flook g e t) s = .next (s.loads g e t w ones64)) ∧
    (∀ l n, iOp w = 0x31 → u.flowRef g e t w 128 = .ok l → u.flowFind ((l.drop 8).take 56) = some n →
      exec (.fins g e t) s = .next (s.loads g e t w (n + 2 ^ 63))) ∧
    (∀ l, iOp w = 0x31 → u.flowRef g e t w 128 = .ok l → u.flowFind ((l.drop 8).take 56) = none →
      (u.flow (flowCands ((l.drop 8).take 56)).1).valid = true → (u.flow (flowCands ((l.drop 8).take 56)).2).valid = true →
      exec (.fins g e t) s = .next (s.loads g e t w ones64)) ∧
    (∀ key n, iOp w = 0x32 → u.flowRef g e t w 56 = .ok key → u.flowFind key = some n →
      exec (.fdel g e t) s = .next (s.past (((u.setFlow n {}).cacheDrop key n).later g e t (iD w) n) g e t)) ∧
    (iOp w = 0x33 → i < 33554432 → exec (.fld g e t) s = .next (s.loads g e t w (leAt (u.flow i).toBytes (8 * (iFn w % 16)) 8))) ∧
    (iOp w = 0x34 → i < 33554432 → exec (.fsts g e t) s =
      .next (s.past (u.setFlow i { u.flow i with progState := s.gr g e t (iB w) }) g e t)) ∧
    (iOp w = 0x34 → 33554432 ≤ i → exec (.fsts g e t) s = .next ((u.progExc g e t 0x13).stepCheck g e t)) ∧
    (iOp w = 0x35 → i < 33554432 → u.path.ctrAllocated i = true → exec (.ctradd g e t) s = .next (s.past (u.ctrAdd i (s.gr g e t (iB w))) g e t)) ∧
    (iOp w = 0x35 → i < 33554432 → u.path.ctrAllocated i = false → exec (.ctradd g e t) s = .next ((u.progExc g e t 0x14).stepCheck g e t))

/-- A branch goes to PC + 4 * OFF16 when its condition on g[A] and g[B] holds, else on; JMP and CALL go to a word of the PC's version slot, CALL keeping the return
address on a stack of four; RET goes back; LOOP begins its body T times, T being g[A] or with g0 MAX, takes LOOP_LIMIT when T exceeds MAX, and skips its body
when T is 0; BRKNZ leaves the innermost loop when g[A] is not 0. No register changes. -/
def Obligations.PyrayControlFlow : Prop :=
  ∀ (g e t w : Nat) (s : State), s.Stands g e t w →
    let u := s.issued g e
    let a := s.gr g e t (iBA w)
    let b := s.gr g e t (iBB w)
    let pc := s.pc g e t
    let on := s.past u g e t
    t < 8 →
    (iOp w = 0x20 → exec (.beq g e t) s = .next (if a = b then u.setPc g e t (pc + 4 * iOff16 w) else on)) ∧
    (iOp w = 0x21 → exec (.bne g e t) s = .next (if a ≠ b then u.setPc g e t (pc + 4 * iOff16 w) else on)) ∧
    (iOp w = 0x22 → exec (.bltu g e t) s = .next (if a < b then u.setPc g e t (pc + 4 * iOff16 w) else on)) ∧
    (iOp w = 0x23 → exec (.bgeu g e t) s = .next (if b ≤ a then u.setPc g e t (pc + 4 * iOff16 w) else on)) ∧
    (iOp w = 0x24 → exec (.jmp g e t) s = .next (u.setPc g e t (pc / 0x2000 * 0x2000 + 4 * iTarget w))) ∧
    (iOp w = 0x25 → (s.thr g e t).rets.length < 4 → exec (.call g e t) s =
      .next ((u.updThr g e t (fun x => { x with rets := (pc + 4) :: x.rets })).setPc g e t (pc / 0x2000 * 0x2000 + 4 * iTarget w))) ∧
    (iOp w = 0x25 → 4 ≤ (s.thr g e t).rets.length → exec (.call g e t) s = .next ((u.progExc g e t 0x10).stepCheck g e t)) ∧
    (∀ r l, iOp w = 0x26 → (s.thr g e t).rets = r :: l → exec (.ret g e t) s =
      .next ((u.updThr g e t (fun x => { x with rets := l })).setPc g e t r)) ∧
    (iOp w = 0x27 → (if iBA w = 0 then iMax w else a) ≤ iMax w → (s.thr g e t).loops.length < 4 → 0 < (if iBA w = 0 then iMax w else a) →
      exec (.loop g e t) s = .next ((u.updThr g e t (fun x => { x with
        loops := { first := pc + 4, last := pc + 4 * iLoopLen w, left := if iBA w = 0 then iMax w else a } :: x.loops })).setPc g e t (pc + 4))) ∧
    (iOp w = 0x27 → iMax w < (if iBA w = 0 then iMax w else a) → exec (.loop g e t) s = .next ((u.progExc g e t 0x0F).stepCheck g e t)) ∧
    (iOp w = 0x27 → (s.thr g e t).loops.length < 4 → (if iBA w = 0 then iMax w else a) = 0 →
      exec (.loop g e t) s = .next (u.finish g e t (pc + 4 * iLoopLen w))) ∧
    (iOp w = 0x28 → a = 0 → exec (.brknz g e t) s = .next on) ∧
    (∀ f l, iOp w = 0x28 → a ≠ 0 → (s.thr g e t).loops = f :: l → exec (.brknz g e t) s =
      .next ((u.updThr g e t (fun x => { x with loops := l })).finish g e t f.last))

/-- SIGNAL sets event bits of the engine at a position; WAIT gives the bits that are set (clearing them when it consumes) or waits with its mask; CLREV clears bits;
SPUT stores a word and its tag where nothing makes it wait; SGET takes the next word, or with NB set gives 0 and tag 0 at once where it would wait; LOCK takes a
free lock that nobody asks for, or waits in turn; UNLOCK frees the lock held; a lock the thread has not is an exception. -/
def Obligations.PyrayEventsSumpsLocks : Prop :=
  ∀ (g e t w : Nat) (s : State), s.Stands g e t w →
    let u := s.issued g e
    let a := s.gr g e t (iA w)
    let m := a % 2 ^ 25
    (iOp w = 0x29 → iFn w = 31 → exec (.signal g e t) s = .next (s.past (u.setEvents g e (a % 2 ^ 24)) g e t)) ∧
    (∀ x, iOp w = 0x29 → iFn w ≤ 15 → u.engAt g (iFn w) = some x → exec (.signal g e t) s = .next (s.past (u.setEvents g x (a % 2 ^ 24)) g e t)) ∧
    (iOp w = 0x2A → (s.thr g e t).lock = none → m ≠ 0 → u.events g e &&& m ≠ 0 → exec (.wait g e t) s =
      .next (s.past ((if iFn w % 2 = 1 then u.clearEvents g e (u.events g e &&& m) else u).setGr g e t (iD w) (u.events g e &&& m)) g e t)) ∧
    (iOp w = 0x2A → (s.thr g e t).lock = none → m ≠ 0 → u.events g e &&& m = 0 → exec (.wait g e t) s =
      .next ((u.updThr g e t (fun x => { x with waitMask := m, waitCons := iFn w % 2 == 1, waitDest := iD w })).waitOn g e t 1)) ∧
    (iOp w = 0x2A → (s.thr g e t).lock = none → m = 0 → exec (.wait g e t) s = .next ((u.progExc g e t 0x11).stepCheck g e t)) ∧
    (iOp w = 0x2B → exec (.clrev g e t) s = .next (s.past (u.clearEvents g e m) g e t)) ∧
    (∀ k, iOp w = 0x2C → sumpKey g (iSid w) = some k → (iTag w = 1 ∨ iTag w = 2) → u.sumpPartial k + 1 < 511 →
      u.putWaits k (unitThread g e t) = false → exec (.sput g e t) s = .next (s.past (u.sumpStore k (unitThread g e t) a (iTag w)) g e t)) ∧
    (iOp w = 0x2C → sumpKey g (iSid w) = none → exec (.sput g e t) s = .next ((u.progExc g e t 0x06).stepCheck g e t)) ∧
    (∀ k, iOp w = 0x2D → sumpKey g (iSid w) = some k → u.getWaits k (unitThread g e t) = false →
      let r := u.sumpTake k (unitThread g e t)
      exec (.sget g e t) s = .next ((s.past (r.2.2.getResult g e t (iD w) (iA w) r.1 r.2.1) g e t).stepCheck g e t)) ∧
    (∀ k, iOp w = 0x2D → sumpKey g (iSid w) = some k → u.getWaits k (unitThread g e t) = true → iNb w = 1 →
      exec (.sget g e t) s = .next ((s.past (u.getResult g e t (iD w) (iA w) 0 0) g e t).stepCheck g e t)) ∧
    (iOp w = 0x2E → (s.thr g e t).lock = none → u.lockHeld g (iImm w % 64) = false → Map.get (u.gal g).lockWait [] (iImm w % 64) = [] →
      exec (.lock g e t) s = .next (s.past ((u.lockTake g (iImm w % 64) (unitThread g e t)).updThr g e t
        (fun y => { y with lock := some (iImm w % 64) })) g e t)) ∧
    (∀ n, iOp w = 0x2F → (s.thr g e t).lock = some n → exec (.unlock g e t) s =
      .next (s.past ((u.lockFree g n).updThr g e t (fun y => { y with lock := none })) g e t)) ∧
    (iOp w = 0x2F → (s.thr g e t).lock = none → exec (.unlock g e t) s = .next ((u.progExc g e t 0x0D).stepCheck g e t))

/-- A thread that runs a packet, holds no lock, has claimed no sump and whose packet has not met its policy, with HDR_START and HDR_END in order: END of each of the
four kinds hands the packet, with metadata and header as its working buffer has them, to the gallery's dispatcher under that kind; the thread becomes idle with
empty stacks and no packet, and PE_PKT_CNT counts it. With a lock held it is a program exception. -/
def Obligations.PyrayEndings : Prop :=
  ∀ (g e t w : Nat) (s : State) (p : Pkt), s.Stands g e t w → iOp w = 0x38 →
    let u := s.issued g e
    u.noPacket g e t = false → (u.thr g e t).pkt = some p → (u.thr g e t).gone = false →
    u.sumpClaims (unitThread g e t) true = [] → u.sumpClaims (unitThread g e t) false = [] →
    let h := Mem.le u.eng.dmem (dmemAt g e (u.bufAt g e t) + 0x58) 8
    let q := u.takeEnd g e t p
    let x := (((q.2.dropRun g e t).updThr g e t (fun x => { x with loops := [], rets := [] })).setTs g e t tIdle).stat (R.PE_PKT_CNT g e)
    let ends := fun (k : Nat) => (x.setGal g { x.gal g with ended := (x.gal g).ended ++ [{ pkt := q.1, ending := k, unit := unitThread g e t }] }).stepCheck g e t
    ((u.thr g e t).lock = none →
      (iFn w = 0 → bitsOf h 0 9 ≤ bitsOf h 9 9 → bitsOf h 9 9 ≤ 384 → exec (.endHandoff g e t) s = .next (ends 0)) ∧
      (iFn w = 1 → bitsOf h 0 9 ≤ bitsOf h 9 9 → bitsOf h 9 9 ≤ 384 → exec (.endRecirc g e t) s = .next (ends 1)) ∧
      (iFn w = 2 → exec (.endPunt g e t) s = .next (ends 2)) ∧ (iFn w = 3 → exec (.endDrop g e t) s = .next (ends 3))) ∧
    (∀ n, (u.thr g e t).lock = some n → iFn w = 3 → exec (.endDrop g e t) s = .next ((u.progExc g e t 0x0E).stepCheck g e t))

/-- MFSR gives a listed special register's value and takes an exception for an unlisted one; MTSR, GETG, PUTG, RELEASE, RESTART and RETS belong to thread 0 and are an
exception for another thread: MTSR writes PRIO or INTERNAL, GETG and PUTG move a register of another thread, RELEASE makes held threads idle, RESTART a faulted
one, RETS ends SUPERVISOR and is an exception outside it. BKPT halts the engine past itself when breakpoints are armed, else it is an exception. -/
def Obligations.PyrayThreadControl : Prop :=
  ∀ (g e t w : Nat) (s : State), s.Stands g e t w →
    let u := s.issued g e
    let a := s.gr g e t (iA w)
    let exc := fun (c : Nat) => (u.progExc g e t c).stepCheck g e t
    (iOp w = 0x3C → iImm w % 256 = 0 → exec (.mfsr g e t) s = .next (s.gives g e t w (unitThread g e t % 2 ^ 64))) ∧
    (iOp w = 0x3C → 0x10 < iImm w % 256 → exec (.mfsr g e t) s = .next (exc 0x02)) ∧
    (iOp w = 0x3D → t = 0 → iImm w % 256 = 0x0E → exec (.mtsr g e t) s =
      .next ((s.past (u.wr (F.PE_EVT_INTERNAL_INTERNAL g e) a) g e t).stepCheck g e t)) ∧
    (iOp w = 0x3D → t ≠ 0 → exec (.mtsr g e t) s = .next (exc 0x02)) ∧
    (iOp w = 0x3E → iFn w = 0 → t = 0 → exec (.getg g e t) s = .next (s.gives g e t w (s.gr g e (iT w) (iB w)))) ∧
    (iOp w = 0x3E → iFn w = 0 → t ≠ 0 → exec (.getg g e t) s = .next (exc 0x02)) ∧
    (iOp w = 0x3E → iFn w = 1 → t = 0 → (u.ts g e (iT w) = tHeld ∨ u.ts g e (iT w) = tFaulted) → exec (.putg g e t) s =
      .next ((s.past (u.setGr g e (iT w) (iD w) a) g e t).stepCheck g e t)) ∧
    (iOp w = 0x3E → iFn w = 2 → t = 0 → bitOf a 0 = false → exec (.release g e t) s =
      .next ((s.past (u.each (List.range 8) (fun y k => if bitOf a k ∧ y.ts g e k = tHeld then y.setTs g e k tIdle else y)) g e t).stepCheck g e t)) ∧
    (iOp w = 0x3E → iFn w = 3 → t = 0 → u.ts g e (iT w) = tFaulted → exec (.restart g e t) s =
      .next ((s.past (((u.setTs g e (iT w) tIdle).wr (F.PE_FAULT_VALID g e (iT w)) 0).updThr g e (iT w)
        (fun x => { x with loops := [], rets := [] })) g e t).stepCheck g e t)) ∧
    (iOp w = 0x3E → iFn w = 4 → t = 0 → u.rd (F.PE_SUP_SUP_ACTIVE g e) = 0 → exec (.rets g e t) s = .next (exc 0x02)) ∧
    (iOp w = 0x3E → iFn w = 4 → t = 0 → u.rd (F.PE_SUP_SUP_ACTIVE g e) = 1 → (s.thr g e t).before = tIdle → ∃ x : State,
      exec (.rets g e t) s = .next ((x.wr (F.PE_THREAD_WAIT_KIND g e t) 0).stepCheck g e t) ∧ (x.thr g e t).loops = (s.thr g e t).savedLoops ∧
      (x.thr g e t).rets = (s.thr g e t).savedRets ∧
      x = (((u.setThr g e t (x.thr g e t)).wr (F.PE_SUP_SUP_ACTIVE g e) 0).setPc g e t (s.thr g e t).savedPc).setTs g e t tIdle) ∧
    (iOp w = 0x3F → (s.engn g e).armed = true → exec (.bkpt g e t) s =
      .next (((u.finish g e t (u.pc g e t)).haltEngine g e).stepCheck g e t)) ∧
    (iOp w = 0x3F → (s.engn g e).armed = false → exec (.bkpt g e t) s = .next (exc 0x17))

/-- g0 of any thread reads zero, a write to it changes nothing, a write to another register is read back, whole 64 bits, and leaves every other register of every
thread as it was. -/
def Obligations.PyrayGeneralRegisters : Prop :=
  ∀ (g e t r v : Nat) (s : State),
    s.gr g e t 0 = 0 ∧ (∀ k, (s.setGr g e t 0 v).gr g e t k = s.gr g e t k) ∧ (r ≠ 0 → (s.setGr g e t r v).gr g e t r = v % 2 ^ 64) ∧
    (∀ k, k ≠ r → (s.setGr g e t r v).gr g e t k = s.gr g e t k) ∧
    (∀ t' k, t < 8 → t' < 8 → t' ≠ t → (s.setGr g e t r v).gr g e t' k = s.gr g e t' k)

/-- After a ruleset is live an engine that has not started has eight threads with cleared registers, thread 0 runnable at entry 0 of the directory and the others
HELD. An idle thread takes the packet at the head of its context queue: its context's 512 bytes of gallery memory enter the other working buffer, its stacks
are empty, and it runs at its chain's entry. A wake writes the register of each waiting thread hit by an event, those that consume last. A sump write with room stores its word,
a read takes one, and the thread wakes. A load that returns writes its register. A free lock goes to its best waiter. A write of PE_EVENTS sets bits. -/
def Obligations.ThreadsStartAndWake : Prop :=
  (∀ (g e : Nat) (s : State), s.rd F.PRS_STATUS_RULESET = 1 → (s.engn g e).started = false →
    let u := s.setEngn g e { s.engn g e with started := true }
    let x := u.each (List.range 8) (fun y t => (y.setThr g e t { starting := t == 0 }).setTs g e t (if t = 0 then tRunnable else tHeld))
    exec (.engineStart g e) s = .next (x.setPc g e 0 (s.curVer % 4 * 0x2000 + 4 * dirEntry ((x.ver s.curVer).dir 0)))) ∧
  (∀ (g e : Nat) (s : State), s.rd F.PRS_STATUS_RULESET ≠ 1 → exec (.engineStart g e) s = .next s) ∧
  (∀ (g e t : Nat) (p : Pkt) (s : State), s.ts g e t = tIdle → (s.thr g e t).running = false → (s.thr g e t).ctxs.head? = some p →
    let b := 1 - (s.thr g e t).buf
    let u : State := { s with
      eng := { s.eng with
        dmem := Mem.putBytes s.eng.dmem (dmemAt g e (t * 0x400 + b * 0x200)) (Mem.bytes s.eng.gmem (gmemAt g (p.ctx * 512)) 512) } }
    let x := u.setThr g e t { s.thr g e t with buf := b, running := true, loops := [], rets := [] }
    exec (.threadPacketStart g e t) s = .next ((x.setPc g e t (p.g Md.version % 4 * 0x2000 +
      4 * dirEntry (((x.ver (p.g Md.version)).chain (p.g Md.chainId)).getD 0))).setTs g e t tRunnable)) ∧
  (∀ (g e t : Nat) (s : State), s.eventHit g e t = true →
    exec (.threadWake g e t) s = .next ((s.each ((List.range 8).filter (fun u => !(s.thr g e u).waitCons)) (fun y u => y.eventWake g e u)).each
      ((List.range 8).filter (fun u => (s.thr g e u).waitCons)) (fun y u => y.eventWake g e u))) ∧
  (∀ (g e t : Nat) (s : State), s.eventHit g e t = false → exec (.threadWake g e t) s = .next s) ∧
  (∀ (g e t : Nat) (w : SumpWait) (s : State), (s.thr g e t).sump = some w → s.ts g e t = tWaiting → s.rd (F.PE_THREAD_WAIT_KIND g e t) = 2 →
    let u := s.setThr g e t { s.thr g e t with sump := none }
    (w.put = true → s.putWaits w.sump (unitThread g e t) = false →
      exec (.sumpWaitEnd g e t) s = .next ((u.sumpStore w.sump (unitThread g e t) w.data w.tag).wake g e t true)) ∧
    (w.put = false → s.getWaits w.sump (unitThread g e t) = false →
      let r := u.sumpTake w.sump (unitThread g e t)
      exec (.sumpWaitEnd g e t) s = .next ((r.2.2.getResult g e t w.d w.a r.1 r.2.1).wake g e t true))) ∧
  (∀ (g e t r : Nat) (v : Word) (l : List (Nat × Word)) (s : State), (s.thr g e t).loads = (r, v) :: l → s.ts g e t ≠ tWaiting →
    exec (.loadDataReturn g e t) s = .next (s.setThr g e t ({ s.thr g e t with loads := l }.setG r v.toNat))) ∧
  (∀ (g e t r : Nat) (v : Word) (l : List (Nat × Word)) (s : State), (s.thr g e t).loads = (r, v) :: l →
    let u := s.setThr g e t ({ s.thr g e t with loads := l }.setG r v.toNat)
    u.ts g e t = tWaiting → u.rd (F.PE_THREAD_WAIT_KIND g e t) = 4 → exec (.loadDataReturn g e t) s = .next (u.wake g e t false)) ∧
  (∀ (g n : Nat) (w : LockWaiter) (s : State), s.lockHeld g n = false → s.lockBest (Map.get (s.gal g).lockWait [] n) = some w →
    let e := w.unit / 8 % 32
    let t := w.unit % 8
    let u := ((s.lockWithdraw g n w.unit).lockTake g n w.unit).updThr g e t (fun y => { y with lock := some n, lockAsk := none })
    u.ts g e t = tWaiting → exec (.lockGrant g n) s = .next (u.wake g e t true)) ∧
  (∀ (g n : Nat) (s : State), s.lockHeld g n = true → exec (.lockGrant g n) s = .next s) ∧
  (∀ (g e v : Nat) (s : State), exec (.peEventsWrite g e v) s = .next (s.setEvents g e v))

/-- A held lock that overruns is broken and its holder is to take LOCK_OVERRUN. An engine all of whose active threads wait internally counts a stall, and either has a
stall pending for thread 0 or, when thread 0 cannot take it, raises STALL_ESCALATED and enters the fault in the ring. Thread 0, idle or waiting, with one
supervisor event pending and not in SUPERVISOR, keeps its PC and stacks and runs at directory entry 1. A faulted thread 0 restarts idle. A sump's claimed
packet is closed with ERROR. A steered packet joins the gallery's input queue, or when 512 wait is counted and gone; an ended one leaves, or waits for older ones of its order. -/
def Obligations.SupervisorAndDispatcher : Prop :=
  (∀ (g n : Nat) (s : State), s.lockHeld g n = true →
    let u := Map.get (s.gal g).lockHolder 0 n
    exec (.lockOverrun g n) s = .next ((s.lockBreak g n 2 u).updThr g (u / 8 % 32) (u % 8) (fun y => { y with lock := none, overrun := true }))) ∧
  (∀ (g n : Nat) (s : State), s.lockHeld g n = false → exec (.lockOverrun g n) s = .next s) ∧
  (∀ (g e : Nat) (s : State),
    let act := (List.range 8).filter (fun t => s.ts g e t != tIdle && s.ts g e t != tHeld)
    let u := s.err (R.PE_STALL_CNT g e)
    act ≠ [] → act.all (fun t => s.internal g e t) = true →
    let stuck := u.rdB (F.PE_SUP_SUP_ACTIVE g e) = true ∨ u.ts g e 0 = tFaulted ∨ u.ts g e 0 = tHeld
    let x := u.raise (F.GAL_INT_STATUS_STALL_ESCALATED g)
    (¬ stuck → exec (.engineStall g e) s = .next (u.wr (F.PE_SUP_STALL_PEND g e) 1)) ∧
    (stuck → exec (.engineStall g e) s = .next (x.fault { cls := 0x0D, cause := 1, unit := unitThread g e 0, snapshot := x.cnt (R.PE_STALL_CNT g e), detail := (act.map (fun t => 2 ^ t)).sum }))) ∧
  (∀ (g e ev : Nat) (s : State), (s.ts g e 0 = tIdle ∨ s.ts g e 0 = tWaiting) → s.rdB (F.PE_SUP_SUP_ACTIVE g e) = false → s.supPending g e = [ev] →
    ∃ t x : State, exec (.supervisorEntry g e) s = .next ((t.wr (F.PE_SUP_SUP_ACTIVE g e) 1).setTs g e 0 tSupervisor) ∧
      t = (x.setPc g e 0 (x.curVer % 4 * 0x2000 + 4 * dirEntry ((x.ver x.curVer).dir 1))).wr (F.PE_THREAD_WAIT_KIND g e 0) 0 ∧
      ∃ c, x = State.updThr (if ev = 8 then s.wr (F.PE_SUP_STALL_PEND g e) 0 else s.wr ⟨R.PE_SUP g e, 8 + ev, 1⟩ 0) g e 0 (fun y => { y with
        before := s.ts g e 0, savedPc := (if ev = 8 then s.wr (F.PE_SUP_STALL_PEND g e) 0 else s.wr ⟨R.PE_SUP g e, 8 + ev, 1⟩ 0).pc g e 0,
        savedKind := (if ev = 8 then s.wr (F.PE_SUP_STALL_PEND g e) 0 else s.wr ⟨R.PE_SUP g e, 8 + ev, 1⟩ 0).rd (F.PE_THREAD_WAIT_KIND g e 0),
        savedLoops := y.loops, savedRets := y.rets, loops := [], rets := [], supCause := c, savedFrom := y.beforeWait, savedMask := y.waitMask,
        savedCons := y.waitCons, savedDest := y.waitDest, savedSump := y.sump, sump := none })) ∧
  (∀ (g e : Nat) (s : State), s.ts g e 0 = tFaulted → exec (.thread0FirmwareRestart g e) s =
    .next (((s.setTs g e 0 tIdle).wr (F.PE_FAULT_VALID g e 0) 0).updThr g e 0 (fun x => { x with loops := [], rets := [] }))) ∧
  (∀ (g i : Nat) (s : State), i < 36 → s.rdB (sProd (g * 36 + i)) = true →
    let u := s.rd (sProducer (g * 36 + i))
    s.engHalted (u / 256 % 64) (u / 8 % 32) = false → exec (.sumpAbort g i) s = .next (s.sumpCloseProd (g * 36 + i) 3)) ∧
  (∀ (g i : Nat) (s : State), s.rdB (sProd (g * 36 + i)) = false → exec (.sumpAbort g i) s = .next s) ∧
  (∀ (g : Nat) (p : Pkt) (s : State), s.path.toGal.find? (fun x => x.1 == g) = some (g, p) →
    let u : State := { s with
      path := { s.path with toGal := s.path.toGal.filter (fun x => !(x.1 == g && x.2.id == p.id)) } }
    ((s.gal g).input.length < 512 → exec (.dispatcherEnqueue g) s =
      .next (u.setGal g { s.gal g with input := (s.gal g).input ++ [{ p with entry := none }] })) ∧
    (512 ≤ (s.gal g).input.length → exec (.dispatcherEnqueue g) s = .next ((u.stat (R.DSP_QUEUE_FULL_CNT g)).pktGone p))) ∧
  (∀ (g id : Nat) (y : Ended) (s : State), (s.gal g).ended.find? (fun y => y.pkt.id == id) = some y →
    ((y.pkt.ordered = false ∨ s.olderInOrder g y.pkt = false) → exec (.handoff g id) s =
      .next (((((s.setGal g { s.gal g with ended := (s.gal g).ended.filter (fun z => z.pkt.id != id) }).retryDone g y.pkt 1).sendEnded g y)).drain g)) ∧
    (y.pkt.ordered = true → s.olderInOrder g y.pkt = true → y.waited = true → exec (.handoff g id) s = .next s))

/-- An admitted packet past its deadline that is not LATE: with ON_DEADLINE 1 it becomes LATE, with 2 or 3 it is taken out and goes to the slow path or is gone, and each time DSP_DEADLINE_CNT
counts and one entry is made. A LATE packet past its grace is taken out and counted. A packet that waits in the input queue past its deadline is counted and gone. A hardware fault of a running
engine takes its state to 4 and no other state; a fault of a cause R311 does not name changes nothing. A gallery memory fault records the line as bad and counts it. -/
def Obligations.DeadlinesAndHardwareFaults : Prop :=
  (∀ (g id : Nat) (p : Pkt) (w : Where) (s : State), s.admitted g id = some (p, w) → p.late = false → s.overdue p 0 = true →
    let u := (s.err (R.DSP_DEADLINE_CNT g)).retryDone g p 2
    let x := fun (od : Nat) => u.fault { cls := 0x09, cause := od, unit := w.unit g, corr := p.corr, snapshot := u.cnt (R.DSP_DEADLINE_CNT g), upper := 5, detail := p.g Md.chainId + p.g Md.flowClass * 2 ^ 12 + p.g Md.version * 2 ^ 18 }
    (bitsOf (s.policyOf p) 0 2 = 1 → exec (.deadlineFault g id) s = .next ((x 1).updAdmitted g id w (fun q => { q with late := true }))) ∧
    (bitsOf (s.policyOf p) 0 2 = 2 → exec (.deadlineFault g id) s = .next ((((x 2).takeOut g id w).slowPath g p).drain g)) ∧
    (bitsOf (s.policyOf p) 0 2 = 3 → exec (.deadlineFault g id) s = .next ((((x 3).takeOut g id w).pktGone p).drain g))) ∧
  (∀ (g id : Nat) (p : Pkt) (w : Where) (s : State), s.admitted g id = some (p, w) → p.late = true → exec (.deadlineFault g id) s = .next s) ∧
  (∀ (g id : Nat) (p : Pkt) (w : Where) (s : State), s.admitted g id = some (p, w) → p.late = true → s.overdue p (bitsOf (s.policyOf p) 4 4) = true →
    exec (.graceExpiry g id) s = .next ((((s.takeOut g id w).err (R.DSP_DEADLINE_CNT g)).pktGone p).drain g)) ∧
  (∀ (g id : Nat) (p : Pkt) (s : State), (s.gal g).input.find? (fun p => p.id == id && p.entry.isSome) = some p → s.overdue p 0 = true →
    exec (.inputQueueExpiry g id) s = .next (((s.setGal g { s.gal g with
      input := (s.gal g).input.filter (fun q => q.id != id) }).stat (R.DSP_NO_BUDGET_CNT g)).pktGone p)) ∧
  (∀ (g e t c : Nat) (s : State), s.rd (F.PE_STATUS_STATE g e) ≤ 1 → (s.thr g e t).livePkt = none → s.enginePkts g e = [] →
    (c = 0xF0 ∨ c = 0xF1 ∨ c = 0xF2 ∨ c = 0xF4) → ∃ (n : Nat) (u : State) (h : HwFault),
      s.newCorr = (n, u) ∧ h.eng = e ∧ h.thread = t ∧ h.cause = c ∧ h.corr = n ∧ h.moved = 0 ∧ h.lower = some 0 ∧
      let a := (u.thrFault g e t c).each ((List.range 8).filter (fun k => k != t)) (fun y k => y.stopBeside g e k)
      let b := (a.each (List.range 8) (fun y k => y.updThr g e k (fun x => { x with ctxs := [], running := false, gone := false }))).wr (F.PE_STATUS_STATE g e) 4
      exec (.engineHwFault g e t c) s = .next (b.setGal g { b.gal g with hws := (b.gal g).hws ++ [h] })) ∧
  (∀ (g e t c : Nat) (s : State), (2 ≤ s.rd (F.PE_STATUS_STATE g e) ∨ c ∉ [0xF0, 0xF1, 0xF2, 0xF4]) → exec (.engineHwFault g e t c) s = .next s) ∧
  (∀ (g e t addr : Nat) (s : State), (s.thr g e t).livePkt = none → 0x80000 ≤ addr → ∃ (n : Nat) (u : State) (h : HwFault), s.newCorr = (n, u) ∧
    h.eng = e ∧ h.thread = t ∧ h.cause = 0xF3 ∧ h.corr = n ∧ h.moved = 0 ∧ h.active = false ∧
    let a := ((((u.thrFault g e t 0xF3).faultEvent g e t).dropRun g e t).moveQueued g e t)
    let b := a.setGal g { a.gal g with
      badLines := if (a.gal g).badLines.contains (addr / 64) then (a.gal g).badLines else addr / 64 :: (a.gal g).badLines }
    let d := b.wr F.FLT_STATUS_RETIRED_LINES (min 255 (b.rd F.FLT_STATUS_RETIRED_LINES + 1))
    let x := d.fault { cls := 0x04, cause := 4, unit := unitOf 0x01 g, corr := n, snapshot := d.cnt (R.GAL_MEM_ECC_CNT g), lower := 2, upper := 3, sparesOut := true, detail := addr + g * 2 ^ 48 }
    exec (.galleryMemoryFault g e t addr) s = .next ((x.setGal g { x.gal g with hws := (x.gal g).hws ++ [h] }).hwFinish g n))

/-- A check that has not started starts at the next drip boundary after the fault's drip; it ends with its result when four drips have passed; a passed engine goes back to dispatch at a
boundary with its counter of transient faults one up; a failed one is retired, ENGINE_RETIRED raised, and the spare, if one stands by, takes its position. Without a check nothing changes. -/
def Obligations.EngineCheck : Prop :=
  (∀ (g e : Nat) (h : HwFault) (s : State), s.check g e = some h →
    (h.started = false → s.fst.cycle = 0 → s.fst.drip ≠ h.drip →
      exec (.engineCheckStart g e) s = .next ((s.updCheck g e (fun y => { y with started := true })).showCheck g)) ∧
    (h.started = true → exec (.engineCheckStart g e) s = .next s) ∧
    (∀ pass, h.started = true → h.result = none → 3 ≤ h.drips → exec (.engineCheckEnd g e pass) s =
      .next ((s.updCheck g e (fun y => { y with result := some pass, drips := 4 })).showCheck g)) ∧
    (∀ pass, h.drips < 3 → exec (.engineCheckEnd g e pass) s = .next s) ∧
    (h.result = some true → s.fst.atEdge = true →
      let a := s.wr (F.PE_STATUS_STATE g e) (if s.rd (F.PE_STATUS_POS g e) = 16 then 1 else 0)
      let b := (a.err (R.PE_TRANSIENT_CNT g e)).faultEvent g e h.thread
      exec (.engineReturn g e) s = .next (((b.updCheck g e (fun y => { y with
        active := false, upper := some 1, snap := b.cnt (R.PE_TRANSIENT_CNT g e) })).hwFinish g h.corr).drain g)) ∧
    (h.result = some false → s.fst.atEdge = true → s.rd (F.PE_STATUS_POS g e) = 16 →
      let a := ((s.wr (F.PE_STATUS_STATE g e) 2).err (R.DSP_LASTING_CNT g)).raise (F.GAL_INT_STATUS_ENGINE_RETIRED g)
      exec (.engineRetire g e) s = .next (((a.updCheck g e (fun y => { y with
        active := false, upper := some 3, snap := a.cnt (R.DSP_LASTING_CNT g), sparesOut := true })).hwFinish g h.corr).drain g)) ∧
    (∀ k, h.result = some false → s.fst.atEdge = true → s.rd (F.PE_STATUS_POS g e) ≠ 16 →
      let a := ((s.wr (F.PE_STATUS_STATE g e) 2).err (R.DSP_LASTING_CNT g)).raise (F.GAL_INT_STATUS_ENGINE_RETIRED g)
      (List.range 17).find? (fun k => a.rd (F.PE_STATUS_STATE g k) == 1) = some k →
      exec (.engineRetire g e) s = .next (((((a.wr (F.PE_STATUS_STATE g k) 0).wr (F.PE_STATUS_POS g k) (s.rd (F.PE_STATUS_POS g e))).updCheck g e
        (fun y => { y with
          active := false, upper := some 2, snap := a.cnt (R.DSP_LASTING_CNT g), sparesOut := false })).hwFinish g h.corr).drain g)) ∧
    (h.result = none → exec (.engineReturn g e) s = .next s ∧ exec (.engineRetire g e) s = .next s)) ∧
  (∀ (g e : Nat) (pass : Bool) (s : State), s.check g e = none → exec (.engineCheckStart g e) s = .next s ∧
    exec (.engineCheckEnd g e pass) s = .next s ∧ exec (.engineReturn g e) s = .next s ∧ exec (.engineRetire g e) s = .next s)

/-- A packet whose port or class is not its queue's, or whose queue or group is not enabled, counts as misrouted and is dropped; one longer than its class allows as oversize; one for which no cells are
free as NO_CELL; a green one within its queue's and group's shares enters its queue. A free port that may send has a frame selected. The last byte of a frame clears the
port's transmitter, emits the frame, counts it in the port's and the queue's counters and frees its cells; a preempted frame that waited goes on. -/
def Obligations.TrafficManagerPackets : Prop :=
  (∀ (id : Nat) (p : Pkt) (s : State), s.path.toTm.find? (fun p => p.id == id) = some p →
    let u : State := { s with
      path := { s.path with toTm := s.path.toTm.filter (fun x => x.id ≠ id) } }
    let q := p.g Md.tmQueue
    let g := u.groupOf q
    (u.tmF tQueue q 11 1 = 0 → exec (.tmEnqueue id) s = .next ((u.stat R.TMG_MISROUTE_CNT).txDropped p)) ∧
    (p.g Md.destPort ≠ u.portOf g → exec (.tmEnqueue id) s = .next ((u.stat R.TMG_MISROUTE_CNT).txDropped p)) ∧
    (¬ (p.g Md.destPort ≠ u.portOf g ∨ p.g Md.tc ≠ u.classOf g ∨ u.tmF tQueue q 11 1 = 0 ∨ u.tmF tGroup g 6 1 = 0
        ∨ bitOf (u.rd F.PRT_STATUS_CONFIGURED) (u.portOf g) = false) →
      let len := u.flen (u.portOf g) p
      let room := u.tmF tClass (u.portOf g * 8 + u.classOf g) 0 14
      (room < len → exec (.tmEnqueue id) s = .next ((u.stat R.TMG_OVERSIZE_CNT).txDropped p)) ∧
      (len ≤ room → p.g Md.policerEn = 0 → u.rd F.TMG_STATUS_FREE_CELLS < cellsOf len →
        exec (.tmEnqueue id) s = .next ((u.stat R.TMG_NO_CELL_CNT).txDropped p)) ∧
      (len ≤ room → p.g Md.policerEn = 0 → cellsOf len ≤ u.rd F.TMG_STATUS_FREE_CELLS → (u.tq q).occ + cellsOf len ≤ u.tmE tQueue q 64 18 →
        (u.tg g).occ + cellsOf len ≤ u.tmE tGroup g 88 18 → exec (.tmEnqueue id) s = .next (u.tmPut q g (cellsOf len) p)))) ∧
  (∀ (p : Nat) (s : State), let u := s.ncRelease p
    u.portSends p = true → bktOk (u.profP p) (Map.get u.tm.portTok 0 p) = true → (u.prt1 p).tx = none →
      exec (.tmSelect p) s = .next (u.selectFrom p false (u.tmCount + 8) 7)) ∧
  (∀ (p : Nat) (s : State), (s.ncRelease p).portSends p = false → exec (.tmSelect p) s = .next (s.ncRelease p)) ∧
  (∀ (p : Nat) (f : TxFrame) (s : State), (s.prt1 p).tx = some f → f.secy = false → f.stomp = false →
    let l := f.pkt.data
    let stamp := s.stampTx p 0 - s.fst.now + f.start
    let a := (s.setPrt p { s.prt1 p with tx := none }).emit (.frame p (l ++ List.replicate (60 - l.length) 0) stamp f.stomp)
    let b := (a.stat (R.PRT_TX_PKTS_CNT p)).statAdd (R.PRT_TX_BYTES_CNT p) (max l.length 60 + 4)
    let c := b.setTq f.q { b.tq f.q with
      txPkts := ((b.tq f.q).txPkts + 1) % 2 ^ 64, txBytes := ((b.tq f.q).txBytes + l.length) % 2 ^ 64 }
    let d := ((c.txOutcome f.pkt 0 (stamp / 65536).toNat (stamp % 65536).toNat (c.rdB F.FST_STATUS_ALIGNED)).freeCells f.q f.cells).ctlFlush p
    ((d.prt1 p).frag = none → exec (.portFrameTxEnd p) s = .next d) ∧
    (∀ g, (d.prt1 p).frag = some g → exec (.portFrameTxEnd p) s =
      .next (d.setPrt p { d.prt1 p with frag := none, tx := some { g with start := d.fst.now } }))) ∧
  (∀ (p : Nat) (s : State), (s.prt1 p).tx = none → exec (.portFrameTxEnd p) s = .next s)

/-- A gate change shows the port's gate states; a verified commit starts the copy of the administrative list and completes when the copy ends, or at once when it cancels; a waiting list whose start has come becomes the operating
list, OPER_START holds its start and GATE_STARTED rises. A sample round is counted in ROUND, and skipped, counted and raised, while its channel is busy. A write of
TMG_SAMPLE_CFG with ENABLE 0 stops the set; one of TMG_SAMPLE_RING starts at record 0, PHASE 1. A GO on the idle table port reads an entry into the data registers or writes one, setting BUSY
until the access is done; an entry that does not exist is error 1; while BUSY a GO changes nothing. -/
def Obligations.GatesSamplesAndTables : Prop :=
  (∀ (p : Nat) (s : State), exec (.gateChange p) s = .next (((s.gateRestart p).showStates p).ncRelease p)) ∧
  (∀ (f : Nat) (s t : State) (c : AdmCmd), s.Verified f 0x2A [0x07FF0107, 2 ^ 64 - 1, 0xFFFFFFFF] (fun c => bitOf (c.word 0x08) 8 || s.gateOk c) c t →
    let p := bitsOf (c.word 0x08) 0 3
    (bitOf (c.word 0x08) 8 = true → exec (.gateListCommit f) s = .next (((t.setGate p { t.gate p with pend := none }).showGate p).admDone f stSuccess)) ∧
    (bitOf (c.word 0x08) 8 = false → ∃ l : GateList, l.base = c.word 0x10 ∧ l.cycle = bitsOf (c.word 0x18) 0 32 ∧ l.start = none ∧
      exec (.gateListCommit f) s = .next (((t.setGate p { t.gate p with copying := (t.gate p).copying ++ [(f, l)], pend := none }).showGate p).admWait f))) ∧
  (∀ (p f : Nat) (l : GateList) (r : List (Nat × GateList)) (s : State), (s.gate p).copying = (f, l) :: r → exec (.gateListCopyDone p) s =
    .next (((s.setGate p { s.gate p with pend := if r.isEmpty then some l else (s.gate p).pend, copying := r }).showGate p).admDone f stSuccess { r0 := l.start.getD 0 })) ∧
  (∀ (p st : Nat) (l : GateList) (s : State), (s.gate p).pend = some l → l.start = some st → st ≤ s.fst.nowNs →
    exec (.gateListStart p) s =
      .next (((((((s.setGate p { s.gate p with oper := some l, pend := none }).wrB (F.TMG_GATE_STATUS_SUSPENDED p) false).wr (F.TMG_GATE_OPER_START_START p) st).raise
        F.TMG_INT_STATUS_GATE_STARTED).showGate p).showStates p))) ∧
  (∀ (k : Nat) (s : State), s.rdB (F.TMG_SAMPLE_STATUS_ACTIVE k) = true → s.fst.drip % 2 ^ s.rd (F.TMG_SAMPLE_CFG_K k) = 0 →
    let r := (s.rd (F.TMG_SAMPLE_STATUS_ROUND k) + 1) % 2 ^ 32
    let u := s.wr (F.TMG_SAMPLE_STATUS_ROUND k) r
    exec (.sampleRound k true) s = .next ((u.stat (R.TMG_SAMPLE_SKIP_CNT k)).raise F.TMG_INT_STATUS_SAMPLE_SKIP) ∧
    ((u.func (s.rd (F.TMG_SAMPLE_CFG_FUNC k))).cfg.master = true → u.rdB (F.HIF_LINK_STATUS_DL_UP (u.attOf (s.rd (F.TMG_SAMPLE_CFG_FUNC k)))) = true →
      ∃ t x : State, exec (.sampleRound k false) s = .next t ∧
        x = (u.sampleRec k (2 + u.rd (F.TMG_SAMPLE_CFG_COUNT_M1 k) * 4 + r * 2 ^ 32) u.fst.drip).each
          (List.range (u.rd (F.TMG_SAMPLE_CFG_COUNT_M1 k) + 1)) (fun t i =>
            t.sampleRec k (t.sampleQueue k (u.rd (F.TMG_SAMPLE_CFG_FIRST k) + i)).1 (t.sampleQueue k (u.rd (F.TMG_SAMPLE_CFG_FIRST k) + i)).2) ∧
        t = { x with
          tm := { x.tm with samples := Map.set x.tm.samples {} k { Map.get x.tm.samples {} k with maxs := [] } } })) ∧
  (∀ (k : Nat) (b : Bool) (s : State), s.rdB (F.TMG_SAMPLE_STATUS_ACTIVE k) = false → exec (.sampleRound k b) s = .next s) ∧
  (∀ (k : Nat) (v : Word) (s : State), bitsOf v.toNat 0 1 = 0 → exec (.sampleCfgWrite k v) s =
    .next ((s.setReg (R.TMG_SAMPLE_CFG k) (BitVec.ofNat 64 (v.toNat &&& 0x000F0FFFFFFFFFFF))).wrB (F.TMG_SAMPLE_STATUS_ACTIVE k) false)) ∧
  (∀ (k : Nat) (v : Word) (s : State), ∃ t, exec (.sampleRingWrite k v) s = .next t ∧ t.regs = (s.setReg (R.TMG_SAMPLE_RING k) v).regs ∧
    (Map.get t.tm.samples {} k).next = 0 ∧ (Map.get t.tm.samples {} k).phase = true) ∧
  (∀ (a t i : Nat) (s : State), s.rdB (F.TMG_TBL_CTRL_BUSY a) = true →
    exec (.tmTableRead a t i) s = .next s ∧ exec (.tmTableWrite a t i) s = .next s) ∧
  (∀ (a t i : Nat) (s : State), s.rdB (F.TMG_TBL_CTRL_BUSY a) = false →
    let u := fun b => (((s.wr (F.TMG_TBL_CTRL_TABLE a) t).wr (F.TMG_TBL_CTRL_INDEX a) i).wrB (F.TMG_TBL_CTRL_WRITE a) b).wrB (F.TMG_TBL_CTRL_BUSY a) true
    (t ≤ 8 → i < tmSize t → exec (.tmTableRead a t i) s = .next (((u false).each (List.range 4) (fun y k =>
      y.setReg (R.TMG_TBL_DATA a k) (BitVec.ofNat 64 ((u false).tmRead t i / 2 ^ (64 * k))))).tmErr a 0)) ∧
    (tmSize t ≤ i → exec (.tmTableRead a t i) s = .next ((u false).tmErr a 1) ∧
      exec (.tmTableWrite a t i) s = .next (((u true).err R.TMG_TBL_REFUSED_CNT).tmErr a 1)) ∧
    (t ≤ 6 → i < tmSize t → ¬ (t = tProfile ∧ i = 0) → ¬ (t = tGateAdmin ∧ (u true).rdB (F.TMG_GATE_STATUS_COPYING (i / 1024)) = true) →
      tmFieldsOk t ((u true).tmData a) = true →
      exec (.tmTableWrite a t i) s = .next (((u true).tmStore t i ((u true).tmMerge t i ((u true).tmData a))).tmErr a 0))) ∧
  (∀ (a : Nat) (s : State), exec (.tmTableAccessDone a) s = .next (s.wrB (F.TMG_TBL_CTRL_BUSY a) false))

/-- An operation whose session is not of its kind, or whose context is not cached, changes nothing. ESP_IN drops as malformed a packet without ESP, ESP_OUT one without IP, TLS_TX one without TCP; TLS_RX
delivers such a one with TLS status 3. The gate drops a packet of a session that is not valid. A frame to be protected without a valid transmit session is counted and dropped; protected it carries its SecTAG and ICV.
A received frame is passed, dropped or accepted as R386 says. A context that arrives is cached. A lane fault that a repeat corrects counts as transient; a lasting one retires the lane. -/
def Obligations.CryptographicOperations : Prop :=
  (∀ (id n : Nat) (w : CryWork) (s : State), s.Ciphers id kEspIn n w →
    let u := s.cryOff id
    (espFind w.pkt.data (u.cx n Cx.natt == 1) = none → exec (.espInOperation id) s = .next (u.cryDropCnt w R.CRY_MALFORMED_CNT)) ∧
    (∀ o v6 e stop, espFind w.pkt.data (u.cx n Cx.natt == 1) = some (o, v6, e, stop) → beNat ((w.pkt.data.drop e).take 4) ≠ u.cx n Cx.spi →
      exec (.espInOperation id) s = .next (u.cryDropCnt w R.CRY_MALFORMED_CNT)) ∧
    exec (.espInOperation id) s = .next (u.espIn w n) ∧ exec (.espOutOperation id) s = .next s ∧ exec (.tlsRxSegment id) s = .next s) ∧
  (∀ (id n : Nat) (w : CryWork) (s : State), s.Ciphers id kEspOut n w → exec (.espOutOperation id) s = .next ((s.cryOff id).espOut w n) ∧
    (firstIp w.pkt.data = none → exec (.espOutOperation id) s = .next (((s.cryOff id).assignSeq n).2.cryDropCnt w R.CRY_MALFORMED_CNT))) ∧
  (∀ (id n : Nat) (w : CryWork) (s : State), s.Ciphers id kTlsTx n w → exec (.tlsTxOperation id) s = .next ((s.cryOff id).tlsTx w n) ∧
    (tcpFind w.pkt.data = none → exec (.tlsTxOperation id) s = .next (((s.cryOff id).assignSeq n).2.cryDropCnt w R.CRY_MALFORMED_CNT))) ∧
  (∀ (id n : Nat) (w : CryWork) (s : State), s.Ciphers id kTlsRx n w → exec (.tlsRxSegment id) s = .next ((s.cryOff id).tlsRx w n) ∧
    (tcpFind w.pkt.data = none → exec (.tlsRxSegment id) s = .next ((s.cryOff id).tlsDeliver w n 3 w.pkt.data))) ∧
  (∀ (id : Nat) (w : CryWork) (c : Nat) (s : State), cryFind id s.path.cry [] = some w → s.cry.cache.contains (w.pkt.g Md.cryptoSession) = true →
    s.cryGate w.pkt w.point = .drop c → exec (.espInOperation id) s = .next ((s.cryOff id).cryDropCnt w c)) ∧
  (∀ (p : Nat) (f : TxFrame) (s : State), (s.prt1 p).tx = some f → f.secy = true →
    let an := s.rd (F.CRY_SECY_CFG_TX_AN p)
    let n := s.rd (F.CRY_SECY_TXSA_SESSION p an)
    (s.rdB (F.CRY_SECY_TXSA_IN_USE p an) = false → exec (.macsecTxFrame p) s = .next ((s.err R.CRY_NO_SESSION_CNT).secyDrop p f)) ∧
    (s.rdB (F.CRY_SECY_TXSA_IN_USE p an) = true → s.cx n Cx.valid = 1 → s.cx n Cx.kind = kMacsecTx → s.cry.cache.contains n = true →
      (s.cx n Cx.exhausted = 1 → exec (.macsecTxFrame p) s = .next ((s.err R.CRY_EXHAUSTED_CNT).secyDrop p f)) ∧
      (s.cx n Cx.exhausted = 0 →
        let body := f.pkt.data.drop 12
        let pn := (s.assignSeq n).1
        let u := (s.assignSeq n).2
        let sci := leBytes (u.reg (R.CRY_SECY_TXSCI p)).toNat 8
        let tag := secTag (s.rd (F.CRY_SECY_CFG_TX_AN p)) false (if body.length < 48 then body.length else 0) pn sci
        let icv := gcmTag16 (u.gcmKey n) (u.secNonce n sci pn (u.xpn p)) (f.pkt.data.take 12 ++ tag ++ body) []
        let v := (u.account n body.length).stat R.CRY_OUT_PKT_CNT
        u.rdB (F.CRY_SECY_CFG_CONFIDENTIAL p) = false → exec (.macsecTxFrame p) s = .next (v.setPrt p { v.prt1 p with
          tx := some { f with secy := false, pkt := { f.pkt with data := f.pkt.data.take 12 ++ tag ++ body ++ icv } } })))) ∧
  (∀ (p : Nat) (f : RxFrame) (l : List RxFrame) (s : State), (s.prt1 p).secyRx = f :: l →
    let off := s.setPrt p { s.prt1 p with secyRx := l }
    (∀ d, s.secFate p f.data = .pass d → exec (.macsecRxFrame p) s = .next (off.portDeliver p { f with data := d })) ∧
    (∀ r, s.secFate p f.data = .drop (some r) none → exec (.macsecRxFrame p) s = .next (off.err r)) ∧
    (∀ n pn d k, s.secFate p f.data = .accept n pn d k → s.cry.cache.contains n = true → off.cx n Cx.seq < pn → exec (.macsecRxFrame p) s =
      .next ((((((off.setCx n Cx.seq pn).softCheck n pn).account n k).stat R.CRY_IN_PKT_CNT)).portDeliver p { f with data := d }))) ∧
  (∀ (n : Nat) (s : State), s.cry.cache.contains n = false → s.path.cry.any (fun w => w.pkt.g Md.cryptoSession == n) = true →
    s.cry.cache.length < 65536 → exec (.cryptoContextFetch n) s = .next { s with cry := { s.cry with cache := n :: s.cry.cache } }) ∧
  (∀ (n : Nat) (s : State), s.cry.cache.contains n = true → exec (.cryptoContextFetch n) s = .next s) ∧
  (∀ (l o c n : Nat) (s : State), s.rd (F.CRY_LANE_STATUS_STATE l) = 0 → s.rd (F.CRY_LANE_STATUS_STATE o) = 0 → l ≠ o → sameLane l o →
    let u := s.newCorr.2.errAt (R.CRY_LANE_STATUS l) 16
    exec (.cryptoLaneFault l o c n 0) s = .next (u.fault { cls := 0x06, cause := c, unit := unitOf 0x06 l, corr := s.newCorr.1, snapshot := u.rd (F.CRY_LANE_STATUS_TRANSIENT l), lower := 1, upper := 1, detail := o % 16 + n % 2 ^ 22 * 16 }) ∧
    let v := (s.newCorr.2.wr (F.CRY_LANE_STATUS_STATE l) 1).raise F.CRY_INT_STATUS_LANE_RETIRED
    let y := if l < 8 then F.CRY_STATUS_GCM_LANES else F.CRY_STATUS_XTS_LANES
    let x := v.wr y (v.rd y - 1)
    exec (.cryptoLaneFault l o c n 1) s = .next (x.fault { cls := 0x06, cause := c, unit := unitOf 0x06 l, corr := s.newCorr.1, snapshot := x.rd (F.CRY_LANE_STATUS_TRANSIENT l), lower := 2, upper := 3, sparesOut := true, detail := o % 16 + n % 2 ^ 22 * 16 }))

/-- A function may write only its sessions, and a context in which a reserved bit is set is a bad field; a keyed session's live fields only change. SESSION_UPDATE sets RESYNC_TCP and the record number of a TLS_RX session that
looks for a header. A verified KEY_INSTALL and a checked import of a well-formed envelope whose key unwraps install the key, the import giving its check value; one that does not unwrap counts an authentication failure. KEY_RETIRE zeroes a session's
context, window, key and records. The session port reads 32 bytes into its data registers. A SecY association register takes a session of the right kind only. -/
def Obligations.SessionsAndKeys : Prop :=
  (∀ (f : Nat) (s : State) (c : AdmCmd), s.Checked f 0x30 false [0x3FFFFF, 2 ^ 64 - 1] (fun _ => true) c →
    let n := bitsOf (c.word 8) 0 22
    let x := leNat (s.hostRead (s.attOf f) (c.word 0x10) 128)
    (s.maySession f n = false → exec (.sessionWrite f) s = .next (s.admDone f stNotPermitted)) ∧
    (s.maySession f n = true → cxGood x = false → exec (.sessionWrite f) s = .next (s.admDone f stBadField)) ∧
    (s.maySession f n = true → cxGood x = true → s.cx n Cx.keyValid ≠ 1 → isMgmt f = true →
      let new := mixBits x (s.ctx n) cxDevice
      let owner := bitsOf new 16 12
      exec (.sessionWrite f) s = .next ((s.setCtx n (putBits new 28 12 (if owner = 0xFFF then 0 else (s.func owner).gen))).admDone f stSuccess))) ∧
  (∀ (f : Nat) (s : State) (c : AdmCmd), s.Checked f 0x31 false [0x3FFFFF, 2 ^ 32 - 1, 2 ^ 64 - 1] (fun _ => true) c →
    let n := bitsOf (c.word 8) 0 22
    (s.maySession f n = false → exec (.sessionUpdate f) s = .next (s.admDone f stNotPermitted)) ∧
    (s.maySession f n = true → s.cx n Cx.kind = kTlsRx → s.cx n Cx.rxState = 1 →
      let u := (s.setCx n Cx.resyncTcp (c.word 0x10)).setCx n Cx.recSeq (c.word 0x18)
      let t : State := { u with
        cry := { u.cry with confirmed := if u.cry.confirmed.contains n then u.cry.confirmed else n :: u.cry.confirmed } }
      exec (.sessionUpdate f) s = .next (t.admDone f stSuccess))) ∧
  (∀ (f : Nat) (s t : State) (c : AdmCmd), s.Verified f 0x32 [2 ^ 64 - 1] (fun _ => true) c t →
    let e := t.hostRead (t.attOf f) (c.word 8) 256
    [1, 2, 4].contains (envAt e 0 8 8) = true → t.envForm e = true →
    (t.envOwned f e = true → envAt e 8 0 12 = 0xFFF →
      (∀ key, Config.unwrap t.grt.tik e = some key →
        exec (.keyInstall f) s = .next ((t.installKey (envAt e 0 8 8) (envAt e 0 32 32) key).admDone f stSuccess)) ∧
      (Config.unwrap t.grt.tik e = none → exec (.keyInstall f) s = .next ((t.err R.GRT_AUTH_FAIL_CNT).admDone f stAuthFailed))) ∧
    (t.envOwned f e = false → exec (.keyInstall f) s = .next (t.admDone f stNotPermitted))) ∧
  (∀ (f : Nat) (s : State) (c : AdmCmd), s.Checked f 0x34 false [2 ^ 64 - 1] (fun _ => true) c →
    let e := s.hostRead (s.attOf f) (c.word 8) 256
    [1, 2].contains (envAt e 0 8 8) = true → s.envForm e = true → s.envOwned f e = true → envAt e 8 0 12 ≠ 0xFFF →
    ∀ key, Config.unwrap s.grt.tik e = some key → let u := s.installKey (envAt e 0 8 8) (envAt e 0 32 32) key
      exec (.keyEnvelopeImport f) s = .next (u.admDone f stSuccess { r0 := u.keyCheck (envAt e 0 8 8) (envAt e 0 32 32) key })) ∧
  (∀ (f : Nat) (s t : State) (c : AdmCmd),
    s.Verified f 0x33 [0x13FFFFF] (fun c => !bitOf (c.word 8) 24 || decide (bitsOf (c.word 8) 0 22 < 16384)) c t →
    exec (.keyRetire f) s = .next ((if bitOf (c.word 8) 24 then t.retireNs (bitsOf (c.word 8) 0 22) else t.retireSession (bitsOf (c.word 8) 0 22)).admDone f stSuccess) ∧
    let u := t.retireSession (bitsOf (c.word 8) 0 22)
    u.ctx (bitsOf (c.word 8) 0 22) = 0 ∧ Map.get u.cry.keys 0 (bitsOf (c.word 8) 0 22) = 0) ∧
  (∀ (a i p : Nat) (s : State), (s.rdB (F.CRY_SESS_CTRL_BUSY a) = true → exec (.sessionPortRead a i p) s = .next s) ∧
    (s.rdB (F.CRY_SESS_CTRL_BUSY a) = false → exec (.sessionPortRead a i p) s =
      .next (((s.wr (F.CRY_SESS_CTRL_INDEX a) i).wr (F.CRY_SESS_CTRL_PART a) p).wrB (F.CRY_SESS_CTRL_BUSY a) true))) ∧
  (∀ (a : Nat) (s : State), s.rdB (F.CRY_SESS_CTRL_BUSY a) = true →
    let v := s.ctx (s.rd (F.CRY_SESS_CTRL_INDEX a)) / 2 ^ (256 * s.rd (F.CRY_SESS_CTRL_PART a))
    exec (.sessionPortReadDone a) s = .next (((s.each (List.range 4) (fun t i =>
      t.setReg (R.CRY_SESS_DATA a i) (BitVec.ofNat 64 (v / 2 ^ (64 * i))))).wrB (F.CRY_SESS_CTRL_ERR a) false).wrB (F.CRY_SESS_CTRL_BUSY a) false)) ∧
  (∀ (p : Nat) (v : Word) (s : State), p < 8 →
    exec (.secyRegisterWrite (R.CRY_SECY_CFG p) v) s = .next ((s.setReg (R.CRY_SECY_CFG p) (v &&& 0xFFFFFFFF000007FF)).each (List.range 8) State.oneStepDown) ∧
    (∀ an, an < 4 → exec (.secyRegisterWrite (R.CRY_SECY_TXSA p an) v) s =
      .next ((if s.saOk v kMacsecTx then s.setReg (R.CRY_SECY_TXSA p an) (v &&& 0x7FFFFF) else s.err R.CRY_KIND_CNT).each (List.range 8) State.oneStepDown)))

/-- The next entry of an admin submission queue with a command's opcode is taken, counted, and completed as the command says: Identify and Get Log Page place data by the entry's pointer; Set and Get Features
keep and give a feature of R399; Create I/O CQ and SQ make an enabled queue, an SQ taking one unit of the allotment; Delete removes one, and an SQ's commands complete as aborted, but not a CQ that an SQ uses; Abort removes a command not yet sent; an
Asynchronous Event Request waits or takes an event; a queue identifier in use, a missing queue and an unknown opcode are refused. -/
def Obligations.NvmeAdminCommands : Prop :=
  (∀ (f : Nat) (e : List Byte) (s : State), s.NvmeAt f 0 0x06 e → dw e 10 % 256 = 2 →
    exec (.nvmeIdentify f) s = .next ((s.sqTake f 0).nvmeData f (leAt e 2 2) e (padTo 4096 ((((s.sqTake f 0).nsids
      ((((s.sqTake f 0).ctrlOf f).map (·.1)).getD 0)).filter (fun i => dw e 1 < i)).flatMap (fun i => leBytes i 4))))) ∧
  (∀ (f : Nat) (e : List Byte) (s : State), s.NvmeAt f 0 0x02 e →
    let lid := dw e 10 % 256
    let u := s.sqTake f 0
    (3 < lid → exec (.nvmeGetLogPage f) s = .next (if lid = 0x0C then u.nvmeDone f 0 (leAt e 2 2) 0 0x02 0 0 else u.nvmeDone f 0 (leAt e 2 2) 1 0x09 0 0)) ∧
    (1 ≤ lid → lid ≤ 3 → exec (.nvmeGetLogPage f) s = .next (u.fresh.2.nvmeData f (leAt e 2 2) e
      ((List.range (((dw e 10 / 65536 + dw e 11 % 65536 * 65536) + 1) * 4)).map (fun i =>
        Config.stoByte (256 + lid) u.fresh.1 (dw e 12 + dw e 13 * 2 ^ 32 + i)))))) ∧
  (∀ (f n : Nat) (x : Ctrl) (e : List Byte) (s : State), (s.sqTake f 0).ctrlOf f = some (n, x) →
    let fid := dw e 10 % 256
    let u := s.sqTake f 0
    (s.NvmeAt f 0 0x09 e → nvmeFeature fid = true → fid ≠ 7 → exec (.nvmeSetFeatures f) s =
      .next ((u.setCtrl n { x with feat := Map.set x.feat 0 fid (dw e 11) }).nvmeDone f 0 (leAt e 2 2) 0 0 0 0)) ∧
    (s.NvmeAt f 0 0x09 e → nvmeFeature fid = false → exec (.nvmeSetFeatures f) s = .next (u.nvmeDone f 0 (leAt e 2 2) 0 0x02 0 0)) ∧
    (s.NvmeAt f 0 0x0A e → nvmeFeature fid = true → exec (.nvmeGetFeatures f) s = .next (u.nvmeDone f 0 (leAt e 2 2) 0 0 0 (Map.get x.feat 0 fid))) ∧
    (s.NvmeAt f 0 0x0C e → x.events = [] → exec (.nvmeAsyncEventRequest f) s = .next (u.setCtrl n { x with aers := x.aers ++ [leAt e 2 2] })) ∧
    (∀ v l, s.NvmeAt f 0 0x0C e → x.events = v :: l → exec (.nvmeAsyncEventRequest f) s =
      .next ((u.setCtrl n { x with events := l }).nvmeDone f 0 (leAt e 2 2) 0 0 0 v))) ∧
  (∀ (f : Nat) (e : List Byte) (s : State),
    let u := s.sqTake f 0
    let cid := leAt e 2 2
    let q := dw e 10 % 65536
    let n := dw e 10 / 65536 + 1
    (s.NvmeAt f 0 0x01 e → (q = 0 ∨ 64 < q ∨ u.hasQue f 8 q = true) → exec (.nvmeCreateIoSq f) s = .next (u.nvmeDone f 0 cid 1 0x01 0 0)) ∧
    (s.NvmeAt f 0 0x01 e → 0 < q → q ≤ 64 → u.hasQue f 8 q = false → 2 ≤ n → 0 < dw e 11 / 65536 → u.hasQue f 9 (dw e 11 / 65536) = true →
      bitOf (dw e 11) 0 = true → (u.func f).qpUsed < (u.func f).qpAllot → exec (.nvmeCreateIoSq f) s =
        .next (((u.setFunc f { u.func f with qpUsed := (u.func f).qpUsed + 1 }).updQue f 8 q (fun _ =>
          { st := .enabled, base := leAt e 24 8, size := n, log2 := Nat.log2 n, cq := dw e 11 / 65536 })).nvmeDone f 0 cid 0 0 0 0)) ∧
    (s.NvmeAt f 0 0x05 e → (q = 0 ∨ 64 < q ∨ u.hasQue f 9 q = true) → exec (.nvmeCreateIoCq f) s = .next (u.nvmeDone f 0 cid 1 0x01 0 0)) ∧
    (s.NvmeAt f 0 0x05 e → 0 < q → q ≤ 64 → u.hasQue f 9 q = false → 2 ≤ n → bitOf (dw e 11) 1 = false → bitOf (dw e 11) 0 = true →
      exec (.nvmeCreateIoCq f) s = .next ((u.updQue f 9 q (fun _ =>
        { st := .enabled, base := leAt e 24 8, size := n, log2 := Nat.log2 n, vec := dw e 11 / 65536, ien := false })).nvmeDone f 0 cid 0 0 0 0)) ∧
    (s.NvmeAt f 0 0x00 e → 0 < q → u.hasQue f 8 q = true → exec (.nvmeDeleteIoSq f) s =
      .next ((((u.each (u.sto.cmds.filter (fun c => c.fn == f && !c.virt && c.q == q)) (fun t c => t.cmdDone c 0 0x08 0 0)).dropQue f 8 q).updFunc f
        (fun x => { x with qpUsed := x.qpUsed - 1 })).nvmeDone f 0 cid 0 0 0 0)) ∧
    (s.NvmeAt f 0 0x04 e → 0 < q → u.hasQue f 9 q = true →
      let used := (u.func f).queues.any (fun x => decide (8 * 4096 ≤ x.1) && decide (x.1 < 9 * 4096) && x.2.cq == q)
      exec (.nvmeDeleteIoCq f) s = .next (if used = true then u.nvmeDone f 0 cid 1 0x0C 0 0 else (u.dropQue f 9 q).nvmeDone f 0 cid 0 0 0 0)) ∧
    (∀ c k, s.NvmeAt f 0 0x08 e → u.sto.cmds.find? (fun c => c.fn == f && !c.virt && c.q == q && c.cid == dw e 10 / 65536) = some c →
      c.place = .waiting k → c.attempt = 1 → exec (.nvmeAbort f) s = .next ((u.cmdDone c 0 0x07 0 0).nvmeDone f 0 cid 0 0 0 0)) ∧
    (s.NvmeAt f 0 0x08 e → u.sto.cmds.find? (fun c => c.fn == f && !c.virt && c.q == q && c.cid == dw e 10 / 65536) = none →
      exec (.nvmeAbort f) s = .next (u.nvmeDone f 0 cid 0 0 0 1))) ∧
  (∀ (f q : Nat) (e : List Byte) (s : State), s.sqHead f q (fun e => !nvmeKnown q (e.getD 0 0).toNat) = some e →
    exec (.nvmeUnsupportedOpcode f q) s =
      .next ((s.sqTake f q).nvmeDone f q (leAt e 2 2) 0 (if nvmeRefusedOps q (e.getD 0 0).toNat then 0x02 else 0x01) 0 0))

/-- The next entry of an I/O submission queue is checked against its namespace and its data pointer and submitted to the back end, a Write with its encrypted blocks; outside the namespace it completes with LBA Out of Range and
STO_TENANT_ERR_CNT counts. Dataset Management without deallocation completes at once. The next request of a virtio-blk queue within its device is submitted likewise; GET_ID gives twenty bytes; one outside the device, of no whole block or of an unknown type ends with its status. -/
def Obligations.TenantIo : Prop :=
  (∀ (f q ns : Nat) (e : List Byte) (s : State), 0 < q →
    let u := s.sqTake f q
    let cid := leAt e 2 2
    let c := fun op => u.ioCmd f q cid ns op e
    let lba := (c 0).slba
    let nlb := (c 0).nlb
    (s.NvmeAt f q 0x00 e → u.nvmeNs f (dw e 1) false 0 0 = (0, ns) →
      exec (.nvmeFlush f q) s = .next (u.stoSubmit { c 0 with slba := 0, nlb := 0 })) ∧
    (∀ l d, s.NvmeAt f q 0x01 e → u.nvmeNs f (dw e 1) true lba nlb = (0, ns) → u.dptr f e (nlb * (u.nsFmt ns).size) = (0, l) →
      (u.nsFmt ns).hostPi = 0 → (u.nsFmt ns).writeAll (c 1) 0 nlb (u.gather (u.attOf f) l) [] = (0, d) →
      exec (.nvmeWrite f q) s = .next (u.stoSubmit { c 1 with segs := l, payload := d })) ∧
    (∀ l, s.NvmeAt f q 0x02 e → u.nvmeNs f (dw e 1) true lba nlb = (0, ns) → u.dptr f e (nlb * (u.nsFmt ns).size) = (0, l) →
      exec (.nvmeRead f q) s = .next (u.stoSubmit { c 2 with segs := l })) ∧
    (s.NvmeAt f q 0x02 e → u.nvmeNs f (dw e 1) true lba nlb = (0x80, ns) →
      exec (.nvmeRead f q) s = .next ((u.err R.STO_TENANT_ERR_CNT).nvmeDone f q cid 0 0x80 0 0)) ∧
    (s.NvmeAt f q 0x08 e → u.nvmeNs f (dw e 1) false lba nlb = (0, ns) → exec (.nvmeWriteZeroes f q) s = .next (u.stoSubmit (c 8))) ∧
    (∀ l, s.NvmeAt f q 0x09 e → u.nvmeNs f (dw e 1) false 0 0 = (0, ns) → u.dptr f e (16 * (dw e 10 % 256 + 1)) = (0, l) →
      let d := u.gather (u.attOf f) l
      (List.range (dw e 10 % 256 + 1)).any (fun i => decide (u.nf ns 192 64 < leAt d (16 * i + 8) 8 + leAt d (16 * i + 4) 4)) = false →
      exec (.nvmeDatasetManagement f q) s = .next (if bitOf (dw e 11) 2 then u.stoSubmit { c 9 with slba := 0, nlb := 0, payload := d }
        else u.nvmeDone f q cid 0 0 0 0))) ∧
  (∀ (f n : Nat) (r : BlkReq) (s : State),
    let u := s.blkTook f n r
    let len := (r.room.map (·.len)).sum
    (∀ ns lba k, s.BlkAt f n 0 r → u.blkRange f r.sector (len / 512) = some (ns, lba, k) → len % 512 = 0 → k ≠ 0 → u.noKey ns = false →
      exec (.virtioBlkIn f n) s = .next (u.stoSubmit (u.blkCmd f n r 2 ns lba k))) ∧
    (s.BlkAt f n 0 r → u.blkRange f r.sector (len / 512) = none →
      exec (.virtioBlkIn f n) s = .next ((u.err R.STO_TENANT_ERR_CNT).blkDone f n r 1 0)) ∧
    (∀ ns lba k d, s.BlkAt f n 1 r → u.blkRange f r.sector (r.data.length / 512) = some (ns, lba, k) → r.data.length % 512 = 0 → k ≠ 0 →
      u.noKey ns = false → (u.nsFmt ns).writeAll (u.blkCmd f n r 1 ns lba k) 0 k r.data [] = (0, d) →
      exec (.virtioBlkOut f n) s = .next (u.stoSubmit { u.blkCmd f n r 1 ns lba k with payload := d })) ∧
    (∀ ns x, s.BlkAt f n 4 r → u.blkRange f 0 0 = some (ns, x) → exec (.virtioBlkFlush f n) s = .next (u.stoSubmit (u.blkCmd f n r 0 ns 0 0))) ∧
    (s.BlkAt f n 8 r → exec (.virtioBlkGetId f n) s =
      .next ((u.vWrite (u.attOf f) r.room ((List.range 20).map (Config.stoByte 4 f))).blkDone f n r 0 (min 20 len))) ∧
    (∀ x ns lba k, s.BlkAt f n 11 r → blkRanges r.data = [x] → u.blkRange f x.1 x.2 = some (ns, lba, k) → exec (.virtioBlkDiscard f n) s =
      .next (u.stoSubmit { u.blkCmd f n r 9 ns 0 0 with payload := leBytes 0 4 ++ leBytes k 4 ++ leBytes lba 8 })) ∧
    (∀ x ns lba k, s.BlkAt f n 13 r → blkRanges r.data = [x] → u.blkRange f x.1 x.2 = some (ns, lba, k) → k ≠ 0 →
      exec (.virtioBlkWriteZeroes f n) s = .next (u.stoSubmit (u.blkCmd f n r 8 ns lba k))) ∧
    (s.blkNext f n = some r → r.type ∉ [0, 1, 4, 8, 11, 13] → exec (.virtioBlkUnsupported f n) s = .next (u.blkDone f n r 2 0)))

/-- The first attempt that waits on a connection that is up goes out under a new tag while fewer than QUEUE_SIZE - 1 are outstanding. A completion frees its tag; of a command that is gone it counts as an orphan; with a bad
status it ends the command with that status. A timeout counts and reissues. An ICResp that fits makes the connection ready; the Connect response of an I/O connection makes it up; Keep Alive goes out under a tag when none is outstanding. A retransmission
timer with retries left sends again, else the connection is lost; an acknowledgement timeout of a queue pair likewise. A CNP raises alpha; a packet with a bad ICRC counts; a segment out of order is acknowledged only. -/
def Obligations.BackEnd : Prop :=
  (∀ (k : Nat) (c : StoCmd) (l : List StoCmd) (s : State), s.waitingOn k = c :: l → (s.stoConn k).st = .up →
    let x := s.stoConn k
    (x.tags.length + 1 < s.pf x.path 272 16 → exec (.backendIssue k) s = .next (((s.setConn k { x with
      tags := x.tags ++ [{ tag := x.newTag, cmd := c.id, attempt := c.attempt }] }).updCmd { c with place := .issued k x.newTag }).sendCmd k x.newTag c)) ∧
    (s.pf x.path 272 16 ≤ x.tags.length + 1 → exec (.backendIssue k) s = .next s)) ∧
  (∀ (k : Nat) (e : List Byte) (s : State), (s.stoConn k).cqe k = some e → (s.stoConn k).st = .up → (s.stoConn k).aliveTag = none →
    let x := s.stoConn k
    let tag := leAt e 12 2
    let st := leAt e 14 2
    let u := s.setConn k { x with inbox := x.inbox.drop 1, tags := x.tags.filter (fun t => t.tag ≠ tag), aliveTag := none }
    (s.tagCmd k tag = none → exec (.backendCompletion k) s = .next (u.err R.STO_ORPHAN_CNT)) ∧
    (∀ c, s.tagCmd k tag = some c → st / 2 = 0 → c.op ≠ 2 → exec (.backendCompletion k) s = .next (u.stoGood c)) ∧
    (∀ c, s.tagCmd k tag = some c → st / 2 ≠ 0 → exec (.backendCompletion k) s =
      .next ((u.stoFault c true).cmdDone c (bitsOf st 9 3) (bitsOf st 1 8) (bitsOf st 15 1) 0))) ∧
  (∀ (id k : Nat) (c : StoCmd) (s : State), s.sto.cmds.find? (fun c => c.id == id) = some c →
    (∀ t, c.place = .issued k t → exec (.attemptTimeout id) s = .next ((s.err R.STO_TIMEOUT_CNT).reissue c false
      (if roceConn k then (s.qp (k - 65536)).retries else (s.stoConn k).retries)) ∧ exec (.issueWaitTimeout id) s = .next s) ∧
    (c.place = .waiting k → exec (.issueWaitTimeout id) s = .next ((s.err R.STO_TIMEOUT_CNT).reissue c false 0) ∧ exec (.attemptTimeout id) s = .next s)) ∧
  (∀ (k : Nat) (b : List Byte) (l : List (List Byte)) (s : State), (s.stoConn k).inbox = b :: l → (s.stoConn k).st = .icreq → b.getD 0 0 = 1 →
    let x := s.stoConn k
    let dg := (b.getD 11 0).toNat
    leAt b 8 2 = 0 → (b.getD 10 0).toNat ≤ 31 → dg &&& s.pf x.path 3 2 = dg → 4096 ≤ leAt b 12 4 →
    exec (.icrespRx k) s = .next (((s.setConn k { x with inbox := l }).setConn k { x with
      inbox := l, st := .ready, cpda := (b.getD 10 0).toNat, hdgst := bitOf dg 0, ddgst := bitOf dg 1, maxData := leAt b 12 4 }).tryConnect k)) ∧
  (∀ (k : Nat) (e : List Byte) (s : State), (s.stoConn k).cqe k = some e → (s.stoConn k).st = .connecting →
    let x := s.stoConn k
    let u := s.setConn k { x with inbox := x.inbox.drop 1 }
    (leAt e 14 2 / 2 ≠ 0 → exec (.fabricsConnectResponse k) s =
      .next (((u.setConn k { u.stoConn k with st := .ready, failed := true }).setPathUp x.path false).raise F.STO_INT_STATUS_PATH_DOWN)) ∧
    let v := u.setConn k { u.stoConn k with st := .up, failed := false }
    (leAt e 14 2 / 2 = 0 → x.num ≠ 0 → (v.connsOf x.path).all (fun c => !(v.stoConn c).failed) = true →
      exec (.fabricsConnectResponse k) s = .next (v.setPathUp x.path true))) ∧
  (∀ (p : Nat) (s : State), s.pf p 0 1 = 1 → exec (.fabricsConnectRetry p) s = .next (s.each (s.connsOf p) (fun t k =>
    if (t.stoConn k).failed then
      let u := t.setConn k { t.stoConn k with failed := false }
      if (t.stoConn k).st = .down then u.connOpen k else u.tryConnect k
    else t))) ∧
  (∀ (p k : Nat) (l : List Nat) (s : State), s.pf p 0 1 = 1 → s.connsOf p = k :: l → (s.stoConn k).st = .up → s.pf p 352 32 ≠ 0 →
    (s.stoConn k).aliveTag = none → exec (.keepAliveTimer p) s = .next ((s.setConn k { s.stoConn k with
      aliveTag := some (s.stoConn k).newTag }).capsule k (sqe 0x18 (s.stoConn k).newTag 0 (List.replicate 16 0) []) [])) ∧
  (∀ (k : Nat) (s : State), roceConn k = false → (s.stoConn k).st = .up → (s.stoConn k).unacked ≠ [] →
    ((s.stoConn k).retries < s.rd F.STO_TCP_CFG_RETRIES → exec (.tcpRtoExpiry k) s = .next ((s.setConn k { s.stoConn k with
      retries := (s.stoConn k).retries + 1 }).tcpSeg k (((s.stoConn k).unacked.head?.map (·.2)).getD []))) ∧
    (s.rd F.STO_TCP_CFG_RETRIES ≤ (s.stoConn k).retries → exec (.tcpRtoExpiry k) s = .next (s.connLost k))) ∧
  (∀ (q : Nat) (s : State), (s.qp q).unacked ≠ [] →
    ((s.qp q).retries < (s.qp q).retryCnt → exec (.roceAckTimeout q) s = .next ((s.setQp q { s.qp q with retries := (s.qp q).retries + 1 }).goBack q)) ∧
    ((s.qp q).retryCnt ≤ (s.qp q).retries → exec (.roceAckTimeout q) s = .next (s.qpLost q))) ∧
  (∀ (s u : State) (p : Pkt), s.stoTake 1 (fun p => !(tcpParse p.data).1.isEmpty) = (some p, u) →
    let x := (u.stoConn p.stoIndex).acked (tcpParse p.data).2.2.1
    (x.st = .down → exec .nvmeTcpPduRx s = .next u) ∧
    (x.st = .up → (tcpParse p.data).2.1 ≠ x.rcv → exec .nvmeTcpPduRx s = .next ((u.setConn p.stoIndex x).tcpSeg p.stoIndex [])) ∧
    (x.st = .up → (tcpParse p.data).2.1 = x.rcv →
      let y := { x with rcv := (x.rcv + (tcpParse p.data).1.length) % 2 ^ 32, rx := x.rx ++ (tcpParse p.data).1 }
      exec .nvmeTcpPduRx s = .next (((u.setConn p.stoIndex y).tcpSeg p.stoIndex []).pdus p.stoIndex y.rx.length)))

/-- A RoCE packet with a bad ICRC counts and is dropped; a CNP counts, raises alpha and starts the recovery anew; a period without one lowers alpha and raises the rate. CTRL_CREATE makes a controller of a created function that has none; CTRL_DESTROY
removes one that has no namespace and no queue; NS_DESTROY a namespace without commands, PATH_DESTROY a path that no namespace and no other path uses; a thing that is not there is a bad field. A read of a storage context fills the data registers, or sets ERR beyond its table; a new STO_TCP_CFG renews the timeouts. -/
def Obligations.RoceAndStorageAdmin : Prop :=
  (∀ (s u : State) (p : Pkt) (o b stop : Nat) (v6 : Bool), bthAt p.data = some (o, v6, b, stop) →
    s.stoTake 2 (fun p => (match bthAt p.data with | some (_, _, b, _) => (p.data.getD b 0).toNat | none => 0) ≠ 0x81) = (some p, u) →
    let l := p.data.take stop
    (leNat (l.drop (stop - 4)) ≠ (Config.icrc ((l.take (stop - 4)).drop o)).toNat → exec .rocePacketRx s = .next (u.err R.STO_ICRC_CNT)) ∧
    (leNat (l.drop (stop - 4)) = (Config.icrc ((l.take (stop - 4)).drop o)).toNat → ecn l o v6 ≠ 3 → (u.qp p.stoIndex).error = false →
      (u.qp p.stoIndex).ud = false → (p.data.getD b 0).toNat = 17 →
      exec .rocePacketRx s = .next (u.qpAcked p.stoIndex (beNat ((l.drop (b + 9)).take 3))
        ((((l.take (stop - 4 - (l.getD (b + 1) 0).toNat / 16 % 4)).drop (b + 12)).getD 0 0).toNat)))) ∧
  (∀ (s u : State) (p : Pkt), s.stoTake 2 (fun p => match bthAt p.data with | some (_, _, b, _) => p.data.getD b 0 == 0x81 | none => false) = (some p, u) →
    let v := u.stat R.STO_CNP_RX_CNT
    let x := u.qp p.stoIndex
    v.fst.drip - x.lastCut < v.rd F.STO_RC_CFG_CUT_DRIPS → exec .cnpRx s =
      .next (v.setQp p.stoIndex { x with alpha := x.alpha + (1024 - x.alpha) / 16, lastCnp := v.fst.drip })) ∧
  (∀ (q : Nat) (s : State), (s.qp q).valid = true → (s.qp q).lastCnp + s.rd F.STO_RC_CFG_INC_DRIPS ≤ s.fst.drip → (s.qp q).stage < 5 →
    exec (.rateIncreasePeriod q) s = .next (s.setQp q { s.qp q with
      alpha := (s.qp q).alpha - (s.qp q).alpha / 16, lastCnp := s.fst.drip, stage := (s.qp q).stage + 1, rate := ((s.qp q).rate + (s.qp q).target) / 2 })) ∧
  (∀ (f : Nat) (s : State) (c : AdmCmd), s.Checked f 0x38 true [0x107FF] (fun _ => true) c →
    let n := bitsOf (c.word 8) 0 11
    ((s.func c.target).created = false → exec (.ctrlCreate f) s = .next (s.admDone f stBadField)) ∧
    (isMgmt c.target = false → (s.func c.target).created = true → s.hasCtrl n = false → s.ctrlOf c.target = none →
      exec (.ctrlCreate f) s = .next ((s.setCtrl n { kind := bitsOf (c.word 8) 16 1, owner := c.target }).admDone f stSuccess))) ∧
  (∀ (f : Nat) (s : State) (c : AdmCmd), s.Checked f 0x39 true [0x7FF] (fun _ => true) c →
    let n := bitsOf (c.word 8) 0 11
    (Map.get s.sto.ctrls none n = none → exec (.ctrlDestroy f) s = .next (s.admDone f stBadField)) ∧
    (∀ x, Map.get s.sto.ctrls none n = some x → s.sto.ns.any (fun e => bitOf e.2 0 && bitsOf e.2 64 11 == n) = false →
      (s.func x.owner).queues.any (fun e => decide (7 * 4096 ≤ e.1)) = false →
      let u : State := { s with
        sto := { s.sto with ctrls := Map.set s.sto.ctrls none n none } }
      exec (.ctrlDestroy f) s = .next (u.admDone f stSuccess))) ∧
  (∀ (f : Nat) (s : State) (c : AdmCmd) (k : Ctrl), s.Checked f 0x3A true [0x3FFF, 2 ^ 64 - 1] (fun _ => true) c →
    let n := bitsOf (c.word 8) 0 14
    let x := leNat (s.hostRead (s.attOf f) (c.word 0x10) 64)
    Map.get s.sto.ctrls none (bitsOf x 64 11) = some k → onlyBits x nsMasks = true → bitOf x 0 = true → k.owner = bitsOf x 16 12 →
    bitsOf x 16 12 ≠ 0xFFF → k.kind = 0 → s.pf (bitsOf x 96 12) 0 1 = 1 → s.nf n 0 1 = 0 → s.nsOf (bitsOf x 64 11) (bitsOf x 80 5 + 1) = none →
    let u : State := { s with
      sto := { s.sto with
        ns := Map.set s.sto.ns 0 n (putBits (putBits x 2 1 0) 28 12 (s.func (bitsOf x 16 12)).gen), nsKeys := Map.set s.sto.nsKeys 0 n 0 } }
    exec (.nsCreate f) s = .next (u.admDone f stSuccess)) ∧
  (∀ (f : Nat) (s : State) (c : AdmCmd), s.Checked f 0x3B true [0x3FFF] (fun _ => true) c →
    let n := bitsOf (c.word 8) 0 14
    (s.nf n 0 1 = 0 → exec (.nsDestroy f) s = .next (s.admDone f stBadField)) ∧
    (s.nf n 0 1 = 1 → s.sto.cmds.any (fun x => x.ns == n) = false →
      let u : State := { s with
        sto := { s.sto with ns := Map.erase s.sto.ns n, nsKeys := Map.erase s.sto.nsKeys n } }
      exec (.nsDestroy f) s = .next (u.admDone f stSuccess))) ∧
  (∀ (f : Nat) (s : State) (c : AdmCmd), s.Checked f 0x3C true [0xFFF, 2 ^ 64 - 1] (fun _ => true) c →
    let p := bitsOf (c.word 8) 0 12
    let x := leNat (s.hostRead (s.attOf f) (c.word 0x10) 64)
    (bitsOf x 16 7 = 0 → exec (.pathCreate f) s = .next (s.admDone f stBadField)) ∧
    (onlyBits x pathMasks = true → bitOf x 0 = true → bitOf x 1 = false → 0 < bitsOf x 16 7 → bitsOf x 16 7 ≤ 64 → 2 ≤ bitsOf x 272 16 →
      (s.pf p 0 1 = 1 → exec (.pathCreate f) s = .next (s.admDone f stBusy)) ∧
      (s.pf p 0 1 = 0 → (s.newConns false (bitsOf x 16 7 + 1)).length = bitsOf x 16 7 + 1 →
        let l := s.newConns false (bitsOf x 16 7 + 1)
        let u : State := { s with
          sto := { s.sto with
            paths := Map.set s.sto.paths 0 p (putBits (putBits (putBits x 2 1 0) 96 32 0) 320 16 0), pathConns := Map.set s.sto.pathConns [] p l } }
        let v := (u.setEff p).each l.zipIdx (fun t e => (t.setConn e.1 { path := p, num := e.2 }).connOpen e.1)
        exec (.pathCreate f) s = .next ((v.tryConnect (l.getD 0 0)).admDone f stSuccess)))) ∧
  (∀ (f : Nat) (s : State) (c : AdmCmd), s.Checked f 0x3D true [0xFFF] (fun _ => true) c →
    let p := bitsOf (c.word 8) 0 12
    (s.pf p 0 1 = 0 → exec (.pathDestroy f) s = .next (s.admDone f stBadField)) ∧
    (s.pf p 0 1 = 1 → s.sto.ns.any (fun e => bitOf e.2 0 && bitsOf e.2 96 12 == p) = true → exec (.pathDestroy f) s = .next (s.admDone f stBusy)) ∧
    (s.pf p 0 1 = 1 → s.sto.ns.any (fun e => bitOf e.2 0 && bitsOf e.2 96 12 == p) = false →
      s.sto.paths.any (fun e => e.1 != p && bitOf e.2 44 && bitsOf e.2 32 12 == p) = false →
      let w := s.setPathUp p false
      let u := w.each (w.connsOf p) (fun t k => { t with
        sto := { t.sto with
          conns := Map.erase t.sto.conns k, qps := if roceConn k then Map.erase t.sto.qps (k - 65536) else t.sto.qps } })
      let v : State := { u with
        sto := { u.sto with paths := Map.erase u.sto.paths p, pathConns := Map.erase u.sto.pathConns p } }
      exec (.pathDestroy f) s = .next (v.admDone f stSuccess))) ∧
  (∀ (a i p : Nat) (s : State),
    let u := fun t => ((s.wr (F.STO_CTX_CTRL_TABLE a) t).wr (F.STO_CTX_CTRL_INDEX a) i).wr (F.STO_CTX_CTRL_PART a) p
    (16384 ≤ i → exec (.stoContextRead a 0 i p) s = .next ((u 0).wrB (F.STO_CTX_CTRL_ERR a) true)) ∧
    (i < 4096 → exec (.stoContextRead a 1 i p) s = .next (((u 1).wrB (F.STO_CTX_CTRL_ERR a) false).each (List.range 4) (fun t k =>
      t.setReg (R.STO_CTX_DATA a k) (BitVec.ofNat 64 (Map.get s.sto.paths 0 i / 2 ^ (256 * p + 64 * k))))))) ∧
  (∀ (v : Word) (s : State), exec (.stoTcpCfgWrite v) s =
    .next ((s.setReg R.STO_TCP_CFG (BitVec.ofNat 64 (v.toNat % 2 ^ 36))).each (s.sto.paths.map (·.1)) (fun t p => t.setEff p)))

/-- A present attachment out of reset with its clock may train: the link comes up with the rate, width and FLIT mode that both ends have, and a retrain of a link that is up is counted. A link that leaves DL_Active resets the functions behind it; PERST_N asserted does the same once boot has made the interface ready, and released
lets the link train. Clearing Bus Master Enable acts as R456 says; setting it writes the held entries, tells of lost events and sends pending interrupts. FLR resets the function at once and ends, counted, with its outstanding work gone; D3hot clears BME. Unmasking a vector sends its pending message. -/
def Obligations.PcieFunctions : Prop :=
  (∀ (a r w : Nat) (fl rv : Bool) (s : State), s.mayTrain a = true →
    (s.rdB (F.HIF_LINK_STATUS_DL_UP a) = false → exec (.pcieLinkUp a r w fl rv) s = .next (s.train a r w fl rv) ∧ exec (.retrainLink a r w fl rv) s = .next s) ∧
    (s.rdB (F.HIF_LINK_STATUS_DL_UP a) = true → exec (.retrainLink a r w fl rv) s = .next ((s.stat (R.HIF_RECOVERY_CNT a)).train a r w fl rv) ∧
      exec (.pcieLinkUp a r w fl rv) s = .next s)) ∧
  (∀ (a r w : Nat) (fl rv : Bool) (s : State), s.mayTrain a = false → exec (.pcieLinkUp a r w fl rv) s = .next s) ∧
  (∀ (a : Nat) (s : State), (s.rdB (F.HIF_LINK_STATUS_DL_UP a) = true → exec (.pcieLinkDown a) s = .next (s.attDown a)) ∧
    (s.rdB (F.HIF_LINK_STATUS_DL_UP a) = false → exec (.pcieLinkDown a) s = .next s)) ∧
  (∀ (a : Nat) (s : State), let u := s.updLink a (fun x => { x with perstN := false })
    ((s.link a).perstN = true → s.present a = true → s.rdB F.GLB_BOOT_HIF_READY = true → exec (.perstAssert a) s = .next (u.attDown a)) ∧
    ((s.link a).perstN = false → exec (.perstAssert a) s = .next u) ∧
    exec (.perstRelease a) s = .next (s.updLink a (fun x => { x with perstN := true }))) ∧
  (∀ (f : Nat) (s : State), ((s.func f).cfg.bme = true → exec (.bmeClear f) s =
      .next ((s.updFunc f (fun x => { x with cfg := { x.cfg with bme := false } })).bmeOff f)) ∧
    ((s.func f).cfg.bme = false → exec (.bmeClear f) s = .next s) ∧
    exec (.bmeSet f) s = .next (((s.updFunc f (fun x => { x with cfg := { x.cfg with bme := true } })).heldFlush f).pendSend f)) ∧
  (∀ (f : Nat) (s : State), exec (.flrInitiate f) s = .next (s.resetFunc f)) ∧
  (∀ (f : Nat) (s : State),
    let u := (((s.cryReset f).stoReset f).updFunc f (fun x => { x with
      resetting := false, resetCmd := none, cfg := { x.cfg with transPending := false } }))
    let v := u.stat (R.HIF_FLR_CNT (u.attOf f))
    ((s.func f).resetting = true → (s.func f).resetCmd = none → exec (.flrComplete f) s = .next v) ∧
    (∀ i, (s.func f).resetting = true → (s.func f).resetCmd = some i → exec (.flrComplete f) s = .next ((v.returnAll f).admDone i stSuccess)) ∧
    ((s.func f).resetting = false → exec (.flrComplete f) s = .next s)) ∧
  (∀ (f : Nat) (s : State), let u := (s.bmeOff f).updFunc f (fun x => { x with cfg := { x.cfg with d3hot := true } })
    u.rdB (F.HIF_LINK_STATUS_DL_UP (u.attOf f)) = false → exec (.d3hotEntry f) s = .next u) ∧
  (∀ (f v : Nat) (s : State), exec (.msixVectorUnmask f (some v)) s =
      .next ((s.updFunc f (fun x => { x with msix := Map.upd x.msix {} v (fun e => { e with masked := false }) })).pbaSend f v) ∧
    exec (.msixVectorUnmask f none) s = .next ((s.updFunc f (fun x => { x with cfg := { x.cfg with funcMask := false } })).pendSend f))

/-- A waiting read goes out within the bounds of R448; its completion ends it, and one that finds no read is late or unexpected. A timeout quarantines the tag and retries. A bad transaction sets the error bit of its kind. A failed IDE check ends the secure stream. A peer
request through a live window that lets it reads or writes HBM; another is logged, counted and raised. A commit checks the shadows and the swap makes them live. A VF that is unlocked locks with a fresh nonce, starts with it, and stops into reset. -/
def Obligations.ReadsWindowsAndTdisp : Prop :=
  (∀ (a : Nat) (r : Read) (s : State), s.readWait.find? (fun r => r.att == a) = some r →
    (s.readFits r = true → s.mayRequest r.func = true → ∃ u : State, u = { s with
      readWait := s.readWait.erase r } ∧ exec (.hostReadIssue a) s = .next (u.issue r)) ∧
    (s.readFits r = false → exec (.hostReadIssue a) s = .next s)) ∧
  (∀ (a tag st : Nat) (r : Read) (s : State), s.reads.find? (fun r => r.att == a && r.tag == tag) = some r →
    exec (.readCompletionRx a tag st) s = .next (s.readDone r st) ∧
    let u : State := { s.dropRead r with
      quar := s.quar ++ [{ att := a, tag := tag }] }
    (r.gen ≠ (s.func r.func).gen → exec (.completionTimeout a tag) s = .next u) ∧
    (r.gen = (s.func r.func).gen → r.discard = false → exec (.completionTimeout a tag) s = .next (u.readAgain r 1))) ∧
  (∀ (a tag st : Nat) (s : State), s.reads.find? (fun r => r.att == a && r.tag == tag) = none → exec (.completionTimeout a tag) s = .next s ∧
    exec (.readCompletionRx a tag st) s = .next (if s.quar.any (fun q => q.att == a && q.tag == tag) then s.stat (R.HIF_LATE_CPL_CNT a)
      else s.updFunc (2 * a) (fun x => { x with aer := { x.aer with unexpCpl := true } }))) ∧
  (∀ (a tag : Nat) (s : State), exec (.tagQuarantineEnd a tag) s = .next { s with quar := s.quar.filter (fun q => !(q.att == a && q.tag == tag)) }) ∧
  (∀ (f : Nat) (rd : Bool) (s : State), exec (.malformedTlp f 0 rd) s =
      .next ((s.aerSet f (fun x => { x with malformed := true })).err (R.HIF_MALFORMED_CNT (s.attOf f))) ∧
    exec (.malformedTlp f 1 true) s = .next ((s.aerSet f (fun x => { x with unsupported := true })).emit (.unsupported (s.attOf f))) ∧
    exec (.malformedTlp f 3 rd) s = .next (s.aerSet f (fun x => { x with poisoned := true }))) ∧
  (∀ (a k : Nat) (s : State), s.rdB (F.HIF_IDE_STATUS_SECURE a k) = false → exec (.ideCheckFail a k) s = .next s) ∧
  (∀ (a k : Nat) (s : State), s.rdB (F.HIF_IDE_STATUS_SECURE a k) = true →
    let u := ((((s.wrB (F.HIF_IDE_STATUS_SECURE a k) false).aerSet (2 * a) (fun x => { x with ideFail := true })).err (R.HIF_IDE_FAIL_CNT a)).raiseBit F.HIF_INT_STATUS_IDE_FAIL a)
    exec (.ideCheckFail a k) s = .next (u.each ((u.funcsOf a).filter (fun f => isVf f && (u.func f).tdiStream == k &&
      ((u.func f).tdi == .locked || (u.func f).tdi == .run))) (fun t f =>
        let t := (t.queuesOff f .stopped).tdiError f
        { t with reads := t.reads.map (fun (r : Read) => if r.func = f then { r with discard := true } else r) }))) ∧
  (∀ (a x len rid : Nat) (d : List Byte) (s : State), s.barOpen (2 * a) = true →
    let n := x / 2 ^ 30 % 16
    let o := x % 2 ^ 30
    let addr := s.rd (F.HIF_WIN_LIVE_TARGET_BASE a n) * 2 ^ 21 + o
    (s.winReason a n o d.length rid true = 0 → exec (.peerWindowRequest a x len rid (some d)) s = .next { s with hbm := Mem.putBytes s.hbm addr d }) ∧
    (s.winReason a n o len rid false = 0 → exec (.peerWindowRequest a x len rid none) s = .next (s.emit (.peerData a (Mem.bytes s.hbm addr len)))) ∧
    (s.winReason a n o d.length rid true ≠ 0 → exec (.peerWindowRequest a x len rid (some d)) s =
      .next (((s.setReg (R.HIF_WIN_LOG a) (BitVec.ofNat 64 (rid % 2 ^ 16 + n * 2 ^ 16 + b2n true * 2 ^ 20 + s.winReason a n o d.length rid true * 2 ^ 21))).err
        (R.HIF_WIN_MISS_CNT a)).raiseBit F.HIF_INT_STATUS_WIN_MISS a))) ∧
  (∀ (a m : Nat) (s : State), s.rdB (F.HIF_WIN_COMMIT_BUSY a) = false →
    (((List.range 16).filter (fun n => bitOf m n)).find? (fun n => !s.winInside a n) = none → exec (.winCommit a m) s =
      .next (((s.wrB (F.HIF_WIN_COMMIT_ERR a) false).wrB (F.HIF_WIN_COMMIT_BUSY a) true).updLink a (fun x => { x with winBusy := true, winMask := m % 2 ^ 16 }))) ∧
    (∀ n, ((List.range 16).filter (fun n => bitOf m n)).find? (fun n => !s.winInside a n) = some n → exec (.winCommit a m) s =
      .next ((s.wrB (F.HIF_WIN_COMMIT_ERR a) true).wr (F.HIF_WIN_COMMIT_ERR_WIN a) n))) ∧
  (∀ (a : Nat) (s : State), (s.link a).winBusy = true → exec (.winSwap a) s =
    .next (((s.each ((List.range 16).filter (fun n => bitOf (s.link a).winMask n)) (fun t n =>
      ((t.setReg (R.HIF_WIN_LIVE_CFG a n) (t.reg (R.HIF_WIN_CFG a n))).setReg (R.HIF_WIN_LIVE_TARGET a n)
        (t.reg (R.HIF_WIN_TARGET a n))).setReg (R.HIF_WIN_LIVE_SRC a n) (t.reg (R.HIF_WIN_SRC a n)))).wrB (F.HIF_WIN_COMMIT_BUSY a) false).updLink a
        (fun y => { y with winBusy := false, winMask := 0 }))) ∧
  (∀ (a : Nat) (s : State), s.peerBusy a = false → exec (.atsInvalidateRequest a) s = .next (s.emit (.atsDone a))) ∧
  (∀ (c n f k : Nat) (x : SpdmSess) (s : State), s.InSess c n x →
    (isVf f = true → (s.func f).created = true → (s.func f).tdi = .unlocked → 1 ≤ k → k ≤ 8 → s.rdB (F.HIF_IDE_STATUS_SECURE (s.attOf f) k) = true →
      exec (.lockInterfaceRequest c n f k true) s = .next ((s.fresh.2.updFunc f (fun x => { x with
        tdi := .locked, tdiNonce := s.fresh.1, tdiStream := k })).vendor c [0x03, f, s.fresh.1])) ∧
    (∀ nonce, (s.func f).tdi = .locked → nonce = (s.func f).tdiNonce →
      exec (.startInterfaceRequest c n f nonce true) s = .next ((s.updFunc f (fun x => { x with tdi := .run })).vendor c [0x06, f])) ∧
    (∀ nonce, (s.func f).tdi = .unlocked → exec (.startInterfaceRequest c n f nonce true) s = .next (s.tdiRefuse c) ∧
      exec (.stopInterfaceRequest c n f true) s = .next (s.tdiRefuse c)) ∧
    ((s.func f).tdi = .run → exec (.stopInterfaceRequest c n f true) s =
      .next (((s.updFunc f (fun x => { x with tdi := .unlocked, tdiNonce := 0, tdiStream := 0 })).resetFunc f).vendor c [0x07, f]) ∧
      exec (.getDeviceInterfaceReport c n f true) s = .next (s.vendor c [0x04, f, 1, s.vfBar f, 65536, 1])))

/-- A doorbell of a created function whose BARs are open to its host and of its generation, whose ring is there and whose index is in range, moves that ring's index and does what its kind says; on a function that is not created or with an index out of
range it counts as bad, with another generation as stale. A SETUP item is kept until the admin rings are enabled; SETUP item 17 enables them, and the first completion entry tells the function its identity, or counts and raises SETUP_ERR. -/
def Obligations.Doorbells : Prop :=
  (∀ (f q i gen hi : Nat) (s : State), s.barOpen f = true → (s.func f).created = false →
    (∀ c ∈ [Instr.dbTxQueue f q i gen hi, .dbRxQueue f q i gen hi, .dbVirtioNet f q i gen hi, .dbVirtioBlk f q i gen hi, .dbCompletionRing f q i gen hi,
      .dbEventRing f q i gen hi, .dbAdminSlot f q i gen hi, .dbAdminCompletion f q i gen hi, .setupItem f q i gen hi, .setupEnable f i gen hi,
      .dbNvmeSqTail f q i gen hi, .dbNvmeCqHead f q i gen hi], exec c s = .next (s.err R.QMG_BAD_DB_CNT))) ∧
  (∀ (f q i gen hi : Nat) (s : State), s.barOpen f = true → (s.func f).created = true → gen ≠ (s.func f).gen →
    (∀ c ∈ [Instr.dbTxQueue f q i gen hi, .dbRxQueue f q i gen hi, .dbVirtioNet f q i gen hi, .dbVirtioBlk f q i gen hi, .dbCompletionRing f q i gen hi,
      .dbEventRing f q i gen hi, .dbAdminSlot f q i gen hi, .dbAdminCompletion f q i gen hi], exec c s = .next (s.err R.QMG_STALE_DB_CNT))) ∧
  (∀ (f q i gen : Nat) (s : State), s.Rings f gen →
    let x := s.func f
    let r := Map.get x.cqs {} q
    (s.hasQue f 0 q = true → (s.que f 0 q).st ≠ .disabled → (s.que f 0 q).packed = false → prodOk i (s.que f 0 q).ci (s.que f 0 q).log2 = true →
      exec (.dbTxQueue f q i gen 0) s = .next (s.updQue f 0 q (fun y => { y with pi := i }))) ∧
    (s.hasQue f 1 q = true → (s.que f 1 q).st ≠ .disabled → (s.que f 1 q).packed = false → prodOk i (s.que f 1 q).ci (s.que f 1 q).log2 = true →
      exec (.dbRxQueue f q i gen 0) s = .next ((s.updQue f 1 q (fun y => { y with pi := i })).askEntries f 1 q)) ∧
    (s.hasQue f 6 q = true → (s.que f 6 q).st ≠ .disabled → (s.que f 6 q).packed = false → prodOk i (s.que f 6 q).ci (s.que f 6 q).log2 = true →
      exec (.dbVirtioNet f q i gen 0) s = .next ((s.updQue f 6 q (fun y => { y with pi := i })).askEntries f 6 q)) ∧
    (s.hasQue f 7 q = true → (s.que f 7 q).st ≠ .disabled → (s.que f 7 q).packed = false → prodOk i (s.que f 7 q).ci (s.que f 7 q).log2 = true →
      exec (.dbVirtioBlk f q i gen 0) s = .next ((s.updQue f 7 q (fun y => { y with pi := i })).askEntries f 7 q)) ∧
    (s.hasQue f 0 q = true → (s.que f 0 q).packed = false → prodOk i (s.que f 0 q).ci (s.que f 0 q).log2 = false →
      exec (.dbTxQueue f q i gen 0) s = .next (s.err R.QMG_BAD_DB_CNT)) ∧
    (x.cqs.any (fun e => e.1 == q) = true → freeOk r i = true → exec (.dbCompletionRing f q i gen 0) s =
      .next ((s.updFunc f (fun x => { x with cqs := Map.upd x.cqs {} q (fun r => r.returned i) })).clearInt f r.mod.vec)) ∧
    (x.evt.on = true → freeOk x.evt i = true → exec (.dbEventRing f 0 i gen 0) s =
      .next (((s.updFunc f (fun x => { x with evt := x.evt.returned i })).clearInt f x.evt.mod.vec).eventLost f)) ∧
    (x.adminEn = true → prodOk i x.adm.ci x.adm.log2 = true → exec (.dbAdminSlot f 0 i gen 0) s =
      .next (s.updFunc f (fun x => { x with adm := { x.adm with pi := i }, slotStop := false }))) ∧
    (x.admCpl.on = true → freeOk x.admCpl i = true → exec (.dbAdminCompletion f 0 i gen 0) s =
      .next ((s.updFunc f (fun x => { x with admCpl := x.admCpl.returned i })).clearInt f x.admCpl.mod.vec)) ∧
    (s.hasQue f 8 q = true → (s.que f 8 q).st ≠ .disabled → i < (s.que f 8 q).size → exec (.dbNvmeSqTail f q i gen 0) s =
      .next ((s.updQue f 8 q (fun y => { y with pi := i })).askEntries f 8 q)) ∧
    (s.hasQue f 9 q = true → let y := s.que f 9 q
      i < y.size → (i + y.size - y.cqHead) % max 1 y.size ≤ (y.used + y.size - y.cqHead) % max 1 y.size → exec (.dbNvmeCqHead f q i gen 0) s =
        .next (((s.updQue f 9 q (fun z => { z with cqHead := i })).clearInt f y.vec).cqFlush f q y.size)) ∧
    (s.hasQue f 9 q = true → (s.que f 9 q).size ≤ i → exec (.dbNvmeCqHead f q i gen 0) s =
      .next (((s.err R.QMG_BAD_DB_CNT).err R.STO_TENANT_ERR_CNT).nvmeEvent f 0x10100))) ∧
  (∀ (f item v gen : Nat) (s : State), s.Rings f gen →
    ((s.func f).adminEn = false → item ≤ 16 → exec (.setupItem f item v gen 0) s = .next (s.updFunc f (fun x => { x with setup := Map.set x.setup 0 item v }))) ∧
    ((s.func f).adminEn = true → exec (.setupItem f item v gen 0) s = .next (s.err R.QMG_SETUP_ERR_CNT) ∧
      exec (.setupEnable f v gen 0) s = .next (s.err R.QMG_SETUP_ERR_CNT)) ∧
    ((s.func f).adminEn = false → v % 2 = 1 → (s.func f).setupOk = false → exec (.setupEnable f v gen 0) s = .next ((s.err R.QMG_SETUP_ERR_CNT).raise F.QMG_INT_STATUS_SETUP_ERR)) ∧
    ((s.func f).adminEn = false → (s.func f).setupOk = true →
      let x := s.func f
      let g := fun k => Map.get x.setup 0 k
      let u := s.setFunc f { x with
        adminEn := true, adm := { st := .enabled, base := x.setupBase 0, log2 := g 12 % 32 },
        admCpl := { on := true, base := x.setupBase 4, log2 := g 13 % 32, mod := { vec := g 15 % 2048 } },
        evt := { on := true, base := x.setupBase 8, log2 := g 14 % 32, mod := { vec := g 16 % 2048 } } }
      exec (.setupEnable f 1 gen 0) s = .next (u.admEntry f 0xFFFF (u.identity f).r0 (u.identity f).r1 (u.identity f).r2)))

/-- The next slot of an enabled admin ring becomes the function's current command, or completes as a bad opcode or not permitted; one whose read fails stops the slot ring with a fault entry and QUEUE_STOPPED. IDENTIFY_FUNCTION returns the target's numbers. A verified
FUNCTION_CREATE of a function that is not there takes its allotments and a new generation, or is refused; FUNCTION_DESTROY resets its target. A ring or queue is made where none is, in DISABLED, and destroyed where nothing uses it; QUEUE_ENABLE runs a queue, QUEUE_DISABLE stops it and completes when its reads are gone. -/
def Obligations.FunctionsAndQueues : Prop :=
  (∀ (f : Nat) (s : State) (c : AdmCmd), (s.func f).adminEn = true → s.mayRequest f = true → (s.func f).cur = none → (s.func f).slotStop = false →
    (s.func f).adm.ci ≠ (s.func f).adm.pi → (s.func f).admCpl.room = true → s.held.any (fun h => h.1 == f) = false →
    let x := s.func f
    let i := x.adm.ci % 2 ^ x.adm.log2
    c = { slot := i, bytes := s.hostRead (s.attOf f) (x.adm.base + 128 * i) 128, opRead := 0 } →
    let u := s.setFunc f { x with cur := some c, adm := { x.adm with ci := (x.adm.ci + 1) % 65536 } }
    (cmdM c.op = none → exec (.adminSlotFetch f 0 0) s = .next (u.admDone f stBadOpcode)) ∧
    (cmdM c.op = some false → (isMgmt f = true ∨ c.target = f) → exec (.adminSlotFetch f 0 0) s = .next u) ∧
    (cmdM c.op = some true → isMgmt f = true → exec (.adminSlotFetch f 0 0) s = .next { u with adminOrder := u.adminOrder ++ [f] }) ∧
    (cmdM c.op = some true → isMgmt f = false → exec (.adminSlotFetch f 0 0) s = .next (u.admDone f stNotPermitted)) ∧
    ∀ o, let v := (s.readFailed f 0 true 0 3 0 0 none).updFunc f (fun x => { x with slotStop := true })
      exec (.adminSlotFetch f 2 o) s = .next ((v.raise F.QMG_INT_STATUS_QUEUE_STOPPED).event f 0x0010 0 (4 + 2 * 16) 0 0)) ∧
  (∀ (f : Nat) (s : State) (c : AdmCmd), s.Checked f 0x01 false [] (fun _ => true) c →
    exec (.identifyFunction f) s = .next (s.admDone f stSuccess (s.identity c.target))) ∧
  (∀ (f : Nat) (s t : State) (c : AdmCmd), s.Verified f 0x02 [0x7FF1FFF, 0x1FFFFFFFF, 0x1FFFF]
      (fun c => decide (bitsOf (c.word 8) 0 13 ≤ 4096) && decide (bitsOf (c.word 8) 16 11 ≤ 1024)
        && decide (bitsOf (c.word 16) 0 16 + bitsOf (c.word 16) 16 17 ≤ 65536) && decide (c.word 24 ≤ 65536)) c t →
    let x := t.func c.target
    let qp := bitsOf (c.word 8) 0 13
    let vec := bitsOf (c.word 8) 16 11
    let first := bitsOf (c.word 16) 0 16
    let count := bitsOf (c.word 16) 16 17
    (x.created = true → exec (.functionCreate f) s = .next (t.admDone f stBadField)) ∧
    (x.created = false → isMgmt c.target = false → t.present (t.attOf c.target) = true →
      (65536 < t.taken Func.qpAllot + qp → exec (.functionCreate f) s = .next (t.admDone f stNoResource)) ∧
      (t.taken Func.qpAllot + qp ≤ 65536 → t.taken Func.vecAllot + vec ≤ 16384 → t.taken Func.share + c.word 24 ≤ 65536 →
        t.tmOverlap c.target first count = false → exec (.functionCreate f) s = .next ((t.setFunc c.target { x with
          created := true, gen := nextGen x.gen, qpAllot := qp, vecAllot := vec, vecTable := vec, tmFirst := first, tmCount := count,
          share := c.word 24 }).admDone f stSuccess)))) ∧
  (∀ (f : Nat) (s t : State) (c : AdmCmd), s.Verified f 0x03 [] (fun _ => true) c t →
    (isMgmt c.target = true → exec (.functionDestroy f) s = .next (t.admDone f stBadField)) ∧
    (isMgmt c.target = false → (t.func c.target).created = true → exec (.functionDestroy f) s =
      .next (((t.admWait f).resetFunc c.target).updFunc c.target (fun x => { x with resetCmd := some f })))) ∧
  (∀ (f : Nat) (s : State) (c : AdmCmd), s.Checked f 0x05 false [0x103FF001F0FFF, 0xFFFFFFFFFFFFFFFF]
      (fun c => decide (6 ≤ bitsOf (c.word 8) 16 5) && decide (bitsOf (c.word 8) 16 5 ≤ 16) && c.word 16 % 4096 == 0) c →
    let x := s.func c.target
    let n := bitsOf (c.word 8) 0 12
    x.created = true → bitsOf (c.word 8) 32 10 < x.vecTable → s.frozen c.target = false →
    (x.cqs.any (fun e => e.1 == n) = true → exec (.cqCreate f) s = .next (s.admDone f stBusy)) ∧
    (x.cqs.any (fun e => e.1 == n) = false → x.cqs.length < x.qpAllot → exec (.cqCreate f) s = .next ((s.setFunc c.target { x with
      cqs := Map.set x.cqs {} n { on := true, base := c.word 16, log2 := bitsOf (c.word 8) 16 5, mod := { vec := bitsOf (c.word 8) 32 10, intEn := bitOf (c.word 8) 48 } } }).admDone f stSuccess))) ∧
  (∀ (f : Nat) (s : State) (c : AdmCmd), s.Checked f 0x06 false [0xFFF] (fun _ => true) c →
    let x := s.func c.target
    x.cqs.any (fun e => e.1 == c.word 8) = true → s.frozen c.target = false →
    exec (.cqDestroy f) s = .next (if x.queues.any (fun e => decide (e.1 / 4096 ≤ 1) && e.2.cq == c.word 8) then s.admDone f stBusy
      else (s.setFunc c.target { x with cqs := Map.erase x.cqs (c.word 8) }).admDone f stSuccess)) ∧
  (∀ (f : Nat) (s : State) (c : AdmCmd),
    s.Checked f 0x07 false [0xFFF007FFFFF, 0xFFFFFFFFFFFFFFFF, 0xFFFFFFFFFFFFFFFF, 0xFFFFFFFFFFFFFFFF, 0x7FF, 0xFFFFFFFFFFFFFFFF]
      (fun c => queueShape (bitsOf (c.word 8) 12 4) (bitsOf (c.word 8) 16 5) (c.word 0x10)) c →
    let x := s.func c.target
    let k := bitsOf (c.word 8) 12 4
    let q := bitsOf (c.word 8) 0 12
    s.queueGood c.target c = true → s.frozen c.target = false →
    (s.hasQue c.target k q = true → exec (.queueCreate f) s = .next (s.admDone f stBusy)) ∧
    (s.hasQue c.target k q = false → x.qpUsed < x.qpAllot → k ≠ 8 → exec (.queueCreate f) s = .next ((s.setFunc c.target { x with
      qpUsed := x.qpUsed + 1, queues := Map.set x.queues {} (qKey k q) (newQueue c) }).admDone f stSuccess))) ∧
  (∀ (f : Nat) (s : State) (c : AdmCmd),
    let k := bitsOf (c.word 8) 12 4
    let q := bitsOf (c.word 8) 0 12
    s.hasQue c.target k q = true → k < 8 →
    (s.Checked f 0x08 false [0xFFFF] (fun _ => true) c → s.frozen c.target = false → exec (.queueDestroy f) s =
      .next (if (s.que c.target k q).st ≠ .disabled then s.admDone f stBusy
        else ((s.dropQue c.target k q).updFunc c.target (fun x => { x with qpUsed := x.qpUsed - 1 })).admDone f stSuccess)) ∧
    (s.Checked f 0x09 false [0xFFFF] (fun _ => true) c → (s.func c.target).cfg.master = true → 2 ≤ k → exec (.queueEnable f) s =
      .next (((s.updQue c.target k q (fun y => { y with st := .enabled })).askEntries c.target k q).admDone f stSuccess)) ∧
    (s.Checked f 0x09 false [0xFFFF] (fun _ => true) c → (s.func c.target).cfg.master = false → exec (.queueEnable f) s = .next (s.admDone f stNotPermitted)) ∧
    (s.Checked f 0x0A false [0xFFFF] (fun _ => true) c → (s.que c.target k q).st = .disabled → exec (.queueDisable f) s = .next (s.admDone f stSuccess)) ∧
    (s.Checked f 0x0A false [0xFFFF] (fun _ => true) c → (s.que c.target k q).st = .enabled → exec (.queueDisable f) s =
      .next (((s.queueHalt c.target k q .enabled).updQue c.target k q (fun y => { y with disabling := true })).admWait f)) ∧
    ((s.func f).cur = some c → c.op = 0x0A → c.begun = true → (s.que c.target k q).disabling = true → s.queueBusy c.target k q = false → 2 ≤ k →
      (s.que c.target k q).packed = false → exec (.queueDisableComplete f false) s = .next ((s.updQue c.target k q (fun y => { y with
        st := .disabled, disabling := false, ci := 0, pi := 0, got := 0, used := 0, phase := true, sqHead := 0, sigUsed := 0, notify := false,
        txPend := [], rxPend := [], skip := false })).admDone f stSuccess))) ∧
  (∀ (f : Nat) (s : State) (c : AdmCmd), s.Checked f 0x0C false [0x3FFF, 0xFFFFFFFF]
      (fun c => decide (1 ≤ bitsOf (c.word 16) 0 16) && decide (bitsOf (c.word 8) 12 2 ≠ 3)) c →
    let x := s.func c.target
    bitOf (c.word 8) 12 = true → x.evt.on = true → exec (.moderationSet f) s = .next ((s.setFunc c.target { x with
      evt := { x.evt with mod := { x.evt.mod with count := bitsOf (c.word 16) 0 16, drips := bitsOf (c.word 16) 16 16 } } }).admDone f stSuccess)) ∧
  (∀ (f : Nat) (s t : State) (c : AdmCmd), s.Verified f 0x04 (shareMasks (bitsOf (c.word 8) 0 4)) shareGood c t →
    bitsOf (c.word 8) 0 4 = 3 →
    let x := t.func c.target
    let v := c.word 16
    (x.created = false → exec (.shareSet f) s = .next (t.admDone f stBadField)) ∧
    (x.created = true → x.qpAllot < v → 65536 < t.taken Func.qpAllot - x.qpAllot + v → exec (.shareSet f) s = .next (t.admDone f stNoResource)) ∧
    (x.created = true → v ≤ x.qpAllot → exec (.shareSet f) s = .next ((t.setFunc c.target { x with qpAllot := v }).shareDone f c.target 3)))

/-- A running TX queue fetches its next frame; a completed one is reported in the order of the ring. A start request enters its channel's queue; an idle channel that may begins the next one at its entry. MOVE makes chunks and moves on, LOOP opens a body or skips it, WAIT holds until an event, a write completion or its
timeout, SIGNAL and END send their pulse when earlier writes are done. The engines read and write the chunk chosen. A stop ends a program of a stale generation or without bus mastering. A mailbox slot is stored while the channel is empty, and discarded, counted, while it is full; a doorbell fills it; the receiver's read of word 7 empties it. -/
def Obligations.HostTxRopeAndMailbox : Prop :=
  (∀ (f q : Nat) (s : State), s.queRuns f 0 q = true → s.mayRequest f = true → s.srcHeld (.host f (qKey 0 q)) = false →
    exec (.txDescriptorFetch f 0 q) s = .next (s.txNative f q)) ∧
  (∀ (f q : Nat) (s : State), s.queRuns f 6 q = true → s.mayRequest f = true → s.srcHeld (.host f (qKey 6 q)) = false → q % 2 = 1 →
    exec (.txDescriptorFetch f 6 q) s = .next (s.txVirtio f q)) ∧
  (∀ (f k q : Nat) (s : State), s.queRuns f k q = false → exec (.txDescriptorFetch f k q) s = .next s) ∧
  (∀ (f q : Nat) (e : TxPend) (l : List TxPend) (s : State), (s.que f 6 q).txPend = e :: l → e.ready = true → s.mayRequest f = true → s.hasQue f 6 q = true →
    exec (.txCompletionWrite f 6 q) s = .next ((s.updQue f 6 q (fun y => { y with txPend := l })).vqUsed f 6 q { id := e.tag, bufs := [], count := e.bufs } 0)) ∧
  (∀ (f k q : Nat) (e : TxPend) (l : List TxPend) (s : State), (s.que f k q).txPend = e :: l → e.ready = false → exec (.txCompletionWrite f k q) s = .next s) ∧
  (∀ (f q : Nat) (e : TxPend) (l : List TxPend) (s : State), (s.que f 0 q).txPend = e :: l → e.ready = true → s.mayRequest f = true → s.hasQue f 0 q = true →
    e.tstamp = false →
      let w := cqeWords e.desc q 0 e.tag 0 0 0 e.bufs 0 (e.status.getD 0) 0 0 false false
      exec (.txCompletionWrite f 0 q) s = .next ((s.updQue f 0 q (fun y => { y with txPend := l })).cqeWrite f (s.que f 0 q).cq
        (w.getD 0 0) (w.getD 1 0) (w.getD 2 0) (w.getD 3 0) true)) ∧
  (∀ (c e p0 p1 p2 p3 : Nat) (s : State), s.ropeAt c = c → (s.chan c).queue.length < 64 → (s.chan c).waitq = [] →
    exec (.ropeStartRequest c e p0 p1 p2 p3) s = .next (s.updChan c (fun x => { x with
      queue := x.queue ++ [{ entry := e, p0 := p0, p1 := p1, p2 := p2, p3 := p3, gen := s.boundGen c }] }))) ∧
  (∀ (c : Nat) (r : RopeReq) (l : List RopeReq) (s : State), s.rst c = rIdle → (s.chan c).due = none → (s.chan c).queue.filter (fun r => r.gen == s.boundGen c) = r :: l →
    s.ropeMay c = true → let all := l ++ (s.chan c).waitq.map (fun r => { r with gen := s.boundGen c })
    exec (.ropeProgramStart c) s = .next ((((s.setChan c { s.chan c with
      p := [r.p0, r.p1, r.p2, r.p3, 0, 0, 0, 0], queue := all.take 64, waitq := all.drop 64, run := some r, loops := [] }).setRst c rRunning).wr
        (F.ROPE_CHAN_STATUS_PC c) r.entry).wr (F.ROPE_CHAN_STATUS_GEN c) r.gen)) ∧
  (∀ (c w0 w1 : Nat) (s : State),
    let x := s.chan c
    let pc := s.rd (F.ROPE_CHAN_STATUS_PC c)
    let ss := bitsOf w0 11 3
    let ds := bitsOf w0 8 3
    let len := bitsOf w0 32 24
    let sa := ofSigned 64 (x.preg (bitsOf w0 17 3) + toSigned 32 (bitsOf w1 32 32))
    let da := ofSigned 64 (x.preg (bitsOf w0 14 3) + toSigned 32 (bitsOf w1 0 32))
    (s.RopeAt c 1 w0 w1 → len = 0 → bitOf w0 23 = false → exec (.ropeMove c) s = .next (s.ropeFinish c 1)) ∧
    (s.RopeAt c 1 w0 w1 → bitOf w0 23 = false → bitOf w0 26 = false → bitOf w0 27 = false → len ≠ 0 → ds < 5 → ss < 5 →
      s.moveRange c ss sa ds da len = true → exec (.ropeMove c) s = .next (s.ropeFinish c 6)) ∧
    (s.RopeAt c 1 w0 w1 → bitOf w0 23 = false → bitOf w0 26 = false → bitOf w0 27 = false → len ≠ 0 → ds < 5 → ss < 5 →
      s.moveRange c ss sa ds da len = false →
      let l := s.chunksOf (s.boundTo c) ss ds (bitOf w0 28) (decide (len ≤ 32)) x.nextChunk sa da len len
      exec (.ropeMove c) s = .next ((s.setChan c { x with chunks := x.chunks ++ l, nextChunk := x.nextChunk + l.length }).ropeGo c pc)) ∧
    (s.RopeAt c 2 w0 w1 → bitOf w0 11 = false → bitsOf w0 16 12 ≠ 0 → pc + bitsOf w0 16 12 < 4096 → x.loops.length < 2 →
      exec (.ropeLoop c) s = .next (if bitsOf w1 0 32 = 0 then s.ropeGo c (pc + bitsOf w0 16 12) else (s.setChan c { x with
        loops := { first := pc + 1, last := pc + bitsOf w0 16 12, left := bitsOf w1 0 32 } :: x.loops }).wr (F.ROPE_CHAN_STATUS_PC c) (pc + 1))) ∧
    (s.RopeAt c 3 w0 w1 → bitsOf w0 8 8 ≠ 0 → bitsOf w0 32 16 ≠ 0 → exec (.ropeWait c) s = .next ((s.updChan c (fun x => { x with
      waitMask := bitsOf w0 8 8, waitWrites := bitOf w0 16, waitCons := bitOf w0 17, waitLeft := bitsOf w0 32 16 })).setRst c rWaiting)) ∧
    (s.RopeAt c 3 w0 w1 → bitsOf w0 32 16 = 0 → exec (.ropeWait c) s = .next (s.ropeFinish c 1)) ∧
    (s.RopeAt c 4 w0 w1 → s.targetOk c (bitsOf w0 32 32) = true → x.chunks = [] → s.pulseWaits c (bitsOf w0 32 32) = false →
      exec (.ropeSignal c) s = .next ((s.pulse c (bitsOf w0 32 32) (x.preg (bitsOf w0 8 3))).ropeGo c pc)) ∧
    (s.RopeAt c 5 w0 w1 → s.targetOk c (bitsOf w0 32 32) = true → x.chunks = [] → s.pulseWaits c (bitsOf w0 32 32) = false →
      exec (.ropeEnd c) s = .next ((s.pulse c (bitsOf w0 32 32) (x.preg (bitsOf w0 8 3))).ropeFinish c 0)) ∧
    (s.RopeAt c 4 w0 w1 → s.targetOk c (bitsOf w0 32 32) = true → x.chunks ≠ [] → exec (.ropeSignal c) s = .next s) ∧
    (s.rst c = rWaiting → x.waitCons = false → s.rd (F.ROPE_CHAN_EVENTS_EVENTS c) &&& x.waitMask ≠ 0 →
      exec (.ropeWaitRelease c) s = .next ((s.setRst c rRunning).ropeGo c pc)) ∧
    (s.rst c = rWaiting → x.waitLeft = 0 → exec (.ropeWaitTimeout c) s = .next (s.ropeFinish c 2)) ∧
    (s.rst c ≠ rWaiting → exec (.ropeWaitRelease c) s = .next s ∧ exec (.ropeWaitTimeout c) s = .next s)) ∧
  (∀ (e c : Nat) (k : RopeChunk) (d : List Byte) (s : State),
    (s.ropePick (Map.get s.rope.rrRead 0 e) ((s.chansOf e).filter (fun c => (s.readyRead c).isSome)) = some c → s.readyRead c = some k →
      exec (.ropeChunkRead e) s = .next ({ s with
        rope := { s.rope with rrRead := Map.set s.rope.rrRead 0 e ((c + 1) % 64) } }.chunkRead c k)) ∧
    (s.ropePick (Map.get s.rope.rrWrite 0 e) ((s.chansOf e).filter (fun c => (s.readyWrite c).isSome)) = some c → s.readyWrite c = some (k, d) →
      exec (.ropeChunkWrite e) s = .next ({ s with
        rope := { s.rope with rrWrite := Map.set s.rope.rrWrite 0 e ((c + 1) % 64) } }.chunkWrite c k d))) ∧
  (∀ (c cause : Nat) (s : State), (s.chan c).chunks.any (fun k => k.asked) = true →
    let u := s.newCorr.2.errAt (R.ROPE_CHAN_ERR c) 0
    exec (.ropeChunkFault c cause true) s = .next (u.fault { cls := 0x05, cause := cause, unit := ropeUnit c, corr := s.newCorr.1, snapshot := u.cnt (R.ROPE_CHAN_ERR c), lower := 1, upper := 1, detail := c + s.newCorr.2.rd (F.ROPE_CHAN_STATUS_PC c) * 2 ^ 20 })) ∧
  (∀ (c : Nat) (ok : Bool) (s : State), (s.chan c).chunks = [] → ∀ cause, exec (.ropeChunkFault c cause ok) s = .next s) ∧
  (∀ (c f : Nat) (r : RopeReq) (s : State), (s.chan c).run = some r → s.boundTo c = some f → s.rst c = rRunning → r.gen ≠ (s.func f).gen →
    exec (.ropeProgramStop c) s = .next (((s.finishSmall c (s.chan c).chunks).updChan c (fun x => { x with
      queue := x.queue.filter (fun q => q.gen == (s.func f).gen) })).ropeFinish c 3)) ∧
  (∀ (who rid m c w : Nat) (v : Word) (s : State), s.partyOpen who = true → s.mbxClosed who m c = false →
    (s.mbxFull m c = false → exec (.mbxSlotStore who rid m c w v) s = .next (s.setReg (R.MBX_SLOT m c w) v)) ∧
    (s.mbxFull m c = true → exec (.mbxSlotStore who rid m c w v) s = .next (s.err R.MBX_BUSY_CNT)) ∧
    (s.mbxSender m c = some who → s.mbxFull m c = false → let u := s.wr (F.MBX_DOORBELL_FULL m) (s.rd (F.MBX_DOORBELL_FULL m) + 2 ^ c)
      exec (.mbxDoorbellWrite who rid m c) s = .next (u.mbxChange (u.wr (F.MBX_CHAN_SENDER_GEN m c) (s.partyGen who)))) ∧
    (s.mbxSender m c ≠ some who → exec (.mbxDoorbellWrite who rid m c) s = .next (s.mbxDeny who rid m (R.MBX_DOORBELL m))) ∧
    (s.mbxReceiver m = who → s.mbxFull m c = true → 4 ≤ who → exec (.mbxSlotWord7Read who rid m c) s = .next (s.mbxChange (s.mbxEmpty m c 1))) ∧
    (s.mbxSender m c = some who → exec (.mbxEmptyClear who rid m c) s =
      .next (s.wr (F.MBX_EMPTY_EMPTY m) (s.rd (F.MBX_EMPTY_EMPTY m) &&& (0xFFFFFFFF - 2 ^ c)))) ∧
    ∀ x, (s.mbxReceiver m = who → exec (.mbxMaskWrite who m false x) s = .next (s.mbxChange (s.wr (F.MBX_MASK_MASK m) x))) ∧
      (s.mbxReceiver m ≠ who → exec (.mbxMaskWrite who m false x) s = .next s))

/-- Negotiation with a common speed sets speed and FEC and goes on to training or is done, without one it fails and counts; a failed one begins again. Training ends, or fails and counts and after TRAIN_RETRIES stops for a second. A link whose conditions hold awaits its calibration; one that fails goes down. A frame on a port that is down is nothing, one that is too
short or too long counts as runt or oversize, a whole one counts and is delivered. PFC pauses and resumes; a PRT_PFC_CFG whose REFRESH is not below PAUSE_TIME is refused. Preemption verifies within three attempts. A module that comes or goes shows in PRT_MOD_STATUS and in its ports. A frame for the management address is kept for the firmware. -/
def Obligations.PortsAndModules : Prop :=
  (∀ (p a b r : Nat) (s : State), s.rd (F.PRT_LINK_STATUS_AN_STATE p) = 1 →
    ((s.advSpeeds p).find? (fun c => bitOf a (c - 1)) = none → exec (.anComplete p a b r) s =
      .next ((s.wr (F.PRT_LINK_STATUS_AN_STATE p) 4).err (R.PRT_AN_FAIL_CNT p))) ∧
    (∀ c, (s.advSpeeds p).find? (fun c => bitOf a (c - 1)) = some c →
      let u := (s.wr (F.PRT_LINK_STATUS_SPEED p) c).wr (F.PRT_LINK_STATUS_FEC p) (fecResolve c (s.rd (F.PRT_AN_CFG_FEC_ABLE p)) (s.rd (F.PRT_AN_CFG_FEC_REQ p)) b r)
      exec (.anComplete p a b r) s = .next (u.wr (F.PRT_LINK_STATUS_AN_STATE p) (if u.rdB (F.PRT_AN_CFG_TRAIN_EN p) then 2 else 3)))) ∧
  (∀ (p : Nat) (s : State), s.rdB (F.PRT_AN_CFG_AN_EN p) = true → s.rd (F.PRT_LINK_STATUS_AN_STATE p) = 4 → exec (.anRestart p) s = .next (s.anBegin p)) ∧
  (∀ (p : Nat) (s : State), s.rd (F.PRT_LINK_STATUS_AN_STATE p) = 2 →
    exec (.laneTrainingDone p true) s = .next ((s.setPrt p { s.prt1 p with trainFails := 0 }).wr (F.PRT_LINK_STATUS_AN_STATE p) 3) ∧
    let u := (s.setPrt p { s.prt1 p with trainFails := (s.prt1 p).trainFails + 1 }).err (R.PRT_AN_FAIL_CNT p)
    exec (.laneTrainingDone p false) s = .next (if u.rd (F.PRT_AN_CFG_TRAIN_RETRIES p) ≤ (s.prt1 p).trainFails + 1 then
      u.wr (F.PRT_LINK_STATUS_AN_STATE p) 5 else u.anBegin p)) ∧
  (∀ (p : Nat) (s : State), (s.rd (F.PRT_LINK_STATUS_AN_STATE p) = 5 → exec (.trainRetryTimer p) s = .next ((s.setPrt p { s.prt1 p with trainFails := 0 }).anBegin p)) ∧
    (s.rd (F.PRT_LINK_STATUS_AN_STATE p) ≠ 5 → exec (.trainRetryTimer p) s = .next s)) ∧
  (∀ (p : Nat) (s : State), (s.linkReady p = true → s.rdB (F.PRT_LINK_STATUS_UP p) = false → exec (.portLinkUp p) s = .next (s.setPrt p { s.prt1 p with calWait := true })) ∧
    (s.linkReady p = true → exec (.portLinkDown p) s = .next s) ∧ (s.linkReady p = false → exec (.portLinkDown p) s = .next (s.portDown p))) ∧
  (∀ (p : Nat) (s : State), let u := (s.wrB (F.PRT_LINK_STATUS_LOCAL_FAULT p) true).wrB (F.PRT_LINK_STATUS_REMOTE_FAULT p) false
    exec (.faultSequenceRx p 1) s = .next (((u.raiseBit F.PRT_INT_STATUS_LINK_CHANGE p).emit (.faultSeq p 1)).linkFails p)) ∧
  (∀ (p : Nat) (r : PortRx) (s : State), s.rdB (F.PRT_LINK_STATUS_UP p) = false → exec (.portFrameRx p r) s = .next s) ∧
  (∀ (p : Nat) (r : PortRx) (s : State), s.rdB (F.PRT_LINK_STATUS_UP p) = true → r.fragErr = false → r.fecOk = true → r.fcsOk = true →
    let u := s.statAdd (R.PRT_FEC_CORR_CNT p) r.fecCorr
    let len := r.data.length + 4
    (len < 64 → exec (.portFrameRx p r) s = .next (u.err (R.PRT_RX_RUNT_CNT p))) ∧
    (64 ≤ len → u.rd (F.PRT_MAC_CFG_MAX_LEN p) < len → exec (.portFrameRx p r) s = .next (u.err (R.PRT_RX_OVERSIZE_CNT p))) ∧
    let v := (u.stat (R.PRT_RX_PKTS_CNT p)).statAdd (R.PRT_RX_BYTES_CNT p) len
    (64 ≤ len → len ≤ u.rd (F.PRT_MAC_CFG_MAX_LEN p) → be16 r.data 12 ≠ 0x8808 → v.secyRx p r.data = false →
      exec (.portFrameRx p r) s = .next (v.portDeliver p { data := r.data, stamp := v.stampRx p r.sub, bad := false }))) ∧
  (∀ (p v : Nat) (t : List Nat) (s : State), exec (.pfcFrameRx p v t) s = .next ((s.stat (R.PRT_RX_PFC_CNT p)).each (List.range 8) (fun t' i =>
    if bitOf v i && bitOf (t'.rd (F.PRT_PFC_CFG_PFC_RX p)) i then
      let n := t.getD i 0
      let x := t'.prt1 p
      let stop : Int := if n = 0 then 0 else t'.fst.now + ((n * 512 * 65536 / t'.portRate p : Nat) : Int)
      t'.setPrt p { x with pause := Map.set x.pause 0 i stop }
    else t'))) ∧
  (∀ (p i : Nat) (s : State), Map.get (s.prt1 p).pause 0 i ≤ s.fst.now → exec (.pfcPauseExpiry p i) s =
    .next (s.setPrt p { s.prt1 p with pause := Map.set (s.prt1 p).pause 0 i 0 })) ∧
  (∀ (p : Nat) (s : State), ((s.prt1 p).heldPrio = [] → exec (.pfcRefresh p) s = .next s) ∧
    ((s.prt1 p).heldPrio ≠ [] → exec (.pfcRefresh p) s = .next (s.ctlFrame p (s.pfcFrame p)))) ∧
  (∀ (p : Nat) (v : Word) (s : State), (bitsOf v.toNat 32 16 ≤ bitsOf v.toNat 48 16 → exec (.pfcCfgWrite p v) s = .next s) ∧
    (bitsOf v.toNat 48 16 < bitsOf v.toNat 32 16 → exec (.pfcCfgWrite p v) s =
      .next (s.setReg (R.PRT_PFC_CFG p) (BitVec.ofNat 64 (v.toNat &&& 0xFFFFFFFF0007FFFF))))) ∧
  (∀ (p : Nat) (s : State), s.rd (F.PRT_PREEMPT_STATUS_VERIFY p) = 2 →
    ((s.prt1 p).verifyTries < 3 → exec (.preemptVerifyTx p) s = .next (((s.setPrt p { s.prt1 p with
      verifyTries := (s.prt1 p).verifyTries + 1 }).wr (F.PRT_PREEMPT_STATUS_VERIFY p) 2).emit (.verify p))) ∧
    (3 ≤ (s.prt1 p).verifyTries → exec (.preemptVerifyTx p) s = .next ((s.wr (F.PRT_PREEMPT_STATUS_VERIFY p) 4).raise F.PRT_INT_STATUS_PREEMPT_VERIFY)) ∧
    exec (.preemptRespondRx p) s = .next (((s.wr (F.PRT_PREEMPT_STATUS_VERIFY p) 3).wrB (F.PRT_PREEMPT_STATUS_ACTIVE p) true).raise
      F.PRT_INT_STATUS_PREEMPT_VERIFY)) ∧
  (∀ (p : Nat) (v : Word) (s : State), exec (.preemptCfgWrite p v) s = .next ((s.setReg (R.PRT_PREEMPT_CFG p) (BitVec.ofNat 64 (v.toNat % 4096))).preemptStart p)) ∧
  (∀ (k rev a temp : Nat) (s : State),
    let u := ((((s.setCage k {}).wrB (F.PRT_MOD_STATUS_PRESENT k) true).wr (F.PRT_MOD_STATUS_CMIS_REV k) rev).wr (F.PRT_MOD_STATUS_TEMP k) temp)
    let v := (u.setMstate k 1).setMstate k 2
    (0x40 ≤ rev → exec (.moduleInsert k rev (some a) temp) s = .next (((v.wr (F.PRT_MOD_STATUS_APPSEL k) a).setMstate k 3).cageHold k false)) ∧
    exec (.moduleInsert k rev none temp) s = .next ((v.setMstate k 5).cageHold k true)) ∧
  (∀ (k : Nat) (s : State), exec (.moduleRemove k) s =
    .next ((((s.setCage k {}).wrB (F.PRT_MOD_STATUS_PRESENT k) false).setMstate k 0).cageHold k true)) ∧
  (∀ (k temp : Nat) (s : State), s.rdB (F.PRT_MOD_STATUS_PRESENT k) = true →
    exec (.moduleInterrupt k false temp) s = .next (s.wr (F.PRT_MOD_STATUS_TEMP k) temp) ∧
    exec (.modulePoll k true temp) s = .next (s.setCage k { s.cage k with retry := true })) ∧
  (∀ (k : Nat) (nack : Bool) (s : State), (s.cage k).retry = true → let u := s.setCage k { retry := false, fault := nack }
    exec (.moduleI2cRetry k nack) s = .next (if nack then (u.setMstate k 4).cageHold k true else u)) ∧
  (∀ (a k page bank off n : Nat) (s : State), a < 4 → s.rdB (F.PRT_MOD_CTRL_BUSY a) = false → s.rdB (F.PRT_MOD_STATUS_PRESENT k) = true →
    let u := fun (b : Bool) => s.setReg (R.PRT_MOD_CTRL a) (BitVec.ofNat 64 (k + page * 2 ^ 2 + bank * 2 ^ 10 + off * 2 ^ 18 + n * 2 ^ 26 + b2n b * 2 ^ 29))
    (off + n + 1 ≤ 256 → exec (.moduleRead a k page bank off n) s =
      .next (((u false).wrB (F.PRT_MOD_CTRL_BUSY a) true).emit (.i2c k false page off (n + 1) 0))) ∧
    (page ≠ 3 → exec (.moduleWrite a k page bank off n) s =
      .next (((u true).wrB (F.PRT_MOD_CTRL_ERR a) true).wr (F.PRT_MOD_CTRL_ERR_CODE a) 3))) ∧
  (∀ (a d : Nat) (s : State), s.rdB (F.PRT_MOD_CTRL_BUSY a) = true → let u := s.wrB (F.PRT_MOD_CTRL_BUSY a) false
    exec (.moduleAccessDone a true d) s = .next ((u.wrB (F.PRT_MOD_CTRL_ERR a) true).wr (F.PRT_MOD_CTRL_ERR_CODE a) 2) ∧
    (u.rdB (F.PRT_MOD_CTRL_WRITE a) = false → exec (.moduleAccessDone a false d) s =
      .next (u.setReg (R.PRT_MOD_DATA a) (BitVec.ofNat 64 (d % 2 ^ (8 * (u.rd (F.PRT_MOD_CTRL_LEN_M1 a) + 1))))))) ∧
  (∀ (l : List Byte) (s : State), s.rdB F.PRT_MGMT_STATUS_UP = true → l.length ≤ 9216 → beNat (l.take 6) = s.prt.mgmtMac →
    exec (.mgmtFrameRx l) s = .next { s with prt := { s.prt with mgmtRx := s.prt.mgmtRx ++ [l] } }) ∧
  (∀ (l : List Byte) (s : State), s.rdB F.PRT_MGMT_STATUS_UP = false → exec (.mgmtFrameRx l) s = .next s)

/-- A command to a channel that is ready does its effect and is answered Completed: it enables or disables a channel, its transmission, its filters or its VLAN mode, sets a MAC address or VLAN filter, resets the channel, or answers the values it asks for. A command with a bad
checksum is only counted; without its clock nothing happens; a channel still in its initial state refuses. Clear Initial State makes a configured channel ready; the package is selected and deselected. A pass-through frame goes out, waits for its gate or is dropped. -/
def Obligations.NcsiCommands : Prop :=
  (∀ (c : Nat) (s : State), s.NcReady c →
    let u := s.ncSeen
    let ok := fun (t : State) (k : Nat) (l : List Nat) => t.emit (.ncsi c k 0 0 l)
    exec (.ncsiClearInitialState c true) s = .next (ok (u.updNc c (fun x => { x with ready := true })) 0x00 []) ∧
    exec (.ncsiEnableChannel c true) s = .next (ok (u.ncEnable c true) 0x03 []) ∧
    exec (.ncsiDisableChannel c true) s = .next (ok (u.ncEnable c false) 0x04 []) ∧
    exec (.ncsiResetChannel c true) s = .next (ok (((u.ncEnable c false).ncTx c false).updNc c (fun x =>
      { rxBmc := x.rxBmc, txBmc := x.txBmc, rxDrop := x.rxDrop, txDrop := x.txDrop })) 0x05 []) ∧
    exec (.ncsiEnableNetworkTx c true) s = .next (ok (u.ncTx c true) 0x06 []) ∧
    exec (.ncsiDisableNetworkTx c true) s = .next (ok (u.ncTx c false) 0x07 []) ∧
    (∀ mc mask, exec (.ncsiAenEnable c mc mask true) s = .next (ok (u.updNc c (fun x => { x with aen := mask % 8, aenMc := mc })) 0x08 [])) ∧
    exec (.ncsiGetLinkStatus c true) s = .next (ok u 0x0A [u.rd (F.PRT_LINK_STATUS_UP c), u.rd (F.PRT_LINK_STATUS_SPEED c)]) ∧
    exec (.ncsiGetVersionId c true) s = .next (ok u 0x15 [1, 2, 0x0880, 0x1F9A]) ∧
    exec (.ncsiGetCapabilities c true) s = .next (ok u 0x16 [8, 16384, 7]) ∧
    (∃ l, exec (.ncsiGetParameters c true) s = .next (ok u 0x17 l)) ∧
    exec (.ncsiGetControllerStats c true) s = .next (ok u 0x18 [(u.reg (R.PRT_RX_PKTS_CNT c)).toNat, (u.reg (R.PRT_RX_BYTES_CNT c)).toNat,
      (u.reg (R.PRT_TX_PKTS_CNT c)).toNat, (u.reg (R.PRT_TX_BYTES_CNT c)).toNat, u.cnt (R.PRT_RX_FCS_CNT c), u.cnt (R.PRT_RX_RUNT_CNT c), u.cnt (R.PRT_RX_OVERSIZE_CNT c)]) ∧
    exec (.ncsiGetNcsiStats c true) s = .next (ok u 0x19 [u.prt.nc.cmds, u.prt.nc.unsupported, u.prt.nc.sumErrs]) ∧
    exec (.ncsiGetPassthroughStats c true) s = .next (ok u 0x1A [(u.nc c).txBmc, (u.nc c).txDrop, (u.nc c).rxBmc, (u.nc c).rxDrop]) ∧
    (∀ i a en, exec (.ncsiSetMacAddress c i a en true) s = .next (ok (u.updNc c (fun x => { x with
      macs := Map.set x.macs 0 i (if en then a % 2 ^ 48 + 2 ^ 48 else 0) })) 0x0E [])) ∧
    (∀ m, exec (.ncsiEnableBroadcastFilter c m true) s = .next (ok (u.updNc c (fun x => { x with bcast := some m })) 0x10 [])) ∧
    exec (.ncsiDisableBroadcastFilter c true) s = .next (ok (u.updNc c (fun x => { x with bcast := none })) 0x11 []) ∧
    (∀ m, exec (.ncsiEnableMulticastFilter c m true) s = .next (ok (u.updNc c (fun x => { x with mcast := some m })) 0x12 [])) ∧
    exec (.ncsiDisableMulticastFilter c true) s = .next (ok (u.updNc c (fun x => { x with mcast := none })) 0x13 []) ∧
    (∀ i v en, exec (.ncsiSetVlanFilter c i v en true) s = .next (ok (u.updNc c (fun x => { x with
      vlans := Map.set x.vlans 0 i (if en then v % 4096 + 4096 else 0) })) 0x0B [])) ∧
    (∀ m, exec (.ncsiEnableVlan c m true) s = .next (ok (u.updNc c (fun x => { x with vlanMode := m })) 0x0C [])) ∧
    exec (.ncsiDisableVlan c true) s = .next (ok (u.updNc c (fun x => { x with vlanMode := 0 })) 0x0D [])) ∧
  (∀ (c : Nat) (s : State), s.board.ncsiClk = true → exec (.ncsiSelectPackage true) s = .next (s.ncSeen.emit (.ncsi 0x1F 0x01 0 0 [])) ∧
    exec (.ncsiDeselectPackage true) s = .next (((s.updPkg (fun x => { x with cmds := x.cmds + 1 })).emit (.ncsi 0x1F 0x02 0 0 [])).wrB
      F.PRT_NCSI_STATUS_SELECTED false) ∧
    (∀ k, exec (.ncsiUnsupportedCommand c k true) s = .next ((s.ncSeen.updPkg (fun x => { x with unsupported := x.unsupported + 1 })).emit (.ncsi c k 0x0003 0x7FFF []))) ∧
    exec (.ncsiEnableChannel c false) s = .next (s.updPkg (fun x => { x with sumErrs := x.sumErrs + 1 })) ∧
    (bitOf (s.ncSeen.rd F.PRT_STATUS_CONFIGURED) c = true → (s.ncSeen.nc c).ready = false →
      exec (.ncsiEnableChannel c true) s = .next (s.ncSeen.emit (.ncsi c 0x03 0x0001 0x0001 [])))) ∧
  (∀ (c : Nat) (b : Bool) (s : State), s.board.ncsiClk = false → exec (.ncsiEnableChannel c b) s = .next s ∧ exec (.ncsiSelectPackage b) s = .next s) ∧
  (∀ (c : Nat) (l : List Byte) (s : State), s.board.ncsiClk = true →
    (bitOf (s.rd F.PRT_NCSI_STATUS_TX_ENABLED) c = false → exec (.ncsiPassthroughTx c l) s = .next (s.updNc c (fun x => { x with txDrop := x.txDrop + 1 }))) ∧
    (bitOf (s.rd F.PRT_NCSI_STATUS_TX_ENABLED) c = true → (s.nc c).macs.any (fun e => e.2 == beNat ((l.drop 6).take 6) + 2 ^ 48) = true → s.portSends c = true →
      (s.gateLets c (s.rd F.PRT_NCSI_STATUS_NCSI_TC) = true → (s.nc c).wait = [] → exec (.ncsiPassthroughTx c l) s = .next (s.ctlFrame c (.pass c l))) ∧
      (s.gateLets c (s.rd F.PRT_NCSI_STATUS_NCSI_TC) = false → exec (.ncsiPassthroughTx c l) s = .next (s.updNc c (fun x => { x with wait := x.wait ++ [l] })))))

/-- The Grotto ROM starts stage 1 with the bank chosen, or recovery by its strap; an image that fails its check falls back; the control firmware is released into stage 3, and HIF_READY then opens the interface. Each SPDM request on a connection of its phase gets its answer: versions open a connection, capabilities and algorithms move it on,
certificates, a signed challenge and measurements are given, and a key exchange opens a session, which FINISH establishes; within it IDE_KM programs, arms and discards keys. A request out of order counts and is answered UnexpectedRequest, an unsupported one UnsupportedRequest. -/
def Obligations.BootAndSpdm : Prop :=
  (∀ (s : State), s.board.held = false → s.rd F.GRT_BOOT_STATUS_STAGE = 0 →
    let u := s.setMeas 1 ((List.range (Config.trustLen 0 0)).map (Config.trustByte 0 0))
    (u.rdB F.GLB_STRAPS_RECOVERY_N = true → exec .grottoRomStart s =
      .next ((u.wr F.GRT_BOOT_STATUS_STAGE 1).wr F.GRT_STATUS_BANK (u.rd F.GRT_BOOT_STATUS_NEXT_BANK))) ∧
    (u.rdB F.GLB_STRAPS_RECOVERY_N = false → exec .grottoRomStart s = .next ((u.wr F.GRT_BOOT_STATUS_STAGE 0xFF).wrB F.LNT_STATUS_RECOVERY true))) ∧
  (∀ (s : State), s.board.held = true → exec .grottoRomStart s = .next s) ∧
  (∀ (s : State), let b := s.rd F.GRT_STATUS_BANK
    (s.rd F.GRT_BOOT_STATUS_STAGE = 1 → s.imageCheck b 1 ≠ 0 → exec .grottoImageVerifyDone s = .next (s.bankFail (s.imageCheck b 1))) ∧
    (s.rd F.GRT_BOOT_STATUS_STAGE = 1 → s.imageCheck b 1 = 0 →
      let u := (s.wr F.GRT_BOOT_STATUS_STAGE 2).wr F.GRT_BOOT_STATUS_GROTTO_SVN (s.imgField b 1 4 8 8)
      exec .grottoImageVerifyDone s = .next ((u.wr F.GRT_FW_VERSION_GROTTO_VER (u.imgField b 1 8 32 32)).setMeas 2
        (u.imageBytes b 1))) ∧
    (s.rd F.GRT_BOOT_STATUS_STAGE = 2 → s.board.ctrlOk = true → exec .grottoImageVerifyDone s = .next s ∧
      exec .controlFwRelease s = .next ((s.wr F.GRT_BOOT_STATUS_STAGE 3).wr F.GLB_BOOT_CF_STAGE 1))) ∧
  (∀ (ms : Nat) (s : State), s.rd F.GRT_BOOT_STATUS_STAGE = 3 → s.rd F.GLB_BOOT_CF_STAGE = 1 → exec (.hifReadySet ms) s =
    .next (((s.fillRegions.wr F.GLB_BOOT_CF_STAGE 2).wrB F.GLB_BOOT_HIF_READY true).wr F.GLB_BOOT_READY_MS ms)) ∧
  (∀ (ms : Nat) (s : State), s.rd F.GRT_BOOT_STATUS_STAGE ≠ 3 → exec (.hifReadySet ms) s = .next s) ∧
  (∀ (c : Nat) (s : State), s.answers c = true → exec (.spdmGetVersion c true) s = .next ((s.setSpdm c { phase := 1 }).emit (.spdm c 0x04 [0x12, 0x13])) ∧
    exec (.spdmUnsupportedRequest c) s = .next ((s.err R.GRT_SPDM_ERR_CNT).emit (.spdm c 0x7F [eUnsupported])) ∧
    ∀ ver, (s.conn c).phase = 1 → (ver = 0x12 ∨ ver = 0x13) → exec (.spdmGetCapabilities c ver true) s =
      .next ((s.setSpdm c { phase := 2, ver := ver }).emit (.spdm c 0x61 [0x000262D6]))) ∧
  (∀ (c : Nat) (b : Bool) (s : State), s.answers c = false → exec (.spdmGetVersion c b) s = .next s ∧ exec (.spdmUnsupportedRequest c) s = .next s) ∧
  (∀ (c ver : Nat) (s : State), s.SpdmAt c ver 2 →
    ((s.conn c).phase = 2 → exec (.spdmNegotiateAlgorithms c ver true true) s = .next ((s.setSpdm c { s.conn c with phase := 3 }).emit (.spdm c 0x63 [0x80, 0x02]))) ∧
    (∀ n, n ≤ 65536 → exec (.spdmChunkTransfer c ver n true true) s = .next (s.emit (.spdm c 0x85 [n])))) ∧
  (∀ (c ver : Nat) (s : State), s.SpdmAt c ver 3 →
    exec (.spdmGetDigests c ver true) s = .next (s.emit (.spdm c 0x01 [Config.sha384 (s.chain 0), Config.sha384 (s.chain 1)])) ∧
    (∀ slot off n, slot ≤ 1 → off < (s.chain slot).length → let p := ((s.chain slot).drop off).take n
      exec (.spdmGetCertificate c ver slot off n true) s = .next (s.emit (.spdm c 0x02 (p.map (·.toNat) ++ [(s.chain slot).length - off - p.length])))) ∧
    (∀ nonce, exec (.spdmChallenge c ver 0 nonce true) s = .next (s.emit (.spdm c 0x03 [Config.sha384 (s.chain 0), Config.sign s.aliasKey (leBytes nonce 32)]))) ∧
    (∀ i nonce, 1 ≤ i → i ≤ 6 → exec (.spdmGetMeasurements c ver i nonce false true) s = .next (s.emit (.spdm c 0x60 [s.meas i]))) ∧
    (∀ n beat, (8 ≤ s.grt.sess.length → exec (.spdmKeyExchange c ver n beat true) s = .next (s.emit (.spdm c 0x7F [eBusy]))) ∧
      (s.grt.sess.length < 8 → s.sessOf n = none → exec (.spdmKeyExchange c ver n beat true) s =
        .next ((s.setSess n (some { conn := c, beat := beat })).emit (.spdm c 0x64 [n, Config.sign s.aliasKey (leBytes n 4)]))))) ∧
  (∀ (c n : Nat) (x : SpdmSess) (s : State), s.answers c = true → s.sessOf n = some x → x.conn = c → x.est = false →
    exec (.spdmFinish c n true true) s = .next ((s.setSess n (some { x with est := true })).emit (.spdm c 0x65 [n])) ∧
    exec (.spdmFinish c n false true) s = .next ((s.setSess n none).err R.GRT_SPDM_ERR_CNT)) ∧
  (∀ (c n : Nat) (x : SpdmSess) (s : State), s.InSess c n x →
    (x.beat ≠ 0 → exec (.spdmHeartbeat c n true) s = .next (s.emit (.spdm c 0x68 [n])) ∧ exec (.spdmHeartbeatTimeout n) s = .next (s.setSess n none)) ∧
    (∀ op, 1 ≤ op → op ≤ 3 → exec (.spdmKeyUpdate c n op true) s = .next (s.emit (.spdm c 0x69 [op]))) ∧
    exec (.spdmEndSession c n true) s = .next ((s.setSess n none).emit (.spdm c 0x6C [n])) ∧
    exec (.ideKmQuery c n true) s = .next (s.emit (.spdm c 0x7E [0x01, 1, 8])) ∧
    (∀ a k b key, k ≤ 8 → b ≤ 1 → s.present a = true → s.rdB F.GRT_STATUS_IDE_KEYGEN = false → let u : State := { s with
        grt := { s.grt with
          ideKeys := Map.set s.grt.ideKeys none (ideKey a k b) (some key), ideArmed := s.grt.ideArmed.filter (· ≠ ideKey a k b) } }
      exec (.ideKmKeyProg c n a k b key true) s = .next (u.emit (.spdm c 0x7E [0x03, k, b]))) ∧
    (∀ a k b, (Map.get s.grt.ideKeys none (ideKey a k b)).isNone = false → let u : State := { s with
        grt := { s.grt with ideArmed := ideKey a k b :: s.grt.ideArmed.filter (· ≠ ideKey a k b) } }
      exec (.ideKmKSetGo c n a k b true) s = .next (((u.wr (F.HIF_IDE_STATUS_KEY_SET a k) b).ideShow a k).emit (.spdm c 0x7E [0x05, k, b]))) ∧
    (∀ a k b, (Map.get s.grt.ideKeys none (ideKey a k b)).isNone = false → let u : State := { s with
        grt := { s.grt with
          ideKeys := Map.erase s.grt.ideKeys (ideKey a k b), ideArmed := s.grt.ideArmed.filter (· ≠ ideKey a k b) } }
      u.rdB (F.HIF_IDE_STATUS_SECURE a k) = false → exec (.ideKmKSetStop c n a k b true) s = .next (u.emit (.spdm c 0x7E [0x05, k, b]))) ∧
    (∀ a k b key, 8 < k → exec (.ideKmKeyProg c n a k b key true) s = .next ((s.err R.GRT_SPDM_ERR_CNT).emit (.spdm c 0x7F [eInvalid]))))

/-- A verified FW_ACTIVATE of a bank that passes chooses it for the next boot, and fails with the code of its image; DEBUG_UNLOCK makes a new nonce, and with the right one sets a level up to 2; PRINCIPAL_REKEY clears a slot but 0; SECURE_ERASE leaves the lifecycle OPEN. A temperature sample shows in FLT_THERM, a shed step parks an engine in each gallery that can, a return step gives one back, and at 112 C the device trips, once.
Power, the synthesiser, SYS_RESET_N, the TAP and GLB_RESET_CTRL reset the device, and what they leave decides the core reset. -/
def Obligations.TrustThermalAndReset : Prop :=
  (∀ (f : Nat) (s t : State) (c : AdmCmd), s.Verified f 0x40 [0x101] (fun _ => true) c t →
    let b := bitsOf (c.word 8) 0 1
    (t.imageCheck b 1 ≠ 0 → exec (.fwActivate f) s = .next (t.admDone f stBadField { detail := t.imageCheck b 1 })) ∧
    (t.imageCheck b 1 = 0 → t.imageCheck b 2 = 0 → bitOf (c.word 8) 8 = false → exec (.fwActivate f) s =
      .next ((t.wr F.GRT_BOOT_STATUS_NEXT_BANK b).admDone f stSuccess { r0 := t.imgField b 1 8 32 32 + t.imgField b 2 8 32 32 * 2 ^ 32 }))) ∧
  (∀ (f : Nat) (s t : State) (c : AdmCmd), s.Verified f 0x41 [0x9FFF0003, 2 ^ 64 - 1] (fun _ => true) c t → s.rd F.GRT_STATUS_LIFECYCLE = 1 →
    bitOf (c.word 8) 31 = true → exec (.principalRekey f) s = .next (if bitsOf (c.word 8) 0 2 = 0 then t.admDone f stBadField
      else (t.clearPrincipal (bitsOf (c.word 8) 0 2)).admDone f stSuccess)) ∧
  (∀ (f : Nat) (s t : State) (c : AdmCmd), s.Verified f 0x42 [3, 2 ^ 64 - 1, 2 ^ 64 - 1] (fun _ => true) c t →
    (c.word 0x10 ≠ (t.reg R.GRT_DEBUG_NONCE).toNat → exec (.debugUnlock f) s = .next (t.newNonce.admDone f stBadField)) ∧
    (c.word 0x10 = (t.reg R.GRT_DEBUG_NONCE).toNat → bitsOf (c.word 8) 0 2 ≠ 3 → exec (.debugUnlock f) s =
      .next ((t.newNonce.setLevel (bitsOf (c.word 8) 0 2)).admDone f stSuccess))) ∧
  (∀ (f : Nat) (s t : State) (c : AdmCmd), s.Verified f 0x43 [] (fun _ => true) c t →
    let a := t.each (t.created.filter (fun n => !isMgmt n)) (fun t n => (t.resetOne n).returnAll n)
    let b := a.each (a.cry.ctx.map (·.1)) (fun t n => t.retireSession n)
    let d := b.each (b.sto.ns.map (·.1)) (fun t n => t.retireNs n)
    let e : State := { d.fresh.2 with
      grt := { d.fresh.2.grt with ptpKey := [], tik := d.fresh.1 } }
    let x := (e.each (List.range 4) State.clearPrincipal).wr F.GRT_STATUS_LIFECYCLE 0
    exec (.secureErase f) s = .next (((((x.setLevel 0).setReg R.GRT_AUTH_FAIL_CNT 0).setReg R.GRT_SPDM_ERR_CNT 0).meas5).admDone f stSuccess)) ∧
  (∀ (temp : Nat) (s : State), let u := (s.wr F.FLT_THERM_TEMP temp).wrB F.FLT_THERM_SHEDDING (decide (100 ≤ temp))
    exec (.thermalSample temp) s = .next (if s.rdB F.FLT_THERM_SHEDDING = decide (100 ≤ temp) then u
      else u.emit (.pin "SMB_ALERT_N" (s.rdB F.FLT_THERM_SHEDDING)))) ∧
  (∀ (s : State), let l := (List.range 64).filterMap s.shedOne
    (s.rdB F.FLT_THERM_SHEDDING = false → exec .thermalShedStep s = .next s) ∧
    (s.rdB F.FLT_THERM_SHEDDING = true → l ≠ [] →
      let x := s.each l State.park
      let u : State := { x with
        board := { x.board with parked := l :: x.board.parked } }
      exec .thermalShedStep s = .next (((((u.wr F.FLT_THERM_PARKED (u.rd F.FLT_THERM_PARKED + 1)).stat R.FLT_THERM_STEP_CNT).raise
        F.FLT_INT_STATUS_THERM_STEP).thermEntry 1).floorCheck))) ∧
  (∀ (l : List (Nat × Nat × Nat)) (r : List (List (Nat × Nat × Nat))) (s : State), s.board.parked = l :: r →
    (95 < s.rd F.FLT_THERM_TEMP → exec .thermalReturnStep s = .next s) ∧
    (s.rd F.FLT_THERM_TEMP ≤ 95 →
      let x : State := { s with
        board := { s.board with parked := r } }
      let u := x.each l State.unpark
      exec .thermalReturnStep s = .next ((((u.wr F.FLT_THERM_PARKED (u.rd F.FLT_THERM_PARKED - 1)).stat R.FLT_THERM_STEP_CNT).raise
        F.FLT_INT_STATUS_THERM_STEP).thermEntry 2))) ∧
  (∀ (s : State), (s.board.tripped = true ∨ s.rd F.FLT_THERM_TEMP < 112 → exec .thermalTrip s = .next s) ∧
    (s.board.tripped = false → 112 ≤ s.rd F.FLT_THERM_TEMP →
      let x : State := { s with
        board := { s.board with tripped := true, tripLog := (s.rd F.FLT_THERM_TEMP, s.fst.drip) :: s.board.tripLog } }
      let y := (x.emit (.pin "THERMTRIP_N" false)).each (List.range 8) State.portDown
      let z := y.each ((List.range 4).filter (fun a => y.rdB (F.HIF_LINK_STATUS_DL_UP a))) State.attDown
      exec .thermalTrip s = .next (z.each (List.range 16) (fun t c => t.coreReset (4 + c))))) ∧
  (∀ (w : Nat) (s : State), s.board.powered = false →
    exec (.pwrGoodRise w) s = .next (({ s with board := { s.board with powered := true } }.resetTo w 0).settle) ∧
    exec .pwrGoodFall s = .next s ∧ exec .railUndervoltage s = .next s ∧ exec .synthLock s = .next s ∧ exec .trstAssert s = .next s ∧
    exec .testLogicReset s = .next s ∧ exec .sysResetAssert s = .next { s with board := { s.board with sysResetN := false } }) ∧
  (∀ (s : State), s.board.powered = true → exec .pwrGoodFall s = .next s.powerOff ∧ exec .railUndervoltage s = .next s.powerOff ∧
    exec .synthLock s = .next ({ s with board := { s.board with synth := true } }.settle) ∧
    exec .sysResetAssert s = .next (({ s with board := { s.board with sysResetN := false } }.deviceReset 1).settle) ∧
    exec .trstAssert s = .next (s.tapTo 2) ∧ exec .testLogicReset s = .next (s.tapTo 2) ∧
    s.powerOff.board.held = true ∧ s.powerOff.board.powered = false) ∧
  (∀ (s : State), exec .sysResetRelease s = .next ({ s with board := { s.board with sysResetN := true } }.settle) ∧
    (s.board.resetDue = none → exec .deviceReset s = .next s) ∧ (∀ c, s.board.resetDue = some c → exec .deviceReset s = .next (s.deviceReset c))) ∧
  (∀ (v : Word) (s : State), exec (.resetCtrlWrite v) s = .next (if bitsOf v.toNat 0 8 = 0xA5 ∧ bitOf v.toNat 8 = true then { s with
    board := { s.board with resetDue := some 2 } } else s)) ∧
  (∀ (s : State), s.board.tripped = false → exec .vddio18Fall s = .next ({ s with board := { s.board with tripped := false } }.powerOff)) ∧
  (∀ (s : State), s.board.tripped = true → exec .vddio18Fall s =
    .next (({ s with board := { s.board with tripped := false } }.emit (.pin "THERMTRIP_N" true)).powerOff))

/-- A TAP instruction of a powered device with good straps is loaded, IDCODE giving the device's code, a private one BYPASS below debug level 3; with bad straps all but IDCODE select BYPASS. A clock that is lost takes its ports, port or attachment down, and its return lets them come up. The management link and block lock show in their registers. A replay timeout counts and at the fourth
enters Recovery. A SYN-ACK opens the connection and sends ICReq; RST or FIN loses it. QP modify sets the queue pair or is refused. A PLDM write outside its cases changes nothing. -/
def Obligations.PinsTimersAndQueuePairs : Prop :=
  (∀ (s : State), s.board.powered = true → strapsBad (s.reg R.GLB_STRAPS).toNat = false → exec .tapExtest s = .next (s.tapTo 0x00) ∧
    exec .tapSamplePreload s = .next (s.tapTo 0x01) ∧ exec .tapIdcode s = .next ((s.tapTo 0x02).emit (.tap "IDCODE" tapIdcode)) ∧ exec .tapHighz s = .next (s.tapTo 0x03) ∧
    exec .tapClamp s = .next (s.tapTo 0x04) ∧ exec .tapExtestPulse s = .next (s.tapTo 0x05) ∧ exec .tapExtestTrain s = .next (s.tapTo 0x06) ∧
    exec .tapBypass s = .next (s.tapTo 0xFF) ∧ ∀ k, exec (.tapPrivate k) s = .next (s.tapTo (if s.rd F.GRT_STATUS_DEBUG_LEVEL = 3 ∧ 0x80 ≤ k ∧ k ≤ 0xFE then k else 0xFF))) ∧
  (∀ (s : State), s.board.powered = true → strapsBad (s.reg R.GLB_STRAPS).toNat = true → exec .tapExtest s = .next (s.tapTo 0xFF) ∧
    exec .tapIdcode s = .next ((s.tapTo 0x02).emit (.tap "IDCODE" tapIdcode))) ∧
  (∀ (s : State), s.board.powered = false → exec .tapExtest s = .next s ∧ exec .tapBypass s = .next s) ∧
  (∀ (s : State), exec .ethRefclkLoss s = .next ({ s with board := { s.board with ethClk := false } }.each (List.range 8) State.portDown) ∧
    (s.board.ethClk = true → exec .ethRefclkReturn s = .next s) ∧
    (s.board.ethClk = false → exec .ethRefclkReturn s = .next ({ s with board := { s.board with ethClk := true } }.each (List.range 8) (fun t p =>
      if bitOf (t.rd F.PRT_STATUS_CONFIGURED) p && t.rd (F.PRT_LINK_STATUS_AN_STATE p) != 4 then t.anBegin p else t))) ∧
    exec .mgmtRefclkLoss s = .next ({ s with board := { s.board with mgmtClk := false } }.wrB F.PRT_MGMT_STATUS_UP false) ∧
    exec .mgmtRefclkReturn s = .next { s with board := { s.board with mgmtClk := true } } ∧
    (s.board.ncsiClk = true → exec .ncsiRefclkReturn s = .next s ∧
      exec .ncsiRefclkLoss s = .next ({ s with board := { s.board with ncsiClk := false } }.emit (.pin "NCSI_RBT_DRIVEN" false))) ∧
    (s.board.ncsiClk = false → exec .ncsiRefclkLoss s = .next s ∧
      exec .ncsiRefclkReturn s = .next ({ s with board := { s.board with ncsiClk := true } }.emit (.pin "NCSI_RBT_DRIVEN" true)))) ∧
  (∀ (a : Nat) (s : State), let u := s.updLink a (fun x => { x with refclk := false })
    (u.rdB (F.HIF_LINK_STATUS_DL_UP a) = true → exec (.pcieRefclkLoss a) s = .next (u.attDown a)) ∧
    (u.rdB (F.HIF_LINK_STATUS_DL_UP a) = false → exec (.pcieRefclkLoss a) s = .next u) ∧
    exec (.pcieRefclkReturn a) s = .next (s.updLink a (fun x => { x with refclk := true }))) ∧
  (∀ (addr : Nat) (ok : Bool) (s : State), (addr ≠ 0x32 → exec (.smbusMctpRx addr ok) s = .next s) ∧
    (s.board.held = false → exec (.smbusMctpRx 0x32 true) s = .next (s.emit (.pin "SMB_ACK" true)))) ∧
  (∀ (up : Bool) (v : Nat) (s : State), let u := s.wrB F.PRT_MGMT_STATUS_UP (up && s.board.mgmtClk)
    exec (.mgmtLinkChange up v) s = .next (u.wr F.PRT_MGMT_STATUS_SPEED (if s.rdB F.PRT_MGMT_STATUS_MODE then 3 else v % 3))) ∧
  (∀ (p : Nat) (b : Bool) (s : State), exec (.blockLockChange p b) s = .next ((((s.setPrt p { s.prt1 p with locked := b }).wrB
    (F.PRT_LINK_STATUS_LOCAL_FAULT p) (!b)).emit (.faultSeq p (if b then 2 else 1))).linkFails p)) ∧
  (∀ (a : Nat) (s : State), s.rdB (F.HIF_LINK_STATUS_DL_UP a) = true → let u := s.stat (R.HIF_REPLAY_CNT a)
    exec (.replayTimerExpiry a false) s = .next (u.updLink a (fun x => { x with replays := 1 })) ∧
    ((s.link a).replays = 3 → exec (.replayTimerExpiry a true) s =
      .next (((u.updLink a (fun x => { x with replays := 0 })).stat (R.HIF_RECOVERY_CNT a)).wr (F.HIF_LINK_STATUS_LTSSM a) 4))) ∧
  (∀ (s u : State) (p : Pkt), s.stoTake 1 (fun p => (tcpParse p.data).1.isEmpty) = (some p, u) →
    let k := p.stoIndex
    let fl := (tcpParse p.data).2.2.2
    let x := u.stoConn k
    (bitOf fl 2 = true → exec .tcpAckRx s = .next (u.connLost k)) ∧
    (bitOf fl 2 = false → bitOf fl 0 = false → x.st = .syn → bitOf fl 1 = true → bitOf fl 4 = true → exec .tcpAckRx s =
      .next ((u.setConn k { x with st := .icreq, rcv := ((tcpParse p.data).2.1 + 1) % 2 ^ 32, retries := 0 }).sendIcreq k)) ∧
    (bitOf fl 2 = false → bitOf fl 0 = false → x.st = .up → exec .tcpAckRx s = .next (u.setConn k (x.acked (tcpParse p.data).2.2.1)))) ∧
  (∀ (q : Nat) (a : QpAttr) (s : State), a.svc < 2 →
    (a.mtu = 512 → exec (.qpModify q a) s = .next (s.emit (.qpDone q stBadField))) ∧
    (a.mtu = 1024 → a.retryCnt ≤ 7 → a.rnrRetry ≤ 7 → (s.qp q).conn = none → (s.func a.fn).created = true → ∃ x : Qp,
      exec (.qpModify q a) s = .next ((s.setQp q x).emit (.qpDone q stSuccess)) ∧ x.valid = true ∧ x.error = false ∧ x.owner = some a.fn ∧ x.port = a.port ∧
      x.mtu = 1024 ∧ x.retryCnt = a.retryCnt ∧ x.rnrRetry = a.rnrRetry ∧ x.dqpn = a.dqpn ∧ x.snd = a.psn ∧ x.epsn = a.epsn ∧ x.peer = a.peer ∧
      x.rate = 1000 * s.portRate a.port)) ∧
  (∀ (b off : Nat) (d : List Byte) (s : State), s.board.held = false → b < 2 → off + d.length ≤ bankSize →
    ((s.inRecovery = true ∨ (s.rd F.GRT_BOOT_STATUS_STAGE = 3 ∧ b ≠ s.rd F.GRT_STATUS_BANK)) → exec (.pldmFwUpdate b off d) s =
      .next (s.flashWrite (bankAt b + off) d)) ∧
    (s.rd F.GRT_BOOT_STATUS_STAGE = 3 → b = s.rd F.GRT_STATUS_BANK → exec (.pldmFwUpdate b off d) s = .next s))

/-- Outside recovery, while Lantern is ready and the level suffices, each command does its effect and ends with OK, its lines before; a command above the level is answered ERR 3, one with a bad operand ERR 2, an unknown one ERR 1, and one that the state forbids ERR 4, which change only LAST_ERR and the output. Not ready, it answers nothing. In
recovery the flash of a bank is erased and written, and a command not served there is answered ERR 1. -/
def Obligations.LanternCommands : Prop :=
  (∀ (c : Instr) (s : State), s.lntReady = false → c ∈ [Instr.lntHelp, .lntStatus, .lntNonce, .lntLock, .lntTime, .lntReset, .lntUnknownCommand] → exec c s = .next s) ∧
  (∀ (s : State), s.lntReady = true → exec .lntUnknownCommand s = .next ((s.wr F.LNT_STATUS_LAST_ERR 1).emit (.lantern "ERR" [1]))) ∧
  (∀ (off v g e c : Nat) (s : State), s.lntReady = true → s.inRecovery = false → s.rd F.GRT_STATUS_DEBUG_LEVEL = 0 →
    ∀ i ∈ [Instr.lntRd off v, .lntTime, .lntReset, .lntWr off 0, .lntHalt g e, .lntResume g e, .lntBkptArm g e, .lntSumpAbort g e, .lntCoreHalt c, .lntCoreResume c],
      exec i s = .next ((s.wr F.LNT_STATUS_LAST_ERR 3).emit (.lantern "ERR" [3]))) ∧
  (∀ (s : State), s.Serves 0 → (∃ l, exec .lntHelp s = .next (s.lntOk l)) ∧
    exec .lntStatus s = .next (s.lntOk [("boot stage", [s.rd F.GRT_BOOT_STATUS_STAGE, s.rd F.GLB_BOOT_CF_STAGE]), ("bank", [s.rd F.GRT_STATUS_BANK]),
      ("versions", [s.rd F.GRT_FW_VERSION_GROTTO_VER, s.rd F.GRT_FW_VERSION_CTRL_VER]), ("flowstone", [s.rd F.FST_STATUS_STATE]),
      ("temp", [s.rd F.FLT_THERM_TEMP]), ("retired", s.rd F.FLT_STATUS_RETIRED_LINES :: s.retiredEngines)]) ∧
    exec .lntNonce s = .next (s.lntOk [("nonce", [(s.reg R.GRT_DEBUG_NONCE).toNat])]) ∧
    exec .lntLock s = .next ((s.setLevel 0).lntOk []) ∧
    (∀ n k, 1 ≤ k → k ≤ 64 → exec (.lntFault n k) s = .next (s.lntOk ((List.range k).map (fun i => s.lntFault (n + i))))) ∧
    (∀ n, exec (.lntFault n 0) s = .next (s.lntErr 2)) ∧
    (∀ b, b < 2 → exec (.lntFlashErase b) s = .next (s.lntErr 4) ∧ exec (.lntFlashWrite b []) s = .next (s.lntErr 4))) ∧
  (∀ (s : State), s.Serves 1 →
    (∀ off k, 1 ≤ k → k ≤ 64 → off % 8 = 0 → off + 8 * k ≤ 0x4000000 → exec (.lntRd off k) s = .next ((s.lntReads off k).2.lntOk [("rd", (s.lntReads off k).1)])) ∧
    exec .lntTime s = .next (s.snapshotFw.lntOk [("time", [s.snapshotFw.fst.fwSnapSec, s.snapshotFw.fst.fwSnapNs, s.snapshotFw.fst.fwSnapDrip, s.snapshotFw.fst.fwSnapSeq])]) ∧
    (∀ p, p < 8 → exec (.lntPort p) s = .next (s.lntOk [("link", [(s.view 4 (R.PRT_LINK_STATUS p)).toNat]), ("an", [(s.view 4 (R.PRT_AN_CFG p)).toNat]),
      ("counters", (portCounters p).map (fun o => (s.view 4 o).toNat))])) ∧
    exec .lntReset s = .next (((s.lntOk []).deviceReset 3).settle)) ∧
  (∀ (s : State) (g e : Nat), s.Serves 2 → g < 64 → e < 17 →
    (∀ off v, lntWritable off = true → exec (.lntWr off v) s = .next ((s.regWrite 4 0 off v false).lntOk [])) ∧
    (s.rd (F.PE_STATUS_STATE g e) = 0 → exec (.lntHalt g e) s = .next ((s.haltEngine g e).lntOk [])) ∧
    (s.rd (F.PE_STATUS_STATE g e) ≠ 0 → exec (.lntHalt g e) s = .next (s.lntErr 4)) ∧
    (s.engHalted g e = true → exec (.lntResume g e) s = .next ((((s.setEngn g e { s.engn g e with resuming := true }).each (List.range 8)
      (fun y t => y.resumeThr g e t)).drain g).lntOk [])) ∧
    (s.engHalted g e = false → exec (.lntResume g e) s = .next (s.lntErr 4)) ∧
    (∀ t n, t < 8 → 1 ≤ n → n ≤ 256 → s.engHalted g e = true → let u : State := { s with
        board := { s.board with step := some ⟨g, e, t, n⟩ } }
      exec (.lntStep g e t n) s = .next (((u.wrB F.LNT_STATUS_BUSY true).unhalt g e t).stepCheck g e t)) ∧
    (∀ t n, t < 8 → 256 < n → exec (.lntStep g e t n) s = .next (s.lntErr 2)) ∧
    (∀ t, t < 8 → exec (.lntRegs g e t) s = .next (s.lntOk [("g", (List.range 32).map (s.thr g e t).getG), ("pc", [s.pc g e t]),
      ("loops", (s.thr g e t).loops.flatMap (fun f => [f.first, f.last, f.left])), ("returns", (s.thr g e t).rets),
      ("state", [s.ts g e t, s.rd (F.PE_THREAD_WAIT_KIND g e t)])])) ∧
    exec (.lntBkptArm g e) s = .next ((s.setEngn g e { s.engn g e with armed := true }).lntOk []) ∧
    exec (.lntBkptDisarm g e) s = .next ((s.setEngn g e { s.engn g e with armed := false }).lntOk []) ∧
    (∀ n, n < 36 → exec (.lntSumpAbort g n) s = .next ((s.sumpAbort g n).lntOk []))) ∧
  (∀ (s : State) (c : Nat), s.Serves 3 → c < 16 →
    (s.board.coreHalted.contains c = false → exec (.lntCoreHalt c) s = .next ({ s with
      board := { s.board with coreHalted := c :: s.board.coreHalted } }.lntOk []) ∧ exec (.lntCoreResume c) s = .next (s.lntErr 4)) ∧
    (s.board.coreHalted.contains c = true → exec (.lntCoreHalt c) s = .next (s.lntErr 4) ∧ exec (.lntCoreResume c) s = .next ({ s with
      board := { s.board with coreHalted := s.board.coreHalted.filter (· != c) } }.lntOk [])) ∧
    (∀ addr k, 1 ≤ k → k ≤ 64 → exec (.lntCoreRd c addr k) s = .next ((s.freshWords k).2.lntOk [("core rd", addr :: (s.freshWords k).1)]))) ∧
  (∀ (x : LntStep) (s : State), s.board.step = some x → exec .lntStepTimeout s =
    .next (if s.ts x.gal x.eng x.thr = tWaiting then s.stepEnd x.gal x.eng x.thr false else s)) ∧
  (∀ (s : State) (b : Nat), s.lntReady = true → s.inRecovery = true → b < 2 →
    exec (.lntFlashErase b) s = .next ({ s with
      board := { s.board with
        flash := s.board.flash.filter (fun (c : Nat × BitVec 8) => decide (c.1 < bankAt b) || decide (bankAt b + bankSize ≤ c.1)) } }.lntOk []) ∧
    (∀ d, d.length ≤ bankSize → exec (.lntFlashWrite b d) s = .next ((s.flashWrite (bankAt b) d).lntOk [])) ∧
    exec (.lntHalt 0 0) s = .next (s.lntErr 1))
end

