-- ==== Sys2Proof/Laws/Dispatch.lean ====
section
/-! SUPPORT. Laws/Dispatch.lean: which meaning each command runs, one lemma for each command, so that no proof unfolds the dispatch. -/

namespace Sys2Proof.Machine

open Sys2Proof

@[simp] theorem exec_badSizeRegisterAccess (a rid off : Nat) (read : Bool) (s : State) : exec (.badSizeRegisterAccess a rid off read) s = execBadSizeRegisterAccess a rid off read s := rfl
@[simp] theorem exec_lowHalfRead (a rid off : Nat) (s : State) : exec (.lowHalfRead a rid off) s = execLowHalfRead a rid off s := rfl
@[simp] theorem exec_highHalfRead (a rid off : Nat) (s : State) : exec (.highHalfRead a rid off) s = execHighHalfRead a rid off s := rfl
@[simp] theorem exec_lowHalfWrite (a rid off : Nat) (v : BitVec 32) (s : State) : exec (.lowHalfWrite a rid off v) s = execLowHalfWrite a rid off v s := rfl
@[simp] theorem exec_highHalfWrite (a rid off : Nat) (v : BitVec 32) (s : State) : exec (.highHalfWrite a rid off v) s = execHighHalfWrite a rid off v s := rfl
@[simp] theorem exec_registerWrite (t : WriteTo) (s : State) : exec (.registerWrite t) s = execRegisterWrite t s := rfl
@[simp] theorem exec_errorCounterWrite (off : Nat) (v : Word) (s : State) : exec (.errorCounterWrite off v) s = execErrorCounterWrite off v s := rfl
@[simp] theorem exec_doorbellBadWrite (f rid off : Nat) (s : State) : exec (.doorbellBadWrite f rid off) s = execDoorbellBadWrite f rid off s := rfl
@[simp] theorem exec_grtWindowWrite (a rid off : Nat) (s : State) : exec (.grtWindowWrite a rid off) s = execGrtWindowWrite a rid off s := rfl
@[simp] theorem exec_dripBoundary (s : State) : exec (.dripBoundary) s = execDripBoundary s := rfl
@[simp] theorem exec_voteBoundary (s : State) : exec (.voteBoundary) s = execVoteBoundary s := rfl
@[simp] theorem exec_timeSourceSet (f : Nat) (s : State) : exec (.timeSourceSet f) s = execTimeSourceSet f s := rfl
@[simp] theorem exec_timeSourceApply (s : State) : exec (.timeSourceApply) s = execTimeSourceApply s := rfl
@[simp] theorem exec_timeStep (f : Nat) (s : State) : exec (.timeStep f) s = execTimeStep f s := rfl
@[simp] theorem exec_timeStepApply (s : State) : exec (.timeStepApply) s = execTimeStepApply s := rfl
@[simp] theorem exec_realignCountExpiry (s : State) : exec (.realignCountExpiry) s = execRealignCountExpiry s := rfl
@[simp] theorem exec_oscInLoss (s : State) : exec (.oscInLoss) s = execOscInLoss s := rfl
@[simp] theorem exec_oscInReturn (s : State) : exec (.oscInReturn) s = execOscInReturn s := rfl
@[simp] theorem exec_fdpllInputLoss (s : State) : exec (.fdpllInputLoss) s = execFdpllInputLoss s := rfl
@[simp] theorem exec_snapshotTake (who : Nat) (s : State) : exec (.snapshotTake who) s = execSnapshotTake who s := rfl
@[simp] theorem exec_portCalibrationDone (p : Nat) (ok : Bool) (tx rx temp : Nat) (s : State) : exec (.portCalibrationDone p ok tx rx temp) s = execPortCalibrationDone p ok tx rx temp s := rfl
@[simp] theorem exec_delayTempCorrection (p : Nat) (s : State) : exec (.delayTempCorrection p) s = execDelayTempCorrection p s := rfl
@[simp] theorem exec_ptpSyncTx (i p : Nat) (s : State) : exec (.ptpSyncTx i p) s = execPtpSyncTx i p s := rfl
@[simp] theorem exec_ptpSyncRx (i p : Nat) (m : PtpMsg) (s : State) : exec (.ptpSyncRx i p m) s = execPtpSyncRx i p m s := rfl
@[simp] theorem exec_ptpFollowUpRx (i p : Nat) (m : PtpMsg) (s : State) : exec (.ptpFollowUpRx i p m) s = execPtpFollowUpRx i p m s := rfl
@[simp] theorem exec_ptpDelayReqTx (i p : Nat) (s : State) : exec (.ptpDelayReqTx i p) s = execPtpDelayReqTx i p s := rfl
@[simp] theorem exec_ptpDelayReqRx (i p : Nat) (m : PtpMsg) (s : State) : exec (.ptpDelayReqRx i p m) s = execPtpDelayReqRx i p m s := rfl
@[simp] theorem exec_ptpDelayRespRx (i p : Nat) (m : PtpMsg) (s : State) : exec (.ptpDelayRespRx i p m) s = execPtpDelayRespRx i p m s := rfl
@[simp] theorem exec_ptpPdelayReqTx (i p : Nat) (s : State) : exec (.ptpPdelayReqTx i p) s = execPtpPdelayReqTx i p s := rfl
@[simp] theorem exec_ptpPdelayReqRx (i p : Nat) (m : PtpMsg) (s : State) : exec (.ptpPdelayReqRx i p m) s = execPtpPdelayReqRx i p m s := rfl
@[simp] theorem exec_ptpPdelayRespRx (i p : Nat) (m : PtpMsg) (s : State) : exec (.ptpPdelayRespRx i p m) s = execPtpPdelayRespRx i p m s := rfl
@[simp] theorem exec_ptpPdelayRespFollowUpRx (i p : Nat) (m : PtpMsg) (s : State) : exec (.ptpPdelayRespFollowUpRx i p m) s = execPtpPdelayRespFollowUpRx i p m s := rfl
@[simp] theorem exec_ptpAnnounceTx (i p : Nat) (s : State) : exec (.ptpAnnounceTx i p) s = execPtpAnnounceTx i p s := rfl
@[simp] theorem exec_ptpAnnounceRx (i p : Nat) (m : PtpMsg) (a : AnnounceMsg) (s : State) : exec (.ptpAnnounceRx i p m a) s = execPtpAnnounceRx i p m a s := rfl
@[simp] theorem exec_ptpSignalingRx (i p : Nat) (m : PtpMsg) (v : PtpTlv) (s : State) : exec (.ptpSignalingRx i p m v) s = execPtpSignalingRx i p m v s := rfl
@[simp] theorem exec_ptpManagementRx (i p : Nat) (m : PtpMsg) (s : State) : exec (.ptpManagementRx i p m) s = execPtpManagementRx i p m s := rfl
@[simp] theorem exec_ptpUnmatchedTimeout (i : Nat) (s : State) : exec (.ptpUnmatchedTimeout i) s = execPtpUnmatchedTimeout i s := rfl
@[simp] theorem exec_ptpGrantRenew (i k : Nat) (s : State) : exec (.ptpGrantRenew i k) s = execPtpGrantRenew i k s := rfl
@[simp] theorem exec_ptpGrantRequestRetry (i k : Nat) (s : State) : exec (.ptpGrantRequestRetry i k) s = execPtpGrantRequestRetry i k s := rfl
@[simp] theorem exec_ptpGrantExpiry (i client k : Nat) (s : State) : exec (.ptpGrantExpiry i client k) s = execPtpGrantExpiry i client k s := rfl
@[simp] theorem exec_esmcInfoTx (s : State) : exec (.esmcInfoTx) s = execEsmcInfoTx s := rfl
@[simp] theorem exec_esmcRx (port ql : Nat) (s : State) : exec (.esmcRx port ql) s = execEsmcRx port ql s := rfl
@[simp] theorem exec_esmcTimeout (port : Nat) (s : State) : exec (.esmcTimeout port) s = execEsmcTimeout port s := rfl
@[simp] theorem exec_synceInputLoss (n : Nat) (s : State) : exec (.synceInputLoss n) s = execSynceInputLoss n s := rfl
@[simp] theorem exec_synceHoldOffExpiry (n : Nat) (s : State) : exec (.synceHoldOffExpiry n) s = execSynceHoldOffExpiry n s := rfl
@[simp] theorem exec_synceWtrExpiry (n : Nat) (s : State) : exec (.synceWtrExpiry n) s = execSynceWtrExpiry n s := rfl
@[simp] theorem exec_ppsOutStart (n : Nat) (s : State) : exec (.ppsOutStart n) s = execPpsOutStart n s := rfl
@[simp] theorem exec_ppsOutEnd (n : Nat) (s : State) : exec (.ppsOutEnd n) s = execPpsOutEnd n s := rfl
@[simp] theorem exec_ppsInEdge (n sub : Nat) (s : State) : exec (.ppsInEdge n sub) s = execPpsInEdge n sub s := rfl
@[simp] theorem exec_todSentenceRx (n : Nat) (sumOk : Bool) (utc : Nat) (s : State) : exec (.todSentenceRx n sumOk utc) s = execTodSentenceRx n sumOk utc s := rfl
@[simp] theorem exec_ptmDialogueStart (a : Nat) (s : State) : exec (.ptmDialogueStart a) s = execPtmDialogueStart a s := rfl
@[simp] theorem exec_ptmResponseRx (a : Nat) (t2 turn : Int) (s : State) : exec (.ptmResponseRx a t2 turn) s = execPtmResponseRx a t2 turn s := rfl
@[simp] theorem exec_ptmResponseTimeout (a : Nat) (s : State) : exec (.ptmResponseTimeout a) s = execPtmResponseTimeout a s := rfl
@[simp] theorem exec_clockPageSet (f : Nat) (s : State) : exec (.clockPageSet f) s = execClockPageSet f s := rfl
@[simp] theorem exec_portFrameRx (p : Nat) (r : PortRx) (s : State) : exec (.portFrameRx p r) s = execPortFrameRx p r s := rfl
@[simp] theorem exec_cfPacketInject (id : Option Nat) (data : List (BitVec 8)) (s : State) : exec (.cfPacketInject id data) s = execCfPacketInject id data s := rfl
@[simp] theorem exec_parseTake (k arrived : Nat) (s : State) : exec (.parseTake k arrived) s = execParseTake k arrived s := rfl
@[simp] theorem exec_parseStallEnd (k : Nat) (s : State) : exec (.parseStallEnd k) s = execParseStallEnd k s := rfl
@[simp] theorem exec_parseExt (k : Nat) (s : State) : exec (.parseExt k) s = execParseExt k s := rfl
@[simp] theorem exec_parseExtb (k : Nat) (s : State) : exec (.parseExtb k) s = execParseExtb k s := rfl
@[simp] theorem exec_parseMovi (k : Nat) (s : State) : exec (.parseMovi k) s = execParseMovi k s := rfl
@[simp] theorem exec_parseShl (k : Nat) (s : State) : exec (.parseShl k) s = execParseShl k s := rfl
@[simp] theorem exec_parseShr (k : Nat) (s : State) : exec (.parseShr k) s = execParseShr k s := rfl
@[simp] theorem exec_parseAnd (k : Nat) (s : State) : exec (.parseAnd k) s = execParseAnd k s := rfl
@[simp] theorem exec_parseOr (k : Nat) (s : State) : exec (.parseOr k) s = execParseOr k s := rfl
@[simp] theorem exec_parseAdd (k : Nat) (s : State) : exec (.parseAdd k) s = execParseAdd k s := rfl
@[simp] theorem exec_parseCmp (k : Nat) (s : State) : exec (.parseCmp k) s = execParseCmp k s := rfl
@[simp] theorem exec_parseBr (k : Nat) (s : State) : exec (.parseBr k) s = execParseBr k s := rfl
@[simp] theorem exec_parseBrf (k : Nat) (s : State) : exec (.parseBrf k) s = execParseBrf k s := rfl
@[simp] theorem exec_parseAdvi (k : Nat) (s : State) : exec (.parseAdvi k) s = execParseAdvi k s := rfl
@[simp] theorem exec_parseAdvr (k : Nat) (s : State) : exec (.parseAdvr k) s = execParseAdvr k s := rfl
@[simp] theorem exec_parseEmit (k : Nat) (s : State) : exec (.parseEmit k) s = execParseEmit k s := rfl
@[simp] theorem exec_parseEmitr (k : Nat) (s : State) : exec (.parseEmitr k) s = execParseEmitr k s := rfl
@[simp] theorem exec_parseSetmd (k : Nat) (s : State) : exec (.parseSetmd k) s = execParseSetmd k s := rfl
@[simp] theorem exec_parseMark (k : Nat) (s : State) : exec (.parseMark k) s = execParseMark k s := rfl
@[simp] theorem exec_parseDone (k : Nat) (s : State) : exec (.parseDone k) s = execParseDone k s := rfl
@[simp] theorem exec_parseFail (k : Nat) (s : State) : exec (.parseFail k) s = execParseFail k s := rfl
@[simp] theorem exec_matchStage (id : Nat) (s : State) : exec (.matchStage id) s = execMatchStage id s := rfl
@[simp] theorem exec_rulesetOpen (f : Nat) (s : State) : exec (.rulesetOpen f) s = execRulesetOpen f s := rfl
@[simp] theorem exec_rulesetStage (f : Nat) (s : State) : exec (.rulesetStage f) s = execRulesetStage f s := rfl
@[simp] theorem exec_tableCreate (f : Nat) (s : State) : exec (.tableCreate f) s = execTableCreate f s := rfl
@[simp] theorem exec_rulesetAbort (f : Nat) (s : State) : exec (.rulesetAbort f) s = execRulesetAbort f s := rfl
@[simp] theorem exec_rulesetCommit (f : Nat) (s : State) : exec (.rulesetCommit f) s = execRulesetCommit f s := rfl
@[simp] theorem exec_rulesetCurrent (s : State) : exec (.rulesetCurrent) s = execRulesetCurrent s := rfl
@[simp] theorem exec_versionRetire (s : State) : exec (.versionRetire) s = execVersionRetire s := rfl
@[simp] theorem exec_settleComplete (s : State) : exec (.settleComplete) s = execSettleComplete s := rfl
@[simp] theorem exec_tcamSlotClearComplete (s : State) : exec (.tcamSlotClearComplete) s = execTcamSlotClearComplete s := rfl
@[simp] theorem exec_parseCoreFault (k other cause : Nat) (s : State) : exec (.parseCoreFault k other cause) s = execParseCoreFault k other cause s := rfl
@[simp] theorem exec_matchLaneFault (id cause : Nat) (s : State) : exec (.matchLaneFault id cause) s = execMatchLaneFault id cause s := rfl
@[simp] theorem exec_memoryReadError (store addr tab unit : Nat) (places : List Nat) (pkt : Option Nat) (ok : Bool) (s : State) : exec (.memoryReadError store addr tab unit places pkt ok) s = execMemoryReadError store addr tab unit places pkt ok s := rfl
@[simp] theorem exec_engineStart (g e : Nat) (s : State) : exec (.engineStart g e) s = execEngineStart g e s := rfl
@[simp] theorem exec_threadPacketStart (g e t : Nat) (s : State) : exec (.threadPacketStart g e t) s = execThreadPacketStart g e t s := rfl
@[simp] theorem exec_threadWake (g e t : Nat) (s : State) : exec (.threadWake g e t) s = execThreadWake g e t s := rfl
@[simp] theorem exec_sumpWaitEnd (g e t : Nat) (s : State) : exec (.sumpWaitEnd g e t) s = execSumpWaitEnd g e t s := rfl
@[simp] theorem exec_loadDataReturn (g e t : Nat) (s : State) : exec (.loadDataReturn g e t) s = execLoadDataReturn g e t s := rfl
@[simp] theorem exec_lockGrant (g n : Nat) (s : State) : exec (.lockGrant g n) s = execLockGrant g n s := rfl
@[simp] theorem exec_lockOverrun (g n : Nat) (s : State) : exec (.lockOverrun g n) s = execLockOverrun g n s := rfl
@[simp] theorem exec_engineStall (g e : Nat) (s : State) : exec (.engineStall g e) s = execEngineStall g e s := rfl
@[simp] theorem exec_supervisorEntry (g e : Nat) (s : State) : exec (.supervisorEntry g e) s = execSupervisorEntry g e s := rfl
@[simp] theorem exec_thread0FirmwareRestart (g e : Nat) (s : State) : exec (.thread0FirmwareRestart g e) s = execThread0FirmwareRestart g e s := rfl
@[simp] theorem exec_sumpAbort (g i : Nat) (s : State) : exec (.sumpAbort g i) s = execSumpAbort g i s := rfl
@[simp] theorem exec_peEventsWrite (g e v : Nat) (s : State) : exec (.peEventsWrite g e v) s = execPeEventsWrite g e v s := rfl
@[simp] theorem exec_dispatcherEnqueue (g : Nat) (s : State) : exec (.dispatcherEnqueue g) s = execDispatcherEnqueue g s := rfl
@[simp] theorem exec_handoff (g id : Nat) (s : State) : exec (.handoff g id) s = execHandoff g id s := rfl
@[simp] theorem exec_add (g e t : Nat) (s : State) : exec (.add g e t) s = execAdd g e t s := rfl
@[simp] theorem exec_sub (g e t : Nat) (s : State) : exec (.sub g e t) s = execSub g e t s := rfl
@[simp] theorem exec_and (g e t : Nat) (s : State) : exec (.and g e t) s = execAnd g e t s := rfl
@[simp] theorem exec_or (g e t : Nat) (s : State) : exec (.or g e t) s = execOr g e t s := rfl
@[simp] theorem exec_xor (g e t : Nat) (s : State) : exec (.xor g e t) s = execXor g e t s := rfl
@[simp] theorem exec_shl (g e t : Nat) (s : State) : exec (.shl g e t) s = execShl g e t s := rfl
@[simp] theorem exec_shr (g e t : Nat) (s : State) : exec (.shr g e t) s = execShr g e t s := rfl
@[simp] theorem exec_sar (g e t : Nat) (s : State) : exec (.sar g e t) s = execSar g e t s := rfl
@[simp] theorem exec_mul (g e t : Nat) (s : State) : exec (.mul g e t) s = execMul g e t s := rfl
@[simp] theorem exec_mulhu (g e t : Nat) (s : State) : exec (.mulhu g e t) s = execMulhu g e t s := rfl
@[simp] theorem exec_minu (g e t : Nat) (s : State) : exec (.minu g e t) s = execMinu g e t s := rfl
@[simp] theorem exec_maxu (g e t : Nat) (s : State) : exec (.maxu g e t) s = execMaxu g e t s := rfl
@[simp] theorem exec_sltu (g e t : Nat) (s : State) : exec (.sltu g e t) s = execSltu g e t s := rfl
@[simp] theorem exec_slt (g e t : Nat) (s : State) : exec (.slt g e t) s = execSlt g e t s := rfl
@[simp] theorem exec_seq (g e t : Nat) (s : State) : exec (.seq g e t) s = execSeq g e t s := rfl
@[simp] theorem exec_sel (g e t : Nat) (s : State) : exec (.sel g e t) s = execSel g e t s := rfl
@[simp] theorem exec_bswap (g e t : Nat) (s : State) : exec (.bswap g e t) s = execBswap g e t s := rfl
@[simp] theorem exec_clz (g e t : Nat) (s : State) : exec (.clz g e t) s = execClz g e t s := rfl
@[simp] theorem exec_csum (g e t : Nat) (s : State) : exec (.csum g e t) s = execCsum g e t s := rfl
@[simp] theorem exec_crc (g e t : Nat) (s : State) : exec (.crc g e t) s = execCrc g e t s := rfl
@[simp] theorem exec_addi (g e t : Nat) (s : State) : exec (.addi g e t) s = execAddi g e t s := rfl
@[simp] theorem exec_andi (g e t : Nat) (s : State) : exec (.andi g e t) s = execAndi g e t s := rfl
@[simp] theorem exec_ori (g e t : Nat) (s : State) : exec (.ori g e t) s = execOri g e t s := rfl
@[simp] theorem exec_xori (g e t : Nat) (s : State) : exec (.xori g e t) s = execXori g e t s := rfl
@[simp] theorem exec_shli (g e t : Nat) (s : State) : exec (.shli g e t) s = execShli g e t s := rfl
@[simp] theorem exec_shri (g e t : Nat) (s : State) : exec (.shri g e t) s = execShri g e t s := rfl
@[simp] theorem exec_sari (g e t : Nat) (s : State) : exec (.sari g e t) s = execSari g e t s := rfl
@[simp] theorem exec_insi (g e t : Nat) (s : State) : exec (.insi g e t) s = execInsi g e t s := rfl
@[simp] theorem exec_extr (g e t : Nat) (s : State) : exec (.extr g e t) s = execExtr g e t s := rfl
@[simp] theorem exec_insr (g e t : Nat) (s : State) : exec (.insr g e t) s = execInsr g e t s := rfl
@[simp] theorem exec_ld64 (g e t : Nat) (s : State) : exec (.ld64 g e t) s = execLd64 g e t s := rfl
@[simp] theorem exec_ld32 (g e t : Nat) (s : State) : exec (.ld32 g e t) s = execLd32 g e t s := rfl
@[simp] theorem exec_ld16 (g e t : Nat) (s : State) : exec (.ld16 g e t) s = execLd16 g e t s := rfl
@[simp] theorem exec_ld8 (g e t : Nat) (s : State) : exec (.ld8 g e t) s = execLd8 g e t s := rfl
@[simp] theorem exec_st64 (g e t : Nat) (s : State) : exec (.st64 g e t) s = execSt64 g e t s := rfl
@[simp] theorem exec_st32 (g e t : Nat) (s : State) : exec (.st32 g e t) s = execSt32 g e t s := rfl
@[simp] theorem exec_st16 (g e t : Nat) (s : State) : exec (.st16 g e t) s = execSt16 g e t s := rfl
@[simp] theorem exec_st8 (g e t : Nat) (s : State) : exec (.st8 g e t) s = execSt8 g e t s := rfl
@[simp] theorem exec_ldbe (g e t : Nat) (s : State) : exec (.ldbe g e t) s = execLdbe g e t s := rfl
@[simp] theorem exec_stbe (g e t : Nat) (s : State) : exec (.stbe g e t) s = execStbe g e t s := rfl
@[simp] theorem exec_pld (g e t : Nat) (s : State) : exec (.pld g e t) s = execPld g e t s := rfl
@[simp] theorem exec_sxadd (g e t : Nat) (s : State) : exec (.sxadd g e t) s = execSxadd g e t s := rfl
@[simp] theorem exec_sxchg (g e t : Nat) (s : State) : exec (.sxchg g e t) s = execSxchg g e t s := rfl
@[simp] theorem exec_flook (g e t : Nat) (s : State) : exec (.flook g e t) s = execFlook g e t s := rfl
@[simp] theorem exec_fins (g e t : Nat) (s : State) : exec (.fins g e t) s = execFins g e t s := rfl
@[simp] theorem exec_fdel (g e t : Nat) (s : State) : exec (.fdel g e t) s = execFdel g e t s := rfl
@[simp] theorem exec_fld (g e t : Nat) (s : State) : exec (.fld g e t) s = execFld g e t s := rfl
@[simp] theorem exec_fsts (g e t : Nat) (s : State) : exec (.fsts g e t) s = execFsts g e t s := rfl
@[simp] theorem exec_ctradd (g e t : Nat) (s : State) : exec (.ctradd g e t) s = execCtradd g e t s := rfl
@[simp] theorem exec_beq (g e t : Nat) (s : State) : exec (.beq g e t) s = execBeq g e t s := rfl
@[simp] theorem exec_bne (g e t : Nat) (s : State) : exec (.bne g e t) s = execBne g e t s := rfl
@[simp] theorem exec_bltu (g e t : Nat) (s : State) : exec (.bltu g e t) s = execBltu g e t s := rfl
@[simp] theorem exec_bgeu (g e t : Nat) (s : State) : exec (.bgeu g e t) s = execBgeu g e t s := rfl
@[simp] theorem exec_jmp (g e t : Nat) (s : State) : exec (.jmp g e t) s = execJmp g e t s := rfl
@[simp] theorem exec_call (g e t : Nat) (s : State) : exec (.call g e t) s = execCall g e t s := rfl
@[simp] theorem exec_ret (g e t : Nat) (s : State) : exec (.ret g e t) s = execRet g e t s := rfl
@[simp] theorem exec_loop (g e t : Nat) (s : State) : exec (.loop g e t) s = execLoop g e t s := rfl
@[simp] theorem exec_brknz (g e t : Nat) (s : State) : exec (.brknz g e t) s = execBrknz g e t s := rfl
@[simp] theorem exec_signal (g e t : Nat) (s : State) : exec (.signal g e t) s = execSignal g e t s := rfl
@[simp] theorem exec_wait (g e t : Nat) (s : State) : exec (.wait g e t) s = execWait g e t s := rfl
@[simp] theorem exec_clrev (g e t : Nat) (s : State) : exec (.clrev g e t) s = execClrev g e t s := rfl
@[simp] theorem exec_sput (g e t : Nat) (s : State) : exec (.sput g e t) s = execSput g e t s := rfl
@[simp] theorem exec_sget (g e t : Nat) (s : State) : exec (.sget g e t) s = execSget g e t s := rfl
@[simp] theorem exec_lock (g e t : Nat) (s : State) : exec (.lock g e t) s = execLock g e t s := rfl
@[simp] theorem exec_unlock (g e t : Nat) (s : State) : exec (.unlock g e t) s = execUnlock g e t s := rfl
@[simp] theorem exec_endHandoff (g e t : Nat) (s : State) : exec (.endHandoff g e t) s = execEndHandoff g e t s := rfl
@[simp] theorem exec_endRecirc (g e t : Nat) (s : State) : exec (.endRecirc g e t) s = execEndRecirc g e t s := rfl
@[simp] theorem exec_endPunt (g e t : Nat) (s : State) : exec (.endPunt g e t) s = execEndPunt g e t s := rfl
@[simp] theorem exec_endDrop (g e t : Nat) (s : State) : exec (.endDrop g e t) s = execEndDrop g e t s := rfl
@[simp] theorem exec_mfsr (g e t : Nat) (s : State) : exec (.mfsr g e t) s = execMfsr g e t s := rfl
@[simp] theorem exec_mtsr (g e t : Nat) (s : State) : exec (.mtsr g e t) s = execMtsr g e t s := rfl
@[simp] theorem exec_getg (g e t : Nat) (s : State) : exec (.getg g e t) s = execGetg g e t s := rfl
@[simp] theorem exec_putg (g e t : Nat) (s : State) : exec (.putg g e t) s = execPutg g e t s := rfl
@[simp] theorem exec_release (g e t : Nat) (s : State) : exec (.release g e t) s = execRelease g e t s := rfl
@[simp] theorem exec_restart (g e t : Nat) (s : State) : exec (.restart g e t) s = execRestart g e t s := rfl
@[simp] theorem exec_rets (g e t : Nat) (s : State) : exec (.rets g e t) s = execRets g e t s := rfl
@[simp] theorem exec_bkpt (g e t : Nat) (s : State) : exec (.bkpt g e t) s = execBkpt g e t s := rfl
@[simp] theorem exec_deadlineFault (g id : Nat) (s : State) : exec (.deadlineFault g id) s = execDeadlineFault g id s := rfl
@[simp] theorem exec_graceExpiry (g id : Nat) (s : State) : exec (.graceExpiry g id) s = execGraceExpiry g id s := rfl
@[simp] theorem exec_inputQueueExpiry (g id : Nat) (s : State) : exec (.inputQueueExpiry g id) s = execInputQueueExpiry g id s := rfl
@[simp] theorem exec_engineHwFault (g e t cause : Nat) (s : State) : exec (.engineHwFault g e t cause) s = execEngineHwFault g e t cause s := rfl
@[simp] theorem exec_galleryMemoryFault (g e t addr : Nat) (s : State) : exec (.galleryMemoryFault g e t addr) s = execGalleryMemoryFault g e t addr s := rfl
@[simp] theorem exec_engineCheckStart (g e : Nat) (s : State) : exec (.engineCheckStart g e) s = execEngineCheckStart g e s := rfl
@[simp] theorem exec_engineCheckEnd (g e : Nat) (pass : Bool) (s : State) : exec (.engineCheckEnd g e pass) s = execEngineCheckEnd g e pass s := rfl
@[simp] theorem exec_engineReturn (g e : Nat) (s : State) : exec (.engineReturn g e) s = execEngineReturn g e s := rfl
@[simp] theorem exec_engineRetire (g e : Nat) (s : State) : exec (.engineRetire g e) s = execEngineRetire g e s := rfl
@[simp] theorem exec_shareSet (f : Nat) (s : State) : exec (.shareSet f) s = execShareSet f s := rfl
@[simp] theorem exec_tmEnqueue (id : Nat) (s : State) : exec (.tmEnqueue id) s = execTmEnqueue id s := rfl
@[simp] theorem exec_tmSelect (p : Nat) (s : State) : exec (.tmSelect p) s = execTmSelect p s := rfl
@[simp] theorem exec_portFrameTxEnd (p : Nat) (s : State) : exec (.portFrameTxEnd p) s = execPortFrameTxEnd p s := rfl
@[simp] theorem exec_gateChange (p : Nat) (s : State) : exec (.gateChange p) s = execGateChange p s := rfl
@[simp] theorem exec_gateListCommit (f : Nat) (s : State) : exec (.gateListCommit f) s = execGateListCommit f s := rfl
@[simp] theorem exec_gateListCopyDone (p : Nat) (s : State) : exec (.gateListCopyDone p) s = execGateListCopyDone p s := rfl
@[simp] theorem exec_gateListStart (p : Nat) (s : State) : exec (.gateListStart p) s = execGateListStart p s := rfl
@[simp] theorem exec_sampleRound (k : Nat) (busy : Bool) (s : State) : exec (.sampleRound k busy) s = execSampleRound k busy s := rfl
@[simp] theorem exec_sampleCfgWrite (k : Nat) (v : Word) (s : State) : exec (.sampleCfgWrite k v) s = execSampleCfgWrite k v s := rfl
@[simp] theorem exec_sampleRingWrite (k : Nat) (v : Word) (s : State) : exec (.sampleRingWrite k v) s = execSampleRingWrite k v s := rfl
@[simp] theorem exec_tmTableRead (a t i : Nat) (s : State) : exec (.tmTableRead a t i) s = execTmTableRead a t i s := rfl
@[simp] theorem exec_tmTableWrite (a t i : Nat) (s : State) : exec (.tmTableWrite a t i) s = execTmTableWrite a t i s := rfl
@[simp] theorem exec_tmTableAccessDone (a : Nat) (s : State) : exec (.tmTableAccessDone a) s = execTmTableAccessDone a s := rfl
@[simp] theorem exec_espInOperation (id : Nat) (s : State) : exec (.espInOperation id) s = execEspInOperation id s := rfl
@[simp] theorem exec_espOutOperation (id : Nat) (s : State) : exec (.espOutOperation id) s = execEspOutOperation id s := rfl
@[simp] theorem exec_tlsTxOperation (id : Nat) (s : State) : exec (.tlsTxOperation id) s = execTlsTxOperation id s := rfl
@[simp] theorem exec_tlsRxSegment (id : Nat) (s : State) : exec (.tlsRxSegment id) s = execTlsRxSegment id s := rfl
@[simp] theorem exec_macsecTxFrame (p : Nat) (s : State) : exec (.macsecTxFrame p) s = execMacsecTxFrame p s := rfl
@[simp] theorem exec_macsecRxFrame (p : Nat) (s : State) : exec (.macsecRxFrame p) s = execMacsecRxFrame p s := rfl
@[simp] theorem exec_cryptoContextFetch (n : Nat) (s : State) : exec (.cryptoContextFetch n) s = execCryptoContextFetch n s := rfl
@[simp] theorem exec_cryptoLaneFault (l other cause session outcome : Nat) (s : State) : exec (.cryptoLaneFault l other cause session outcome) s = execCryptoLaneFault l other cause session outcome s := rfl
@[simp] theorem exec_sessionWrite (f : Nat) (s : State) : exec (.sessionWrite f) s = execSessionWrite f s := rfl
@[simp] theorem exec_sessionUpdate (f : Nat) (s : State) : exec (.sessionUpdate f) s = execSessionUpdate f s := rfl
@[simp] theorem exec_keyInstall (f : Nat) (s : State) : exec (.keyInstall f) s = execKeyInstall f s := rfl
@[simp] theorem exec_keyRetire (f : Nat) (s : State) : exec (.keyRetire f) s = execKeyRetire f s := rfl
@[simp] theorem exec_keyEnvelopeImport (f : Nat) (s : State) : exec (.keyEnvelopeImport f) s = execKeyEnvelopeImport f s := rfl
@[simp] theorem exec_sessionPortRead (a index part : Nat) (s : State) : exec (.sessionPortRead a index part) s = execSessionPortRead a index part s := rfl
@[simp] theorem exec_sessionPortReadDone (a : Nat) (s : State) : exec (.sessionPortReadDone a) s = execSessionPortReadDone a s := rfl
@[simp] theorem exec_secyRegisterWrite (off : Nat) (v : Word) (s : State) : exec (.secyRegisterWrite off v) s = execSecyRegisterWrite off v s := rfl
@[simp] theorem exec_nvmeIdentify (f : Nat) (s : State) : exec (.nvmeIdentify f) s = execNvmeIdentify f s := rfl
@[simp] theorem exec_nvmeGetLogPage (f : Nat) (s : State) : exec (.nvmeGetLogPage f) s = execNvmeGetLogPage f s := rfl
@[simp] theorem exec_nvmeSetFeatures (f : Nat) (s : State) : exec (.nvmeSetFeatures f) s = execNvmeSetFeatures f s := rfl
@[simp] theorem exec_nvmeGetFeatures (f : Nat) (s : State) : exec (.nvmeGetFeatures f) s = execNvmeGetFeatures f s := rfl
@[simp] theorem exec_nvmeCreateIoSq (f : Nat) (s : State) : exec (.nvmeCreateIoSq f) s = execNvmeCreateIoSq f s := rfl
@[simp] theorem exec_nvmeCreateIoCq (f : Nat) (s : State) : exec (.nvmeCreateIoCq f) s = execNvmeCreateIoCq f s := rfl
@[simp] theorem exec_nvmeDeleteIoSq (f : Nat) (s : State) : exec (.nvmeDeleteIoSq f) s = execNvmeDeleteIoSq f s := rfl
@[simp] theorem exec_nvmeDeleteIoCq (f : Nat) (s : State) : exec (.nvmeDeleteIoCq f) s = execNvmeDeleteIoCq f s := rfl
@[simp] theorem exec_nvmeAbort (f : Nat) (s : State) : exec (.nvmeAbort f) s = execNvmeAbort f s := rfl
@[simp] theorem exec_nvmeAsyncEventRequest (f : Nat) (s : State) : exec (.nvmeAsyncEventRequest f) s = execNvmeAsyncEventRequest f s := rfl
@[simp] theorem exec_nvmeUnsupportedOpcode (f q : Nat) (s : State) : exec (.nvmeUnsupportedOpcode f q) s = execNvmeUnsupportedOpcode f q s := rfl
@[simp] theorem exec_nvmeFlush (f q : Nat) (s : State) : exec (.nvmeFlush f q) s = execNvmeFlush f q s := rfl
@[simp] theorem exec_nvmeWrite (f q : Nat) (s : State) : exec (.nvmeWrite f q) s = execNvmeWrite f q s := rfl
@[simp] theorem exec_nvmeRead (f q : Nat) (s : State) : exec (.nvmeRead f q) s = execNvmeRead f q s := rfl
@[simp] theorem exec_nvmeWriteZeroes (f q : Nat) (s : State) : exec (.nvmeWriteZeroes f q) s = execNvmeWriteZeroes f q s := rfl
@[simp] theorem exec_nvmeDatasetManagement (f q : Nat) (s : State) : exec (.nvmeDatasetManagement f q) s = execNvmeDatasetManagement f q s := rfl
@[simp] theorem exec_virtioBlkIn (f n : Nat) (s : State) : exec (.virtioBlkIn f n) s = execVirtioBlkIn f n s := rfl
@[simp] theorem exec_virtioBlkOut (f n : Nat) (s : State) : exec (.virtioBlkOut f n) s = execVirtioBlkOut f n s := rfl
@[simp] theorem exec_virtioBlkFlush (f n : Nat) (s : State) : exec (.virtioBlkFlush f n) s = execVirtioBlkFlush f n s := rfl
@[simp] theorem exec_virtioBlkGetId (f n : Nat) (s : State) : exec (.virtioBlkGetId f n) s = execVirtioBlkGetId f n s := rfl
@[simp] theorem exec_virtioBlkDiscard (f n : Nat) (s : State) : exec (.virtioBlkDiscard f n) s = execVirtioBlkDiscard f n s := rfl
@[simp] theorem exec_virtioBlkWriteZeroes (f n : Nat) (s : State) : exec (.virtioBlkWriteZeroes f n) s = execVirtioBlkWriteZeroes f n s := rfl
@[simp] theorem exec_virtioBlkUnsupported (f n : Nat) (s : State) : exec (.virtioBlkUnsupported f n) s = execVirtioBlkUnsupported f n s := rfl
@[simp] theorem exec_backendIssue (k : Nat) (s : State) : exec (.backendIssue k) s = execBackendIssue k s := rfl
@[simp] theorem exec_backendCompletion (k : Nat) (s : State) : exec (.backendCompletion k) s = execBackendCompletion k s := rfl
@[simp] theorem exec_attemptTimeout (id : Nat) (s : State) : exec (.attemptTimeout id) s = execAttemptTimeout id s := rfl
@[simp] theorem exec_issueWaitTimeout (id : Nat) (s : State) : exec (.issueWaitTimeout id) s = execIssueWaitTimeout id s := rfl
@[simp] theorem exec_icrespRx (k : Nat) (s : State) : exec (.icrespRx k) s = execIcrespRx k s := rfl
@[simp] theorem exec_fabricsConnectResponse (k : Nat) (s : State) : exec (.fabricsConnectResponse k) s = execFabricsConnectResponse k s := rfl
@[simp] theorem exec_fabricsConnectRetry (p : Nat) (s : State) : exec (.fabricsConnectRetry p) s = execFabricsConnectRetry p s := rfl
@[simp] theorem exec_keepAliveTimer (p : Nat) (s : State) : exec (.keepAliveTimer p) s = execKeepAliveTimer p s := rfl
@[simp] theorem exec_tcpRtoExpiry (k : Nat) (s : State) : exec (.tcpRtoExpiry k) s = execTcpRtoExpiry k s := rfl
@[simp] theorem exec_nvmeTcpPduRx (s : State) : exec (.nvmeTcpPduRx) s = execNvmeTcpPduRx s := rfl
@[simp] theorem exec_rocePacketRx (s : State) : exec (.rocePacketRx) s = execRocePacketRx s := rfl
@[simp] theorem exec_roceAckTimeout (q : Nat) (s : State) : exec (.roceAckTimeout q) s = execRoceAckTimeout q s := rfl
@[simp] theorem exec_cnpRx (s : State) : exec (.cnpRx) s = execCnpRx s := rfl
@[simp] theorem exec_rateIncreasePeriod (q : Nat) (s : State) : exec (.rateIncreasePeriod q) s = execRateIncreasePeriod q s := rfl
@[simp] theorem exec_ctrlCreate (f : Nat) (s : State) : exec (.ctrlCreate f) s = execCtrlCreate f s := rfl
@[simp] theorem exec_ctrlDestroy (f : Nat) (s : State) : exec (.ctrlDestroy f) s = execCtrlDestroy f s := rfl
@[simp] theorem exec_nsCreate (f : Nat) (s : State) : exec (.nsCreate f) s = execNsCreate f s := rfl
@[simp] theorem exec_nsDestroy (f : Nat) (s : State) : exec (.nsDestroy f) s = execNsDestroy f s := rfl
@[simp] theorem exec_pathCreate (f : Nat) (s : State) : exec (.pathCreate f) s = execPathCreate f s := rfl
@[simp] theorem exec_pathDestroy (f : Nat) (s : State) : exec (.pathDestroy f) s = execPathDestroy f s := rfl
@[simp] theorem exec_stoContextRead (a table index part : Nat) (s : State) : exec (.stoContextRead a table index part) s = execStoContextRead a table index part s := rfl
@[simp] theorem exec_stoTcpCfgWrite (v : Word) (s : State) : exec (.stoTcpCfgWrite v) s = execStoTcpCfgWrite v s := rfl
@[simp] theorem exec_pcieLinkUp (a rate width : Nat) (flit rev : Bool) (s : State) : exec (.pcieLinkUp a rate width flit rev) s = execPcieLinkUp a rate width flit rev s := rfl
@[simp] theorem exec_pcieLinkDown (a : Nat) (s : State) : exec (.pcieLinkDown a) s = execPcieLinkDown a s := rfl
@[simp] theorem exec_perstAssert (a : Nat) (s : State) : exec (.perstAssert a) s = execPerstAssert a s := rfl
@[simp] theorem exec_perstRelease (a : Nat) (s : State) : exec (.perstRelease a) s = execPerstRelease a s := rfl
@[simp] theorem exec_retrainLink (a rate width : Nat) (flit rev : Bool) (s : State) : exec (.retrainLink a rate width flit rev) s = execRetrainLink a rate width flit rev s := rfl
@[simp] theorem exec_bmeClear (f : Nat) (s : State) : exec (.bmeClear f) s = execBmeClear f s := rfl
@[simp] theorem exec_bmeSet (f : Nat) (s : State) : exec (.bmeSet f) s = execBmeSet f s := rfl
@[simp] theorem exec_flrInitiate (f : Nat) (s : State) : exec (.flrInitiate f) s = execFlrInitiate f s := rfl
@[simp] theorem exec_flrComplete (f : Nat) (s : State) : exec (.flrComplete f) s = execFlrComplete f s := rfl
@[simp] theorem exec_d3hotEntry (f : Nat) (s : State) : exec (.d3hotEntry f) s = execD3hotEntry f s := rfl
@[simp] theorem exec_msixVectorUnmask (f : Nat) (vec : Option Nat) (s : State) : exec (.msixVectorUnmask f vec) s = execMsixVectorUnmask f vec s := rfl
@[simp] theorem exec_hostReadIssue (a : Nat) (s : State) : exec (.hostReadIssue a) s = execHostReadIssue a s := rfl
@[simp] theorem exec_readCompletionRx (a tag status : Nat) (s : State) : exec (.readCompletionRx a tag status) s = execReadCompletionRx a tag status s := rfl
@[simp] theorem exec_completionTimeout (a tag : Nat) (s : State) : exec (.completionTimeout a tag) s = execCompletionTimeout a tag s := rfl
@[simp] theorem exec_tagQuarantineEnd (a tag : Nat) (s : State) : exec (.tagQuarantineEnd a tag) s = execTagQuarantineEnd a tag s := rfl
@[simp] theorem exec_malformedTlp (f kind : Nat) (read : Bool) (s : State) : exec (.malformedTlp f kind read) s = execMalformedTlp f kind read s := rfl
@[simp] theorem exec_ideCheckFail (a k : Nat) (s : State) : exec (.ideCheckFail a k) s = execIdeCheckFail a k s := rfl
@[simp] theorem exec_peerWindowRequest (a x len rid : Nat) (data : Option (List (BitVec 8))) (s : State) : exec (.peerWindowRequest a x len rid data) s = execPeerWindowRequest a x len rid data s := rfl
@[simp] theorem exec_winCommit (a mask : Nat) (s : State) : exec (.winCommit a mask) s = execWinCommit a mask s := rfl
@[simp] theorem exec_winSwap (a : Nat) (s : State) : exec (.winSwap a) s = execWinSwap a s := rfl
@[simp] theorem exec_lockInterfaceRequest (c n f k : Nat) (good : Bool) (s : State) : exec (.lockInterfaceRequest c n f k good) s = execLockInterfaceRequest c n f k good s := rfl
@[simp] theorem exec_startInterfaceRequest (c n f nonce : Nat) (good : Bool) (s : State) : exec (.startInterfaceRequest c n f nonce good) s = execStartInterfaceRequest c n f nonce good s := rfl
@[simp] theorem exec_stopInterfaceRequest (c n f : Nat) (good : Bool) (s : State) : exec (.stopInterfaceRequest c n f good) s = execStopInterfaceRequest c n f good s := rfl
@[simp] theorem exec_getDeviceInterfaceReport (c n f : Nat) (good : Bool) (s : State) : exec (.getDeviceInterfaceReport c n f good) s = execGetDeviceInterfaceReport c n f good s := rfl
@[simp] theorem exec_atsInvalidateRequest (a : Nat) (s : State) : exec (.atsInvalidateRequest a) s = execAtsInvalidateRequest a s := rfl
@[simp] theorem exec_dbTxQueue (f q idx gen hi : Nat) (s : State) : exec (.dbTxQueue f q idx gen hi) s = execDbTxQueue f q idx gen hi s := rfl
@[simp] theorem exec_dbRxQueue (f q idx gen hi : Nat) (s : State) : exec (.dbRxQueue f q idx gen hi) s = execDbRxQueue f q idx gen hi s := rfl
@[simp] theorem exec_dbCompletionRing (f q idx gen hi : Nat) (s : State) : exec (.dbCompletionRing f q idx gen hi) s = execDbCompletionRing f q idx gen hi s := rfl
@[simp] theorem exec_dbEventRing (f q idx gen hi : Nat) (s : State) : exec (.dbEventRing f q idx gen hi) s = execDbEventRing f q idx gen hi s := rfl
@[simp] theorem exec_dbAdminSlot (f q idx gen hi : Nat) (s : State) : exec (.dbAdminSlot f q idx gen hi) s = execDbAdminSlot f q idx gen hi s := rfl
@[simp] theorem exec_dbAdminCompletion (f q idx gen hi : Nat) (s : State) : exec (.dbAdminCompletion f q idx gen hi) s = execDbAdminCompletion f q idx gen hi s := rfl
@[simp] theorem exec_dbVirtioNet (f q idx gen hi : Nat) (s : State) : exec (.dbVirtioNet f q idx gen hi) s = execDbVirtioNet f q idx gen hi s := rfl
@[simp] theorem exec_dbVirtioBlk (f q idx gen hi : Nat) (s : State) : exec (.dbVirtioBlk f q idx gen hi) s = execDbVirtioBlk f q idx gen hi s := rfl
@[simp] theorem exec_dbNvmeSqTail (f q idx gen hi : Nat) (s : State) : exec (.dbNvmeSqTail f q idx gen hi) s = execDbNvmeSqTail f q idx gen hi s := rfl
@[simp] theorem exec_dbNvmeCqHead (f q idx gen hi : Nat) (s : State) : exec (.dbNvmeCqHead f q idx gen hi) s = execDbNvmeCqHead f q idx gen hi s := rfl
@[simp] theorem exec_setupItem (f item value gen hi : Nat) (s : State) : exec (.setupItem f item value gen hi) s = execSetupItem f item value gen hi s := rfl
@[simp] theorem exec_setupEnable (f value gen hi : Nat) (s : State) : exec (.setupEnable f value gen hi) s = execSetupEnable f value gen hi s := rfl
@[simp] theorem exec_adminSlotFetch (f slotRead opRead : Nat) (s : State) : exec (.adminSlotFetch f slotRead opRead) s = execAdminSlotFetch f slotRead opRead s := rfl
@[simp] theorem exec_identifyFunction (f : Nat) (s : State) : exec (.identifyFunction f) s = execIdentifyFunction f s := rfl
@[simp] theorem exec_functionCreate (f : Nat) (s : State) : exec (.functionCreate f) s = execFunctionCreate f s := rfl
@[simp] theorem exec_functionDestroy (f : Nat) (s : State) : exec (.functionDestroy f) s = execFunctionDestroy f s := rfl
@[simp] theorem exec_cqCreate (f : Nat) (s : State) : exec (.cqCreate f) s = execCqCreate f s := rfl
@[simp] theorem exec_cqDestroy (f : Nat) (s : State) : exec (.cqDestroy f) s = execCqDestroy f s := rfl
@[simp] theorem exec_queueCreate (f : Nat) (s : State) : exec (.queueCreate f) s = execQueueCreate f s := rfl
@[simp] theorem exec_queueDestroy (f : Nat) (s : State) : exec (.queueDestroy f) s = execQueueDestroy f s := rfl
@[simp] theorem exec_queueEnable (f : Nat) (s : State) : exec (.queueEnable f) s = execQueueEnable f s := rfl
@[simp] theorem exec_queueDisable (f : Nat) (s : State) : exec (.queueDisable f) s = execQueueDisable f s := rfl
@[simp] theorem exec_queueDisableComplete (f : Nat) (late : Bool) (s : State) : exec (.queueDisableComplete f late) s = execQueueDisableComplete f late s := rfl
@[simp] theorem exec_moderationSet (f : Nat) (s : State) : exec (.moderationSet f) s = execModerationSet f s := rfl
@[simp] theorem exec_txDescriptorFetch (f k q : Nat) (s : State) : exec (.txDescriptorFetch f k q) s = execTxDescriptorFetch f k q s := rfl
@[simp] theorem exec_txCompletionWrite (f k q : Nat) (s : State) : exec (.txCompletionWrite f k q) s = execTxCompletionWrite f k q s := rfl
@[simp] theorem exec_ropeStartRequest (c entry p0 p1 p2 p3 : Nat) (s : State) : exec (.ropeStartRequest c entry p0 p1 p2 p3) s = execRopeStartRequest c entry p0 p1 p2 p3 s := rfl
@[simp] theorem exec_ropeProgramStart (c : Nat) (s : State) : exec (.ropeProgramStart c) s = execRopeProgramStart c s := rfl
@[simp] theorem exec_ropeMove (c : Nat) (s : State) : exec (.ropeMove c) s = execRopeMove c s := rfl
@[simp] theorem exec_ropeLoop (c : Nat) (s : State) : exec (.ropeLoop c) s = execRopeLoop c s := rfl
@[simp] theorem exec_ropeWait (c : Nat) (s : State) : exec (.ropeWait c) s = execRopeWait c s := rfl
@[simp] theorem exec_ropeWaitRelease (c : Nat) (s : State) : exec (.ropeWaitRelease c) s = execRopeWaitRelease c s := rfl
@[simp] theorem exec_ropeWaitTimeout (c : Nat) (s : State) : exec (.ropeWaitTimeout c) s = execRopeWaitTimeout c s := rfl
@[simp] theorem exec_ropeSignal (c : Nat) (s : State) : exec (.ropeSignal c) s = execRopeSignal c s := rfl
@[simp] theorem exec_ropeEnd (c : Nat) (s : State) : exec (.ropeEnd c) s = execRopeEnd c s := rfl
@[simp] theorem exec_ropeChunkRead (e : Nat) (s : State) : exec (.ropeChunkRead e) s = execRopeChunkRead e s := rfl
@[simp] theorem exec_ropeChunkWrite (e : Nat) (s : State) : exec (.ropeChunkWrite e) s = execRopeChunkWrite e s := rfl
@[simp] theorem exec_ropeChunkFault (c cause : Nat) (ok : Bool) (s : State) : exec (.ropeChunkFault c cause ok) s = execRopeChunkFault c cause ok s := rfl
@[simp] theorem exec_ropeProgramStop (c : Nat) (s : State) : exec (.ropeProgramStop c) s = execRopeProgramStop c s := rfl
@[simp] theorem exec_mbxSlotStore (who rid m c w : Nat) (v : Word) (s : State) : exec (.mbxSlotStore who rid m c w v) s = execMbxSlotStore who rid m c w v s := rfl
@[simp] theorem exec_mbxDoorbellWrite (who rid m c : Nat) (s : State) : exec (.mbxDoorbellWrite who rid m c) s = execMbxDoorbellWrite who rid m c s := rfl
@[simp] theorem exec_mbxSlotWord7Read (who rid m c : Nat) (s : State) : exec (.mbxSlotWord7Read who rid m c) s = execMbxSlotWord7Read who rid m c s := rfl
@[simp] theorem exec_mbxEmptyClear (who rid m c : Nat) (s : State) : exec (.mbxEmptyClear who rid m c) s = execMbxEmptyClear who rid m c s := rfl
@[simp] theorem exec_mbxMaskWrite (who m : Nat) (empty : Bool) (v : Nat) (s : State) : exec (.mbxMaskWrite who m empty v) s = execMbxMaskWrite who m empty v s := rfl
@[simp] theorem exec_anComplete (p pAdv pAble pReq : Nat) (s : State) : exec (.anComplete p pAdv pAble pReq) s = execAnComplete p pAdv pAble pReq s := rfl
@[simp] theorem exec_anRestart (p : Nat) (s : State) : exec (.anRestart p) s = execAnRestart p s := rfl
@[simp] theorem exec_laneTrainingDone (p : Nat) (ok : Bool) (s : State) : exec (.laneTrainingDone p ok) s = execLaneTrainingDone p ok s := rfl
@[simp] theorem exec_trainRetryTimer (p : Nat) (s : State) : exec (.trainRetryTimer p) s = execTrainRetryTimer p s := rfl
@[simp] theorem exec_portLinkUp (p : Nat) (s : State) : exec (.portLinkUp p) s = execPortLinkUp p s := rfl
@[simp] theorem exec_portLinkDown (p : Nat) (s : State) : exec (.portLinkDown p) s = execPortLinkDown p s := rfl
@[simp] theorem exec_faultSequenceRx (p kind : Nat) (s : State) : exec (.faultSequenceRx p kind) s = execFaultSequenceRx p kind s := rfl
@[simp] theorem exec_pfcFrameRx (p vec : Nat) (times : List Nat) (s : State) : exec (.pfcFrameRx p vec times) s = execPfcFrameRx p vec times s := rfl
@[simp] theorem exec_pfcPauseExpiry (p i : Nat) (s : State) : exec (.pfcPauseExpiry p i) s = execPfcPauseExpiry p i s := rfl
@[simp] theorem exec_pfcRefresh (p : Nat) (s : State) : exec (.pfcRefresh p) s = execPfcRefresh p s := rfl
@[simp] theorem exec_pfcCfgWrite (p : Nat) (v : Word) (s : State) : exec (.pfcCfgWrite p v) s = execPfcCfgWrite p v s := rfl
@[simp] theorem exec_preemptVerifyTx (p : Nat) (s : State) : exec (.preemptVerifyTx p) s = execPreemptVerifyTx p s := rfl
@[simp] theorem exec_preemptRespondRx (p : Nat) (s : State) : exec (.preemptRespondRx p) s = execPreemptRespondRx p s := rfl
@[simp] theorem exec_preemptCfgWrite (p : Nat) (v : Word) (s : State) : exec (.preemptCfgWrite p v) s = execPreemptCfgWrite p v s := rfl
@[simp] theorem exec_moduleInsert (k rev : Nat) (app : Option Nat) (temp : Nat) (s : State) : exec (.moduleInsert k rev app temp) s = execModuleInsert k rev app temp s := rfl
@[simp] theorem exec_moduleRemove (k : Nat) (s : State) : exec (.moduleRemove k) s = execModuleRemove k s := rfl
@[simp] theorem exec_moduleInterrupt (k : Nat) (nack : Bool) (temp : Nat) (s : State) : exec (.moduleInterrupt k nack temp) s = execModuleInterrupt k nack temp s := rfl
@[simp] theorem exec_modulePoll (k : Nat) (nack : Bool) (temp : Nat) (s : State) : exec (.modulePoll k nack temp) s = execModulePoll k nack temp s := rfl
@[simp] theorem exec_moduleI2cRetry (k : Nat) (nack : Bool) (s : State) : exec (.moduleI2cRetry k nack) s = execModuleI2cRetry k nack s := rfl
@[simp] theorem exec_moduleRead (a k page bank off lenM1 : Nat) (s : State) : exec (.moduleRead a k page bank off lenM1) s = execModuleRead a k page bank off lenM1 s := rfl
@[simp] theorem exec_moduleWrite (a k page bank off lenM1 : Nat) (s : State) : exec (.moduleWrite a k page bank off lenM1) s = execModuleWrite a k page bank off lenM1 s := rfl
@[simp] theorem exec_moduleAccessDone (a : Nat) (nack : Bool) (data : Nat) (s : State) : exec (.moduleAccessDone a nack data) s = execModuleAccessDone a nack data s := rfl
@[simp] theorem exec_mgmtFrameRx (l : List Byte) (s : State) : exec (.mgmtFrameRx l) s = execMgmtFrameRx l s := rfl
@[simp] theorem exec_ncsiClearInitialState (c : Nat) (sumOk : Bool) (s : State) : exec (.ncsiClearInitialState c sumOk) s = execNcsiClearInitialState c sumOk s := rfl
@[simp] theorem exec_ncsiSelectPackage (sumOk : Bool) (s : State) : exec (.ncsiSelectPackage sumOk) s = execNcsiSelectPackage sumOk s := rfl
@[simp] theorem exec_ncsiDeselectPackage (sumOk : Bool) (s : State) : exec (.ncsiDeselectPackage sumOk) s = execNcsiDeselectPackage sumOk s := rfl
@[simp] theorem exec_ncsiEnableChannel (c : Nat) (sumOk : Bool) (s : State) : exec (.ncsiEnableChannel c sumOk) s = execNcsiEnableChannel c sumOk s := rfl
@[simp] theorem exec_ncsiDisableChannel (c : Nat) (sumOk : Bool) (s : State) : exec (.ncsiDisableChannel c sumOk) s = execNcsiDisableChannel c sumOk s := rfl
@[simp] theorem exec_ncsiResetChannel (c : Nat) (sumOk : Bool) (s : State) : exec (.ncsiResetChannel c sumOk) s = execNcsiResetChannel c sumOk s := rfl
@[simp] theorem exec_ncsiEnableNetworkTx (c : Nat) (sumOk : Bool) (s : State) : exec (.ncsiEnableNetworkTx c sumOk) s = execNcsiEnableNetworkTx c sumOk s := rfl
@[simp] theorem exec_ncsiDisableNetworkTx (c : Nat) (sumOk : Bool) (s : State) : exec (.ncsiDisableNetworkTx c sumOk) s = execNcsiDisableNetworkTx c sumOk s := rfl
@[simp] theorem exec_ncsiAenEnable (c mc mask : Nat) (sumOk : Bool) (s : State) : exec (.ncsiAenEnable c mc mask sumOk) s = execNcsiAenEnable c mc mask sumOk s := rfl
@[simp] theorem exec_ncsiGetLinkStatus (c : Nat) (sumOk : Bool) (s : State) : exec (.ncsiGetLinkStatus c sumOk) s = execNcsiGetLinkStatus c sumOk s := rfl
@[simp] theorem exec_ncsiGetVersionId (c : Nat) (sumOk : Bool) (s : State) : exec (.ncsiGetVersionId c sumOk) s = execNcsiGetVersionId c sumOk s := rfl
@[simp] theorem exec_ncsiGetCapabilities (c : Nat) (sumOk : Bool) (s : State) : exec (.ncsiGetCapabilities c sumOk) s = execNcsiGetCapabilities c sumOk s := rfl
@[simp] theorem exec_ncsiGetParameters (c : Nat) (sumOk : Bool) (s : State) : exec (.ncsiGetParameters c sumOk) s = execNcsiGetParameters c sumOk s := rfl
@[simp] theorem exec_ncsiGetControllerStats (c : Nat) (sumOk : Bool) (s : State) : exec (.ncsiGetControllerStats c sumOk) s = execNcsiGetControllerStats c sumOk s := rfl
@[simp] theorem exec_ncsiGetNcsiStats (c : Nat) (sumOk : Bool) (s : State) : exec (.ncsiGetNcsiStats c sumOk) s = execNcsiGetNcsiStats c sumOk s := rfl
@[simp] theorem exec_ncsiGetPassthroughStats (c : Nat) (sumOk : Bool) (s : State) : exec (.ncsiGetPassthroughStats c sumOk) s = execNcsiGetPassthroughStats c sumOk s := rfl
@[simp] theorem exec_ncsiSetMacAddress (c i addr : Nat) (en sumOk : Bool) (s : State) : exec (.ncsiSetMacAddress c i addr en sumOk) s = execNcsiSetMacAddress c i addr en sumOk s := rfl
@[simp] theorem exec_ncsiEnableBroadcastFilter (c mask : Nat) (sumOk : Bool) (s : State) : exec (.ncsiEnableBroadcastFilter c mask sumOk) s = execNcsiEnableBroadcastFilter c mask sumOk s := rfl
@[simp] theorem exec_ncsiDisableBroadcastFilter (c : Nat) (sumOk : Bool) (s : State) : exec (.ncsiDisableBroadcastFilter c sumOk) s = execNcsiDisableBroadcastFilter c sumOk s := rfl
@[simp] theorem exec_ncsiEnableMulticastFilter (c mask : Nat) (sumOk : Bool) (s : State) : exec (.ncsiEnableMulticastFilter c mask sumOk) s = execNcsiEnableMulticastFilter c mask sumOk s := rfl
@[simp] theorem exec_ncsiDisableMulticastFilter (c : Nat) (sumOk : Bool) (s : State) : exec (.ncsiDisableMulticastFilter c sumOk) s = execNcsiDisableMulticastFilter c sumOk s := rfl
@[simp] theorem exec_ncsiSetVlanFilter (c i vid : Nat) (en sumOk : Bool) (s : State) : exec (.ncsiSetVlanFilter c i vid en sumOk) s = execNcsiSetVlanFilter c i vid en sumOk s := rfl
@[simp] theorem exec_ncsiEnableVlan (c mode : Nat) (sumOk : Bool) (s : State) : exec (.ncsiEnableVlan c mode sumOk) s = execNcsiEnableVlan c mode sumOk s := rfl
@[simp] theorem exec_ncsiDisableVlan (c : Nat) (sumOk : Bool) (s : State) : exec (.ncsiDisableVlan c sumOk) s = execNcsiDisableVlan c sumOk s := rfl
@[simp] theorem exec_ncsiUnsupportedCommand (c kind : Nat) (sumOk : Bool) (s : State) : exec (.ncsiUnsupportedCommand c kind sumOk) s = execNcsiUnsupportedCommand c kind sumOk s := rfl
@[simp] theorem exec_ncsiPassthroughTx (c : Nat) (l : List Byte) (s : State) : exec (.ncsiPassthroughTx c l) s = execNcsiPassthroughTx c l s := rfl
@[simp] theorem exec_grottoRomStart (s : State) : exec (.grottoRomStart) s = execGrottoRomStart s := rfl
@[simp] theorem exec_grottoImageVerifyDone (s : State) : exec (.grottoImageVerifyDone) s = execGrottoImageVerifyDone s := rfl
@[simp] theorem exec_controlFwRelease (s : State) : exec (.controlFwRelease) s = execControlFwRelease s := rfl
@[simp] theorem exec_spdmGetVersion (c : Nat) (ok : Bool) (s : State) : exec (.spdmGetVersion c ok) s = execSpdmGetVersion c ok s := rfl
@[simp] theorem exec_spdmGetCapabilities (c ver : Nat) (ok : Bool) (s : State) : exec (.spdmGetCapabilities c ver ok) s = execSpdmGetCapabilities c ver ok s := rfl
@[simp] theorem exec_spdmNegotiateAlgorithms (c ver : Nat) (common ok : Bool) (s : State) : exec (.spdmNegotiateAlgorithms c ver common ok) s = execSpdmNegotiateAlgorithms c ver common ok s := rfl
@[simp] theorem exec_spdmGetDigests (c ver : Nat) (ok : Bool) (s : State) : exec (.spdmGetDigests c ver ok) s = execSpdmGetDigests c ver ok s := rfl
@[simp] theorem exec_spdmGetCertificate (c ver slot off len : Nat) (ok : Bool) (s : State) : exec (.spdmGetCertificate c ver slot off len ok) s = execSpdmGetCertificate c ver slot off len ok s := rfl
@[simp] theorem exec_spdmChallenge (c ver slot nonce : Nat) (ok : Bool) (s : State) : exec (.spdmChallenge c ver slot nonce ok) s = execSpdmChallenge c ver slot nonce ok s := rfl
@[simp] theorem exec_spdmGetMeasurements (c ver index nonce : Nat) (sig ok : Bool) (s : State) : exec (.spdmGetMeasurements c ver index nonce sig ok) s = execSpdmGetMeasurements c ver index nonce sig ok s := rfl
@[simp] theorem exec_spdmKeyExchange (c ver n beat : Nat) (ok : Bool) (s : State) : exec (.spdmKeyExchange c ver n beat ok) s = execSpdmKeyExchange c ver n beat ok s := rfl
@[simp] theorem exec_spdmFinish (c n : Nat) (good mac : Bool) (s : State) : exec (.spdmFinish c n good mac) s = execSpdmFinish c n good mac s := rfl
@[simp] theorem exec_spdmHeartbeat (c n : Nat) (good : Bool) (s : State) : exec (.spdmHeartbeat c n good) s = execSpdmHeartbeat c n good s := rfl
@[simp] theorem exec_spdmKeyUpdate (c n op : Nat) (good : Bool) (s : State) : exec (.spdmKeyUpdate c n op good) s = execSpdmKeyUpdate c n op good s := rfl
@[simp] theorem exec_spdmEndSession (c n : Nat) (good : Bool) (s : State) : exec (.spdmEndSession c n good) s = execSpdmEndSession c n good s := rfl
@[simp] theorem exec_spdmChunkTransfer (c ver len : Nat) (send ok : Bool) (s : State) : exec (.spdmChunkTransfer c ver len send ok) s = execSpdmChunkTransfer c ver len send ok s := rfl
@[simp] theorem exec_spdmUnsupportedRequest (c : Nat) (s : State) : exec (.spdmUnsupportedRequest c) s = execSpdmUnsupportedRequest c s := rfl
@[simp] theorem exec_spdmHeartbeatTimeout (n : Nat) (s : State) : exec (.spdmHeartbeatTimeout n) s = execSpdmHeartbeatTimeout n s := rfl
@[simp] theorem exec_ideKmQuery (c n : Nat) (good : Bool) (s : State) : exec (.ideKmQuery c n good) s = execIdeKmQuery c n good s := rfl
@[simp] theorem exec_ideKmKeyProg (c n a k b key : Nat) (good : Bool) (s : State) : exec (.ideKmKeyProg c n a k b key good) s = execIdeKmKeyProg c n a k b key good s := rfl
@[simp] theorem exec_ideKmKSetGo (c n a k b : Nat) (good : Bool) (s : State) : exec (.ideKmKSetGo c n a k b good) s = execIdeKmKSetGo c n a k b good s := rfl
@[simp] theorem exec_ideKmKSetStop (c n a k b : Nat) (good : Bool) (s : State) : exec (.ideKmKSetStop c n a k b good) s = execIdeKmKSetStop c n a k b good s := rfl
@[simp] theorem exec_fwActivate (f : Nat) (s : State) : exec (.fwActivate f) s = execFwActivate f s := rfl
@[simp] theorem exec_principalRekey (f : Nat) (s : State) : exec (.principalRekey f) s = execPrincipalRekey f s := rfl
@[simp] theorem exec_debugUnlock (f : Nat) (s : State) : exec (.debugUnlock f) s = execDebugUnlock f s := rfl
@[simp] theorem exec_secureErase (f : Nat) (s : State) : exec (.secureErase f) s = execSecureErase f s := rfl
@[simp] theorem exec_thermalSample (temp : Nat) (s : State) : exec (.thermalSample temp) s = execThermalSample temp s := rfl
@[simp] theorem exec_thermalShedStep (s : State) : exec (.thermalShedStep) s = execThermalShedStep s := rfl
@[simp] theorem exec_thermalReturnStep (s : State) : exec (.thermalReturnStep) s = execThermalReturnStep s := rfl
@[simp] theorem exec_thermalTrip (s : State) : exec (.thermalTrip) s = execThermalTrip s := rfl
@[simp] theorem exec_pwrGoodRise (straps : Nat) (s : State) : exec (.pwrGoodRise straps) s = execPwrGoodRise straps s := rfl
@[simp] theorem exec_pwrGoodFall (s : State) : exec (.pwrGoodFall) s = execPwrGoodFall s := rfl
@[simp] theorem exec_sysResetAssert (s : State) : exec (.sysResetAssert) s = execSysResetAssert s := rfl
@[simp] theorem exec_resetCtrlWrite (v : Word) (s : State) : exec (.resetCtrlWrite v) s = execResetCtrlWrite v s := rfl
@[simp] theorem exec_deviceReset (s : State) : exec (.deviceReset) s = execDeviceReset s := rfl
@[simp] theorem exec_synthLock (s : State) : exec (.synthLock) s = execSynthLock s := rfl
@[simp] theorem exec_hifReadySet (ms : Nat) (s : State) : exec (.hifReadySet ms) s = execHifReadySet ms s := rfl
@[simp] theorem exec_trstAssert (s : State) : exec (.trstAssert) s = execTrstAssert s := rfl
@[simp] theorem exec_tapExtest (s : State) : exec (.tapExtest) s = execTapExtest s := rfl
@[simp] theorem exec_tapSamplePreload (s : State) : exec (.tapSamplePreload) s = execTapSamplePreload s := rfl
@[simp] theorem exec_tapIdcode (s : State) : exec (.tapIdcode) s = execTapIdcode s := rfl
@[simp] theorem exec_tapHighz (s : State) : exec (.tapHighz) s = execTapHighz s := rfl
@[simp] theorem exec_tapClamp (s : State) : exec (.tapClamp) s = execTapClamp s := rfl
@[simp] theorem exec_tapExtestPulse (s : State) : exec (.tapExtestPulse) s = execTapExtestPulse s := rfl
@[simp] theorem exec_tapExtestTrain (s : State) : exec (.tapExtestTrain) s = execTapExtestTrain s := rfl
@[simp] theorem exec_tapPrivate (code : Nat) (s : State) : exec (.tapPrivate code) s = execTapPrivate code s := rfl
@[simp] theorem exec_tapBypass (s : State) : exec (.tapBypass) s = execTapBypass s := rfl
@[simp] theorem exec_lntHelp (s : State) : exec (.lntHelp) s = execLntHelp s := rfl
@[simp] theorem exec_lntStatus (s : State) : exec (.lntStatus) s = execLntStatus s := rfl
@[simp] theorem exec_lntNonce (s : State) : exec (.lntNonce) s = execLntNonce s := rfl
@[simp] theorem exec_lntLock (s : State) : exec (.lntLock) s = execLntLock s := rfl
@[simp] theorem exec_lntFault (n k : Nat) (s : State) : exec (.lntFault n k) s = execLntFault n k s := rfl
@[simp] theorem exec_lntRd (off k : Nat) (s : State) : exec (.lntRd off k) s = execLntRd off k s := rfl
@[simp] theorem exec_lntTime (s : State) : exec (.lntTime) s = execLntTime s := rfl
@[simp] theorem exec_lntPort (p : Nat) (s : State) : exec (.lntPort p) s = execLntPort p s := rfl
@[simp] theorem exec_lntReset (s : State) : exec (.lntReset) s = execLntReset s := rfl
@[simp] theorem exec_lntWr (off : Nat) (v : Word) (s : State) : exec (.lntWr off v) s = execLntWr off v s := rfl
@[simp] theorem exec_lntHalt (g e : Nat) (s : State) : exec (.lntHalt g e) s = execLntHalt g e s := rfl
@[simp] theorem exec_lntResume (g e : Nat) (s : State) : exec (.lntResume g e) s = execLntResume g e s := rfl
@[simp] theorem exec_lntStep (g e t n : Nat) (s : State) : exec (.lntStep g e t n) s = execLntStep g e t n s := rfl
@[simp] theorem exec_lntStepTimeout (s : State) : exec (.lntStepTimeout) s = execLntStepTimeout s := rfl
@[simp] theorem exec_lntRegs (g e t : Nat) (s : State) : exec (.lntRegs g e t) s = execLntRegs g e t s := rfl
@[simp] theorem exec_lntBkptArm (g e : Nat) (s : State) : exec (.lntBkptArm g e) s = execLntBkptArm g e s := rfl
@[simp] theorem exec_lntBkptDisarm (g e : Nat) (s : State) : exec (.lntBkptDisarm g e) s = execLntBkptDisarm g e s := rfl
@[simp] theorem exec_lntSumpAbort (g n : Nat) (s : State) : exec (.lntSumpAbort g n) s = execLntSumpAbort g n s := rfl
@[simp] theorem exec_lntCoreHalt (c : Nat) (s : State) : exec (.lntCoreHalt c) s = execLntCoreHalt c s := rfl
@[simp] theorem exec_lntCoreResume (c : Nat) (s : State) : exec (.lntCoreResume c) s = execLntCoreResume c s := rfl
@[simp] theorem exec_lntCoreRd (c addr k : Nat) (s : State) : exec (.lntCoreRd c addr k) s = execLntCoreRd c addr k s := rfl
@[simp] theorem exec_lntFlashErase (b : Nat) (s : State) : exec (.lntFlashErase b) s = execLntFlashErase b s := rfl
@[simp] theorem exec_lntFlashWrite (b : Nat) (data : List (BitVec 8)) (s : State) : exec (.lntFlashWrite b data) s = execLntFlashWrite b data s := rfl
@[simp] theorem exec_lntUnknownCommand (s : State) : exec (.lntUnknownCommand) s = execLntUnknownCommand s := rfl
@[simp] theorem exec_pldmFwUpdate (b off : Nat) (data : List (BitVec 8)) (s : State) : exec (.pldmFwUpdate b off data) s = execPldmFwUpdate b off data s := rfl
@[simp] theorem exec_railUndervoltage (s : State) : exec (.railUndervoltage) s = execRailUndervoltage s := rfl
@[simp] theorem exec_ethRefclkLoss (s : State) : exec (.ethRefclkLoss) s = execEthRefclkLoss s := rfl
@[simp] theorem exec_mgmtRefclkLoss (s : State) : exec (.mgmtRefclkLoss) s = execMgmtRefclkLoss s := rfl
@[simp] theorem exec_ncsiRefclkLoss (s : State) : exec (.ncsiRefclkLoss) s = execNcsiRefclkLoss s := rfl
@[simp] theorem exec_ncsiRefclkReturn (s : State) : exec (.ncsiRefclkReturn) s = execNcsiRefclkReturn s := rfl
@[simp] theorem exec_pcieRefclkLoss (a : Nat) (s : State) : exec (.pcieRefclkLoss a) s = execPcieRefclkLoss a s := rfl
@[simp] theorem exec_vddio18Fall (s : State) : exec (.vddio18Fall) s = execVddio18Fall s := rfl
@[simp] theorem exec_smbusMctpRx (addr : Nat) (pecOk : Bool) (s : State) : exec (.smbusMctpRx addr pecOk) s = execSmbusMctpRx addr pecOk s := rfl
@[simp] theorem exec_ethRefclkReturn (s : State) : exec (.ethRefclkReturn) s = execEthRefclkReturn s := rfl
@[simp] theorem exec_mgmtRefclkReturn (s : State) : exec (.mgmtRefclkReturn) s = execMgmtRefclkReturn s := rfl
@[simp] theorem exec_pcieRefclkReturn (a : Nat) (s : State) : exec (.pcieRefclkReturn a) s = execPcieRefclkReturn a s := rfl
@[simp] theorem exec_mgmtLinkChange (up : Bool) (speed : Nat) (s : State) : exec (.mgmtLinkChange up speed) s = execMgmtLinkChange up speed s := rfl
@[simp] theorem exec_blockLockChange (p : Nat) (locked : Bool) (s : State) : exec (.blockLockChange p locked) s = execBlockLockChange p locked s := rfl
@[simp] theorem exec_synceInputRecovery (n : Nat) (s : State) : exec (.synceInputRecovery n) s = execSynceInputRecovery n s := rfl
@[simp] theorem exec_frequencyDpllLock (s : State) : exec (.frequencyDpllLock) s = execFrequencyDpllLock s := rfl
@[simp] theorem exec_ptpAnnounceReceiptTimeout (i : Nat) (s : State) : exec (.ptpAnnounceReceiptTimeout i) s = execPtpAnnounceReceiptTimeout i s := rfl
@[simp] theorem exec_replayTimerExpiry (a : Nat) (same : Bool) (s : State) : exec (.replayTimerExpiry a same) s = execReplayTimerExpiry a same s := rfl
@[simp] theorem exec_tcpAckRx (s : State) : exec (.tcpAckRx) s = execTcpAckRx s := rfl
@[simp] theorem exec_sysResetRelease (s : State) : exec (.sysResetRelease) s = execSysResetRelease s := rfl
@[simp] theorem exec_testLogicReset (s : State) : exec (.testLogicReset) s = execTestLogicReset s := rfl
@[simp] theorem exec_qpModify (q : Nat) (a : QpAttr) (s : State) : exec (.qpModify q a) s = execQpModify q a s := rfl

end Sys2Proof.Machine
end

