-- ==== Sys2Proof/Laws/Kept.lean ====
section
/-! SUPPORT. Laws/Kept.lean: what almost no operation touches, and how to show that an operation leaves it alone: the waiting commands, the
lines that decide the core reset, the flash, the keys of principals; memories keep their canonical form, outputs and free values
taken only grow. -/

namespace Sys2Proof.Machine

open Sys2Proof

/-- The waiting commands, the lines that decide the core reset, the flash, and the keys of principals. -/
structure Fixed where
  pending : List Instr
  powered : Bool
  synth : Bool
  sysResetN : Bool
  held : Bool
  tapIr : Nat
  flash : Mem
  prinKey : Map Nat

/-- That part of the board. -/
def Board.fix (b : Board) : Bool × Bool × Bool × Bool × Nat × Mem := (b.powered, b.synth, b.sysResetN, b.held, b.tapIr, b.flash)

/-- That part of Grotto. -/
def Grotto.fix (g : Grotto) : Map Nat := g.prinKey

/-- That part of a state. -/
def State.fix (s : State) : Fixed :=
  ⟨s.pending, s.board.powered, s.board.synth, s.board.sysResetN, s.board.held, s.board.tapIr, s.board.flash, s.grt.prinKey⟩

/-- What every operation but a few keeps from s to t. -/
structure Kept (s t : State) : Prop where
  fix : t.fix = s.fix
  mem : Mem.wf s.mem = true → Mem.wf t.mem = true
  hbm : Mem.wf s.hbm = true → Mem.wf t.hbm = true
  out : s.out <:+ t.out
  free : s.free ≤ t.free

/-- Nothing done. -/
theorem Kept.refl (s : State) : Kept s s := ⟨rfl, id, id, List.suffix_refl _, le_refl _⟩

/-- One after another. -/
theorem Kept.trans {s t u : State} (h : Kept s t) (k : Kept t u) : Kept s u :=
  ⟨k.fix.trans h.fix, k.mem ∘ h.mem, k.hbm ∘ h.hbm, h.out.trans k.out, le_trans h.free k.free⟩

/-- The last of two. -/
theorem Kept.after {s t u : State} (k : Kept t u) (h : Kept s t) : Kept s u := h.trans k

/-- A state built from the fields of another one. -/
theorem kept_mk {s t : State} {board : Board} {grt : Grotto} {regs split fst car funcs reads readWait quar links adminOrder held blkInt path
    eng cry tm prt sto rope mbx} (hb : board.fix = t.board.fix) (hg : grt.fix = t.grt.fix) (h : Kept s t) :
    Kept s (State.mk t.pending t.out t.free regs split t.mem t.hbm fst car funcs reads readWait quar links adminOrder held blkInt path eng
      grt cry tm prt sto rope mbx board) := by
  refine h.trans ⟨?_, id, id, List.suffix_refl _, le_refl _⟩
  simp only [Board.fix, Prod.mk.injEq] at hb
  simp only [Grotto.fix] at hg
  obtain ⟨b1, b2, b3, b4, b5, b6⟩ := hb
  simp only [State.fix, b1, b2, b3, b4, b5, b6, hg]

/-- The same with memories, outputs and free values taken changed as they may be. -/
theorem kept_mk2 {s t : State} {out : List Emit} {free : Nat} {mem hbm : Mem} {regs split fst car funcs reads readWait quar links adminOrder
    held blkInt path eng cry tm prt sto rope mbx} (ho : t.out <:+ out) (hf : t.free ≤ free) (hm : Mem.wf t.mem = true → Mem.wf mem = true)
    (hh : Mem.wf t.hbm = true → Mem.wf hbm = true) (h : Kept s t) :
    Kept s (State.mk t.pending out free regs split mem hbm fst car funcs reads readWait quar links adminOrder held blkInt path eng
      t.grt cry tm prt sto rope mbx t.board) :=
  h.trans ⟨rfl, hm, hh, ho, hf⟩

/-- A choice. -/
theorem kept_ite {c : Prop} [Decidable c] {s a b : State} (ha : Kept s a) (hb : Kept s b) : Kept s (if c then a else b) := by
  split
  · exact ha
  · exact hb

/-- A list of changes. -/
theorem each_kept {α : Type} {s u : State} {l : List α} {g : State → α → State} (hs : Kept s u) (h : ∀ t a, Kept t (g t a)) :
    Kept s (u.each l g) := by
  unfold State.each
  induction l generalizing u with
  | nil => exact hs
  | cons a l ih => exact ih (hs.trans (h u a))

/-- The second part of a pair that a meaning has taken apart. -/
theorem pair_kept {α : Type} {p : α × State} {v : α} {s t : State} (h : p = (v, t)) (hp : Kept s p.2) : Kept s t := by
  rw [h] at hp
  exact hp

/-- The first part of a pair that a meaning has taken apart. -/
theorem pair_kept1 {α : Type} {p : State × α} {v : α} {s t : State} (h : p = (t, v)) (hp : Kept s p.1) : Kept s t := by
  rw [h] at hp
  exact hp

/-- The last part of a triple that a meaning has taken apart. -/
theorem triple_kept {α β : Type} {p : α × β × State} {v : α} {w : β} {s t : State} (h : p = (v, w, t)) (hp : Kept s p.2.2) : Kept s t := by
  rw [h] at hp
  exact hp

/-- The next state of a meaning keeps it. -/
@[irreducible] def OutKept (s : State) (o : Out) : Prop := ∀ t, o = .next t → Kept s t

/-- The next state of a meaning. -/
theorem out_get {o : Out} {s t : State} (h : OutKept s o) (e : o = .next t) : Kept s t := by
  unfold OutKept at h
  exact h t e

/-- A meaning that answers a state. -/
theorem out_next {s t : State} (h : Kept s t) : OutKept s (.next t) := by
  unfold OutKept
  intro u e
  cases e
  exact h

/-- A meaning that chooses. -/
theorem out_ite {c : Prop} [Decidable c] {s : State} {a b : Out} (ha : OutKept s a) (hb : OutKept s b) : OutKept s (if c then a else b) := by
  split
  · exact ha
  · exact hb

/-- What an instruction of Pyray leads to keeps it. -/
@[irreducible] def PyKept (s : State) : PyRes → Prop
  | .ok t => Kept s t
  | .jump t _ => Kept s t
  | .stay t => Kept s t
  | .exc _ => True

/-- The state of an instruction after which the PC moves on. -/
theorem py_get {s t : State} (h : PyKept s (.ok t)) : Kept s t := by
  unfold PyKept at h
  exact h

/-- The state of an instruction that goes elsewhere. -/
theorem py_getj {s t : State} {pc : Nat} (h : PyKept s (.jump t pc)) : Kept s t := by
  unfold PyKept at h
  exact h

/-- The state of an instruction at which the PC stays. -/
theorem py_gets {s t : State} (h : PyKept s (.stay t)) : Kept s t := by
  unfold PyKept at h
  exact h

/-- An instruction after which the PC moves on. -/
theorem py_ok {s t : State} (h : Kept s t) : PyKept s (.ok t) := by
  unfold PyKept
  exact h

/-- An instruction that goes elsewhere. -/
theorem py_jump {s t : State} {pc : Nat} (h : Kept s t) : PyKept s (.jump t pc) := by
  unfold PyKept
  exact h

/-- An instruction at which the PC stays. -/
theorem py_stay {s t : State} (h : Kept s t) : PyKept s (.stay t) := by
  unfold PyKept
  exact h

/-- An exception. -/
theorem py_exc {s : State} {c : Nat} : PyKept s (.exc c) := by
  unfold PyKept
  trivial

/-- An instruction that chooses. -/
theorem py_ite {c : Prop} [Decidable c] {s : State} {a b : PyRes} (ha : PyKept s a) (hb : PyKept s b) : PyKept s (if c then a else b) := by
  split
  · exact ha
  · exact hb

/-- An optional state keeps it. -/
@[irreducible] def OptKept (s : State) (o : Option State) : Prop := ∀ t, o = some t → Kept s t

/-- An optional state taken apart. -/
theorem opt_get {o : Option State} {s t : State} (h : OptKept s o) (e : o = some t) : Kept s t := by
  unfold OptKept at h
  exact h t e

/-- An optional state that is there. -/
theorem opt_some {s t : State} (h : Kept s t) : OptKept s (some t) := by
  unfold OptKept
  intro u e
  cases e
  exact h

/-- An optional state that is absent. -/
theorem opt_none {s : State} : OptKept s none := by
  unfold OptKept
  intro u e
  cases e

/-- An optional state that is chosen. -/
theorem opt_ite {c : Prop} [Decidable c] {s : State} {a b : Option State} (ha : OptKept s a) (hb : OptKept s b) :
    OptKept s (if c then a else b) := by
  split
  · exact ha
  · exact hb

/-- An optional state with a result keeps it. -/
@[irreducible] def OpKept {α : Type} (s : State) (o : Option (α × State)) : Prop := ∀ v, o = some v → Kept s v.2

/-- An optional result taken apart. -/
theorem op_get {α : Type} {o : Option (α × State)} {s t : State} {v : α} (h : OpKept s o) (e : o = some (v, t)) : Kept s t := by
  unfold OpKept at h
  exact h _ e

/-- An optional result that is there. -/
theorem op_some {α : Type} {v : α} {s t : State} (h : Kept s t) : OpKept s (some (v, t)) := by
  unfold OpKept
  intro u e
  cases e
  exact h

/-- An optional result that is absent. -/
theorem op_none {α : Type} {s : State} : OpKept s (none : Option (α × State)) := by
  unfold OpKept
  intro u e
  cases e

/-- An optional result that is chosen. -/
theorem op_ite {α : Type} {c : Prop} [Decidable c] {s : State} {a b : Option (α × State)} (ha : OpKept s a) (hb : OpKept s b) :
    OpKept s (if c then a else b) := by
  split
  · exact ha
  · exact hb

/-- An optional result changed in its result alone. -/
theorem op_map {α β : Type} {s : State} {o : Option (α × State)} {g : α × State → β × State} (hg : ∀ r, (g r).2 = r.2) (h : OpKept s o) :
    OpKept s (o.map g) := by
  unfold OpKept at *
  intro v e
  cases o with
  | none => simp at e
  | some r =>
    have : g r = v := by simpa using e
    rw [← this, hg]
    exact h r rfl

/-- What an instruction of Pyray leads to, taken apart. -/
theorem py_after {s t : State} {r : PyRes} (h : PyKept s r) (e : r = .ok t ∨ (∃ pc, r = .jump t pc) ∨ r = .stay t) : Kept s t := by
  rcases e with e | ⟨pc, e⟩ | e
  · exact py_get (e ▸ h)
  · exact py_getj (e ▸ h)
  · exact py_gets (e ▸ h)

/-- A list of changes of a state that carries something along. -/
theorem foldl_kept {α β : Type} {s : State} {l : List α} {g : State × β → α → State × β} {u : State × β} (hs : Kept s u.1)
    (h : ∀ t a, Kept t.1 (g t a).1) : Kept s (l.foldl g u).1 := by
  induction l generalizing u with
  | nil => exact hs
  | cons a l ih => exact ih (hs.trans (h u a))

/-- An optional result after other changes. -/
theorem op_after {α : Type} {s t : State} {o : Option (α × State)} (h : OpKept t o) (k : Kept s t) : OpKept s o := by
  unfold OpKept at *
  intro v e
  exact k.trans (h v e)

end Sys2Proof.Machine
end

