-- ==== Sys2Proof/Laws/Store.lean ====
section
/-! SUPPORT. Laws/Store.lean: reads after writes in a sparse store, and its canonical form. -/

namespace Sys2Proof.Machine

/-! Reads after writes -/

/-- An erased key reads as the default. -/
theorem Map.get_erase_self {α : Type} (m : Map α) (d : α) (k : Nat) : Map.get (Map.erase m k) d k = d := by
  induction m with
  | nil => rfl
  | cons e t ih => obtain ⟨a, v⟩ := e; by_cases h : a = k <;> simp [Map.erase, Map.get, h, ih]

/-- Erasing a key leaves the others. -/
theorem Map.get_erase_ne {α : Type} (m : Map α) (d : α) {k j : Nat} (h : j ≠ k) : Map.get (Map.erase m k) d j = Map.get m d j := by
  induction m with
  | nil => rfl
  | cons e t ih =>
    obtain ⟨a, v⟩ := e
    by_cases ha : a = k
    · have : a ≠ j := fun e => h (e ▸ ha)
      simp [Map.erase, Map.get, ha, ih, Ne.symm h]
    · simp only [Map.erase, ha, if_false, Map.get, ih]

/-- An inserted key reads as its value, when it was not listed. -/
theorem Map.get_insert_self {α : Type} (m : Map α) (d v : α) (k : Nat) (h : ∀ e ∈ m, e.1 ≠ k) : Map.get (Map.insert m k v) d k = v := by
  induction m with
  | nil => simp [Map.insert, Map.get]
  | cons e t ih =>
    obtain ⟨a, w⟩ := e
    have ha : a ≠ k := h (a, w) (by simp)
    by_cases hk : k < a
    · simp [Map.insert, Map.get, hk]
    · simp [Map.insert, Map.get, hk, ha, ih (fun e he => h e (by simp [he]))]

/-- Inserting a key leaves the others. -/
theorem Map.get_insert_ne {α : Type} (m : Map α) (d v : α) {k j : Nat} (h : j ≠ k) : Map.get (Map.insert m k v) d j = Map.get m d j := by
  induction m with
  | nil => simp [Map.insert, Map.get, Ne.symm h]
  | cons e t ih =>
    obtain ⟨a, w⟩ := e
    by_cases hk : k < a
    · simp [Map.insert, Map.get, hk, Ne.symm h]
    · simp only [Map.insert, hk, if_false, Map.get, ih]

/-- No entry of an erased store has the key. -/
theorem Map.not_mem_erase {α : Type} (m : Map α) (k : Nat) : ∀ e ∈ Map.erase m k, e.1 ≠ k := by
  induction m with
  | nil => simp [Map.erase]
  | cons e t ih =>
    obtain ⟨a, v⟩ := e
    by_cases h : a = k
    · simpa [Map.erase, h] using ih
    · intro x hx
      rcases List.mem_cons.1 (by simpa [Map.erase, h] using hx) with rfl | hx
      · exact h
      · exact ih x hx

/-- A store reads what was written. -/
@[simp] theorem Map.get_set_self {α : Type} [DecidableEq α] (m : Map α) (d : α) (k : Nat) (v : α) : Map.get (Map.set m d k v) d k = v := by
  unfold Map.set
  split
  · rename_i h
    rw [Map.get_erase_self, h]
  · exact Map.get_insert_self _ _ _ _ (Map.not_mem_erase m k)

/-- A write leaves every other key. -/
theorem Map.get_set_ne {α : Type} [DecidableEq α] (m : Map α) (d e : α) (v : α) {k j : Nat} (h : j ≠ k) :
    Map.get (Map.set m d k v) e j = Map.get m e j := by
  unfold Map.set
  split
  · exact Map.get_erase_ne m e h
  · rw [Map.get_insert_ne _ _ _ h, Map.get_erase_ne m e h]

/-! The canonical form -/

/-- A lower bound of the keys may be lowered. -/
theorem Map.wfFrom_le {α : Type} [DecidableEq α] {lo hi : Nat} (h : lo ≤ hi) {m : Map α} {d : Nat → α} (w : Map.wfFrom hi m d = true) :
    Map.wfFrom lo m d = true := by
  cases m with
  | nil => rfl
  | cons e t =>
    obtain ⟨a, v⟩ := e
    simp only [Map.wfFrom, Bool.and_eq_true, decide_eq_true_eq] at w ⊢
    exact ⟨⟨by omega, w.1.2⟩, w.2⟩

/-- Erasing keeps the form. -/
theorem Map.wfFrom_erase {α : Type} [DecidableEq α] {lo : Nat} {m : Map α} {d : Nat → α} (k : Nat) (w : Map.wfFrom lo m d = true) :
    Map.wfFrom lo (Map.erase m k) d = true := by
  induction m generalizing lo with
  | nil => rfl
  | cons e t ih =>
    obtain ⟨a, v⟩ := e
    simp only [Map.wfFrom, Bool.and_eq_true, decide_eq_true_eq] at w
    by_cases h : a = k
    · simp only [Map.erase, h, if_true]
      exact ih (Map.wfFrom_le (by omega) w.2)
    · simp only [Map.erase, h, if_false, Map.wfFrom, Bool.and_eq_true, decide_eq_true_eq]
      exact ⟨w.1, ih w.2⟩

/-- Inserting a key that is not listed keeps the form. -/
theorem Map.wfFrom_insert {α : Type} [DecidableEq α] {lo : Nat} {m : Map α} {d : Nat → α} {k : Nat} {v : α} (w : Map.wfFrom lo m d = true)
    (hk : lo ≤ k) (hv : v ≠ d k) (hm : ∀ e ∈ m, e.1 ≠ k) : Map.wfFrom lo (Map.insert m k v) d = true := by
  induction m generalizing lo with
  | nil => simp [Map.insert, Map.wfFrom, hk, hv]
  | cons e t ih =>
    obtain ⟨a, u⟩ := e
    simp only [Map.wfFrom, Bool.and_eq_true, decide_eq_true_eq] at w
    have ha : a ≠ k := hm (a, u) (by simp)
    by_cases h : k < a
    · simp only [Map.insert, h, if_true, Map.wfFrom, Bool.and_eq_true, decide_eq_true_eq]
      exact ⟨⟨hk, hv⟩, ⟨⟨by omega, w.1.2⟩, w.2⟩⟩
    · simp only [Map.insert, h, if_false, Map.wfFrom, Bool.and_eq_true, decide_eq_true_eq]
      exact ⟨w.1, ih w.2 (by omega) (fun e he => hm e (by simp [he]))⟩

/-- A write keeps the form. -/
theorem Map.wf_set {α : Type} [DecidableEq α] {m : Map α} {d : Nat → α} (k : Nat) (v : α) (w : Map.wf m d = true) :
    Map.wf (Map.set m (d k) k v) d = true := by
  unfold Map.set
  split
  · exact Map.wfFrom_erase k w
  · rename_i h
    exact Map.wfFrom_insert (Map.wfFrom_erase k w) (Nat.zero_le k) h (Map.not_mem_erase m k)

/-- What a selection of a store keeps. -/
theorem Map.wfFrom_filter {α : Type} [DecidableEq α] {lo : Nat} {m : Map α} {d : Nat → α} (g : Nat × α → Bool) (w : Map.wfFrom lo m d = true) :
    Map.wfFrom lo (m.filter g) d = true := by
  induction m generalizing lo with
  | nil => exact w
  | cons e t ih =>
    obtain ⟨a, v⟩ := e
    simp only [Map.wfFrom, Bool.and_eq_true] at w
    obtain ⟨⟨w1, w2⟩, w3⟩ := w
    by_cases h : g (a, v) = true
    · simp only [List.filter_cons, h, if_true, Map.wfFrom, Bool.and_eq_true]
      exact ⟨⟨w1, w2⟩, ih w3⟩
    · simp only [List.filter_cons, h]
      exact ih (Map.wfFrom_le (by simp only [decide_eq_true_eq] at w1; omega) w3)

/-- A selection of a byte memory is in canonical form. -/
theorem Mem.wf_filter {m : Mem} (g : Nat × BitVec 8 → Bool) (w : Mem.wf m = true) : Mem.wf (m.filter g) = true :=
  Map.wfFrom_filter g w

/-- Writing a byte keeps the form. -/
theorem Mem.wf_put {m : Mem} (a : Nat) (b : BitVec 8) (w : Mem.wf m = true) : Mem.wf (Mem.put m a b) = true :=
  Map.wf_set (d := fun _ => 0) a b w

/-- Writing bytes keeps the form. -/
theorem Mem.wf_putBytes {m : Mem} (a : Nat) (l : List (BitVec 8)) (w : Mem.wf m = true) : Mem.wf (Mem.putBytes m a l) = true := by
  induction l generalizing m a with
  | nil => exact w
  | cons b t ih => exact ih (a + 1) (Mem.wf_put a b w)

/-- Writing a little-endian number keeps the form. -/
theorem Mem.wf_putLe {m : Mem} (a n v : Nat) (w : Mem.wf m = true) : Mem.wf (Mem.putLe m a n v) = true := by
  unfold Mem.putLe
  exact Mem.wf_putBytes a _ w

/-- A byte outside what is written keeps its value. -/
theorem Mem.byte_putBytes_out (m : Mem) (a : Nat) (l : List (BitVec 8)) {x : Nat} (h : x < a ∨ a + l.length ≤ x) :
    Mem.byte (Mem.putBytes m a l) x = Mem.byte m x := by
  induction l generalizing m a with
  | nil => rfl
  | cons b t ih =>
    rw [List.length_cons] at h
    rw [Mem.putBytes, ih (Mem.put m a b) (a + 1) (by omega)]
    exact Map.get_set_ne _ _ _ _ (by omega)

/-- A byte written reads as written. -/
theorem Mem.byte_putBytes_in (m : Mem) (a : Nat) (l : List (BitVec 8)) {i : Nat} (h : i < l.length) :
    Mem.byte (Mem.putBytes m a l) (a + i) = l[i] := by
  induction l generalizing m a i with
  | nil => simp at h
  | cons b t ih =>
    cases i with
    | zero =>
      rw [Mem.putBytes, Mem.byte_putBytes_out _ _ _ (by omega)]
      exact Map.get_set_self _ _ _ _
    | succ j =>
      have := ih (Mem.put m a b) (a + 1) (i := j) (by simpa using h)
      rw [Mem.putBytes, show a + (j + 1) = a + 1 + j by omega, this]
      rfl

end Sys2Proof.Machine
end

