-- ==== Sys2Proof/Laws/KeptTime.lean ====
section
/-! SUPPORT. Laws/KeptTime.lean: what the operations of the registers, packets, the clock and PTP leave alone, and how memories, outputs and free values go on
(Kept), one lemma for each operation. -/

namespace Sys2Proof.Machine

open Sys2Proof

set_option linter.unusedVariables false
set_option linter.unreachableTactic false
set_option linter.unusedTactic false
set_option cleanup.letToHave false

theorem State.setReg_kept (s : State) (off : Nat) (v : Word) : Kept s (State.setReg s off v) := by
  unfold State.setReg
  with_reducible repeat' (first
    | exact Kept.refl _ | fail_if_no_progress refine kept_mk (by rfl) (by rfl) ?_ | dsimp only)

theorem State.wr_kept (s : State) (f : Fld) (v : Nat) : Kept s (State.wr s f v) := by
  unfold State.wr
  with_reducible repeat' (first
    | exact Kept.refl _ | refine (State.setReg_kept ..).after ?_ | dsimp only)

theorem State.wrB_kept (s : State) (f : Fld) (b : Bool) : Kept s (State.wrB s f b) := by
  unfold State.wrB
  with_reducible repeat' (first
    | exact Kept.refl _ | refine (State.wr_kept ..).after ?_ | dsimp only)

theorem State.raise_kept (s : State) (f : Fld) : Kept s (State.raise s f) := by
  unfold State.raise
  with_reducible repeat' (first
    | exact Kept.refl _ | fail_if_no_progress refine kept_mk (by rfl) (by rfl) ?_ | refine kept_ite ?_ ?_
    | refine (State.wr_kept ..).after ?_ | dsimp only)

theorem State.raiseBit_kept (s : State) (f : Fld) (i : Nat) : Kept s (State.raiseBit s f i) := by
  unfold State.raiseBit
  with_reducible repeat' (first
    | exact Kept.refl _ | refine (State.raise_kept ..).after ?_ | dsimp only)

theorem State.faultPending_kept (s : State) : Kept s (State.faultPending s) := by
  unfold State.faultPending
  with_reducible repeat' (first
    | exact Kept.refl _ | refine kept_ite ?_ ?_ | refine (State.raiseBit_kept ..).after ?_ | dsimp only)

theorem State.cntStep_kept (s : State) (off : Nat) (lo : Nat) : Kept s (State.cntStep s off lo).1 := by
  unfold State.cntStep
  with_reducible repeat' (first
    | exact Kept.refl _ | refine kept_ite ?_ ?_ | refine (State.wr_kept ..).after ?_ | refine (State.raise_kept ..).after ?_ | dsimp only
    | split)

theorem State.ringLose_kept (f : State → FaultRec → State) (pi : Nat) (s : State) (a : Nat) (hk : ∀ x0 x1, Kept x0 (f x0 x1)) : Kept s (State.ringLose f pi s a) := by
  unfold State.ringLose
  with_reducible repeat' (first
    | exact Kept.refl _ | refine kept_ite ?_ ?_ | refine (hk ..).after ?_ | exact hk .. | refine (State.cntStep_kept ..).after ?_
    | refine pair_kept1 (by assumption) ?_ | dsimp only | split)

theorem State.faultPlace_kept (s : State) (r : FaultRec) : Kept s (State.faultPlace s r) := by
  unfold State.faultPlace
  with_reducible repeat' (first
    | exact Kept.refl _ | refine (State.setReg_kept ..).after ?_ | refine (State.wr_kept ..).after ?_ | dsimp only)

theorem State.faultFuel_kept (s : State) (r : FaultRec) (y2 : Nat) : Kept s (State.faultFuel s r y2) := by
  induction y2 generalizing s r with
  | zero =>
    unfold State.faultFuel
    exact (State.faultPlace_kept ..).trans (State.faultPending_kept ..)
  | succ n ih =>
    unfold State.faultFuel
    refine (State.faultPending_kept ..).after ?_
    refine each_kept (State.faultPlace_kept ..) (fun t a => ?_)
    exact State.ringLose_kept _ _ _ _ (fun u x => ih u x)

theorem State.fault_kept (s : State) (r : FaultRec) : Kept s (State.fault s r) := by
  unfold State.fault
  with_reducible repeat' (first
    | exact Kept.refl _ | refine (State.faultFuel_kept ..).after ?_ | dsimp only)

theorem State.accessFault_kept (s : State) (cause : Nat) (y2 : Nat) (detailOff : Nat) (rid : Nat) (cnt : Nat) (func : Option Nat) : Kept s (State.accessFault s cause y2 detailOff rid cnt func) := by
  unfold State.accessFault
  with_reducible repeat' (first
    | exact Kept.refl _ | refine kept_ite ?_ ?_ | refine (State.fault_kept ..).after ?_ | dsimp only)

theorem State.hostWrite_kept (s : State) (att : Nat) (addr : Nat) (bs : List Byte) : Kept s (State.hostWrite s att addr bs) := by
  unfold State.hostWrite
  exact kept_mk2 (List.suffix_refl _) (le_refl _) (Mem.wf_putBytes _ _) id (Kept.refl s)

theorem State.setFunc_kept (s : State) (f : Nat) (x : Func) : Kept s (State.setFunc s f x) := by
  unfold State.setFunc
  with_reducible repeat' (first
    | exact Kept.refl _ | fail_if_no_progress refine kept_mk (by rfl) (by rfl) ?_ | dsimp only)

theorem State.statAdd_kept (s : State) (off : Nat) (n : Nat) : Kept s (State.statAdd s off n) := by
  unfold State.statAdd
  with_reducible repeat' (first
    | exact Kept.refl _ | refine (State.setReg_kept ..).after ?_ | dsimp only)

theorem State.stat_kept (s : State) (off : Nat) : Kept s (State.stat s off) := by
  unfold State.stat
  with_reducible repeat' (first
    | exact Kept.refl _ | refine (State.statAdd_kept ..).after ?_ | dsimp only)

theorem State.event_kept (s : State) (f : Nat) (code : Nat) (subject : Nat) (arg32 : Nat) (arg64 : Nat) (corr : Nat) : Kept s (State.event s f code subject arg32 arg64 corr) := by
  unfold State.event
  with_reducible repeat' (first
    | exact Kept.refl _ | refine kept_ite ?_ ?_ | refine (State.raise_kept ..).after ?_ | refine (State.hostWrite_kept ..).after ?_
    | refine (State.setFunc_kept ..).after ?_ | refine (State.stat_kept ..).after ?_ | dsimp only)

theorem State.eventOwner_kept (s : State) (owner : Option Nat) (code : Nat) (subject : Nat) (arg32 : Nat) (arg64 : Nat) : Kept s (State.eventOwner s owner code subject arg32 arg64) := by
  unfold State.eventOwner
  with_reducible repeat' (first
    | exact Kept.refl _ | refine (State.event_kept ..).after ?_ | refine each_kept ?_ (fun _ _ => ?_) | dsimp only | intro _ | split)

theorem State.updFunc_kept (s : State) (f : Nat) (g : Func → Func) : Kept s (State.updFunc s f g) := by
  unfold State.updFunc
  with_reducible repeat' (first
    | exact Kept.refl _ | refine (State.setFunc_kept ..).after ?_ | dsimp only)

theorem State.fresh_kept (s : State) : Kept s (State.fresh s).2 := by
  unfold State.fresh
  exact kept_mk2 (List.suffix_refl _) (Nat.le_succ _) id id (Kept.refl s)

theorem State.errAt_kept (s : State) (off : Nat) (lo : Nat) : Kept s (State.errAt s off lo) := by
  unfold State.errAt
  with_reducible repeat' (first
    | exact Kept.refl _ | refine (State.fault_kept ..).after ?_ | refine (State.cntStep_kept ..).after ?_
    | refine pair_kept1 (by assumption) ?_ | dsimp only | split)

theorem State.err_kept (s : State) (off : Nat) : Kept s (State.err s off) := by
  unfold State.err
  with_reducible repeat' (first
    | exact Kept.refl _ | refine (State.errAt_kept ..).after ?_ | dsimp only)

theorem State.emit_kept (s : State) (e : Emit) : Kept s (State.emit s e) := by
  unfold State.emit
  exact kept_mk2 (List.suffix_cons _ _) (le_refl _) id id (Kept.refl s)

theorem State.snapshot_kept (s : State) (a : Nat) : Kept s (State.snapshot s a) := by
  unfold State.snapshot
  with_reducible repeat' (first
    | exact Kept.refl _ | refine (State.setReg_kept ..).after ?_ | dsimp only)

theorem State.oneStepDown_kept (s : State) (i : Nat) : Kept s (State.oneStepDown s i) := by
  unfold State.oneStepDown
  with_reducible repeat' (first
    | exact Kept.refl _ | refine (State.wrB_kept ..).after ?_ | dsimp only)

theorem State.adjLater_kept (s : State) (v : Int) : Kept s (State.adjLater s v) := by
  unfold State.adjLater
  with_reducible repeat' (first
    | exact Kept.refl _ | fail_if_no_progress refine kept_mk (by rfl) (by rfl) ?_ | dsimp only)

theorem State.wrI_kept (s : State) (f : Fld) (i : Int) : Kept s (State.wrI s f i) := by
  unfold State.wrI
  with_reducible repeat' (first
    | exact Kept.refl _ | refine (State.wr_kept ..).after ?_ | dsimp only)

theorem State.adjTake_kept (s : State) : Kept s (State.adjTake s) := by
  unfold State.adjTake
  with_reducible repeat' (first
    | exact Kept.refl _ | fail_if_no_progress refine kept_mk (by rfl) (by rfl) ?_ | refine (State.wrI_kept ..).after ?_ | dsimp only
    | split)

theorem State.ctrWrite_kept (s : State) (k : Nat) (v : Nat) : Kept s (State.ctrWrite s k v) := by
  unfold State.ctrWrite
  with_reducible repeat' (first
    | exact Kept.refl _ | fail_if_no_progress refine kept_mk (by rfl) (by first | rfl | simp only [Grotto.fix]) ?_ | refine kept_ite ?_ ?_
    | refine (State.wrB_kept ..).after ?_ | refine (State.setReg_kept ..).after ?_ | dsimp only)

theorem State.grtCount_kept (s : State) (off : Nat) : Kept s (State.grtCount s off) := by
  unfold State.grtCount
  with_reducible repeat' (first
    | exact Kept.refl _ | refine (State.err_kept ..).after ?_ | dsimp only)

theorem State.trailer_kept (s : State) (c : AdmCmd) : Kept s (State.trailer s c).2 := by
  unfold State.trailer
  with_reducible repeat' (first
    | exact Kept.refl _ | refine kept_ite ?_ ?_ | refine (State.ctrWrite_kept ..).after ?_ | refine (State.grtCount_kept ..).after ?_
    | dsimp only | split)

theorem State.admEntry_kept (s : State) (f : Nat) (w0 : Nat) (w1 : Nat) (w2 : Nat) (w3 : Nat) : Kept s (State.admEntry s f w0 w1 w2 w3) := by
  unfold State.admEntry
  with_reducible repeat' (first
    | exact Kept.refl _ | fail_if_no_progress refine kept_mk (by rfl) (by rfl) ?_ | refine kept_ite ?_ ?_
    | refine (State.hostWrite_kept ..).after ?_ | refine (State.setFunc_kept ..).after ?_ | dsimp only)

theorem State.admDone_kept (s : State) (f : Nat) (status : Nat) (r : AdmResult) : Kept s (State.admDone s f status r) := by
  unfold State.admDone
  with_reducible repeat' (first
    | exact Kept.refl _ | fail_if_no_progress refine kept_mk (by rfl) (by rfl) ?_ | refine kept_ite ?_ ?_
    | refine (State.setReg_kept ..).after ?_ | refine (State.admEntry_kept ..).after ?_ | refine (State.setFunc_kept ..).after ?_
    | refine (State.stat_kept ..).after ?_ | dsimp only | split)

theorem State.newCorr_kept (s : State) : Kept s (State.newCorr s).2 := by
  unfold State.newCorr
  with_reducible repeat' (first
    | exact Kept.refl _ | refine kept_ite ?_ ?_ | refine (State.wr_kept ..).after ?_ | dsimp only | split)

theorem State.readFailed_kept (s : State) (f : Nat) (q : Nat) (ur : Bool) (corr : Nat) (cause : Nat) (reps : Nat) (recs : Nat) (first : Option (Nat × Bool × Nat)) : Kept s (State.readFailed s f q ur corr cause reps recs first) := by
  unfold State.readFailed
  with_reducible repeat' (first
    | exact Kept.refl _ | refine kept_ite ?_ ?_ | refine (State.err_kept ..).after ?_ | refine (State.fault_kept ..).after ?_
    | refine (State.updFunc_kept ..).after ?_ | refine (State.raiseBit_kept ..).after ?_ | refine op_map (fun _ => rfl) ?_ | dsimp only
    | split)

theorem State.admReadFail_kept (s : State) (f : Nat) (c : AdmCmd) : Kept s (State.admReadFail s f c) := by
  unfold State.admReadFail
  with_reducible repeat' (first
    | exact Kept.refl _ | refine kept_ite ?_ ?_ | refine (State.admDone_kept ..).after ?_ | refine (State.newCorr_kept ..).after ?_
    | refine (State.readFailed_kept ..).after ?_ | refine pair_kept (by assumption) ?_ | dsimp only | split)

theorem State.admCrit_kept (s : State) (f : Nat) (op : Nat) (masks : List Nat) (good : AdmCmd → Bool) (k : State → AdmCmd → State) (hk : ∀ x0 x1, Kept x0 (k x0 x1)) : Kept s (State.admCrit s f op masks good k) := by
  unfold State.admCrit
  with_reducible repeat' (first
    | exact Kept.refl _ | refine kept_ite ?_ ?_ | refine (hk ..).after ?_ | exact hk .. | refine (State.trailer_kept ..).after ?_
    | refine (State.admDone_kept ..).after ?_ | refine (State.admReadFail_kept ..).after ?_ | refine pair_kept (by assumption) ?_
    | dsimp only | split)

theorem State.admRun_kept (s : State) (f : Nat) (op : Nat) (m : Bool) (masks : List Nat) (good : AdmCmd → Bool) (k : State → AdmCmd → State) (hk : ∀ x0 x1, Kept x0 (k x0 x1)) : Kept s (State.admRun s f op m masks good k) := by
  unfold State.admRun
  with_reducible repeat' (first
    | exact Kept.refl _ | refine kept_ite ?_ ?_ | refine (hk ..).after ?_ | exact hk .. | refine (State.admDone_kept ..).after ?_
    | refine (State.admReadFail_kept ..).after ?_ | dsimp only | split)

theorem State.admWait_kept (s : State) (f : Nat) : Kept s (State.admWait s f) := by
  unfold State.admWait
  with_reducible repeat' (first
    | exact Kept.refl _ | refine (State.updFunc_kept ..).after ?_ | refine op_map (fun _ => rfl) ?_ | dsimp only)

theorem State.txOutcome_kept (s : State) (p : Pkt) (status : Nat) (ns : Nat) (frac : Nat) (aligned : Bool) : Kept s (State.txOutcome s p status ns frac aligned) := by
  unfold State.txOutcome
  with_reducible repeat' (first
    | exact Kept.refl _ | refine kept_ite ?_ ?_ | refine (State.updFunc_kept ..).after ?_ | dsimp only)

theorem State.txDropped_kept (s : State) (p : Pkt) : Kept s (State.txDropped s p) := by
  unfold State.txDropped
  with_reducible repeat' (first
    | exact Kept.refl _ | refine (State.txOutcome_kept ..).after ?_ | dsimp only)

theorem State.inflightSub_kept (s : State) (v : Nat) : Kept s (State.inflightSub s v) := by
  unfold State.inflightSub
  with_reducible repeat' (first
    | exact Kept.refl _ | refine (State.wr_kept ..).after ?_ | dsimp only)

theorem State.pktGone_kept (s : State) (p : Pkt) : Kept s (State.pktGone s p) := by
  unfold State.pktGone
  with_reducible repeat' (first
    | exact Kept.refl _ | refine (State.inflightSub_kept ..).after ?_ | refine (State.txDropped_kept ..).after ?_ | dsimp only)

theorem State.toCpu_kept (s : State) (p : Pkt) : Kept s (State.toCpu s p) := by
  unfold State.toCpu
  with_reducible repeat' (first
    | exact Kept.refl _ | fail_if_no_progress refine kept_mk (by rfl) (by rfl) ?_ | refine (State.pktGone_kept ..).after ?_ | dsimp only)

theorem State.toCry_kept (s : State) (p : Pkt) (point : Nat) : Kept s (State.toCry s p point) := by
  unfold State.toCry
  with_reducible repeat' (first
    | exact Kept.refl _ | fail_if_no_progress refine kept_mk (by rfl) (by rfl) ?_ | dsimp only)

theorem State.pushTm_kept (s : State) (p : Pkt) : Kept s (State.pushTm s p) := by
  unfold State.pushTm
  with_reducible repeat' (first
    | exact Kept.refl _ | fail_if_no_progress refine kept_mk (by rfl) (by rfl) ?_ | dsimp only)

theorem State.toTm_kept (s : State) (p : Pkt) : Kept s (State.toTm s p) := by
  unfold State.toTm
  with_reducible repeat' (first
    | exact Kept.refl _ | refine (State.inflightSub_kept ..).after ?_ | refine (State.pushTm_kept ..).after ?_ | dsimp only)

theorem State.ctrAdd_kept (s : State) (c : Nat) (n : Nat) : Kept s (State.ctrAdd s c n) := by
  unfold State.ctrAdd
  with_reducible repeat' (first
    | exact Kept.refl _ | fail_if_no_progress refine kept_mk (by rfl) (by rfl) ?_ | dsimp only)

theorem State.applyAction_kept (s : State) (p : Pkt) (a : Nat) : Kept s (State.applyAction s p a).2 := by
  unfold State.applyAction
  with_reducible repeat' (first
    | exact Kept.refl _ | refine kept_ite ?_ ?_ | refine (State.ctrAdd_kept ..).after ?_ | dsimp only | split)

theorem State.applyDone_kept (s : State) (l : List Nat) (st : Nat) : Kept s (State.applyDone s l st) := by
  unfold State.applyDone
  with_reducible repeat' (first
    | exact Kept.refl _ | refine (State.admDone_kept ..).after ?_ | refine each_kept ?_ (fun _ _ => ?_) | dsimp only | intro _)

theorem State.barRefuse_kept (s : State) (f : Nat) (read : Bool) : Kept s (State.barRefuse s f read) := by
  unfold State.barRefuse
  with_reducible repeat' (first
    | exact Kept.refl _ | refine kept_ite ?_ ?_ | refine (State.err_kept ..).after ?_ | refine (State.updFunc_kept ..).after ?_
    | refine (State.emit_kept ..).after ?_ | dsimp only)

theorem State.sendInt_kept (s : State) (f : Nat) (vec : Nat) : Kept s (State.sendInt s f vec) := by
  unfold State.sendInt
  with_reducible repeat' (first
    | exact Kept.refl _ | refine kept_ite ?_ ?_ | refine (State.setFunc_kept ..).after ?_ | refine (State.emit_kept ..).after ?_
    | dsimp only)

theorem State.updInst_kept (s : State) (i : Nat) (g : PtpInst → PtpInst) : Kept s (State.updInst s i g) := by
  unfold State.updInst
  with_reducible repeat' (first
    | exact Kept.refl _ | fail_if_no_progress refine kept_mk (by rfl) (by rfl) ?_ | dsimp only)

theorem State.bmca_kept (s : State) (i : Nat) : Kept s (State.bmca s i) := by
  unfold State.bmca
  with_reducible repeat' (first
    | exact Kept.refl _ | refine kept_ite ?_ ?_ | refine (State.wr_kept ..).after ?_ | refine (State.updInst_kept ..).after ?_
    | refine each_kept ?_ (fun _ _ => ?_) | dsimp only | intro _ | split)

theorem State.roundPs_kept (s : State) (x : Nat × Bool) : Kept s (State.roundPs s x).2 := by
  unfold State.roundPs
  with_reducible repeat' (first
    | exact Kept.refl _ | refine kept_ite ?_ ?_ | refine (State.fresh_kept ..).after ?_ | refine pair_kept (by assumption) ?_ | dsimp only
    | split)

theorem State.boundUpdate_kept (s : State) (sel : Option (Nat × Int)) : Kept s (State.boundUpdate s sel) := by
  unfold State.boundUpdate
  with_reducible repeat' (first
    | exact Kept.refl _ | fail_if_no_progress refine kept_mk (by rfl) (by rfl) ?_ | refine kept_ite ?_ ?_
    | refine (State.raise_kept ..).after ?_ | refine (State.roundPs_kept ..).after ?_ | refine pair_kept (by assumption) ?_ | dsimp only
    | split)

theorem State.calibrate_kept (s : State) (p : Nat) (ok : Bool) (tx : Nat) (rx : Nat) (temp : Nat) : Kept s (State.calibrate s p ok tx rx temp) := by
  unfold State.calibrate
  with_reducible repeat' (first
    | exact Kept.refl _ | refine kept_ite ?_ ?_ | refine (State.wr_kept ..).after ?_ | dsimp only)

theorem State.newPkt_kept (s : State) (p : Pkt) : Kept s (State.newPkt s p).2 := by
  unfold State.newPkt
  with_reducible repeat' (first
    | exact Kept.refl _ | fail_if_no_progress refine kept_mk (by rfl) (by rfl) ?_ | dsimp only)

theorem State.clearInt_kept (s : State) (f : Nat) (vec : Nat) : Kept s (State.clearInt s f vec) := by
  unfold State.clearInt
  with_reducible repeat' (first
    | exact Kept.refl _ | refine kept_ite ?_ ?_ | refine (State.setFunc_kept ..).after ?_ | refine (State.emit_kept ..).after ?_
    | dsimp only)

theorem State.clockCycle_kept (s : State) : Kept s (State.clockCycle s) := by
  unfold State.clockCycle
  with_reducible repeat' (first
    | exact Kept.refl _ | fail_if_no_progress refine kept_mk (by rfl) (by rfl) ?_ | refine kept_ite ?_ ?_ | dsimp only)

theorem State.freqHold_kept (s : State) : Kept s (State.freqHold s) := by
  unfold State.freqHold
  with_reducible repeat' (first
    | exact Kept.refl _ | fail_if_no_progress refine kept_mk (by rfl) (by rfl) ?_ | refine kept_ite ?_ ?_
    | refine (State.wrI_kept ..).after ?_ | dsimp only | split)

theorem State.wrPend_kept (s : State) (v : Int) : Kept s (State.wrPend s v) := by
  unfold State.wrPend
  with_reducible repeat' (first
    | exact Kept.refl _ | refine kept_ite ?_ ?_ | refine (State.wrB_kept ..).after ?_ | refine (State.fresh_kept ..).after ?_
    | refine (State.raise_kept ..).after ?_ | refine (State.wrI_kept ..).after ?_ | refine pair_kept (by assumption) ?_ | dsimp only
    | split)

theorem State.startDrip_kept (s : State) : Kept s (State.startDrip s) := by
  unfold State.startDrip
  with_reducible repeat' (first
    | exact Kept.refl _ | fail_if_no_progress refine kept_mk (by rfl) (by rfl) ?_ | refine kept_ite ?_ ?_
    | refine (State.stat_kept ..).after ?_ | refine (State.wrPend_kept ..).after ?_ | dsimp only)

theorem State.startAlign_kept (s : State) : Kept s (State.startAlign s) := by
  unfold State.startAlign
  with_reducible repeat' (first
    | exact Kept.refl _ | fail_if_no_progress refine kept_mk (by rfl) (by rfl) ?_ | refine (State.stat_kept ..).after ?_ | dsimp only)

theorem State.dripBegin_kept (s : State) : Kept s (State.dripBegin s) := by
  unfold State.dripBegin
  with_reducible repeat' (first
    | exact Kept.refl _ | refine kept_ite ?_ ?_ | refine (State.freqHold_kept ..).after ?_ | refine (State.startDrip_kept ..).after ?_
    | refine (State.startAlign_kept ..).after ?_ | dsimp only)

theorem State.writeBlock_kept (s : State) (att : Nat) (addr : Nat) (odd : Nat) (ws : Nat → List Nat) : Kept s (State.writeBlock s att addr odd ws) := by
  unfold State.writeBlock
  with_reducible repeat' (first
    | exact Kept.refl _ | refine (State.hostWrite_kept ..).after ?_ | dsimp only)

theorem State.writeTracePages_kept (s : State) : Kept s (State.writeTracePages s) := by
  unfold State.writeTracePages
  with_reducible repeat' (first
    | exact Kept.refl _ | fail_if_no_progress refine kept_mk (by rfl) (by rfl) ?_ | refine (State.setReg_kept ..).after ?_
    | refine (State.writeBlock_kept ..).after ?_ | refine (State.updFunc_kept ..).after ?_ | refine each_kept ?_ (fun _ _ => ?_)
    | dsimp only | intro _)

theorem State.voteRun_kept (s : State) : Kept s (State.voteRun s).2 := by
  unfold State.voteRun
  with_reducible repeat' (first
    | exact Kept.refl _ | fail_if_no_progress refine kept_mk (by rfl) (by rfl) ?_ | refine kept_ite ?_ ?_
    | refine (State.err_kept ..).after ?_ | refine (State.wr_kept ..).after ?_ | refine (State.raise_kept ..).after ?_
    | refine each_kept ?_ (fun _ _ => ?_) | refine foldl_kept ?_ (fun _ _ => ?_) | refine op_map (fun _ => rfl) ?_ | dsimp only | intro _
    | split)

theorem State.srcMasks_kept (s : State) : Kept s (State.srcMasks s) := by
  unfold State.srcMasks
  with_reducible repeat' (first
    | exact Kept.refl _ | refine (State.wr_kept ..).after ?_ | dsimp only)

theorem State.dropMeas_kept (s : State) : Kept s (State.dropMeas s) := by
  unfold State.dropMeas
  with_reducible repeat' (first
    | exact Kept.refl _ | fail_if_no_progress refine kept_mk (by rfl) (by rfl) ?_ | dsimp only)

theorem State.dropStamps_kept (s : State) : Kept s (State.dropStamps s) := by
  unfold State.dropStamps
  with_reducible repeat' (first
    | exact Kept.refl _ | fail_if_no_progress refine kept_mk (by rfl) (by rfl) ?_ | refine (State.dropMeas_kept ..).after ?_ | dsimp only)

theorem State.ppsStep_kept (s : State) : Kept s (State.ppsStep s) := by
  unfold State.ppsStep
  with_reducible repeat' (first
    | exact Kept.refl _ | fail_if_no_progress refine kept_mk (by rfl) (by rfl) ?_ | refine each_kept ?_ (fun _ _ => ?_) | dsimp only
    | intro _)

theorem State.stepTo_kept (s : State) (t : Int) : Kept s (State.stepTo s t) := by
  unfold State.stepTo
  with_reducible repeat' (first
    | exact Kept.refl _ | fail_if_no_progress refine kept_mk (by rfl) (by rfl) ?_ | refine (State.dropStamps_kept ..).after ?_
    | refine (State.ppsStep_kept ..).after ?_ | refine (State.stat_kept ..).after ?_ | refine (State.wrPend_kept ..).after ?_ | dsimp only)

theorem State.stepGoal_kept (s : State) (t : Int) : Kept s (State.stepGoal s t).2 := by
  unfold State.stepGoal
  with_reducible repeat' (first
    | exact Kept.refl _ | refine kept_ite ?_ ?_ | refine (State.fresh_kept ..).after ?_ | dsimp only | split)

theorem State.servo_kept (s : State) (o : Int) : Kept s (State.servo s o) := by
  unfold State.servo
  with_reducible repeat' (first
    | exact Kept.refl _ | refine kept_ite ?_ ?_ | refine (State.adjLater_kept ..).after ?_ | refine (State.wrPend_kept ..).after ?_
    | dsimp only)

theorem State.voteAcquiring_kept (s : State) (sel : Option (Nat × Int)) : Kept s (State.voteAcquiring s sel) := by
  unfold State.voteAcquiring
  with_reducible repeat' (first
    | exact Kept.refl _ | fail_if_no_progress refine kept_mk (by rfl) (by rfl) ?_ | refine kept_ite ?_ ?_
    | refine (State.stepTo_kept ..).after ?_ | refine (State.wr_kept ..).after ?_ | refine (State.stepGoal_kept ..).after ?_
    | refine (State.servo_kept ..).after ?_ | refine pair_kept (by assumption) ?_ | dsimp only | split)

theorem State.holdFreq_kept (s : State) : Kept s (State.holdFreq s) := by
  unfold State.holdFreq
  with_reducible repeat' (first
    | exact Kept.refl _ | refine (State.adjLater_kept ..).after ?_ | dsimp only)

theorem State.eventAll_kept (s : State) (code : Nat) (subject : Nat) (arg32 : Nat) (arg64 : Nat) : Kept s (State.eventAll s code subject arg32 arg64) := by
  unfold State.eventAll
  with_reducible repeat' (first
    | exact Kept.refl _ | refine (State.event_kept ..).after ?_ | refine each_kept ?_ (fun _ _ => ?_) | dsimp only | intro _)

theorem State.writeTimePage_kept (s : State) (f : Nat) : Kept s (State.writeTimePage s f) := by
  unfold State.writeTimePage
  with_reducible repeat' (first
    | exact Kept.refl _ | refine (State.writeBlock_kept ..).after ?_ | refine (State.updFunc_kept ..).after ?_ | dsimp only)

theorem State.writeTimePages_kept (s : State) (att : Option Nat) : Kept s (State.writeTimePages s att) := by
  unfold State.writeTimePages
  with_reducible repeat' (first
    | exact Kept.refl _ | refine (State.writeTimePage_kept ..).after ?_ | refine each_kept ?_ (fun _ _ => ?_) | dsimp only | intro _
    | split)

theorem State.setTimeState_kept (s : State) (n : Nat) : Kept s (State.setTimeState s n) := by
  unfold State.setTimeState
  with_reducible repeat' (first
    | exact Kept.refl _ | refine kept_ite ?_ ?_ | refine (State.wr_kept ..).after ?_ | refine (State.raise_kept ..).after ?_
    | refine (State.eventAll_kept ..).after ?_ | refine (State.writeTimePages_kept ..).after ?_ | dsimp only)

theorem State.enterHeld_kept (s : State) (n : Nat) : Kept s (State.enterHeld s n) := by
  unfold State.enterHeld
  with_reducible repeat' (first
    | exact Kept.refl _ | refine kept_ite ?_ ?_ | refine (State.holdFreq_kept ..).after ?_ | refine (State.setTimeState_kept ..).after ?_
    | dsimp only)

theorem State.voteLocked_kept (s : State) (sel : Option (Nat × Int)) : Kept s (State.voteLocked s sel) := by
  unfold State.voteLocked
  with_reducible repeat' (first
    | exact Kept.refl _ | fail_if_no_progress refine kept_mk (by rfl) (by rfl) ?_ | refine kept_ite ?_ ?_
    | refine (State.enterHeld_kept ..).after ?_ | refine (State.servo_kept ..).after ?_ | dsimp only | split)

theorem State.enterLocked_kept (s : State) : Kept s (State.enterLocked s) := by
  unfold State.enterLocked
  with_reducible repeat' (first
    | exact Kept.refl _ | fail_if_no_progress refine kept_mk (by rfl) (by rfl) ?_ | refine (State.wr_kept ..).after ?_
    | refine (State.setTimeState_kept ..).after ?_ | dsimp only)

theorem State.relock_kept (s : State) (o : Int) : Kept s (State.relock s o) := by
  unfold State.relock
  with_reducible repeat' (first
    | exact Kept.refl _ | fail_if_no_progress refine kept_mk (by rfl) (by rfl) ?_ | refine kept_ite ?_ ?_
    | refine (State.servo_kept ..).after ?_ | refine (State.enterLocked_kept ..).after ?_ | dsimp only)

theorem State.voteHeld_kept (s : State) (sel : Option (Nat × Int)) (st : Nat) : Kept s (State.voteHeld s sel st) := by
  unfold State.voteHeld
  with_reducible repeat' (first
    | exact Kept.refl _ | fail_if_no_progress refine kept_mk (by rfl) (by rfl) ?_ | refine kept_ite ?_ ?_
    | refine (State.enterHeld_kept ..).after ?_ | refine (State.relock_kept ..).after ?_ | dsimp only | split)

theorem State.voteMove_kept (s : State) (sel : Option (Nat × Int)) : Kept s (State.voteMove s sel) := by
  unfold State.voteMove
  with_reducible repeat' (first
    | exact Kept.refl _ | fail_if_no_progress refine kept_mk (by rfl) (by rfl) ?_ | refine kept_ite ?_ ?_
    | refine (State.voteAcquiring_kept ..).after ?_ | refine (State.enterHeld_kept ..).after ?_
    | refine (State.voteLocked_kept ..).after ?_ | refine (State.voteHeld_kept ..).after ?_ | dsimp only)

theorem State.select_kept (s : State) (sel : Option (Nat × Int)) : Kept s (State.select s sel) := by
  unfold State.select
  with_reducible repeat' (first
    | exact Kept.refl _ | refine (State.wr_kept ..).after ?_ | dsimp only | split)

theorem State.srcTake_kept (s : State) (n : Nat) : Kept s (State.srcTake s n) := by
  unfold State.srcTake
  with_reducible repeat' (first
    | exact Kept.refl _ | fail_if_no_progress refine kept_mk (by rfl) (by rfl) ?_ | refine kept_ite ?_ ?_
    | refine (State.wr_kept ..).after ?_ | refine (State.raise_kept ..).after ?_ | refine (State.wrI_kept ..).after ?_ | dsimp only
    | split)

theorem State.vote_kept (s : State) : Kept s (State.vote s) := by
  unfold State.vote
  with_reducible repeat' (first
    | exact Kept.refl _ | fail_if_no_progress refine kept_mk (by rfl) (by rfl) ?_ | refine kept_ite ?_ ?_
    | refine (State.boundUpdate_kept ..).after ?_ | refine (State.writeTracePages_kept ..).after ?_
    | refine (State.voteRun_kept ..).after ?_ | refine (State.wr_kept ..).after ?_ | refine (State.srcMasks_kept ..).after ?_
    | refine (State.voteMove_kept ..).after ?_ | refine (State.select_kept ..).after ?_ | refine (State.dropMeas_kept ..).after ?_
    | refine (State.srcTake_kept ..).after ?_ | refine each_kept ?_ (fun _ _ => ?_) | refine pair_kept (by assumption) ?_ | dsimp only
    | intro _ | split)

theorem State.dripFinish_kept (s : State) : Kept s (State.dripFinish s) := by
  unfold State.dripFinish
  with_reducible repeat' (first
    | exact Kept.refl _ | fail_if_no_progress refine kept_mk (by rfl) (by rfl) ?_ | refine kept_ite ?_ ?_
    | refine (State.vote_kept ..).after ?_ | dsimp only)

theorem State.gatesSuspend_kept (s : State) : Kept s (State.gatesSuspend s) := by
  unfold State.gatesSuspend
  with_reducible repeat' (first
    | exact Kept.refl _ | fail_if_no_progress refine kept_mk (by rfl) (by rfl) ?_ | refine kept_ite ?_ ?_
    | refine (State.wrB_kept ..).after ?_ | refine (State.wr_kept ..).after ?_ | refine (State.raise_kept ..).after ?_
    | refine each_kept ?_ (fun _ _ => ?_) | refine op_map (fun _ => rfl) ?_ | dsimp only | intro _)

theorem State.setAligned_kept (s : State) (b : Bool) : Kept s (State.setAligned s b) := by
  unfold State.setAligned
  with_reducible repeat' (first
    | exact Kept.refl _ | refine kept_ite ?_ ?_ | refine (State.wrB_kept ..).after ?_ | refine (State.raise_kept ..).after ?_
    | refine (State.eventAll_kept ..).after ?_ | refine (State.gatesSuspend_kept ..).after ?_ | dsimp only)

theorem State.reload_kept (s : State) : Kept s (State.reload s).2 := by
  unfold State.reload
  with_reducible repeat' (first
    | exact Kept.refl _ | fail_if_no_progress refine kept_mk (by rfl) (by rfl) ?_ | refine kept_ite ?_ ?_
    | refine (State.setAligned_kept ..).after ?_ | refine (State.servo_kept ..).after ?_ | refine (State.enterLocked_kept ..).after ?_
    | dsimp only | split)

theorem State.reloadAfter_kept (s : State) (wasAlign : Bool) : Kept s (State.reloadAfter s wasAlign).2 := by
  unfold State.reloadAfter
  with_reducible repeat' (first
    | exact Kept.refl _ | refine kept_ite ?_ ?_ | refine (State.reload_kept ..).after ?_ | dsimp only | split)

theorem State.dripTurn_kept (s : State) : Kept s (State.dripTurn s) := by
  unfold State.dripTurn
  with_reducible repeat' (first
    | exact Kept.refl _ | fail_if_no_progress refine kept_mk (by rfl) (by rfl) ?_ | refine op_map (fun _ => rfl) ?_ | dsimp only)

theorem State.dripRenumber_kept (s : State) : Kept s (State.dripRenumber s).2 := by
  unfold State.dripRenumber
  with_reducible repeat' (first
    | exact Kept.refl _ | refine (State.dripFinish_kept ..).after ?_ | refine (State.reloadAfter_kept ..).after ?_
    | refine (State.dripTurn_kept ..).after ?_ | refine (State.adjTake_kept ..).after ?_ | dsimp only)

theorem State.dripClock_kept (s : State) : Kept s (State.dripClock s).2 := by
  unfold State.dripClock
  with_reducible repeat' (first
    | exact Kept.refl _ | refine (State.dripRenumber_kept ..).after ?_ | refine (State.dripBegin_kept ..).after ?_ | dsimp only)

theorem State.esmcSend_kept (s : State) (event : Bool) : Kept s (State.esmcSend s event) := by
  unfold State.esmcSend
  with_reducible repeat' (first
    | exact Kept.refl _ | refine kept_ite ?_ ?_ | refine (State.emit_kept ..).after ?_ | refine each_kept ?_ (fun _ _ => ?_) | dsimp only
    | intro _)

theorem State.toParse_kept (s : State) (p : Pkt) : Kept s (State.toParse s p) := by
  unfold State.toParse
  with_reducible repeat' (first
    | exact Kept.refl _ | fail_if_no_progress refine kept_mk (by rfl) (by rfl) ?_ | refine (State.newPkt_kept ..).after ?_
    | refine pair_kept (by assumption) ?_ | dsimp only | split)

theorem State.inflightAdd_kept (s : State) (v : Nat) : Kept s (State.inflightAdd s v) := by
  unfold State.inflightAdd
  with_reducible repeat' (first
    | exact Kept.refl _ | refine (State.wr_kept ..).after ?_ | dsimp only)

theorem State.withdrawLock_kept (s : State) : Kept s (State.withdrawLock s) := by
  unfold State.withdrawLock
  with_reducible repeat' (first
    | exact Kept.refl _ | fail_if_no_progress refine kept_mk (by rfl) (by rfl) ?_ | refine kept_ite ?_ ?_
    | refine (State.wr_kept ..).after ?_ | dsimp only)

theorem State.oscLoss_kept (s : State) : Kept s (State.oscLoss s) := by
  unfold State.oscLoss
  with_reducible repeat' (first
    | exact Kept.refl _ | fail_if_no_progress refine kept_mk (by rfl) (by rfl) ?_ | refine kept_ite ?_ ?_
    | refine (State.enterHeld_kept ..).after ?_ | refine (State.wr_kept ..).after ?_ | refine (State.raise_kept ..).after ?_
    | refine (State.withdrawLock_kept ..).after ?_ | dsimp only)

theorem State.ptmDiscard_kept (s : State) (a : Nat) : Kept s (State.ptmDiscard s a) := by
  unfold State.ptmDiscard
  with_reducible repeat' (first
    | exact Kept.refl _ | fail_if_no_progress refine kept_mk (by rfl) (by rfl) ?_ | refine kept_ite ?_ ?_
    | refine (State.err_kept ..).after ?_ | refine (State.wr_kept ..).after ?_ | dsimp only)

theorem State.ptmRate_kept (s : State) (pairs : List (Int × Int)) : Kept s (State.ptmRate s pairs).2 := by
  unfold State.ptmRate
  with_reducible repeat' (first
    | exact Kept.refl _ | refine kept_ite ?_ ?_ | refine (State.fresh_kept ..).after ?_ | refine pair_kept (by assumption) ?_ | dsimp only
    | split)

theorem State.untrustInst_kept (s : State) (i : Nat) : Kept s (State.untrustInst s i) := by
  unfold State.untrustInst
  with_reducible repeat' (first
    | exact Kept.refl _ | refine kept_ite ?_ ?_ | refine (State.wr_kept ..).after ?_ | refine each_kept ?_ (fun _ _ => ?_) | dsimp only
    | intro _)

theorem State.ptpAuthFail_kept (s : State) (i : Nat) : Kept s (State.ptpAuthFail s i) := by
  unfold State.ptpAuthFail
  with_reducible repeat' (first
    | exact Kept.refl _ | refine kept_ite ?_ ?_ | refine (State.err_kept ..).after ?_ | refine (State.untrustInst_kept ..).after ?_
    | refine (State.raise_kept ..).after ?_ | refine (State.updInst_kept ..).after ?_ | dsimp only)

theorem State.ptpExchange_kept (s : State) (i : Nat) (offset : Int) (delay : Int) : Kept s (State.ptpExchange s i offset delay) := by
  unfold State.ptpExchange
  with_reducible repeat' (first
    | exact Kept.refl _ | refine (State.updInst_kept ..).after ?_ | dsimp only)

theorem State.setMeanDelay_kept (s : State) (i : Nat) (d : Int) : Kept s (State.setMeanDelay s i d) := by
  unfold State.setMeanDelay
  with_reducible repeat' (first
    | exact Kept.refl _ | refine (State.wrI_kept ..).after ?_ | refine (State.updInst_kept ..).after ?_ | dsimp only)

theorem State.ptpPeerDone_kept (s : State) (i : Nat) (p : Nat) (turn : Int) : Kept s (State.ptpPeerDone s i p turn) := by
  unfold State.ptpPeerDone
  with_reducible repeat' (first
    | exact Kept.refl _ | refine kept_ite ?_ ?_ | refine (State.setMeanDelay_kept ..).after ?_ | refine (State.updInst_kept ..).after ?_
    | dsimp only)

theorem State.ptpSend_kept (s : State) (i : Nat) (p : Nat) (kind : Nat) (seq : Nat) (ts : Int) (corr : Int) (two : Bool) : Kept s (State.ptpSend s i p kind seq ts corr two) := by
  unfold State.ptpSend
  with_reducible repeat' (first
    | exact Kept.refl _ | refine (State.stat_kept ..).after ?_ | refine (State.emit_kept ..).after ?_ | dsimp only)

theorem State.ptpSyncDone_kept (s : State) (i : Nat) (p : Nat) (t1 : Int) (t2 : Int) : Kept s (State.ptpSyncDone s i p t1 t2) := by
  unfold State.ptpSyncDone
  with_reducible repeat' (first
    | exact Kept.refl _ | refine kept_ite ?_ ?_ | refine (State.ptpExchange_kept ..).after ?_ | refine (State.updInst_kept ..).after ?_
    | dsimp only)

theorem State.updSin_kept (s : State) (n : Nat) (g : SynceIn → SynceIn) : Kept s (State.updSin s n g) := by
  unfold State.updSin
  with_reducible repeat' (first
    | exact Kept.refl _ | fail_if_no_progress refine kept_mk (by rfl) (by rfl) ?_ | dsimp only)

theorem State.showInput_kept (s : State) (n : Nat) : Kept s (State.showInput s n) := by
  unfold State.showInput
  with_reducible repeat' (first
    | exact Kept.refl _ | refine kept_ite ?_ ?_ | refine (State.wr_kept ..).after ?_ | refine (State.raise_kept ..).after ?_
    | refine (State.esmcSend_kept ..).after ?_ | dsimp only)

theorem State.reselect_kept (s : State) : Kept s (State.reselect s) := by
  unfold State.reselect
  with_reducible repeat' (first
    | exact Kept.refl _ | refine kept_ite ?_ ?_ | refine (State.showInput_kept ..).after ?_ | refine (State.wr_kept ..).after ?_
    | dsimp only)

theorem State.qlChanged_kept (s : State) (n : Nat) (worse : Bool) : Kept s (State.qlChanged s n worse) := by
  unfold State.qlChanged
  with_reducible repeat' (first
    | exact Kept.refl _ | refine kept_ite ?_ ?_ | refine (State.updSin_kept ..).after ?_ | refine (State.reselect_kept ..).after ?_
    | dsimp only)

theorem State.snapshotFw_kept (s : State) : Kept s (State.snapshotFw s) := by
  unfold State.snapshotFw
  with_reducible repeat' (first
    | exact Kept.refl _ | fail_if_no_progress refine kept_mk (by rfl) (by rfl) ?_ | dsimp only)

theorem State.stageTs_kept (s : State) (off : Nat) (v : Nat) : Kept s (State.stageTs s off v) := by
  unfold State.stageTs
  with_reducible repeat' (first
    | exact Kept.refl _ | fail_if_no_progress refine kept_mk (by rfl) (by rfl) ?_ | refine (State.wr_kept ..).after ?_ | dsimp only)

theorem State.stepRealign_kept (s : State) (was : Bool) : Kept s (State.stepRealign s was) := by
  unfold State.stepRealign
  with_reducible repeat' (first
    | exact Kept.refl _ | fail_if_no_progress refine kept_mk (by rfl) (by rfl) ?_ | refine kept_ite ?_ ?_ | dsimp only)

theorem State.stepNow_kept (s : State) (new : Int) : Kept s (State.stepNow s new) := by
  unfold State.stepNow
  with_reducible repeat' (first
    | exact Kept.refl _ | refine (State.stepTo_kept ..).after ?_ | refine (State.stepRealign_kept ..).after ?_
    | refine (State.setAligned_kept ..).after ?_ | refine (State.raise_kept ..).after ?_ | refine (State.eventAll_kept ..).after ?_
    | dsimp only)

theorem State.synceLoss_kept (s : State) (n : Nat) : Kept s (State.synceLoss s n) := by
  unfold State.synceLoss
  with_reducible repeat' (first
    | exact Kept.refl _ | refine (State.updSin_kept ..).after ?_ | refine (State.qlChanged_kept ..).after ?_ | dsimp only)

theorem State.synceRecover_kept (s : State) (n : Nat) : Kept s (State.synceRecover s n) := by
  unfold State.synceRecover
  with_reducible repeat' (first
    | exact Kept.refl _ | refine (State.updSin_kept ..).after ?_ | refine (State.reselect_kept ..).after ?_ | dsimp only)

theorem State.tsFollow_kept (s : State) (wrote : List Nat) : Kept s (State.tsFollow s wrote) := by
  unfold State.tsFollow
  with_reducible repeat' (first
    | exact Kept.refl _ | fail_if_no_progress refine kept_mk (by rfl) (by rfl) ?_ | refine kept_ite ?_ ?_
    | refine (State.oneStepDown_kept ..).after ?_ | refine (State.wr_kept ..).after ?_ | refine (State.srcMasks_kept ..).after ?_
    | refine (State.bmca_kept ..).after ?_ | refine (State.reselect_kept ..).after ?_ | refine each_kept ?_ (fun _ _ => ?_) | dsimp only
    | intro _)

theorem State.tsMove_kept (s : State) : Kept s (State.tsMove s) := by
  unfold State.tsMove
  with_reducible repeat' (first
    | exact Kept.refl _ | fail_if_no_progress refine kept_mk (by rfl) (by rfl) ?_ | refine kept_ite ?_ ?_
    | refine (State.enterHeld_kept ..).after ?_ | refine (State.wr_kept ..).after ?_ | refine (State.adjLater_kept ..).after ?_
    | refine (State.setTimeState_kept ..).after ?_ | dsimp only)

theorem State.writeStaged_kept (s : State) (off : Nat) (v : Nat) : Kept s (State.writeStaged s off v) := by
  unfold State.writeStaged
  with_reducible repeat' (first
    | exact Kept.refl _ | refine (State.setReg_kept ..).after ?_ | dsimp only | split)

theorem State.writeAllStaged_kept (s : State) : Kept s (State.writeAllStaged s) := by
  unfold State.writeAllStaged
  with_reducible repeat' (first
    | exact Kept.refl _ | refine kept_ite ?_ ?_ | refine (State.wr_kept ..).after ?_ | refine (State.writeStaged_kept ..).after ?_
    | refine each_kept ?_ (fun _ _ => ?_) | dsimp only | intro _ | split)

theorem execDelayTempCorrection_kept (p : Nat) (s : State) : OutKept s (execDelayTempCorrection p s) := by
  unfold execDelayTempCorrection
  with_reducible repeat' (first
    | exact Kept.refl _ | refine out_next ?_ | refine kept_ite ?_ ?_ | refine out_ite ?_ ?_ | refine (State.wrI_kept ..).after ?_
    | dsimp only)

theorem execPtpGrantExpiry_kept (i : Nat) (client : Nat) (k : Nat) (s : State) : OutKept s (execPtpGrantExpiry i client k s) := by
  unfold execPtpGrantExpiry
  with_reducible repeat' (first
    | exact Kept.refl _ | refine out_next ?_ | refine (State.updInst_kept ..).after ?_ | dsimp only)

theorem execVoteBoundary_kept (s : State) : OutKept s (execVoteBoundary s) := by
  unfold execVoteBoundary
  with_reducible repeat' (first
    | exact Kept.refl _ | refine out_next ?_ | refine kept_ite ?_ ?_ | refine out_ite ?_ ?_ | refine (State.vote_kept ..).after ?_
    | dsimp only)

theorem execPtpSyncTx_kept (i : Nat) (p : Nat) (s : State) : OutKept s (execPtpSyncTx i p s) := by
  unfold execPtpSyncTx
  with_reducible repeat' (first
    | exact Kept.refl _ | refine out_next ?_ | refine kept_ite ?_ ?_ | refine out_ite ?_ ?_ | refine (State.oneStepDown_kept ..).after ?_
    | refine (State.ptpSend_kept ..).after ?_ | refine (State.updInst_kept ..).after ?_ | dsimp only)

theorem execTimeSourceSet_kept (f : Nat) (s : State) : OutKept s (execTimeSourceSet f s) := by
  unfold execTimeSourceSet
  with_reducible repeat' (first
    | exact Kept.refl _ | refine out_next ?_ | fail_if_no_progress refine kept_mk (by rfl) (by rfl) ?_ | refine kept_ite ?_ ?_
    | refine out_ite ?_ ?_ | refine (State.admWait_kept ..).after ?_ | refine (State.admDone_kept ..).after ?_
    | refine (State.admCrit_kept (hk := ?_) ..).after ?_ | refine (State.stageTs_kept ..).after ?_ | dsimp only | intro _)

theorem execSynceInputRecovery_kept (n : Nat) (s : State) : OutKept s (execSynceInputRecovery n s) := by
  unfold execSynceInputRecovery
  with_reducible repeat' (first
    | exact Kept.refl _ | refine out_next ?_ | refine (State.synceRecover_kept ..).after ?_ | dsimp only)

theorem execPpsOutStart_kept (n : Nat) (s : State) : OutKept s (execPpsOutStart n s) := by
  unfold execPpsOutStart
  with_reducible repeat' (first
    | exact Kept.refl _ | refine out_next ?_ | fail_if_no_progress refine kept_mk (by rfl) (by rfl) ?_ | refine kept_ite ?_ ?_
    | refine out_ite ?_ ?_ | refine (State.emit_kept ..).after ?_ | dsimp only | split)

theorem execSynceWtrExpiry_kept (n : Nat) (s : State) : OutKept s (execSynceWtrExpiry n s) := by
  unfold execSynceWtrExpiry
  with_reducible repeat' (first
    | exact Kept.refl _ | refine out_next ?_ | refine kept_ite ?_ ?_ | refine out_ite ?_ ?_ | refine (State.updSin_kept ..).after ?_
    | refine (State.reselect_kept ..).after ?_ | dsimp only)

theorem State.ptpAccept_kept (s : State) (i p : Nat) (m : PtpMsg) (minLen : Nat) : Kept s (s.ptpAccept i p m minLen).2 := by
  unfold State.ptpAccept
  with_reducible repeat' (first
    | exact Kept.refl _ | refine (State.err_kept ..).after ?_ | refine (State.ptpAuthFail_kept ..).after ?_ | refine (State.stat_kept ..).after ?_
    | refine (State.updInst_kept ..).after ?_ | dsimp only | split)

theorem State.ptpAccept_kept1 (s : State) (i p : Nat) (m : PtpMsg) (minLen : Nat) : OptKept s (s.ptpAccept i p m minLen).1 := by
  unfold State.ptpAccept
  with_reducible repeat' (first
    | exact Kept.refl _ | exact opt_none | refine opt_some ?_ | refine (State.stat_kept ..).after ?_ | refine (State.updInst_kept ..).after ?_
    | dsimp only | split)

theorem withAccepted_kept {s : State} {r : Option State × State} {k : State → State} (h1 : OptKept s r.1) (h2 : Kept s r.2)
    (hk : ∀ x, Kept x (k x)) : Kept s (withAccepted r k) := by
  unfold withAccepted
  split
  · exact (opt_get h1 rfl).trans (hk _)
  · exact h2

theorem execPtpSyncRx_kept (i : Nat) (p : Nat) (m : PtpMsg) (s : State) : OutKept s (execPtpSyncRx i p m s) := by
  unfold execPtpSyncRx
  with_reducible repeat' (first
    | exact Kept.refl _ | refine out_next ?_ | refine kept_ite ?_ ?_ | refine out_ite ?_ ?_ | refine (State.err_kept ..).after ?_
    | refine (State.updInst_kept ..).after ?_ | refine (State.ptpSyncDone_kept ..).after ?_
    | refine withAccepted_kept (State.ptpAccept_kept1 ..) (State.ptpAccept_kept ..) (fun _ => ?_) | dsimp only | intro _ | split)

theorem execSynceInputLoss_kept (n : Nat) (s : State) : OutKept s (execSynceInputLoss n s) := by
  unfold execSynceInputLoss
  with_reducible repeat' (first
    | exact Kept.refl _ | refine out_next ?_ | refine (State.synceLoss_kept ..).after ?_ | dsimp only)

theorem execPtpAnnounceRx_kept (i : Nat) (p : Nat) (m : PtpMsg) (a : AnnounceMsg) (s : State) : OutKept s (execPtpAnnounceRx i p m a s) := by
  unfold execPtpAnnounceRx
  with_reducible repeat' (first
    | exact Kept.refl _ | refine out_next ?_ | refine kept_ite ?_ ?_ | refine out_ite ?_ ?_ | refine (State.bmca_kept ..).after ?_
    | refine (State.updInst_kept ..).after ?_
    | refine withAccepted_kept (State.ptpAccept_kept1 ..) (State.ptpAccept_kept ..) (fun _ => ?_) | dsimp only | intro _ | split)

theorem execOscInReturn_kept (s : State) : OutKept s (execOscInReturn s) := by
  unfold execOscInReturn
  with_reducible repeat' (first
    | exact Kept.refl _ | refine out_next ?_ | fail_if_no_progress refine kept_mk (by rfl) (by rfl) ?_ | refine kept_ite ?_ ?_
    | refine out_ite ?_ ?_ | refine (State.wr_kept ..).after ?_ | dsimp only)

theorem execPtpFollowUpRx_kept (i : Nat) (p : Nat) (m : PtpMsg) (s : State) : OutKept s (execPtpFollowUpRx i p m s) := by
  unfold execPtpFollowUpRx
  with_reducible repeat' (first
    | exact Kept.refl _ | refine out_next ?_ | refine kept_ite ?_ ?_ | refine out_ite ?_ ?_ | refine (State.err_kept ..).after ?_
    | refine (State.ptpSyncDone_kept ..).after ?_
    | refine withAccepted_kept (State.ptpAccept_kept1 ..) (State.ptpAccept_kept ..) (fun _ => ?_) | refine pair_kept (by assumption) ?_
    | dsimp only | intro _ | split)

theorem execOscInLoss_kept (s : State) : OutKept s (execOscInLoss s) := by
  unfold execOscInLoss
  with_reducible repeat' (first
    | exact Kept.refl _ | refine out_next ?_ | refine (State.oscLoss_kept ..).after ?_ | dsimp only)

theorem execPpsInEdge_kept (n : Nat) (sub : Nat) (s : State) : OutKept s (execPpsInEdge n sub s) := by
  unfold execPpsInEdge
  with_reducible repeat' (first
    | exact Kept.refl _ | refine out_next ?_ | fail_if_no_progress refine kept_mk (by rfl) (by rfl) ?_ | refine kept_ite ?_ ?_
    | refine out_ite ?_ ?_ | refine (State.err_kept ..).after ?_ | dsimp only | split)

theorem execEsmcRx_kept (port : Nat) (ql : Nat) (s : State) : OutKept s (execEsmcRx port ql s) := by
  unfold execEsmcRx
  with_reducible repeat' (first
    | exact Kept.refl _ | refine out_next ?_ | refine kept_ite ?_ ?_ | refine out_ite ?_ ?_ | refine (State.updSin_kept ..).after ?_
    | refine (State.raise_kept ..).after ?_ | refine (State.qlChanged_kept ..).after ?_ | dsimp only)

theorem execPtpDelayReqTx_kept (i : Nat) (p : Nat) (s : State) : OutKept s (execPtpDelayReqTx i p s) := by
  unfold execPtpDelayReqTx
  with_reducible repeat' (first
    | exact Kept.refl _ | refine out_next ?_ | refine kept_ite ?_ ?_ | refine out_ite ?_ ?_ | refine (State.ptpSend_kept ..).after ?_
    | refine (State.updInst_kept ..).after ?_ | dsimp only)

theorem execFrequencyDpllLock_kept (s : State) : OutKept s (execFrequencyDpllLock s) := by
  unfold execFrequencyDpllLock
  with_reducible repeat' (first
    | exact Kept.refl _ | refine out_next ?_ | fail_if_no_progress refine kept_mk (by rfl) (by rfl) ?_ | refine kept_ite ?_ ?_
    | refine out_ite ?_ ?_ | refine (State.wr_kept ..).after ?_ | dsimp only)

theorem execPpsOutEnd_kept (n : Nat) (s : State) : OutKept s (execPpsOutEnd n s) := by
  unfold execPpsOutEnd
  with_reducible repeat' (first
    | exact Kept.refl _ | refine out_next ?_ | fail_if_no_progress refine kept_mk (by rfl) (by rfl) ?_ | refine kept_ite ?_ ?_
    | refine out_ite ?_ ?_ | refine (State.emit_kept ..).after ?_ | dsimp only)

theorem execTimeStep_kept (f : Nat) (s : State) : OutKept s (execTimeStep f s) := by
  unfold execTimeStep
  with_reducible repeat' (first
    | exact Kept.refl _ | refine out_next ?_ | fail_if_no_progress refine kept_mk (by rfl) (by rfl) ?_ | refine kept_ite ?_ ?_
    | refine out_ite ?_ ?_ | refine (State.admWait_kept ..).after ?_ | refine (State.admDone_kept ..).after ?_
    | refine (State.admCrit_kept (hk := ?_) ..).after ?_ | refine (State.wrPend_kept ..).after ?_ | dsimp only | intro _)

theorem execPtpAnnounceReceiptTimeout_kept (i : Nat) (s : State) : OutKept s (execPtpAnnounceReceiptTimeout i s) := by
  unfold execPtpAnnounceReceiptTimeout
  with_reducible repeat' (first
    | exact Kept.refl _ | refine out_next ?_ | refine (State.bmca_kept ..).after ?_ | refine (State.updInst_kept ..).after ?_ | dsimp only
    | split)

theorem execTimeSourceApply_kept (s : State) : OutKept s (execTimeSourceApply s) := by
  unfold execTimeSourceApply
  with_reducible repeat' (first
    | exact Kept.refl _ | refine out_next ?_ | fail_if_no_progress refine kept_mk (by rfl) (by rfl) ?_ | refine kept_ite ?_ ?_
    | refine out_ite ?_ ?_ | refine (State.tsMove_kept ..).after ?_ | refine (State.tsFollow_kept ..).after ?_
    | refine (State.wr_kept ..).after ?_ | refine (State.writeAllStaged_kept ..).after ?_ | refine (State.applyDone_kept ..).after ?_
    | dsimp only | split)

theorem execPtmResponseRx_kept (a : Nat) (t2 : Int) (turn : Int) (s : State) : OutKept s (execPtmResponseRx a t2 turn s) := by
  unfold execPtmResponseRx
  with_reducible repeat' (first
    | exact Kept.refl _ | refine out_next ?_ | fail_if_no_progress refine kept_mk (by rfl) (by rfl) ?_ | refine kept_ite ?_ ?_
    | refine out_ite ?_ ?_ | refine (State.ptmDiscard_kept ..).after ?_ | refine (State.wr_kept ..).after ?_
    | refine (State.roundPs_kept ..).after ?_ | refine (State.ptmRate_kept ..).after ?_ | refine (State.writeTimePages_kept ..).after ?_
    | refine pair_kept (by assumption) ?_ | dsimp only | split)

theorem execPtmResponseTimeout_kept (a : Nat) (s : State) : OutKept s (execPtmResponseTimeout a s) := by
  unfold execPtmResponseTimeout
  with_reducible repeat' (first
    | exact Kept.refl _ | refine out_next ?_ | refine (State.ptmDiscard_kept ..).after ?_ | dsimp only | split)

theorem execPtpManagementRx_kept (i : Nat) (p : Nat) (m : PtpMsg) (s : State) : OutKept s (execPtpManagementRx i p m s) := by
  unfold execPtpManagementRx
  with_reducible repeat' (first
    | exact Kept.refl _ | refine out_next ?_ | refine (State.err_kept ..).after ?_
    | refine withAccepted_kept (State.ptpAccept_kept1 ..) (State.ptpAccept_kept ..) (fun _ => ?_) | dsimp only | intro _)

theorem execPtpSignalingRx_kept (i : Nat) (p : Nat) (m : PtpMsg) (v : PtpTlv) (s : State) : OutKept s (execPtpSignalingRx i p m v s) := by
  unfold execPtpSignalingRx
  with_reducible repeat' (first
    | exact Kept.refl _ | refine out_next ?_ | refine kept_ite ?_ ?_ | refine out_ite ?_ ?_ | refine (State.err_kept ..).after ?_
    | refine (State.emit_kept ..).after ?_ | refine (State.updInst_kept ..).after ?_
    | refine withAccepted_kept (State.ptpAccept_kept1 ..) (State.ptpAccept_kept ..) (fun _ => ?_) | refine pair_kept (by assumption) ?_
    | dsimp only | intro _ | split)

theorem execEsmcInfoTx_kept (s : State) : OutKept s (execEsmcInfoTx s) := by
  unfold execEsmcInfoTx
  with_reducible repeat' (first
    | exact Kept.refl _ | refine out_next ?_ | refine (State.updSin_kept ..).after ?_ | refine (State.esmcSend_kept ..).after ?_
    | refine each_kept ?_ (fun _ _ => ?_) | dsimp only | intro _)

theorem execPtpUnmatchedTimeout_kept (i : Nat) (s : State) : OutKept s (execPtpUnmatchedTimeout i s) := by
  unfold execPtpUnmatchedTimeout
  with_reducible repeat' (first
    | exact Kept.refl _ | refine out_next ?_ | fail_if_no_progress refine kept_mk (by rfl) (by rfl) ?_
    | refine (State.err_kept ..).after ?_ | refine (State.txDropped_kept ..).after ?_ | refine (State.updInst_kept ..).after ?_
    | dsimp only | split)

theorem execPtpPdelayRespFollowUpRx_kept (i : Nat) (p : Nat) (m : PtpMsg) (s : State) : OutKept s (execPtpPdelayRespFollowUpRx i p m s) := by
  unfold execPtpPdelayRespFollowUpRx
  with_reducible repeat' (first
    | exact Kept.refl _ | refine out_next ?_ | refine kept_ite ?_ ?_ | refine out_ite ?_ ?_ | refine (State.ptpPeerDone_kept ..).after ?_
    | refine (State.updInst_kept ..).after ?_
    | refine withAccepted_kept (State.ptpAccept_kept1 ..) (State.ptpAccept_kept ..) (fun _ => ?_) | dsimp only | intro _ | split)

theorem execSynceHoldOffExpiry_kept (n : Nat) (s : State) : OutKept s (execSynceHoldOffExpiry n s) := by
  unfold execSynceHoldOffExpiry
  with_reducible repeat' (first
    | exact Kept.refl _ | refine out_next ?_ | refine kept_ite ?_ ?_ | refine out_ite ?_ ?_ | refine (State.updSin_kept ..).after ?_
    | refine (State.reselect_kept ..).after ?_ | dsimp only)

theorem execPtpDelayReqRx_kept (i : Nat) (p : Nat) (m : PtpMsg) (s : State) : OutKept s (execPtpDelayReqRx i p m s) := by
  unfold execPtpDelayReqRx
  with_reducible repeat' (first
    | exact Kept.refl _ | refine out_next ?_ | refine kept_ite ?_ ?_ | refine out_ite ?_ ?_ | refine (State.ptpSend_kept ..).after ?_
    | refine withAccepted_kept (State.ptpAccept_kept1 ..) (State.ptpAccept_kept ..) (fun _ => ?_) | dsimp only | intro _ | split)

theorem execPtpAnnounceTx_kept (i : Nat) (p : Nat) (s : State) : OutKept s (execPtpAnnounceTx i p s) := by
  unfold execPtpAnnounceTx
  with_reducible repeat' (first
    | exact Kept.refl _ | refine out_next ?_ | refine kept_ite ?_ ?_ | refine out_ite ?_ ?_ | refine (State.ptpSend_kept ..).after ?_
    | refine (State.updInst_kept ..).after ?_ | dsimp only)

theorem execRealignCountExpiry_kept (s : State) : OutKept s (execRealignCountExpiry s) := by
  unfold execRealignCountExpiry
  with_reducible repeat' (first
    | exact Kept.refl _ | refine out_next ?_ | fail_if_no_progress refine kept_mk (by rfl) (by rfl) ?_ | refine kept_ite ?_ ?_
    | refine out_ite ?_ ?_ | refine (State.startAlign_kept ..).after ?_ | dsimp only)

theorem execPtmDialogueStart_kept (a : Nat) (s : State) : OutKept s (execPtmDialogueStart a s) := by
  unfold execPtmDialogueStart
  with_reducible repeat' (first
    | exact Kept.refl _ | refine out_next ?_ | fail_if_no_progress refine kept_mk (by rfl) (by rfl) ?_ | refine kept_ite ?_ ?_
    | refine out_ite ?_ ?_ | refine (State.emit_kept ..).after ?_ | dsimp only)

theorem execPtpPdelayRespRx_kept (i : Nat) (p : Nat) (m : PtpMsg) (s : State) : OutKept s (execPtpPdelayRespRx i p m s) := by
  unfold execPtpPdelayRespRx
  with_reducible repeat' (first
    | exact Kept.refl _ | refine out_next ?_ | refine kept_ite ?_ ?_ | refine out_ite ?_ ?_ | refine (State.ptpPeerDone_kept ..).after ?_
    | refine (State.updInst_kept ..).after ?_
    | refine withAccepted_kept (State.ptpAccept_kept1 ..) (State.ptpAccept_kept ..) (fun _ => ?_) | dsimp only | intro _ | split)

theorem execPtpGrantRenew_kept (i : Nat) (k : Nat) (s : State) : OutKept s (execPtpGrantRenew i k s) := by
  unfold execPtpGrantRenew
  with_reducible repeat' (first
    | exact Kept.refl _ | refine out_next ?_ | refine (State.emit_kept ..).after ?_ | dsimp only | split)

theorem execPtpPdelayReqRx_kept (i : Nat) (p : Nat) (m : PtpMsg) (s : State) : OutKept s (execPtpPdelayReqRx i p m s) := by
  unfold execPtpPdelayReqRx
  with_reducible repeat' (first
    | exact Kept.refl _ | refine out_next ?_ | refine kept_ite ?_ ?_ | refine out_ite ?_ ?_ | refine (State.ptpSend_kept ..).after ?_
    | refine withAccepted_kept (State.ptpAccept_kept1 ..) (State.ptpAccept_kept ..) (fun _ => ?_) | dsimp only | intro _ | split)

theorem execPtpDelayRespRx_kept (i : Nat) (p : Nat) (m : PtpMsg) (s : State) : OutKept s (execPtpDelayRespRx i p m s) := by
  unfold execPtpDelayRespRx
  with_reducible repeat' (first
    | exact Kept.refl _ | refine out_next ?_ | refine kept_ite ?_ ?_ | refine out_ite ?_ ?_ | refine (State.ptpExchange_kept ..).after ?_
    | refine (State.setMeanDelay_kept ..).after ?_ | refine (State.updInst_kept ..).after ?_
    | refine withAccepted_kept (State.ptpAccept_kept1 ..) (State.ptpAccept_kept ..) (fun _ => ?_) | refine pair_kept (by assumption) ?_
    | dsimp only | intro _ | split)

theorem execTimeStepApply_kept (s : State) : OutKept s (execTimeStepApply s) := by
  unfold execTimeStepApply
  with_reducible repeat' (first
    | exact Kept.refl _ | refine out_next ?_ | fail_if_no_progress refine kept_mk (by rfl) (by rfl) ?_ | refine kept_ite ?_ ?_
    | refine out_ite ?_ ?_ | refine (State.admDone_kept ..).after ?_ | refine (State.stepNow_kept ..).after ?_ | dsimp only | split)

theorem execTodSentenceRx_kept (n : Nat) (sumOk : Bool) (utc : Nat) (s : State) : OutKept s (execTodSentenceRx n sumOk utc s) := by
  unfold execTodSentenceRx
  with_reducible repeat' (first
    | exact Kept.refl _ | refine out_next ?_ | fail_if_no_progress refine kept_mk (by rfl) (by rfl) ?_ | refine kept_ite ?_ ?_
    | refine out_ite ?_ ?_ | dsimp only | split)

theorem execEsmcTimeout_kept (port : Nat) (s : State) : OutKept s (execEsmcTimeout port s) := by
  unfold execEsmcTimeout
  with_reducible repeat' (first
    | exact Kept.refl _ | refine out_next ?_ | refine kept_ite ?_ ?_ | refine out_ite ?_ ?_ | refine (State.updSin_kept ..).after ?_
    | refine (State.raise_kept ..).after ?_ | refine (State.qlChanged_kept ..).after ?_ | dsimp only)

theorem execSnapshotTake_kept (who : Nat) (s : State) : OutKept s (execSnapshotTake who s) := by
  unfold execSnapshotTake
  with_reducible repeat' (first
    | exact Kept.refl _ | refine out_next ?_ | refine kept_ite ?_ ?_ | refine out_ite ?_ ?_ | refine (State.snapshot_kept ..).after ?_
    | refine (State.snapshotFw_kept ..).after ?_ | dsimp only)

theorem execPtpPdelayReqTx_kept (i : Nat) (p : Nat) (s : State) : OutKept s (execPtpPdelayReqTx i p s) := by
  unfold execPtpPdelayReqTx
  with_reducible repeat' (first
    | exact Kept.refl _ | refine out_next ?_ | refine kept_ite ?_ ?_ | refine out_ite ?_ ?_ | refine (State.ptpSend_kept ..).after ?_
    | refine (State.updInst_kept ..).after ?_ | dsimp only)

theorem execFdpllInputLoss_kept (s : State) : OutKept s (execFdpllInputLoss s) := by
  unfold execFdpllInputLoss
  with_reducible repeat' (first
    | exact Kept.refl _ | refine out_next ?_ | fail_if_no_progress refine kept_mk (by rfl) (by rfl) ?_
    | refine (State.wr_kept ..).after ?_ | dsimp only)

theorem execPtpGrantRequestRetry_kept (i : Nat) (k : Nat) (s : State) : OutKept s (execPtpGrantRequestRetry i k s) := by
  unfold execPtpGrantRequestRetry
  with_reducible repeat' (first
    | exact Kept.refl _ | refine out_next ?_ | refine (State.emit_kept ..).after ?_ | refine (State.updInst_kept ..).after ?_ | dsimp only
    | split)

end Sys2Proof.Machine
end

