-- ==== Sys2Proof/Laws/KeptPath.lean ====
section
/-! SUPPORT. Laws/KeptPath.lean: what the operations of the frame path: the traffic manager, rings, reads, parsing, lookups, rulesets, galleries leave alone, and how memories, outputs and free values go on
(Kept), one lemma for each operation. -/

namespace Sys2Proof.Machine

open Sys2Proof

set_option linter.unusedVariables false
set_option linter.unreachableTactic false
set_option linter.unusedTactic false
set_option cleanup.letToHave false

theorem State.showGate_kept (s : State) (p : Nat) : Kept s (State.showGate s p) := by
  unfold State.showGate
  with_reducible repeat' (first
    | exact Kept.refl _ | refine (State.wrB_kept ..).after ?_ | refine (State.wr_kept ..).after ?_ | dsimp only | split)

theorem State.setGate_kept (s : State) (p : Nat) (x : GatePort) : Kept s (State.setGate s p x) := by
  unfold State.setGate
  with_reducible repeat' (first
    | exact Kept.refl _ | fail_if_no_progress refine kept_mk (by rfl) (by rfl) ?_ | dsimp only)

theorem State.setCtx_kept (s : State) (n : Nat) (v : Nat) : Kept s (State.setCtx s n v) := by
  unfold State.setCtx
  with_reducible repeat' (first
    | exact Kept.refl _ | fail_if_no_progress refine kept_mk (by rfl) (by rfl) ?_ | dsimp only)

theorem State.setCx_kept (s : State) (n : Nat) (f : Nat × Nat) (v : Nat) : Kept s (State.setCx s n f v) := by
  unfold State.setCx
  with_reducible repeat' (first
    | exact Kept.refl _ | refine (State.setCtx_kept ..).after ?_ | dsimp only)

theorem State.sampleRing_kept (s : State) (k : Nat) (v : Word) : Kept s (State.sampleRing s k v) := by
  unfold State.sampleRing
  with_reducible repeat' (first
    | exact Kept.refl _ | fail_if_no_progress refine kept_mk (by rfl) (by rfl) ?_ | refine (State.setReg_kept ..).after ?_ | dsimp only)

theorem State.setPf_kept (s : State) (p : Nat) (lo : Nat) (w : Nat) (v : Nat) : Kept s (State.setPf s p lo w v) := by
  unfold State.setPf
  with_reducible repeat' (first
    | exact Kept.refl _ | fail_if_no_progress refine kept_mk (by rfl) (by rfl) ?_ | dsimp only)

theorem State.setEvents_kept (s : State) (g : Nat) (e : Nat) (mask : Nat) : Kept s (State.setEvents s g e mask) := by
  unfold State.setEvents
  with_reducible repeat' (first
    | exact Kept.refl _ | refine (State.wr_kept ..).after ?_ | dsimp only)

theorem State.setTq_kept (s : State) (q : Nat) (x : TmQueue) : Kept s (State.setTq s q x) := by
  unfold State.setTq
  with_reducible repeat' (first
    | exact Kept.refl _ | fail_if_no_progress refine kept_mk (by rfl) (by rfl) ?_ | dsimp only)

theorem State.setTg_kept (s : State) (g : Nat) (x : TmGroup) : Kept s (State.setTg s g x) := by
  unfold State.setTg
  with_reducible repeat' (first
    | exact Kept.refl _ | fail_if_no_progress refine kept_mk (by rfl) (by rfl) ?_ | dsimp only)

theorem State.leaveRounds_kept (s : State) (q : Nat) (g : Nat) : Kept s (State.leaveRounds s q g) := by
  unfold State.leaveRounds
  with_reducible repeat' (first
    | exact Kept.refl _ | fail_if_no_progress refine kept_mk (by rfl) (by rfl) ?_ | refine kept_ite ?_ ?_
    | refine (State.setTq_kept ..).after ?_ | refine (State.setTg_kept ..).after ?_ | dsimp only)

theorem State.updNc_kept (s : State) (c : Nat) (f : NcChan → NcChan) : Kept s (State.updNc s c f) := by
  unfold State.updNc
  with_reducible repeat' (first
    | exact Kept.refl _ | fail_if_no_progress refine kept_mk (by rfl) (by rfl) ?_ | dsimp only)

theorem State.ctlSend_kept (s : State) (p : Nat) (y2 : CtlFrame) : Kept s (State.ctlSend s p y2) := by
  unfold State.ctlSend
  with_reducible repeat' (first
    | exact Kept.refl _ | refine (State.updNc_kept ..).after ?_ | refine (State.stat_kept ..).after ?_
    | refine (State.emit_kept ..).after ?_ | dsimp only | split)

theorem State.setPrt_kept (s : State) (p : Nat) (x : Port) : Kept s (State.setPrt s p x) := by
  unfold State.setPrt
  with_reducible repeat' (first
    | exact Kept.refl _ | fail_if_no_progress refine kept_mk (by rfl) (by rfl) ?_ | dsimp only)

theorem State.ctlFrame_kept (s : State) (p : Nat) (c : CtlFrame) : Kept s (State.ctlFrame s p c) := by
  unfold State.ctlFrame
  with_reducible repeat' (first
    | exact Kept.refl _ | refine kept_ite ?_ ?_ | refine (State.ctlSend_kept ..).after ?_ | refine (State.setPrt_kept ..).after ?_
    | dsimp only)

theorem State.pfcRelease_kept (s : State) (h : HoldSrc) : Kept s (State.pfcRelease s h) := by
  unfold State.pfcRelease
  with_reducible repeat' (first
    | exact Kept.refl _ | refine kept_ite ?_ ?_ | refine (State.ctlFrame_kept ..).after ?_ | refine (State.setPrt_kept ..).after ?_
    | dsimp only | split)

theorem State.release_kept (s : State) (g : Nat) : Kept s (State.release s g) := by
  unfold State.release
  with_reducible repeat' (first
    | exact Kept.refl _ | refine kept_ite ?_ ?_ | refine (State.setTq_kept ..).after ?_ | refine (State.pfcRelease_kept ..).after ?_
    | refine each_kept ?_ (fun _ _ => ?_) | dsimp only | intro _)

theorem State.tmRegroup_kept (s : State) (q : Nat) (g : Nat) (h : Nat) : Kept s (State.tmRegroup s q g h) := by
  unfold State.tmRegroup
  with_reducible repeat' (first
    | exact Kept.refl _ | fail_if_no_progress refine kept_mk (by rfl) (by rfl) ?_ | refine kept_ite ?_ ?_
    | refine (State.leaveRounds_kept ..).after ?_ | refine (State.setTg_kept ..).after ?_ | refine (State.release_kept ..).after ?_
    | dsimp only)

theorem State.tmStore_kept (s : State) (t : Nat) (i : Nat) (v : Nat) : Kept s (State.tmStore s t i v) := by
  unfold State.tmStore
  with_reducible repeat' (first
    | exact Kept.refl _ | fail_if_no_progress refine kept_mk (by rfl) (by rfl) ?_ | refine kept_ite ?_ ?_
    | refine (State.tmRegroup_kept ..).after ?_ | dsimp only)

theorem State.tmStart_kept (s : State) (a : Nat) (t : Nat) (i : Nat) (write : Bool) (k : State → State) (hk : ∀ x0, Kept x0 (k x0)) : Kept s (State.tmStart s a t i write k) := by
  unfold State.tmStart
  with_reducible repeat' (first
    | exact Kept.refl _ | refine kept_ite ?_ ?_ | refine (hk ..).after ?_ | exact hk .. | refine (State.wrB_kept ..).after ?_
    | refine (State.wr_kept ..).after ?_ | dsimp only)

theorem State.tmErr_kept (s : State) (a : Nat) (code : Nat) : Kept s (State.tmErr s a code) := by
  unfold State.tmErr
  with_reducible repeat' (first
    | exact Kept.refl _ | refine (State.wrB_kept ..).after ?_ | refine (State.wr_kept ..).after ?_ | dsimp only)

theorem State.tmTableWrite_kept (s : State) (a : Nat) (t : Nat) (i : Nat) : Kept s (State.tmTableWrite s a t i) := by
  unfold State.tmTableWrite
  with_reducible repeat' (first
    | exact Kept.refl _ | refine kept_ite ?_ ?_ | refine (State.err_kept ..).after ?_ | refine (State.tmStore_kept ..).after ?_
    | refine (State.tmStart_kept (hk := ?_) ..).after ?_ | refine (State.tmErr_kept ..).after ?_ | dsimp only | intro _)

theorem State.tmTableRead_kept (s : State) (a : Nat) (t : Nat) (i : Nat) : Kept s (State.tmTableRead s a t i) := by
  unfold State.tmTableRead
  with_reducible repeat' (first
    | exact Kept.refl _ | refine kept_ite ?_ ?_ | refine (State.setReg_kept ..).after ?_
    | refine (State.tmStart_kept (hk := ?_) ..).after ?_ | refine (State.tmErr_kept ..).after ?_ | refine each_kept ?_ (fun _ _ => ?_)
    | dsimp only | intro _)

theorem State.sumpFault_kept (s : State) (k : Nat) (cause : Nat) (unit : Nat) : Kept s (State.sumpFault s k cause unit) := by
  unfold State.sumpFault
  with_reducible repeat' (first
    | exact Kept.refl _ | refine (State.fault_kept ..).after ?_ | dsimp only)

theorem State.sumpStore_kept (s : State) (k : Nat) (unit : Nat) (data : Nat) (tag : Nat) : Kept s (State.sumpStore s k unit data tag) := by
  unfold State.sumpStore
  with_reducible repeat' (first
    | exact Kept.refl _ | fail_if_no_progress refine kept_mk (by rfl) (by rfl) ?_ | refine kept_ite ?_ ?_
    | refine (State.wr_kept ..).after ?_ | dsimp only)

theorem State.sumpCloseProd_kept (s : State) (k : Nat) (cause : Nat) : Kept s (State.sumpCloseProd s k cause) := by
  unfold State.sumpCloseProd
  with_reducible repeat' (first
    | exact Kept.refl _ | refine (State.sumpFault_kept ..).after ?_ | refine (State.sumpStore_kept ..).after ?_
    | refine (State.raise_kept ..).after ?_ | dsimp only)

theorem State.setThr_kept (s : State) (g : Nat) (e : Nat) (t : Nat) (x : Thread) : Kept s (State.setThr s g e t x) := by
  unfold State.setThr
  with_reducible repeat' (first
    | exact Kept.refl _ | fail_if_no_progress refine kept_mk (by rfl) (by rfl) ?_ | dsimp only)

theorem State.updThr_kept (s : State) (g : Nat) (e : Nat) (t : Nat) (f : Thread → Thread) : Kept s (State.updThr s g e t f) := by
  unfold State.updThr
  with_reducible repeat' (first
    | exact Kept.refl _ | refine (State.setThr_kept ..).after ?_ | dsimp only)

theorem State.sumpAbort_kept (s : State) (g : Nat) (i : Nat) : Kept s (State.sumpAbort s g i) := by
  unfold State.sumpAbort
  with_reducible repeat' (first
    | exact Kept.refl _ | refine kept_ite ?_ ?_ | refine (State.sumpCloseProd_kept ..).after ?_ | refine (State.updThr_kept ..).after ?_
    | dsimp only | split)

theorem State.sampleCfg_kept (s : State) (k : Nat) (v : Word) : Kept s (State.sampleCfg s k v) := by
  unfold State.sampleCfg
  with_reducible repeat' (first
    | exact Kept.refl _ | refine kept_ite ?_ ?_ | refine (State.wrB_kept ..).after ?_ | refine (State.setReg_kept ..).after ?_
    | refine (State.fresh_kept ..).after ?_ | refine (State.wr_kept ..).after ?_ | refine pair_kept (by assumption) ?_ | dsimp only
    | split)

theorem State.pfcHold_kept (s : State) (p : Nat) (i : Nat) : Kept s (State.pfcHold s p i) := by
  unfold State.pfcHold
  with_reducible repeat' (first
    | exact Kept.refl _ | refine kept_ite ?_ ?_ | refine (State.ctlFrame_kept ..).after ?_ | refine (State.setPrt_kept ..).after ?_
    | dsimp only)

theorem State.tailDrop_kept (s : State) (q : Nat) (p : Pkt) : Kept s (State.tailDrop s q p) := by
  unfold State.tailDrop
  with_reducible repeat' (first
    | exact Kept.refl _ | refine (State.setTq_kept ..).after ?_ | refine (State.txDropped_kept ..).after ?_ | dsimp only)

theorem State.tmPut_kept (s : State) (q : Nat) (g : Nat) (cells : Nat) (p : Pkt) : Kept s (State.tmPut s q g cells p) := by
  unfold State.tmPut
  with_reducible repeat' (first
    | exact Kept.refl _ | fail_if_no_progress refine kept_mk (by rfl) (by rfl) ?_ | refine kept_ite ?_ ?_
    | refine (State.setTq_kept ..).after ?_ | refine (State.wr_kept ..).after ?_ | refine (State.setTg_kept ..).after ?_ | dsimp only)

theorem State.admit1_kept (s : State) (q : Nat) (g : Nat) (p : Pkt) (colour : Nat) (cells : Nat) : Kept s (State.admit1 s q g p colour cells) := by
  unfold State.admit1
  with_reducible repeat' (first
    | exact Kept.refl _ | refine kept_ite ?_ ?_ | refine (State.pfcHold_kept ..).after ?_ | refine (State.setTq_kept ..).after ?_
    | refine (State.tailDrop_kept ..).after ?_ | refine (State.txDropped_kept ..).after ?_ | refine (State.stat_kept ..).after ?_
    | refine (State.tmPut_kept ..).after ?_ | dsimp only | split)

theorem State.writeCtx_kept (s : State) (g : Nat) (p : Pkt) : Kept s (State.writeCtx s g p) := by
  unfold State.writeCtx
  with_reducible repeat' (first
    | exact Kept.refl _ | fail_if_no_progress refine kept_mk (by rfl) (by rfl) ?_
    | refine kept_mk2 (List.suffix_refl _) (le_refl _) id (Mem.wf_putBytes _ _) ?_ | dsimp only)

theorem State.setGal_kept (s : State) (g : Nat) (x : Gallery) : Kept s (State.setGal s g x) := by
  unfold State.setGal
  with_reducible repeat' (first
    | exact Kept.refl _ | fail_if_no_progress refine kept_mk (by rfl) (by rfl) ?_ | dsimp only)

theorem State.place_kept (s : State) (g : Nat) (p : Pkt) : Kept s (State.place s g p) := by
  unfold State.place
  with_reducible repeat' (first
    | exact Kept.refl _ | refine kept_ite ?_ ?_ | refine (State.writeCtx_kept ..).after ?_ | refine (State.updThr_kept ..).after ?_
    | refine (State.setGal_kept ..).after ?_ | dsimp only | split)

theorem State.drain_kept (s : State) (g : Nat) : Kept s (State.drain s g) := by
  unfold State.drain
  with_reducible repeat' (first
    | exact Kept.refl _ | refine kept_ite ?_ ?_ | refine (State.place_kept ..).after ?_ | refine (State.setGal_kept ..).after ?_
    | refine each_kept ?_ (fun _ _ => ?_) | dsimp only | intro _)

theorem State.routePort_kept (s : State) (p : Pkt) : Kept s (State.routePort s p) := by
  unfold State.routePort
  with_reducible repeat' (first
    | exact Kept.refl _ | refine (State.pktGone_kept ..).after ?_ | refine (State.err_kept ..).after ?_
    | refine (State.toCry_kept ..).after ?_ | refine (State.toTm_kept ..).after ?_ | dsimp only | split)

theorem State.route_kept (s : State) (p : Pkt) : Kept s (State.route s p) := by
  unfold State.route
  with_reducible repeat' (first
    | exact Kept.refl _ | fail_if_no_progress refine kept_mk (by rfl) (by rfl) ?_ | refine kept_ite ?_ ?_
    | refine (State.pktGone_kept ..).after ?_ | refine (State.toCpu_kept ..).after ?_ | refine (State.stat_kept ..).after ?_
    | refine (State.routePort_kept ..).after ?_ | dsimp only)

theorem State.afterStages_kept (s : State) (p : Pkt) : Kept s (State.afterStages s p) := by
  unfold State.afterStages
  with_reducible repeat' (first
    | exact Kept.refl _ | refine kept_ite ?_ ?_ | refine (State.pktGone_kept ..).after ?_ | refine (State.err_kept ..).after ?_
    | refine (State.route_kept ..).after ?_ | refine (State.toCry_kept ..).after ?_ | dsimp only | split)

theorem State.setEngn_kept (s : State) (g : Nat) (e : Nat) (x : Engine) : Kept s (State.setEngn s g e x) := by
  unfold State.setEngn
  with_reducible repeat' (first
    | exact Kept.refl _ | fail_if_no_progress refine kept_mk (by rfl) (by rfl) ?_ | dsimp only)

theorem State.askRead_kept (s : State) (f : Nat) (bytes : Nat) (why : ReadFor) : Kept s (State.askRead s f bytes why) := by
  unfold State.askRead
  with_reducible repeat' (first
    | exact Kept.refl _ | fail_if_no_progress refine kept_mk (by rfl) (by rfl) ?_ | dsimp only)

theorem State.askEntries_kept (s : State) (f : Nat) (k : Nat) (q : Nat) : Kept s (State.askEntries s f k q) := by
  unfold State.askEntries
  with_reducible repeat' (first
    | exact Kept.refl _ | refine kept_ite ?_ ?_ | refine (State.askRead_kept ..).after ?_ | dsimp only)

theorem State.updQue_kept (s : State) (f : Nat) (k : Nat) (q : Nat) (g : Queue → Queue) : Kept s (State.updQue s f k q g) := by
  unfold State.updQue
  with_reducible repeat' (first
    | exact Kept.refl _ | refine (State.updFunc_kept ..).after ?_ | dsimp only)

theorem State.vqTake_kept (s : State) (f : Nat) (k : Nat) (n : Nat) (c : VChain) : Kept s (State.vqTake s f k n c) := by
  unfold State.vqTake
  with_reducible repeat' (first
    | exact Kept.refl _ | refine kept_ite ?_ ?_ | refine (State.updQue_kept ..).after ?_ | dsimp only)

theorem State.vqUsed_kept (s : State) (f : Nat) (k : Nat) (n : Nat) (c : VChain) (len : Nat) : Kept s (State.vqUsed s f k n c len) := by
  unfold State.vqUsed
  with_reducible repeat' (first
    | exact Kept.refl _ | refine kept_ite ?_ ?_ | refine (State.updQue_kept ..).after ?_ | refine (State.hostWrite_kept ..).after ?_
    | dsimp only)

theorem State.unreserve_kept (s : State) (f : Nat) (cq : Nat) (n : Nat) : Kept s (State.unreserve s f cq n) := by
  unfold State.unreserve
  with_reducible repeat' (first
    | exact Kept.refl _ | refine (State.updFunc_kept ..).after ?_ | dsimp only)

theorem State.queueHalt_kept (s : State) (f : Nat) (k : Nat) (q : Nat) (st : QState) : Kept s (State.queueHalt s f k q st) := by
  unfold State.queueHalt
  with_reducible repeat' (first
    | exact Kept.refl _ | fail_if_no_progress refine kept_mk (by rfl) (by rfl) ?_ | refine kept_ite ?_ ?_
    | refine (State.unreserve_kept ..).after ?_ | refine (State.updQue_kept ..).after ?_ | dsimp only | split)

theorem State.cacheDrop_kept (s : State) (key : List Byte) (i : Nat) : Kept s (State.cacheDrop s key i) := by
  unfold State.cacheDrop
  with_reducible repeat' (first
    | exact Kept.refl _ | fail_if_no_progress refine kept_mk (by rfl) (by rfl) ?_ | refine kept_ite ?_ ?_ | dsimp only)

theorem State.cacheFill_kept (s : State) (key : List Byte) (i : Nat) : Kept s (State.cacheFill s key i) := by
  unfold State.cacheFill
  with_reducible repeat' (first
    | exact Kept.refl _ | fail_if_no_progress refine kept_mk (by rfl) (by rfl) ?_ | dsimp only)

theorem State.freeCells_kept (s : State) (q : Nat) (cells : Nat) : Kept s (State.freeCells s q cells) := by
  unfold State.freeCells
  with_reducible repeat' (first
    | exact Kept.refl _ | refine (State.setTq_kept ..).after ?_ | refine (State.wr_kept ..).after ?_
    | refine (State.setTg_kept ..).after ?_ | refine (State.release_kept ..).after ?_ | dsimp only)

theorem State.portAbort_kept (s : State) (p : Nat) : Kept s (State.portAbort s p) := by
  unfold State.portAbort
  with_reducible repeat' (first
    | exact Kept.refl _ | refine (State.err_kept ..).after ?_ | refine (State.txDropped_kept ..).after ?_
    | refine (State.freeCells_kept ..).after ?_ | refine (State.setPrt_kept ..).after ?_ | refine (State.emit_kept ..).after ?_
    | dsimp only | split)

theorem State.setConn_kept (s : State) (c : Nat) (x : Conn) : Kept s (State.setConn s c x) := by
  unfold State.setConn
  with_reducible repeat' (first
    | exact Kept.refl _ | fail_if_no_progress refine kept_mk (by rfl) (by rfl) ?_ | dsimp only)

theorem State.setQp_kept (s : State) (q : Nat) (x : Qp) : Kept s (State.setQp s q x) := by
  unfold State.setQp
  with_reducible repeat' (first
    | exact Kept.refl _ | fail_if_no_progress refine kept_mk (by rfl) (by rfl) ?_ | dsimp only)

theorem State.setChan_kept (s : State) (c : Nat) (x : RopeChan) : Kept s (State.setChan s c x) := by
  unfold State.setChan
  with_reducible repeat' (first
    | exact Kept.refl _ | fail_if_no_progress refine kept_mk (by rfl) (by rfl) ?_ | refine (State.wr_kept ..).after ?_ | dsimp only)

theorem State.updChan_kept (s : State) (c : Nat) (g : RopeChan → RopeChan) : Kept s (State.updChan s c g) := by
  unfold State.updChan
  with_reducible repeat' (first
    | exact Kept.refl _ | refine (State.setChan_kept ..).after ?_ | dsimp only)

theorem State.clearEvents_kept (s : State) (g : Nat) (e : Nat) (mask : Nat) : Kept s (State.clearEvents s g e mask) := by
  unfold State.clearEvents
  with_reducible repeat' (first
    | exact Kept.refl _ | fail_if_no_progress refine kept_mk (by rfl) (by rfl) ?_ | refine kept_ite ?_ ?_
    | refine (State.wr_kept ..).after ?_ | dsimp only)

theorem State.sumpCloseCons_kept (s : State) (k : Nat) : Kept s (State.sumpCloseCons s k) := by
  unfold State.sumpCloseCons
  with_reducible repeat' (first
    | exact Kept.refl _ | refine (State.err_kept ..).after ?_ | refine (State.sumpFault_kept ..).after ?_
    | refine (State.wr_kept ..).after ?_ | dsimp only)

theorem State.lockWithdraw_kept (s : State) (g : Nat) (n : Nat) (unit : Nat) : Kept s (State.lockWithdraw s g n unit) := by
  unfold State.lockWithdraw
  with_reducible repeat' (first
    | exact Kept.refl _ | refine (State.setGal_kept ..).after ?_ | dsimp only)

theorem State.lockFree_kept (s : State) (g : Nat) (n : Nat) : Kept s (State.lockFree s g n) := by
  unfold State.lockFree
  with_reducible repeat' (first
    | exact Kept.refl _ | refine (State.wr_kept ..).after ?_ | refine (State.setGal_kept ..).after ?_ | dsimp only)

theorem State.lockBreak_kept (s : State) (g : Nat) (n : Nat) (cause : Nat) (owner : Nat) : Kept s (State.lockBreak s g n cause owner) := by
  unfold State.lockBreak
  with_reducible repeat' (first
    | exact Kept.refl _ | refine kept_ite ?_ ?_ | refine (State.err_kept ..).after ?_ | refine (State.fault_kept ..).after ?_
    | refine (State.wr_kept ..).after ?_ | refine (State.raise_kept ..).after ?_ | refine (State.lockFree_kept ..).after ?_ | dsimp only)

theorem State.closeHolds_kept (s : State) (g : Nat) (e : Nat) (t : Nat) : Kept s (State.closeHolds s g e t) := by
  unfold State.closeHolds
  with_reducible repeat' (first
    | exact Kept.refl _ | refine (State.sumpCloseCons_kept ..).after ?_ | refine (State.lockWithdraw_kept ..).after ?_
    | refine (State.sumpCloseProd_kept ..).after ?_ | refine (State.lockBreak_kept ..).after ?_ | refine (State.updThr_kept ..).after ?_
    | refine each_kept ?_ (fun _ _ => ?_) | dsimp only | intro _ | split)

theorem State.closeOpen_kept (s : State) : Kept s (State.closeOpen s) := by
  unfold State.closeOpen
  with_reducible repeat' (first
    | exact Kept.refl _ | refine (State.wr_kept ..).after ?_ | dsimp only)

theorem State.commitResult_kept (s : State) (status : Nat) (reason : Nat) (item : Nat) (n : Nat) : Kept s (State.commitResult s status reason item n) := by
  unfold State.commitResult
  with_reducible repeat' (first
    | exact Kept.refl _ | refine (State.wr_kept ..).after ?_ | dsimp only)

theorem State.cqeWrite_kept (s : State) (f : Nat) (cq : Nat) (w0 : Nat) (w1 : Nat) (w2 : Nat) (w3 : Nat) (res : Bool) : Kept s (State.cqeWrite s f cq w0 w1 w2 w3 res) := by
  unfold State.cqeWrite
  with_reducible repeat' (first
    | exact Kept.refl _ | refine (State.hostWrite_kept ..).after ?_ | refine (State.setFunc_kept ..).after ?_ | dsimp only)

theorem State.policeDrop_kept (s : State) (p : Pkt) (colour : Nat) : Kept s (State.policeDrop s p colour).2 := by
  unfold State.policeDrop
  with_reducible repeat' (first
    | exact Kept.refl _ | fail_if_no_progress refine kept_mk (by rfl) (by rfl) ?_ | refine kept_ite ?_ ?_
    | refine (State.stat_kept ..).after ?_ | dsimp only | split)

theorem State.rxDrop_kept (s : State) (p : Pkt) (off : Nat) : Kept s (State.rxDrop s p off) := by
  unfold State.rxDrop
  with_reducible repeat' (first
    | exact Kept.refl _ | refine (State.txDropped_kept ..).after ?_ | refine (State.stat_kept ..).after ?_ | dsimp only)

theorem State.police_kept (s : State) (p : Pkt) (len : Nat) : Kept s (State.police s p len).2 := by
  unfold State.police
  with_reducible repeat' (first
    | exact Kept.refl _ | fail_if_no_progress refine kept_mk (by rfl) (by rfl) ?_ | refine kept_ite ?_ ?_ | dsimp only | split)

theorem State.ropeStart_kept (s : State) (c : Nat) (r : RopeReq) : Kept s (State.ropeStart s c r) := by
  unfold State.ropeStart
  with_reducible repeat' (first
    | exact Kept.refl _ | refine kept_ite ?_ ?_ | refine (State.updChan_kept ..).after ?_ | dsimp only)

theorem State.fill_kept (s : State) (a : Nat) (y2 : List (Nat × Nat)) (y3 : List Byte) : Kept s (State.fill s a y2 y3) := by
  induction y2 generalizing s a y3 with
  | nil =>
    unfold State.fill
    with_reducible repeat' (first
      | exact Kept.refl _ | refine (State.hostWrite_kept ..).after ?_ | dsimp only | split)
  | cons a l ih =>
    unfold State.fill
    with_reducible repeat' (first
      | exact Kept.refl _ | refine (ih ..).after ?_ | refine (State.hostWrite_kept ..).after ?_ | dsimp only | split)

theorem State.rxFlush_kept (s : State) (f : Nat) (n : Nat) (y3 : List RxPend) : Kept s (State.rxFlush s f n y3) := by
  induction y3 generalizing s f n with
  | nil =>
    unfold State.rxFlush
    with_reducible repeat' (first
      | exact Kept.refl _ | refine kept_ite ?_ ?_ | refine (State.updQue_kept ..).after ?_ | refine (State.cqeWrite_kept ..).after ?_
      | dsimp only | split)
  | cons a l ih =>
    unfold State.rxFlush
    with_reducible repeat' (first
      | exact Kept.refl _ | refine kept_ite ?_ ?_ | refine (ih ..).after ?_ | refine (State.updQue_kept ..).after ?_
      | refine (State.cqeWrite_kept ..).after ?_ | dsimp only | split)

theorem State.rxDone_kept (s : State) (f : Nat) (n : Nat) (req : Nat) : Kept s (State.rxDone s f n req) := by
  unfold State.rxDone
  with_reducible repeat' (first
    | exact Kept.refl _ | refine kept_ite ?_ ?_ | refine (State.rxFlush_kept ..).after ?_ | refine (State.updQue_kept ..).after ?_
    | dsimp only)

theorem State.rxNative_kept (s : State) (f : Nat) (n : Nat) (p : Pkt) : Kept s (State.rxNative s f n p) := by
  unfold State.rxNative
  with_reducible repeat' (first
    | exact Kept.refl _ | fail_if_no_progress refine kept_mk (by rfl) (by rfl) ?_ | refine kept_ite ?_ ?_
    | refine (State.txOutcome_kept ..).after ?_ | refine (State.ropeStart_kept ..).after ?_ | refine (State.updQue_kept ..).after ?_
    | refine (State.updFunc_kept ..).after ?_ | refine (State.fill_kept ..).after ?_ | refine (State.rxDrop_kept ..).after ?_
    | refine (State.rxDone_kept ..).after ?_ | dsimp only | split)

theorem State.rxChains_kept (s : State) (f : Nat) (q : Nat) (n : Nat) (y4 : Nat) : OpKept s (State.rxChains s f q n y4) := by
  induction y4 generalizing s f q n with
  | zero =>
    unfold State.rxChains
    exact op_none
  | succ n ih =>
    unfold State.rxChains
    with_reducible repeat' (first
      | exact Kept.refl _ | exact op_none | refine op_some ?_ | refine op_ite ?_ ?_ | refine op_map (fun _ => rfl) ?_
      | refine op_after (ih ..) (State.vqTake_kept ..) | refine (State.vqTake_kept ..).after ?_ | dsimp only | split)

theorem State.vWrite_kept (s : State) (a : Nat) (y2 : List VBuf) (y3 : List Byte) : Kept s (State.vWrite s a y2 y3) := by
  induction y2 generalizing s a y3 with
  | nil =>
    unfold State.vWrite
    with_reducible repeat' (first
      | exact Kept.refl _ | refine (State.hostWrite_kept ..).after ?_ | dsimp only | split)
  | cons a l ih =>
    unfold State.vWrite
    with_reducible repeat' (first
      | exact Kept.refl _ | refine (ih ..).after ?_ | refine (State.hostWrite_kept ..).after ?_ | dsimp only | split)

theorem State.rxFill_kept (s : State) (f : Nat) (q : Nat) (y3 : List VChain) (y4 : List Byte) : Kept s (State.rxFill s f q y3 y4) := by
  induction y3 generalizing s f q y4 with
  | nil =>
    unfold State.rxFill
    with_reducible repeat' (first
      | exact Kept.refl _ | refine (State.vWrite_kept ..).after ?_ | refine (State.vqUsed_kept ..).after ?_ | dsimp only | split)
  | cons a l ih =>
    unfold State.rxFill
    with_reducible repeat' (first
      | exact Kept.refl _ | refine (ih ..).after ?_ | refine (State.vWrite_kept ..).after ?_ | refine (State.vqUsed_kept ..).after ?_
      | dsimp only | split)

theorem State.rxVirtio_kept (s : State) (f : Nat) (n : Nat) (p : Pkt) : Kept s (State.rxVirtio s f n p) := by
  unfold State.rxVirtio
  with_reducible repeat' (first
    | exact Kept.refl _ | refine (State.txOutcome_kept ..).after ?_ | refine (op_get (State.rxChains_kept ..) (by assumption)).after ?_
    | exact State.rxChains_kept .. | refine (State.rxFill_kept ..).after ?_ | refine (State.rxDrop_kept ..).after ?_ | dsimp only | split)

theorem State.deliver_kept (s : State) (p : Pkt) : Kept s (State.deliver s p) := by
  unfold State.deliver
  with_reducible repeat' (first
    | exact Kept.refl _ | refine kept_ite ?_ ?_ | refine (State.txDropped_kept ..).after ?_ | refine (State.policeDrop_kept ..).after ?_
    | refine (State.rxDrop_kept ..).after ?_ | refine (State.police_kept ..).after ?_ | refine (State.rxNative_kept ..).after ?_
    | refine (State.rxVirtio_kept ..).after ?_ | refine pair_kept (by assumption) ?_ | dsimp only | split)

theorem State.ctlFlush_kept (s : State) (p : Nat) : Kept s (State.ctlFlush s p) := by
  unfold State.ctlFlush
  with_reducible repeat' (first
    | exact Kept.refl _ | refine (State.ctlSend_kept ..).after ?_ | refine (State.setPrt_kept ..).after ?_
    | refine each_kept ?_ (fun _ _ => ?_) | dsimp only | intro _)

theorem State.slowPath_kept (s : State) (g : Nat) (p : Pkt) : Kept s (State.slowPath s g p) := by
  unfold State.slowPath
  with_reducible repeat' (first
    | exact Kept.refl _ | refine (State.toCpu_kept ..).after ?_ | refine (State.stat_kept ..).after ?_ | dsimp only)

theorem State.onFault_kept (s : State) (g : Nat) (p : Pkt) : Kept s (State.onFault s g p) := by
  unfold State.onFault
  with_reducible repeat' (first
    | exact Kept.refl _ | refine kept_ite ?_ ?_ | refine (State.pktGone_kept ..).after ?_ | refine (State.err_kept ..).after ?_
    | refine (State.slowPath_kept ..).after ?_ | dsimp only)

theorem State.setTs_kept (s : State) (g : Nat) (e : Nat) (t : Nat) (v : Nat) : Kept s (State.setTs s g e t v) := by
  unfold State.setTs
  with_reducible repeat' (first
    | exact Kept.refl _ | refine (State.wr_kept ..).after ?_ | dsimp only)

theorem State.dropRun_kept (s : State) (g : Nat) (e : Nat) (t : Nat) : Kept s (State.dropRun s g e t) := by
  unfold State.dropRun
  with_reducible repeat' (first
    | exact Kept.refl _ | refine kept_ite ?_ ?_ | refine (State.updThr_kept ..).after ?_ | dsimp only)

theorem State.stopThr_kept (s : State) (g : Nat) (e : Nat) (t : Nat) : Kept s (State.stopThr s g e t) := by
  unfold State.stopThr
  with_reducible repeat' (first
    | exact Kept.refl _ | refine kept_ite ?_ ?_ | refine (State.setTs_kept ..).after ?_ | refine (State.closeHolds_kept ..).after ?_
    | refine (State.dropRun_kept ..).after ?_ | refine (State.wr_kept ..).after ?_ | refine (State.updThr_kept ..).after ?_ | dsimp only)

theorem State.stopRun_kept (s : State) (g : Nat) (e : Nat) (t : Nat) : Kept s (State.stopRun s g e t) := by
  unfold State.stopRun
  with_reducible repeat' (first
    | exact Kept.refl _ | refine kept_ite ?_ ?_ | refine (State.stopThr_kept ..).after ?_ | refine (State.updThr_kept ..).after ?_
    | dsimp only)

theorem State.popHead_kept (s : State) (q : Nat) : Kept s (State.popHead s q) := by
  unfold State.popHead
  with_reducible repeat' (first
    | exact Kept.refl _ | refine (State.setTq_kept ..).after ?_ | dsimp only)

theorem State.discardHead_kept (s : State) (q : Nat) (g : Nat) (cells : Nat) : Kept s (State.discardHead s q g cells) := by
  unfold State.discardHead
  with_reducible repeat' (first
    | exact Kept.refl _ | refine (State.leaveRounds_kept ..).after ?_ | refine (State.popHead_kept ..).after ?_
    | refine (State.freeCells_kept ..).after ?_ | dsimp only)

theorem State.writeDeadline_kept (s : State) (g : Nat) (p : Pkt) : Kept s (State.writeDeadline s g p) := by
  unfold State.writeDeadline
  with_reducible repeat' (first
    | exact Kept.refl _ | fail_if_no_progress refine kept_mk (by rfl) (by rfl) ?_ | dsimp only)

theorem State.vqNotify_kept (s : State) (f : Nat) (k : Nat) (n : Nat) : Kept s (State.vqNotify s f k n) := by
  unfold State.vqNotify
  with_reducible repeat' (first
    | exact Kept.refl _ | refine kept_ite ?_ ?_ | refine (State.updQue_kept ..).after ?_ | refine (State.sendInt_kept ..).after ?_
    | dsimp only)

theorem State.tmRefill_kept (s : State) : Kept s (State.tmRefill s) := by
  unfold State.tmRefill
  with_reducible repeat' (first
    | exact Kept.refl _ | fail_if_no_progress refine kept_mk (by rfl) (by rfl) ?_ | refine kept_ite ?_ ?_
    | refine (State.setTq_kept ..).after ?_ | refine (State.setTg_kept ..).after ?_ | refine (State.release_kept ..).after ?_
    | refine each_kept ?_ (fun _ _ => ?_) | dsimp only | intro _)

theorem State.gateTime_kept (s : State) (p : Nat) (l : GateList) : Kept s (State.gateTime s p l).2 := by
  unfold State.gateTime
  with_reducible repeat' (first
    | exact Kept.refl _ | refine kept_ite ?_ ?_ | refine (State.wrB_kept ..).after ?_ | refine (State.eventOwner_kept ..).after ?_
    | refine (State.wr_kept ..).after ?_ | refine (State.raise_kept ..).after ?_ | refine (State.stat_kept ..).after ?_ | dsimp only
    | split)

theorem State.gateTimeAll_kept (s : State) (p : Nat) (y2 : List (Nat × GateList)) : Kept s (State.gateTimeAll s p y2).2 := by
  induction y2 generalizing s p with
  | nil =>
    unfold State.gateTimeAll
    with_reducible repeat' (first
      | exact Kept.refl _ | refine kept_ite ?_ ?_ | refine (State.gateTime_kept ..).after ?_ | refine pair_kept (by assumption) ?_
      | dsimp only | split)
  | cons a l ih =>
    unfold State.gateTimeAll
    with_reducible repeat' (first
      | exact Kept.refl _ | refine kept_ite ?_ ?_ | refine (ih ..).after ?_ | refine (State.gateTime_kept ..).after ?_
      | refine pair_kept (by assumption) ?_ | dsimp only | split)

theorem State.showStates_kept (s : State) (p : Nat) : Kept s (State.showStates s p) := by
  unfold State.showStates
  with_reducible repeat' (first
    | exact Kept.refl _ | refine kept_ite ?_ ?_ | refine (State.wr_kept ..).after ?_ | dsimp only | split)

theorem State.gateRestart_kept (s : State) (p : Nat) : Kept s (State.gateRestart s p) := by
  unfold State.gateRestart
  with_reducible repeat' (first
    | exact Kept.refl _ | refine kept_ite ?_ ?_ | refine (State.wrB_kept ..).after ?_ | refine (State.wr_kept ..).after ?_ | dsimp only
    | split)

theorem State.gateBoundary_kept (s : State) (p : Nat) : Kept s (State.gateBoundary s p) := by
  unfold State.gateBoundary
  with_reducible repeat' (first
    | exact Kept.refl _ | refine kept_ite ?_ ?_ | refine (State.gateTimeAll_kept ..).after ?_ | refine (State.showGate_kept ..).after ?_
    | refine (State.gateTime_kept ..).after ?_ | refine (State.setGate_kept ..).after ?_ | refine (State.showStates_kept ..).after ?_
    | refine (State.gateRestart_kept ..).after ?_ | refine pair_kept (by assumption) ?_ | dsimp only | split)

theorem State.policeRefill_kept (s : State) : Kept s (State.policeRefill s) := by
  unfold State.policeRefill
  with_reducible repeat' (first
    | exact Kept.refl _ | fail_if_no_progress refine kept_mk (by rfl) (by rfl) ?_ | refine kept_ite ?_ ?_
    | refine each_kept ?_ (fun _ _ => ?_) | dsimp only | intro _)

theorem State.setInMatch_kept (s : State) (l : List InMatch) : Kept s (State.setInMatch s l) := by
  unfold State.setInMatch
  with_reducible repeat' (first
    | exact Kept.refl _ | fail_if_no_progress refine kept_mk (by rfl) (by rfl) ?_ | dsimp only)

theorem State.setCore_kept (s : State) (k : Nat) (c : ParseCore) : Kept s (State.setCore s k c) := by
  unfold State.setCore
  with_reducible repeat' (first
    | exact Kept.refl _ | fail_if_no_progress refine kept_mk (by rfl) (by rfl) ?_ | dsimp only)

theorem State.drrQueue_kept (s : State) (g : Nat) (y2 : Nat) : Kept s (State.drrQueue s g y2).2 := by
  induction y2 generalizing s g with
  | zero =>
    unfold State.drrQueue
    with_reducible repeat' (first
      | exact Kept.refl _ | fail_if_no_progress refine kept_mk (by rfl) (by rfl) ?_ | refine kept_ite ?_ ?_
      | refine (State.setTq_kept ..).after ?_ | dsimp only | split)
  | succ n ih =>
    unfold State.drrQueue
    with_reducible repeat' (first
      | exact Kept.refl _ | fail_if_no_progress refine kept_mk (by rfl) (by rfl) ?_ | refine kept_ite ?_ ?_ | refine (ih ..).after ?_
      | refine (State.setTq_kept ..).after ?_ | dsimp only | split)

theorem State.drrGroup_kept (s : State) (p : Nat) (c : Nat) (y3 : Nat) : Kept s (State.drrGroup s p c y3).2 := by
  induction y3 generalizing s p c with
  | zero =>
    unfold State.drrGroup
    with_reducible repeat' (first
      | exact Kept.refl _ | fail_if_no_progress refine kept_mk (by rfl) (by rfl) ?_ | refine kept_ite ?_ ?_
      | refine (State.setTg_kept ..).after ?_ | refine (State.drrQueue_kept ..).after ?_ | refine pair_kept (by assumption) ?_
      | dsimp only | split)
  | succ n ih =>
    unfold State.drrGroup
    with_reducible repeat' (first
      | exact Kept.refl _ | fail_if_no_progress refine kept_mk (by rfl) (by rfl) ?_ | refine kept_ite ?_ ?_ | refine (ih ..).after ?_
      | refine (State.setTg_kept ..).after ?_ | refine (State.drrQueue_kept ..).after ?_ | refine pair_kept (by assumption) ?_
      | dsimp only | split)

theorem State.setVer_kept (s : State) (v : Version) : Kept s (State.setVer s v) := by
  unfold State.setVer
  with_reducible repeat' (first
    | exact Kept.refl _ | fail_if_no_progress refine kept_mk (by rfl) (by rfl) ?_ | dsimp only)

theorem State.staged1_kept (s : State) (n : Nat) : Kept s (State.staged1 s n) := by
  unfold State.staged1
  with_reducible repeat' (first
    | exact Kept.refl _ | refine (State.setVer_kept ..).after ?_ | dsimp only)

theorem State.setTable_kept (s : State) (n : Nat) (t : MatchTable) : Kept s (State.setTable s n t) := by
  unfold State.setTable
  with_reducible repeat' (first
    | exact Kept.refl _ | fail_if_no_progress refine kept_mk (by rfl) (by rfl) ?_ | dsimp only)

theorem State.entryAdd_kept (s : State) (f : Nat) (n : Nat) (tab : Nat) (l : List Byte) : Kept s (State.entryAdd s f n tab l) := by
  unfold State.entryAdd
  with_reducible repeat' (first
    | exact Kept.refl _ | refine kept_ite ?_ ?_ | refine (State.staged1_kept ..).after ?_ | refine (State.admDone_kept ..).after ?_
    | refine (State.setTable_kept ..).after ?_ | dsimp only | split)

theorem State.entryDel_kept (s : State) (f : Nat) (n : Nat) (tab : Nat) (l : List Byte) : Kept s (State.entryDel s f n tab l) := by
  unfold State.entryDel
  with_reducible repeat' (first
    | exact Kept.refl _ | refine kept_ite ?_ ?_ | refine (State.staged1_kept ..).after ?_ | refine (State.admDone_kept ..).after ?_
    | refine (State.setTable_kept ..).after ?_ | dsimp only | split)

theorem State.setPc_kept (s : State) (g : Nat) (e : Nat) (t : Nat) (v : Nat) : Kept s (State.setPc s g e t v) := by
  unfold State.setPc
  with_reducible repeat' (first
    | exact Kept.refl _ | refine (State.wr_kept ..).after ?_ | dsimp only)

theorem State.finish_kept (s : State) (g : Nat) (e : Nat) (t : Nat) (last : Nat) : Kept s (State.finish s g e t last) := by
  unfold State.finish
  with_reducible repeat' (first
    | exact Kept.refl _ | refine (State.setPc_kept ..).after ?_ | refine (State.updThr_kept ..).after ?_ | dsimp only | split)

theorem State.haltThr_kept (s : State) (g : Nat) (e : Nat) (t : Nat) : Kept s (State.haltThr s g e t) := by
  unfold State.haltThr
  with_reducible repeat' (first
    | exact Kept.refl _ | refine kept_ite ?_ ?_ | refine (State.setTs_kept ..).after ?_ | refine (State.lockWithdraw_kept ..).after ?_
    | refine (State.updThr_kept ..).after ?_ | dsimp only | split)

theorem State.stepEnd_kept (s : State) (g : Nat) (e : Nat) (t : Nat) (ok : Bool) : Kept s (State.stepEnd s g e t ok) := by
  unfold State.stepEnd
  with_reducible repeat' (first
    | exact Kept.refl _ | fail_if_no_progress refine kept_mk (by first | rfl | simp only [Board.fix]) (by rfl) ?_ | refine kept_ite ?_ ?_
    | refine (State.wrB_kept ..).after ?_ | refine (State.wr_kept ..).after ?_ | refine (State.haltThr_kept ..).after ?_
    | refine (State.emit_kept ..).after ?_ | dsimp only)

theorem State.stepCheck_kept (s : State) (g : Nat) (e : Nat) (t : Nat) : Kept s (State.stepCheck s g e t) := by
  unfold State.stepCheck
  with_reducible repeat' (first
    | exact Kept.refl _ | refine kept_ite ?_ ?_ | refine (State.stepEnd_kept ..).after ?_ | dsimp only | split)

theorem State.wake_kept (s : State) (g : Nat) (e : Nat) (t : Nat) (past : Bool) : Kept s (State.wake s g e t past) := by
  unfold State.wake
  with_reducible repeat' (first
    | exact Kept.refl _ | refine kept_ite ?_ ?_ | refine (State.setTs_kept ..).after ?_ | refine (State.wr_kept ..).after ?_
    | refine (State.finish_kept ..).after ?_ | refine (State.stepCheck_kept ..).after ?_ | dsimp only)

theorem State.eventWake_kept (s : State) (g : Nat) (e : Nat) (t : Nat) : Kept s (State.eventWake s g e t) := by
  unfold State.eventWake
  with_reducible repeat' (first
    | exact Kept.refl _ | refine kept_ite ?_ ?_ | refine (State.clearEvents_kept ..).after ?_ | refine (State.wake_kept ..).after ?_
    | refine (State.setThr_kept ..).after ?_ | dsimp only)

theorem State.faultEvent_kept (s : State) (g : Nat) (e : Nat) (t : Nat) : Kept s (State.faultEvent s g e t) := by
  unfold State.faultEvent
  with_reducible repeat' (first
    | exact Kept.refl _ | refine kept_ite ?_ ?_ | refine (State.wr_kept ..).after ?_ | refine (State.raise_kept ..).after ?_ | dsimp only)

theorem State.setFlow_kept (s : State) (i : Nat) (e : FlowEntry) : Kept s (State.setFlow s i e) := by
  unfold State.setFlow
  with_reducible repeat' (first
    | exact Kept.refl _ | fail_if_no_progress refine kept_mk (by rfl) (by rfl) ?_ | dsimp only)

theorem State.flowHit_kept (s : State) (p : Pkt) (i : Nat) : Kept s (State.flowHit s p i).2 := by
  unfold State.flowHit
  with_reducible repeat' (first
    | exact Kept.refl _ | refine (State.setFlow_kept ..).after ?_ | refine (State.stat_kept ..).after ?_ | dsimp only)

theorem State.getResult_kept (s : State) (g : Nat) (e : Nat) (t : Nat) (d : Nat) (a : Nat) (data : Nat) (tag : Nat) : Kept s (State.getResult s g e t d a data tag) := by
  unfold State.getResult
  with_reducible repeat' (first
    | exact Kept.refl _ | refine kept_ite ?_ ?_ | refine (State.fresh_kept ..).after ?_ | refine (State.updThr_kept ..).after ?_
    | refine pair_kept (by assumption) ?_ | dsimp only | split)

theorem State.hwFinish_kept (s : State) (g : Nat) (corr : Nat) : Kept s (State.hwFinish s g corr) := by
  unfold State.hwFinish
  with_reducible repeat' (first
    | exact Kept.refl _ | refine (State.fault_kept ..).after ?_ | refine (State.setGal_kept ..).after ?_ | dsimp only | split)

theorem State.setNf_kept (s : State) (n : Nat) (lo : Nat) (w : Nat) (v : Nat) : Kept s (State.setNf s n lo w v) := by
  unfold State.setNf
  with_reducible repeat' (first
    | exact Kept.refl _ | fail_if_no_progress refine kept_mk (by rfl) (by rfl) ?_ | dsimp only)

theorem State.issue_kept (s : State) (r : Read) : Kept s (State.issue s r) := by
  unfold State.issue
  with_reducible repeat' (first
    | exact Kept.refl _ | fail_if_no_progress refine kept_mk (by rfl) (by rfl) ?_ | refine kept_ite ?_ ?_
    | refine (State.emit_kept ..).after ?_ | dsimp only)

theorem State.laneFaultEntry_kept (s : State) (l : Nat) (r : MatchRetry) (lower : Nat) (upper : Nat) : Kept s (State.laneFaultEntry s l r lower upper) := by
  unfold State.laneFaultEntry
  with_reducible repeat' (first
    | exact Kept.refl _ | refine (State.fault_kept ..).after ?_ | dsimp only)

theorem State.lockTake_kept (s : State) (g : Nat) (n : Nat) (unit : Nat) : Kept s (State.lockTake s g n unit) := by
  unfold State.lockTake
  with_reducible repeat' (first
    | exact Kept.refl _ | refine (State.wr_kept ..).after ?_ | refine (State.setGal_kept ..).after ?_ | dsimp only)

theorem State.lookup_kept (s : State) (p : Pkt) (b : Binding) : Kept s (State.lookup s p b).2.2 := by
  unfold State.lookup
  with_reducible repeat' (first
    | exact Kept.refl _ | refine kept_ite ?_ ?_ | refine (State.cacheFill_kept ..).after ?_ | refine (State.flowHit_kept ..).after ?_
    | refine (State.stat_kept ..).after ?_ | refine op_map (fun _ => rfl) ?_ | refine pair_kept (by assumption) ?_ | dsimp only | split)

theorem State.setMeas_kept (s : State) (i : Nat) (l : List Byte) : Kept s (State.setMeas s i l) := by
  unfold State.setMeas
  with_reducible repeat' (first
    | exact Kept.refl _ | refine (State.setReg_kept ..).after ?_ | refine each_kept ?_ (fun _ _ => ?_) | dsimp only | intro _)

theorem State.mirrorCopy_kept (s : State) (p : Pkt) : Kept s (State.mirrorCopy s p) := by
  unfold State.mirrorCopy
  with_reducible repeat' (first
    | exact Kept.refl _ | refine kept_ite ?_ ?_ | refine (State.afterStages_kept ..).after ?_
    | refine (State.inflightAdd_kept ..).after ?_ | refine (State.applyAction_kept ..).after ?_ | refine (State.newPkt_kept ..).after ?_
    | refine foldl_kept ?_ (fun _ _ => ?_) | refine pair_kept (by assumption) ?_ | dsimp only | split)

theorem State.moveQueued_kept (s : State) (g : Nat) (e : Nat) (t : Nat) : Kept s (State.moveQueued s g e t) := by
  unfold State.moveQueued
  with_reducible repeat' (first
    | exact Kept.refl _ | refine kept_ite ?_ ?_ | refine (State.setThr_kept ..).after ?_ | refine (State.place_kept ..).after ?_
    | refine each_kept ?_ (fun _ _ => ?_) | dsimp only | intro _)

theorem State.ncRelease_kept (s : State) (p : Nat) : Kept s (State.ncRelease s p) := by
  unfold State.ncRelease
  with_reducible repeat' (first
    | exact Kept.refl _ | refine kept_ite ?_ ?_ | refine (State.ctlFrame_kept ..).after ?_ | refine (State.updNc_kept ..).after ?_
    | refine each_kept ?_ (fun _ _ => ?_) | dsimp only | intro _)

theorem State.parseFaultEntry_kept (s : State) (c : ParseCore) (lower : Nat) (upper : Nat) (spare : Nat) (out : Bool) : Kept s (State.parseFaultEntry s c lower upper spare out) := by
  unfold State.parseFaultEntry
  with_reducible repeat' (first
    | exact Kept.refl _ | refine (State.fault_kept ..).after ?_ | dsimp only)

theorem State.parseTransient_kept (s : State) (c : ParseCore) : Kept s (State.parseTransient s c) := by
  unfold State.parseTransient
  with_reducible repeat' (first
    | exact Kept.refl _ | refine (State.errAt_kept ..).after ?_ | refine (State.parseFaultEntry_kept ..).after ?_ | dsimp only)

theorem State.parseEnd_kept (s : State) (k : Nat) (c : ParseCore) (code : Nat) : Kept s (State.parseEnd s k c code) := by
  unfold State.parseEnd
  with_reducible repeat' (first
    | exact Kept.refl _ | fail_if_no_progress refine kept_mk (by rfl) (by rfl) ?_ | refine kept_ite ?_ ?_
    | refine (State.parseTransient_kept ..).after ?_ | refine (State.setCore_kept ..).after ?_ | refine (State.stat_kept ..).after ?_
    | dsimp only | split)

theorem State.parseGo_kept (s : State) (k : Nat) (c : ParseCore) (pc : Nat) : Kept s (State.parseGo s k c pc) := by
  unfold State.parseGo
  with_reducible repeat' (first
    | exact Kept.refl _ | refine kept_ite ?_ ?_ | refine (State.parseEnd_kept ..).after ?_ | refine (State.setCore_kept ..).after ?_
    | dsimp only | split)

theorem State.parseRes_kept (s : State) (k : Nat) (r : PRes) : Kept s (State.parseRes s k r) := by
  unfold State.parseRes
  with_reducible repeat' (first
    | exact Kept.refl _ | refine (State.parseEnd_kept ..).after ?_ | refine (State.parseGo_kept ..).after ?_
    | refine (State.setCore_kept ..).after ?_ | dsimp only | split)

theorem State.parseRetire_kept (s : State) (c : ParseCore) : Kept s (State.parseRetire s c) := by
  unfold State.parseRetire
  with_reducible repeat' (first
    | exact Kept.refl _ | refine (State.wr_kept ..).after ?_ | refine (State.raise_kept ..).after ?_
    | refine (State.parseFaultEntry_kept ..).after ?_ | dsimp only | split)

theorem State.parseRun_kept (s : State) (k : Nat) (op : Nat) (f : Nat → ParseCore → PRes) : Kept s (State.parseRun s k op f) := by
  unfold State.parseRun
  with_reducible repeat' (first
    | exact Kept.refl _ | refine kept_ite ?_ ?_ | refine (State.parseRes_kept ..).after ?_ | dsimp only | split)

theorem State.retryDone_kept (s : State) (g : Nat) (p : Pkt) (lower : Nat) : Kept s (State.retryDone s g p lower) := by
  unfold State.retryDone
  with_reducible repeat' (first
    | exact Kept.refl _ | refine kept_ite ?_ ?_ | refine (State.hwFinish_kept ..).after ?_ | refine (State.setGal_kept ..).after ?_
    | dsimp only)

theorem State.thrFault_kept (s : State) (g : Nat) (e : Nat) (t : Nat) (cause : Nat) : Kept s (State.thrFault s g e t cause) := by
  unfold State.thrFault
  with_reducible repeat' (first
    | exact Kept.refl _ | refine kept_ite ?_ ?_ | refine (State.setTs_kept ..).after ?_ | refine (State.setReg_kept ..).after ?_
    | refine (State.closeHolds_kept ..).after ?_ | refine (State.wr_kept ..).after ?_ | refine (State.updThr_kept ..).after ?_
    | dsimp only)

theorem State.progExc_kept (s : State) (g : Nat) (e : Nat) (t : Nat) (code : Nat) : Kept s (State.progExc s g e t code) := by
  unfold State.progExc
  with_reducible repeat' (first
    | exact Kept.refl _ | refine kept_ite ?_ ?_ | refine (State.fault_kept ..).after ?_ | refine (State.moveQueued_kept ..).after ?_
    | refine (State.onFault_kept ..).after ?_ | refine (State.faultEvent_kept ..).after ?_ | refine (State.dropRun_kept ..).after ?_
    | refine (State.retryDone_kept ..).after ?_ | refine (State.thrFault_kept ..).after ?_ | dsimp only | split)

theorem State.waitOn_kept (s : State) (g : Nat) (e : Nat) (t : Nat) (kind : Nat) : Kept s (State.waitOn s g e t kind) := by
  unfold State.waitOn
  with_reducible repeat' (first
    | exact Kept.refl _ | refine (State.setTs_kept ..).after ?_ | refine (State.wr_kept ..).after ?_
    | refine (State.updThr_kept ..).after ?_ | dsimp only)

theorem State.stepTake_kept (s : State) (g : Nat) (e : Nat) (t : Nat) : Kept s (State.stepTake s g e t) := by
  unfold State.stepTake
  with_reducible repeat' (first
    | exact Kept.refl _ | fail_if_no_progress refine kept_mk (by first | rfl | simp only [Board.fix]) (by rfl) ?_ | refine kept_ite ?_ ?_
    | refine op_map (fun _ => rfl) ?_ | dsimp only)

theorem State.queueStop_kept (s : State) (f : Nat) (k : Nat) (q : Nat) (why : Nat) : Kept s (State.queueStop s f k q why) := by
  unfold State.queueStop
  with_reducible repeat' (first
    | exact Kept.refl _ | refine (State.queueHalt_kept ..).after ?_ | refine (State.raise_kept ..).after ?_
    | refine (State.event_kept ..).after ?_ | dsimp only)

theorem State.txReadFail_kept (s : State) (f : Nat) (k : Nat) (q : Nat) (desc : Nat) (why : Nat) : Kept s (State.txReadFail s f k q desc why) := by
  unfold State.txReadFail
  with_reducible repeat' (first
    | exact Kept.refl _ | refine kept_ite ?_ ?_ | refine (State.queueStop_kept ..).after ?_ | refine (State.updQue_kept ..).after ?_
    | dsimp only)

theorem State.rxGone_kept (s : State) (f : Nat) (n : Nat) (req : Nat) : Kept s (State.rxGone s f n req) := by
  unfold State.rxGone
  with_reducible repeat' (first
    | exact Kept.refl _ | refine kept_ite ?_ ?_ | refine (State.unreserve_kept ..).after ?_ | refine (State.rxFlush_kept ..).after ?_
    | refine (State.updQue_kept ..).after ?_ | dsimp only)

theorem State.setRst_kept (s : State) (c : Nat) (v : Nat) : Kept s (State.setRst s c v) := by
  unfold State.setRst
  with_reducible repeat' (first
    | exact Kept.refl _ | refine (State.wr_kept ..).after ?_ | dsimp only)

theorem State.txEnter_kept (s : State) (f : Nat) (k : Nat) (q : Nat) (e : TxPend) : Kept s (State.txEnter s f k q e) := by
  unfold State.txEnter
  with_reducible repeat' (first
    | exact Kept.refl _ | refine kept_ite ?_ ?_ | refine (State.err_kept ..).after ?_ | refine (State.toParse_kept ..).after ?_
    | refine op_map (fun _ => rfl) ?_ | dsimp only)

theorem State.txEnterAll_kept (s : State) (f : Nat) (k : Nat) (q : Nat) (y4 : List TxPend) : Kept s (State.txEnterAll s f k q y4) := by
  induction y4 generalizing s f k q with
  | nil =>
    unfold State.txEnterAll
    with_reducible repeat' (first
      | exact Kept.refl _ | refine kept_ite ?_ ?_ | refine (State.updQue_kept ..).after ?_ | refine (State.txEnter_kept ..).after ?_
      | dsimp only | split)
  | cons a l ih =>
    unfold State.txEnterAll
    with_reducible repeat' (first
      | exact Kept.refl _ | refine kept_ite ?_ ?_ | refine (ih ..).after ?_ | refine (State.updQue_kept ..).after ?_
      | refine (State.txEnter_kept ..).after ?_ | dsimp only | split)

theorem State.txRead_kept (s : State) (f : Nat) (k : Nat) (q : Nat) (desc : Nat) : Kept s (State.txRead s f k q desc) := by
  unfold State.txRead
  with_reducible repeat' (first
    | exact Kept.refl _ | refine kept_ite ?_ ?_ | refine (State.txEnterAll_kept ..).after ?_ | refine (State.updQue_kept ..).after ?_
    | dsimp only)

theorem State.sampleRec_kept (s : State) (k : Nat) (w0 : Nat) (w1 : Nat) : Kept s (State.sampleRec s k w0 w1) := by
  unfold State.sampleRec
  with_reducible repeat' (first
    | exact Kept.refl _ | fail_if_no_progress refine kept_mk (by rfl) (by rfl) ?_ | refine kept_ite ?_ ?_
    | refine (State.hostWrite_kept ..).after ?_ | dsimp only)

theorem State.tcWake_kept (s : State) : Kept s (State.tcWake s) := by
  unfold State.tcWake
  with_reducible repeat' (first
    | exact Kept.refl _ | fail_if_no_progress refine kept_mk (by rfl) (by rfl) ?_ | refine (State.pushTm_kept ..).after ?_
    | refine each_kept ?_ (fun _ _ => ?_) | dsimp only | intro _)

theorem State.sojourn_kept (s : State) (q : Nat) (ns : Nat) : Kept s (State.sojourn s q ns) := by
  unfold State.sojourn
  with_reducible repeat' (first
    | exact Kept.refl _ | fail_if_no_progress refine kept_mk (by rfl) (by rfl) ?_ | refine kept_ite ?_ ?_
    | refine each_kept ?_ (fun _ _ => ?_) | dsimp only | intro _)

theorem State.startFrame_kept (s : State) (p : Nat) (c : Nat) (q : Nat) (g : Nat) (x : TmPkt) (y : Pkt) : Kept s (State.startFrame s p c q g x y) := by
  unfold State.startFrame
  with_reducible repeat' (first
    | exact Kept.refl _ | fail_if_no_progress refine kept_mk (by rfl) (by rfl) ?_ | refine (State.leaveRounds_kept ..).after ?_
    | refine (State.setTq_kept ..).after ?_ | refine (State.popHead_kept ..).after ?_ | refine (State.setPrt_kept ..).after ?_
    | refine (State.setTg_kept ..).after ?_ | refine (State.sojourn_kept ..).after ?_ | dsimp only)

theorem State.selectFrom_kept (s : State) (p : Nat) (express : Bool) (y3 : Nat) (y4 : Nat) : Kept s (State.selectFrom s p express y3 y4) := by
  induction y3 generalizing s p express y4 with
  | zero =>
    unfold State.selectFrom
    with_reducible repeat' (first
      | exact Kept.refl _ | fail_if_no_progress refine kept_mk (by rfl) (by rfl) ?_ | refine kept_ite ?_ ?_
      | refine (State.drrGroup_kept ..).after ?_ | refine (State.tcWake_kept ..).after ?_ | refine (State.startFrame_kept ..).after ?_
      | refine (State.stat_kept ..).after ?_ | refine (State.discardHead_kept ..).after ?_ | refine pair_kept (by assumption) ?_
      | dsimp only | split)
  | succ n ih =>
    unfold State.selectFrom
    with_reducible repeat' (first
      | exact Kept.refl _ | fail_if_no_progress refine kept_mk (by rfl) (by rfl) ?_ | refine kept_ite ?_ ?_ | refine (ih ..).after ?_
      | refine (State.drrGroup_kept ..).after ?_ | refine (State.tcWake_kept ..).after ?_ | refine (State.startFrame_kept ..).after ?_
      | refine (State.stat_kept ..).after ?_ | refine (State.discardHead_kept ..).after ?_ | refine pair_kept (by assumption) ?_
      | dsimp only | split)

theorem State.toSto_kept (s : State) (p : Pkt) : Kept s (State.toSto s p) := by
  unfold State.toSto
  with_reducible repeat' (first
    | exact Kept.refl _ | fail_if_no_progress refine kept_mk (by rfl) (by rfl) ?_ | refine kept_ite ?_ ?_
    | refine (State.err_kept ..).after ?_ | refine (State.txDropped_kept ..).after ?_ | dsimp only)

theorem State.sendHandoff_kept (s : State) (g : Nat) (p : Pkt) : Kept s (State.sendHandoff s g p) := by
  unfold State.sendHandoff
  with_reducible repeat' (first
    | exact Kept.refl _ | refine kept_ite ?_ ?_ | refine (State.err_kept ..).after ?_ | refine (State.toCry_kept ..).after ?_
    | refine (State.pushTm_kept ..).after ?_ | refine (State.txDropped_kept ..).after ?_ | refine (State.stat_kept ..).after ?_
    | refine (State.toSto_kept ..).after ?_ | refine (State.deliver_kept ..).after ?_ | dsimp only | split)

theorem State.sendEnded_kept (s : State) (g : Nat) (x : Ended) : Kept s (State.sendEnded s g x) := by
  unfold State.sendEnded
  with_reducible repeat' (first
    | exact Kept.refl _ | refine kept_ite ?_ ?_ | refine (State.pktGone_kept ..).after ?_ | refine (State.inflightSub_kept ..).after ?_
    | refine (State.sendHandoff_kept ..).after ?_ | refine (State.toParse_kept ..).after ?_ | refine (State.toCpu_kept ..).after ?_
    | refine (State.stat_kept ..).after ?_ | dsimp only)

theorem State.stageBinding_kept (s : State) (f : Nat) (n : Nat) (st : Nat) (l : List Byte) : Kept s (State.stageBinding s f n st l) := by
  unfold State.stageBinding
  with_reducible repeat' (first
    | exact Kept.refl _ | refine kept_ite ?_ ?_ | refine (State.setVer_kept ..).after ?_ | refine (State.admDone_kept ..).after ?_
    | dsimp only)

theorem State.stageEngine_kept (s : State) (f : Nat) (n : Nat) (l : List Byte) : Kept s (State.stageEngine s f n l) := by
  unfold State.stageEngine
  with_reducible repeat' (first
    | exact Kept.refl _ | refine (State.setVer_kept ..).after ?_ | refine (State.admDone_kept ..).after ?_ | dsimp only)

theorem State.stageMirror_kept (s : State) (f : Nat) (n : Nat) (i : Nat) (l : List Byte) : Kept s (State.stageMirror s f n i l) := by
  unfold State.stageMirror
  with_reducible repeat' (first
    | exact Kept.refl _ | refine kept_ite ?_ ?_ | refine (State.setVer_kept ..).after ?_ | refine (State.admDone_kept ..).after ?_
    | dsimp only)

theorem State.stageParse_kept (s : State) (f : Nat) (n : Nat) (l : List Byte) : Kept s (State.stageParse s f n l) := by
  unfold State.stageParse
  with_reducible repeat' (first
    | exact Kept.refl _ | refine kept_ite ?_ ?_ | refine (State.setVer_kept ..).after ?_ | refine (State.admDone_kept ..).after ?_
    | dsimp only)

theorem State.stagePolicy_kept (s : State) (f : Nat) (n : Nat) (i : Nat) (l : List Byte) : Kept s (State.stagePolicy s f n i l) := by
  unfold State.stagePolicy
  with_reducible repeat' (first
    | exact Kept.refl _ | refine kept_ite ?_ ?_ | refine (State.setVer_kept ..).after ?_ | refine (State.admDone_kept ..).after ?_
    | dsimp only)

theorem State.stageRun_kept (s : State) (p : Pkt) (n : Nat) : Kept s (State.stageRun s p n).2 := by
  unfold State.stageRun
  with_reducible repeat' (first
    | exact Kept.refl _ | refine kept_ite ?_ ?_ | refine (State.applyAction_kept ..).after ?_ | refine (State.stat_kept ..).after ?_
    | refine (State.lookup_kept ..).after ?_ | refine pair_kept (by assumption) ?_ | refine triple_kept (by assumption) ?_ | dsimp only
    | split)

theorem State.startSettle_kept (s : State) (m : Nat) : Kept s (State.startSettle s m) := by
  unfold State.startSettle
  with_reducible repeat' (first
    | exact Kept.refl _ | fail_if_no_progress refine kept_mk (by rfl) (by rfl) ?_ | refine (State.wr_kept ..).after ?_ | dsimp only)

theorem State.sumpTake_kept (s : State) (k : Nat) (unit : Nat) : Kept s (State.sumpTake s k unit).2.2 := by
  unfold State.sumpTake
  with_reducible repeat' (first
    | exact Kept.refl _ | refine kept_ite ?_ ?_ | refine (State.wr_kept ..).after ?_ | dsimp only | split)

theorem State.tcamClear_kept (s : State) (f : Nat) (n : Nat) (i : Nat) : Kept s (State.tcamClear s f n i) := by
  unfold State.tcamClear
  with_reducible repeat' (first
    | exact Kept.refl _ | fail_if_no_progress refine kept_mk (by rfl) (by rfl) ?_ | refine kept_ite ?_ ?_
    | refine (State.staged1_kept ..).after ?_ | refine (State.admDone_kept ..).after ?_ | dsimp only)

theorem State.tcamSet_kept (s : State) (f : Nat) (n : Nat) (i : Nat) (l : List Byte) : Kept s (State.tcamSet s f n i l) := by
  unfold State.tcamSet
  with_reducible repeat' (first
    | exact Kept.refl _ | fail_if_no_progress refine kept_mk (by rfl) (by rfl) ?_ | refine kept_ite ?_ ?_
    | refine (State.staged1_kept ..).after ?_ | refine (State.admDone_kept ..).after ?_ | dsimp only)

theorem State.tcamSlots_kept (s : State) (f : Nat → Nat) : Kept s (State.tcamSlots s f) := by
  unfold State.tcamSlots
  with_reducible repeat' (first
    | exact Kept.refl _ | fail_if_no_progress refine kept_mk (by rfl) (by rfl) ?_ | dsimp only)

theorem State.tmEnter_kept (s : State) (p : Pkt) : Kept s (State.tmEnter s p) := by
  unfold State.tmEnter
  with_reducible repeat' (first
    | exact Kept.refl _ | refine kept_ite ?_ ?_ | refine (State.admit1_kept ..).after ?_ | refine (State.txDropped_kept ..).after ?_
    | refine (State.policeDrop_kept ..).after ?_ | refine (State.stat_kept ..).after ?_ | refine (State.police_kept ..).after ?_
    | refine pair_kept (by assumption) ?_ | dsimp only | split)

theorem State.tmSelect_kept (s : State) (p : Nat) : Kept s (State.tmSelect s p) := by
  unfold State.tmSelect
  with_reducible repeat' (first
    | exact Kept.refl _ | refine kept_ite ?_ ?_ | refine (State.selectFrom_kept ..).after ?_ | refine (State.setPrt_kept ..).after ?_
    | dsimp only | split)

theorem State.writeLat_kept (s : State) (v : Version) : Kept s (State.writeLat s v) := by
  unfold State.writeLat
  with_reducible repeat' (first
    | exact Kept.refl _ | refine kept_ite ?_ ?_ | refine (State.setReg_kept ..).after ?_ | refine (State.wr_kept ..).after ?_
    | refine each_kept ?_ (fun _ _ => ?_) | dsimp only | intro _)

theorem State.writeStageCfg_kept (s : State) (v : Version) : Kept s (State.writeStageCfg s v) := by
  unfold State.writeStageCfg
  with_reducible repeat' (first
    | exact Kept.refl _ | refine (State.setReg_kept ..).after ?_ | refine each_kept ?_ (fun _ _ => ?_) | dsimp only | intro _)

theorem execParseBrf_kept (k : Nat) (s : State) : OutKept s (execParseBrf k s) := by
  unfold execParseBrf
  with_reducible repeat' (first
    | exact Kept.refl _ | refine out_next ?_ | refine (State.parseRun_kept ..).after ?_ | dsimp only)

theorem execParseDone_kept (k : Nat) (s : State) : OutKept s (execParseDone k s) := by
  unfold execParseDone
  with_reducible repeat' (first
    | exact Kept.refl _ | refine out_next ?_ | refine (State.parseRun_kept ..).after ?_ | dsimp only)

theorem execRulesetCommit_kept (f : Nat) (s : State) : OutKept s (execRulesetCommit f s) := by
  unfold execRulesetCommit
  with_reducible repeat' (first
    | exact Kept.refl _ | refine out_next ?_ | fail_if_no_progress refine kept_mk (by rfl) (by rfl) ?_ | refine kept_ite ?_ ?_
    | refine out_ite ?_ ?_ | refine (State.admWait_kept ..).after ?_ | refine (State.admDone_kept ..).after ?_
    | refine (State.admCrit_kept (hk := ?_) ..).after ?_ | refine (State.commitResult_kept ..).after ?_ | dsimp only | intro _ | split)

theorem execParseAnd_kept (k : Nat) (s : State) : OutKept s (execParseAnd k s) := by
  unfold execParseAnd
  with_reducible repeat' (first
    | exact Kept.refl _ | refine out_next ?_ | refine (State.parseRun_kept ..).after ?_ | dsimp only)

theorem execTmTableAccessDone_kept (a : Nat) (s : State) : OutKept s (execTmTableAccessDone a s) := by
  unfold execTmTableAccessDone
  with_reducible repeat' (first
    | exact Kept.refl _ | refine out_next ?_ | refine (State.wrB_kept ..).after ?_ | dsimp only)

theorem execHostReadIssue_kept (a : Nat) (s : State) : OutKept s (execHostReadIssue a s) := by
  unfold execHostReadIssue
  with_reducible repeat' (first
    | exact Kept.refl _ | refine out_next ?_ | fail_if_no_progress refine kept_mk (by rfl) (by rfl) ?_ | refine kept_ite ?_ ?_
    | refine out_ite ?_ ?_ | refine (State.issue_kept ..).after ?_ | dsimp only | split)

theorem execDispatcherEnqueue_kept (g : Nat) (s : State) : OutKept s (execDispatcherEnqueue g s) := by
  unfold execDispatcherEnqueue
  with_reducible repeat' (first
    | exact Kept.refl _ | refine out_next ?_ | fail_if_no_progress refine kept_mk (by rfl) (by rfl) ?_ | refine kept_ite ?_ ?_
    | refine out_ite ?_ ?_ | refine (State.pktGone_kept ..).after ?_ | refine (State.stat_kept ..).after ?_
    | refine (State.setGal_kept ..).after ?_ | dsimp only | split)

theorem execTcamSlotClearComplete_kept (s : State) : OutKept s (execTcamSlotClearComplete s) := by
  unfold execTcamSlotClearComplete
  with_reducible repeat' (first
    | exact Kept.refl _ | refine out_next ?_ | fail_if_no_progress refine kept_mk (by rfl) (by rfl) ?_
    | refine (State.wrB_kept ..).after ?_ | refine (State.tcamSlots_kept ..).after ?_ | dsimp only | split)

theorem execLockOverrun_kept (g : Nat) (n : Nat) (s : State) : OutKept s (execLockOverrun g n s) := by
  unfold execLockOverrun
  with_reducible repeat' (first
    | exact Kept.refl _ | refine out_next ?_ | refine kept_ite ?_ ?_ | refine out_ite ?_ ?_ | refine (State.lockBreak_kept ..).after ?_
    | refine (State.updThr_kept ..).after ?_ | dsimp only)

theorem execSettleComplete_kept (s : State) : OutKept s (execSettleComplete s) := by
  unfold execSettleComplete
  with_reducible repeat' (first
    | exact Kept.refl _ | refine out_next ?_ | fail_if_no_progress refine kept_mk (by rfl) (by rfl) ?_
    | refine (State.wrB_kept ..).after ?_ | refine (State.raise_kept ..).after ?_ | dsimp only | split)

theorem execRulesetCurrent_kept (s : State) : OutKept s (execRulesetCurrent s) := by
  unfold execRulesetCurrent
  with_reducible repeat' (first
    | exact Kept.refl _ | refine out_next ?_ | fail_if_no_progress refine kept_mk (by rfl) (by rfl) ?_ | refine kept_ite ?_ ?_
    | refine out_ite ?_ ?_ | refine (State.setReg_kept ..).after ?_ | refine (State.setVer_kept ..).after ?_
    | refine (State.closeOpen_kept ..).after ?_ | refine (State.writeLat_kept ..).after ?_ | refine (State.admDone_kept ..).after ?_
    | refine (State.wr_kept ..).after ?_ | refine (State.commitResult_kept ..).after ?_ | refine (State.writeStageCfg_kept ..).after ?_
    | refine (State.raise_kept ..).after ?_ | refine (State.startSettle_kept ..).after ?_ | refine (State.setMeas_kept ..).after ?_
    | dsimp only | split)

theorem execSampleRound_kept (k : Nat) (busy : Bool) (s : State) : OutKept s (execSampleRound k busy s) := by
  unfold execSampleRound
  with_reducible repeat' (first
    | exact Kept.refl _ | refine out_next ?_ | fail_if_no_progress refine kept_mk (by rfl) (by rfl) ?_ | refine kept_ite ?_ ?_
    | refine out_ite ?_ ?_ | refine (State.wr_kept ..).after ?_ | refine (State.sampleRec_kept ..).after ?_
    | refine (State.raise_kept ..).after ?_ | refine (State.stat_kept ..).after ?_ | refine each_kept ?_ (fun _ _ => ?_) | dsimp only
    | intro _)

theorem execThreadWake_kept (g : Nat) (e : Nat) (t : Nat) (s : State) : OutKept s (execThreadWake g e t s) := by
  unfold execThreadWake
  with_reducible repeat' (first
    | exact Kept.refl _ | refine out_next ?_ | refine kept_ite ?_ ?_ | refine out_ite ?_ ?_ | refine (State.eventWake_kept ..).after ?_
    | refine each_kept ?_ (fun _ _ => ?_) | dsimp only | intro _)

theorem execParseExt_kept (k : Nat) (s : State) : OutKept s (execParseExt k s) := by
  unfold execParseExt
  with_reducible repeat' (first
    | exact Kept.refl _ | refine out_next ?_ | refine (State.parseRun_kept ..).after ?_ | dsimp only)

theorem execThreadPacketStart_kept (g : Nat) (e : Nat) (t : Nat) (s : State) : OutKept s (execThreadPacketStart g e t s) := by
  unfold execThreadPacketStart
  with_reducible repeat' (first
    | exact Kept.refl _ | refine out_next ?_ | fail_if_no_progress refine kept_mk (by rfl) (by rfl) ?_ | refine kept_ite ?_ ?_
    | refine out_ite ?_ ?_ | refine (State.setTs_kept ..).after ?_ | refine (State.setThr_kept ..).after ?_
    | refine (State.setPc_kept ..).after ?_ | refine kept_mk2 (List.suffix_refl _) (le_refl _) id (Mem.wf_putBytes _ _) ?_ | dsimp only
    | split)

theorem execTmEnqueue_kept (id : Nat) (s : State) : OutKept s (execTmEnqueue id s) := by
  unfold execTmEnqueue
  with_reducible repeat' (first
    | exact Kept.refl _ | refine out_next ?_ | fail_if_no_progress refine kept_mk (by rfl) (by rfl) ?_
    | refine (State.tmEnter_kept ..).after ?_ | dsimp only | split)

theorem execParseTake_kept (k : Nat) (arrived : Nat) (s : State) : OutKept s (execParseTake k arrived s) := by
  unfold execParseTake
  with_reducible repeat' (first
    | exact Kept.refl _ | refine out_next ?_ | fail_if_no_progress refine kept_mk (by rfl) (by rfl) ?_ | refine kept_ite ?_ ?_
    | refine out_ite ?_ ?_ | refine (State.inflightAdd_kept ..).after ?_ | refine (State.txDropped_kept ..).after ?_
    | refine (State.setCore_kept ..).after ?_ | refine (State.stat_kept ..).after ?_ | dsimp only | split)

theorem execSampleRingWrite_kept (k : Nat) (v : Word) (s : State) : OutKept s (execSampleRingWrite k v s) := by
  unfold execSampleRingWrite
  with_reducible repeat' (first
    | exact Kept.refl _ | refine out_next ?_ | refine (State.sampleRing_kept ..).after ?_ | dsimp only)

theorem execParseAdvr_kept (k : Nat) (s : State) : OutKept s (execParseAdvr k s) := by
  unfold execParseAdvr
  with_reducible repeat' (first
    | exact Kept.refl _ | refine out_next ?_ | refine (State.parseRun_kept ..).after ?_ | dsimp only)

theorem execRulesetOpen_kept (f : Nat) (s : State) : OutKept s (execRulesetOpen f s) := by
  unfold execRulesetOpen
  with_reducible repeat' (first
    | exact Kept.refl _ | refine out_next ?_ | refine kept_ite ?_ ?_ | refine out_ite ?_ ?_ | refine (State.setVer_kept ..).after ?_
    | refine (State.admDone_kept ..).after ?_ | refine (State.wr_kept ..).after ?_ | refine (State.admRun_kept (hk := ?_) ..).after ?_
    | refine (State.tcamSlots_kept ..).after ?_ | dsimp only | intro _)

theorem execTableCreate_kept (f : Nat) (s : State) : OutKept s (execTableCreate f s) := by
  unfold execTableCreate
  with_reducible repeat' (first
    | exact Kept.refl _ | refine out_next ?_ | fail_if_no_progress refine kept_mk (by rfl) (by rfl) ?_ | refine kept_ite ?_ ?_
    | refine out_ite ?_ ?_ | refine (State.admDone_kept ..).after ?_ | refine (State.setTable_kept ..).after ?_
    | refine (State.admRun_kept (hk := ?_) ..).after ?_ | dsimp only | intro _ | split)

theorem execGateListStart_kept (p : Nat) (s : State) : OutKept s (execGateListStart p s) := by
  unfold execGateListStart
  with_reducible repeat' (first
    | exact Kept.refl _ | refine out_next ?_ | refine kept_ite ?_ ?_ | refine out_ite ?_ ?_ | refine (State.wrB_kept ..).after ?_
    | refine (State.showGate_kept ..).after ?_ | refine (State.wr_kept ..).after ?_ | refine (State.raise_kept ..).after ?_
    | refine (State.setGate_kept ..).after ?_ | refine (State.showStates_kept ..).after ?_ | dsimp only | split)

theorem execMatchStage_kept (id : Nat) (s : State) : OutKept s (execMatchStage id s) := by
  unfold execMatchStage
  with_reducible repeat' (first
    | exact Kept.refl _ | refine out_next ?_ | refine kept_ite ?_ ?_ | refine out_ite ?_ ?_ | refine (State.afterStages_kept ..).after ?_
    | refine (State.setInMatch_kept ..).after ?_ | refine (State.errAt_kept ..).after ?_ | refine (State.laneFaultEntry_kept ..).after ?_
    | refine (State.mirrorCopy_kept ..).after ?_ | refine (State.stageRun_kept ..).after ?_ | refine pair_kept (by assumption) ?_
    | dsimp only | split)

theorem execGateChange_kept (p : Nat) (s : State) : OutKept s (execGateChange p s) := by
  unfold execGateChange
  with_reducible repeat' (first
    | exact Kept.refl _ | refine out_next ?_ | refine (State.ncRelease_kept ..).after ?_ | refine (State.showStates_kept ..).after ?_
    | refine (State.gateRestart_kept ..).after ?_ | dsimp only)

theorem execEngineStart_kept (g : Nat) (e : Nat) (s : State) : OutKept s (execEngineStart g e s) := by
  unfold execEngineStart
  with_reducible repeat' (first
    | exact Kept.refl _ | refine out_next ?_ | refine kept_ite ?_ ?_ | refine out_ite ?_ ?_ | refine (State.setTs_kept ..).after ?_
    | refine (State.setEngn_kept ..).after ?_ | refine (State.setThr_kept ..).after ?_ | refine (State.setPc_kept ..).after ?_
    | refine each_kept ?_ (fun _ _ => ?_) | dsimp only | intro _)

theorem execParseFail_kept (k : Nat) (s : State) : OutKept s (execParseFail k s) := by
  unfold execParseFail
  with_reducible repeat' (first
    | exact Kept.refl _ | refine out_next ?_ | refine (State.parseRun_kept ..).after ?_ | dsimp only)

theorem execParseAdd_kept (k : Nat) (s : State) : OutKept s (execParseAdd k s) := by
  unfold execParseAdd
  with_reducible repeat' (first
    | exact Kept.refl _ | refine out_next ?_ | refine (State.parseRun_kept ..).after ?_ | dsimp only)

theorem execRulesetStage_kept (f : Nat) (s : State) : OutKept s (execRulesetStage f s) := by
  unfold execRulesetStage
  with_reducible repeat' (first
    | exact Kept.refl _ | refine out_next ?_ | refine kept_ite ?_ ?_ | refine out_ite ?_ ?_ | refine (State.stageEngine_kept ..).after ?_
    | refine (State.entryAdd_kept ..).after ?_ | refine (State.stageMirror_kept ..).after ?_ | refine (State.entryDel_kept ..).after ?_
    | refine (State.stageBinding_kept ..).after ?_ | refine (State.tcamSet_kept ..).after ?_ | refine (State.tcamClear_kept ..).after ?_
    | refine (State.stagePolicy_kept ..).after ?_ | refine (State.admRun_kept (hk := ?_) ..).after ?_
    | refine (State.stageParse_kept ..).after ?_ | dsimp only | intro _ | split)

theorem execRulesetAbort_kept (f : Nat) (s : State) : OutKept s (execRulesetAbort f s) := by
  unfold execRulesetAbort
  with_reducible repeat' (first
    | exact Kept.refl _ | refine out_next ?_ | fail_if_no_progress refine kept_mk (by rfl) (by rfl) ?_
    | refine (State.closeOpen_kept ..).after ?_ | refine (State.admDone_kept ..).after ?_
    | refine (State.admRun_kept (hk := ?_) ..).after ?_ | refine (State.tcamSlots_kept ..).after ?_ | dsimp only | intro _)

theorem execPortFrameTxEnd_kept (p : Nat) (s : State) : OutKept s (execPortFrameTxEnd p s) := by
  unfold execPortFrameTxEnd
  with_reducible repeat' (first
    | exact Kept.refl _ | refine out_next ?_ | refine kept_ite ?_ ?_ | refine out_ite ?_ ?_ | refine (State.txOutcome_kept ..).after ?_
    | refine (State.err_kept ..).after ?_ | refine (State.setTq_kept ..).after ?_ | refine (State.freeCells_kept ..).after ?_
    | refine (State.setPrt_kept ..).after ?_ | refine (State.statAdd_kept ..).after ?_ | refine (State.stat_kept ..).after ?_
    | refine (State.ctlFlush_kept ..).after ?_ | refine (State.emit_kept ..).after ?_ | dsimp only | split)

theorem execParseStallEnd_kept (k : Nat) (s : State) : OutKept s (execParseStallEnd k s) := by
  unfold execParseStallEnd
  with_reducible repeat' (first
    | exact Kept.refl _ | refine out_next ?_ | refine kept_ite ?_ ?_ | refine out_ite ?_ ?_ | refine (State.parseRes_kept ..).after ?_
    | refine (State.setCore_kept ..).after ?_ | dsimp only | split)

theorem execSupervisorEntry_kept (g : Nat) (e : Nat) (s : State) : OutKept s (execSupervisorEntry g e s) := by
  unfold execSupervisorEntry
  with_reducible repeat' (first
    | exact Kept.refl _ | refine out_next ?_ | refine kept_ite ?_ ?_ | refine out_ite ?_ ?_ | refine (State.setTs_kept ..).after ?_
    | refine (State.fresh_kept ..).after ?_ | refine (State.wr_kept ..).after ?_ | refine (State.setPc_kept ..).after ?_
    | refine (State.updThr_kept ..).after ?_ | refine pair_kept (by assumption) ?_ | dsimp only | split)

theorem execParseCmp_kept (k : Nat) (s : State) : OutKept s (execParseCmp k s) := by
  unfold execParseCmp
  with_reducible repeat' (first
    | exact Kept.refl _ | refine out_next ?_ | refine (State.parseRun_kept ..).after ?_ | dsimp only)

theorem execVersionRetire_kept (s : State) : OutKept s (execVersionRetire s) := by
  unfold execVersionRetire
  with_reducible repeat' (first
    | exact Kept.refl _ | refine out_next ?_ | fail_if_no_progress refine kept_mk (by rfl) (by rfl) ?_ | refine kept_ite ?_ ?_
    | refine out_ite ?_ ?_ | refine (State.setReg_kept ..).after ?_ | refine (State.wr_kept ..).after ?_
    | refine (State.raise_kept ..).after ?_ | refine (State.startSettle_kept ..).after ?_ | dsimp only)

theorem execTmSelect_kept (p : Nat) (s : State) : OutKept s (execTmSelect p s) := by
  unfold execTmSelect
  with_reducible repeat' (first
    | exact Kept.refl _ | refine out_next ?_ | refine (State.ncRelease_kept ..).after ?_ | refine (State.tmSelect_kept ..).after ?_
    | dsimp only)

theorem execParseMark_kept (k : Nat) (s : State) : OutKept s (execParseMark k s) := by
  unfold execParseMark
  with_reducible repeat' (first
    | exact Kept.refl _ | refine out_next ?_ | refine (State.parseRun_kept ..).after ?_ | dsimp only)

theorem execParseEmit_kept (k : Nat) (s : State) : OutKept s (execParseEmit k s) := by
  unfold execParseEmit
  with_reducible repeat' (first
    | exact Kept.refl _ | refine out_next ?_ | refine (State.parseRun_kept ..).after ?_ | dsimp only)

theorem execParseBr_kept (k : Nat) (s : State) : OutKept s (execParseBr k s) := by
  unfold execParseBr
  with_reducible repeat' (first
    | exact Kept.refl _ | refine out_next ?_ | refine (State.parseRun_kept ..).after ?_ | dsimp only)

theorem execGateListCopyDone_kept (p : Nat) (s : State) : OutKept s (execGateListCopyDone p s) := by
  unfold execGateListCopyDone
  with_reducible repeat' (first
    | exact Kept.refl _ | refine out_next ?_ | refine kept_ite ?_ ?_ | refine out_ite ?_ ?_ | refine (State.admDone_kept ..).after ?_
    | refine (State.showGate_kept ..).after ?_ | refine (State.setGate_kept ..).after ?_ | dsimp only | split)

theorem execLockGrant_kept (g : Nat) (n : Nat) (s : State) : OutKept s (execLockGrant g n s) := by
  unfold execLockGrant
  with_reducible repeat' (first
    | exact Kept.refl _ | refine out_next ?_ | refine kept_ite ?_ ?_ | refine out_ite ?_ ?_ | refine (State.wake_kept ..).after ?_
    | refine (State.lockWithdraw_kept ..).after ?_ | refine (State.lockTake_kept ..).after ?_ | refine (State.updThr_kept ..).after ?_
    | dsimp only | split)

theorem execParseExtb_kept (k : Nat) (s : State) : OutKept s (execParseExtb k s) := by
  unfold execParseExtb
  with_reducible repeat' (first
    | exact Kept.refl _ | refine out_next ?_ | refine (State.parseRun_kept ..).after ?_ | dsimp only)

theorem execParseShr_kept (k : Nat) (s : State) : OutKept s (execParseShr k s) := by
  unfold execParseShr
  with_reducible repeat' (first
    | exact Kept.refl _ | refine out_next ?_ | refine (State.parseRun_kept ..).after ?_ | dsimp only)

theorem execThread0FirmwareRestart_kept (g : Nat) (e : Nat) (s : State) : OutKept s (execThread0FirmwareRestart g e s) := by
  unfold execThread0FirmwareRestart
  with_reducible repeat' (first
    | exact Kept.refl _ | refine out_next ?_ | refine kept_ite ?_ ?_ | refine out_ite ?_ ?_ | refine (State.setTs_kept ..).after ?_
    | refine (State.wr_kept ..).after ?_ | refine (State.updThr_kept ..).after ?_ | dsimp only)

theorem execGateListCommit_kept (f : Nat) (s : State) : OutKept s (execGateListCommit f s) := by
  unfold execGateListCommit
  with_reducible repeat' (first
    | exact Kept.refl _ | refine out_next ?_ | refine kept_ite ?_ ?_ | refine out_ite ?_ ?_ | refine (State.admWait_kept ..).after ?_
    | refine (State.admDone_kept ..).after ?_ | refine (State.showGate_kept ..).after ?_
    | refine (State.admCrit_kept (hk := ?_) ..).after ?_ | refine (State.setGate_kept ..).after ?_ | dsimp only | intro _)

theorem execTmTableWrite_kept (a : Nat) (t : Nat) (i : Nat) (s : State) : OutKept s (execTmTableWrite a t i s) := by
  unfold execTmTableWrite
  with_reducible repeat' (first
    | exact Kept.refl _ | refine out_next ?_ | refine (State.tmTableWrite_kept ..).after ?_ | dsimp only)

theorem execParseMovi_kept (k : Nat) (s : State) : OutKept s (execParseMovi k s) := by
  unfold execParseMovi
  with_reducible repeat' (first
    | exact Kept.refl _ | refine out_next ?_ | refine (State.parseRun_kept ..).after ?_ | dsimp only)

theorem execSampleCfgWrite_kept (k : Nat) (v : Word) (s : State) : OutKept s (execSampleCfgWrite k v s) := by
  unfold execSampleCfgWrite
  with_reducible repeat' (first
    | exact Kept.refl _ | refine out_next ?_ | refine (State.sampleCfg_kept ..).after ?_ | dsimp only)

theorem execTmTableRead_kept (a : Nat) (t : Nat) (i : Nat) (s : State) : OutKept s (execTmTableRead a t i s) := by
  unfold execTmTableRead
  with_reducible repeat' (first
    | exact Kept.refl _ | refine out_next ?_ | refine (State.tmTableRead_kept ..).after ?_ | dsimp only)

theorem execParseCoreFault_kept (k : Nat) (other : Nat) (cause : Nat) (s : State) : OutKept s (execParseCoreFault k other cause s) := by
  unfold execParseCoreFault
  with_reducible repeat' (first
    | exact Kept.refl _ | refine out_next ?_ | refine kept_ite ?_ ?_ | refine out_ite ?_ ?_ | refine (State.pktGone_kept ..).after ?_
    | refine (State.newCorr_kept ..).after ?_ | refine (State.parseRetire_kept ..).after ?_ | refine (State.setCore_kept ..).after ?_
    | refine pair_kept (by assumption) ?_ | dsimp only | split)

theorem execParseAdvi_kept (k : Nat) (s : State) : OutKept s (execParseAdvi k s) := by
  unfold execParseAdvi
  with_reducible repeat' (first
    | exact Kept.refl _ | refine out_next ?_ | refine (State.parseRun_kept ..).after ?_ | dsimp only)

theorem execSumpWaitEnd_kept (g : Nat) (e : Nat) (t : Nat) (s : State) : OutKept s (execSumpWaitEnd g e t s) := by
  unfold execSumpWaitEnd
  with_reducible repeat' (first
    | exact Kept.refl _ | refine out_next ?_ | refine kept_ite ?_ ?_ | refine out_ite ?_ ?_ | refine (State.sumpStore_kept ..).after ?_
    | refine (State.sumpTake_kept ..).after ?_ | refine (State.wake_kept ..).after ?_ | refine (State.setThr_kept ..).after ?_
    | refine (State.getResult_kept ..).after ?_ | refine triple_kept (by assumption) ?_ | dsimp only | split)

theorem execPeEventsWrite_kept (g : Nat) (e : Nat) (v : Nat) (s : State) : OutKept s (execPeEventsWrite g e v s) := by
  unfold execPeEventsWrite
  with_reducible repeat' (first
    | exact Kept.refl _ | refine out_next ?_ | refine (State.setEvents_kept ..).after ?_ | dsimp only)

theorem execParseEmitr_kept (k : Nat) (s : State) : OutKept s (execParseEmitr k s) := by
  unfold execParseEmitr
  with_reducible repeat' (first
    | exact Kept.refl _ | refine out_next ?_ | refine (State.parseRun_kept ..).after ?_ | dsimp only)

theorem execLoadDataReturn_kept (g : Nat) (e : Nat) (t : Nat) (s : State) : OutKept s (execLoadDataReturn g e t s) := by
  unfold execLoadDataReturn
  with_reducible repeat' (first
    | exact Kept.refl _ | refine out_next ?_ | refine kept_ite ?_ ?_ | refine out_ite ?_ ?_ | refine (State.wake_kept ..).after ?_
    | refine (State.setThr_kept ..).after ?_ | dsimp only | split)

theorem execHandoff_kept (g : Nat) (id : Nat) (s : State) : OutKept s (execHandoff g id s) := by
  unfold execHandoff
  with_reducible repeat' (first
    | exact Kept.refl _ | refine out_next ?_ | refine kept_ite ?_ ?_ | refine out_ite ?_ ?_ | refine (State.stat_kept ..).after ?_
    | refine (State.retryDone_kept ..).after ?_ | refine (State.drain_kept ..).after ?_ | refine (State.setGal_kept ..).after ?_
    | refine (State.sendEnded_kept ..).after ?_ | dsimp only | split)

theorem execParseOr_kept (k : Nat) (s : State) : OutKept s (execParseOr k s) := by
  unfold execParseOr
  with_reducible repeat' (first
    | exact Kept.refl _ | refine out_next ?_ | refine (State.parseRun_kept ..).after ?_ | dsimp only)

theorem execParseSetmd_kept (k : Nat) (s : State) : OutKept s (execParseSetmd k s) := by
  unfold execParseSetmd
  with_reducible repeat' (first
    | exact Kept.refl _ | refine out_next ?_ | refine (State.parseRun_kept ..).after ?_ | dsimp only)

theorem execParseShl_kept (k : Nat) (s : State) : OutKept s (execParseShl k s) := by
  unfold execParseShl
  with_reducible repeat' (first
    | exact Kept.refl _ | refine out_next ?_ | refine (State.parseRun_kept ..).after ?_ | dsimp only)

theorem execRopeStartRequest_kept (c : Nat) (entry : Nat) (p0 : Nat) (p1 : Nat) (p2 : Nat) (p3 : Nat) (s : State) : OutKept s (execRopeStartRequest c entry p0 p1 p2 p3 s) := by
  unfold execRopeStartRequest
  with_reducible repeat' (first
    | exact Kept.refl _ | refine out_next ?_ | refine (State.ropeStart_kept ..).after ?_ | dsimp only)

theorem execSumpAbort_kept (g : Nat) (i : Nat) (s : State) : OutKept s (execSumpAbort g i s) := by
  unfold execSumpAbort
  with_reducible repeat' (first
    | exact Kept.refl _ | refine out_next ?_ | refine (State.sumpAbort_kept ..).after ?_ | dsimp only)

theorem execEngineStall_kept (g : Nat) (e : Nat) (s : State) : OutKept s (execEngineStall g e s) := by
  unfold execEngineStall
  with_reducible repeat' (first
    | exact Kept.refl _ | refine out_next ?_ | refine kept_ite ?_ ?_ | refine out_ite ?_ ?_ | refine (State.err_kept ..).after ?_
    | refine (State.fault_kept ..).after ?_ | refine (State.wr_kept ..).after ?_ | refine (State.raise_kept ..).after ?_ | dsimp only)

end Sys2Proof.Machine
end

