-- ==== Sys2Proof/Laws/KeptEngine.lean ====
section
/-! SUPPORT. Laws/KeptEngine.lean: what the operations of engine instructions and admission leave alone, and how memories, outputs and free values go on
(Kept), one lemma for each operation. -/

namespace Sys2Proof.Machine

open Sys2Proof

set_option linter.unusedVariables false
set_option linter.unreachableTactic false
set_option linter.unusedTactic false
set_option cleanup.letToHave false

theorem State.admitOne_kept (s : State) (g : Nat) (p : Pkt) : Kept s (State.admitOne s g p) := by
  unfold State.admitOne
  with_reducible repeat' (first
    | exact Kept.refl _ | refine (State.place_kept ..).after ?_ | refine (State.stat_kept ..).after ?_
    | refine (State.setGal_kept ..).after ?_ | dsimp only | split)

/-- A packet's turn at admission. -/
theorem admitStep_kept (g x pass : Nat) (a : Adm) (p : Pkt) : Kept a.s (admitStep g x pass a p).s := by
  unfold admitStep
  simp only [apply_ite Adm.s]
  with_reducible repeat' (first
    | exact Kept.refl _ | refine kept_ite ?_ ?_ | refine (State.pktGone_kept ..).after ?_ | refine (State.stat_kept ..).after ?_
    | refine (State.admitOne_kept ..).after ?_ | dsimp only)

/-- The turns of a queue. -/
theorem admitAll_kept {s : State} {g x pass : Nat} {l : List Pkt} {a : Adm} (h : Kept s a.s) : Kept s (l.foldl (admitStep g x pass) a).s := by
  induction l generalizing a with
  | nil => exact h
  | cons p l ih => exact ih (h.trans (admitStep_kept ..))

theorem State.admitDrip_kept (s : State) (g : Nat) : Kept s (State.admitDrip s g) := by
  unfold State.admitDrip
  dsimp only
  refine (State.wr_kept ..).after ?_
  refine (State.wr_kept ..).after ?_
  refine (State.wr_kept ..).after ?_
  refine (State.wr_kept ..).after ?_
  refine (State.setGal_kept ..).after ?_
  have h (x : Nat) (l : List Pkt) (a : Adm) (ha : a.s = (s.drain g).setGal g { (s.drain g).gal g with input := [] }) :
      Kept s (l.foldl (admitStep g x 0) a).s :=
    admitAll_kept (by rw [ha]; exact (State.setGal_kept ..).after (State.drain_kept ..))
  simp only [apply_ite Adm.s]
  exact kept_ite (h _ _ _ rfl) (admitAll_kept (h _ _ _ rfl))

theorem State.takeOut_kept (s : State) (g : Nat) (id : Nat) (w : Where) : Kept s (State.takeOut s g id w) := by
  unfold State.takeOut
  with_reducible repeat' (first
    | exact Kept.refl _ | refine (State.updThr_kept ..).after ?_ | refine (State.setGal_kept ..).after ?_
    | refine (State.stopRun_kept ..).after ?_ | dsimp only | split)

theorem State.ctxLost_kept (s : State) (g : Nat) (c : Nat) : Kept s (State.ctxLost s g c) := by
  unfold State.ctxLost
  with_reducible repeat' (first
    | exact Kept.refl _ | refine (State.onFault_kept ..).after ?_ | refine (State.takeOut_kept ..).after ?_
    | refine each_kept ?_ (fun _ _ => ?_) | dsimp only | intro _ | split)

theorem State.enterDrip_kept (s : State) (g : Nat) : Kept s (State.enterDrip s g) := by
  unfold State.enterDrip
  with_reducible repeat' (first
    | exact Kept.refl _ | refine (State.setGal_kept ..).after ?_ | dsimp only | split)

theorem State.shiftDeadlines_kept (s : State) (g : Nat) (move : Nat → Nat) : Kept s (State.shiftDeadlines s g move) := by
  unfold State.shiftDeadlines
  with_reducible repeat' (first
    | exact Kept.refl _ | refine kept_ite ?_ ?_ | refine (State.writeDeadline_kept ..).after ?_ | refine (State.updThr_kept ..).after ?_
    | refine (State.setGal_kept ..).after ?_ | refine each_kept ?_ (fun _ _ => ?_) | dsimp only | intro _)

theorem State.freshBytes_kept (s : State) (y1 : Nat) : Kept s (State.freshBytes s y1).2 := by
  induction y1 generalizing s with
  | zero =>
    unfold State.freshBytes
    with_reducible repeat' (first
      | exact Kept.refl _ | refine (State.fresh_kept ..).after ?_ | refine pair_kept (by assumption) ?_ | dsimp only | split)
  | succ n ih =>
    unfold State.freshBytes
    with_reducible repeat' (first
      | exact Kept.refl _ | refine (ih ..).after ?_ | refine (State.fresh_kept ..).after ?_ | refine pair_kept (by assumption) ?_
      | dsimp only | split)

theorem State.haltEngine_kept (s : State) (g : Nat) (e : Nat) : Kept s (State.haltEngine s g e) := by
  unfold State.haltEngine
  with_reducible repeat' (first
    | exact Kept.refl _ | refine kept_ite ?_ ?_ | refine (State.setEngn_kept ..).after ?_ | refine (State.wr_kept ..).after ?_
    | refine (State.haltThr_kept ..).after ?_ | refine each_kept ?_ (fun _ _ => ?_) | dsimp only | intro _)

theorem State.later_kept (s : State) (g : Nat) (e : Nat) (t : Nat) (r : Nat) (v : Nat) : Kept s (State.later s g e t r v) := by
  unfold State.later
  with_reducible repeat' (first
    | exact Kept.refl _ | refine kept_ite ?_ ?_ | refine (State.updThr_kept ..).after ?_ | dsimp only)

theorem State.memPut_kept (s : State) (r : Bool × Nat) (l : List Byte) : Kept s (State.memPut s r l) := by
  unfold State.memPut
  with_reducible repeat' (first
    | exact Kept.refl _ | fail_if_no_progress refine kept_mk (by rfl) (by rfl) ?_ | refine kept_ite ?_ ?_
    | refine kept_mk2 (List.suffix_refl _) (le_refl _) id (Mem.wf_putBytes _ _) ?_ | dsimp only)

theorem State.pyIssue_kept (s : State) (g : Nat) (e : Nat) (t : Nat) (is : Nat → Bool) (f : Nat → State → PyRes) (hk : ∀ x0 x1, PyKept x1 (f x0 x1)) : Kept s (State.pyIssue s g e t is f) := by
  unfold State.pyIssue
  with_reducible repeat' (first
    | exact Kept.refl _ | refine kept_ite ?_ ?_ | refine (hk ..).after ?_ | exact hk .. | refine (State.waitOn_kept ..).after ?_
    | refine (State.finish_kept ..).after ?_ | refine (State.stepTake_kept ..).after ?_ | refine (State.stat_kept ..).after ?_
    | refine (State.setPc_kept ..).after ?_ | refine (State.progExc_kept ..).after ?_
    | refine (py_after (hk ..) (.inl (by assumption))).after ?_ | refine (py_after (hk ..) (.inr (.inl ⟨_, by assumption⟩))).after ?_
    | refine (py_after (hk ..) (.inr (.inr (by assumption)))).after ?_ | dsimp only | split)

theorem State.pyRun_kept (s : State) (g : Nat) (e : Nat) (t : Nat) (is : Nat → Bool) (f : Nat → State → PyRes) (hk : ∀ x0 x1, PyKept x1 (f x0 x1)) : Kept s (State.pyRun s g e t is f) := by
  unfold State.pyRun
  with_reducible repeat' (first
    | exact Kept.refl _ | refine (hk ..).after ?_ | exact hk .. | refine (State.pyIssue_kept (hk := ?_) ..).after ?_
    | refine (State.stepCheck_kept ..).after ?_ | refine (py_after (hk ..) (.inl (by assumption))).after ?_
    | refine (py_after (hk ..) (.inr (.inl ⟨_, by assumption⟩))).after ?_
    | refine (py_after (hk ..) (.inr (.inr (by assumption)))).after ?_ | dsimp only | intro _)

theorem State.setGr_kept (s : State) (g : Nat) (e : Nat) (t : Nat) (r : Nat) (v : Nat) : Kept s (State.setGr s g e t r v) := by
  unfold State.setGr
  with_reducible repeat' (first
    | exact Kept.refl _ | refine (State.updThr_kept ..).after ?_ | dsimp only)

theorem State.pyAlu_kept (s : State) (g : Nat) (e : Nat) (t : Nat) (fn : Nat) (op : Nat → Nat → Nat → Nat) : Kept s (State.pyAlu s g e t fn op) := by
  unfold State.pyAlu
  with_reducible repeat' (first
    | exact Kept.refl _ | refine py_ok ?_ | refine (State.pyRun_kept (hk := ?_) ..).after ?_ | refine (State.setGr_kept ..).after ?_
    | dsimp only | intro _)

theorem State.pyBranch_kept (s : State) (g : Nat) (e : Nat) (t : Nat) (opc : Nat) (c : Nat → Nat → Bool) : Kept s (State.pyBranch s g e t opc c) := by
  unfold State.pyBranch
  with_reducible repeat' (first
    | exact Kept.refl _ | refine kept_ite ?_ ?_ | refine py_ite ?_ ?_ | refine py_ok ?_ | refine py_jump ?_
    | refine (State.pyRun_kept (hk := ?_) ..).after ?_ | dsimp only | intro _)

theorem State.takeEnd_kept (s : State) (g : Nat) (e : Nat) (t : Nat) (p : Pkt) : Kept s (State.takeEnd s g e t p).2 := by
  unfold State.takeEnd
  with_reducible repeat' (first
    | exact Kept.refl _ | refine (State.freshBytes_kept ..).after ?_ | refine pair_kept (by assumption) ?_ | dsimp only | split)

theorem State.pyEnd_kept (s : State) (g : Nat) (e : Nat) (t : Nat) (fn : Nat) : Kept s (State.pyEnd s g e t fn) := by
  unfold State.pyEnd
  with_reducible repeat' (first
    | exact Kept.refl _ | refine kept_ite ?_ ?_ | refine py_ite ?_ ?_ | refine py_stay ?_ | exact py_exc
    | refine (State.setTs_kept ..).after ?_ | refine (State.dropRun_kept ..).after ?_ | refine (State.pyRun_kept (hk := ?_) ..).after ?_
    | refine (State.takeEnd_kept ..).after ?_ | refine (State.stat_kept ..).after ?_ | refine (State.updThr_kept ..).after ?_
    | refine (State.setGal_kept ..).after ?_ | refine pair_kept (by assumption) ?_ | dsimp only | intro _ | split)

theorem State.pyImm_kept (s : State) (g : Nat) (e : Nat) (t : Nat) (opc : Nat) (op : Nat → Nat → Nat → Nat) : Kept s (State.pyImm s g e t opc op) := by
  unfold State.pyImm
  with_reducible repeat' (first
    | exact Kept.refl _ | refine py_ok ?_ | refine (State.pyRun_kept (hk := ?_) ..).after ?_ | refine (State.setGr_kept ..).after ?_
    | dsimp only | intro _)

theorem State.pyLoad_kept (s : State) (g : Nat) (e : Nat) (t : Nat) (opc : Nat) (size : Nat → Nat) (off : Nat → Nat) (big : Bool) : Kept s (State.pyLoad s g e t opc size off big) := by
  unfold State.pyLoad
  with_reducible repeat' (first
    | exact Kept.refl _ | refine kept_ite ?_ ?_ | refine py_ite ?_ ?_ | refine py_ok ?_ | exact py_exc
    | refine (State.pyRun_kept (hk := ?_) ..).after ?_ | refine (State.later_kept ..).after ?_ | dsimp only | intro _ | split)

theorem State.pyShared_kept (s : State) (g : Nat) (e : Nat) (t : Nat) (opc : Nat) (f : Nat → Nat → Nat) : Kept s (State.pyShared s g e t opc f) := by
  unfold State.pyShared
  with_reducible repeat' (first
    | exact Kept.refl _ | refine py_ok ?_ | refine (State.setEngn_kept ..).after ?_ | refine (State.pyRun_kept (hk := ?_) ..).after ?_
    | refine (State.setGr_kept ..).after ?_ | dsimp only | intro _)

theorem State.pyStore_kept (s : State) (g : Nat) (e : Nat) (t : Nat) (opc : Nat) (size : Nat → Nat) (off : Nat → Nat) (big : Bool) : Kept s (State.pyStore s g e t opc size off big) := by
  unfold State.pyStore
  with_reducible repeat' (first
    | exact Kept.refl _ | refine kept_ite ?_ ?_ | refine py_ite ?_ ?_ | refine py_ok ?_ | exact py_exc
    | refine (State.memPut_kept ..).after ?_ | refine (State.pyRun_kept (hk := ?_) ..).after ?_ | dsimp only | intro _ | split)

theorem State.pyThr_kept (s : State) (g : Nat) (e : Nat) (t : Nat) (fn : Nat) (f : Nat → State → PyRes) (hk : ∀ x0 x1, PyKept x1 (f x0 x1)) : Kept s (State.pyThr s g e t fn f) := by
  unfold State.pyThr
  with_reducible repeat' (first
    | exact Kept.refl _ | refine kept_ite ?_ ?_ | refine py_ite ?_ ?_ | exact py_exc | refine (hk ..).after ?_ | exact hk ..
    | refine (State.pyRun_kept (hk := ?_) ..).after ?_ | refine (py_after (hk ..) (.inl (by assumption))).after ?_
    | refine (py_after (hk ..) (.inr (.inl ⟨_, by assumption⟩))).after ?_
    | refine (py_after (hk ..) (.inr (.inr (by assumption)))).after ?_ | dsimp only | intro _)

theorem State.showCheck_kept (s : State) (g : Nat) : Kept s (State.showCheck s g) := by
  unfold State.showCheck
  with_reducible repeat' (first
    | exact Kept.refl _ | refine (State.wr_kept ..).after ?_ | dsimp only | split)

theorem State.special_kept (s : State) (g : Nat) (e : Nat) (t : Nat) (n : Nat) : OpKept s (State.special s g e t n) := by
  unfold State.special
  with_reducible repeat' (first
    | exact Kept.refl _ | refine kept_ite ?_ ?_ | refine op_ite ?_ ?_ | exact op_none | refine op_some ?_
    | refine (State.fresh_kept ..).after ?_ | refine op_map (fun _ => rfl) ?_ | refine pair_kept (by assumption) ?_ | dsimp only | split)

theorem State.stopBeside_kept (s : State) (g : Nat) (e : Nat) (t : Nat) : Kept s (State.stopBeside s g e t) := by
  unfold State.stopBeside
  with_reducible repeat' (first
    | exact Kept.refl _ | refine kept_ite ?_ ?_ | refine (State.wr_kept ..).after ?_ | refine (State.stopThr_kept ..).after ?_
    | refine (State.updThr_kept ..).after ?_ | dsimp only)

theorem State.updAdmitted_kept (s : State) (g : Nat) (id : Nat) (w : Where) (f : Pkt → Pkt) : Kept s (State.updAdmitted s g id w f) := by
  unfold State.updAdmitted
  with_reducible repeat' (first
    | exact Kept.refl _ | refine kept_ite ?_ ?_ | refine (State.updThr_kept ..).after ?_ | refine (State.setGal_kept ..).after ?_
    | dsimp only | split)

theorem State.updCheck_kept (s : State) (g : Nat) (e : Nat) (f : HwFault → HwFault) : Kept s (State.updCheck s g e f) := by
  unfold State.updCheck
  with_reducible repeat' (first
    | exact Kept.refl _ | refine kept_ite ?_ ?_ | refine (State.setGal_kept ..).after ?_ | dsimp only)

theorem execCrc_kept (g : Nat) (e : Nat) (t : Nat) (s : State) : OutKept s (execCrc g e t s) := by
  unfold execCrc
  with_reducible repeat' (first
    | exact Kept.refl _ | refine out_next ?_ | refine (State.pyAlu_kept ..).after ?_ | dsimp only)

theorem execLd32_kept (g : Nat) (e : Nat) (t : Nat) (s : State) : OutKept s (execLd32 g e t s) := by
  unfold execLd32
  with_reducible repeat' (first
    | exact Kept.refl _ | refine out_next ?_ | refine (State.pyLoad_kept ..).after ?_ | dsimp only)

theorem execSget_kept (g : Nat) (e : Nat) (t : Nat) (s : State) : OutKept s (execSget g e t s) := by
  unfold execSget
  with_reducible repeat' (first
    | exact Kept.refl _ | refine out_next ?_ | refine kept_ite ?_ ?_ | refine out_ite ?_ ?_ | refine py_ite ?_ ?_ | refine py_ok ?_
    | refine py_stay ?_ | exact py_exc | refine (State.waitOn_kept ..).after ?_ | refine (State.sumpTake_kept ..).after ?_
    | refine (State.pyRun_kept (hk := ?_) ..).after ?_ | refine (State.getResult_kept ..).after ?_
    | refine (State.updThr_kept ..).after ?_ | refine triple_kept (by assumption) ?_ | dsimp only | intro _ | split)

theorem execShr_kept (g : Nat) (e : Nat) (t : Nat) (s : State) : OutKept s (execShr g e t s) := by
  unfold execShr
  with_reducible repeat' (first
    | exact Kept.refl _ | refine out_next ?_ | refine (State.pyAlu_kept ..).after ?_ | dsimp only)

theorem execSput_kept (g : Nat) (e : Nat) (t : Nat) (s : State) : OutKept s (execSput g e t s) := by
  unfold execSput
  with_reducible repeat' (first
    | exact Kept.refl _ | refine out_next ?_ | refine kept_ite ?_ ?_ | refine out_ite ?_ ?_ | refine py_ite ?_ ?_ | refine py_ok ?_
    | refine py_stay ?_ | exact py_exc | refine (State.waitOn_kept ..).after ?_ | refine (State.sumpStore_kept ..).after ?_
    | refine (State.pyRun_kept (hk := ?_) ..).after ?_ | refine (State.updThr_kept ..).after ?_ | dsimp only | intro _ | split)

theorem execPld_kept (g : Nat) (e : Nat) (t : Nat) (s : State) : OutKept s (execPld g e t s) := by
  unfold execPld
  with_reducible repeat' (first
    | exact Kept.refl _ | refine out_next ?_ | refine kept_ite ?_ ?_ | refine out_ite ?_ ?_ | refine py_ite ?_ ?_ | refine py_ok ?_
    | exact py_exc | refine (State.pyRun_kept (hk := ?_) ..).after ?_ | refine (State.later_kept ..).after ?_ | dsimp only | intro _
    | split)

theorem execUnlock_kept (g : Nat) (e : Nat) (t : Nat) (s : State) : OutKept s (execUnlock g e t s) := by
  unfold execUnlock
  with_reducible repeat' (first
    | exact Kept.refl _ | refine out_next ?_ | refine py_ok ?_ | exact py_exc | refine (State.pyRun_kept (hk := ?_) ..).after ?_
    | refine (State.lockFree_kept ..).after ?_ | refine (State.updThr_kept ..).after ?_ | dsimp only | intro _ | split)

theorem execSt8_kept (g : Nat) (e : Nat) (t : Nat) (s : State) : OutKept s (execSt8 g e t s) := by
  unfold execSt8
  with_reducible repeat' (first
    | exact Kept.refl _ | refine out_next ?_ | refine (State.pyStore_kept ..).after ?_ | dsimp only)

theorem execSignal_kept (g : Nat) (e : Nat) (t : Nat) (s : State) : OutKept s (execSignal g e t s) := by
  unfold execSignal
  with_reducible repeat' (first
    | exact Kept.refl _ | refine out_next ?_ | refine kept_ite ?_ ?_ | refine out_ite ?_ ?_ | refine py_ite ?_ ?_ | refine py_ok ?_
    | refine (State.pyRun_kept (hk := ?_) ..).after ?_ | refine (State.setEvents_kept ..).after ?_ | dsimp only | intro _ | split)

theorem execMinu_kept (g : Nat) (e : Nat) (t : Nat) (s : State) : OutKept s (execMinu g e t s) := by
  unfold execMinu
  with_reducible repeat' (first
    | exact Kept.refl _ | refine out_next ?_ | refine (State.pyAlu_kept ..).after ?_ | dsimp only)

theorem execSar_kept (g : Nat) (e : Nat) (t : Nat) (s : State) : OutKept s (execSar g e t s) := by
  unfold execSar
  with_reducible repeat' (first
    | exact Kept.refl _ | refine out_next ?_ | refine (State.pyAlu_kept ..).after ?_ | dsimp only)

theorem execEngineCheckStart_kept (g : Nat) (e : Nat) (s : State) : OutKept s (execEngineCheckStart g e s) := by
  unfold execEngineCheckStart
  with_reducible repeat' (first
    | exact Kept.refl _ | refine out_next ?_ | refine kept_ite ?_ ?_ | refine out_ite ?_ ?_ | refine (State.updCheck_kept ..).after ?_
    | refine (State.showCheck_kept ..).after ?_ | dsimp only | split)

theorem execSxadd_kept (g : Nat) (e : Nat) (t : Nat) (s : State) : OutKept s (execSxadd g e t s) := by
  unfold execSxadd
  with_reducible repeat' (first
    | exact Kept.refl _ | refine out_next ?_ | refine (State.pyShared_kept ..).after ?_ | dsimp only)

theorem execLoop_kept (g : Nat) (e : Nat) (t : Nat) (s : State) : OutKept s (execLoop g e t s) := by
  unfold execLoop
  with_reducible repeat' (first
    | exact Kept.refl _ | refine out_next ?_ | refine kept_ite ?_ ?_ | refine out_ite ?_ ?_ | refine py_ite ?_ ?_ | refine py_jump ?_
    | refine py_stay ?_ | exact py_exc | refine (State.pyRun_kept (hk := ?_) ..).after ?_ | refine (State.finish_kept ..).after ?_
    | refine (State.updThr_kept ..).after ?_ | dsimp only | intro _)

theorem execBgeu_kept (g : Nat) (e : Nat) (t : Nat) (s : State) : OutKept s (execBgeu g e t s) := by
  unfold execBgeu
  with_reducible repeat' (first
    | exact Kept.refl _ | refine out_next ?_ | refine (State.pyBranch_kept ..).after ?_ | dsimp only)

theorem execAnd_kept (g : Nat) (e : Nat) (t : Nat) (s : State) : OutKept s (execAnd g e t s) := by
  unfold execAnd
  with_reducible repeat' (first
    | exact Kept.refl _ | refine out_next ?_ | refine (State.pyAlu_kept ..).after ?_ | dsimp only)

theorem execEngineHwFault_kept (g : Nat) (e : Nat) (t : Nat) (cause : Nat) (s : State) : OutKept s (execEngineHwFault g e t cause s) := by
  unfold execEngineHwFault
  with_reducible repeat' (first
    | exact Kept.refl _ | refine out_next ?_ | refine kept_ite ?_ ?_ | refine out_ite ?_ ?_ | refine (State.stopBeside_kept ..).after ?_
    | refine (State.onFault_kept ..).after ?_ | refine (State.place_kept ..).after ?_ | refine (State.newCorr_kept ..).after ?_
    | refine (State.wr_kept ..).after ?_ | refine (State.stat_kept ..).after ?_ | refine (State.retryDone_kept ..).after ?_
    | refine (State.thrFault_kept ..).after ?_ | refine (State.updThr_kept ..).after ?_ | refine (State.setGal_kept ..).after ?_
    | refine each_kept ?_ (fun _ _ => ?_) | refine op_map (fun _ => rfl) ?_ | refine pair_kept (by assumption) ?_ | dsimp only | intro _
    | split)

theorem execExtr_kept (g : Nat) (e : Nat) (t : Nat) (s : State) : OutKept s (execExtr g e t s) := by
  unfold execExtr
  with_reducible repeat' (first
    | exact Kept.refl _ | refine out_next ?_ | refine (State.pyImm_kept ..).after ?_ | dsimp only)

theorem execBswap_kept (g : Nat) (e : Nat) (t : Nat) (s : State) : OutKept s (execBswap g e t s) := by
  unfold execBswap
  with_reducible repeat' (first
    | exact Kept.refl _ | refine out_next ?_ | refine (State.pyAlu_kept ..).after ?_ | dsimp only)

theorem execInsr_kept (g : Nat) (e : Nat) (t : Nat) (s : State) : OutKept s (execInsr g e t s) := by
  unfold execInsr
  with_reducible repeat' (first
    | exact Kept.refl _ | refine out_next ?_ | refine (State.pyImm_kept ..).after ?_ | dsimp only)

theorem execEndRecirc_kept (g : Nat) (e : Nat) (t : Nat) (s : State) : OutKept s (execEndRecirc g e t s) := by
  unfold execEndRecirc
  with_reducible repeat' (first
    | exact Kept.refl _ | refine out_next ?_ | refine (State.pyEnd_kept ..).after ?_ | dsimp only)

theorem execCall_kept (g : Nat) (e : Nat) (t : Nat) (s : State) : OutKept s (execCall g e t s) := by
  unfold execCall
  with_reducible repeat' (first
    | exact Kept.refl _ | refine out_next ?_ | refine kept_ite ?_ ?_ | refine out_ite ?_ ?_ | refine py_ite ?_ ?_ | refine py_jump ?_
    | exact py_exc | refine (State.pyRun_kept (hk := ?_) ..).after ?_ | refine (State.updThr_kept ..).after ?_ | dsimp only | intro _)

theorem execSari_kept (g : Nat) (e : Nat) (t : Nat) (s : State) : OutKept s (execSari g e t s) := by
  unfold execSari
  with_reducible repeat' (first
    | exact Kept.refl _ | refine out_next ?_ | refine (State.pyImm_kept ..).after ?_ | dsimp only)

theorem execShli_kept (g : Nat) (e : Nat) (t : Nat) (s : State) : OutKept s (execShli g e t s) := by
  unfold execShli
  with_reducible repeat' (first
    | exact Kept.refl _ | refine out_next ?_ | refine (State.pyImm_kept ..).after ?_ | dsimp only)

theorem execFld_kept (g : Nat) (e : Nat) (t : Nat) (s : State) : OutKept s (execFld g e t s) := by
  unfold execFld
  with_reducible repeat' (first
    | exact Kept.refl _ | refine out_next ?_ | refine kept_ite ?_ ?_ | refine out_ite ?_ ?_ | refine py_ite ?_ ?_ | refine py_ok ?_
    | exact py_exc | refine (State.pyRun_kept (hk := ?_) ..).after ?_ | refine (State.later_kept ..).after ?_ | dsimp only | intro _)

theorem execFins_kept (g : Nat) (e : Nat) (t : Nat) (s : State) : OutKept s (execFins g e t s) := by
  unfold execFins
  with_reducible repeat' (first
    | exact Kept.refl _ | refine out_next ?_ | refine kept_ite ?_ ?_ | refine out_ite ?_ ?_ | refine py_ite ?_ ?_ | refine py_ok ?_
    | exact py_exc | refine (State.setFlow_kept ..).after ?_ | refine (State.fresh_kept ..).after ?_
    | refine (State.pyRun_kept (hk := ?_) ..).after ?_ | refine (State.later_kept ..).after ?_ | refine pair_kept (by assumption) ?_
    | dsimp only | intro _ | split)

theorem execInputQueueExpiry_kept (g : Nat) (id : Nat) (s : State) : OutKept s (execInputQueueExpiry g id s) := by
  unfold execInputQueueExpiry
  with_reducible repeat' (first
    | exact Kept.refl _ | refine out_next ?_ | refine kept_ite ?_ ?_ | refine out_ite ?_ ?_ | refine (State.pktGone_kept ..).after ?_
    | refine (State.stat_kept ..).after ?_ | refine (State.setGal_kept ..).after ?_ | dsimp only | split)

theorem execXori_kept (g : Nat) (e : Nat) (t : Nat) (s : State) : OutKept s (execXori g e t s) := by
  unfold execXori
  with_reducible repeat' (first
    | exact Kept.refl _ | refine out_next ?_ | refine (State.pyImm_kept ..).after ?_ | dsimp only)

theorem execEngineReturn_kept (g : Nat) (e : Nat) (s : State) : OutKept s (execEngineReturn g e s) := by
  unfold execEngineReturn
  with_reducible repeat' (first
    | exact Kept.refl _ | refine out_next ?_ | refine kept_ite ?_ ?_ | refine out_ite ?_ ?_ | refine (State.err_kept ..).after ?_
    | refine (State.faultEvent_kept ..).after ?_ | refine (State.updCheck_kept ..).after ?_ | refine (State.wr_kept ..).after ?_
    | refine (State.hwFinish_kept ..).after ?_ | refine (State.drain_kept ..).after ?_ | dsimp only | split)

theorem execAdd_kept (g : Nat) (e : Nat) (t : Nat) (s : State) : OutKept s (execAdd g e t s) := by
  unfold execAdd
  with_reducible repeat' (first
    | exact Kept.refl _ | refine out_next ?_ | refine (State.pyAlu_kept ..).after ?_ | dsimp only)

theorem execLd8_kept (g : Nat) (e : Nat) (t : Nat) (s : State) : OutKept s (execLd8 g e t s) := by
  unfold execLd8
  with_reducible repeat' (first
    | exact Kept.refl _ | refine out_next ?_ | refine (State.pyLoad_kept ..).after ?_ | dsimp only)

theorem execOr_kept (g : Nat) (e : Nat) (t : Nat) (s : State) : OutKept s (execOr g e t s) := by
  unfold execOr
  with_reducible repeat' (first
    | exact Kept.refl _ | refine out_next ?_ | refine (State.pyAlu_kept ..).after ?_ | dsimp only)

theorem execSel_kept (g : Nat) (e : Nat) (t : Nat) (s : State) : OutKept s (execSel g e t s) := by
  unfold execSel
  with_reducible repeat' (first
    | exact Kept.refl _ | refine out_next ?_ | refine kept_ite ?_ ?_ | refine out_ite ?_ ?_ | refine (State.pyAlu_kept ..).after ?_
    | dsimp only)

theorem execSlt_kept (g : Nat) (e : Nat) (t : Nat) (s : State) : OutKept s (execSlt g e t s) := by
  unfold execSlt
  with_reducible repeat' (first
    | exact Kept.refl _ | refine out_next ?_ | refine (State.pyAlu_kept ..).after ?_ | dsimp only)

theorem execSt64_kept (g : Nat) (e : Nat) (t : Nat) (s : State) : OutKept s (execSt64 g e t s) := by
  unfold execSt64
  with_reducible repeat' (first
    | exact Kept.refl _ | refine out_next ?_ | refine (State.pyStore_kept ..).after ?_ | dsimp only)

theorem execSltu_kept (g : Nat) (e : Nat) (t : Nat) (s : State) : OutKept s (execSltu g e t s) := by
  unfold execSltu
  with_reducible repeat' (first
    | exact Kept.refl _ | refine out_next ?_ | refine (State.pyAlu_kept ..).after ?_ | dsimp only)

theorem execEngineCheckEnd_kept (g : Nat) (e : Nat) (pass : Bool) (s : State) : OutKept s (execEngineCheckEnd g e pass s) := by
  unfold execEngineCheckEnd
  with_reducible repeat' (first
    | exact Kept.refl _ | refine out_next ?_ | refine kept_ite ?_ ?_ | refine out_ite ?_ ?_ | refine (State.updCheck_kept ..).after ?_
    | refine (State.showCheck_kept ..).after ?_ | dsimp only | split)

theorem execMfsr_kept (g : Nat) (e : Nat) (t : Nat) (s : State) : OutKept s (execMfsr g e t s) := by
  unfold execMfsr
  with_reducible repeat' (first
    | exact Kept.refl _ | refine out_next ?_ | refine py_ok ?_ | exact py_exc | refine (State.pyRun_kept (hk := ?_) ..).after ?_
    | refine (State.setGr_kept ..).after ?_ | refine (op_get (State.special_kept ..) (by assumption)).after ?_
    | exact State.special_kept .. | dsimp only | intro _ | split)

theorem execBkpt_kept (g : Nat) (e : Nat) (t : Nat) (s : State) : OutKept s (execBkpt g e t s) := by
  unfold execBkpt
  with_reducible repeat' (first
    | exact Kept.refl _ | refine out_next ?_ | refine kept_ite ?_ ?_ | refine out_ite ?_ ?_ | refine py_ite ?_ ?_ | refine py_stay ?_
    | exact py_exc | refine (State.pyRun_kept (hk := ?_) ..).after ?_ | refine (State.finish_kept ..).after ?_
    | refine (State.haltEngine_kept ..).after ?_ | dsimp only | intro _)

theorem execSt32_kept (g : Nat) (e : Nat) (t : Nat) (s : State) : OutKept s (execSt32 g e t s) := by
  unfold execSt32
  with_reducible repeat' (first
    | exact Kept.refl _ | refine out_next ?_ | refine (State.pyStore_kept ..).after ?_ | dsimp only)

theorem execXor_kept (g : Nat) (e : Nat) (t : Nat) (s : State) : OutKept s (execXor g e t s) := by
  unfold execXor
  with_reducible repeat' (first
    | exact Kept.refl _ | refine out_next ?_ | refine (State.pyAlu_kept ..).after ?_ | dsimp only)

theorem execBltu_kept (g : Nat) (e : Nat) (t : Nat) (s : State) : OutKept s (execBltu g e t s) := by
  unfold execBltu
  with_reducible repeat' (first
    | exact Kept.refl _ | refine out_next ?_ | refine (State.pyBranch_kept ..).after ?_ | dsimp only)

theorem execLock_kept (g : Nat) (e : Nat) (t : Nat) (s : State) : OutKept s (execLock g e t s) := by
  unfold execLock
  with_reducible repeat' (first
    | exact Kept.refl _ | refine out_next ?_ | refine kept_ite ?_ ?_ | refine out_ite ?_ ?_ | refine py_ite ?_ ?_ | refine py_ok ?_
    | refine py_stay ?_ | exact py_exc | refine (State.waitOn_kept ..).after ?_ | refine (State.pyRun_kept (hk := ?_) ..).after ?_
    | refine (State.lockTake_kept ..).after ?_ | refine (State.updThr_kept ..).after ?_ | refine (State.setGal_kept ..).after ?_
    | dsimp only | intro _)

theorem execSt16_kept (g : Nat) (e : Nat) (t : Nat) (s : State) : OutKept s (execSt16 g e t s) := by
  unfold execSt16
  with_reducible repeat' (first
    | exact Kept.refl _ | refine out_next ?_ | refine (State.pyStore_kept ..).after ?_ | dsimp only)

theorem execEndHandoff_kept (g : Nat) (e : Nat) (t : Nat) (s : State) : OutKept s (execEndHandoff g e t s) := by
  unfold execEndHandoff
  with_reducible repeat' (first
    | exact Kept.refl _ | refine out_next ?_ | refine (State.pyEnd_kept ..).after ?_ | dsimp only)

theorem execEngineRetire_kept (g : Nat) (e : Nat) (s : State) : OutKept s (execEngineRetire g e s) := by
  unfold execEngineRetire
  with_reducible repeat' (first
    | exact Kept.refl _ | refine out_next ?_ | refine kept_ite ?_ ?_ | refine out_ite ?_ ?_ | refine (State.err_kept ..).after ?_
    | refine (State.updCheck_kept ..).after ?_ | refine (State.wr_kept ..).after ?_ | refine (State.raise_kept ..).after ?_
    | refine (State.hwFinish_kept ..).after ?_ | refine (State.drain_kept ..).after ?_ | dsimp only | split)

theorem execMulhu_kept (g : Nat) (e : Nat) (t : Nat) (s : State) : OutKept s (execMulhu g e t s) := by
  unfold execMulhu
  with_reducible repeat' (first
    | exact Kept.refl _ | refine out_next ?_ | refine (State.pyAlu_kept ..).after ?_ | dsimp only)

theorem execDeadlineFault_kept (g : Nat) (id : Nat) (s : State) : OutKept s (execDeadlineFault g id s) := by
  unfold execDeadlineFault
  with_reducible repeat' (first
    | exact Kept.refl _ | refine out_next ?_ | refine kept_ite ?_ ?_ | refine out_ite ?_ ?_ | refine (State.pktGone_kept ..).after ?_
    | refine (State.err_kept ..).after ?_ | refine (State.fault_kept ..).after ?_ | refine (State.slowPath_kept ..).after ?_
    | refine (State.takeOut_kept ..).after ?_ | refine (State.retryDone_kept ..).after ?_ | refine (State.drain_kept ..).after ?_
    | refine (State.updAdmitted_kept ..).after ?_ | dsimp only | split)

theorem execFdel_kept (g : Nat) (e : Nat) (t : Nat) (s : State) : OutKept s (execFdel g e t s) := by
  unfold execFdel
  with_reducible repeat' (first
    | exact Kept.refl _ | refine out_next ?_ | refine py_ok ?_ | exact py_exc | refine (State.setFlow_kept ..).after ?_
    | refine (State.pyRun_kept (hk := ?_) ..).after ?_ | refine (State.later_kept ..).after ?_ | refine (State.cacheDrop_kept ..).after ?_
    | dsimp only | intro _ | split)

theorem execGraceExpiry_kept (g : Nat) (id : Nat) (s : State) : OutKept s (execGraceExpiry g id s) := by
  unfold execGraceExpiry
  with_reducible repeat' (first
    | exact Kept.refl _ | refine out_next ?_ | refine kept_ite ?_ ?_ | refine out_ite ?_ ?_ | refine (State.pktGone_kept ..).after ?_
    | refine (State.err_kept ..).after ?_ | refine (State.takeOut_kept ..).after ?_ | refine (State.drain_kept ..).after ?_ | dsimp only
    | split)

theorem execWait_kept (g : Nat) (e : Nat) (t : Nat) (s : State) : OutKept s (execWait g e t s) := by
  unfold execWait
  with_reducible repeat' (first
    | exact Kept.refl _ | refine out_next ?_ | refine kept_ite ?_ ?_ | refine out_ite ?_ ?_ | refine py_ite ?_ ?_ | refine py_ok ?_
    | refine py_stay ?_ | exact py_exc | refine (State.clearEvents_kept ..).after ?_ | refine (State.waitOn_kept ..).after ?_
    | refine (State.pyRun_kept (hk := ?_) ..).after ?_ | refine (State.setGr_kept ..).after ?_ | refine (State.updThr_kept ..).after ?_
    | dsimp only | intro _)

theorem execMul_kept (g : Nat) (e : Nat) (t : Nat) (s : State) : OutKept s (execMul g e t s) := by
  unfold execMul
  with_reducible repeat' (first
    | exact Kept.refl _ | refine out_next ?_ | refine (State.pyAlu_kept ..).after ?_ | dsimp only)

theorem execShri_kept (g : Nat) (e : Nat) (t : Nat) (s : State) : OutKept s (execShri g e t s) := by
  unfold execShri
  with_reducible repeat' (first
    | exact Kept.refl _ | refine out_next ?_ | refine (State.pyImm_kept ..).after ?_ | dsimp only)

theorem execInsi_kept (g : Nat) (e : Nat) (t : Nat) (s : State) : OutKept s (execInsi g e t s) := by
  unfold execInsi
  with_reducible repeat' (first
    | exact Kept.refl _ | refine out_next ?_ | refine (State.pyImm_kept ..).after ?_ | dsimp only)

theorem execMaxu_kept (g : Nat) (e : Nat) (t : Nat) (s : State) : OutKept s (execMaxu g e t s) := by
  unfold execMaxu
  with_reducible repeat' (first
    | exact Kept.refl _ | refine out_next ?_ | refine (State.pyAlu_kept ..).after ?_ | dsimp only)

theorem execBne_kept (g : Nat) (e : Nat) (t : Nat) (s : State) : OutKept s (execBne g e t s) := by
  unfold execBne
  with_reducible repeat' (first
    | exact Kept.refl _ | refine out_next ?_ | refine (State.pyBranch_kept ..).after ?_ | dsimp only)

theorem execLd64_kept (g : Nat) (e : Nat) (t : Nat) (s : State) : OutKept s (execLd64 g e t s) := by
  unfold execLd64
  with_reducible repeat' (first
    | exact Kept.refl _ | refine out_next ?_ | refine (State.pyLoad_kept ..).after ?_ | dsimp only)

theorem execBeq_kept (g : Nat) (e : Nat) (t : Nat) (s : State) : OutKept s (execBeq g e t s) := by
  unfold execBeq
  with_reducible repeat' (first
    | exact Kept.refl _ | refine out_next ?_ | refine (State.pyBranch_kept ..).after ?_ | dsimp only)

theorem execSxchg_kept (g : Nat) (e : Nat) (t : Nat) (s : State) : OutKept s (execSxchg g e t s) := by
  unfold execSxchg
  with_reducible repeat' (first
    | exact Kept.refl _ | refine out_next ?_ | refine (State.pyShared_kept ..).after ?_ | dsimp only)

theorem execLdbe_kept (g : Nat) (e : Nat) (t : Nat) (s : State) : OutKept s (execLdbe g e t s) := by
  unfold execLdbe
  with_reducible repeat' (first
    | exact Kept.refl _ | refine out_next ?_ | refine (State.pyLoad_kept ..).after ?_ | dsimp only)

theorem execEndPunt_kept (g : Nat) (e : Nat) (t : Nat) (s : State) : OutKept s (execEndPunt g e t s) := by
  unfold execEndPunt
  with_reducible repeat' (first
    | exact Kept.refl _ | refine out_next ?_ | refine (State.pyEnd_kept ..).after ?_ | dsimp only)

theorem execBrknz_kept (g : Nat) (e : Nat) (t : Nat) (s : State) : OutKept s (execBrknz g e t s) := by
  unfold execBrknz
  with_reducible repeat' (first
    | exact Kept.refl _ | refine out_next ?_ | refine kept_ite ?_ ?_ | refine out_ite ?_ ?_ | refine py_ite ?_ ?_ | refine py_ok ?_
    | refine py_stay ?_ | refine (State.pyRun_kept (hk := ?_) ..).after ?_ | refine (State.finish_kept ..).after ?_
    | refine (State.updThr_kept ..).after ?_ | dsimp only | intro _ | split)

theorem execSeq_kept (g : Nat) (e : Nat) (t : Nat) (s : State) : OutKept s (execSeq g e t s) := by
  unfold execSeq
  with_reducible repeat' (first
    | exact Kept.refl _ | refine out_next ?_ | refine (State.pyAlu_kept ..).after ?_ | dsimp only)

theorem execFsts_kept (g : Nat) (e : Nat) (t : Nat) (s : State) : OutKept s (execFsts g e t s) := by
  unfold execFsts
  with_reducible repeat' (first
    | exact Kept.refl _ | refine out_next ?_ | refine kept_ite ?_ ?_ | refine out_ite ?_ ?_ | refine py_ite ?_ ?_ | refine py_ok ?_
    | exact py_exc | refine (State.setFlow_kept ..).after ?_ | refine (State.pyRun_kept (hk := ?_) ..).after ?_ | dsimp only | intro _)

theorem execEndDrop_kept (g : Nat) (e : Nat) (t : Nat) (s : State) : OutKept s (execEndDrop g e t s) := by
  unfold execEndDrop
  with_reducible repeat' (first
    | exact Kept.refl _ | refine out_next ?_ | refine (State.pyEnd_kept ..).after ?_ | dsimp only)

theorem execShl_kept (g : Nat) (e : Nat) (t : Nat) (s : State) : OutKept s (execShl g e t s) := by
  unfold execShl
  with_reducible repeat' (first
    | exact Kept.refl _ | refine out_next ?_ | refine (State.pyAlu_kept ..).after ?_ | dsimp only)

theorem execAndi_kept (g : Nat) (e : Nat) (t : Nat) (s : State) : OutKept s (execAndi g e t s) := by
  unfold execAndi
  with_reducible repeat' (first
    | exact Kept.refl _ | refine out_next ?_ | refine (State.pyImm_kept ..).after ?_ | dsimp only)

theorem execGalleryMemoryFault_kept (g : Nat) (e : Nat) (t : Nat) (addr : Nat) (s : State) : OutKept s (execGalleryMemoryFault g e t addr s) := by
  unfold execGalleryMemoryFault
  with_reducible repeat' (first
    | exact Kept.refl _ | refine out_next ?_ | refine kept_ite ?_ ?_ | refine out_ite ?_ ?_ | refine (State.fault_kept ..).after ?_
    | refine (State.moveQueued_kept ..).after ?_ | refine (State.onFault_kept ..).after ?_ | refine (State.faultEvent_kept ..).after ?_
    | refine (State.dropRun_kept ..).after ?_ | refine (State.place_kept ..).after ?_ | refine (State.newCorr_kept ..).after ?_
    | refine (State.wr_kept ..).after ?_ | refine (State.stat_kept ..).after ?_ | refine (State.hwFinish_kept ..).after ?_
    | refine (State.retryDone_kept ..).after ?_ | refine (State.ctxLost_kept ..).after ?_ | refine (State.thrFault_kept ..).after ?_
    | refine (State.setGal_kept ..).after ?_ | refine pair_kept (by assumption) ?_ | dsimp only | split)

theorem execCsum_kept (g : Nat) (e : Nat) (t : Nat) (s : State) : OutKept s (execCsum g e t s) := by
  unfold execCsum
  with_reducible repeat' (first
    | exact Kept.refl _ | refine out_next ?_ | refine (State.pyAlu_kept ..).after ?_ | dsimp only)

theorem execRelease_kept (g : Nat) (e : Nat) (t : Nat) (s : State) : OutKept s (execRelease g e t s) := by
  unfold execRelease
  with_reducible repeat' (first
    | exact Kept.refl _ | refine out_next ?_ | refine kept_ite ?_ ?_ | refine out_ite ?_ ?_ | refine py_ite ?_ ?_ | refine py_ok ?_
    | refine py_stay ?_ | refine (State.setTs_kept ..).after ?_ | refine (State.pyThr_kept (hk := ?_) ..).after ?_
    | refine (State.finish_kept ..).after ?_ | refine (State.updThr_kept ..).after ?_ | refine each_kept ?_ (fun _ _ => ?_) | dsimp only
    | intro _)

theorem execJmp_kept (g : Nat) (e : Nat) (t : Nat) (s : State) : OutKept s (execJmp g e t s) := by
  unfold execJmp
  with_reducible repeat' (first
    | exact Kept.refl _ | refine out_next ?_ | refine py_jump ?_ | refine (State.pyRun_kept (hk := ?_) ..).after ?_ | dsimp only | intro _)

theorem execRestart_kept (g : Nat) (e : Nat) (t : Nat) (s : State) : OutKept s (execRestart g e t s) := by
  unfold execRestart
  with_reducible repeat' (first
    | exact Kept.refl _ | refine out_next ?_ | refine kept_ite ?_ ?_ | refine out_ite ?_ ?_ | refine py_ite ?_ ?_ | refine py_ok ?_
    | exact py_exc | refine (State.setTs_kept ..).after ?_ | refine (State.pyThr_kept (hk := ?_) ..).after ?_
    | refine (State.wr_kept ..).after ?_ | refine (State.updThr_kept ..).after ?_ | dsimp only | intro _)

theorem execAddi_kept (g : Nat) (e : Nat) (t : Nat) (s : State) : OutKept s (execAddi g e t s) := by
  unfold execAddi
  with_reducible repeat' (first
    | exact Kept.refl _ | refine out_next ?_ | refine (State.pyImm_kept ..).after ?_ | dsimp only)

theorem execMtsr_kept (g : Nat) (e : Nat) (t : Nat) (s : State) : OutKept s (execMtsr g e t s) := by
  unfold execMtsr
  with_reducible repeat' (first
    | exact Kept.refl _ | refine out_next ?_ | refine kept_ite ?_ ?_ | refine out_ite ?_ ?_ | refine py_ite ?_ ?_ | refine py_ok ?_
    | exact py_exc | refine (State.pyRun_kept (hk := ?_) ..).after ?_ | refine (State.wr_kept ..).after ?_
    | refine each_kept ?_ (fun _ _ => ?_) | dsimp only | intro _)

theorem execSub_kept (g : Nat) (e : Nat) (t : Nat) (s : State) : OutKept s (execSub g e t s) := by
  unfold execSub
  with_reducible repeat' (first
    | exact Kept.refl _ | refine out_next ?_ | refine (State.pyAlu_kept ..).after ?_ | dsimp only)

theorem execGetg_kept (g : Nat) (e : Nat) (t : Nat) (s : State) : OutKept s (execGetg g e t s) := by
  unfold execGetg
  with_reducible repeat' (first
    | exact Kept.refl _ | refine out_next ?_ | refine py_ok ?_ | refine (State.pyThr_kept (hk := ?_) ..).after ?_
    | refine (State.setGr_kept ..).after ?_ | dsimp only | intro _)

theorem execClz_kept (g : Nat) (e : Nat) (t : Nat) (s : State) : OutKept s (execClz g e t s) := by
  unfold execClz
  with_reducible repeat' (first
    | exact Kept.refl _ | refine out_next ?_ | refine (State.pyAlu_kept ..).after ?_ | dsimp only)

theorem execOri_kept (g : Nat) (e : Nat) (t : Nat) (s : State) : OutKept s (execOri g e t s) := by
  unfold execOri
  with_reducible repeat' (first
    | exact Kept.refl _ | refine out_next ?_ | refine (State.pyImm_kept ..).after ?_ | dsimp only)

theorem execRets_kept (g : Nat) (e : Nat) (t : Nat) (s : State) : OutKept s (execRets g e t s) := by
  unfold execRets
  with_reducible repeat' (first
    | exact Kept.refl _ | refine out_next ?_ | refine kept_ite ?_ ?_ | refine out_ite ?_ ?_ | refine py_ite ?_ ?_ | refine py_stay ?_
    | exact py_exc | refine (State.setTs_kept ..).after ?_ | refine (State.setThr_kept ..).after ?_
    | refine (State.pyThr_kept (hk := ?_) ..).after ?_ | refine (State.wr_kept ..).after ?_ | refine (State.setPc_kept ..).after ?_
    | dsimp only | intro _)

theorem execFlook_kept (g : Nat) (e : Nat) (t : Nat) (s : State) : OutKept s (execFlook g e t s) := by
  unfold execFlook
  with_reducible repeat' (first
    | exact Kept.refl _ | refine out_next ?_ | refine py_ok ?_ | exact py_exc | refine (State.cacheFill_kept ..).after ?_
    | refine (State.pyRun_kept (hk := ?_) ..).after ?_ | refine (State.later_kept ..).after ?_ | dsimp only | intro _ | split)

theorem execLd16_kept (g : Nat) (e : Nat) (t : Nat) (s : State) : OutKept s (execLd16 g e t s) := by
  unfold execLd16
  with_reducible repeat' (first
    | exact Kept.refl _ | refine out_next ?_ | refine (State.pyLoad_kept ..).after ?_ | dsimp only)

theorem execPutg_kept (g : Nat) (e : Nat) (t : Nat) (s : State) : OutKept s (execPutg g e t s) := by
  unfold execPutg
  with_reducible repeat' (first
    | exact Kept.refl _ | refine out_next ?_ | refine kept_ite ?_ ?_ | refine out_ite ?_ ?_ | refine py_ite ?_ ?_ | refine py_ok ?_
    | exact py_exc | refine (State.pyThr_kept (hk := ?_) ..).after ?_ | refine (State.setGr_kept ..).after ?_ | dsimp only | intro _)

theorem execRet_kept (g : Nat) (e : Nat) (t : Nat) (s : State) : OutKept s (execRet g e t s) := by
  unfold execRet
  with_reducible repeat' (first
    | exact Kept.refl _ | refine out_next ?_ | refine py_jump ?_ | exact py_exc | refine (State.pyRun_kept (hk := ?_) ..).after ?_
    | refine (State.updThr_kept ..).after ?_ | dsimp only | intro _ | split)

theorem execStbe_kept (g : Nat) (e : Nat) (t : Nat) (s : State) : OutKept s (execStbe g e t s) := by
  unfold execStbe
  with_reducible repeat' (first
    | exact Kept.refl _ | refine out_next ?_ | refine (State.pyStore_kept ..).after ?_ | dsimp only)

theorem execCtradd_kept (g : Nat) (e : Nat) (t : Nat) (s : State) : OutKept s (execCtradd g e t s) := by
  unfold execCtradd
  with_reducible repeat' (first
    | exact Kept.refl _ | refine out_next ?_ | refine kept_ite ?_ ?_ | refine out_ite ?_ ?_ | refine py_ite ?_ ?_ | refine py_ok ?_
    | exact py_exc | refine (State.pyRun_kept (hk := ?_) ..).after ?_ | refine (State.ctrAdd_kept ..).after ?_ | dsimp only | intro _)

theorem execClrev_kept (g : Nat) (e : Nat) (t : Nat) (s : State) : OutKept s (execClrev g e t s) := by
  unfold execClrev
  with_reducible repeat' (first
    | exact Kept.refl _ | refine out_next ?_ | refine py_ok ?_ | refine (State.clearEvents_kept ..).after ?_
    | refine (State.pyRun_kept (hk := ?_) ..).after ?_ | dsimp only | intro _)

end Sys2Proof.Machine
end

