-- ==== Sys2Proof/Laws/KeptStorage.lean ====
section
/-! SUPPORT. Laws/KeptStorage.lean: what the operations of crypto lanes, storage and keys leave alone, and how memories, outputs and free values go on
(Kept), one lemma for each operation. -/

namespace Sys2Proof.Machine

open Sys2Proof

set_option linter.unusedVariables false
set_option linter.unreachableTactic false
set_option linter.unusedTactic false
set_option cleanup.letToHave false

theorem State.exhaust_kept (s : State) (n : Nat) : Kept s (State.exhaust s n) := by
  unfold State.exhaust
  with_reducible repeat' (first
    | exact Kept.refl _ | refine kept_ite ?_ ?_ | refine (State.eventOwner_kept ..).after ?_ | refine (State.wr_kept ..).after ?_
    | refine (State.raise_kept ..).after ?_ | refine (State.setCx_kept ..).after ?_ | dsimp only)

theorem State.account_kept (s : State) (n : Nat) (len : Nat) : Kept s (State.account s n len) := by
  unfold State.account
  with_reducible repeat' (first
    | exact Kept.refl _ | refine kept_ite ?_ ?_ | refine (State.exhaust_kept ..).after ?_ | refine (State.setCx_kept ..).after ?_
    | dsimp only)

theorem State.sessPortRead_kept (s : State) (a : Nat) (index : Nat) (part : Nat) : Kept s (State.sessPortRead s a index part) := by
  unfold State.sessPortRead
  with_reducible repeat' (first
    | exact Kept.refl _ | refine kept_ite ?_ ?_ | refine (State.wrB_kept ..).after ?_ | refine (State.wr_kept ..).after ?_ | dsimp only)

theorem State.setEff_kept (s : State) (p : Nat) : Kept s (State.setEff s p) := by
  unfold State.setEff
  with_reducible repeat' (first
    | exact Kept.refl _ | refine (State.setPf_kept ..).after ?_ | dsimp only)

theorem State.stoTcpCfg_kept (s : State) (v : Word) : Kept s (State.stoTcpCfg s v) := by
  unfold State.stoTcpCfg
  with_reducible repeat' (first
    | exact Kept.refl _ | refine (State.setReg_kept ..).after ?_ | refine (State.setEff_kept ..).after ?_
    | refine each_kept ?_ (fun _ _ => ?_) | dsimp only | intro _)

theorem State.stoCtxRead_kept (s : State) (a : Nat) (table : Nat) (index : Nat) (part : Nat) : Kept s (State.stoCtxRead s a table index part) := by
  unfold State.stoCtxRead
  with_reducible repeat' (first
    | exact Kept.refl _ | refine kept_ite ?_ ?_ | refine (State.wrB_kept ..).after ?_ | refine (State.setReg_kept ..).after ?_
    | refine (State.fresh_kept ..).after ?_ | refine (State.wr_kept ..).after ?_ | refine each_kept ?_ (fun _ _ => ?_)
    | refine pair_kept (by assumption) ?_ | dsimp only | intro _ | split)

theorem State.softCheck_kept (s : State) (n : Nat) (seq : Nat) : Kept s (State.softCheck s n seq) := by
  unfold State.softCheck
  with_reducible repeat' (first
    | exact Kept.refl _ | refine kept_ite ?_ ?_ | refine (State.eventOwner_kept ..).after ?_ | refine (State.raise_kept ..).after ?_
    | refine (State.setCx_kept ..).after ?_ | dsimp only)

theorem State.assignSeq_kept (s : State) (n : Nat) : Kept s (State.assignSeq s n).2 := by
  unfold State.assignSeq
  with_reducible repeat' (first
    | exact Kept.refl _ | refine kept_ite ?_ ?_ | refine (State.softCheck_kept ..).after ?_ | refine (State.exhaust_kept ..).after ?_
    | refine (State.setCx_kept ..).after ?_ | dsimp only | split)

theorem State.badDb_kept (s : State) : Kept s (State.badDb s) := by
  unfold State.badDb
  with_reducible repeat' (first
    | exact Kept.refl _ | refine (State.err_kept ..).after ?_ | dsimp only)

theorem State.blkDone_kept (s : State) (f : Nat) (n : Nat) (r : BlkReq) (status : Nat) (written : Nat) : Kept s (State.blkDone s f n r status written) := by
  unfold State.blkDone
  with_reducible repeat' (first
    | exact Kept.refl _ | refine kept_ite ?_ ?_ | refine (State.hostWrite_kept ..).after ?_ | refine (State.vqUsed_kept ..).after ?_
    | dsimp only)

theorem State.blk_kept (s : State) (f : Nat) (n : Nat) (type : Nat) (k : State → BlkReq → State) (hk : ∀ x0 x1, Kept x0 (k x0 x1)) : Kept s (State.blk s f n type k) := by
  unfold State.blk
  with_reducible repeat' (first
    | exact Kept.refl _ | refine kept_ite ?_ ?_ | refine (hk ..).after ?_ | exact hk .. | refine (State.vqTake_kept ..).after ?_
    | refine (State.stat_kept ..).after ?_ | refine (State.blkDone_kept ..).after ?_ | dsimp only | split)

theorem State.stoSend_kept (s : State) (ctx : Nat) (port : Nat) (q : Nat) (tc : Nat) (payload : List Byte) : Kept s (State.stoSend s ctx port q tc payload) := by
  unfold State.stoSend
  with_reducible repeat' (first
    | exact Kept.refl _ | refine (State.fresh_kept ..).after ?_ | refine (State.pushTm_kept ..).after ?_
    | refine (State.newPkt_kept ..).after ?_ | refine pair_kept (by assumption) ?_ | dsimp only | split)

theorem State.tcpSeg_kept (s : State) (c : Nat) (l : List Byte) : Kept s (State.tcpSeg s c l) := by
  unfold State.tcpSeg
  with_reducible repeat' (first
    | exact Kept.refl _ | refine (State.stoSend_kept ..).after ?_ | dsimp only)

theorem State.tcpSend_kept (s : State) (c : Nat) (l : List Byte) : Kept s (State.tcpSend s c l) := by
  unfold State.tcpSend
  with_reducible repeat' (first
    | exact Kept.refl _ | refine (State.setConn_kept ..).after ?_ | refine (State.tcpSeg_kept ..).after ?_
    | refine each_kept ?_ (fun _ _ => ?_) | dsimp only | intro _)

theorem State.qpEmit_kept (s : State) (q : Nat) (l : List Byte) : Kept s (State.qpEmit s q l) := by
  unfold State.qpEmit
  with_reducible repeat' (first
    | exact Kept.refl _ | refine kept_ite ?_ ?_ | refine (State.setQp_kept ..).after ?_ | refine (State.stoSend_kept ..).after ?_
    | dsimp only)

theorem State.qpSend_kept (s : State) (q : Nat) (l : List Byte) : Kept s (State.qpSend s q l) := by
  unfold State.qpSend
  with_reducible repeat' (first
    | exact Kept.refl _ | refine kept_ite ?_ ?_ | refine (State.qpEmit_kept ..).after ?_ | refine (State.setQp_kept ..).after ?_
    | refine each_kept ?_ (fun _ _ => ?_) | dsimp only | intro _)

theorem State.capSend_kept (s : State) (c : Nat) (l : List Byte) : Kept s (State.capSend s c l) := by
  unfold State.capSend
  with_reducible repeat' (first
    | exact Kept.refl _ | refine kept_ite ?_ ?_ | refine (State.tcpSend_kept ..).after ?_ | refine (State.qpSend_kept ..).after ?_
    | dsimp only)

theorem State.capsule_kept (s : State) (c : Nat) (e : List Byte) (data : List Byte) : Kept s (State.capsule s c e data) := by
  unfold State.capsule
  with_reducible repeat' (first
    | exact Kept.refl _ | refine kept_ite ?_ ?_ | refine (State.tcpSend_kept ..).after ?_ | refine (State.qpSend_kept ..).after ?_
    | dsimp only)

theorem State.cqPut_kept (s : State) (f : Nat) (cq : Nat) (body : Nat) : Kept s (State.cqPut s f cq body) := by
  unfold State.cqPut
  with_reducible repeat' (first
    | exact Kept.refl _ | refine kept_ite ?_ ?_ | refine (State.updQue_kept ..).after ?_ | refine (State.sendInt_kept ..).after ?_
    | refine (State.hostWrite_kept ..).after ?_ | dsimp only)

theorem State.setCtrl_kept (s : State) (n : Nat) (x : Ctrl) : Kept s (State.setCtrl s n x) := by
  unfold State.setCtrl
  with_reducible repeat' (first
    | exact Kept.refl _ | fail_if_no_progress refine kept_mk (by rfl) (by rfl) ?_ | dsimp only)

theorem State.nvmeDone_kept (s : State) (f : Nat) (q : Nat) (cid : Nat) (sct : Nat) (sc : Nat) (dnr : Nat) (dw0 : Nat) : Kept s (State.nvmeDone s f q cid sct sc dnr dw0) := by
  unfold State.nvmeDone
  with_reducible repeat' (first
    | exact Kept.refl _ | refine kept_ite ?_ ?_ | refine (State.cqPut_kept ..).after ?_ | refine (State.setCtrl_kept ..).after ?_
    | dsimp only | split)

theorem State.dropCmd_kept (s : State) (c : StoCmd) : Kept s (State.dropCmd s c) := by
  unfold State.dropCmd
  with_reducible repeat' (first
    | exact Kept.refl _ | fail_if_no_progress refine kept_mk (by rfl) (by rfl) ?_ | dsimp only)

theorem State.cmdDone_kept (s : State) (c : StoCmd) (sct : Nat) (sc : Nat) (dnr : Nat) (written : Nat) : Kept s (State.cmdDone s c sct sc dnr written) := by
  unfold State.cmdDone
  with_reducible repeat' (first
    | exact Kept.refl _ | refine kept_ite ?_ ?_ | refine (State.nvmeDone_kept ..).after ?_ | refine (State.dropCmd_kept ..).after ?_
    | refine (State.hostWrite_kept ..).after ?_ | refine (State.vqUsed_kept ..).after ?_ | dsimp only)

theorem State.qpReply_kept (s : State) (q : Nat) (l : List Byte) : Kept s (State.qpReply s q l) := by
  unfold State.qpReply
  with_reducible repeat' (first
    | exact Kept.refl _ | refine (State.stoSend_kept ..).after ?_ | dsimp only)

theorem State.cnpTx_kept (s : State) (q : Nat) : Kept s (State.cnpTx s q) := by
  unfold State.cnpTx
  with_reducible repeat' (first
    | exact Kept.refl _ | refine kept_ite ?_ ?_ | refine (State.setQp_kept ..).after ?_ | refine (State.qpReply_kept ..).after ?_
    | refine (State.stat_kept ..).after ?_ | dsimp only | split)

theorem State.setPathUp_kept (s : State) (p : Nat) (b : Bool) : Kept s (State.setPathUp s p b) := by
  unfold State.setPathUp
  with_reducible repeat' (first
    | exact Kept.refl _ | refine (State.wr_kept ..).after ?_ | refine (State.setPf_kept ..).after ?_ | dsimp only)

theorem State.connOpen_kept (s : State) (c : Nat) : Kept s (State.connOpen s c) := by
  unfold State.connOpen
  with_reducible repeat' (first
    | exact Kept.refl _ | refine kept_ite ?_ ?_ | refine (State.setConn_kept ..).after ?_ | refine (State.tcpSeg_kept ..).after ?_
    | dsimp only)

theorem State.updCmd_kept (s : State) (c : StoCmd) : Kept s (State.updCmd s c) := by
  unfold State.updCmd
  with_reducible repeat' (first
    | exact Kept.refl _ | fail_if_no_progress refine kept_mk (by rfl) (by rfl) ?_ | refine kept_ite ?_ ?_ | dsimp only)

theorem State.stoFault_kept (s : State) (c : StoCmd) (ok : Bool) : Kept s (State.stoFault s c ok) := by
  unfold State.stoFault
  with_reducible repeat' (first
    | exact Kept.refl _ | refine kept_ite ?_ ?_ | refine (State.fault_kept ..).after ?_ | dsimp only)

theorem State.stoFail_kept (s : State) (c : StoCmd) : Kept s (State.stoFail s c) := by
  unfold State.stoFail
  with_reducible repeat' (first
    | exact Kept.refl _ | refine (State.cmdDone_kept ..).after ?_ | refine (State.stoFault_kept ..).after ?_ | dsimp only)

theorem State.reissue_kept (s : State) (c : StoCmd) (lost : Bool) (retrans : Nat) : Kept s (State.reissue s c lost retrans) := by
  unfold State.reissue
  with_reducible repeat' (first
    | exact Kept.refl _ | refine kept_ite ?_ ?_ | refine (State.updCmd_kept ..).after ?_ | refine (State.newCorr_kept ..).after ?_
    | refine (State.stoFail_kept ..).after ?_ | refine (State.stat_kept ..).after ?_ | refine pair_kept (by assumption) ?_ | dsimp only
    | split)

theorem State.sendConnect_kept (s : State) (c : Nat) : Kept s (State.sendConnect s c) := by
  unfold State.sendConnect
  with_reducible repeat' (first
    | exact Kept.refl _ | refine (State.capsule_kept ..).after ?_ | refine (State.setConn_kept ..).after ?_ | dsimp only)

theorem State.tryConnect_kept (s : State) (c : Nat) : Kept s (State.tryConnect s c) := by
  unfold State.tryConnect
  with_reducible repeat' (first
    | exact Kept.refl _ | refine kept_ite ?_ ?_ | refine (State.sendConnect_kept ..).after ?_ | dsimp only)

theorem State.connLost_kept (s : State) (k : Nat) : Kept s (State.connLost s k) := by
  unfold State.connLost
  with_reducible repeat' (first
    | exact Kept.refl _ | refine kept_ite ?_ ?_ | refine (State.setPathUp_kept ..).after ?_ | refine (State.setConn_kept ..).after ?_
    | refine (State.connOpen_kept ..).after ?_ | refine (State.reissue_kept ..).after ?_ | refine (State.tryConnect_kept ..).after ?_
    | refine (State.raise_kept ..).after ?_ | refine each_kept ?_ (fun _ _ => ?_) | dsimp only | intro _)

theorem State.cqFlush_kept (s : State) (f : Nat) (q : Nat) (y3 : Nat) : Kept s (State.cqFlush s f q y3) := by
  induction y3 generalizing s f q with
  | zero =>
    unfold State.cqFlush
    with_reducible repeat' (first
      | exact Kept.refl _ | refine kept_ite ?_ ?_ | refine (State.cqPut_kept ..).after ?_ | refine (State.setCtrl_kept ..).after ?_
      | dsimp only | split)
  | succ n ih =>
    unfold State.cqFlush
    with_reducible repeat' (first
      | exact Kept.refl _ | refine kept_ite ?_ ?_ | refine (ih ..).after ?_ | refine (State.cqPut_kept ..).after ?_
      | refine (State.setCtrl_kept ..).after ?_ | dsimp only | split)

theorem State.cryDrop_kept (s : State) (w : CryWork) : Kept s (State.cryDrop s w) := by
  unfold State.cryDrop
  with_reducible repeat' (first
    | exact Kept.refl _ | refine kept_ite ?_ ?_ | refine (State.pktGone_kept ..).after ?_ | refine (State.txDropped_kept ..).after ?_
    | dsimp only)

theorem State.cryDropCnt_kept (s : State) (w : CryWork) (off : Nat) : Kept s (State.cryDropCnt s w off) := by
  unfold State.cryDropCnt
  with_reducible repeat' (first
    | exact Kept.refl _ | refine (State.err_kept ..).after ?_ | refine (State.cryDrop_kept ..).after ?_ | dsimp only)

theorem State.cryOff_kept (s : State) (id : Nat) : Kept s (State.cryOff s id) := by
  unfold State.cryOff
  with_reducible repeat' (first
    | exact Kept.refl _ | fail_if_no_progress refine kept_mk (by rfl) (by rfl) ?_ | dsimp only)

theorem State.cryPass_kept (s : State) (w : CryWork) (p : Pkt) : Kept s (State.cryPass s w p) := by
  unfold State.cryPass
  with_reducible repeat' (first
    | exact Kept.refl _ | refine kept_ite ?_ ?_ | refine (State.route_kept ..).after ?_ | refine (State.pushTm_kept ..).after ?_
    | refine (State.toTm_kept ..).after ?_ | refine (State.deliver_kept ..).after ?_ | dsimp only)

theorem State.retireSession_kept (s : State) (n : Nat) : Kept s (State.retireSession s n) := by
  unfold State.retireSession
  with_reducible repeat' (first
    | exact Kept.refl _ | fail_if_no_progress refine kept_mk (by rfl) (by rfl) ?_ | dsimp only)

theorem State.cryReset_kept (s : State) (f : Nat) : Kept s (State.cryReset s f) := by
  unfold State.cryReset
  with_reducible repeat' (first
    | exact Kept.refl _ | refine (State.retireSession_kept ..).after ?_ | refine (State.setCx_kept ..).after ?_
    | refine each_kept ?_ (fun _ _ => ?_) | dsimp only | intro _)

theorem State.cryRun_kept (s : State) (id : Nat) (kind : Nat) (k : State → CryWork → Nat → State) (hk : ∀ x0 x1 x2, Kept x0 (k x0 x1 x2)) : Kept s (State.cryRun s id kind k) := by
  unfold State.cryRun
  with_reducible repeat' (first
    | exact Kept.refl _ | refine kept_ite ?_ ?_ | refine (hk ..).after ?_ | exact hk .. | refine (State.cryOff_kept ..).after ?_
    | refine (State.cryDropCnt_kept ..).after ?_ | refine (State.cryPass_kept ..).after ?_ | dsimp only | split)

theorem State.cxStick_kept (s : State) (n : Nat) (f : Nat × Nat) : Kept s (State.cxStick s n f) := by
  unfold State.cxStick
  with_reducible repeat' (first
    | exact Kept.refl _ | refine kept_ite ?_ ?_ | refine (State.raise_kept ..).after ?_ | refine (State.setCx_kept ..).after ?_
    | dsimp only)

theorem State.doorbell_kept (s : State) (f : Nat) (gen : Nat) (hi : Nat) (setup : Bool) (there : Bool) (off : Bool) (inRange : Bool) (k : State → State) (hk : ∀ x0, Kept x0 (k x0)) : Kept s (State.doorbell s f gen hi setup there off inRange k) := by
  unfold State.doorbell
  with_reducible repeat' (first
    | exact Kept.refl _ | refine kept_ite ?_ ?_ | refine (hk ..).after ?_ | exact hk .. | refine (State.err_kept ..).after ?_
    | refine (State.barRefuse_kept ..).after ?_ | refine (State.badDb_kept ..).after ?_ | dsimp only)

theorem State.dbQueue_kept (s : State) (f : Nat) (k : Nat) (q : Nat) (idx : Nat) (gen : Nat) (hi : Nat) : Kept s (State.dbQueue s f k q idx gen hi) := by
  unfold State.dbQueue
  with_reducible repeat' (first
    | exact Kept.refl _ | refine kept_ite ?_ ?_ | refine (State.doorbell_kept (hk := ?_) ..).after ?_
    | refine (State.updQue_kept ..).after ?_ | refine (State.askEntries_kept ..).after ?_ | dsimp only | intro _)

theorem State.dptrFail_kept (s : State) (f : Nat) (q : Nat) (cid : Nat) (code : Nat) : Kept s (State.dptrFail s f q cid code) := by
  unfold State.dptrFail
  with_reducible repeat' (first
    | exact Kept.refl _ | refine kept_ite ?_ ?_ | refine (State.err_kept ..).after ?_ | refine (State.nvmeDone_kept ..).after ?_
    | dsimp only)

theorem State.moderate_kept (s : State) (f : Nat) : Kept s (State.moderate s f) := by
  unfold State.moderate
  with_reducible repeat' (first
    | exact Kept.refl _ | refine kept_ite ?_ ?_ | refine (State.sendInt_kept ..).after ?_ | refine (State.setFunc_kept ..).after ?_
    | refine each_kept ?_ (fun _ _ => ?_) | dsimp only | intro _ | split)

theorem State.qpDrain_kept (s : State) (q : Nat) (y2 : Nat) : Kept s (State.qpDrain s q y2) := by
  induction y2 generalizing s q with
  | zero =>
    unfold State.qpDrain
    with_reducible repeat' (first
      | exact Kept.refl _ | refine kept_ite ?_ ?_ | refine (State.qpEmit_kept ..).after ?_ | refine (State.setQp_kept ..).after ?_
      | dsimp only | split)
  | succ n ih =>
    unfold State.qpDrain
    with_reducible repeat' (first
      | exact Kept.refl _ | refine kept_ite ?_ ?_ | refine (ih ..).after ?_ | refine (State.qpEmit_kept ..).after ?_
      | refine (State.setQp_kept ..).after ?_ | dsimp only | split)

theorem State.qpRefill_kept (s : State) : Kept s (State.qpRefill s) := by
  unfold State.qpRefill
  with_reducible repeat' (first
    | exact Kept.refl _ | refine (State.setQp_kept ..).after ?_ | refine (State.qpDrain_kept ..).after ?_
    | refine each_kept ?_ (fun _ _ => ?_) | dsimp only | intro _)

theorem State.dropQue_kept (s : State) (f : Nat) (k : Nat) (q : Nat) : Kept s (State.dropQue s f k q) := by
  unfold State.dropQue
  with_reducible repeat' (first
    | exact Kept.refl _ | refine (State.updFunc_kept ..).after ?_ | dsimp only)

theorem State.envelope_kept (s : State) (f : Nat) (addr : Nat) (kinds : List Nat) (own : Nat → Bool) (done : State → List Byte → Nat → State) (hk : ∀ x0 x1 x2, Kept x0 (done x0 x1 x2)) : Kept s (State.envelope s f addr kinds own done) := by
  unfold State.envelope
  with_reducible repeat' (first
    | exact Kept.refl _ | refine kept_ite ?_ ?_ | refine (hk ..).after ?_ | exact hk .. | refine (State.err_kept ..).after ?_
    | refine (State.admDone_kept ..).after ?_ | dsimp only | split)

theorem State.inboundDone_kept (s : State) (n : Nat) (w : CryWork) (p : Pkt) : Kept s (State.inboundDone s n w p) := by
  unfold State.inboundDone
  with_reducible repeat' (first
    | exact Kept.refl _ | refine kept_ite ?_ ?_ | refine (State.toParse_kept ..).after ?_ | refine (State.cryPass_kept ..).after ?_
    | dsimp only)

theorem State.espStrip_kept (s : State) (n : Nat) (w : CryWork) (o : Nat) (e : Nat) (v6 : Bool) (pt : List Byte) : Kept s (State.espStrip s n w o e v6 pt) := by
  unfold State.espStrip
  with_reducible repeat' (first
    | exact Kept.refl _ | refine kept_ite ?_ ?_ | refine (State.inboundDone_kept ..).after ?_ | refine (State.cryDropCnt_kept ..).after ?_
    | dsimp only)

theorem State.espIn_kept (s : State) (w : CryWork) (n : Nat) : Kept s (State.espIn s w n) := by
  unfold State.espIn
  with_reducible repeat' (first
    | exact Kept.refl _ | fail_if_no_progress refine kept_mk (by rfl) (by rfl) ?_ | refine kept_ite ?_ ?_
    | refine (State.espStrip_kept ..).after ?_ | refine (State.cxStick_kept ..).after ?_ | refine (State.softCheck_kept ..).after ?_
    | refine (State.cryDropCnt_kept ..).after ?_ | refine (State.stat_kept ..).after ?_ | refine (State.setCx_kept ..).after ?_
    | refine (State.account_kept ..).after ?_ | dsimp only | split)

theorem State.espOut_kept (s : State) (w : CryWork) (n : Nat) : Kept s (State.espOut s w n) := by
  unfold State.espOut
  with_reducible repeat' (first
    | exact Kept.refl _ | refine kept_ite ?_ ?_ | refine (State.assignSeq_kept ..).after ?_ | refine (State.cryDropCnt_kept ..).after ?_
    | refine (State.stat_kept ..).after ?_ | refine (State.cryPass_kept ..).after ?_ | refine (State.account_kept ..).after ?_
    | refine pair_kept (by assumption) ?_ | dsimp only | split)

theorem State.eventLost_kept (s : State) (f : Nat) : Kept s (State.eventLost s f) := by
  unfold State.eventLost
  with_reducible repeat' (first
    | exact Kept.refl _ | refine kept_ite ?_ ?_ | refine (State.setFunc_kept ..).after ?_ | refine (State.event_kept ..).after ?_
    | dsimp only)

theorem State.goBack_kept (s : State) (q : Nat) : Kept s (State.goBack s q) := by
  unfold State.goBack
  with_reducible repeat' (first
    | exact Kept.refl _ | refine (State.qpEmit_kept ..).after ?_ | refine each_kept ?_ (fun _ _ => ?_) | dsimp only | intro _)

theorem State.h2cData_kept (s : State) (k : Nat) (tag : Nat) (ttag : Nat) (off : Nat) (l : List Byte) : Kept s (State.h2cData s k tag ttag off l) := by
  unfold State.h2cData
  with_reducible repeat' (first
    | exact Kept.refl _ | refine kept_ite ?_ ?_ | refine (State.tcpSend_kept ..).after ?_ | refine foldl_kept ?_ (fun _ _ => ?_)
    | dsimp only | split)

theorem State.installKey_kept (s : State) (kind : Nat) (target : Nat) (key : Nat) : Kept s (State.installKey s kind target key) := by
  unfold State.installKey
  with_reducible repeat' (first
    | exact Kept.refl _ | fail_if_no_progress refine kept_mk (by rfl) (by first | rfl | simp only [Grotto.fix]) ?_ | refine kept_ite ?_ ?_
    | refine (State.setNf_kept ..).after ?_ | refine (State.setCx_kept ..).after ?_ | dsimp only)

theorem State.sqTake_kept (s : State) (f : Nat) (q : Nat) : Kept s (State.sqTake s f q) := by
  unfold State.sqTake
  with_reducible repeat' (first
    | exact Kept.refl _ | refine (State.updQue_kept ..).after ?_ | refine (State.stat_kept ..).after ?_ | dsimp only)

theorem State.nvme_kept (s : State) (f : Nat) (q : Nat) (op : Nat) (k : State → List Byte → Nat → State) (hk : ∀ x0 x1 x2, Kept x0 (k x0 x1 x2)) : Kept s (State.nvme s f q op k) := by
  unfold State.nvme
  with_reducible repeat' (first
    | exact Kept.refl _ | refine kept_ite ?_ ?_ | refine (hk ..).after ?_ | exact hk .. | refine (State.nvmeDone_kept ..).after ?_
    | refine (State.sqTake_kept ..).after ?_ | dsimp only | split)

theorem State.scatter_kept (s : State) (a : Nat) (y2 : List (Nat × Nat)) (y3 : List Byte) : Kept s (State.scatter s a y2 y3) := by
  induction y2 generalizing s a y3 with
  | nil =>
    unfold State.scatter
    with_reducible repeat' (first
      | exact Kept.refl _ | refine (State.hostWrite_kept ..).after ?_ | dsimp only | split)
  | cons a l ih =>
    unfold State.scatter
    with_reducible repeat' (first
      | exact Kept.refl _ | refine (ih ..).after ?_ | refine (State.hostWrite_kept ..).after ?_ | dsimp only | split)

theorem State.nvmeData_kept (s : State) (f : Nat) (cid : Nat) (e : List Byte) (d : List Byte) : Kept s (State.nvmeData s f cid e d) := by
  unfold State.nvmeData
  with_reducible repeat' (first
    | exact Kept.refl _ | refine (State.nvmeDone_kept ..).after ?_ | refine (State.dptrFail_kept ..).after ?_
    | refine (State.scatter_kept ..).after ?_ | dsimp only | split)

theorem State.nvmeEvent_kept (s : State) (f : Nat) (v : Nat) : Kept s (State.nvmeEvent s f v) := by
  unfold State.nvmeEvent
  with_reducible repeat' (first
    | exact Kept.refl _ | refine (State.nvmeDone_kept ..).after ?_ | refine (State.setCtrl_kept ..).after ?_ | dsimp only | split)

theorem State.nvmeRefuse_kept (s : State) (f : Nat) (q : Nat) (cid : Nat) (code : Nat) : Kept s (State.nvmeRefuse s f q cid code) := by
  unfold State.nvmeRefuse
  with_reducible repeat' (first
    | exact Kept.refl _ | refine kept_ite ?_ ?_ | refine (State.err_kept ..).after ?_ | refine (State.nvmeDone_kept ..).after ?_
    | dsimp only)

theorem State.tcpTerm_kept (s : State) (k : Nat) (fes : Nat) (count : Bool) : Kept s (State.tcpTerm s k fes count) := by
  unfold State.tcpTerm
  with_reducible repeat' (first
    | exact Kept.refl _ | refine kept_ite ?_ ?_ | refine (State.err_kept ..).after ?_ | refine (State.tcpSend_kept ..).after ?_
    | refine (State.connLost_kept ..).after ?_ | refine (State.setConn_kept ..).after ?_ | dsimp only)

theorem State.pduRx_kept (s : State) (k : Nat) (b : List Byte) : Kept s (State.pduRx s k b).1 := by
  unfold State.pduRx
  simp only [apply_ite Prod.fst]
  with_reducible repeat' (first
    | exact Kept.refl _ | refine kept_ite ?_ ?_ | refine (State.connLost_kept ..).after ?_ | refine (State.tcpTerm_kept ..).after ?_
    | refine (State.setConn_kept ..).after ?_ | refine (State.h2cData_kept ..).after ?_ | refine (State.reissue_kept ..).after ?_
    | refine (State.err_kept ..).after ?_ | refine (State.updCmd_kept ..).after ?_ | dsimp only | split)

theorem State.pdus_kept (s : State) (k : Nat) (y2 : Nat) : Kept s (State.pdus s k y2) := by
  induction y2 generalizing s k with
  | zero =>
    unfold State.pdus
    with_reducible repeat' (first
      | exact Kept.refl _ | refine kept_ite ?_ ?_ | refine (State.pduRx_kept ..).after ?_ | refine (State.setConn_kept ..).after ?_
      | refine (State.tcpTerm_kept ..).after ?_ | refine pair_kept1 (by assumption) ?_ | dsimp only | split)
  | succ n ih =>
    unfold State.pdus
    with_reducible repeat' (first
      | exact Kept.refl _ | refine kept_ite ?_ ?_ | refine (ih ..).after ?_ | refine (State.pduRx_kept ..).after ?_
      | refine (State.setConn_kept ..).after ?_ | refine (State.tcpTerm_kept ..).after ?_ | refine pair_kept1 (by assumption) ?_
      | dsimp only | split)

theorem State.qpAck_kept (s : State) (q : Nat) (psn : Nat) (syn : Nat) : Kept s (State.qpAck s q psn syn) := by
  unfold State.qpAck
  with_reducible repeat' (first
    | exact Kept.refl _ | refine (State.qpReply_kept ..).after ?_ | dsimp only)

theorem State.qpNak_kept (s : State) (q : Nat) (syn : Nat) : Kept s (State.qpNak s q syn) := by
  unfold State.qpNak
  with_reducible repeat' (first
    | exact Kept.refl _ | refine (State.err_kept ..).after ?_ | refine (State.qpAck_kept ..).after ?_ | dsimp only)

theorem State.qpAccess_kept (s : State) (q : Nat) : Kept s (State.qpAccess s q) := by
  unfold State.qpAccess
  with_reducible repeat' (first
    | exact Kept.refl _ | refine kept_ite ?_ ?_ | refine (State.connLost_kept ..).after ?_ | refine (State.qpNak_kept ..).after ?_
    | refine (State.setQp_kept ..).after ?_ | dsimp only)

theorem State.qpLost_kept (s : State) (q : Nat) : Kept s (State.qpLost s q) := by
  unfold State.qpLost
  with_reducible repeat' (first
    | exact Kept.refl _ | refine kept_ite ?_ ?_ | refine (State.connLost_kept ..).after ?_ | refine (State.setQp_kept ..).after ?_
    | dsimp only)

theorem State.qpAcked_kept (s : State) (q : Nat) (psn : Nat) (syn : Nat) : Kept s (State.qpAcked s q psn syn) := by
  unfold State.qpAcked
  with_reducible repeat' (first
    | exact Kept.refl _ | refine kept_ite ?_ ?_ | refine (State.qpLost_kept ..).after ?_ | refine (State.setQp_kept ..).after ?_
    | refine (State.goBack_kept ..).after ?_ | dsimp only)

theorem State.qpMessage_kept (s : State) (q : Nat) (l : List Byte) (imm : Option Nat) : Kept s (State.qpMessage s q l imm) := by
  unfold State.qpMessage
  with_reducible repeat' (first
    | exact Kept.refl _ | refine kept_ite ?_ ?_ | refine (State.setConn_kept ..).after ?_ | refine (State.setQp_kept ..).after ?_
    | dsimp only)

theorem State.readResp_kept (s : State) (q : Nat) (psn : Nat) (l : List Byte) : Kept s (State.readResp s q psn l) := by
  unfold State.readResp
  with_reducible repeat' (first
    | exact Kept.refl _ | refine kept_ite ?_ ?_ | refine (State.qpReply_kept ..).after ?_ | refine each_kept ?_ (fun _ _ => ?_)
    | dsimp only | intro _)

theorem State.regionWrite_kept (s : State) (r : Region) (va : Nat) (d : List Byte) : Kept s (State.regionWrite s r va d) := by
  unfold State.regionWrite
  with_reducible repeat' (first
    | exact Kept.refl _ | fail_if_no_progress refine kept_mk (by rfl) (by rfl) ?_ | refine kept_ite ?_ ?_
    | refine (State.hostWrite_kept ..).after ?_ | dsimp only)

theorem State.qpRequest_kept (s : State) (q : Nat) (op : Nat) (psn : Nat) (b : List Byte) (ack : Bool) : Kept s (State.qpRequest s q op psn b ack) := by
  unfold State.qpRequest
  with_reducible repeat' (first
    | exact Kept.refl _ | refine kept_ite ?_ ?_ | refine (State.qpAccess_kept ..).after ?_ | refine (State.qpAck_kept ..).after ?_
    | refine (State.qpMessage_kept ..).after ?_ | refine (State.qpNak_kept ..).after ?_ | refine (State.readResp_kept ..).after ?_
    | refine (State.setQp_kept ..).after ?_ | refine (State.regionWrite_kept ..).after ?_ | dsimp only | split)

theorem State.retireNs_kept (s : State) (n : Nat) : Kept s (State.retireNs s n) := by
  unfold State.retireNs
  with_reducible repeat' (first
    | exact Kept.refl _ | fail_if_no_progress refine kept_mk (by rfl) (by rfl) ?_ | refine (State.setNf_kept ..).after ?_ | dsimp only)

theorem State.sendCmd_kept (s : State) (k : Nat) (tag : Nat) (c : StoCmd) : Kept s (State.sendCmd s k tag c) := by
  unfold State.sendCmd
  with_reducible repeat' (first
    | exact Kept.refl _ | fail_if_no_progress refine kept_mk (by rfl) (by rfl) ?_ | refine kept_ite ?_ ?_
    | refine (State.fresh_kept ..).after ?_ | refine (State.capsule_kept ..).after ?_ | refine (State.setQp_kept ..).after ?_
    | refine pair_kept (by assumption) ?_ | dsimp only | split)

theorem State.sendIcreq_kept (s : State) (k : Nat) : Kept s (State.sendIcreq s k) := by
  unfold State.sendIcreq
  with_reducible repeat' (first
    | exact Kept.refl _ | refine (State.tcpSend_kept ..).after ?_ | dsimp only)

theorem State.stoGood_kept (s : State) (c : StoCmd) : Kept s (State.stoGood s c) := by
  unfold State.stoGood
  with_reducible repeat' (first
    | exact Kept.refl _ | refine kept_ite ?_ ?_ | refine (State.err_kept ..).after ?_ | refine (State.cmdDone_kept ..).after ?_
    | refine (State.hostWrite_kept ..).after ?_ | refine (State.scatter_kept ..).after ?_ | refine (State.stoFault_kept ..).after ?_
    | dsimp only | split)

theorem State.stoReset_kept (s : State) (f : Nat) : Kept s (State.stoReset s f) := by
  unfold State.stoReset
  with_reducible repeat' (first
    | exact Kept.refl _ | fail_if_no_progress refine kept_mk (by rfl) (by rfl) ?_ | refine (State.dropCmd_kept ..).after ?_
    | refine (State.setNf_kept ..).after ?_ | refine (State.setCtrl_kept ..).after ?_ | refine each_kept ?_ (fun _ _ => ?_) | dsimp only
    | intro _ | split)

theorem State.stoSubmit_kept (s : State) (c : StoCmd) : Kept s (State.stoSubmit s c) := by
  unfold State.stoSubmit
  with_reducible repeat' (first
    | exact Kept.refl _ | fail_if_no_progress refine kept_mk (by rfl) (by rfl) ?_ | dsimp only)

theorem State.stoTake_kept (s : State) (kind : Nat) (ok : Pkt → Bool) : Kept s (State.stoTake s kind ok).2 := by
  unfold State.stoTake
  with_reducible repeat' (first
    | exact Kept.refl _ | fail_if_no_progress refine kept_mk (by rfl) (by rfl) ?_ | refine kept_ite ?_ ?_
    | refine (State.txOutcome_kept ..).after ?_ | refine (State.policeDrop_kept ..).after ?_ | refine (State.police_kept ..).after ?_
    | refine pair_kept (by assumption) ?_ | dsimp only | split)

theorem State.tlsResync_kept (s : State) (n : Nat) (q : Nat) : Kept s (State.tlsResync s n q) := by
  unfold State.tlsResync
  with_reducible repeat' (first
    | exact Kept.refl _ | fail_if_no_progress refine kept_mk (by rfl) (by rfl) ?_ | refine (State.eventOwner_kept ..).after ?_
    | refine (State.raise_kept ..).after ?_ | refine (State.setCx_kept ..).after ?_ | dsimp only)

theorem State.tlsStore_kept (s : State) (n : Nat) (next : Nat) (x : TlsRun) : Kept s (State.tlsStore s n next x) := by
  unfold State.tlsStore
  with_reducible repeat' (first
    | exact Kept.refl _ | fail_if_no_progress refine kept_mk (by rfl) (by rfl) ?_ | refine (State.setCx_kept ..).after ?_ | dsimp only)

theorem State.tlsDeliver_kept (s : State) (w : CryWork) (n : Nat) (st : Nat) (d : List Byte) : Kept s (State.tlsDeliver s w n st d) := by
  unfold State.tlsDeliver
  with_reducible repeat' (first
    | exact Kept.refl _ | refine (State.cryPass_kept ..).after ?_ | dsimp only)

theorem State.tlsDecrypt_kept (s : State) (w : CryWork) (n : Nat) (q : Nat) (d : Nat) (stop : Nat) (from_ : Nat) (x : TlsRun) : Kept s (State.tlsDecrypt s w n q d stop from_ x) := by
  unfold State.tlsDecrypt
  with_reducible repeat' (first
    | exact Kept.refl _ | refine kept_ite ?_ ?_ | refine (State.fresh_kept ..).after ?_ | refine (State.cxStick_kept ..).after ?_
    | refine (State.tlsResync_kept ..).after ?_ | refine (State.stat_kept ..).after ?_ | refine (State.setCx_kept ..).after ?_
    | refine (State.tlsStore_kept ..).after ?_ | refine (State.tlsDeliver_kept ..).after ?_ | refine (State.account_kept ..).after ?_
    | refine pair_kept (by assumption) ?_ | dsimp only | split)

theorem State.tlsRx_kept (s : State) (w : CryWork) (n : Nat) : Kept s (State.tlsRx s w n) := by
  unfold State.tlsRx
  with_reducible repeat' (first
    | exact Kept.refl _ | refine kept_ite ?_ ?_ | refine (State.tlsResync_kept ..).after ?_ | refine (State.tlsDecrypt_kept ..).after ?_
    | refine (State.stat_kept ..).after ?_ | refine (State.tlsDeliver_kept ..).after ?_ | dsimp only | split)

theorem State.tlsTx_kept (s : State) (w : CryWork) (n : Nat) : Kept s (State.tlsTx s w n) := by
  unfold State.tlsTx
  with_reducible repeat' (first
    | exact Kept.refl _ | refine kept_ite ?_ ?_ | refine (State.assignSeq_kept ..).after ?_ | refine (State.cryDropCnt_kept ..).after ?_
    | refine (State.stat_kept ..).after ?_ | refine (State.cryPass_kept ..).after ?_ | refine (State.tlsStore_kept ..).after ?_
    | refine (State.account_kept ..).after ?_ | refine pair_kept (by assumption) ?_ | dsimp only | split)

theorem execVirtioBlkUnsupported_kept (f : Nat) (n : Nat) (s : State) : OutKept s (execVirtioBlkUnsupported f n s) := by
  unfold execVirtioBlkUnsupported
  with_reducible repeat' (first
    | exact Kept.refl _ | refine out_next ?_ | refine kept_ite ?_ ?_ | refine out_ite ?_ ?_ | refine (State.vqTake_kept ..).after ?_
    | refine (State.stat_kept ..).after ?_ | refine (State.blkDone_kept ..).after ?_ | dsimp only | split)

theorem execVirtioBlkIn_kept (f : Nat) (n : Nat) (s : State) : OutKept s (execVirtioBlkIn f n s) := by
  unfold execVirtioBlkIn
  with_reducible repeat' (first
    | exact Kept.refl _ | refine out_next ?_ | refine kept_ite ?_ ?_ | refine out_ite ?_ ?_ | refine (State.err_kept ..).after ?_
    | refine (State.stoSubmit_kept ..).after ?_ | refine (State.blkDone_kept ..).after ?_ | refine (State.blk_kept (hk := ?_) ..).after ?_
    | dsimp only | intro _ | split)

theorem execSessionPortReadDone_kept (a : Nat) (s : State) : OutKept s (execSessionPortReadDone a s) := by
  unfold execSessionPortReadDone
  with_reducible repeat' (first
    | exact Kept.refl _ | refine out_next ?_ | refine kept_ite ?_ ?_ | refine out_ite ?_ ?_ | refine (State.wrB_kept ..).after ?_
    | refine (State.setReg_kept ..).after ?_ | refine each_kept ?_ (fun _ _ => ?_) | dsimp only | intro _)

theorem execSetupItem_kept (f : Nat) (item : Nat) (value : Nat) (gen : Nat) (hi : Nat) (s : State) : OutKept s (execSetupItem f item value gen hi s) := by
  unfold execSetupItem
  with_reducible repeat' (first
    | exact Kept.refl _ | refine out_next ?_ | refine kept_ite ?_ ?_ | refine out_ite ?_ ?_ | refine (State.err_kept ..).after ?_
    | refine (State.doorbell_kept (hk := ?_) ..).after ?_ | refine (State.updFunc_kept ..).after ?_ | dsimp only | intro _)

theorem execNvmeTcpPduRx_kept (s : State) : OutKept s (execNvmeTcpPduRx s) := by
  unfold execNvmeTcpPduRx
  with_reducible repeat' (first
    | exact Kept.refl _ | refine out_next ?_ | refine kept_ite ?_ ?_ | refine out_ite ?_ ?_ | refine (State.stoTake_kept ..).after ?_
    | refine (State.setConn_kept ..).after ?_ | refine (State.tcpSeg_kept ..).after ?_ | refine (State.pdus_kept ..).after ?_
    | refine pair_kept (by assumption) ?_ | dsimp only | split)

theorem execSessionUpdate_kept (f : Nat) (s : State) : OutKept s (execSessionUpdate f s) := by
  unfold execSessionUpdate
  with_reducible repeat' (first
    | exact Kept.refl _ | refine out_next ?_ | fail_if_no_progress refine kept_mk (by rfl) (by rfl) ?_ | refine kept_ite ?_ ?_
    | refine out_ite ?_ ?_ | refine (State.admDone_kept ..).after ?_ | refine (State.setCx_kept ..).after ?_
    | refine (State.admRun_kept (hk := ?_) ..).after ?_ | dsimp only | intro _)

theorem execNvmeSetFeatures_kept (f : Nat) (s : State) : OutKept s (execNvmeSetFeatures f s) := by
  unfold execNvmeSetFeatures
  with_reducible repeat' (first
    | exact Kept.refl _ | refine out_next ?_ | refine kept_ite ?_ ?_ | refine out_ite ?_ ?_ | refine (State.nvmeDone_kept ..).after ?_
    | refine (State.nvme_kept (hk := ?_) ..).after ?_ | refine (State.setCtrl_kept ..).after ?_ | dsimp only | intro _ | split)

theorem execStoTcpCfgWrite_kept (v : Word) (s : State) : OutKept s (execStoTcpCfgWrite v s) := by
  unfold execStoTcpCfgWrite
  with_reducible repeat' (first
    | exact Kept.refl _ | refine out_next ?_ | refine (State.stoTcpCfg_kept ..).after ?_ | dsimp only)

theorem execNvmeWriteZeroes_kept (f : Nat) (q : Nat) (s : State) : OutKept s (execNvmeWriteZeroes f q s) := by
  unfold execNvmeWriteZeroes
  with_reducible repeat' (first
    | exact Kept.refl _ | refine out_next ?_ | refine kept_ite ?_ ?_ | refine out_ite ?_ ?_ | refine (State.nvmeRefuse_kept ..).after ?_
    | refine (State.nvme_kept (hk := ?_) ..).after ?_ | refine (State.stoSubmit_kept ..).after ?_ | dsimp only | intro _ | split)

theorem execStoContextRead_kept (a : Nat) (table : Nat) (index : Nat) (part : Nat) (s : State) : OutKept s (execStoContextRead a table index part s) := by
  unfold execStoContextRead
  with_reducible repeat' (first
    | exact Kept.refl _ | refine out_next ?_ | refine (State.stoCtxRead_kept ..).after ?_ | dsimp only)

theorem execNvmeAsyncEventRequest_kept (f : Nat) (s : State) : OutKept s (execNvmeAsyncEventRequest f s) := by
  unfold execNvmeAsyncEventRequest
  with_reducible repeat' (first
    | exact Kept.refl _ | refine out_next ?_ | refine (State.nvmeDone_kept ..).after ?_ | refine (State.nvme_kept (hk := ?_) ..).after ?_
    | refine (State.setCtrl_kept ..).after ?_ | dsimp only | intro _ | split)

theorem execDbRxQueue_kept (f : Nat) (q : Nat) (idx : Nat) (gen : Nat) (hi : Nat) (s : State) : OutKept s (execDbRxQueue f q idx gen hi s) := by
  unfold execDbRxQueue
  with_reducible repeat' (first
    | exact Kept.refl _ | refine out_next ?_ | refine (State.dbQueue_kept ..).after ?_ | dsimp only)

theorem execTlsTxOperation_kept (id : Nat) (s : State) : OutKept s (execTlsTxOperation id s) := by
  unfold execTlsTxOperation
  with_reducible repeat' (first
    | exact Kept.refl _ | refine out_next ?_ | refine (State.cryRun_kept (hk := ?_) ..).after ?_ | refine (State.tlsTx_kept ..).after ?_
    | dsimp only | intro _)

theorem execKeyEnvelopeImport_kept (f : Nat) (s : State) : OutKept s (execKeyEnvelopeImport f s) := by
  unfold execKeyEnvelopeImport
  with_reducible repeat' (first
    | exact Kept.refl _ | refine out_next ?_ | refine (State.admDone_kept ..).after ?_
    | refine (State.envelope_kept (hk := ?_) ..).after ?_ | refine (State.admRun_kept (hk := ?_) ..).after ?_
    | refine (State.installKey_kept ..).after ?_ | dsimp only | intro _)

theorem execRoceAckTimeout_kept (q : Nat) (s : State) : OutKept s (execRoceAckTimeout q s) := by
  unfold execRoceAckTimeout
  with_reducible repeat' (first
    | exact Kept.refl _ | refine out_next ?_ | refine kept_ite ?_ ?_ | refine out_ite ?_ ?_ | refine (State.qpLost_kept ..).after ?_
    | refine (State.setQp_kept ..).after ?_ | refine (State.goBack_kept ..).after ?_ | dsimp only)

theorem execVirtioBlkGetId_kept (f : Nat) (n : Nat) (s : State) : OutKept s (execVirtioBlkGetId f n s) := by
  unfold execVirtioBlkGetId
  with_reducible repeat' (first
    | exact Kept.refl _ | refine out_next ?_ | refine (State.blkDone_kept ..).after ?_ | refine (State.blk_kept (hk := ?_) ..).after ?_
    | refine (State.vWrite_kept ..).after ?_ | dsimp only | intro _)

theorem execRocePacketRx_kept (s : State) : OutKept s (execRocePacketRx s) := by
  unfold execRocePacketRx
  with_reducible repeat' (first
    | exact Kept.refl _ | refine out_next ?_ | refine kept_ite ?_ ?_ | refine out_ite ?_ ?_ | refine (State.err_kept ..).after ?_
    | refine (State.stoTake_kept ..).after ?_ | refine (State.qpAck_kept ..).after ?_ | refine (State.qpMessage_kept ..).after ?_
    | refine (State.qpNak_kept ..).after ?_ | refine (State.qpRequest_kept ..).after ?_ | refine (State.qpAcked_kept ..).after ?_
    | refine (State.setQp_kept ..).after ?_ | refine (State.cnpTx_kept ..).after ?_ | refine pair_kept (by assumption) ?_ | dsimp only
    | split)

theorem execNvmeWrite_kept (f : Nat) (q : Nat) (s : State) : OutKept s (execNvmeWrite f q s) := by
  unfold execNvmeWrite
  with_reducible repeat' (first
    | exact Kept.refl _ | refine out_next ?_ | refine kept_ite ?_ ?_ | refine out_ite ?_ ?_ | refine (State.err_kept ..).after ?_
    | refine (State.nvmeDone_kept ..).after ?_ | refine (State.nvmeRefuse_kept ..).after ?_ | refine (State.dptrFail_kept ..).after ?_
    | refine (State.nvme_kept (hk := ?_) ..).after ?_ | refine (State.stoSubmit_kept ..).after ?_ | dsimp only | intro _ | split)

theorem execEspInOperation_kept (id : Nat) (s : State) : OutKept s (execEspInOperation id s) := by
  unfold execEspInOperation
  with_reducible repeat' (first
    | exact Kept.refl _ | refine out_next ?_ | refine (State.cryRun_kept (hk := ?_) ..).after ?_ | refine (State.espIn_kept ..).after ?_
    | dsimp only | intro _)

theorem execVirtioBlkFlush_kept (f : Nat) (n : Nat) (s : State) : OutKept s (execVirtioBlkFlush f n s) := by
  unfold execVirtioBlkFlush
  with_reducible repeat' (first
    | exact Kept.refl _ | refine out_next ?_ | refine (State.stoSubmit_kept ..).after ?_ | refine (State.blkDone_kept ..).after ?_
    | refine (State.blk_kept (hk := ?_) ..).after ?_ | dsimp only | intro _ | split)

theorem execNvmeCreateIoCq_kept (f : Nat) (s : State) : OutKept s (execNvmeCreateIoCq f s) := by
  unfold execNvmeCreateIoCq
  with_reducible repeat' (first
    | exact Kept.refl _ | refine out_next ?_ | refine kept_ite ?_ ?_ | refine out_ite ?_ ?_ | refine (State.nvmeDone_kept ..).after ?_
    | refine (State.updQue_kept ..).after ?_ | refine (State.nvme_kept (hk := ?_) ..).after ?_ | dsimp only | intro _)

theorem execKeyRetire_kept (f : Nat) (s : State) : OutKept s (execKeyRetire f s) := by
  unfold execKeyRetire
  with_reducible repeat' (first
    | exact Kept.refl _ | refine out_next ?_ | refine kept_ite ?_ ?_ | refine out_ite ?_ ?_ | refine (State.admDone_kept ..).after ?_
    | refine (State.retireSession_kept ..).after ?_ | refine (State.retireNs_kept ..).after ?_
    | refine (State.admCrit_kept (hk := ?_) ..).after ?_ | dsimp only | intro _)

theorem execNvmeAbort_kept (f : Nat) (s : State) : OutKept s (execNvmeAbort f s) := by
  unfold execNvmeAbort
  with_reducible repeat' (first
    | exact Kept.refl _ | refine out_next ?_ | refine kept_ite ?_ ?_ | refine out_ite ?_ ?_ | refine (State.nvmeDone_kept ..).after ?_
    | refine (State.cmdDone_kept ..).after ?_ | refine (State.nvme_kept (hk := ?_) ..).after ?_ | dsimp only | intro _ | split)

theorem execNvmeGetLogPage_kept (f : Nat) (s : State) : OutKept s (execNvmeGetLogPage f s) := by
  unfold execNvmeGetLogPage
  with_reducible repeat' (first
    | exact Kept.refl _ | refine out_next ?_ | refine kept_ite ?_ ?_ | refine out_ite ?_ ?_ | refine (State.nvmeDone_kept ..).after ?_
    | refine (State.fresh_kept ..).after ?_ | refine (State.nvme_kept (hk := ?_) ..).after ?_ | refine (State.nvmeData_kept ..).after ?_
    | refine pair_kept (by assumption) ?_ | dsimp only | intro _ | split)

theorem execDbCompletionRing_kept (f : Nat) (q : Nat) (idx : Nat) (gen : Nat) (hi : Nat) (s : State) : OutKept s (execDbCompletionRing f q idx gen hi s) := by
  unfold execDbCompletionRing
  with_reducible repeat' (first
    | exact Kept.refl _ | refine out_next ?_ | refine (State.doorbell_kept (hk := ?_) ..).after ?_
    | refine (State.clearInt_kept ..).after ?_ | refine (State.updFunc_kept ..).after ?_ | dsimp only | intro _)

theorem execQpModify_kept (q : Nat) (a : QpAttr) (s : State) : OutKept s (execQpModify q a s) := by
  unfold execQpModify
  with_reducible repeat' (first
    | exact Kept.refl _ | refine out_next ?_ | refine kept_ite ?_ ?_ | refine out_ite ?_ ?_ | refine (State.setQp_kept ..).after ?_
    | refine (State.emit_kept ..).after ?_ | dsimp only)

theorem execVirtioBlkDiscard_kept (f : Nat) (n : Nat) (s : State) : OutKept s (execVirtioBlkDiscard f n s) := by
  unfold execVirtioBlkDiscard
  with_reducible repeat' (first
    | exact Kept.refl _ | refine out_next ?_ | refine kept_ite ?_ ?_ | refine out_ite ?_ ?_ | refine (State.err_kept ..).after ?_
    | refine (State.stoSubmit_kept ..).after ?_ | refine (State.blkDone_kept ..).after ?_ | refine (State.blk_kept (hk := ?_) ..).after ?_
    | dsimp only | intro _ | split)

theorem execPathCreate_kept (f : Nat) (s : State) : OutKept s (execPathCreate f s) := by
  unfold execPathCreate
  with_reducible repeat' (first
    | exact Kept.refl _ | refine out_next ?_ | fail_if_no_progress refine kept_mk (by rfl) (by rfl) ?_ | refine kept_ite ?_ ?_
    | refine out_ite ?_ ?_ | refine (State.admDone_kept ..).after ?_ | refine (State.setConn_kept ..).after ?_
    | refine (State.connOpen_kept ..).after ?_ | refine (State.tryConnect_kept ..).after ?_ | refine (State.setQp_kept ..).after ?_
    | refine (State.admRun_kept (hk := ?_) ..).after ?_ | refine (State.setEff_kept ..).after ?_ | refine each_kept ?_ (fun _ _ => ?_)
    | dsimp only | intro _)

theorem execNvmeDatasetManagement_kept (f : Nat) (q : Nat) (s : State) : OutKept s (execNvmeDatasetManagement f q s) := by
  unfold execNvmeDatasetManagement
  with_reducible repeat' (first
    | exact Kept.refl _ | refine out_next ?_ | refine kept_ite ?_ ?_ | refine out_ite ?_ ?_ | refine (State.nvmeDone_kept ..).after ?_
    | refine (State.nvmeRefuse_kept ..).after ?_ | refine (State.dptrFail_kept ..).after ?_
    | refine (State.nvme_kept (hk := ?_) ..).after ?_ | refine (State.stoSubmit_kept ..).after ?_ | dsimp only | intro _ | split)

theorem execSetupEnable_kept (f : Nat) (value : Nat) (gen : Nat) (hi : Nat) (s : State) : OutKept s (execSetupEnable f value gen hi s) := by
  unfold execSetupEnable
  with_reducible repeat' (first
    | exact Kept.refl _ | refine out_next ?_ | refine kept_ite ?_ ?_ | refine out_ite ?_ ?_ | refine (State.err_kept ..).after ?_
    | refine (State.admEntry_kept ..).after ?_ | refine (State.doorbell_kept (hk := ?_) ..).after ?_
    | refine (State.raise_kept ..).after ?_ | refine (State.setFunc_kept ..).after ?_ | dsimp only | intro _)

theorem execNsDestroy_kept (f : Nat) (s : State) : OutKept s (execNsDestroy f s) := by
  unfold execNsDestroy
  with_reducible repeat' (first
    | exact Kept.refl _ | refine out_next ?_ | fail_if_no_progress refine kept_mk (by rfl) (by rfl) ?_ | refine kept_ite ?_ ?_
    | refine out_ite ?_ ?_ | refine (State.admDone_kept ..).after ?_ | refine (State.admRun_kept (hk := ?_) ..).after ?_ | dsimp only
    | intro _)

theorem execBackendCompletion_kept (k : Nat) (s : State) : OutKept s (execBackendCompletion k s) := by
  unfold execBackendCompletion
  with_reducible repeat' (first
    | exact Kept.refl _ | refine out_next ?_ | refine kept_ite ?_ ?_ | refine out_ite ?_ ?_ | refine (State.err_kept ..).after ?_
    | refine (State.stoGood_kept ..).after ?_ | refine (State.cmdDone_kept ..).after ?_ | refine (State.setConn_kept ..).after ?_
    | refine (State.tcpTerm_kept ..).after ?_ | refine (State.stoFault_kept ..).after ?_ | dsimp only | split)

theorem execCnpRx_kept (s : State) : OutKept s (execCnpRx s) := by
  unfold execCnpRx
  with_reducible repeat' (first
    | exact Kept.refl _ | refine out_next ?_ | refine kept_ite ?_ ?_ | refine out_ite ?_ ?_ | refine (State.stoTake_kept ..).after ?_
    | refine (State.setQp_kept ..).after ?_ | refine (State.stat_kept ..).after ?_ | refine pair_kept (by assumption) ?_ | dsimp only
    | split)

theorem execDbNvmeCqHead_kept (f : Nat) (q : Nat) (idx : Nat) (gen : Nat) (hi : Nat) (s : State) : OutKept s (execDbNvmeCqHead f q idx gen hi s) := by
  unfold execDbNvmeCqHead
  with_reducible repeat' (first
    | exact Kept.refl _ | refine out_next ?_ | refine kept_ite ?_ ?_ | refine out_ite ?_ ?_ | refine (State.err_kept ..).after ?_
    | refine (State.cqFlush_kept ..).after ?_ | refine (State.doorbell_kept (hk := ?_) ..).after ?_
    | refine (State.updQue_kept ..).after ?_ | refine (State.clearInt_kept ..).after ?_ | refine (State.nvmeEvent_kept ..).after ?_
    | dsimp only | intro _)

theorem execDbEventRing_kept (f : Nat) (q : Nat) (idx : Nat) (gen : Nat) (hi : Nat) (s : State) : OutKept s (execDbEventRing f q idx gen hi s) := by
  unfold execDbEventRing
  with_reducible repeat' (first
    | exact Kept.refl _ | refine out_next ?_ | refine (State.doorbell_kept (hk := ?_) ..).after ?_
    | refine (State.clearInt_kept ..).after ?_ | refine (State.updFunc_kept ..).after ?_ | refine (State.eventLost_kept ..).after ?_
    | dsimp only | intro _)

theorem execIssueWaitTimeout_kept (id : Nat) (s : State) : OutKept s (execIssueWaitTimeout id s) := by
  unfold execIssueWaitTimeout
  with_reducible repeat' (first
    | exact Kept.refl _ | refine out_next ?_ | refine (State.err_kept ..).after ?_ | refine (State.reissue_kept ..).after ?_ | dsimp only
    | split)

theorem execNsCreate_kept (f : Nat) (s : State) : OutKept s (execNsCreate f s) := by
  unfold execNsCreate
  with_reducible repeat' (first
    | exact Kept.refl _ | refine out_next ?_ | fail_if_no_progress refine kept_mk (by rfl) (by rfl) ?_ | refine kept_ite ?_ ?_
    | refine out_ite ?_ ?_ | refine (State.admDone_kept ..).after ?_ | refine (State.admRun_kept (hk := ?_) ..).after ?_ | dsimp only
    | intro _ | split)

theorem execDbAdminSlot_kept (f : Nat) (q : Nat) (idx : Nat) (gen : Nat) (hi : Nat) (s : State) : OutKept s (execDbAdminSlot f q idx gen hi s) := by
  unfold execDbAdminSlot
  with_reducible repeat' (first
    | exact Kept.refl _ | refine out_next ?_ | refine (State.doorbell_kept (hk := ?_) ..).after ?_
    | refine (State.updFunc_kept ..).after ?_ | dsimp only | intro _)

theorem execCtrlCreate_kept (f : Nat) (s : State) : OutKept s (execCtrlCreate f s) := by
  unfold execCtrlCreate
  with_reducible repeat' (first
    | exact Kept.refl _ | refine out_next ?_ | refine kept_ite ?_ ?_ | refine out_ite ?_ ?_ | refine (State.admDone_kept ..).after ?_
    | refine (State.setCtrl_kept ..).after ?_ | refine (State.admRun_kept (hk := ?_) ..).after ?_ | dsimp only | intro _)

theorem execRateIncreasePeriod_kept (q : Nat) (s : State) : OutKept s (execRateIncreasePeriod q s) := by
  unfold execRateIncreasePeriod
  with_reducible repeat' (first
    | exact Kept.refl _ | refine out_next ?_ | refine kept_ite ?_ ?_ | refine out_ite ?_ ?_ | refine (State.setQp_kept ..).after ?_
    | dsimp only)

theorem execKeepAliveTimer_kept (p : Nat) (s : State) : OutKept s (execKeepAliveTimer p s) := by
  unfold execKeepAliveTimer
  with_reducible repeat' (first
    | exact Kept.refl _ | refine out_next ?_ | refine kept_ite ?_ ?_ | refine out_ite ?_ ?_ | refine (State.capsule_kept ..).after ?_
    | refine (State.setConn_kept ..).after ?_ | dsimp only)

theorem execTcpRtoExpiry_kept (k : Nat) (s : State) : OutKept s (execTcpRtoExpiry k s) := by
  unfold execTcpRtoExpiry
  with_reducible repeat' (first
    | exact Kept.refl _ | refine out_next ?_ | refine kept_ite ?_ ?_ | refine out_ite ?_ ?_ | refine (State.connLost_kept ..).after ?_
    | refine (State.setConn_kept ..).after ?_ | refine (State.tcpSeg_kept ..).after ?_ | refine op_map (fun _ => rfl) ?_ | dsimp only)

theorem execDbAdminCompletion_kept (f : Nat) (q : Nat) (idx : Nat) (gen : Nat) (hi : Nat) (s : State) : OutKept s (execDbAdminCompletion f q idx gen hi s) := by
  unfold execDbAdminCompletion
  with_reducible repeat' (first
    | exact Kept.refl _ | refine out_next ?_ | refine (State.doorbell_kept (hk := ?_) ..).after ?_
    | refine (State.clearInt_kept ..).after ?_ | refine (State.updFunc_kept ..).after ?_ | dsimp only | intro _)

theorem execPathDestroy_kept (f : Nat) (s : State) : OutKept s (execPathDestroy f s) := by
  unfold execPathDestroy
  with_reducible repeat' (first
    | exact Kept.refl _ | refine out_next ?_ | fail_if_no_progress refine kept_mk (by rfl) (by rfl) ?_ | refine kept_ite ?_ ?_
    | refine out_ite ?_ ?_ | refine (State.setPathUp_kept ..).after ?_ | refine (State.admDone_kept ..).after ?_
    | refine (State.admRun_kept (hk := ?_) ..).after ?_ | refine each_kept ?_ (fun _ _ => ?_) | dsimp only | intro _)

theorem execNvmeDeleteIoSq_kept (f : Nat) (s : State) : OutKept s (execNvmeDeleteIoSq f s) := by
  unfold execNvmeDeleteIoSq
  with_reducible repeat' (first
    | exact Kept.refl _ | refine out_next ?_ | refine kept_ite ?_ ?_ | refine out_ite ?_ ?_ | refine (State.nvmeDone_kept ..).after ?_
    | refine (State.cmdDone_kept ..).after ?_ | refine (State.nvme_kept (hk := ?_) ..).after ?_ | refine (State.updFunc_kept ..).after ?_
    | refine (State.dropQue_kept ..).after ?_ | refine each_kept ?_ (fun _ _ => ?_) | dsimp only | intro _)

theorem execNvmeFlush_kept (f : Nat) (q : Nat) (s : State) : OutKept s (execNvmeFlush f q s) := by
  unfold execNvmeFlush
  with_reducible repeat' (first
    | exact Kept.refl _ | refine out_next ?_ | refine kept_ite ?_ ?_ | refine out_ite ?_ ?_ | refine (State.nvmeRefuse_kept ..).after ?_
    | refine (State.nvme_kept (hk := ?_) ..).after ?_ | refine (State.stoSubmit_kept ..).after ?_ | dsimp only | intro _ | split)

theorem execNvmeRead_kept (f : Nat) (q : Nat) (s : State) : OutKept s (execNvmeRead f q s) := by
  unfold execNvmeRead
  with_reducible repeat' (first
    | exact Kept.refl _ | refine out_next ?_ | refine kept_ite ?_ ?_ | refine out_ite ?_ ?_ | refine (State.nvmeRefuse_kept ..).after ?_
    | refine (State.dptrFail_kept ..).after ?_ | refine (State.nvme_kept (hk := ?_) ..).after ?_
    | refine (State.stoSubmit_kept ..).after ?_ | dsimp only | intro _ | split)

theorem execVirtioBlkOut_kept (f : Nat) (n : Nat) (s : State) : OutKept s (execVirtioBlkOut f n s) := by
  unfold execVirtioBlkOut
  with_reducible repeat' (first
    | exact Kept.refl _ | refine out_next ?_ | refine kept_ite ?_ ?_ | refine out_ite ?_ ?_ | refine (State.err_kept ..).after ?_
    | refine (State.stoSubmit_kept ..).after ?_ | refine (State.blkDone_kept ..).after ?_ | refine (State.blk_kept (hk := ?_) ..).after ?_
    | dsimp only | intro _ | split)

theorem execIcrespRx_kept (k : Nat) (s : State) : OutKept s (execIcrespRx k s) := by
  unfold execIcrespRx
  with_reducible repeat' (first
    | exact Kept.refl _ | refine out_next ?_ | refine kept_ite ?_ ?_ | refine out_ite ?_ ?_ | refine (State.setConn_kept ..).after ?_
    | refine (State.tryConnect_kept ..).after ?_ | refine (State.tcpTerm_kept ..).after ?_ | dsimp only | split)

theorem execSessionWrite_kept (f : Nat) (s : State) : OutKept s (execSessionWrite f s) := by
  unfold execSessionWrite
  with_reducible repeat' (first
    | exact Kept.refl _ | refine out_next ?_ | refine kept_ite ?_ ?_ | refine out_ite ?_ ?_ | refine (State.admDone_kept ..).after ?_
    | refine (State.admRun_kept (hk := ?_) ..).after ?_ | refine (State.setCtx_kept ..).after ?_ | dsimp only | intro _)

theorem execKeyInstall_kept (f : Nat) (s : State) : OutKept s (execKeyInstall f s) := by
  unfold execKeyInstall
  with_reducible repeat' (first
    | exact Kept.refl _ | refine out_next ?_ | refine (State.admDone_kept ..).after ?_
    | refine (State.envelope_kept (hk := ?_) ..).after ?_ | refine (State.admCrit_kept (hk := ?_) ..).after ?_
    | refine (State.installKey_kept ..).after ?_ | dsimp only | intro _)

theorem execSessionPortRead_kept (a : Nat) (index : Nat) (part : Nat) (s : State) : OutKept s (execSessionPortRead a index part s) := by
  unfold execSessionPortRead
  with_reducible repeat' (first
    | exact Kept.refl _ | refine out_next ?_ | refine (State.sessPortRead_kept ..).after ?_ | dsimp only)

theorem execVirtioBlkWriteZeroes_kept (f : Nat) (n : Nat) (s : State) : OutKept s (execVirtioBlkWriteZeroes f n s) := by
  unfold execVirtioBlkWriteZeroes
  with_reducible repeat' (first
    | exact Kept.refl _ | refine out_next ?_ | refine kept_ite ?_ ?_ | refine out_ite ?_ ?_ | refine (State.err_kept ..).after ?_
    | refine (State.stoSubmit_kept ..).after ?_ | refine (State.blkDone_kept ..).after ?_ | refine (State.blk_kept (hk := ?_) ..).after ?_
    | dsimp only | intro _ | split)

theorem execAttemptTimeout_kept (id : Nat) (s : State) : OutKept s (execAttemptTimeout id s) := by
  unfold execAttemptTimeout
  with_reducible repeat' (first
    | exact Kept.refl _ | refine out_next ?_ | refine kept_ite ?_ ?_ | refine out_ite ?_ ?_ | refine (State.err_kept ..).after ?_
    | refine (State.reissue_kept ..).after ?_ | dsimp only | split)

theorem execCtrlDestroy_kept (f : Nat) (s : State) : OutKept s (execCtrlDestroy f s) := by
  unfold execCtrlDestroy
  with_reducible repeat' (first
    | exact Kept.refl _ | refine out_next ?_ | fail_if_no_progress refine kept_mk (by rfl) (by rfl) ?_ | refine kept_ite ?_ ?_
    | refine out_ite ?_ ?_ | refine (State.admDone_kept ..).after ?_ | refine (State.admRun_kept (hk := ?_) ..).after ?_ | dsimp only
    | intro _ | split)

theorem execDbTxQueue_kept (f : Nat) (q : Nat) (idx : Nat) (gen : Nat) (hi : Nat) (s : State) : OutKept s (execDbTxQueue f q idx gen hi s) := by
  unfold execDbTxQueue
  with_reducible repeat' (first
    | exact Kept.refl _ | refine out_next ?_ | refine (State.dbQueue_kept ..).after ?_ | dsimp only)

theorem execNvmeIdentify_kept (f : Nat) (s : State) : OutKept s (execNvmeIdentify f s) := by
  unfold execNvmeIdentify
  with_reducible repeat' (first
    | exact Kept.refl _ | refine out_next ?_ | refine kept_ite ?_ ?_ | refine out_ite ?_ ?_ | refine (State.nvmeDone_kept ..).after ?_
    | refine (State.nvme_kept (hk := ?_) ..).after ?_ | refine (State.nvmeData_kept ..).after ?_ | refine op_map (fun _ => rfl) ?_
    | dsimp only | intro _ | split)

theorem execDbNvmeSqTail_kept (f : Nat) (q : Nat) (idx : Nat) (gen : Nat) (hi : Nat) (s : State) : OutKept s (execDbNvmeSqTail f q idx gen hi s) := by
  unfold execDbNvmeSqTail
  with_reducible repeat' (first
    | exact Kept.refl _ | refine out_next ?_ | refine kept_ite ?_ ?_ | refine out_ite ?_ ?_ | refine (State.err_kept ..).after ?_
    | refine (State.doorbell_kept (hk := ?_) ..).after ?_ | refine (State.updQue_kept ..).after ?_
    | refine (State.nvmeEvent_kept ..).after ?_ | refine (State.askEntries_kept ..).after ?_ | dsimp only | intro _)

theorem execFabricsConnectRetry_kept (p : Nat) (s : State) : OutKept s (execFabricsConnectRetry p s) := by
  unfold execFabricsConnectRetry
  with_reducible repeat' (first
    | exact Kept.refl _ | refine out_next ?_ | refine kept_ite ?_ ?_ | refine out_ite ?_ ?_ | refine (State.setConn_kept ..).after ?_
    | refine (State.connOpen_kept ..).after ?_ | refine (State.tryConnect_kept ..).after ?_ | refine each_kept ?_ (fun _ _ => ?_)
    | dsimp only | intro _)

theorem execDbVirtioBlk_kept (f : Nat) (q : Nat) (idx : Nat) (gen : Nat) (hi : Nat) (s : State) : OutKept s (execDbVirtioBlk f q idx gen hi s) := by
  unfold execDbVirtioBlk
  with_reducible repeat' (first
    | exact Kept.refl _ | refine out_next ?_ | refine (State.dbQueue_kept ..).after ?_ | dsimp only)

theorem execNvmeGetFeatures_kept (f : Nat) (s : State) : OutKept s (execNvmeGetFeatures f s) := by
  unfold execNvmeGetFeatures
  with_reducible repeat' (first
    | exact Kept.refl _ | refine out_next ?_ | refine kept_ite ?_ ?_ | refine out_ite ?_ ?_ | refine (State.nvmeDone_kept ..).after ?_
    | refine (State.nvme_kept (hk := ?_) ..).after ?_ | dsimp only | intro _ | split)

theorem execTlsRxSegment_kept (id : Nat) (s : State) : OutKept s (execTlsRxSegment id s) := by
  unfold execTlsRxSegment
  with_reducible repeat' (first
    | exact Kept.refl _ | refine out_next ?_ | refine (State.tlsRx_kept ..).after ?_ | refine (State.cryRun_kept (hk := ?_) ..).after ?_
    | dsimp only | intro _)

theorem execEspOutOperation_kept (id : Nat) (s : State) : OutKept s (execEspOutOperation id s) := by
  unfold execEspOutOperation
  with_reducible repeat' (first
    | exact Kept.refl _ | refine out_next ?_ | refine (State.cryRun_kept (hk := ?_) ..).after ?_ | refine (State.espOut_kept ..).after ?_
    | dsimp only | intro _)

theorem execNvmeDeleteIoCq_kept (f : Nat) (s : State) : OutKept s (execNvmeDeleteIoCq f s) := by
  unfold execNvmeDeleteIoCq
  with_reducible repeat' (first
    | exact Kept.refl _ | refine out_next ?_ | refine kept_ite ?_ ?_ | refine out_ite ?_ ?_ | refine (State.nvmeDone_kept ..).after ?_
    | refine (State.nvme_kept (hk := ?_) ..).after ?_ | refine (State.dropQue_kept ..).after ?_ | dsimp only | intro _)

theorem execTcpAckRx_kept (s : State) : OutKept s (execTcpAckRx s) := by
  unfold execTcpAckRx
  with_reducible repeat' (first
    | exact Kept.refl _ | refine out_next ?_ | refine kept_ite ?_ ?_ | refine out_ite ?_ ?_ | refine (State.stoTake_kept ..).after ?_
    | refine (State.connLost_kept ..).after ?_ | refine (State.setConn_kept ..).after ?_ | refine (State.sendIcreq_kept ..).after ?_
    | refine pair_kept (by assumption) ?_ | dsimp only | split)

theorem execCryptoContextFetch_kept (n : Nat) (s : State) : OutKept s (execCryptoContextFetch n s) := by
  unfold execCryptoContextFetch
  with_reducible repeat' (first
    | exact Kept.refl _ | refine out_next ?_ | fail_if_no_progress refine kept_mk (by rfl) (by rfl) ?_ | refine kept_ite ?_ ?_
    | refine out_ite ?_ ?_ | refine (State.fresh_kept ..).after ?_ | refine op_map (fun _ => rfl) ?_ | refine pair_kept (by assumption) ?_
    | dsimp only | split)

theorem execDbVirtioNet_kept (f : Nat) (q : Nat) (idx : Nat) (gen : Nat) (hi : Nat) (s : State) : OutKept s (execDbVirtioNet f q idx gen hi s) := by
  unfold execDbVirtioNet
  with_reducible repeat' (first
    | exact Kept.refl _ | refine out_next ?_ | refine (State.dbQueue_kept ..).after ?_ | dsimp only)

theorem execNvmeUnsupportedOpcode_kept (f : Nat) (q : Nat) (s : State) : OutKept s (execNvmeUnsupportedOpcode f q s) := by
  unfold execNvmeUnsupportedOpcode
  with_reducible repeat' (first
    | exact Kept.refl _ | refine out_next ?_ | refine kept_ite ?_ ?_ | refine out_ite ?_ ?_ | refine (State.nvmeDone_kept ..).after ?_
    | refine (State.sqTake_kept ..).after ?_ | dsimp only | split)

theorem execFabricsConnectResponse_kept (k : Nat) (s : State) : OutKept s (execFabricsConnectResponse k s) := by
  unfold execFabricsConnectResponse
  with_reducible repeat' (first
    | exact Kept.refl _ | refine out_next ?_ | refine kept_ite ?_ ?_ | refine out_ite ?_ ?_ | refine (State.setPathUp_kept ..).after ?_
    | refine (State.setConn_kept ..).after ?_ | refine (State.tryConnect_kept ..).after ?_ | refine (State.setPf_kept ..).after ?_
    | refine (State.raise_kept ..).after ?_ | refine each_kept ?_ (fun _ _ => ?_) | dsimp only | intro _ | split)

theorem execNvmeCreateIoSq_kept (f : Nat) (s : State) : OutKept s (execNvmeCreateIoSq f s) := by
  unfold execNvmeCreateIoSq
  with_reducible repeat' (first
    | exact Kept.refl _ | refine out_next ?_ | refine kept_ite ?_ ?_ | refine out_ite ?_ ?_ | refine (State.nvmeDone_kept ..).after ?_
    | refine (State.fresh_kept ..).after ?_ | refine (State.updQue_kept ..).after ?_ | refine (State.nvme_kept (hk := ?_) ..).after ?_
    | refine (State.setFunc_kept ..).after ?_ | refine pair_kept (by assumption) ?_ | dsimp only | intro _ | split)

theorem execAdminSlotFetch_kept (f : Nat) (slotRead : Nat) (opRead : Nat) (s : State) : OutKept s (execAdminSlotFetch f slotRead opRead s) := by
  unfold execAdminSlotFetch
  with_reducible repeat' (first
    | exact Kept.refl _ | refine out_next ?_ | fail_if_no_progress refine kept_mk (by rfl) (by rfl) ?_ | refine kept_ite ?_ ?_
    | refine out_ite ?_ ?_ | refine (State.admDone_kept ..).after ?_ | refine (State.newCorr_kept ..).after ?_
    | refine (State.updFunc_kept ..).after ?_ | refine (State.readFailed_kept ..).after ?_ | refine (State.raise_kept ..).after ?_
    | refine (State.setFunc_kept ..).after ?_ | refine (State.event_kept ..).after ?_ | refine pair_kept (by assumption) ?_ | dsimp only
    | split)

theorem execBackendIssue_kept (k : Nat) (s : State) : OutKept s (execBackendIssue k s) := by
  unfold execBackendIssue
  with_reducible repeat' (first
    | exact Kept.refl _ | refine out_next ?_ | refine kept_ite ?_ ?_ | refine out_ite ?_ ?_ | refine (State.updCmd_kept ..).after ?_
    | refine (State.sendCmd_kept ..).after ?_ | refine (State.setConn_kept ..).after ?_ | dsimp only | split)

end Sys2Proof.Machine
end

