-- ==== Sys2Proof/Laws/KeptDevice.lean ====
section
/-! SUPPORT. Laws/KeptDevice.lean: what the operations of the mailbox, function resets, PCI Express, boot, ports, faults, Rope, SPDM leave alone, and how memories, outputs and free values go on
(Kept), one lemma for each operation. -/

namespace Sys2Proof.Machine

open Sys2Proof

set_option linter.unusedVariables false
set_option linter.unreachableTactic false
set_option linter.unusedTactic false
set_option cleanup.letToHave false

theorem State.abandon_kept (s : State) (f : Nat) : Kept s (State.abandon s f) := by
  unfold State.abandon
  with_reducible repeat' (first
    | exact Kept.refl _ | fail_if_no_progress refine kept_mk (by rfl) (by rfl) ?_ | refine kept_ite ?_ ?_
    | refine (State.setReg_kept ..).after ?_ | refine (State.showGate_kept ..).after ?_ | refine (State.setGate_kept ..).after ?_
    | refine each_kept ?_ (fun _ _ => ?_) | dsimp only | intro _ | split)

theorem State.pfcCfg_kept (s : State) (p : Nat) (v : Word) : Kept s (State.pfcCfg s p v) := by
  unfold State.pfcCfg
  with_reducible repeat' (first
    | exact Kept.refl _ | refine kept_ite ?_ ?_ | refine (State.setReg_kept ..).after ?_ | dsimp only)

theorem State.resetCtrl_kept (s : State) (v : Word) : Kept s (State.resetCtrl s v) := by
  unfold State.resetCtrl
  with_reducible repeat' (first
    | exact Kept.refl _ | fail_if_no_progress refine kept_mk (by first | rfl | simp only [Board.fix]) (by rfl) ?_ | refine kept_ite ?_ ?_
    | dsimp only)

theorem State.mbxDeny_kept (s : State) (who : Nat) (rid : Nat) (m : Nat) (off : Nat) : Kept s (State.mbxDeny s who rid m off) := by
  unfold State.mbxDeny
  with_reducible repeat' (first
    | exact Kept.refl _ | refine kept_ite ?_ ?_ | refine (State.err_kept ..).after ?_ | refine (State.accessFault_kept ..).after ?_
    | dsimp only)

theorem State.mbxChange_kept (s : State) (t : State) : Kept t (State.mbxChange s t) := by
  unfold State.mbxChange
  with_reducible repeat' (first
    | exact Kept.refl _ | fail_if_no_progress refine kept_mk (by rfl) (by rfl) ?_ | refine kept_ite ?_ ?_
    | refine each_kept ?_ (fun _ _ => ?_) | dsimp only | intro _)

theorem State.mbxRing_kept (s : State) (who : Nat) (rid : Nat) (m : Nat) (c : Nat) : Kept s (State.mbxRing s who rid m c) := by
  unfold State.mbxRing
  with_reducible repeat' (first
    | exact Kept.refl _ | refine kept_ite ?_ ?_ | refine (State.err_kept ..).after ?_ | refine (State.wr_kept ..).after ?_
    | refine (State.mbxDeny_kept ..).after ?_ | refine (State.mbxChange_kept ..).after ?_ | dsimp only)

theorem State.mbxMask_kept (s : State) (who : Nat) (m : Nat) (empty : Bool) (v : Nat) : Kept s (State.mbxMask s who m empty v) := by
  unfold State.mbxMask
  with_reducible repeat' (first
    | exact Kept.refl _ | refine kept_ite ?_ ?_ | refine (State.wr_kept ..).after ?_ | refine (State.mbxChange_kept ..).after ?_
    | refine foldl_kept ?_ (fun _ _ => ?_) | dsimp only)

theorem State.mbxClear_kept (s : State) (who : Nat) (rid : Nat) (m : Nat) (c : Nat) : Kept s (State.mbxClear s who rid m c) := by
  unfold State.mbxClear
  with_reducible repeat' (first
    | exact Kept.refl _ | refine kept_ite ?_ ?_ | refine (State.wr_kept ..).after ?_ | refine (State.mbxDeny_kept ..).after ?_
    | dsimp only)

theorem State.mbxStore_kept (s : State) (who : Nat) (rid : Nat) (m : Nat) (c : Nat) (w : Nat) (v : Word) : Kept s (State.mbxStore s who rid m c w v) := by
  unfold State.mbxStore
  with_reducible repeat' (first
    | exact Kept.refl _ | refine kept_ite ?_ ?_ | refine (State.err_kept ..).after ?_ | refine (State.setReg_kept ..).after ?_
    | refine (State.mbxDeny_kept ..).after ?_ | dsimp only)

theorem State.preemptStart_kept (s : State) (p : Nat) : Kept s (State.preemptStart s p) := by
  unfold State.preemptStart
  with_reducible repeat' (first
    | exact Kept.refl _ | refine kept_ite ?_ ?_ | refine (State.wrB_kept ..).after ?_ | refine (State.wr_kept ..).after ?_
    | refine (State.setPrt_kept ..).after ?_ | dsimp only)

theorem State.preemptCfg_kept (s : State) (p : Nat) (v : Word) : Kept s (State.preemptCfg s p v) := by
  unfold State.preemptCfg
  with_reducible repeat' (first
    | exact Kept.refl _ | refine (State.setReg_kept ..).after ?_ | refine (State.preemptStart_kept ..).after ?_ | dsimp only)

theorem State.updLink_kept (s : State) (a : Nat) (g : Link → Link) : Kept s (State.updLink s a g) := by
  unfold State.updLink
  with_reducible repeat' (first
    | exact Kept.refl _ | fail_if_no_progress refine kept_mk (by rfl) (by rfl) ?_ | dsimp only)

theorem State.winCommit_kept (s : State) (a : Nat) (mask : Nat) : Kept s (State.winCommit s a mask) := by
  unfold State.winCommit
  with_reducible repeat' (first
    | exact Kept.refl _ | refine kept_ite ?_ ?_ | refine (State.wrB_kept ..).after ?_ | refine (State.wr_kept ..).after ?_
    | refine (State.updLink_kept ..).after ?_ | dsimp only | split)

theorem State.secyWrite_kept (s : State) (off : Nat) (v : Word) : Kept s (State.secyWrite s off v) := by
  unfold State.secyWrite
  with_reducible repeat' (first
    | exact Kept.refl _ | refine kept_ite ?_ ?_ | refine (State.err_kept ..).after ?_ | refine (State.oneStepDown_kept ..).after ?_
    | refine (State.setReg_kept ..).after ?_ | refine each_kept ?_ (fun _ _ => ?_) | dsimp only | intro _)

theorem State.moduleAccess_kept (s : State) (a : Nat) (k : Nat) (page : Nat) (bank : Nat) (off : Nat) (lenM1 : Nat) (write : Bool) : Kept s (State.moduleAccess s a k page bank off lenM1 write) := by
  unfold State.moduleAccess
  with_reducible repeat' (first
    | exact Kept.refl _ | refine kept_ite ?_ ?_ | refine (State.wrB_kept ..).after ?_ | refine (State.setReg_kept ..).after ?_
    | refine (State.wr_kept ..).after ?_ | refine (State.emit_kept ..).after ?_ | dsimp only)

theorem State.aerSet_kept (s : State) (f : Nat) (g : Aer → Aer) : Kept s (State.aerSet s f g) := by
  unfold State.aerSet
  with_reducible repeat' (first
    | exact Kept.refl _ | refine (State.updFunc_kept ..).after ?_ | dsimp only)

theorem State.anBegin_kept (s : State) (p : Nat) : Kept s (State.anBegin s p) := by
  unfold State.anBegin
  with_reducible repeat' (first
    | exact Kept.refl _ | refine kept_ite ?_ ?_ | refine (State.wr_kept ..).after ?_ | dsimp only)

theorem State.mbxEmpty_kept (s : State) (m : Nat) (c : Nat) (cause : Nat) : Kept s (State.mbxEmpty s m c cause) := by
  unfold State.mbxEmpty
  with_reducible repeat' (first
    | exact Kept.refl _ | refine (State.setReg_kept ..).after ?_ | refine (State.wr_kept ..).after ?_
    | refine each_kept ?_ (fun _ _ => ?_) | dsimp only | intro _)

theorem State.mbxRxReset_kept (s : State) (m : Nat) : Kept s (State.mbxRxReset s m) := by
  unfold State.mbxRxReset
  with_reducible repeat' (first
    | exact Kept.refl _ | refine (State.wr_kept ..).after ?_ | refine (State.mbxEmpty_kept ..).after ?_
    | refine (State.mbxChange_kept ..).after ?_ | refine each_kept ?_ (fun _ _ => ?_) | dsimp only | intro _)

theorem State.mbxPartyReset_kept (s : State) (who : Nat) : Kept s (State.mbxPartyReset s who) := by
  unfold State.mbxPartyReset
  with_reducible repeat' (first
    | exact Kept.refl _ | refine (State.mbxRxReset_kept ..).after ?_ | refine each_kept ?_ (fun _ _ => ?_) | dsimp only | intro _)

theorem State.cfgShownReset_kept (s : State) (a : Nat) : Kept s (State.cfgShownReset s a) := by
  unfold State.cfgShownReset
  with_reducible repeat' (first
    | exact Kept.refl _ | refine (State.setReg_kept ..).after ?_ | refine (State.wr_kept ..).after ?_
    | refine each_kept ?_ (fun _ _ => ?_) | dsimp only | intro _)

theorem State.tdiError_kept (s : State) (f : Nat) : Kept s (State.tdiError s f) := by
  unfold State.tdiError
  with_reducible repeat' (first
    | exact Kept.refl _ | refine kept_ite ?_ ?_ | refine (State.updFunc_kept ..).after ?_ | refine (State.raiseBit_kept ..).after ?_
    | dsimp only)

theorem State.resetOne_kept (s : State) (f : Nat) : Kept s (State.resetOne s f) := by
  unfold State.resetOne
  with_reducible repeat' (first
    | exact Kept.refl _ | fail_if_no_progress refine kept_mk (by rfl) (by rfl) ?_ | refine kept_ite ?_ ?_
    | refine (State.wrB_kept ..).after ?_ | refine (State.mbxPartyReset_kept ..).after ?_ | refine (State.cfgShownReset_kept ..).after ?_
    | refine (State.updFunc_kept ..).after ?_ | refine (State.tdiError_kept ..).after ?_ | refine (State.abandon_kept ..).after ?_
    | refine (State.emit_kept ..).after ?_ | refine each_kept ?_ (fun _ _ => ?_) | dsimp only | intro _)

theorem State.trustDown_kept (s : State) (a : Nat) : Kept s (State.trustDown s a) := by
  unfold State.trustDown
  with_reducible repeat' (first
    | exact Kept.refl _ | fail_if_no_progress refine kept_mk (by rfl) (by first | rfl | simp only [Grotto.fix]) ?_
    | refine (State.wr_kept ..).after ?_ | dsimp only | split)

theorem State.attDown_kept (s : State) (a : Nat) : Kept s (State.attDown s a) := by
  unfold State.attDown
  with_reducible repeat' (first
    | exact Kept.refl _ | refine kept_ite ?_ ?_ | refine (State.wrB_kept ..).after ?_ | refine (State.setReg_kept ..).after ?_
    | refine (State.resetOne_kept ..).after ?_ | refine (State.trustDown_kept ..).after ?_ | refine (State.raiseBit_kept ..).after ?_
    | refine (State.updLink_kept ..).after ?_ | refine each_kept ?_ (fun _ _ => ?_) | dsimp only | intro _)

theorem State.recoverMode_kept (s : State) : Kept s (State.recoverMode s) := by
  unfold State.recoverMode
  with_reducible repeat' (first
    | exact Kept.refl _ | refine (State.wrB_kept ..).after ?_ | refine (State.wr_kept ..).after ?_ | dsimp only)

theorem State.bankFail_kept (s : State) (code : Nat) : Kept s (State.bankFail s code) := by
  unfold State.bankFail
  with_reducible repeat' (first
    | exact Kept.refl _ | fail_if_no_progress refine kept_mk (by first | rfl | simp only [Board.fix]) (by rfl) ?_ | refine kept_ite ?_ ?_
    | refine (State.wrB_kept ..).after ?_ | refine (State.wr_kept ..).after ?_ | refine (State.recoverMode_kept ..).after ?_ | dsimp only)

theorem State.queuesOff_kept (s : State) (f : Nat) (st : QState) : Kept s (State.queuesOff s f st) := by
  unfold State.queuesOff
  with_reducible repeat' (first
    | exact Kept.refl _ | refine (State.queueHalt_kept ..).after ?_ | refine each_kept ?_ (fun _ _ => ?_) | dsimp only | intro _)

theorem State.bmeOff_kept (s : State) (f : Nat) : Kept s (State.bmeOff s f) := by
  unfold State.bmeOff
  with_reducible repeat' (first
    | exact Kept.refl _ | fail_if_no_progress refine kept_mk (by rfl) (by rfl) ?_ | refine kept_ite ?_ ?_
    | refine (State.tdiError_kept ..).after ?_ | refine (State.queuesOff_kept ..).after ?_ | dsimp only)

theorem State.heldFlush_kept (s : State) (f : Nat) : Kept s (State.heldFlush s f) := by
  unfold State.heldFlush
  with_reducible repeat' (first
    | exact Kept.refl _ | fail_if_no_progress refine kept_mk (by rfl) (by rfl) ?_ | refine (State.admEntry_kept ..).after ?_
    | refine each_kept ?_ (fun _ _ => ?_) | dsimp only | intro _)

theorem State.pbaSend_kept (s : State) (f : Nat) (v : Nat) : Kept s (State.pbaSend s f v) := by
  unfold State.pbaSend
  with_reducible repeat' (first
    | exact Kept.refl _ | refine kept_ite ?_ ?_ | refine (State.setFunc_kept ..).after ?_ | refine (State.emit_kept ..).after ?_
    | dsimp only)

theorem State.pendSend_kept (s : State) (f : Nat) : Kept s (State.pendSend s f) := by
  unfold State.pendSend
  with_reducible repeat' (first
    | exact Kept.refl _ | refine kept_ite ?_ ?_ | refine (State.updFunc_kept ..).after ?_ | refine (State.pbaSend_kept ..).after ?_
    | refine (State.emit_kept ..).after ?_ | refine each_kept ?_ (fun _ _ => ?_) | dsimp only | intro _)

theorem State.bmeOn_kept (s : State) (f : Nat) : Kept s (State.bmeOn s f) := by
  unfold State.bmeOn
  with_reducible repeat' (first
    | exact Kept.refl _ | refine (State.heldFlush_kept ..).after ?_ | refine (State.pendSend_kept ..).after ?_ | dsimp only)

theorem State.linkAen_kept (s : State) (p : Nat) : Kept s (State.linkAen s p) := by
  unfold State.linkAen
  with_reducible repeat' (first
    | exact Kept.refl _ | refine kept_ite ?_ ?_ | refine (State.emit_kept ..).after ?_ | dsimp only)

theorem State.setUp_kept (s : State) (p : Nat) (up : Bool) : Kept s (State.setUp s p up) := by
  unfold State.setUp
  with_reducible repeat' (first
    | exact Kept.refl _ | refine kept_ite ?_ ?_ | refine (State.wrB_kept ..).after ?_ | refine (State.preemptStart_kept ..).after ?_
    | refine (State.linkAen_kept ..).after ?_ | refine (State.wr_kept ..).after ?_ | refine (State.raiseBit_kept ..).after ?_ | dsimp only)

theorem State.portDown_kept (s : State) (p : Nat) : Kept s (State.portDown s p) := by
  unfold State.portDown
  with_reducible repeat' (first
    | exact Kept.refl _ | refine (State.portAbort_kept ..).after ?_ | refine (State.setPrt_kept ..).after ?_
    | refine (State.setUp_kept ..).after ?_ | dsimp only)

theorem State.cageHold_kept (s : State) (k : Nat) (down : Bool) : Kept s (State.cageHold s k down) := by
  unfold State.cageHold
  with_reducible repeat' (first
    | exact Kept.refl _ | refine kept_ite ?_ ?_ | refine (State.portDown_kept ..).after ?_ | refine (State.setPrt_kept ..).after ?_
    | refine each_kept ?_ (fun _ _ => ?_) | dsimp only | intro _)

theorem State.ideShow_kept (s : State) (a : Nat) (k : Nat) : Kept s (State.ideShow s a k) := by
  unfold State.ideShow
  with_reducible repeat' (first
    | exact Kept.refl _ | refine (State.wrB_kept ..).after ?_ | dsimp only)

theorem State.tdiStop_kept (s : State) (f : Nat) : Kept s (State.tdiStop s f) := by
  unfold State.tdiStop
  with_reducible repeat' (first
    | exact Kept.refl _ | fail_if_no_progress refine kept_mk (by rfl) (by rfl) ?_ | refine kept_ite ?_ ?_
    | refine (State.tdiError_kept ..).after ?_ | refine (State.queuesOff_kept ..).after ?_ | dsimp only)

theorem State.updChunk_kept (s : State) (c : Nat) (i : Nat) (g : RopeChunk → RopeChunk) : Kept s (State.updChunk s c i g) := by
  unfold State.updChunk
  with_reducible repeat' (first
    | exact Kept.refl _ | refine kept_ite ?_ ?_ | refine (State.updChan_kept ..).after ?_ | dsimp only)

theorem State.chunkRead_kept (s : State) (c : Nat) (k : RopeChunk) : Kept s (State.chunkRead s c k) := by
  unfold State.chunkRead
  with_reducible repeat' (first
    | exact Kept.refl _ | refine kept_ite ?_ ?_ | refine (State.updChunk_kept ..).after ?_ | refine (State.askRead_kept ..).after ?_
    | dsimp only)

theorem State.spaceWrite_kept (s : State) (c : Nat) (sp : Nat) (a : Nat) (d : List Byte) : Kept s (State.spaceWrite s c sp a d) := by
  unfold State.spaceWrite
  with_reducible repeat' (first
    | exact Kept.refl _ | fail_if_no_progress refine kept_mk (by rfl) (by rfl) ?_ | refine kept_ite ?_ ?_
    | refine (State.hostWrite_kept ..).after ?_ | refine foldl_kept ?_ (fun _ _ => ?_)
    | refine kept_mk2 (List.suffix_refl _) (le_refl _) id (Mem.wf_putBytes _ _) ?_ | dsimp only | split)

theorem State.chunkWrite_kept (s : State) (c : Nat) (k : RopeChunk) (d : List Byte) : Kept s (State.chunkWrite s c k d) := by
  unfold State.chunkWrite
  with_reducible repeat' (first
    | exact Kept.refl _ | refine (State.updChan_kept ..).after ?_ | refine (State.statAdd_kept ..).after ?_
    | refine (State.spaceWrite_kept ..).after ?_ | dsimp only)

theorem State.coreReset_kept (s : State) (who : Nat) : Kept s (State.coreReset s who) := by
  unfold State.coreReset
  with_reducible repeat' (first
    | exact Kept.refl _ | fail_if_no_progress refine kept_mk (by rfl) (by rfl) ?_ | refine (State.mbxPartyReset_kept ..).after ?_
    | dsimp only)

theorem State.setVfRange_kept (s : State) (a : Nat) (first : Nat) (count : Nat) : Kept s (State.setVfRange s a first count) := by
  unfold State.setVfRange
  with_reducible repeat' (first
    | exact Kept.refl _ | refine (State.wr_kept ..).after ?_ | dsimp only)

theorem State.latch_kept (s : State) (w : Nat) : Kept s (State.latch s w) := by
  unfold State.latch
  with_reducible repeat' (first
    | exact Kept.refl _ | fail_if_no_progress refine kept_mk (by rfl) (by rfl) ?_ | refine kept_ite ?_ ?_
    | refine (State.wrB_kept ..).after ?_ | refine (State.setReg_kept ..).after ?_ | refine (State.wr_kept ..).after ?_
    | refine (State.setVfRange_kept ..).after ?_ | refine each_kept ?_ (fun _ _ => ?_) | dsimp only | intro _)

theorem State.fromMram_kept (t : State) (s : State) : Kept t (State.fromMram t s) := by
  unfold State.fromMram
  with_reducible repeat' (first
    | exact Kept.refl _ | refine kept_ite ?_ ?_ | refine (State.wrB_kept ..).after ?_ | refine (State.setReg_kept ..).after ?_
    | refine (State.wr_kept ..).after ?_ | refine each_kept ?_ (fun _ _ => ?_) | dsimp only | intro _)

theorem State.resetTo_kept (s : State) (w : Nat) (cause : Nat) : Kept s (State.resetTo s w cause) := by
  have base : ∀ (u : State) {regs split fst car funcs reads readWait quar links adminOrder held blkInt path
      eng cry tm prt sto rope mbx} {board : Board} {grt : Grotto}, u.board.fix = board.fix → u.grt.fix = grt.fix →
      Kept u (State.mk u.pending u.out u.free regs split u.mem [] fst car funcs reads readWait quar links adminOrder held blkInt
        path eng grt cry tm prt sto rope mbx board) := by
    intro u _ _ _ _ _ _ _ _ _ _ _ _ _ _ _ _ _ _ _ _ _ _ hb hg
    refine ⟨?_, id, fun _ => rfl, List.suffix_refl _, le_refl _⟩
    simp only [Board.fix, Prod.mk.injEq] at hb
    simp only [Grotto.fix] at hg
    obtain ⟨b1, b2, b3, b4, b5, b6⟩ := hb
    simp only [State.fix, b1, b2, b3, b4, b5, b6, hg]
  unfold State.resetTo
  dsimp only
  refine (State.setReg_kept ..).after ?_
  refine (State.wr_kept ..).after ?_
  refine (State.wr_kept ..).after ?_
  refine (State.fromMram_kept ..).after ?_
  refine (State.latch_kept ..).after ?_
  refine Kept.after (base _ rfl rfl) ?_
  exact State.fresh_kept s

theorem State.deviceReset_kept (s : State) (cause : Nat) : Kept s (State.deviceReset s cause) := by
  unfold State.deviceReset
  with_reducible repeat' (first
    | exact Kept.refl _ | refine (State.resetTo_kept ..).after ?_ | dsimp only)

theorem State.ropeDrip_kept (s : State) : Kept s (State.ropeDrip s) := by
  unfold State.ropeDrip
  with_reducible repeat' (first
    | exact Kept.refl _ | refine kept_ite ?_ ?_ | refine (State.updChan_kept ..).after ?_ | refine each_kept ?_ (fun _ _ => ?_)
    | dsimp only | intro _)

theorem State.mbxDrip_kept (s : State) : Kept s (State.mbxDrip s) := by
  unfold State.mbxDrip
  with_reducible repeat' (first
    | exact Kept.refl _ | fail_if_no_progress refine kept_mk (by rfl) (by rfl) ?_ | refine (State.sendInt_kept ..).after ?_
    | refine each_kept ?_ (fun _ _ => ?_) | dsimp only | intro _)

theorem State.tmDrop_kept (s : State) (q : Nat) (id : Nat) : Kept s (State.tmDrop s q id) := by
  unfold State.tmDrop
  with_reducible repeat' (first
    | exact Kept.refl _ | refine (State.leaveRounds_kept ..).after ?_ | refine (State.setTq_kept ..).after ?_
    | refine (State.txDropped_kept ..).after ?_ | refine (State.freeCells_kept ..).after ?_ | dsimp only | split)

theorem State.pathDrop_kept (s : State) (id : Nat) : Kept s (State.pathDrop s id) := by
  unfold State.pathDrop
  with_reducible repeat' (first
    | exact Kept.refl _ | fail_if_no_progress refine kept_mk (by rfl) (by rfl) ?_ | refine kept_ite ?_ ?_
    | refine (State.pktGone_kept ..).after ?_ | refine (State.setInMatch_kept ..).after ?_ | refine (State.txDropped_kept ..).after ?_
    | refine (State.cryOff_kept ..).after ?_ | refine (State.setCore_kept ..).after ?_ | refine (State.cryDrop_kept ..).after ?_
    | refine op_map (fun _ => rfl) ?_ | dsimp only | split)

theorem State.galDrop_kept (s : State) (g : Nat) (id : Nat) : Kept s (State.galDrop s g id) := by
  unfold State.galDrop
  with_reducible repeat' (first
    | exact Kept.refl _ | refine (State.pktGone_kept ..).after ?_ | refine (State.takeOut_kept ..).after ?_
    | refine (State.drain_kept ..).after ?_ | refine (State.setGal_kept ..).after ?_ | dsimp only | split)

theorem State.dropAny_kept (s : State) (id : Nat) : Kept s (State.dropAny s id) := by
  unfold State.dropAny
  with_reducible repeat' (first
    | exact Kept.refl _ | refine (State.tmDrop_kept ..).after ?_ | refine (State.pathDrop_kept ..).after ?_
    | refine (State.galDrop_kept ..).after ?_ | refine each_kept ?_ (fun _ _ => ?_) | dsimp only | intro _)

theorem State.qmPulse_kept (s : State) (f : Nat) (k : Nat) (q : Nat) (data : Nat) : Kept s (State.qmPulse s f k q data) := by
  unfold State.qmPulse
  with_reducible repeat' (first
    | exact Kept.refl _ | fail_if_no_progress refine kept_mk (by rfl) (by rfl) ?_ | refine kept_ite ?_ ?_
    | refine (State.rxDone_kept ..).after ?_ | dsimp only)

theorem State.pulse_kept (s : State) (c : Nat) (t : Nat) (data : Nat) : Kept s (State.pulse s c t data) := by
  unfold State.pulse
  with_reducible repeat' (first
    | exact Kept.refl _ | fail_if_no_progress refine kept_mk (by rfl) (by rfl) ?_ | refine kept_ite ?_ ?_
    | refine (State.qmPulse_kept ..).after ?_ | refine (State.sumpStore_kept ..).after ?_ | refine (State.setEvents_kept ..).after ?_
    | refine (State.wr_kept ..).after ?_ | dsimp only | split)

theorem State.dueSend_kept (s : State) (c : Nat) : Kept s (State.dueSend s c) := by
  unfold State.dueSend
  with_reducible repeat' (first
    | exact Kept.refl _ | refine (State.pulse_kept ..).after ?_ | refine (State.updChan_kept ..).after ?_ | dsimp only | split)

theorem State.mbxRead_kept (s : State) (who : Nat) (rid : Nat) (m : Nat) (c : Nat) (w : Nat) : Kept s (State.mbxRead s who rid m c w).2 := by
  unfold State.mbxRead
  with_reducible repeat' (first
    | exact Kept.refl _ | refine kept_ite ?_ ?_ | refine (State.mbxDeny_kept ..).after ?_ | refine (State.mbxEmpty_kept ..).after ?_
    | refine (State.mbxChange_kept ..).after ?_ | dsimp only | split)

theorem State.fabricRead_kept (s : State) (who : Nat) (rid : Nat) (off : Nat) (high : Bool) : Kept s (State.fabricRead s who rid off high).2 := by
  unfold State.fabricRead
  with_reducible repeat' (first
    | exact Kept.refl _ | refine kept_ite ?_ ?_ | refine (State.mbxRead_kept ..).after ?_ | refine pair_kept (by assumption) ?_
    | dsimp only | split)

theorem State.mbxMap_kept (s : State) (b : Nat) : Kept s (State.mbxMap s b) := by
  unfold State.mbxMap
  with_reducible repeat' (first
    | exact Kept.refl _ | refine kept_ite ?_ ?_ | refine (State.wr_kept ..).after ?_ | refine each_kept ?_ (fun _ _ => ?_) | dsimp only
    | intro _)

theorem State.fillRegions_kept (s : State) : Kept s (State.fillRegions s) := by
  unfold State.fillRegions
  with_reducible repeat' (first
    | exact Kept.refl _ | fail_if_no_progress refine kept_mk (by first | rfl | simp only [Board.fix]) (by rfl) ?_ | refine kept_ite ?_ ?_
    | refine (State.setReg_kept ..).after ?_ | refine (State.wr_kept ..).after ?_ | refine (State.mbxMap_kept ..).after ?_
    | refine (State.setVfRange_kept ..).after ?_ | refine each_kept ?_ (fun _ _ => ?_) | dsimp only | intro _)

theorem State.finishSmall_kept (s : State) (c : Nat) (y2 : List RopeChunk) : Kept s (State.finishSmall s c y2) := by
  induction y2 generalizing s c with
  | nil =>
    unfold State.finishSmall
    with_reducible repeat' (first
      | exact Kept.refl _ | refine kept_ite ?_ ?_ | refine (State.spaceWrite_kept ..).after ?_ | dsimp only | split)
  | cons a l ih =>
    unfold State.finishSmall
    with_reducible repeat' (first
      | exact Kept.refl _ | refine kept_ite ?_ ?_ | refine (ih ..).after ?_ | refine (State.spaceWrite_kept ..).after ?_ | dsimp only
      | split)

theorem State.thermEntry_kept (s : State) (cause : Nat) : Kept s (State.thermEntry s cause) := by
  unfold State.thermEntry
  with_reducible repeat' (first
    | exact Kept.refl _ | refine (State.fault_kept ..).after ?_ | dsimp only)

theorem State.floorCheck_kept (s : State) : Kept s (State.floorCheck s) := by
  unfold State.floorCheck
  with_reducible repeat' (first
    | exact Kept.refl _ | refine kept_ite ?_ ?_ | refine (State.thermEntry_kept ..).after ?_ | refine (State.raise_kept ..).after ?_
    | dsimp only)

theorem State.spdmErr_kept (s : State) (c : Nat) (code : Nat) : Kept s (State.spdmErr s c code) := by
  unfold State.spdmErr
  with_reducible repeat' (first
    | exact Kept.refl _ | refine (State.err_kept ..).after ?_ | refine (State.emit_kept ..).after ?_ | dsimp only)

theorem State.setSess_kept (s : State) (n : Nat) (x : Option SpdmSess) : Kept s (State.setSess s n x) := by
  unfold State.setSess
  with_reducible repeat' (first
    | exact Kept.refl _ | fail_if_no_progress refine kept_mk (by rfl) (by first | rfl | simp only [Grotto.fix]) ?_
    | refine (State.wr_kept ..).after ?_ | dsimp only)

theorem State.secured_kept (s : State) (c : Nat) (n : Nat) (good : Bool) (k : State → SpdmSess → State) (hk : ∀ x0 x1, Kept x0 (k x0 x1)) : Kept s (State.secured s c n good k) := by
  unfold State.secured
  with_reducible repeat' (first
    | exact Kept.refl _ | refine kept_ite ?_ ?_ | refine (hk ..).after ?_ | exact hk .. | refine (State.err_kept ..).after ?_
    | refine (State.spdmErr_kept ..).after ?_ | refine (State.setSess_kept ..).after ?_ | dsimp only | split)

theorem State.inSession_kept (s : State) (c : Nat) (n : Nat) (good : Bool) (k : State → SpdmSess → State) (hk : ∀ x0 x1, Kept x0 (k x0 x1)) : Kept s (State.inSession s c n good k) := by
  unfold State.inSession
  with_reducible repeat' (first
    | exact Kept.refl _ | refine kept_ite ?_ ?_ | refine (hk ..).after ?_ | exact hk .. | refine (State.spdmErr_kept ..).after ?_
    | refine (State.secured_kept (hk := ?_) ..).after ?_ | dsimp only | intro _)

theorem State.linkFails_kept (s : State) (p : Nat) : Kept s (State.linkFails s p) := by
  unfold State.linkFails
  with_reducible repeat' (first
    | exact Kept.refl _ | refine kept_ite ?_ ?_ | refine (State.portAbort_kept ..).after ?_ | refine (State.portDown_kept ..).after ?_
    | refine (State.setPrt_kept ..).after ?_ | dsimp only)

theorem State.pfcRx_kept (s : State) (p : Nat) (vec : Nat) (times : List Nat) : Kept s (State.pfcRx s p vec times) := by
  unfold State.pfcRx
  with_reducible repeat' (first
    | exact Kept.refl _ | refine kept_ite ?_ ?_ | refine (State.setPrt_kept ..).after ?_ | refine (State.stat_kept ..).after ?_
    | refine each_kept ?_ (fun _ _ => ?_) | dsimp only | intro _)

theorem State.macCtrl_kept (s : State) (p : Nat) (l : List Byte) : Kept s (State.macCtrl s p l) := by
  unfold State.macCtrl
  with_reducible repeat' (first
    | exact Kept.refl _ | refine kept_ite ?_ ?_ | refine (State.err_kept ..).after ?_ | refine (State.stat_kept ..).after ?_
    | refine (State.pfcRx_kept ..).after ?_ | dsimp only)

theorem State.meas5_kept (s : State) : Kept s (State.meas5 s) := by
  unfold State.meas5
  with_reducible repeat' (first
    | exact Kept.refl _ | refine (State.setMeas_kept ..).after ?_ | dsimp only)

theorem State.setCage_kept (s : State) (k : Nat) (c : Cage) : Kept s (State.setCage s k c) := by
  unfold State.setCage
  with_reducible repeat' (first
    | exact Kept.refl _ | fail_if_no_progress refine kept_mk (by rfl) (by rfl) ?_ | dsimp only)

theorem State.moduleService_kept (s : State) (k : Nat) (nack : Bool) (temp : Nat) : Kept s (State.moduleService s k nack temp) := by
  unfold State.moduleService
  with_reducible repeat' (first
    | exact Kept.refl _ | refine kept_ite ?_ ?_ | refine (State.setCage_kept ..).after ?_ | refine (State.wr_kept ..).after ?_
    | dsimp only)

theorem State.ncDrain_kept (s : State) : Kept s (State.ncDrain s) := by
  unfold State.ncDrain
  with_reducible repeat' (first
    | exact Kept.refl _ | fail_if_no_progress refine kept_mk (by rfl) (by rfl) ?_ | refine kept_ite ?_ ?_
    | refine (State.emit_kept ..).after ?_ | dsimp only | split)

theorem State.ncRx_kept (s : State) (p : Nat) (l : List Byte) : Kept s (State.ncRx s p l) := by
  unfold State.ncRx
  with_reducible repeat' (first
    | exact Kept.refl _ | fail_if_no_progress refine kept_mk (by rfl) (by rfl) ?_ | refine kept_ite ?_ ?_
    | refine (State.updNc_kept ..).after ?_ | dsimp only)

theorem State.park_kept (s : State) (x : Nat × Nat × Nat) : Kept s (State.park s x) := by
  unfold State.park
  with_reducible repeat' (first
    | exact Kept.refl _ | refine (State.moveQueued_kept ..).after ?_ | refine (State.wr_kept ..).after ?_
    | refine each_kept ?_ (fun _ _ => ?_) | dsimp only | intro _)

theorem State.placesLost_kept (s : State) (tab : Nat) (places : List Nat) : Kept s (State.placesLost s tab places) := by
  unfold State.placesLost
  with_reducible repeat' (first
    | exact Kept.refl _ | fail_if_no_progress refine kept_mk (by rfl) (by rfl) ?_ | refine kept_ite ?_ ?_
    | refine (State.setFlow_kept ..).after ?_ | refine (State.cacheDrop_kept ..).after ?_ | refine each_kept ?_ (fun _ _ => ?_)
    | dsimp only | intro _)

theorem State.portDeliver_kept (s : State) (p : Nat) (f : RxFrame) : Kept s (State.portDeliver s p f) := by
  unfold State.portDeliver
  with_reducible repeat' (first
    | exact Kept.refl _ | refine kept_ite ?_ ?_ | refine (State.toParse_kept ..).after ?_ | refine (State.ncRx_kept ..).after ?_
    | dsimp only | split)

theorem State.portFrame_kept (s : State) (p : Nat) (r : PortRx) : Kept s (State.portFrame s p r) := by
  unfold State.portFrame
  with_reducible repeat' (first
    | exact Kept.refl _ | refine kept_ite ?_ ?_ | refine (State.err_kept ..).after ?_ | refine (State.macCtrl_kept ..).after ?_
    | refine (State.setPrt_kept ..).after ?_ | refine (State.statAdd_kept ..).after ?_ | refine (State.stat_kept ..).after ?_
    | refine (State.portDeliver_kept ..).after ?_ | dsimp only)

theorem State.portsConfigure_kept (s : State) (lane : Nat) (an : List Nat) : Kept s (State.portsConfigure s lane an) := by
  unfold State.portsConfigure
  with_reducible repeat' (first
    | exact Kept.refl _ | refine kept_ite ?_ ?_ | refine (State.setReg_kept ..).after ?_ | refine (State.anBegin_kept ..).after ?_
    | refine (State.wr_kept ..).after ?_ | refine (State.raise_kept ..).after ?_ | refine each_kept ?_ (fun _ _ => ?_) | dsimp only
    | intro _)

theorem State.ropeGone_kept (s : State) (c : Nat) (r : RopeReq) : Kept s (State.ropeGone s c r) := by
  unfold State.ropeGone
  with_reducible repeat' (first
    | exact Kept.refl _ | refine kept_ite ?_ ?_ | refine (State.rxGone_kept ..).after ?_ | refine each_kept ?_ (fun _ _ => ?_)
    | dsimp only | intro _ | split)

theorem State.ropeDrop_kept (s : State) (c : Nat) (r : RopeReq) : Kept s (State.ropeDrop s c r) := by
  unfold State.ropeDrop
  with_reducible repeat' (first
    | exact Kept.refl _ | fail_if_no_progress refine kept_mk (by rfl) (by rfl) ?_ | refine kept_ite ?_ ?_
    | refine (State.updChan_kept ..).after ?_ | dsimp only | split)

theorem State.ropeFinish_kept (s : State) (c : Nat) (result : Nat) : Kept s (State.ropeFinish s c result) := by
  unfold State.ropeFinish
  with_reducible repeat' (first
    | exact Kept.refl _ | refine kept_ite ?_ ?_ | refine (State.pulse_kept ..).after ?_ | refine (State.err_kept ..).after ?_
    | refine (State.updChan_kept ..).after ?_ | refine (State.ropeGone_kept ..).after ?_ | refine (State.wr_kept ..).after ?_
    | refine (State.setRst_kept ..).after ?_ | refine (State.ropeDrop_kept ..).after ?_ | refine (State.raise_kept ..).after ?_
    | refine (State.stat_kept ..).after ?_ | dsimp only | split)

theorem State.ropeGot_kept (s : State) (a : Nat) (c : Nat) (i : Nat) : Kept s (State.ropeGot s a c i) := by
  unfold State.ropeGot
  with_reducible repeat' (first
    | exact Kept.refl _ | refine (State.updChunk_kept ..).after ?_ | dsimp only)

theorem State.resetFunc_kept (s : State) (f : Nat) : Kept s (State.resetFunc s f) := by
  unfold State.resetFunc
  with_reducible repeat' (first
    | exact Kept.refl _ | refine kept_ite ?_ ?_ | refine (State.resetOne_kept ..).after ?_ | refine each_kept ?_ (fun _ _ => ?_)
    | dsimp only | intro _)

theorem State.retake_kept (s : State) (m : InMatch) : Kept s (State.retake s m) := by
  unfold State.retake
  with_reducible repeat' (first
    | exact Kept.refl _ | fail_if_no_progress refine kept_mk (by rfl) (by rfl) ?_ | refine kept_ite ?_ ?_
    | refine (State.inflightSub_kept ..).after ?_ | dsimp only)

theorem State.returnAll_kept (s : State) (f : Nat) : Kept s (State.returnAll s f) := by
  unfold State.returnAll
  with_reducible repeat' (first
    | exact Kept.refl _ | refine (State.tmStore_kept ..).after ?_ | refine (State.updFunc_kept ..).after ?_
    | refine each_kept ?_ (fun _ _ => ?_) | dsimp only | intro _)

theorem State.ropeGo_kept (s : State) (c : Nat) (i : Nat) : Kept s (State.ropeGo s c i) := by
  unfold State.ropeGo
  with_reducible repeat' (first
    | exact Kept.refl _ | refine (State.setChan_kept ..).after ?_ | refine (State.wr_kept ..).after ?_ | dsimp only)

theorem State.ropeInstr_kept (s : State) (c : Nat) (op : Nat) (k : State → Nat → Nat → Nat → State) (hk : ∀ x0 x1 x2 x3, Kept x0 (k x0 x1 x2 x3)) : Kept s (State.ropeInstr s c op k) := by
  unfold State.ropeInstr
  with_reducible repeat' (first
    | exact Kept.refl _ | refine kept_ite ?_ ?_ | refine (hk ..).after ?_ | exact hk .. | refine (State.ropeFinish_kept ..).after ?_
    | dsimp only)

theorem State.ropeSwap_kept (s : State) (c : Nat) (d : Nat) : Kept s (State.ropeSwap s c d) := by
  unfold State.ropeSwap
  with_reducible repeat' (first
    | exact Kept.refl _ | fail_if_no_progress refine kept_mk (by rfl) (by rfl) ?_ | refine kept_ite ?_ ?_
    | refine (State.setReg_kept ..).after ?_ | refine (State.setChan_kept ..).after ?_ | refine (State.wr_kept ..).after ?_
    | refine (State.setRst_kept ..).after ?_ | dsimp only | split)

theorem State.secyDrop_kept (s : State) (p : Nat) (f : TxFrame) : Kept s (State.secyDrop s p f) := by
  unfold State.secyDrop
  with_reducible repeat' (first
    | exact Kept.refl _ | refine (State.txDropped_kept ..).after ?_ | refine (State.freeCells_kept ..).after ?_
    | refine (State.setPrt_kept ..).after ?_ | dsimp only)

theorem State.setMstate_kept (s : State) (k : Nat) (v : Nat) : Kept s (State.setMstate s k v) := by
  unfold State.setMstate
  with_reducible repeat' (first
    | exact Kept.refl _ | refine kept_ite ?_ ?_ | refine (State.wr_kept ..).after ?_ | refine (State.raise_kept ..).after ?_ | dsimp only)

theorem State.setSpdm_kept (s : State) (c : Nat) (x : SpdmConn) : Kept s (State.setSpdm s c x) := by
  unfold State.setSpdm
  with_reducible repeat' (first
    | exact Kept.refl _ | fail_if_no_progress refine kept_mk (by rfl) (by first | rfl | simp only [Grotto.fix]) ?_ | dsimp only)

theorem State.spdmReq_kept (s : State) (c : Nat) (ver : Nat) (phase : Nat) (ok : Bool) (k : State → State) (hk : ∀ x0, Kept x0 (k x0)) : Kept s (State.spdmReq s c ver phase ok k) := by
  unfold State.spdmReq
  with_reducible repeat' (first
    | exact Kept.refl _ | refine kept_ite ?_ ?_ | refine (hk ..).after ?_ | exact hk .. | refine (State.spdmErr_kept ..).after ?_
    | dsimp only)

theorem State.vendor_kept (s : State) (c : Nat) (l : List Nat) : Kept s (State.vendor s c l) := by
  unfold State.vendor
  with_reducible repeat' (first
    | exact Kept.refl _ | refine (State.emit_kept ..).after ?_ | dsimp only)

theorem State.tdiRefuse_kept (s : State) (c : Nat) : Kept s (State.tdiRefuse s c) := by
  unfold State.tdiRefuse
  with_reducible repeat' (first
    | exact Kept.refl _ | refine (State.vendor_kept ..).after ?_ | dsimp only)

theorem State.train_kept (s : State) (a : Nat) (rate : Nat) (width : Nat) (flit : Bool) (rev : Bool) : Kept s (State.train s a rate width flit rev) := by
  unfold State.train
  with_reducible repeat' (first
    | exact Kept.refl _ | refine kept_ite ?_ ?_ | refine (State.wrB_kept ..).after ?_ | refine (State.wr_kept ..).after ?_
    | refine (State.raiseBit_kept ..).after ?_ | refine (State.updLink_kept ..).after ?_ | dsimp only)

theorem State.unpark_kept (s : State) (x : Nat × Nat × Nat) : Kept s (State.unpark s x) := by
  unfold State.unpark
  with_reducible repeat' (first
    | exact Kept.refl _ | refine kept_ite ?_ ?_ | refine (State.wr_kept ..).after ?_ | refine (State.drain_kept ..).after ?_ | dsimp only
    | split)

theorem execRopeWaitRelease_kept (c : Nat) (s : State) : OutKept s (execRopeWaitRelease c s) := by
  unfold execRopeWaitRelease
  with_reducible repeat' (first
    | exact Kept.refl _ | refine out_next ?_ | refine kept_ite ?_ ?_ | refine out_ite ?_ ?_ | refine (State.wr_kept ..).after ?_
    | refine (State.setRst_kept ..).after ?_ | refine (State.ropeGo_kept ..).after ?_ | dsimp only)

theorem execGetDeviceInterfaceReport_kept (c : Nat) (n : Nat) (f : Nat) (good : Bool) (s : State) : OutKept s (execGetDeviceInterfaceReport c n f good s) := by
  unfold execGetDeviceInterfaceReport
  with_reducible repeat' (first
    | exact Kept.refl _ | refine out_next ?_ | refine kept_ite ?_ ?_ | refine out_ite ?_ ?_ | refine (State.vendor_kept ..).after ?_
    | refine (State.tdiRefuse_kept ..).after ?_ | refine (State.inSession_kept (hk := ?_) ..).after ?_ | dsimp only | intro _)

theorem execIdeCheckFail_kept (a : Nat) (k : Nat) (s : State) : OutKept s (execIdeCheckFail a k s) := by
  unfold execIdeCheckFail
  with_reducible repeat' (first
    | exact Kept.refl _ | refine out_next ?_ | fail_if_no_progress refine kept_mk (by rfl) (by rfl) ?_ | refine kept_ite ?_ ?_
    | refine out_ite ?_ ?_ | refine (State.err_kept ..).after ?_ | refine (State.wrB_kept ..).after ?_
    | refine (State.tdiError_kept ..).after ?_ | refine (State.queuesOff_kept ..).after ?_ | refine (State.raiseBit_kept ..).after ?_
    | refine (State.aerSet_kept ..).after ?_ | refine each_kept ?_ (fun _ _ => ?_) | dsimp only | intro _)

theorem execFlrInitiate_kept (f : Nat) (s : State) : OutKept s (execFlrInitiate f s) := by
  unfold execFlrInitiate
  with_reducible repeat' (first
    | exact Kept.refl _ | refine out_next ?_ | refine (State.resetFunc_kept ..).after ?_ | dsimp only)

theorem execNcsiRefclkReturn_kept (s : State) : OutKept s (execNcsiRefclkReturn s) := by
  unfold execNcsiRefclkReturn
  with_reducible repeat' (first
    | exact Kept.refl _ | refine out_next ?_ | fail_if_no_progress refine kept_mk (by first | rfl | simp only [Board.fix]) (by rfl) ?_
    | refine kept_ite ?_ ?_ | refine out_ite ?_ ?_ | refine (State.emit_kept ..).after ?_ | dsimp only)

theorem execSecyRegisterWrite_kept (off : Nat) (v : Word) (s : State) : OutKept s (execSecyRegisterWrite off v s) := by
  unfold execSecyRegisterWrite
  with_reducible repeat' (first
    | exact Kept.refl _ | refine out_next ?_ | refine (State.secyWrite_kept ..).after ?_ | dsimp only)

theorem execSpdmGetCapabilities_kept (c : Nat) (ver : Nat) (ok : Bool) (s : State) : OutKept s (execSpdmGetCapabilities c ver ok s) := by
  unfold execSpdmGetCapabilities
  with_reducible repeat' (first
    | exact Kept.refl _ | refine out_next ?_ | refine kept_ite ?_ ?_ | refine out_ite ?_ ?_ | refine (State.spdmErr_kept ..).after ?_
    | refine (State.setSpdm_kept ..).after ?_ | refine (State.spdmReq_kept (hk := ?_) ..).after ?_ | refine (State.emit_kept ..).after ?_
    | dsimp only | intro _)

theorem execSpdmNegotiateAlgorithms_kept (c : Nat) (ver : Nat) (common : Bool) (ok : Bool) (s : State) : OutKept s (execSpdmNegotiateAlgorithms c ver common ok s) := by
  unfold execSpdmNegotiateAlgorithms
  with_reducible repeat' (first
    | exact Kept.refl _ | refine out_next ?_ | refine kept_ite ?_ ?_ | refine out_ite ?_ ?_ | refine (State.spdmErr_kept ..).after ?_
    | refine (State.setSpdm_kept ..).after ?_ | refine (State.spdmReq_kept (hk := ?_) ..).after ?_ | refine (State.emit_kept ..).after ?_
    | dsimp only | intro _)

theorem execMatchLaneFault_kept (id : Nat) (cause : Nat) (s : State) : OutKept s (execMatchLaneFault id cause s) := by
  unfold execMatchLaneFault
  with_reducible repeat' (first
    | exact Kept.refl _ | refine out_next ?_ | refine kept_ite ?_ ?_ | refine out_ite ?_ ?_ | refine (State.setInMatch_kept ..).after ?_
    | refine (State.retake_kept ..).after ?_ | refine (State.laneFaultEntry_kept ..).after ?_ | refine (State.newCorr_kept ..).after ?_
    | refine (State.wr_kept ..).after ?_ | refine (State.raise_kept ..).after ?_ | refine each_kept ?_ (fun _ _ => ?_)
    | refine pair_kept (by assumption) ?_ | dsimp only | intro _ | split)

theorem execRopeEnd_kept (c : Nat) (s : State) : OutKept s (execRopeEnd c s) := by
  unfold execRopeEnd
  with_reducible repeat' (first
    | exact Kept.refl _ | refine out_next ?_ | refine kept_ite ?_ ?_ | refine out_ite ?_ ?_ | refine (State.pulse_kept ..).after ?_
    | refine (State.ropeFinish_kept ..).after ?_ | refine (State.ropeInstr_kept (hk := ?_) ..).after ?_ | dsimp only | intro _)

theorem execIdeKmKeyProg_kept (c : Nat) (n : Nat) (a : Nat) (k : Nat) (b : Nat) (key : Nat) (good : Bool) (s : State) : OutKept s (execIdeKmKeyProg c n a k b key good s) := by
  unfold execIdeKmKeyProg
  with_reducible repeat' (first
    | exact Kept.refl _ | refine out_next ?_ | fail_if_no_progress refine kept_mk (by rfl) (by first | rfl | simp only [Grotto.fix]) ?_
    | refine kept_ite ?_ ?_ | refine out_ite ?_ ?_ | refine (State.vendor_kept ..).after ?_ | refine (State.spdmErr_kept ..).after ?_
    | refine (State.fresh_kept ..).after ?_ | refine (State.inSession_kept (hk := ?_) ..).after ?_ | refine pair_kept (by assumption) ?_
    | dsimp only | intro _ | split)

theorem execBmeSet_kept (f : Nat) (s : State) : OutKept s (execBmeSet f s) := by
  unfold execBmeSet
  with_reducible repeat' (first
    | exact Kept.refl _ | refine out_next ?_ | refine (State.bmeOn_kept ..).after ?_ | refine (State.updFunc_kept ..).after ?_
    | dsimp only)

theorem execMbxSlotStore_kept (who : Nat) (rid : Nat) (m : Nat) (c : Nat) (w : Nat) (v : Word) (s : State) : OutKept s (execMbxSlotStore who rid m c w v s) := by
  unfold execMbxSlotStore
  with_reducible repeat' (first
    | exact Kept.refl _ | refine out_next ?_ | refine kept_ite ?_ ?_ | refine out_ite ?_ ?_ | refine (State.barRefuse_kept ..).after ?_
    | refine (State.mbxStore_kept ..).after ?_ | dsimp only)

theorem execModuleAccessDone_kept (a : Nat) (nack : Bool) (data : Nat) (s : State) : OutKept s (execModuleAccessDone a nack data s) := by
  unfold execModuleAccessDone
  with_reducible repeat' (first
    | exact Kept.refl _ | refine out_next ?_ | refine kept_ite ?_ ?_ | refine out_ite ?_ ?_ | refine (State.wrB_kept ..).after ?_
    | refine (State.setReg_kept ..).after ?_ | refine (State.wr_kept ..).after ?_ | dsimp only)

theorem execModulePoll_kept (k : Nat) (nack : Bool) (temp : Nat) (s : State) : OutKept s (execModulePoll k nack temp s) := by
  unfold execModulePoll
  with_reducible repeat' (first
    | exact Kept.refl _ | refine out_next ?_ | refine (State.moduleService_kept ..).after ?_ | dsimp only)

theorem execPerstAssert_kept (a : Nat) (s : State) : OutKept s (execPerstAssert a s) := by
  unfold execPerstAssert
  with_reducible repeat' (first
    | exact Kept.refl _ | refine out_next ?_ | refine kept_ite ?_ ?_ | refine out_ite ?_ ?_ | refine (State.attDown_kept ..).after ?_
    | refine (State.updLink_kept ..).after ?_ | dsimp only)

theorem execSmbusMctpRx_kept (addr : Nat) (pecOk : Bool) (s : State) : OutKept s (execSmbusMctpRx addr pecOk s) := by
  unfold execSmbusMctpRx
  with_reducible repeat' (first
    | exact Kept.refl _ | refine out_next ?_ | refine kept_ite ?_ ?_ | refine out_ite ?_ ?_ | refine (State.emit_kept ..).after ?_
    | dsimp only)

theorem execFaultSequenceRx_kept (p : Nat) (kind : Nat) (s : State) : OutKept s (execFaultSequenceRx p kind s) := by
  unfold execFaultSequenceRx
  with_reducible repeat' (first
    | exact Kept.refl _ | refine out_next ?_ | refine kept_ite ?_ ?_ | refine out_ite ?_ ?_ | refine (State.wrB_kept ..).after ?_
    | refine (State.linkFails_kept ..).after ?_ | refine (State.raiseBit_kept ..).after ?_ | refine (State.emit_kept ..).after ?_
    | dsimp only)

theorem execSpdmUnsupportedRequest_kept (c : Nat) (s : State) : OutKept s (execSpdmUnsupportedRequest c s) := by
  unfold execSpdmUnsupportedRequest
  with_reducible repeat' (first
    | exact Kept.refl _ | refine out_next ?_ | refine kept_ite ?_ ?_ | refine out_ite ?_ ?_ | refine (State.spdmErr_kept ..).after ?_
    | dsimp only)

theorem execPcieRefclkLoss_kept (a : Nat) (s : State) : OutKept s (execPcieRefclkLoss a s) := by
  unfold execPcieRefclkLoss
  with_reducible repeat' (first
    | exact Kept.refl _ | refine out_next ?_ | refine kept_ite ?_ ?_ | refine out_ite ?_ ?_ | refine (State.attDown_kept ..).after ?_
    | refine (State.updLink_kept ..).after ?_ | dsimp only)

theorem execLaneTrainingDone_kept (p : Nat) (ok : Bool) (s : State) : OutKept s (execLaneTrainingDone p ok s) := by
  unfold execLaneTrainingDone
  with_reducible repeat' (first
    | exact Kept.refl _ | refine out_next ?_ | refine kept_ite ?_ ?_ | refine out_ite ?_ ?_ | refine (State.err_kept ..).after ?_
    | refine (State.anBegin_kept ..).after ?_ | refine (State.wr_kept ..).after ?_ | refine (State.setPrt_kept ..).after ?_ | dsimp only)

theorem execBmeClear_kept (f : Nat) (s : State) : OutKept s (execBmeClear f s) := by
  unfold execBmeClear
  with_reducible repeat' (first
    | exact Kept.refl _ | refine out_next ?_ | refine kept_ite ?_ ?_ | refine out_ite ?_ ?_ | refine (State.bmeOff_kept ..).after ?_
    | refine (State.updFunc_kept ..).after ?_ | dsimp only)

theorem execPcieLinkDown_kept (a : Nat) (s : State) : OutKept s (execPcieLinkDown a s) := by
  unfold execPcieLinkDown
  with_reducible repeat' (first
    | exact Kept.refl _ | refine out_next ?_ | refine kept_ite ?_ ?_ | refine out_ite ?_ ?_ | refine (State.attDown_kept ..).after ?_
    | dsimp only)

theorem execD3hotEntry_kept (f : Nat) (s : State) : OutKept s (execD3hotEntry f s) := by
  unfold execD3hotEntry
  with_reducible repeat' (first
    | exact Kept.refl _ | refine out_next ?_ | refine kept_ite ?_ ?_ | refine out_ite ?_ ?_ | refine (State.bmeOff_kept ..).after ?_
    | refine (State.wr_kept ..).after ?_ | refine (State.updFunc_kept ..).after ?_ | dsimp only)

theorem execHifReadySet_kept (ms : Nat) (s : State) : OutKept s (execHifReadySet ms s) := by
  unfold execHifReadySet
  with_reducible repeat' (first
    | exact Kept.refl _ | refine out_next ?_ | refine kept_ite ?_ ?_ | refine out_ite ?_ ?_ | refine (State.wrB_kept ..).after ?_
    | refine (State.fillRegions_kept ..).after ?_ | refine (State.wr_kept ..).after ?_ | dsimp only)

theorem execEthRefclkReturn_kept (s : State) : OutKept s (execEthRefclkReturn s) := by
  unfold execEthRefclkReturn
  with_reducible repeat' (first
    | exact Kept.refl _ | refine out_next ?_ | fail_if_no_progress refine kept_mk (by first | rfl | simp only [Board.fix]) (by rfl) ?_
    | refine kept_ite ?_ ?_ | refine out_ite ?_ ?_ | refine (State.anBegin_kept ..).after ?_ | refine each_kept ?_ (fun _ _ => ?_)
    | dsimp only | intro _)

theorem execRopeLoop_kept (c : Nat) (s : State) : OutKept s (execRopeLoop c s) := by
  unfold execRopeLoop
  with_reducible repeat' (first
    | exact Kept.refl _ | refine out_next ?_ | refine kept_ite ?_ ?_ | refine out_ite ?_ ?_ | refine (State.ropeFinish_kept ..).after ?_
    | refine (State.setChan_kept ..).after ?_ | refine (State.wr_kept ..).after ?_ | refine (State.ropeInstr_kept (hk := ?_) ..).after ?_
    | refine (State.ropeGo_kept ..).after ?_ | dsimp only | intro _)

theorem execPfcFrameRx_kept (p : Nat) (vec : Nat) (times : List Nat) (s : State) : OutKept s (execPfcFrameRx p vec times s) := by
  unfold execPfcFrameRx
  with_reducible repeat' (first
    | exact Kept.refl _ | refine out_next ?_ | refine (State.pfcRx_kept ..).after ?_ | dsimp only)

theorem execPfcRefresh_kept (p : Nat) (s : State) : OutKept s (execPfcRefresh p s) := by
  unfold execPfcRefresh
  with_reducible repeat' (first
    | exact Kept.refl _ | refine out_next ?_ | refine kept_ite ?_ ?_ | refine out_ite ?_ ?_ | refine (State.ctlFrame_kept ..).after ?_
    | dsimp only)

theorem execModuleInsert_kept (k : Nat) (rev : Nat) (app : Option Nat) (temp : Nat) (s : State) : OutKept s (execModuleInsert k rev app temp s) := by
  unfold execModuleInsert
  with_reducible repeat' (first
    | exact Kept.refl _ | refine out_next ?_ | refine kept_ite ?_ ?_ | refine out_ite ?_ ?_ | refine (State.wrB_kept ..).after ?_
    | refine (State.setCage_kept ..).after ?_ | refine (State.wr_kept ..).after ?_ | refine (State.cageHold_kept ..).after ?_
    | refine (State.setMstate_kept ..).after ?_ | dsimp only | split)

theorem execRopeMove_kept (c : Nat) (s : State) : OutKept s (execRopeMove c s) := by
  unfold execRopeMove
  with_reducible repeat' (first
    | exact Kept.refl _ | refine out_next ?_ | refine kept_ite ?_ ?_ | refine out_ite ?_ ?_ | refine (State.ropeFinish_kept ..).after ?_
    | refine (State.setChan_kept ..).after ?_ | refine (State.ropeInstr_kept (hk := ?_) ..).after ?_
    | refine (State.ropeGo_kept ..).after ?_ | dsimp only | intro _)

theorem execMgmtRefclkReturn_kept (s : State) : OutKept s (execMgmtRefclkReturn s) := by
  unfold execMgmtRefclkReturn
  with_reducible repeat' (first
    | exact Kept.refl _ | refine out_next ?_ | fail_if_no_progress refine kept_mk (by first | rfl | simp only [Board.fix]) (by rfl) ?_
    | dsimp only)

theorem execPortLinkUp_kept (p : Nat) (s : State) : OutKept s (execPortLinkUp p s) := by
  unfold execPortLinkUp
  with_reducible repeat' (first
    | exact Kept.refl _ | refine out_next ?_ | refine kept_ite ?_ ?_ | refine out_ite ?_ ?_ | refine (State.setPrt_kept ..).after ?_
    | dsimp only)

theorem execRopeChunkWrite_kept (e : Nat) (s : State) : OutKept s (execRopeChunkWrite e s) := by
  unfold execRopeChunkWrite
  with_reducible repeat' (first
    | exact Kept.refl _ | refine out_next ?_ | fail_if_no_progress refine kept_mk (by rfl) (by rfl) ?_
    | refine (State.chunkWrite_kept ..).after ?_ | dsimp only | split)

theorem execFlrComplete_kept (f : Nat) (s : State) : OutKept s (execFlrComplete f s) := by
  unfold execFlrComplete
  with_reducible repeat' (first
    | exact Kept.refl _ | refine out_next ?_ | refine kept_ite ?_ ?_ | refine out_ite ?_ ?_ | refine (State.admDone_kept ..).after ?_
    | refine (State.stoReset_kept ..).after ?_ | refine (State.updFunc_kept ..).after ?_ | refine (State.cryReset_kept ..).after ?_
    | refine (State.stat_kept ..).after ?_ | refine (State.returnAll_kept ..).after ?_ | dsimp only | split)

theorem execWinSwap_kept (a : Nat) (s : State) : OutKept s (execWinSwap a s) := by
  unfold execWinSwap
  with_reducible repeat' (first
    | exact Kept.refl _ | refine out_next ?_ | refine kept_ite ?_ ?_ | refine out_ite ?_ ?_ | refine (State.wrB_kept ..).after ?_
    | refine (State.setReg_kept ..).after ?_ | refine (State.updLink_kept ..).after ?_ | refine each_kept ?_ (fun _ _ => ?_) | dsimp only
    | intro _)

theorem execMgmtRefclkLoss_kept (s : State) : OutKept s (execMgmtRefclkLoss s) := by
  unfold execMgmtRefclkLoss
  with_reducible repeat' (first
    | exact Kept.refl _ | refine out_next ?_ | fail_if_no_progress refine kept_mk (by first | rfl | simp only [Board.fix]) (by rfl) ?_
    | refine (State.wrB_kept ..).after ?_ | dsimp only)

theorem execRopeWait_kept (c : Nat) (s : State) : OutKept s (execRopeWait c s) := by
  unfold execRopeWait
  with_reducible repeat' (first
    | exact Kept.refl _ | refine out_next ?_ | refine kept_ite ?_ ?_ | refine out_ite ?_ ?_ | refine (State.updChan_kept ..).after ?_
    | refine (State.ropeFinish_kept ..).after ?_ | refine (State.setRst_kept ..).after ?_
    | refine (State.ropeInstr_kept (hk := ?_) ..).after ?_ | dsimp only | intro _)

theorem execCryptoLaneFault_kept (l : Nat) (other : Nat) (cause : Nat) (session : Nat) (outcome : Nat) (s : State) : OutKept s (execCryptoLaneFault l other cause session outcome s) := by
  unfold execCryptoLaneFault
  with_reducible repeat' (first
    | exact Kept.refl _ | refine out_next ?_ | refine kept_ite ?_ ?_ | refine out_ite ?_ ?_ | refine (State.fault_kept ..).after ?_
    | refine (State.errAt_kept ..).after ?_ | refine (State.newCorr_kept ..).after ?_ | refine (State.wr_kept ..).after ?_
    | refine (State.cryOff_kept ..).after ?_ | refine (State.raise_kept ..).after ?_ | refine (State.cryDrop_kept ..).after ?_
    | refine pair_kept (by assumption) ?_ | dsimp only | split)

theorem execMbxDoorbellWrite_kept (who : Nat) (rid : Nat) (m : Nat) (c : Nat) (s : State) : OutKept s (execMbxDoorbellWrite who rid m c s) := by
  unfold execMbxDoorbellWrite
  with_reducible repeat' (first
    | exact Kept.refl _ | refine out_next ?_ | refine kept_ite ?_ ?_ | refine out_ite ?_ ?_ | refine (State.barRefuse_kept ..).after ?_
    | refine (State.mbxRing_kept ..).after ?_ | dsimp only)

theorem execRopeChunkFault_kept (c : Nat) (cause : Nat) (ok : Bool) (s : State) : OutKept s (execRopeChunkFault c cause ok s) := by
  unfold execRopeChunkFault
  with_reducible repeat' (first
    | exact Kept.refl _ | refine out_next ?_ | refine kept_ite ?_ ?_ | refine out_ite ?_ ?_ | refine (State.fault_kept ..).after ?_
    | refine (State.fresh_kept ..).after ?_ | refine (State.errAt_kept ..).after ?_ | refine (State.newCorr_kept ..).after ?_
    | refine (State.wr_kept ..).after ?_ | refine (State.setRst_kept ..).after ?_ | refine (State.raise_kept ..).after ?_
    | refine (State.ropeSwap_kept ..).after ?_ | refine pair_kept (by assumption) ?_ | dsimp only | split)

theorem execRetrainLink_kept (a : Nat) (rate : Nat) (width : Nat) (flit : Bool) (rev : Bool) (s : State) : OutKept s (execRetrainLink a rate width flit rev s) := by
  unfold execRetrainLink
  with_reducible repeat' (first
    | exact Kept.refl _ | refine out_next ?_ | refine kept_ite ?_ ?_ | refine out_ite ?_ ?_ | refine (State.train_kept ..).after ?_
    | refine (State.stat_kept ..).after ?_ | dsimp only)

theorem execThermalSample_kept (temp : Nat) (s : State) : OutKept s (execThermalSample temp s) := by
  unfold execThermalSample
  with_reducible repeat' (first
    | exact Kept.refl _ | refine out_next ?_ | refine kept_ite ?_ ?_ | refine out_ite ?_ ?_ | refine (State.wrB_kept ..).after ?_
    | refine (State.wr_kept ..).after ?_ | refine (State.emit_kept ..).after ?_ | dsimp only)

theorem execRopeProgramStart_kept (c : Nat) (s : State) : OutKept s (execRopeProgramStart c s) := by
  unfold execRopeProgramStart
  with_reducible repeat' (first
    | exact Kept.refl _ | refine out_next ?_ | refine kept_ite ?_ ?_ | refine out_ite ?_ ?_ | refine (State.setChan_kept ..).after ?_
    | refine (State.wr_kept ..).after ?_ | refine (State.setRst_kept ..).after ?_ | refine (State.dueSend_kept ..).after ?_ | dsimp only
    | split)

theorem execModuleI2cRetry_kept (k : Nat) (nack : Bool) (s : State) : OutKept s (execModuleI2cRetry k nack s) := by
  unfold execModuleI2cRetry
  with_reducible repeat' (first
    | exact Kept.refl _ | refine out_next ?_ | refine kept_ite ?_ ?_ | refine out_ite ?_ ?_ | refine (State.setCage_kept ..).after ?_
    | refine (State.cageHold_kept ..).after ?_ | refine (State.setMstate_kept ..).after ?_ | dsimp only)

theorem execStopInterfaceRequest_kept (c : Nat) (n : Nat) (f : Nat) (good : Bool) (s : State) : OutKept s (execStopInterfaceRequest c n f good s) := by
  unfold execStopInterfaceRequest
  with_reducible repeat' (first
    | exact Kept.refl _ | refine out_next ?_ | refine kept_ite ?_ ?_ | refine out_ite ?_ ?_ | refine (State.vendor_kept ..).after ?_
    | refine (State.tdiRefuse_kept ..).after ?_ | refine (State.updFunc_kept ..).after ?_
    | refine (State.inSession_kept (hk := ?_) ..).after ?_ | refine (State.resetFunc_kept ..).after ?_ | dsimp only | intro _)

theorem execSpdmFinish_kept (c : Nat) (n : Nat) (good : Bool) (mac : Bool) (s : State) : OutKept s (execSpdmFinish c n good mac s) := by
  unfold execSpdmFinish
  with_reducible repeat' (first
    | exact Kept.refl _ | refine out_next ?_ | refine kept_ite ?_ ?_ | refine out_ite ?_ ?_ | refine (State.spdmErr_kept ..).after ?_
    | refine (State.secured_kept (hk := ?_) ..).after ?_ | refine (State.setSess_kept ..).after ?_ | refine (State.emit_kept ..).after ?_
    | dsimp only | intro _)

theorem execEthRefclkLoss_kept (s : State) : OutKept s (execEthRefclkLoss s) := by
  unfold execEthRefclkLoss
  with_reducible repeat' (first
    | exact Kept.refl _ | refine out_next ?_ | fail_if_no_progress refine kept_mk (by first | rfl | simp only [Board.fix]) (by rfl) ?_
    | refine (State.portDown_kept ..).after ?_ | refine each_kept ?_ (fun _ _ => ?_) | dsimp only | intro _)

theorem execSpdmHeartbeatTimeout_kept (n : Nat) (s : State) : OutKept s (execSpdmHeartbeatTimeout n s) := by
  unfold execSpdmHeartbeatTimeout
  with_reducible repeat' (first
    | exact Kept.refl _ | refine out_next ?_ | refine kept_ite ?_ ?_ | refine out_ite ?_ ?_ | refine (State.setSess_kept ..).after ?_
    | dsimp only | split)

theorem execMemoryReadError_kept (store : Nat) (addr : Nat) (tab : Nat) (unit : Nat) (places : List Nat) (pkt : Option Nat) (ok : Bool) (s : State) : OutKept s (execMemoryReadError store addr tab unit places pkt ok s) := by
  unfold execMemoryReadError
  with_reducible repeat' (first
    | exact Kept.refl _ | refine out_next ?_ | refine kept_ite ?_ ?_ | refine out_ite ?_ ?_ | refine (State.placesLost_kept ..).after ?_
    | refine (State.err_kept ..).after ?_ | refine (State.fault_kept ..).after ?_ | refine (State.newCorr_kept ..).after ?_
    | refine (State.wr_kept ..).after ?_ | refine (State.dropAny_kept ..).after ?_ | refine pair_kept (by assumption) ?_ | dsimp only
    | split)

theorem execAtsInvalidateRequest_kept (a : Nat) (s : State) : OutKept s (execAtsInvalidateRequest a s) := by
  unfold execAtsInvalidateRequest
  with_reducible repeat' (first
    | exact Kept.refl _ | refine out_next ?_ | refine kept_ite ?_ ?_ | refine out_ite ?_ ?_ | refine (State.emit_kept ..).after ?_
    | dsimp only)

theorem execAnRestart_kept (p : Nat) (s : State) : OutKept s (execAnRestart p s) := by
  unfold execAnRestart
  with_reducible repeat' (first
    | exact Kept.refl _ | refine out_next ?_ | refine kept_ite ?_ ?_ | refine out_ite ?_ ?_ | refine (State.anBegin_kept ..).after ?_
    | dsimp only)

theorem execDeviceReset_kept (s : State) : OutKept s (execDeviceReset s) := by
  unfold execDeviceReset
  with_reducible repeat' (first
    | exact Kept.refl _ | refine out_next ?_ | refine (State.deviceReset_kept ..).after ?_ | dsimp only | split)

theorem execPortFrameRx_kept (p : Nat) (r : PortRx) (s : State) : OutKept s (execPortFrameRx p r s) := by
  unfold execPortFrameRx
  with_reducible repeat' (first
    | exact Kept.refl _ | refine out_next ?_ | refine (State.portFrame_kept ..).after ?_ | dsimp only)

theorem execMacsecRxFrame_kept (p : Nat) (s : State) : OutKept s (execMacsecRxFrame p s) := by
  unfold execMacsecRxFrame
  with_reducible repeat' (first
    | exact Kept.refl _ | refine out_next ?_ | refine kept_ite ?_ ?_ | refine out_ite ?_ ?_ | refine (State.err_kept ..).after ?_
    | refine (State.cxStick_kept ..).after ?_ | refine (State.softCheck_kept ..).after ?_ | refine (State.setPrt_kept ..).after ?_
    | refine (State.stat_kept ..).after ?_ | refine (State.setCx_kept ..).after ?_ | refine (State.portDeliver_kept ..).after ?_
    | refine (State.account_kept ..).after ?_ | dsimp only | split)

theorem execModuleRead_kept (a : Nat) (k : Nat) (page : Nat) (bank : Nat) (off : Nat) (lenM1 : Nat) (s : State) : OutKept s (execModuleRead a k page bank off lenM1 s) := by
  unfold execModuleRead
  with_reducible repeat' (first
    | exact Kept.refl _ | refine out_next ?_ | refine (State.moduleAccess_kept ..).after ?_ | dsimp only)

theorem execMbxSlotWord7Read_kept (who : Nat) (rid : Nat) (m : Nat) (c : Nat) (s : State) : OutKept s (execMbxSlotWord7Read who rid m c s) := by
  unfold execMbxSlotWord7Read
  with_reducible repeat' (first
    | exact Kept.refl _ | refine out_next ?_ | refine kept_ite ?_ ?_ | refine out_ite ?_ ?_ | refine (State.barRefuse_kept ..).after ?_
    | refine (State.mbxRead_kept ..).after ?_ | refine (State.emit_kept ..).after ?_ | refine pair_kept (by assumption) ?_ | dsimp only
    | split)

theorem execIdeKmQuery_kept (c : Nat) (n : Nat) (good : Bool) (s : State) : OutKept s (execIdeKmQuery c n good s) := by
  unfold execIdeKmQuery
  with_reducible repeat' (first
    | exact Kept.refl _ | refine out_next ?_ | refine (State.vendor_kept ..).after ?_
    | refine (State.inSession_kept (hk := ?_) ..).after ?_ | dsimp only | intro _)

theorem execAnComplete_kept (p : Nat) (pAdv : Nat) (pAble : Nat) (pReq : Nat) (s : State) : OutKept s (execAnComplete p pAdv pAble pReq s) := by
  unfold execAnComplete
  with_reducible repeat' (first
    | exact Kept.refl _ | refine out_next ?_ | refine kept_ite ?_ ?_ | refine out_ite ?_ ?_ | refine (State.err_kept ..).after ?_
    | refine (State.wr_kept ..).after ?_ | dsimp only | split)

theorem execPfcPauseExpiry_kept (p : Nat) (i : Nat) (s : State) : OutKept s (execPfcPauseExpiry p i s) := by
  unfold execPfcPauseExpiry
  with_reducible repeat' (first
    | exact Kept.refl _ | refine out_next ?_ | refine kept_ite ?_ ?_ | refine out_ite ?_ ?_ | refine (State.setPrt_kept ..).after ?_
    | dsimp only)

theorem execModuleRemove_kept (k : Nat) (s : State) : OutKept s (execModuleRemove k s) := by
  unfold execModuleRemove
  with_reducible repeat' (first
    | exact Kept.refl _ | refine out_next ?_ | refine (State.wrB_kept ..).after ?_ | refine (State.setCage_kept ..).after ?_
    | refine (State.cageHold_kept ..).after ?_ | refine (State.setMstate_kept ..).after ?_ | dsimp only)

theorem execPreemptRespondRx_kept (p : Nat) (s : State) : OutKept s (execPreemptRespondRx p s) := by
  unfold execPreemptRespondRx
  with_reducible repeat' (first
    | exact Kept.refl _ | refine out_next ?_ | refine kept_ite ?_ ?_ | refine out_ite ?_ ?_ | refine (State.wrB_kept ..).after ?_
    | refine (State.wr_kept ..).after ?_ | refine (State.raise_kept ..).after ?_ | dsimp only)

theorem execSpdmGetDigests_kept (c : Nat) (ver : Nat) (ok : Bool) (s : State) : OutKept s (execSpdmGetDigests c ver ok s) := by
  unfold execSpdmGetDigests
  with_reducible repeat' (first
    | exact Kept.refl _ | refine out_next ?_ | refine (State.spdmReq_kept (hk := ?_) ..).after ?_ | refine (State.emit_kept ..).after ?_
    | dsimp only | intro _)

theorem execGrottoRomStart_kept (s : State) : OutKept s (execGrottoRomStart s) := by
  unfold execGrottoRomStart
  with_reducible repeat' (first
    | exact Kept.refl _ | refine out_next ?_ | refine kept_ite ?_ ?_ | refine out_ite ?_ ?_ | refine (State.wr_kept ..).after ?_
    | refine (State.recoverMode_kept ..).after ?_ | refine (State.setMeas_kept ..).after ?_ | dsimp only)

theorem execThermalReturnStep_kept (s : State) : OutKept s (execThermalReturnStep s) := by
  unfold execThermalReturnStep
  with_reducible repeat' (first
    | exact Kept.refl _ | refine out_next ?_ | fail_if_no_progress refine kept_mk (by first | rfl | simp only [Board.fix]) (by rfl) ?_
    | refine kept_ite ?_ ?_ | refine out_ite ?_ ?_ | refine (State.thermEntry_kept ..).after ?_ | refine (State.wr_kept ..).after ?_
    | refine (State.unpark_kept ..).after ?_ | refine (State.raise_kept ..).after ?_ | refine (State.stat_kept ..).after ?_
    | refine each_kept ?_ (fun _ _ => ?_) | dsimp only | intro _ | split)

theorem execPreemptCfgWrite_kept (p : Nat) (v : Word) (s : State) : OutKept s (execPreemptCfgWrite p v s) := by
  unfold execPreemptCfgWrite
  with_reducible repeat' (first
    | exact Kept.refl _ | refine out_next ?_ | refine (State.preemptCfg_kept ..).after ?_ | dsimp only)

theorem execTrainRetryTimer_kept (p : Nat) (s : State) : OutKept s (execTrainRetryTimer p s) := by
  unfold execTrainRetryTimer
  with_reducible repeat' (first
    | exact Kept.refl _ | refine out_next ?_ | refine kept_ite ?_ ?_ | refine out_ite ?_ ?_ | refine (State.anBegin_kept ..).after ?_
    | refine (State.setPrt_kept ..).after ?_ | dsimp only)

theorem execRopeSignal_kept (c : Nat) (s : State) : OutKept s (execRopeSignal c s) := by
  unfold execRopeSignal
  with_reducible repeat' (first
    | exact Kept.refl _ | refine out_next ?_ | refine kept_ite ?_ ?_ | refine out_ite ?_ ?_ | refine (State.pulse_kept ..).after ?_
    | refine (State.ropeFinish_kept ..).after ?_ | refine (State.ropeInstr_kept (hk := ?_) ..).after ?_
    | refine (State.ropeGo_kept ..).after ?_ | dsimp only | intro _)

theorem execLockInterfaceRequest_kept (c : Nat) (n : Nat) (f : Nat) (k : Nat) (good : Bool) (s : State) : OutKept s (execLockInterfaceRequest c n f k good s) := by
  unfold execLockInterfaceRequest
  with_reducible repeat' (first
    | exact Kept.refl _ | refine out_next ?_ | refine kept_ite ?_ ?_ | refine out_ite ?_ ?_ | refine (State.vendor_kept ..).after ?_
    | refine (State.fresh_kept ..).after ?_ | refine (State.tdiRefuse_kept ..).after ?_ | refine (State.updFunc_kept ..).after ?_
    | refine (State.inSession_kept (hk := ?_) ..).after ?_ | refine pair_kept (by assumption) ?_ | dsimp only | intro _ | split)

theorem execMalformedTlp_kept (f : Nat) (kind : Nat) (read : Bool) (s : State) : OutKept s (execMalformedTlp f kind read s) := by
  unfold execMalformedTlp
  with_reducible repeat' (first
    | exact Kept.refl _ | refine out_next ?_ | refine kept_ite ?_ ?_ | refine out_ite ?_ ?_ | refine (State.err_kept ..).after ?_
    | refine (State.aerSet_kept ..).after ?_ | refine (State.emit_kept ..).after ?_ | dsimp only)

theorem execBlockLockChange_kept (p : Nat) (locked : Bool) (s : State) : OutKept s (execBlockLockChange p locked s) := by
  unfold execBlockLockChange
  with_reducible repeat' (first
    | exact Kept.refl _ | refine out_next ?_ | refine kept_ite ?_ ?_ | refine out_ite ?_ ?_ | refine (State.wrB_kept ..).after ?_
    | refine (State.linkFails_kept ..).after ?_ | refine (State.setPrt_kept ..).after ?_ | refine (State.emit_kept ..).after ?_
    | dsimp only)

theorem execSpdmGetMeasurements_kept (c : Nat) (ver : Nat) (index : Nat) (nonce : Nat) (sig : Bool) (ok : Bool) (s : State) : OutKept s (execSpdmGetMeasurements c ver index nonce sig ok s) := by
  unfold execSpdmGetMeasurements
  with_reducible repeat' (first
    | exact Kept.refl _ | refine out_next ?_ | refine kept_ite ?_ ?_ | refine out_ite ?_ ?_ | refine (State.spdmErr_kept ..).after ?_
    | refine (State.spdmReq_kept (hk := ?_) ..).after ?_ | refine (State.emit_kept ..).after ?_ | dsimp only | intro _)

theorem execMbxEmptyClear_kept (who : Nat) (rid : Nat) (m : Nat) (c : Nat) (s : State) : OutKept s (execMbxEmptyClear who rid m c s) := by
  unfold execMbxEmptyClear
  with_reducible repeat' (first
    | exact Kept.refl _ | refine out_next ?_ | refine kept_ite ?_ ?_ | refine out_ite ?_ ?_ | refine (State.barRefuse_kept ..).after ?_
    | refine (State.mbxClear_kept ..).after ?_ | dsimp only)

theorem execRopeChunkRead_kept (e : Nat) (s : State) : OutKept s (execRopeChunkRead e s) := by
  unfold execRopeChunkRead
  with_reducible repeat' (first
    | exact Kept.refl _ | refine out_next ?_ | fail_if_no_progress refine kept_mk (by rfl) (by rfl) ?_
    | refine (State.chunkRead_kept ..).after ?_ | dsimp only | split)

theorem execMsixVectorUnmask_kept (f : Nat) (vec : Option Nat) (s : State) : OutKept s (execMsixVectorUnmask f vec s) := by
  unfold execMsixVectorUnmask
  with_reducible repeat' (first
    | exact Kept.refl _ | refine out_next ?_ | refine (State.updFunc_kept ..).after ?_ | refine (State.pendSend_kept ..).after ?_
    | refine (State.pbaSend_kept ..).after ?_ | dsimp only | split)

theorem execPortCalibrationDone_kept (p : Nat) (ok : Bool) (tx : Nat) (rx : Nat) (temp : Nat) (s : State) : OutKept s (execPortCalibrationDone p ok tx rx temp s) := by
  unfold execPortCalibrationDone
  with_reducible repeat' (first
    | exact Kept.refl _ | refine out_next ?_ | refine kept_ite ?_ ?_ | refine out_ite ?_ ?_ | refine (State.setPrt_kept ..).after ?_
    | refine (State.setUp_kept ..).after ?_ | refine (State.calibrate_kept ..).after ?_ | dsimp only)

theorem execIdeKmKSetStop_kept (c : Nat) (n : Nat) (a : Nat) (k : Nat) (b : Nat) (good : Bool) (s : State) : OutKept s (execIdeKmKSetStop c n a k b good s) := by
  unfold execIdeKmKSetStop
  with_reducible repeat' (first
    | exact Kept.refl _ | refine out_next ?_ | fail_if_no_progress refine kept_mk (by rfl) (by first | rfl | simp only [Grotto.fix]) ?_
    | refine kept_ite ?_ ?_ | refine out_ite ?_ ?_ | refine (State.vendor_kept ..).after ?_ | refine (State.spdmErr_kept ..).after ?_
    | refine (State.ideShow_kept ..).after ?_ | refine (State.inSession_kept (hk := ?_) ..).after ?_ | dsimp only | intro _)

theorem execIdeKmKSetGo_kept (c : Nat) (n : Nat) (a : Nat) (k : Nat) (b : Nat) (good : Bool) (s : State) : OutKept s (execIdeKmKSetGo c n a k b good s) := by
  unfold execIdeKmKSetGo
  with_reducible repeat' (first
    | exact Kept.refl _ | refine out_next ?_ | fail_if_no_progress refine kept_mk (by rfl) (by first | rfl | simp only [Grotto.fix]) ?_
    | refine kept_ite ?_ ?_ | refine out_ite ?_ ?_ | refine (State.vendor_kept ..).after ?_ | refine (State.spdmErr_kept ..).after ?_
    | refine (State.wr_kept ..).after ?_ | refine (State.ideShow_kept ..).after ?_ | refine (State.inSession_kept (hk := ?_) ..).after ?_
    | dsimp only | intro _)

theorem execPerstRelease_kept (a : Nat) (s : State) : OutKept s (execPerstRelease a s) := by
  unfold execPerstRelease
  with_reducible repeat' (first
    | exact Kept.refl _ | refine out_next ?_ | refine (State.updLink_kept ..).after ?_ | dsimp only)

theorem execNcsiRefclkLoss_kept (s : State) : OutKept s (execNcsiRefclkLoss s) := by
  unfold execNcsiRefclkLoss
  with_reducible repeat' (first
    | exact Kept.refl _ | refine out_next ?_ | fail_if_no_progress refine kept_mk (by first | rfl | simp only [Board.fix]) (by rfl) ?_
    | refine kept_ite ?_ ?_ | refine out_ite ?_ ?_ | refine (State.emit_kept ..).after ?_ | dsimp only)

theorem execThermalTrip_kept (s : State) : OutKept s (execThermalTrip s) := by
  unfold execThermalTrip
  with_reducible repeat' (first
    | exact Kept.refl _ | refine out_next ?_ | fail_if_no_progress refine kept_mk (by first | rfl | simp only [Board.fix]) (by rfl) ?_
    | refine kept_ite ?_ ?_ | refine out_ite ?_ ?_ | refine (State.coreReset_kept ..).after ?_ | refine (State.portDown_kept ..).after ?_
    | refine (State.attDown_kept ..).after ?_ | refine (State.emit_kept ..).after ?_ | refine each_kept ?_ (fun _ _ => ?_) | dsimp only
    | intro _)

theorem execReplayTimerExpiry_kept (a : Nat) (same : Bool) (s : State) : OutKept s (execReplayTimerExpiry a same s) := by
  unfold execReplayTimerExpiry
  with_reducible repeat' (first
    | exact Kept.refl _ | refine out_next ?_ | refine kept_ite ?_ ?_ | refine out_ite ?_ ?_ | refine (State.wr_kept ..).after ?_
    | refine (State.stat_kept ..).after ?_ | refine (State.updLink_kept ..).after ?_ | dsimp only)

theorem execPeerWindowRequest_kept (a : Nat) (x : Nat) (len : Nat) (rid : Nat) (data : Option (List (BitVec 8))) (s : State) : OutKept s (execPeerWindowRequest a x len rid data s) := by
  unfold execPeerWindowRequest
  with_reducible repeat' (first
    | exact Kept.refl _ | refine out_next ?_ | fail_if_no_progress refine kept_mk (by rfl) (by rfl) ?_ | refine kept_ite ?_ ?_
    | refine out_ite ?_ ?_ | refine (State.err_kept ..).after ?_ | refine (State.setReg_kept ..).after ?_
    | refine (State.barRefuse_kept ..).after ?_ | refine (State.raiseBit_kept ..).after ?_ | refine (State.emit_kept ..).after ?_
    | refine kept_mk2 (List.suffix_refl _) (le_refl _) id (Mem.wf_putBytes _ _) ?_ | dsimp only | split)

theorem execControlFwRelease_kept (s : State) : OutKept s (execControlFwRelease s) := by
  unfold execControlFwRelease
  with_reducible repeat' (first
    | exact Kept.refl _ | refine out_next ?_ | refine kept_ite ?_ ?_ | refine out_ite ?_ ?_ | refine (State.wr_kept ..).after ?_
    | dsimp only)

theorem execStartInterfaceRequest_kept (c : Nat) (n : Nat) (f : Nat) (nonce : Nat) (good : Bool) (s : State) : OutKept s (execStartInterfaceRequest c n f nonce good s) := by
  unfold execStartInterfaceRequest
  with_reducible repeat' (first
    | exact Kept.refl _ | refine out_next ?_ | refine kept_ite ?_ ?_ | refine out_ite ?_ ?_ | refine (State.vendor_kept ..).after ?_
    | refine (State.tdiRefuse_kept ..).after ?_ | refine (State.updFunc_kept ..).after ?_
    | refine (State.inSession_kept (hk := ?_) ..).after ?_ | dsimp only | intro _)

theorem execModuleInterrupt_kept (k : Nat) (nack : Bool) (temp : Nat) (s : State) : OutKept s (execModuleInterrupt k nack temp s) := by
  unfold execModuleInterrupt
  with_reducible repeat' (first
    | exact Kept.refl _ | refine out_next ?_ | refine (State.moduleService_kept ..).after ?_ | dsimp only)

theorem execMbxMaskWrite_kept (who : Nat) (m : Nat) (empty : Bool) (v : Nat) (s : State) : OutKept s (execMbxMaskWrite who m empty v s) := by
  unfold execMbxMaskWrite
  with_reducible repeat' (first
    | exact Kept.refl _ | refine out_next ?_ | refine kept_ite ?_ ?_ | refine out_ite ?_ ?_ | refine (State.barRefuse_kept ..).after ?_
    | refine (State.mbxMask_kept ..).after ?_ | dsimp only)

theorem execSpdmKeyUpdate_kept (c : Nat) (n : Nat) (op : Nat) (good : Bool) (s : State) : OutKept s (execSpdmKeyUpdate c n op good s) := by
  unfold execSpdmKeyUpdate
  with_reducible repeat' (first
    | exact Kept.refl _ | refine out_next ?_ | refine kept_ite ?_ ?_ | refine out_ite ?_ ?_ | refine (State.spdmErr_kept ..).after ?_
    | refine (State.inSession_kept (hk := ?_) ..).after ?_ | refine (State.emit_kept ..).after ?_ | dsimp only | intro _)

theorem execSpdmEndSession_kept (c : Nat) (n : Nat) (good : Bool) (s : State) : OutKept s (execSpdmEndSession c n good s) := by
  unfold execSpdmEndSession
  with_reducible repeat' (first
    | exact Kept.refl _ | refine out_next ?_ | refine (State.setSess_kept ..).after ?_
    | refine (State.inSession_kept (hk := ?_) ..).after ?_ | refine (State.emit_kept ..).after ?_ | dsimp only | intro _)

theorem execSpdmGetCertificate_kept (c : Nat) (ver : Nat) (slot : Nat) (off : Nat) (len : Nat) (ok : Bool) (s : State) : OutKept s (execSpdmGetCertificate c ver slot off len ok s) := by
  unfold execSpdmGetCertificate
  with_reducible repeat' (first
    | exact Kept.refl _ | refine out_next ?_ | refine kept_ite ?_ ?_ | refine out_ite ?_ ?_ | refine (State.spdmErr_kept ..).after ?_
    | refine (State.spdmReq_kept (hk := ?_) ..).after ?_ | refine (State.emit_kept ..).after ?_ | dsimp only | intro _)

theorem execMgmtLinkChange_kept (up : Bool) (speed : Nat) (s : State) : OutKept s (execMgmtLinkChange up speed s) := by
  unfold execMgmtLinkChange
  with_reducible repeat' (first
    | exact Kept.refl _ | refine out_next ?_ | refine kept_ite ?_ ?_ | refine out_ite ?_ ?_ | refine (State.wrB_kept ..).after ?_
    | refine (State.wr_kept ..).after ?_ | dsimp only)

theorem execModuleWrite_kept (a : Nat) (k : Nat) (page : Nat) (bank : Nat) (off : Nat) (lenM1 : Nat) (s : State) : OutKept s (execModuleWrite a k page bank off lenM1 s) := by
  unfold execModuleWrite
  with_reducible repeat' (first
    | exact Kept.refl _ | refine out_next ?_ | refine (State.moduleAccess_kept ..).after ?_ | dsimp only)

theorem execGrottoImageVerifyDone_kept (s : State) : OutKept s (execGrottoImageVerifyDone s) := by
  unfold execGrottoImageVerifyDone
  with_reducible repeat' (first
    | exact Kept.refl _ | refine out_next ?_ | fail_if_no_progress refine kept_mk (by first | rfl | simp only [Board.fix]) (by rfl) ?_
    | refine kept_ite ?_ ?_ | refine out_ite ?_ ?_ | refine (State.wrB_kept ..).after ?_ | refine (State.wr_kept ..).after ?_
    | refine (State.bankFail_kept ..).after ?_ | refine (State.setMeas_kept ..).after ?_ | refine (State.meas5_kept ..).after ?_
    | dsimp only)

theorem execMacsecTxFrame_kept (p : Nat) (s : State) : OutKept s (execMacsecTxFrame p s) := by
  unfold execMacsecTxFrame
  with_reducible repeat' (first
    | exact Kept.refl _ | refine out_next ?_ | refine kept_ite ?_ ?_ | refine out_ite ?_ ?_ | refine (State.err_kept ..).after ?_
    | refine (State.assignSeq_kept ..).after ?_ | refine (State.secyDrop_kept ..).after ?_ | refine (State.setPrt_kept ..).after ?_
    | refine (State.stat_kept ..).after ?_ | refine (State.account_kept ..).after ?_ | refine pair_kept (by assumption) ?_ | dsimp only
    | split)

theorem execSpdmHeartbeat_kept (c : Nat) (n : Nat) (good : Bool) (s : State) : OutKept s (execSpdmHeartbeat c n good s) := by
  unfold execSpdmHeartbeat
  with_reducible repeat' (first
    | exact Kept.refl _ | refine out_next ?_ | refine kept_ite ?_ ?_ | refine out_ite ?_ ?_ | refine (State.spdmErr_kept ..).after ?_
    | refine (State.inSession_kept (hk := ?_) ..).after ?_ | refine (State.emit_kept ..).after ?_ | dsimp only | intro _)

theorem execRopeWaitTimeout_kept (c : Nat) (s : State) : OutKept s (execRopeWaitTimeout c s) := by
  unfold execRopeWaitTimeout
  with_reducible repeat' (first
    | exact Kept.refl _ | refine out_next ?_ | refine kept_ite ?_ ?_ | refine out_ite ?_ ?_ | refine (State.ropeFinish_kept ..).after ?_
    | dsimp only)

theorem execPcieRefclkReturn_kept (a : Nat) (s : State) : OutKept s (execPcieRefclkReturn a s) := by
  unfold execPcieRefclkReturn
  with_reducible repeat' (first
    | exact Kept.refl _ | refine out_next ?_ | refine (State.updLink_kept ..).after ?_ | dsimp only)

theorem execSpdmChunkTransfer_kept (c : Nat) (ver : Nat) (len : Nat) (send : Bool) (ok : Bool) (s : State) : OutKept s (execSpdmChunkTransfer c ver len send ok s) := by
  unfold execSpdmChunkTransfer
  with_reducible repeat' (first
    | exact Kept.refl _ | refine out_next ?_ | refine kept_ite ?_ ?_ | refine out_ite ?_ ?_ | refine (State.err_kept ..).after ?_
    | refine (State.spdmReq_kept (hk := ?_) ..).after ?_ | refine (State.emit_kept ..).after ?_ | dsimp only | intro _)

theorem execPreemptVerifyTx_kept (p : Nat) (s : State) : OutKept s (execPreemptVerifyTx p s) := by
  unfold execPreemptVerifyTx
  with_reducible repeat' (first
    | exact Kept.refl _ | refine out_next ?_ | refine kept_ite ?_ ?_ | refine out_ite ?_ ?_ | refine (State.wr_kept ..).after ?_
    | refine (State.setPrt_kept ..).after ?_ | refine (State.raise_kept ..).after ?_ | refine (State.emit_kept ..).after ?_ | dsimp only)

theorem execResetCtrlWrite_kept (v : Word) (s : State) : OutKept s (execResetCtrlWrite v s) := by
  unfold execResetCtrlWrite
  with_reducible repeat' (first
    | exact Kept.refl _ | refine out_next ?_ | refine (State.resetCtrl_kept ..).after ?_ | dsimp only)

theorem execMgmtFrameRx_kept (l : List Byte) (s : State) : OutKept s (execMgmtFrameRx l s) := by
  unfold execMgmtFrameRx
  with_reducible repeat' (first
    | exact Kept.refl _ | refine out_next ?_ | fail_if_no_progress refine kept_mk (by rfl) (by rfl) ?_ | refine kept_ite ?_ ?_
    | refine out_ite ?_ ?_ | dsimp only)

theorem execPortLinkDown_kept (p : Nat) (s : State) : OutKept s (execPortLinkDown p s) := by
  unfold execPortLinkDown
  with_reducible repeat' (first
    | exact Kept.refl _ | refine out_next ?_ | refine kept_ite ?_ ?_ | refine out_ite ?_ ?_ | refine (State.portDown_kept ..).after ?_
    | dsimp only)

theorem execSpdmGetVersion_kept (c : Nat) (ok : Bool) (s : State) : OutKept s (execSpdmGetVersion c ok s) := by
  unfold execSpdmGetVersion
  with_reducible repeat' (first
    | exact Kept.refl _ | refine out_next ?_ | refine (State.setSpdm_kept ..).after ?_
    | refine (State.spdmReq_kept (hk := ?_) ..).after ?_ | refine (State.emit_kept ..).after ?_ | dsimp only | intro _)

theorem execPfcCfgWrite_kept (p : Nat) (v : Word) (s : State) : OutKept s (execPfcCfgWrite p v s) := by
  unfold execPfcCfgWrite
  with_reducible repeat' (first
    | exact Kept.refl _ | refine out_next ?_ | refine (State.pfcCfg_kept ..).after ?_ | dsimp only)

theorem execSpdmChallenge_kept (c : Nat) (ver : Nat) (slot : Nat) (nonce : Nat) (ok : Bool) (s : State) : OutKept s (execSpdmChallenge c ver slot nonce ok s) := by
  unfold execSpdmChallenge
  with_reducible repeat' (first
    | exact Kept.refl _ | refine out_next ?_ | refine kept_ite ?_ ?_ | refine out_ite ?_ ?_ | refine (State.spdmErr_kept ..).after ?_
    | refine (State.spdmReq_kept (hk := ?_) ..).after ?_ | refine (State.emit_kept ..).after ?_ | dsimp only | intro _)

theorem execWinCommit_kept (a : Nat) (mask : Nat) (s : State) : OutKept s (execWinCommit a mask s) := by
  unfold execWinCommit
  with_reducible repeat' (first
    | exact Kept.refl _ | refine out_next ?_ | refine (State.winCommit_kept ..).after ?_ | dsimp only)

theorem execRopeProgramStop_kept (c : Nat) (s : State) : OutKept s (execRopeProgramStop c s) := by
  unfold execRopeProgramStop
  with_reducible repeat' (first
    | exact Kept.refl _ | refine out_next ?_ | refine kept_ite ?_ ?_ | refine out_ite ?_ ?_ | refine (State.updChan_kept ..).after ?_
    | refine (State.ropeFinish_kept ..).after ?_ | refine (State.finishSmall_kept ..).after ?_ | dsimp only | split)

theorem execSpdmKeyExchange_kept (c : Nat) (ver : Nat) (n : Nat) (beat : Nat) (ok : Bool) (s : State) : OutKept s (execSpdmKeyExchange c ver n beat ok s) := by
  unfold execSpdmKeyExchange
  with_reducible repeat' (first
    | exact Kept.refl _ | refine out_next ?_ | refine kept_ite ?_ ?_ | refine out_ite ?_ ?_ | refine (State.spdmErr_kept ..).after ?_
    | refine (State.spdmReq_kept (hk := ?_) ..).after ?_ | refine (State.setSess_kept ..).after ?_ | refine (State.emit_kept ..).after ?_
    | dsimp only | intro _)

theorem execThermalShedStep_kept (s : State) : OutKept s (execThermalShedStep s) := by
  unfold execThermalShedStep
  with_reducible repeat' (first
    | exact Kept.refl _ | refine out_next ?_ | fail_if_no_progress refine kept_mk (by first | rfl | simp only [Board.fix]) (by rfl) ?_
    | refine kept_ite ?_ ?_ | refine out_ite ?_ ?_ | refine (State.thermEntry_kept ..).after ?_ | refine (State.wr_kept ..).after ?_
    | refine (State.raise_kept ..).after ?_ | refine (State.stat_kept ..).after ?_ | refine (State.floorCheck_kept ..).after ?_
    | refine (State.park_kept ..).after ?_ | refine each_kept ?_ (fun _ _ => ?_) | dsimp only | intro _)

theorem execPcieLinkUp_kept (a : Nat) (rate : Nat) (width : Nat) (flit : Bool) (rev : Bool) (s : State) : OutKept s (execPcieLinkUp a rate width flit rev s) := by
  unfold execPcieLinkUp
  with_reducible repeat' (first
    | exact Kept.refl _ | refine out_next ?_ | refine kept_ite ?_ ?_ | refine out_ite ?_ ?_ | refine (State.train_kept ..).after ?_
    | dsimp only)

end Sys2Proof.Machine
end

