-- ==== Sys2Proof/Laws/KeptControl.lean ====
section
/-! SUPPORT. Laws/KeptControl.lean: what the operations of functions, register accesses, trust, Lantern, drips, hosts, NC-SI leave alone, and how memories, outputs and free values go on
(Kept), one lemma for each operation. -/

namespace Sys2Proof.Machine

open Sys2Proof

set_option linter.unusedVariables false
set_option linter.unreachableTactic false
set_option linter.unusedTactic false
set_option cleanup.letToHave false

theorem State.capWrite_kept (s : State) (a : Nat) (v : Nat) : Kept s (State.capWrite s a v) := by
  unfold State.capWrite
  with_reducible repeat' (first
    | exact Kept.refl _ | refine (State.updFunc_kept ..).after ?_ | dsimp only | split)

theorem State.mbxWrite_kept (s : State) (who : Nat) (rid : Nat) (off : Nat) (v : Word) : Kept s (State.mbxWrite s who rid off v) := by
  unfold State.mbxWrite
  with_reducible repeat' (first
    | exact Kept.refl _ | refine kept_ite ?_ ?_ | refine (State.mbxRing_kept ..).after ?_ | refine (State.mbxMask_kept ..).after ?_
    | refine (State.mbxClear_kept ..).after ?_ | refine (State.mbxStore_kept ..).after ?_ | refine each_kept ?_ (fun _ _ => ?_)
    | dsimp only | intro _ | split)

theorem State.actWrite_kept (s : State) (who : Nat) (rid : Nat) (off : Nat) (v : Word) : OptKept s (State.actWrite s who rid off v) := by
  unfold State.actWrite
  with_reducible repeat' (first
    | exact Kept.refl _ | fail_if_no_progress refine kept_mk (by rfl) (by rfl) ?_ | refine kept_ite ?_ ?_ | refine opt_ite ?_ ?_
    | exact opt_none | refine opt_some ?_ | refine (State.sampleRing_kept ..).after ?_ | refine (State.capWrite_kept ..).after ?_
    | refine (State.pfcCfg_kept ..).after ?_ | refine (State.sessPortRead_kept ..).after ?_ | refine (State.stoTcpCfg_kept ..).after ?_
    | refine (State.setEvents_kept ..).after ?_ | refine (State.stoCtxRead_kept ..).after ?_
    | refine (State.tmTableWrite_kept ..).after ?_ | refine (State.resetCtrl_kept ..).after ?_
    | refine (State.tmTableRead_kept ..).after ?_ | refine (State.snapshot_kept ..).after ?_ | refine (State.mbxWrite_kept ..).after ?_
    | refine (State.sumpAbort_kept ..).after ?_ | refine (State.preemptCfg_kept ..).after ?_ | refine (State.winCommit_kept ..).after ?_
    | refine (State.secyWrite_kept ..).after ?_ | refine (State.sampleCfg_kept ..).after ?_ | refine (State.moduleAccess_kept ..).after ?_
    | dsimp only)

theorem State.arm_kept (s : State) (g : Nat) (e : Nat) (on : Bool) : Kept s (State.arm s g e on) := by
  unfold State.arm
  with_reducible repeat' (first
    | exact Kept.refl _ | refine (State.setEngn_kept ..).after ?_ | dsimp only)

theorem State.blockInts_kept (s : State) : Kept s (State.blockInts s) := by
  unfold State.blockInts
  with_reducible repeat' (first
    | exact Kept.refl _ | fail_if_no_progress refine kept_mk (by rfl) (by rfl) ?_ | refine (State.sendInt_kept ..).after ?_
    | refine each_kept ?_ (fun _ _ => ?_) | dsimp only | intro _)

theorem State.updCfg_kept (s : State) (f : Nat) (g : Cfg → Cfg) : Kept s (State.updCfg s f g) := by
  unfold State.updCfg
  with_reducible repeat' (first
    | exact Kept.refl _ | refine (State.updFunc_kept ..).after ?_ | dsimp only)

theorem State.intxDisable_kept (s : State) (f : Nat) (v : Bool) : Kept s (State.intxDisable s f v) := by
  unfold State.intxDisable
  with_reducible repeat' (first
    | exact Kept.refl _ | refine kept_ite ?_ ?_ | refine (State.updCfg_kept ..).after ?_ | refine (State.emit_kept ..).after ?_
    | dsimp only)

theorem State.cfgWrite_kept (s : State) (f : Nat) (fd : CfgField) (v : Nat) : Kept s (State.cfgWrite s f fd v) := by
  unfold State.cfgWrite
  with_reducible repeat' (first
    | exact Kept.refl _ | refine kept_ite ?_ ?_ | refine (State.wrB_kept ..).after ?_ | refine (State.bmeOn_kept ..).after ?_
    | refine (State.wr_kept ..).after ?_ | refine (State.ideShow_kept ..).after ?_ | refine (State.tdiStop_kept ..).after ?_
    | refine (State.intxDisable_kept ..).after ?_ | refine (State.pendSend_kept ..).after ?_ | refine (State.updCfg_kept ..).after ?_
    | refine (State.aerSet_kept ..).after ?_ | refine each_kept ?_ (fun _ _ => ?_) | dsimp only | intro _ | split)

theorem State.checkDrips_kept (s : State) : Kept s (State.checkDrips s) := by
  unfold State.checkDrips
  with_reducible repeat' (first
    | exact Kept.refl _ | refine kept_ite ?_ ?_ | refine (State.setGal_kept ..).after ?_ | refine each_kept ?_ (fun _ _ => ?_)
    | dsimp only | intro _)

theorem State.takeShares_kept (s : State) : Kept s (State.takeShares s) := by
  unfold State.takeShares
  with_reducible repeat' (first
    | exact Kept.refl _ | fail_if_no_progress refine kept_mk (by rfl) (by rfl) ?_ | dsimp only)

theorem State.reloadDeadlines_kept (s : State) (y1 : Option Nat) : Kept s (State.reloadDeadlines s y1) := by
  unfold State.reloadDeadlines
  with_reducible repeat' (first
    | exact Kept.refl _ | refine (State.shiftDeadlines_kept ..).after ?_ | refine each_kept ?_ (fun _ _ => ?_) | dsimp only | intro _
    | split)

theorem State.steerApply_kept (s : State) : Kept s (State.steerApply s) := by
  unfold State.steerApply
  with_reducible repeat' (first
    | exact Kept.refl _ | fail_if_no_progress refine kept_mk (by rfl) (by rfl) ?_ | refine (State.setReg_kept ..).after ?_
    | refine each_kept ?_ (fun _ _ => ?_) | dsimp only | intro _)

theorem State.tickEvents_kept (s : State) : Kept s (State.tickEvents s) := by
  unfold State.tickEvents
  with_reducible repeat' (first
    | exact Kept.refl _ | fail_if_no_progress refine kept_mk (by rfl) (by rfl) ?_ | dsimp only)

theorem State.resumeEngines_kept (s : State) : Kept s (State.resumeEngines s) := by
  unfold State.resumeEngines
  with_reducible repeat' (first
    | exact Kept.refl _ | refine (State.setEngn_kept ..).after ?_ | refine (State.wr_kept ..).after ?_
    | refine each_kept ?_ (fun _ _ => ?_) | dsimp only | intro _)

theorem State.dripGalleries_kept (s : State) (d : Option Nat) : Kept s (State.dripGalleries s d) := by
  unfold State.dripGalleries
  with_reducible repeat' (first
    | exact Kept.refl _ | refine (State.takeShares_kept ..).after ?_ | refine (State.enterDrip_kept ..).after ?_
    | refine (State.reloadDeadlines_kept ..).after ?_ | refine (State.steerApply_kept ..).after ?_
    | refine (State.checkDrips_kept ..).after ?_ | refine (State.admitDrip_kept ..).after ?_ | refine (State.tickEvents_kept ..).after ?_
    | refine (State.resumeEngines_kept ..).after ?_ | refine each_kept ?_ (fun _ _ => ?_) | dsimp only | intro _)

theorem State.ringInts_kept (s : State) : Kept s (State.ringInts s) := by
  unfold State.ringInts
  with_reducible repeat' (first
    | exact Kept.refl _ | refine (State.vqNotify_kept ..).after ?_ | refine (State.moderate_kept ..).after ?_
    | refine each_kept ?_ (fun _ _ => ?_) | dsimp only | intro _)

theorem State.dripHosts_kept (s : State) : Kept s (State.dripHosts s) := by
  unfold State.dripHosts
  with_reducible repeat' (first
    | exact Kept.refl _ | refine (State.ropeDrip_kept ..).after ?_ | refine (State.mbxDrip_kept ..).after ?_
    | refine (State.ringInts_kept ..).after ?_ | refine (State.qpRefill_kept ..).after ?_ | refine (State.blockInts_kept ..).after ?_
    | dsimp only)

theorem State.dripTm_kept (s : State) : Kept s (State.dripTm s) := by
  unfold State.dripTm
  with_reducible repeat' (first
    | exact Kept.refl _ | refine (State.tmRefill_kept ..).after ?_ | refine (State.gateBoundary_kept ..).after ?_
    | refine (State.policeRefill_kept ..).after ?_ | refine each_kept ?_ (fun _ _ => ?_) | dsimp only | intro _)

theorem State.dropRead_kept (s : State) (r : Read) : Kept s (State.dropRead s r) := by
  unfold State.dropRead
  with_reducible repeat' (first
    | exact Kept.refl _ | fail_if_no_progress refine kept_mk (by rfl) (by rfl) ?_ | dsimp only)

theorem State.errWrite_kept (s : State) (off : Nat) (lo : Nat) (v : Word) : Kept s (State.errWrite s off lo v) := by
  unfold State.errWrite
  with_reducible repeat' (first
    | exact Kept.refl _ | refine kept_ite ?_ ?_ | refine (State.wr_kept ..).after ?_ | dsimp only)

theorem State.freshWords_kept (s : State) (y1 : Nat) : Kept s (State.freshWords s y1).2 := by
  induction y1 generalizing s with
  | zero =>
    unfold State.freshWords
    with_reducible repeat' (first
      | exact Kept.refl _ | refine (State.fresh_kept ..).after ?_ | refine pair_kept (by assumption) ?_ | dsimp only | split)
  | succ n ih =>
    unfold State.freshWords
    with_reducible repeat' (first
      | exact Kept.refl _ | refine (ih ..).after ?_ | refine (State.fresh_kept ..).after ?_ | refine pair_kept (by assumption) ?_
      | dsimp only | split)

theorem State.grtWrite_kept (s : State) (a : Nat) (rid : Nat) (off : Nat) : Kept s (State.grtWrite s a rid off) := by
  unfold State.grtWrite
  with_reducible repeat' (first
    | exact Kept.refl _ | refine kept_ite ?_ ?_ | refine (State.err_kept ..).after ?_ | refine (State.accessFault_kept ..).after ?_
    | dsimp only)

theorem State.lntErr_kept (s : State) (code : Nat) : Kept s (State.lntErr s code) := by
  unfold State.lntErr
  with_reducible repeat' (first
    | exact Kept.refl _ | refine (State.wr_kept ..).after ?_ | refine (State.emit_kept ..).after ?_ | dsimp only)

theorem State.lnt_kept (s : State) (level : Nat) (rec? : Bool) (args : Bool) (f : State → State) (hk : ∀ x0, Kept x0 (f x0)) : Kept s (State.lnt s level rec? args f) := by
  unfold State.lnt
  with_reducible repeat' (first
    | exact Kept.refl _ | refine kept_ite ?_ ?_ | refine (hk ..).after ?_ | exact hk .. | refine (State.lntErr_kept ..).after ?_
    | dsimp only)

theorem State.lntFlash_kept (s : State) (args : Bool) (f : State → State) (hk : ∀ x0, Kept x0 (f x0)) : Kept s (State.lntFlash s args f) := by
  unfold State.lntFlash
  with_reducible repeat' (first
    | exact Kept.refl _ | refine kept_ite ?_ ?_ | refine (hk ..).after ?_ | exact hk .. | refine (State.lnt_kept (hk := ?_) ..).after ?_
    | refine (State.lntErr_kept ..).after ?_ | dsimp only | intro _)

theorem State.lntOk_kept (s : State) (lines : List (String × List Nat)) : Kept s (State.lntOk s lines) := by
  unfold State.lntOk
  with_reducible repeat' (first
    | exact Kept.refl _ | refine (State.emit_kept ..).after ?_ | refine each_kept ?_ (fun _ _ => ?_) | dsimp only | intro _)

theorem State.lntReads_kept (s : State) (off : Nat) (y2 : Nat) : Kept s (State.lntReads s off y2).2 := by
  induction y2 generalizing s off with
  | zero =>
    unfold State.lntReads
    with_reducible repeat' (first
      | exact Kept.refl _ | refine kept_ite ?_ ?_ | refine (State.fabricRead_kept ..).after ?_ | refine pair_kept (by assumption) ?_
      | dsimp only | split)
  | succ n ih =>
    unfold State.lntReads
    with_reducible repeat' (first
      | exact Kept.refl _ | refine kept_ite ?_ ?_ | refine (ih ..).after ?_ | refine (State.fabricRead_kept ..).after ?_
      | refine pair_kept (by assumption) ?_ | dsimp only | split)

theorem State.msixWrite_kept (s : State) (f : Nat) (e : Nat) (part : Nat) (v : Nat) : Kept s (State.msixWrite s f e part v) := by
  unfold State.msixWrite
  with_reducible repeat' (first
    | exact Kept.refl _ | refine kept_ite ?_ ?_ | refine (State.updFunc_kept ..).after ?_ | refine (State.pbaSend_kept ..).after ?_
    | dsimp only)

theorem State.ncReply_kept (s : State) (c : Nat) (kind : Nat) (code : Nat) (reason : Nat) (vals : List Nat) : Kept s (State.ncReply s c kind code reason vals) := by
  unfold State.ncReply
  with_reducible repeat' (first
    | exact Kept.refl _ | refine (State.emit_kept ..).after ?_ | dsimp only)

theorem State.updPkg_kept (s : State) (f : NcPkg → NcPkg) : Kept s (State.updPkg s f) := by
  unfold State.updPkg
  with_reducible repeat' (first
    | exact Kept.refl _ | fail_if_no_progress refine kept_mk (by rfl) (by rfl) ?_ | dsimp only)

theorem State.ncTake_kept (s : State) (sumOk : Bool) (k : State → State) (hk : ∀ x0, Kept x0 (k x0)) : Kept s (State.ncTake s sumOk k) := by
  unfold State.ncTake
  with_reducible repeat' (first
    | exact Kept.refl _ | refine kept_ite ?_ ?_ | refine (hk ..).after ?_ | exact hk .. | refine (State.updPkg_kept ..).after ?_
    | dsimp only)

theorem State.ncCmd_kept (s : State) (c : Nat) (kind : Nat) (sumOk : Bool) (k : State → State × List Nat) (hk : ∀ x0, Kept x0 (k x0).1) : Kept s (State.ncCmd s c kind sumOk k) := by
  unfold State.ncCmd
  with_reducible repeat' (first
    | exact Kept.refl _ | refine kept_ite ?_ ?_ | refine (hk ..).after ?_ | exact hk .. | refine (State.ncReply_kept ..).after ?_
    | refine (State.wrB_kept ..).after ?_ | refine (State.ncTake_kept (hk := ?_) ..).after ?_ | dsimp only | intro _ | split)

theorem State.ncDo_kept (s : State) (c : Nat) (kind : Nat) (sumOk : Bool) (k : State → State) (hk : ∀ x0, Kept x0 (k x0)) : Kept s (State.ncDo s c kind sumOk k) := by
  unfold State.ncDo
  with_reducible repeat' (first
    | exact Kept.refl _ | refine (hk ..).after ?_ | exact hk .. | refine (State.ncCmd_kept (hk := ?_) ..).after ?_ | dsimp only | intro _)

theorem State.ncEnable_kept (s : State) (c : Nat) (b : Bool) : Kept s (State.ncEnable s c b) := by
  unfold State.ncEnable
  with_reducible repeat' (first
    | exact Kept.refl _ | refine (State.wr_kept ..).after ?_ | dsimp only)

theorem State.ncTx_kept (s : State) (c : Nat) (b : Bool) : Kept s (State.ncTx s c b) := by
  unfold State.ncTx
  with_reducible repeat' (first
    | exact Kept.refl _ | refine (State.wr_kept ..).after ?_ | dsimp only)

theorem State.newNonce_kept (s : State) : Kept s (State.newNonce s) := by
  unfold State.newNonce
  with_reducible repeat' (first
    | exact Kept.refl _ | refine (State.setReg_kept ..).after ?_ | refine (State.fresh_kept ..).after ?_
    | refine pair_kept (by assumption) ?_ | dsimp only | split)

theorem State.plainWrite_kept (s : State) (off : Nat) (row : RegRow) (v : Word) : Kept s (State.plainWrite s off row v) := by
  unfold State.plainWrite
  with_reducible repeat' (first
    | exact Kept.refl _ | refine (State.setReg_kept ..).after ?_ | refine foldl_kept ?_ (fun _ _ => ?_) | dsimp only)

theorem State.queueCmd_kept (s : State) (f : Nat) (op : Nat) (k : State → Nat → Nat → Nat → State) (hk : ∀ x0 x1 x2 x3, Kept x0 (k x0 x1 x2 x3)) : Kept s (State.queueCmd s f op k) := by
  unfold State.queueCmd
  with_reducible repeat' (first
    | exact Kept.refl _ | refine kept_ite ?_ ?_ | refine (hk ..).after ?_ | exact hk .. | refine (State.admDone_kept ..).after ?_
    | refine (State.admRun_kept (hk := ?_) ..).after ?_ | dsimp only | intro _)

theorem State.readBad_kept (s : State) (r : Read) (why : Nat) : Kept s (State.readBad s r why) := by
  unfold State.readBad
  with_reducible repeat' (first
    | exact Kept.refl _ | refine (State.txReadFail_kept ..).after ?_ | refine (State.ropeFinish_kept ..).after ?_
    | refine (State.queueStop_kept ..).after ?_ | dsimp only | split)

theorem State.readAgain_kept (s : State) (r : Read) (cause : Nat) : Kept s (State.readAgain s r cause) := by
  unfold State.readAgain
  with_reducible repeat' (first
    | exact Kept.refl _ | refine kept_ite ?_ ?_ | refine (State.readBad_kept ..).after ?_ | refine (State.issue_kept ..).after ?_
    | refine (State.newCorr_kept ..).after ?_ | refine (State.readFailed_kept ..).after ?_ | refine pair_kept (by assumption) ?_
    | dsimp only | split)

theorem State.readGood_kept (s : State) (r : Read) : Kept s (State.readGood s r) := by
  unfold State.readGood
  with_reducible repeat' (first
    | exact Kept.refl _ | refine (State.updQue_kept ..).after ?_ | refine (State.ropeGot_kept ..).after ?_
    | refine (State.txRead_kept ..).after ?_ | dsimp only | split)

theorem State.readDone_kept (s : State) (r : Read) (status : Nat) : Kept s (State.readDone s r status) := by
  unfold State.readDone
  with_reducible repeat' (first
    | exact Kept.refl _ | refine kept_ite ?_ ?_ | refine (State.err_kept ..).after ?_ | refine (State.fault_kept ..).after ?_
    | refine (State.readBad_kept ..).after ?_ | refine (State.dropRead_kept ..).after ?_ | refine (State.readAgain_kept ..).after ?_
    | refine (State.readGood_kept ..).after ?_ | refine (State.readFailed_kept ..).after ?_ | refine (State.stat_kept ..).after ?_
    | refine op_map (fun _ => rfl) ?_ | dsimp only | split)

theorem State.regWrite_kept (s : State) (who : Nat) (rid : Nat) (off : Nat) (v : Word) (hi : Bool) : Kept s (State.regWrite s who rid off v hi) := by
  unfold State.regWrite
  with_reducible repeat' (first
    | exact Kept.refl _ | refine kept_ite ?_ ?_ | refine (State.faultPending_kept ..).after ?_ | refine (State.errWrite_kept ..).after ?_
    | refine (State.plainWrite_kept ..).after ?_ | refine (opt_get (State.actWrite_kept ..) (by assumption)).after ?_
    | exact State.actWrite_kept .. | refine (State.grtWrite_kept ..).after ?_ | dsimp only | split)

theorem State.reserveCq_kept (s : State) (f : Nat) (cq : Nat) : Kept s (State.reserveCq s f cq) := by
  unfold State.reserveCq
  with_reducible repeat' (first
    | exact Kept.refl _ | refine (State.updFunc_kept ..).after ?_ | dsimp only)

theorem State.unhalt_kept (s : State) (g : Nat) (e : Nat) (t : Nat) : Kept s (State.unhalt s g e t) := by
  unfold State.unhalt
  with_reducible repeat' (first
    | exact Kept.refl _ | refine kept_ite ?_ ?_ | refine (State.setTs_kept ..).after ?_ | refine (State.wr_kept ..).after ?_
    | refine (State.setGal_kept ..).after ?_ | dsimp only | split)

theorem State.resumeThr_kept (s : State) (g : Nat) (e : Nat) (t : Nat) : Kept s (State.resumeThr s g e t) := by
  unfold State.resumeThr
  with_reducible repeat' (first
    | exact Kept.refl _ | refine kept_ite ?_ ?_ | refine (State.onFault_kept ..).after ?_ | refine (State.stopThr_kept ..).after ?_
    | refine (State.unhalt_kept ..).after ?_ | refine (State.retryDone_kept ..).after ?_ | refine (State.updThr_kept ..).after ?_
    | dsimp only | split)

theorem State.setLevel_kept (s : State) (v : Nat) : Kept s (State.setLevel s v) := by
  unfold State.setLevel
  with_reducible repeat' (first
    | exact Kept.refl _ | refine kept_ite ?_ ?_ | refine (State.wr_kept ..).after ?_ | refine (State.retireSession_kept ..).after ?_
    | refine (State.retireNs_kept ..).after ?_ | refine (State.meas5_kept ..).after ?_ | refine each_kept ?_ (fun _ _ => ?_) | dsimp only
    | intro _)

theorem State.setSplit_kept (s : State) (a : Nat) (x : Split) : Kept s (State.setSplit s a x) := by
  unfold State.setSplit
  with_reducible repeat' (first
    | exact Kept.refl _ | fail_if_no_progress refine kept_mk (by rfl) (by rfl) ?_ | dsimp only)

theorem State.shareBudget_kept (s : State) (f : Nat) (margin : Nat) (stretch : Nat) : Kept s (State.shareBudget s f margin stretch) := by
  unfold State.shareBudget
  with_reducible repeat' (first
    | exact Kept.refl _ | refine (State.admDone_kept ..).after ?_ | refine (State.wr_kept ..).after ?_
    | refine each_kept ?_ (fun _ _ => ?_) | dsimp only | intro _ | split)

theorem State.shareDone_kept (s : State) (f : Nat) (t : Nat) (res : Nat) : Kept s (State.shareDone s f t res) := by
  unfold State.shareDone
  with_reducible repeat' (first
    | exact Kept.refl _ | refine (State.admDone_kept ..).after ?_ | refine (State.tdiStop_kept ..).after ?_
    | refine (State.event_kept ..).after ?_ | dsimp only)

theorem State.shareEngine_kept (s : State) (f : Nat) (t : Nat) (v : Nat) : Kept s (State.shareEngine s f t v) := by
  unfold State.shareEngine
  with_reducible repeat' (first
    | exact Kept.refl _ | refine kept_ite ?_ ?_ | refine (State.admDone_kept ..).after ?_ | refine (State.setFunc_kept ..).after ?_
    | refine (State.shareDone_kept ..).after ?_ | dsimp only | split)

theorem State.shareGroup_kept (s : State) (f : Nat) (g : Nat) (profile : Nat) (share : Nat) : Kept s (State.shareGroup s f g profile share) := by
  unfold State.shareGroup
  with_reducible repeat' (first
    | exact Kept.refl _ | refine (State.tmStore_kept ..).after ?_ | refine (State.admDone_kept ..).after ?_ | dsimp only)

theorem State.shareSet_kept (s : State) (f : Nat) (c : AdmCmd) : Kept s (State.shareSet s f c) := by
  unfold State.shareSet
  with_reducible repeat' (first
    | exact Kept.refl _ | refine kept_ite ?_ ?_ | refine (State.shareGroup_kept ..).after ?_ | refine (State.shareEngine_kept ..).after ?_
    | refine (State.admDone_kept ..).after ?_ | refine (State.shareBudget_kept ..).after ?_ | refine (State.setFunc_kept ..).after ?_
    | refine (State.shareDone_kept ..).after ?_ | dsimp only)

theorem State.tick_kept (s : State) : Kept s (State.tick s) := by
  unfold State.tick
  with_reducible repeat' (first
    | exact Kept.refl _ | refine kept_ite ?_ ?_ | refine (State.clockCycle_kept ..).after ?_ | refine (State.ncDrain_kept ..).after ?_
    | dsimp only)

theorem State.txTake_kept (s : State) (f : Nat) (k : Nat) (q : Nat) (e : TxPend) : Kept s (State.txTake s f k q e) := by
  unfold State.txTake
  with_reducible repeat' (first
    | exact Kept.refl _ | refine kept_ite ?_ ?_ | refine (State.txEnterAll_kept ..).after ?_ | refine (State.updQue_kept ..).after ?_
    | refine (State.askRead_kept ..).after ?_ | refine each_kept ?_ (fun _ _ => ?_) | dsimp only | intro _)

theorem State.txNative_kept (s : State) (f : Nat) (n : Nat) : Kept s (State.txNative s f n) := by
  unfold State.txNative
  with_reducible repeat' (first
    | exact Kept.refl _ | refine kept_ite ?_ ?_ | refine (State.reserveCq_kept ..).after ?_ | refine (State.txTake_kept ..).after ?_
    | refine (State.updQue_kept ..).after ?_ | dsimp only | split)

theorem State.txVirtio_kept (s : State) (f : Nat) (n : Nat) : Kept s (State.txVirtio s f n) := by
  unfold State.txVirtio
  with_reducible repeat' (first
    | exact Kept.refl _ | refine (State.txTake_kept ..).after ?_ | refine (State.vqTake_kept ..).after ?_ | dsimp only | split)

theorem execNcsiDisableVlan_kept (c : Nat) (sumOk : Bool) (s : State) : OutKept s (execNcsiDisableVlan c sumOk s) := by
  unfold execNcsiDisableVlan
  with_reducible repeat' (first
    | exact Kept.refl _ | refine out_next ?_ | refine (State.ncDo_kept (hk := ?_) ..).after ?_ | refine (State.updNc_kept ..).after ?_
    | dsimp only | intro _)

theorem execQueueDisable_kept (f : Nat) (s : State) : OutKept s (execQueueDisable f s) := by
  unfold execQueueDisable
  with_reducible repeat' (first
    | exact Kept.refl _ | refine out_next ?_ | refine kept_ite ?_ ?_ | refine out_ite ?_ ?_ | refine (State.queueHalt_kept ..).after ?_
    | refine (State.admWait_kept ..).after ?_ | refine (State.admDone_kept ..).after ?_ | refine (State.updQue_kept ..).after ?_
    | refine (State.queueCmd_kept (hk := ?_) ..).after ?_ | dsimp only | intro _)

theorem execNcsiEnableBroadcastFilter_kept (c : Nat) (mask : Nat) (sumOk : Bool) (s : State) : OutKept s (execNcsiEnableBroadcastFilter c mask sumOk s) := by
  unfold execNcsiEnableBroadcastFilter
  with_reducible repeat' (first
    | exact Kept.refl _ | refine out_next ?_ | refine (State.ncDo_kept (hk := ?_) ..).after ?_ | refine (State.updNc_kept ..).after ?_
    | dsimp only | intro _)

theorem execLntBkptArm_kept (g : Nat) (e : Nat) (s : State) : OutKept s (execLntBkptArm g e s) := by
  unfold execLntBkptArm
  with_reducible repeat' (first
    | exact Kept.refl _ | refine out_next ?_ | refine (State.lnt_kept (hk := ?_) ..).after ?_ | refine (State.arm_kept ..).after ?_
    | refine (State.lntOk_kept ..).after ?_ | dsimp only | intro _)

theorem execCfPacketInject_kept (id : Option Nat) (data : List (BitVec 8)) (s : State) : OutKept s (execCfPacketInject id data s) := by
  unfold execCfPacketInject
  with_reducible repeat' (first
    | exact Kept.refl _ | refine out_next ?_ | fail_if_no_progress refine kept_mk (by rfl) (by rfl) ?_
    | refine (State.toParse_kept ..).after ?_ | refine op_map (fun _ => rfl) ?_ | dsimp only | split)

theorem execModerationSet_kept (f : Nat) (s : State) : OutKept s (execModerationSet f s) := by
  unfold execModerationSet
  with_reducible repeat' (first
    | exact Kept.refl _ | refine out_next ?_ | refine kept_ite ?_ ?_ | refine out_ite ?_ ?_ | refine (State.admDone_kept ..).after ?_
    | refine (State.setFunc_kept ..).after ?_ | refine (State.admRun_kept (hk := ?_) ..).after ?_ | dsimp only | intro _)

theorem execLntSumpAbort_kept (g : Nat) (n : Nat) (s : State) : OutKept s (execLntSumpAbort g n s) := by
  unfold execLntSumpAbort
  with_reducible repeat' (first
    | exact Kept.refl _ | refine out_next ?_ | refine (State.lnt_kept (hk := ?_) ..).after ?_ | refine (State.lntOk_kept ..).after ?_
    | refine (State.sumpAbort_kept ..).after ?_ | dsimp only | intro _)

theorem execDripBoundary_kept (s : State) : OutKept s (execDripBoundary s) := by
  unfold execDripBoundary
  with_reducible repeat' (first
    | exact Kept.refl _ | refine out_next ?_ | refine kept_ite ?_ ?_ | refine out_ite ?_ ?_ | refine (State.dripHosts_kept ..).after ?_
    | refine (State.dripTm_kept ..).after ?_ | refine (State.dripGalleries_kept ..).after ?_ | refine (State.dripClock_kept ..).after ?_
    | dsimp only | split)

theorem execLntStepTimeout_kept (s : State) : OutKept s (execLntStepTimeout s) := by
  unfold execLntStepTimeout
  with_reducible repeat' (first
    | exact Kept.refl _ | refine out_next ?_ | refine kept_ite ?_ ?_ | refine out_ite ?_ ?_ | refine (State.stepEnd_kept ..).after ?_
    | dsimp only | split)

theorem execTxDescriptorFetch_kept (f : Nat) (k : Nat) (q : Nat) (s : State) : OutKept s (execTxDescriptorFetch f k q s) := by
  unfold execTxDescriptorFetch
  with_reducible repeat' (first
    | exact Kept.refl _ | refine out_next ?_ | refine kept_ite ?_ ?_ | refine out_ite ?_ ?_ | refine (State.txVirtio_kept ..).after ?_
    | refine (State.txNative_kept ..).after ?_ | dsimp only)

theorem execReadCompletionRx_kept (a : Nat) (tag : Nat) (status : Nat) (s : State) : OutKept s (execReadCompletionRx a tag status s) := by
  unfold execReadCompletionRx
  with_reducible repeat' (first
    | exact Kept.refl _ | refine out_next ?_ | refine kept_ite ?_ ?_ | refine out_ite ?_ ?_ | refine (State.updFunc_kept ..).after ?_
    | refine (State.stat_kept ..).after ?_ | refine (State.readDone_kept ..).after ?_ | dsimp only | split)

theorem execNcsiDisableMulticastFilter_kept (c : Nat) (sumOk : Bool) (s : State) : OutKept s (execNcsiDisableMulticastFilter c sumOk s) := by
  unfold execNcsiDisableMulticastFilter
  with_reducible repeat' (first
    | exact Kept.refl _ | refine out_next ?_ | refine (State.ncDo_kept (hk := ?_) ..).after ?_ | refine (State.updNc_kept ..).after ?_
    | dsimp only | intro _)

theorem execNcsiUnsupportedCommand_kept (c : Nat) (kind : Nat) (sumOk : Bool) (s : State) : OutKept s (execNcsiUnsupportedCommand c kind sumOk s) := by
  unfold execNcsiUnsupportedCommand
  with_reducible repeat' (first
    | exact Kept.refl _ | refine out_next ?_ | refine (State.ncReply_kept ..).after ?_ | refine (State.wrB_kept ..).after ?_
    | refine (State.updPkg_kept ..).after ?_ | refine (State.ncTake_kept (hk := ?_) ..).after ?_ | dsimp only | intro _)

theorem execNcsiGetCapabilities_kept (c : Nat) (sumOk : Bool) (s : State) : OutKept s (execNcsiGetCapabilities c sumOk s) := by
  unfold execNcsiGetCapabilities
  with_reducible repeat' (first
    | exact Kept.refl _ | refine out_next ?_ | refine (State.ncCmd_kept (hk := ?_) ..).after ?_ | dsimp only | intro _)

theorem execNcsiGetParameters_kept (c : Nat) (sumOk : Bool) (s : State) : OutKept s (execNcsiGetParameters c sumOk s) := by
  unfold execNcsiGetParameters
  with_reducible repeat' (first
    | exact Kept.refl _ | refine out_next ?_ | refine (State.ncCmd_kept (hk := ?_) ..).after ?_ | dsimp only | intro _)

theorem execLntLock_kept (s : State) : OutKept s (execLntLock s) := by
  unfold execLntLock
  with_reducible repeat' (first
    | exact Kept.refl _ | refine out_next ?_ | refine (State.lnt_kept (hk := ?_) ..).after ?_ | refine (State.lntOk_kept ..).after ?_
    | refine (State.setLevel_kept ..).after ?_ | dsimp only | intro _)

theorem execHighHalfRead_kept (a : Nat) (rid : Nat) (off : Nat) (s : State) : OutKept s (execHighHalfRead a rid off s) := by
  unfold execHighHalfRead
  with_reducible repeat' (first
    | exact Kept.refl _ | refine out_next ?_ | refine kept_ite ?_ ?_ | refine out_ite ?_ ?_ | refine (State.barRefuse_kept ..).after ?_
    | refine (State.fabricRead_kept ..).after ?_ | refine (State.setSplit_kept ..).after ?_ | refine (State.emit_kept ..).after ?_
    | refine pair_kept (by assumption) ?_ | dsimp only | split)

theorem execNcsiEnableVlan_kept (c : Nat) (mode : Nat) (sumOk : Bool) (s : State) : OutKept s (execNcsiEnableVlan c mode sumOk s) := by
  unfold execNcsiEnableVlan
  with_reducible repeat' (first
    | exact Kept.refl _ | refine out_next ?_ | refine (State.ncDo_kept (hk := ?_) ..).after ?_ | refine (State.updNc_kept ..).after ?_
    | dsimp only | intro _)

theorem execNcsiEnableNetworkTx_kept (c : Nat) (sumOk : Bool) (s : State) : OutKept s (execNcsiEnableNetworkTx c sumOk s) := by
  unfold execNcsiEnableNetworkTx
  with_reducible repeat' (first
    | exact Kept.refl _ | refine out_next ?_ | refine (State.ncDo_kept (hk := ?_) ..).after ?_ | refine (State.ncTx_kept ..).after ?_
    | dsimp only | intro _)

theorem execLntResume_kept (g : Nat) (e : Nat) (s : State) : OutKept s (execLntResume g e s) := by
  unfold execLntResume
  with_reducible repeat' (first
    | exact Kept.refl _ | refine out_next ?_ | refine kept_ite ?_ ?_ | refine out_ite ?_ ?_
    | refine (State.lnt_kept (hk := ?_) ..).after ?_ | refine (State.setEngn_kept ..).after ?_ | refine (State.lntErr_kept ..).after ?_
    | refine (State.lntOk_kept ..).after ?_ | refine (State.drain_kept ..).after ?_ | refine (State.resumeThr_kept ..).after ?_
    | refine each_kept ?_ (fun _ _ => ?_) | dsimp only | intro _)

theorem execDebugUnlock_kept (f : Nat) (s : State) : OutKept s (execDebugUnlock f s) := by
  unfold execDebugUnlock
  with_reducible repeat' (first
    | exact Kept.refl _ | refine out_next ?_ | refine kept_ite ?_ ?_ | refine out_ite ?_ ?_ | refine (State.admDone_kept ..).after ?_
    | refine (State.admCrit_kept (hk := ?_) ..).after ?_ | refine (State.setLevel_kept ..).after ?_
    | refine (State.newNonce_kept ..).after ?_ | dsimp only | intro _)

theorem execNcsiSetVlanFilter_kept (c : Nat) (i : Nat) (vid : Nat) (en : Bool) (sumOk : Bool) (s : State) : OutKept s (execNcsiSetVlanFilter c i vid en sumOk s) := by
  unfold execNcsiSetVlanFilter
  with_reducible repeat' (first
    | exact Kept.refl _ | refine out_next ?_ | refine kept_ite ?_ ?_ | refine out_ite ?_ ?_
    | refine (State.ncDo_kept (hk := ?_) ..).after ?_ | refine (State.updNc_kept ..).after ?_ | dsimp only | intro _)

theorem execLntBkptDisarm_kept (g : Nat) (e : Nat) (s : State) : OutKept s (execLntBkptDisarm g e s) := by
  unfold execLntBkptDisarm
  with_reducible repeat' (first
    | exact Kept.refl _ | refine out_next ?_ | refine (State.lnt_kept (hk := ?_) ..).after ?_ | refine (State.arm_kept ..).after ?_
    | refine (State.lntOk_kept ..).after ?_ | dsimp only | intro _)

theorem execNcsiDisableNetworkTx_kept (c : Nat) (sumOk : Bool) (s : State) : OutKept s (execNcsiDisableNetworkTx c sumOk s) := by
  unfold execNcsiDisableNetworkTx
  with_reducible repeat' (first
    | exact Kept.refl _ | refine out_next ?_ | refine (State.ncDo_kept (hk := ?_) ..).after ?_ | refine (State.ncTx_kept ..).after ?_
    | dsimp only | intro _)

theorem execLntNonce_kept (s : State) : OutKept s (execLntNonce s) := by
  unfold execLntNonce
  with_reducible repeat' (first
    | exact Kept.refl _ | refine out_next ?_ | refine (State.lnt_kept (hk := ?_) ..).after ?_ | refine (State.lntOk_kept ..).after ?_
    | dsimp only | intro _)

theorem execIdentifyFunction_kept (f : Nat) (s : State) : OutKept s (execIdentifyFunction f s) := by
  unfold execIdentifyFunction
  with_reducible repeat' (first
    | exact Kept.refl _ | refine out_next ?_ | refine (State.admDone_kept ..).after ?_ | refine (State.admRun_kept (hk := ?_) ..).after ?_
    | dsimp only | intro _)

theorem execGrtWindowWrite_kept (a : Nat) (rid : Nat) (off : Nat) (s : State) : OutKept s (execGrtWindowWrite a rid off s) := by
  unfold execGrtWindowWrite
  with_reducible repeat' (first
    | exact Kept.refl _ | refine out_next ?_ | refine kept_ite ?_ ?_ | refine out_ite ?_ ?_ | refine (State.barRefuse_kept ..).after ?_
    | refine (State.grtWrite_kept ..).after ?_ | dsimp only)

theorem execLntUnknownCommand_kept (s : State) : OutKept s (execLntUnknownCommand s) := by
  unfold execLntUnknownCommand
  with_reducible repeat' (first
    | exact Kept.refl _ | refine out_next ?_ | refine kept_ite ?_ ?_ | refine out_ite ?_ ?_ | refine (State.lntErr_kept ..).after ?_
    | dsimp only)

theorem execLntHelp_kept (s : State) : OutKept s (execLntHelp s) := by
  unfold execLntHelp
  with_reducible repeat' (first
    | exact Kept.refl _ | refine out_next ?_ | refine kept_ite ?_ ?_ | refine out_ite ?_ ?_
    | refine (State.lnt_kept (hk := ?_) ..).after ?_ | refine (State.lntOk_kept ..).after ?_ | dsimp only | intro _)

theorem execLntWr_kept (off : Nat) (v : Word) (s : State) : OutKept s (execLntWr off v s) := by
  unfold execLntWr
  with_reducible repeat' (first
    | exact Kept.refl _ | refine out_next ?_ | refine (State.lnt_kept (hk := ?_) ..).after ?_ | refine (State.regWrite_kept ..).after ?_
    | refine (State.lntOk_kept ..).after ?_ | dsimp only | intro _)

theorem execFwActivate_kept (f : Nat) (s : State) : OutKept s (execFwActivate f s) := by
  unfold execFwActivate
  with_reducible repeat' (first
    | exact Kept.refl _ | refine out_next ?_ | refine kept_ite ?_ ?_ | refine out_ite ?_ ?_ | refine (State.admDone_kept ..).after ?_
    | refine (State.wr_kept ..).after ?_ | refine (State.admCrit_kept (hk := ?_) ..).after ?_ | dsimp only | intro _)

theorem execLntHalt_kept (g : Nat) (e : Nat) (s : State) : OutKept s (execLntHalt g e s) := by
  unfold execLntHalt
  with_reducible repeat' (first
    | exact Kept.refl _ | refine out_next ?_ | refine kept_ite ?_ ?_ | refine out_ite ?_ ?_
    | refine (State.lnt_kept (hk := ?_) ..).after ?_ | refine (State.lntErr_kept ..).after ?_ | refine (State.lntOk_kept ..).after ?_
    | refine (State.haltEngine_kept ..).after ?_ | dsimp only | intro _)

theorem execHighHalfWrite_kept (a : Nat) (rid : Nat) (off : Nat) (v : BitVec 32) (s : State) : OutKept s (execHighHalfWrite a rid off v s) := by
  unfold execHighHalfWrite
  with_reducible repeat' (first
    | exact Kept.refl _ | refine out_next ?_ | refine kept_ite ?_ ?_ | refine out_ite ?_ ?_ | refine (State.barRefuse_kept ..).after ?_
    | refine (State.regWrite_kept ..).after ?_ | refine (State.setSplit_kept ..).after ?_ | dsimp only)

theorem execQueueDisableComplete_kept (f : Nat) (late : Bool) (s : State) : OutKept s (execQueueDisableComplete f late s) := by
  unfold execQueueDisableComplete
  with_reducible repeat' (first
    | exact Kept.refl _ | refine out_next ?_ | refine kept_ite ?_ ?_ | refine out_ite ?_ ?_ | refine (State.unreserve_kept ..).after ?_
    | refine (State.admDone_kept ..).after ?_ | refine (State.updQue_kept ..).after ?_ | dsimp only | split)

theorem execTagQuarantineEnd_kept (a : Nat) (tag : Nat) (s : State) : OutKept s (execTagQuarantineEnd a tag s) := by
  unfold execTagQuarantineEnd
  with_reducible repeat' (first
    | exact Kept.refl _ | refine out_next ?_ | fail_if_no_progress refine kept_mk (by rfl) (by rfl) ?_ | dsimp only)

theorem execNcsiGetLinkStatus_kept (c : Nat) (sumOk : Bool) (s : State) : OutKept s (execNcsiGetLinkStatus c sumOk s) := by
  unfold execNcsiGetLinkStatus
  with_reducible repeat' (first
    | exact Kept.refl _ | refine out_next ?_ | refine (State.ncCmd_kept (hk := ?_) ..).after ?_ | dsimp only | intro _)

theorem execShareSet_kept (f : Nat) (s : State) : OutKept s (execShareSet f s) := by
  unfold execShareSet
  with_reducible repeat' (first
    | exact Kept.refl _ | refine out_next ?_ | refine (State.shareSet_kept ..).after ?_
    | refine (State.admCrit_kept (hk := ?_) ..).after ?_ | dsimp only | intro _ | split)

theorem execNcsiPassthroughTx_kept (c : Nat) (l : List Byte) (s : State) : OutKept s (execNcsiPassthroughTx c l s) := by
  unfold execNcsiPassthroughTx
  with_reducible repeat' (first
    | exact Kept.refl _ | refine out_next ?_ | refine kept_ite ?_ ?_ | refine out_ite ?_ ?_ | refine (State.ctlFrame_kept ..).after ?_
    | refine (State.updNc_kept ..).after ?_ | dsimp only)

theorem execLntPort_kept (p : Nat) (s : State) : OutKept s (execLntPort p s) := by
  unfold execLntPort
  with_reducible repeat' (first
    | exact Kept.refl _ | refine out_next ?_ | refine (State.lnt_kept (hk := ?_) ..).after ?_ | refine (State.lntOk_kept ..).after ?_
    | dsimp only | intro _)

theorem execQueueDestroy_kept (f : Nat) (s : State) : OutKept s (execQueueDestroy f s) := by
  unfold execQueueDestroy
  with_reducible repeat' (first
    | exact Kept.refl _ | refine out_next ?_ | refine kept_ite ?_ ?_ | refine out_ite ?_ ?_ | refine (State.admDone_kept ..).after ?_
    | refine (State.queueCmd_kept (hk := ?_) ..).after ?_ | refine (State.updFunc_kept ..).after ?_
    | refine (State.dropQue_kept ..).after ?_ | dsimp only | intro _)

theorem execNcsiResetChannel_kept (c : Nat) (sumOk : Bool) (s : State) : OutKept s (execNcsiResetChannel c sumOk s) := by
  unfold execNcsiResetChannel
  with_reducible repeat' (first
    | exact Kept.refl _ | refine out_next ?_ | refine (State.ncEnable_kept ..).after ?_ | refine (State.ncDo_kept (hk := ?_) ..).after ?_
    | refine (State.ncTx_kept ..).after ?_ | refine (State.updNc_kept ..).after ?_ | dsimp only | intro _)

theorem execLntCoreResume_kept (c : Nat) (s : State) : OutKept s (execLntCoreResume c s) := by
  unfold execLntCoreResume
  with_reducible repeat' (first
    | exact Kept.refl _ | refine out_next ?_ | fail_if_no_progress refine kept_mk (by first | rfl | simp only [Board.fix]) (by rfl) ?_
    | refine kept_ite ?_ ?_ | refine out_ite ?_ ?_ | refine (State.lnt_kept (hk := ?_) ..).after ?_
    | refine (State.lntErr_kept ..).after ?_ | refine (State.lntOk_kept ..).after ?_ | dsimp only | intro _)

theorem execNcsiGetControllerStats_kept (c : Nat) (sumOk : Bool) (s : State) : OutKept s (execNcsiGetControllerStats c sumOk s) := by
  unfold execNcsiGetControllerStats
  with_reducible repeat' (first
    | exact Kept.refl _ | refine out_next ?_ | refine (State.ncCmd_kept (hk := ?_) ..).after ?_ | dsimp only | intro _)

theorem execLntStep_kept (g : Nat) (e : Nat) (t : Nat) (n : Nat) (s : State) : OutKept s (execLntStep g e t n s) := by
  unfold execLntStep
  with_reducible repeat' (first
    | exact Kept.refl _ | refine out_next ?_ | fail_if_no_progress refine kept_mk (by first | rfl | simp only [Board.fix]) (by rfl) ?_
    | refine kept_ite ?_ ?_ | refine out_ite ?_ ?_ | refine (State.wrB_kept ..).after ?_ | refine (State.lnt_kept (hk := ?_) ..).after ?_
    | refine (State.lntErr_kept ..).after ?_ | refine (State.unhalt_kept ..).after ?_ | refine (State.stepCheck_kept ..).after ?_
    | dsimp only | intro _)

theorem execErrorCounterWrite_kept (off : Nat) (v : Word) (s : State) : OutKept s (execErrorCounterWrite off v s) := by
  unfold execErrorCounterWrite
  with_reducible repeat' (first
    | exact Kept.refl _ | refine out_next ?_ | refine (State.errWrite_kept ..).after ?_ | dsimp only | split)

theorem execQueueCreate_kept (f : Nat) (s : State) : OutKept s (execQueueCreate f s) := by
  unfold execQueueCreate
  with_reducible repeat' (first
    | exact Kept.refl _ | refine out_next ?_ | refine kept_ite ?_ ?_ | refine out_ite ?_ ?_ | refine (State.admDone_kept ..).after ?_
    | refine (State.updQue_kept ..).after ?_ | refine (State.setFunc_kept ..).after ?_ | refine (State.admRun_kept (hk := ?_) ..).after ?_
    | dsimp only | intro _)

theorem execNcsiGetVersionId_kept (c : Nat) (sumOk : Bool) (s : State) : OutKept s (execNcsiGetVersionId c sumOk s) := by
  unfold execNcsiGetVersionId
  with_reducible repeat' (first
    | exact Kept.refl _ | refine out_next ?_ | refine (State.ncCmd_kept (hk := ?_) ..).after ?_ | dsimp only | intro _)

theorem execFunctionCreate_kept (f : Nat) (s : State) : OutKept s (execFunctionCreate f s) := by
  unfold execFunctionCreate
  with_reducible repeat' (first
    | exact Kept.refl _ | refine out_next ?_ | refine kept_ite ?_ ?_ | refine out_ite ?_ ?_ | refine (State.admDone_kept ..).after ?_
    | refine (State.admCrit_kept (hk := ?_) ..).after ?_ | refine (State.setFunc_kept ..).after ?_ | dsimp only | intro _)

theorem execNcsiEnableChannel_kept (c : Nat) (sumOk : Bool) (s : State) : OutKept s (execNcsiEnableChannel c sumOk s) := by
  unfold execNcsiEnableChannel
  with_reducible repeat' (first
    | exact Kept.refl _ | refine out_next ?_ | refine (State.ncEnable_kept ..).after ?_ | refine (State.ncDo_kept (hk := ?_) ..).after ?_
    | dsimp only | intro _)

theorem execLntTime_kept (s : State) : OutKept s (execLntTime s) := by
  unfold execLntTime
  with_reducible repeat' (first
    | exact Kept.refl _ | refine out_next ?_ | refine (State.lnt_kept (hk := ?_) ..).after ?_ | refine (State.lntOk_kept ..).after ?_
    | refine (State.snapshotFw_kept ..).after ?_ | dsimp only | intro _)

theorem execDoorbellBadWrite_kept (f : Nat) (rid : Nat) (off : Nat) (s : State) : OutKept s (execDoorbellBadWrite f rid off s) := by
  unfold execDoorbellBadWrite
  with_reducible repeat' (first
    | exact Kept.refl _ | refine out_next ?_ | refine kept_ite ?_ ?_ | refine out_ite ?_ ?_ | refine (State.accessFault_kept ..).after ?_
    | refine (State.barRefuse_kept ..).after ?_ | refine (State.badDb_kept ..).after ?_ | dsimp only)

theorem execFunctionDestroy_kept (f : Nat) (s : State) : OutKept s (execFunctionDestroy f s) := by
  unfold execFunctionDestroy
  with_reducible repeat' (first
    | exact Kept.refl _ | refine out_next ?_ | refine kept_ite ?_ ?_ | refine out_ite ?_ ?_ | refine (State.admWait_kept ..).after ?_
    | refine (State.admDone_kept ..).after ?_ | refine (State.admCrit_kept (hk := ?_) ..).after ?_
    | refine (State.updFunc_kept ..).after ?_ | refine (State.resetFunc_kept ..).after ?_ | dsimp only | intro _)

theorem execNcsiDisableBroadcastFilter_kept (c : Nat) (sumOk : Bool) (s : State) : OutKept s (execNcsiDisableBroadcastFilter c sumOk s) := by
  unfold execNcsiDisableBroadcastFilter
  with_reducible repeat' (first
    | exact Kept.refl _ | refine out_next ?_ | refine (State.ncDo_kept (hk := ?_) ..).after ?_ | refine (State.updNc_kept ..).after ?_
    | dsimp only | intro _)

theorem execNcsiSetMacAddress_kept (c : Nat) (i : Nat) (addr : Nat) (en : Bool) (sumOk : Bool) (s : State) : OutKept s (execNcsiSetMacAddress c i addr en sumOk s) := by
  unfold execNcsiSetMacAddress
  with_reducible repeat' (first
    | exact Kept.refl _ | refine out_next ?_ | refine kept_ite ?_ ?_ | refine out_ite ?_ ?_
    | refine (State.ncDo_kept (hk := ?_) ..).after ?_ | refine (State.updNc_kept ..).after ?_ | dsimp only | intro _)

theorem execClockPageSet_kept (f : Nat) (s : State) : OutKept s (execClockPageSet f s) := by
  unfold execClockPageSet
  with_reducible repeat' (first
    | exact Kept.refl _ | refine out_next ?_ | refine (State.admDone_kept ..).after ?_ | refine (State.updFunc_kept ..).after ?_
    | refine (State.admRun_kept (hk := ?_) ..).after ?_ | dsimp only | intro _)

theorem execQueueEnable_kept (f : Nat) (s : State) : OutKept s (execQueueEnable f s) := by
  unfold execQueueEnable
  with_reducible repeat' (first
    | exact Kept.refl _ | refine out_next ?_ | refine kept_ite ?_ ?_ | refine out_ite ?_ ?_ | refine (State.admDone_kept ..).after ?_
    | refine (State.updQue_kept ..).after ?_ | refine (State.queueCmd_kept (hk := ?_) ..).after ?_
    | refine (State.askEntries_kept ..).after ?_ | dsimp only | intro _)

theorem execBadSizeRegisterAccess_kept (a : Nat) (rid : Nat) (off : Nat) (read : Bool) (s : State) : OutKept s (execBadSizeRegisterAccess a rid off read s) := by
  unfold execBadSizeRegisterAccess
  with_reducible repeat' (first
    | exact Kept.refl _ | refine out_next ?_ | refine kept_ite ?_ ?_ | refine out_ite ?_ ?_ | refine (State.err_kept ..).after ?_
    | refine (State.accessFault_kept ..).after ?_ | refine (State.barRefuse_kept ..).after ?_ | refine (State.emit_kept ..).after ?_
    | dsimp only)

theorem execLntCoreRd_kept (c : Nat) (addr : Nat) (k : Nat) (s : State) : OutKept s (execLntCoreRd c addr k s) := by
  unfold execLntCoreRd
  with_reducible repeat' (first
    | exact Kept.refl _ | refine out_next ?_ | refine (State.lnt_kept (hk := ?_) ..).after ?_ | refine (State.lntOk_kept ..).after ?_
    | refine (State.freshWords_kept ..).after ?_ | refine pair_kept (by assumption) ?_ | dsimp only | intro _ | split)

theorem execNcsiDeselectPackage_kept (sumOk : Bool) (s : State) : OutKept s (execNcsiDeselectPackage sumOk s) := by
  unfold execNcsiDeselectPackage
  with_reducible repeat' (first
    | exact Kept.refl _ | refine out_next ?_ | refine (State.ncReply_kept ..).after ?_ | refine (State.wrB_kept ..).after ?_
    | refine (State.ncTake_kept (hk := ?_) ..).after ?_ | dsimp only | intro _)

theorem execNcsiGetPassthroughStats_kept (c : Nat) (sumOk : Bool) (s : State) : OutKept s (execNcsiGetPassthroughStats c sumOk s) := by
  unfold execNcsiGetPassthroughStats
  with_reducible repeat' (first
    | exact Kept.refl _ | refine out_next ?_ | refine (State.ncCmd_kept (hk := ?_) ..).after ?_ | dsimp only | intro _)

theorem execNcsiDisableChannel_kept (c : Nat) (sumOk : Bool) (s : State) : OutKept s (execNcsiDisableChannel c sumOk s) := by
  unfold execNcsiDisableChannel
  with_reducible repeat' (first
    | exact Kept.refl _ | refine out_next ?_ | refine (State.ncEnable_kept ..).after ?_ | refine (State.ncDo_kept (hk := ?_) ..).after ?_
    | dsimp only | intro _)

theorem execNcsiGetNcsiStats_kept (c : Nat) (sumOk : Bool) (s : State) : OutKept s (execNcsiGetNcsiStats c sumOk s) := by
  unfold execNcsiGetNcsiStats
  with_reducible repeat' (first
    | exact Kept.refl _ | refine out_next ?_ | refine (State.ncCmd_kept (hk := ?_) ..).after ?_ | dsimp only | intro _)

theorem execLntFault_kept (n : Nat) (k : Nat) (s : State) : OutKept s (execLntFault n k s) := by
  unfold execLntFault
  with_reducible repeat' (first
    | exact Kept.refl _ | refine out_next ?_ | refine (State.lnt_kept (hk := ?_) ..).after ?_ | refine (State.lntOk_kept ..).after ?_
    | dsimp only | intro _)

theorem execNcsiClearInitialState_kept (c : Nat) (sumOk : Bool) (s : State) : OutKept s (execNcsiClearInitialState c sumOk s) := by
  unfold execNcsiClearInitialState
  with_reducible repeat' (first
    | exact Kept.refl _ | refine out_next ?_ | refine kept_ite ?_ ?_ | refine out_ite ?_ ?_ | refine (State.ncReply_kept ..).after ?_
    | refine (State.wrB_kept ..).after ?_ | refine (State.ncTake_kept (hk := ?_) ..).after ?_ | refine (State.updNc_kept ..).after ?_
    | dsimp only | intro _)

theorem execNcsiAenEnable_kept (c : Nat) (mc : Nat) (mask : Nat) (sumOk : Bool) (s : State) : OutKept s (execNcsiAenEnable c mc mask sumOk s) := by
  unfold execNcsiAenEnable
  with_reducible repeat' (first
    | exact Kept.refl _ | refine out_next ?_ | refine (State.ncDo_kept (hk := ?_) ..).after ?_ | refine (State.updNc_kept ..).after ?_
    | dsimp only | intro _)

theorem execLowHalfWrite_kept (a : Nat) (rid : Nat) (off : Nat) (v : BitVec 32) (s : State) : OutKept s (execLowHalfWrite a rid off v s) := by
  unfold execLowHalfWrite
  with_reducible repeat' (first
    | exact Kept.refl _ | refine out_next ?_ | refine kept_ite ?_ ?_ | refine out_ite ?_ ?_ | refine (State.barRefuse_kept ..).after ?_
    | refine (State.grtWrite_kept ..).after ?_ | refine (State.setSplit_kept ..).after ?_ | dsimp only)

theorem execCompletionTimeout_kept (a : Nat) (tag : Nat) (s : State) : OutKept s (execCompletionTimeout a tag s) := by
  unfold execCompletionTimeout
  with_reducible repeat' (first
    | exact Kept.refl _ | refine out_next ?_ | fail_if_no_progress refine kept_mk (by rfl) (by rfl) ?_ | refine kept_ite ?_ ?_
    | refine out_ite ?_ ?_ | refine (State.dropRead_kept ..).after ?_ | refine (State.readAgain_kept ..).after ?_ | dsimp only | split)

theorem execTxCompletionWrite_kept (f : Nat) (k : Nat) (q : Nat) (s : State) : OutKept s (execTxCompletionWrite f k q s) := by
  unfold execTxCompletionWrite
  with_reducible repeat' (first
    | exact Kept.refl _ | refine out_next ?_ | refine kept_ite ?_ ?_ | refine out_ite ?_ ?_ | refine (State.updQue_kept ..).after ?_
    | refine (State.cqeWrite_kept ..).after ?_ | refine (State.vqUsed_kept ..).after ?_ | dsimp only | split)

theorem execNcsiSelectPackage_kept (sumOk : Bool) (s : State) : OutKept s (execNcsiSelectPackage sumOk s) := by
  unfold execNcsiSelectPackage
  with_reducible repeat' (first
    | exact Kept.refl _ | refine out_next ?_ | refine (State.ncReply_kept ..).after ?_ | refine (State.wrB_kept ..).after ?_
    | refine (State.ncTake_kept (hk := ?_) ..).after ?_ | dsimp only | intro _)

theorem execLntStatus_kept (s : State) : OutKept s (execLntStatus s) := by
  unfold execLntStatus
  with_reducible repeat' (first
    | exact Kept.refl _ | refine out_next ?_ | refine (State.lnt_kept (hk := ?_) ..).after ?_ | refine (State.lntOk_kept ..).after ?_
    | dsimp only | intro _)

theorem execLntRegs_kept (g : Nat) (e : Nat) (t : Nat) (s : State) : OutKept s (execLntRegs g e t s) := by
  unfold execLntRegs
  with_reducible repeat' (first
    | exact Kept.refl _ | refine out_next ?_ | refine (State.lnt_kept (hk := ?_) ..).after ?_ | refine (State.lntOk_kept ..).after ?_
    | dsimp only | intro _)

theorem execRegisterWrite_kept (t : WriteTo) (s : State) : OutKept s (execRegisterWrite t s) := by
  unfold execRegisterWrite
  with_reducible repeat' (first
    | exact Kept.refl _ | refine out_next ?_ | refine kept_ite ?_ ?_ | refine out_ite ?_ ?_ | refine (State.barRefuse_kept ..).after ?_
    | refine (State.doorbell_kept (hk := ?_) ..).after ?_ | refine (State.regWrite_kept ..).after ?_
    | refine (State.msixWrite_kept ..).after ?_ | refine (State.cfgWrite_kept ..).after ?_ | dsimp only | intro _ | split)

theorem execCqCreate_kept (f : Nat) (s : State) : OutKept s (execCqCreate f s) := by
  unfold execCqCreate
  with_reducible repeat' (first
    | exact Kept.refl _ | refine out_next ?_ | refine kept_ite ?_ ?_ | refine out_ite ?_ ?_ | refine (State.admDone_kept ..).after ?_
    | refine (State.setFunc_kept ..).after ?_ | refine (State.admRun_kept (hk := ?_) ..).after ?_ | dsimp only | intro _)

theorem execNcsiEnableMulticastFilter_kept (c : Nat) (mask : Nat) (sumOk : Bool) (s : State) : OutKept s (execNcsiEnableMulticastFilter c mask sumOk s) := by
  unfold execNcsiEnableMulticastFilter
  with_reducible repeat' (first
    | exact Kept.refl _ | refine out_next ?_ | refine (State.ncDo_kept (hk := ?_) ..).after ?_ | refine (State.updNc_kept ..).after ?_
    | dsimp only | intro _)

theorem execCqDestroy_kept (f : Nat) (s : State) : OutKept s (execCqDestroy f s) := by
  unfold execCqDestroy
  with_reducible repeat' (first
    | exact Kept.refl _ | refine out_next ?_ | refine kept_ite ?_ ?_ | refine out_ite ?_ ?_ | refine (State.admDone_kept ..).after ?_
    | refine (State.setFunc_kept ..).after ?_ | refine (State.admRun_kept (hk := ?_) ..).after ?_ | dsimp only | intro _)

theorem execLowHalfRead_kept (a : Nat) (rid : Nat) (off : Nat) (s : State) : OutKept s (execLowHalfRead a rid off s) := by
  unfold execLowHalfRead
  with_reducible repeat' (first
    | exact Kept.refl _ | refine out_next ?_ | refine kept_ite ?_ ?_ | refine out_ite ?_ ?_ | refine (State.barRefuse_kept ..).after ?_
    | refine (State.fabricRead_kept ..).after ?_ | refine (State.setSplit_kept ..).after ?_ | refine (State.emit_kept ..).after ?_
    | refine pair_kept (by assumption) ?_ | dsimp only | split)

theorem execLntCoreHalt_kept (c : Nat) (s : State) : OutKept s (execLntCoreHalt c s) := by
  unfold execLntCoreHalt
  with_reducible repeat' (first
    | exact Kept.refl _ | refine out_next ?_ | fail_if_no_progress refine kept_mk (by first | rfl | simp only [Board.fix]) (by rfl) ?_
    | refine kept_ite ?_ ?_ | refine out_ite ?_ ?_ | refine (State.lnt_kept (hk := ?_) ..).after ?_
    | refine (State.lntErr_kept ..).after ?_ | refine (State.lntOk_kept ..).after ?_ | dsimp only | intro _)

theorem execLntRd_kept (off : Nat) (k : Nat) (s : State) : OutKept s (execLntRd off k s) := by
  unfold execLntRd
  with_reducible repeat' (first
    | exact Kept.refl _ | refine out_next ?_ | refine (State.lnt_kept (hk := ?_) ..).after ?_ | refine (State.lntOk_kept ..).after ?_
    | refine (State.lntReads_kept ..).after ?_ | refine pair_kept (by assumption) ?_ | dsimp only | intro _ | split)

end Sys2Proof.Machine
end

