-- ==== Sys2Proof/Laws/Sound.lean ====
section
/-! SUPPORT. Laws/Sound.lean: the same for the few commands that move the lines of the core reset, write the flash or change a
principal's key, and what every command keeps. -/

namespace Sys2Proof.Machine

open Sys2Proof

set_option cleanup.letToHave false

/-- What every operation keeps from s to t. -/
structure Base (s t : State) : Prop where
  pending : t.pending = s.pending
  mem : Mem.wf s.mem = true → Mem.wf t.mem = true
  hbm : Mem.wf s.hbm = true → Mem.wf t.hbm = true
  flash : Mem.wf s.board.flash = true → Mem.wf t.board.flash = true
  out : s.out <:+ t.out
  free : s.free ≤ t.free

/-- What every command keeps from s to t. -/
structure Sound (s t : State) : Prop extends Base s t where
  lines : s.board.linesOk → t.board.linesOk

/-- Nothing done. -/
theorem Base.refl (s : State) : Base s s := ⟨rfl, id, id, id, List.suffix_refl _, le_refl _⟩

/-- One after another. -/
theorem Base.trans {s t u : State} (h : Base s t) (k : Base t u) : Base s u :=
  ⟨k.pending.trans h.pending, k.mem ∘ h.mem, k.hbm ∘ h.hbm, k.flash ∘ h.flash, h.out.trans k.out, le_trans h.free k.free⟩

/-- Nothing done. -/
theorem Sound.refl (s : State) : Sound s s := ⟨Base.refl s, id⟩

/-- One after another. -/
theorem Sound.trans {s t u : State} (h : Sound s t) (k : Sound t u) : Sound s u := ⟨h.toBase.trans k.toBase, k.lines ∘ h.lines⟩

/-- What the parts of `fix` are after an operation that keeps them. -/
theorem Kept.parts {s t : State} (h : Kept s t) : t.pending = s.pending ∧ t.board.powered = s.board.powered ∧ t.board.synth = s.board.synth ∧
    t.board.sysResetN = s.board.sysResetN ∧ t.board.held = s.board.held ∧ t.board.tapIr = s.board.tapIr ∧
    t.board.flash = s.board.flash ∧ t.grt.prinKey = s.grt.prinKey := by
  have e := h.fix
  simp only [State.fix, Fixed.mk.injEq] at e
  exact e

/-- An operation that keeps all. -/
theorem Kept.sound {s t : State} (h : Kept s t) : Sound s t := by
  obtain ⟨p, a, b, c, d, e, f, _⟩ := h.parts
  refine ⟨⟨p, h.mem, h.hbm, ?_, h.out, h.free⟩, ?_⟩
  · rw [f]
    exact id
  · unfold Board.linesOk
    rw [a, b, c, d, e]
    exact id

/-- An operation that keeps all. -/
theorem Kept.base {s t : State} (h : Kept s t) : Base s t := h.sound.toBase

/-- A choice. -/
theorem sound_ite {c : Prop} [Decidable c] {s a b : State} (ha : Sound s a) (hb : Sound s b) : Sound s (if c then a else b) := by
  split
  · exact ha
  · exact hb

/-- A list of changes. -/
theorem each_sound {α : Type} {s : State} {l : List α} {g : State → α → State} (h : ∀ t a, Sound t (g t a)) : Sound s (s.each l g) := by
  unfold State.each
  induction l generalizing s with
  | nil => exact Sound.refl s
  | cons a l ih => exact (h s a).trans (ih (s := g s a))

/-- A board whose flash is the same. -/
theorem base_board {s : State} {b : Board} (h : b.flash = s.board.flash) : Base s { s with board := b } := by
  refine ⟨rfl, id, id, ?_, List.suffix_refl _, le_refl _⟩
  intro w
  exact h ▸ w

/-- The core reset settles to what the lines say. -/
theorem settle_sound {s t : State} (h : Base s t) : Sound s t.settle := by
  refine ⟨h.trans (base_board (by rfl)), fun _ => ?_⟩
  intro e
  simp only [State.settle, Bool.not_eq_false', Bool.and_eq_true, Bool.not_eq_true'] at e
  obtain ⟨⟨⟨⟨a, b⟩, c⟩, _⟩, d⟩ := e
  exact ⟨a, b, c, d⟩

/-- Power gone. -/
theorem powerOff_sound (s : State) : Sound s s.powerOff := by
  unfold State.powerOff
  exact settle_sound ((base_board (by rfl)).trans (State.deviceReset_kept ..).base)

/-- A test instruction loaded. -/
theorem tapTo_sound (s : State) (ir : Nat) : Sound s (s.tapTo ir) := by
  unfold State.tapTo
  dsimp only
  refine settle_sound ?_
  split
  · exact (base_board (by rfl)).trans (State.deviceReset_kept ..).base
  · split
    · exact (base_board (by rfl)).trans (State.deviceReset_kept ..).base
    · exact base_board (by rfl)

/-- A test instruction loaded. -/
theorem tapLoad_sound (s : State) (ir : Nat) : Sound s (s.tapLoad ir) := by
  unfold State.tapLoad
  refine sound_ite (Sound.refl s) (tapTo_sound ..)

/-- Bytes of the flash written. -/
theorem flashWrite_sound (s : State) (a : Nat) (d : List Byte) : Sound s (s.flashWrite a d) := by
  unfold State.flashWrite
  exact ⟨⟨rfl, id, id, Mem.wf_putBytes _ _, List.suffix_refl _, le_refl _⟩, id⟩

/-- A change of principals and counters alone. -/
theorem sound_grt {s : State} {g : Grotto} : Sound s { s with grt := g } :=
  ⟨⟨rfl, id, id, id, List.suffix_refl _, le_refl _⟩, id⟩

/-- A principal set. -/
theorem setPrincipal_sound (s : State) (k key rights : Nat) : Sound s (s.setPrincipal k key rights) := by
  unfold State.setPrincipal
  exact sound_grt.trans ((State.setReg_kept ..).trans (State.setReg_kept ..)).sound

/-- A principal cleared. -/
theorem clearPrincipal_sound (s : State) (k : Nat) : Sound s (s.clearPrincipal k) := by
  unfold State.clearPrincipal
  exact sound_grt.trans ((State.setReg_kept ..).trans (State.setReg_kept ..)).sound

/-- A critical command. -/
theorem admCrit_sound {s : State} {f op : Nat} {masks : List Nat} {good : AdmCmd → Bool} {k : State → AdmCmd → State}
    (hk : ∀ t c, Sound t (k t c)) : Sound s (s.admCrit f op masks good k) := by
  unfold State.admCrit
  split
  · exact Sound.refl s
  · rename_i c _
    dsimp only
    refine (State.trailer_kept s c).sound.trans ?_
    refine sound_ite (State.admDone_kept ..).sound (sound_ite (State.admReadFail_kept ..).sound
      (sound_ite (State.admDone_kept ..).sound (sound_ite (State.admDone_kept ..).sound (hk _ _))))

/-- An envelope of a function's command. -/
theorem envelope_sound {s : State} {f addr : Nat} {kinds : List Nat} {own : Nat → Bool} {done : State → List Byte → Nat → State}
    (hk : ∀ t e k, Sound t (done t e k)) : Sound s (s.envelope f addr kinds own done) := by
  unfold State.envelope
  dsimp only
  refine sound_ite (State.admDone_kept ..).sound (sound_ite (State.admDone_kept ..).sound ?_)
  split
  · exact ((State.err_kept ..).trans (State.admDone_kept ..)).sound
  · exact hk _ _ _

/-- A rekey. -/
theorem rekey_sound (s : State) (f : Nat) (c : AdmCmd) : Sound s (s.rekey f c) := by
  unfold State.rekey
  dsimp only
  refine sound_ite (sound_ite (State.admDone_kept ..).sound ((clearPrincipal_sound ..).trans (State.admDone_kept ..).sound))
    (sound_ite (State.admDone_kept ..).sound (sound_ite (State.admDone_kept ..).sound (envelope_sound (fun t e k => ?_))))
  refine Sound.trans ?_ (State.admDone_kept ..).sound
  exact sound_ite ((setPrincipal_sound ..).trans ((State.wr_kept ..).trans (State.meas5_kept ..)).sound) (setPrincipal_sound ..)

/-- A command of Lantern. -/
theorem lnt_sound {s : State} {level : Nat} {rec? args : Bool} {f : State → State} (hf : ∀ t, Sound t (f t)) :
    Sound s (s.lnt level rec? args f) := by
  unfold State.lnt
  exact sound_ite (Sound.refl s) (sound_ite (State.lntErr_kept ..).sound (sound_ite (State.lntErr_kept ..).sound
    (sound_ite (State.lntErr_kept ..).sound (hf s))))

/-- A command of recovery mode alone. -/
theorem lntFlash_sound {s : State} {args : Bool} {f : State → State} (hf : ∀ t, Sound t (f t)) : Sound s (s.lntFlash args f) := by
  unfold State.lntFlash
  exact lnt_sound (fun t => sound_ite (hf t) (State.lntErr_kept ..).sound)

/-- A next state that everything is kept to. -/
def OutSound (s : State) (o : Out) : Prop := ∀ t, o = .next t → Sound s t

/-- A meaning that answers a state. -/
theorem sound_next {s t : State} (h : Sound s t) : OutSound s (.next t) := by
  intro u e
  cases e
  exact h

/-- A meaning that chooses. -/
theorem outSound_ite {c : Prop} [Decidable c] {s : State} {a b : Out} (ha : OutSound s a) (hb : OutSound s b) :
    OutSound s (if c then a else b) := by
  split
  · exact ha
  · exact hb

/-- A meaning that keeps all. -/
theorem OutKept.sound {s : State} {o : Out} (h : OutKept s o) : OutSound s o := fun _ e => (out_get h e).sound

/-! The commands themselves -/

theorem execPwrGoodRise_sound (straps : Nat) (s : State) : OutSound s (execPwrGoodRise straps s) := by
  unfold execPwrGoodRise
  refine outSound_ite (sound_next (Sound.refl s)) (sound_next ?_)
  exact settle_sound ((base_board (by rfl)).trans (State.resetTo_kept ..).base)

theorem execPwrGoodFall_sound (s : State) : OutSound s (execPwrGoodFall s) := by
  unfold execPwrGoodFall
  exact outSound_ite (sound_next (powerOff_sound s)) (sound_next (Sound.refl s))

theorem execRailUndervoltage_sound (s : State) : OutSound s (execRailUndervoltage s) := by
  unfold execRailUndervoltage
  exact outSound_ite (sound_next (powerOff_sound s)) (sound_next (Sound.refl s))

theorem execVddio18Fall_sound (s : State) : OutSound s (execVddio18Fall s) := by
  unfold execVddio18Fall
  dsimp only
  refine sound_next (Sound.trans ?_ (powerOff_sound _))
  have h : Sound s { s with board := { s.board with tripped := false } } := ⟨base_board (by rfl), id⟩
  exact sound_ite (h.trans (State.emit_kept ..).sound) h

theorem execSynthLock_sound (s : State) : OutSound s (execSynthLock s) := by
  unfold execSynthLock
  exact outSound_ite (sound_next (settle_sound (base_board (by rfl)))) (sound_next (Sound.refl s))

theorem execSysResetAssert_sound (s : State) : OutSound s (execSysResetAssert s) := by
  unfold execSysResetAssert
  dsimp only
  split
  · exact sound_next (settle_sound ((base_board (by rfl)).trans (State.deviceReset_kept ..).base))
  · rename_i h
    refine sound_next ⟨base_board (by rfl), fun l e => ?_⟩
    exact absurd (l e).1 h

theorem execSysResetRelease_sound (s : State) : OutSound s (execSysResetRelease s) := by
  unfold execSysResetRelease
  exact sound_next (settle_sound (base_board (by rfl)))

theorem execLntReset_sound (s : State) : OutSound s (execLntReset s) := by
  unfold execLntReset
  exact sound_next (lnt_sound (fun t => settle_sound ((State.lntOk_kept ..).trans (State.deviceReset_kept ..)).base))

theorem execLntFlashErase_sound (b : Nat) (s : State) : OutSound s (execLntFlashErase b s) := by
  unfold execLntFlashErase
  refine sound_next (lntFlash_sound (fun t => ?_))
  refine Sound.trans ?_ (State.lntOk_kept ..).sound
  exact ⟨⟨rfl, id, id, Mem.wf_filter _, List.suffix_refl _, le_refl _⟩, id⟩

theorem execLntFlashWrite_sound (b : Nat) (data : List (BitVec 8)) (s : State) : OutSound s (execLntFlashWrite b data s) := by
  unfold execLntFlashWrite
  exact sound_next (lntFlash_sound (fun t => (flashWrite_sound ..).trans (State.lntOk_kept ..).sound))

theorem execPldmFwUpdate_sound (b off : Nat) (data : List (BitVec 8)) (s : State) : OutSound s (execPldmFwUpdate b off data s) := by
  unfold execPldmFwUpdate
  exact sound_next (sound_ite (flashWrite_sound ..) (Sound.refl s))

theorem execPrincipalRekey_sound (f : Nat) (s : State) : OutSound s (execPrincipalRekey f s) := by
  unfold execPrincipalRekey
  dsimp only
  split
  · exact sound_next (Sound.refl s)
  · refine outSound_ite (sound_next ?_) (sound_next (admCrit_sound (fun t c => rekey_sound t f c)))
    exact sound_ite (State.admReadFail_kept ..).sound (sound_ite (State.admDone_kept ..).sound
      (sound_ite (State.admDone_kept ..).sound (rekey_sound ..)))

theorem execSecureErase_sound (f : Nat) (s : State) : OutSound s (execSecureErase f s) := by
  unfold execSecureErase
  refine sound_next (admCrit_sound (fun t c => ?_))
  dsimp only
  refine Sound.trans ?_ ((State.meas5_kept ..).trans (State.admDone_kept ..)).sound
  refine Sound.trans ?_ ((State.setReg_kept ..).trans (State.setReg_kept ..)).sound
  refine Sound.trans ?_ ((State.wr_kept ..).trans (State.setLevel_kept ..)).sound
  refine Sound.trans ?_ (each_sound (fun u k => clearPrincipal_sound u k))
  refine Sound.trans ?_ sound_grt
  refine Sound.trans ?_ (State.fresh_kept ..).sound
  refine Sound.trans ?_ (each_sound (fun u k => (State.retireNs_kept ..).sound))
  refine Sound.trans ?_ (each_sound (fun u k => (State.retireSession_kept ..).sound))
  exact each_sound (fun u k => ((State.resetOne_kept ..).trans (State.returnAll_kept ..)).sound)

theorem execTapExtest_sound (s : State) : OutSound s (execTapExtest s) := sound_next (tapLoad_sound ..)

theorem execTapSamplePreload_sound (s : State) : OutSound s (execTapSamplePreload s) := sound_next (tapLoad_sound ..)

theorem execTapHighz_sound (s : State) : OutSound s (execTapHighz s) := sound_next (tapLoad_sound ..)

theorem execTapClamp_sound (s : State) : OutSound s (execTapClamp s) := sound_next (tapLoad_sound ..)

theorem execTapExtestPulse_sound (s : State) : OutSound s (execTapExtestPulse s) := sound_next (tapLoad_sound ..)

theorem execTapExtestTrain_sound (s : State) : OutSound s (execTapExtestTrain s) := sound_next (tapLoad_sound ..)

theorem execTapBypass_sound (s : State) : OutSound s (execTapBypass s) := sound_next (tapLoad_sound ..)

theorem execTapPrivate_sound (code : Nat) (s : State) : OutSound s (execTapPrivate code s) := sound_next (tapLoad_sound ..)

theorem execTapIdcode_sound (s : State) : OutSound s (execTapIdcode s) :=
  sound_next ((tapLoad_sound ..).trans (State.emit_kept ..).sound)

theorem execTrstAssert_sound (s : State) : OutSound s (execTrstAssert s) := sound_next (sound_ite (tapTo_sound ..) (Sound.refl s))

theorem execTestLogicReset_sound (s : State) : OutSound s (execTestLogicReset s) := sound_next (sound_ite (tapTo_sound ..) (Sound.refl s))

end Sys2Proof.Machine
end

