-- ==== Sys2Proof/Laws/Exec.lean ====
section
/-! SUPPORT. Laws/Exec.lean: what every command keeps, over the one dispatch. -/

namespace Sys2Proof.Machine

open Sys2Proof

/-- A command that moves no line of the core reset, writes no flash and rekeys no principal keeps all of `Kept`. -/
theorem exec_kept (c : Instr) (s : State) (h1 : c.lines = false) (h2 : c.flashes = false) (h3 : c.rekeys = false) : OutKept s (exec c s) := by
  match c, h1, h2, h3 with
  | .badSizeRegisterAccess _ _ _ _, _, _, _ => exact execBadSizeRegisterAccess_kept ..
  | .lowHalfRead _ _ _, _, _, _ => exact execLowHalfRead_kept ..
  | .highHalfRead _ _ _, _, _, _ => exact execHighHalfRead_kept ..
  | .lowHalfWrite _ _ _ _, _, _, _ => exact execLowHalfWrite_kept ..
  | .highHalfWrite _ _ _ _, _, _, _ => exact execHighHalfWrite_kept ..
  | .registerWrite _, _, _, _ => exact execRegisterWrite_kept ..
  | .errorCounterWrite _ _, _, _, _ => exact execErrorCounterWrite_kept ..
  | .doorbellBadWrite _ _ _, _, _, _ => exact execDoorbellBadWrite_kept ..
  | .grtWindowWrite _ _ _, _, _, _ => exact execGrtWindowWrite_kept ..
  | .dripBoundary, _, _, _ => exact execDripBoundary_kept ..
  | .voteBoundary, _, _, _ => exact execVoteBoundary_kept ..
  | .timeSourceSet _, _, _, _ => exact execTimeSourceSet_kept ..
  | .timeSourceApply, _, _, _ => exact execTimeSourceApply_kept ..
  | .timeStep _, _, _, _ => exact execTimeStep_kept ..
  | .timeStepApply, _, _, _ => exact execTimeStepApply_kept ..
  | .realignCountExpiry, _, _, _ => exact execRealignCountExpiry_kept ..
  | .oscInLoss, _, _, _ => exact execOscInLoss_kept ..
  | .oscInReturn, _, _, _ => exact execOscInReturn_kept ..
  | .fdpllInputLoss, _, _, _ => exact execFdpllInputLoss_kept ..
  | .snapshotTake _, _, _, _ => exact execSnapshotTake_kept ..
  | .portCalibrationDone _ _ _ _ _, _, _, _ => exact execPortCalibrationDone_kept ..
  | .delayTempCorrection _, _, _, _ => exact execDelayTempCorrection_kept ..
  | .ptpSyncTx _ _, _, _, _ => exact execPtpSyncTx_kept ..
  | .ptpSyncRx _ _ _, _, _, _ => exact execPtpSyncRx_kept ..
  | .ptpFollowUpRx _ _ _, _, _, _ => exact execPtpFollowUpRx_kept ..
  | .ptpDelayReqTx _ _, _, _, _ => exact execPtpDelayReqTx_kept ..
  | .ptpDelayReqRx _ _ _, _, _, _ => exact execPtpDelayReqRx_kept ..
  | .ptpDelayRespRx _ _ _, _, _, _ => exact execPtpDelayRespRx_kept ..
  | .ptpPdelayReqTx _ _, _, _, _ => exact execPtpPdelayReqTx_kept ..
  | .ptpPdelayReqRx _ _ _, _, _, _ => exact execPtpPdelayReqRx_kept ..
  | .ptpPdelayRespRx _ _ _, _, _, _ => exact execPtpPdelayRespRx_kept ..
  | .ptpPdelayRespFollowUpRx _ _ _, _, _, _ => exact execPtpPdelayRespFollowUpRx_kept ..
  | .ptpAnnounceTx _ _, _, _, _ => exact execPtpAnnounceTx_kept ..
  | .ptpAnnounceRx _ _ _ _, _, _, _ => exact execPtpAnnounceRx_kept ..
  | .ptpSignalingRx _ _ _ _, _, _, _ => exact execPtpSignalingRx_kept ..
  | .ptpManagementRx _ _ _, _, _, _ => exact execPtpManagementRx_kept ..
  | .ptpUnmatchedTimeout _, _, _, _ => exact execPtpUnmatchedTimeout_kept ..
  | .ptpGrantRenew _ _, _, _, _ => exact execPtpGrantRenew_kept ..
  | .ptpGrantRequestRetry _ _, _, _, _ => exact execPtpGrantRequestRetry_kept ..
  | .ptpGrantExpiry _ _ _, _, _, _ => exact execPtpGrantExpiry_kept ..
  | .esmcInfoTx, _, _, _ => exact execEsmcInfoTx_kept ..
  | .esmcRx _ _, _, _, _ => exact execEsmcRx_kept ..
  | .esmcTimeout _, _, _, _ => exact execEsmcTimeout_kept ..
  | .synceInputLoss _, _, _, _ => exact execSynceInputLoss_kept ..
  | .synceHoldOffExpiry _, _, _, _ => exact execSynceHoldOffExpiry_kept ..
  | .synceWtrExpiry _, _, _, _ => exact execSynceWtrExpiry_kept ..
  | .ppsOutStart _, _, _, _ => exact execPpsOutStart_kept ..
  | .ppsOutEnd _, _, _, _ => exact execPpsOutEnd_kept ..
  | .ppsInEdge _ _, _, _, _ => exact execPpsInEdge_kept ..
  | .todSentenceRx _ _ _, _, _, _ => exact execTodSentenceRx_kept ..
  | .ptmDialogueStart _, _, _, _ => exact execPtmDialogueStart_kept ..
  | .ptmResponseRx _ _ _, _, _, _ => exact execPtmResponseRx_kept ..
  | .ptmResponseTimeout _, _, _, _ => exact execPtmResponseTimeout_kept ..
  | .clockPageSet _, _, _, _ => exact execClockPageSet_kept ..
  | .portFrameRx _ _, _, _, _ => exact execPortFrameRx_kept ..
  | .cfPacketInject _ _, _, _, _ => exact execCfPacketInject_kept ..
  | .parseTake _ _, _, _, _ => exact execParseTake_kept ..
  | .parseStallEnd _, _, _, _ => exact execParseStallEnd_kept ..
  | .parseExt _, _, _, _ => exact execParseExt_kept ..
  | .parseExtb _, _, _, _ => exact execParseExtb_kept ..
  | .parseMovi _, _, _, _ => exact execParseMovi_kept ..
  | .parseShl _, _, _, _ => exact execParseShl_kept ..
  | .parseShr _, _, _, _ => exact execParseShr_kept ..
  | .parseAnd _, _, _, _ => exact execParseAnd_kept ..
  | .parseOr _, _, _, _ => exact execParseOr_kept ..
  | .parseAdd _, _, _, _ => exact execParseAdd_kept ..
  | .parseCmp _, _, _, _ => exact execParseCmp_kept ..
  | .parseBr _, _, _, _ => exact execParseBr_kept ..
  | .parseBrf _, _, _, _ => exact execParseBrf_kept ..
  | .parseAdvi _, _, _, _ => exact execParseAdvi_kept ..
  | .parseAdvr _, _, _, _ => exact execParseAdvr_kept ..
  | .parseEmit _, _, _, _ => exact execParseEmit_kept ..
  | .parseEmitr _, _, _, _ => exact execParseEmitr_kept ..
  | .parseSetmd _, _, _, _ => exact execParseSetmd_kept ..
  | .parseMark _, _, _, _ => exact execParseMark_kept ..
  | .parseDone _, _, _, _ => exact execParseDone_kept ..
  | .parseFail _, _, _, _ => exact execParseFail_kept ..
  | .matchStage _, _, _, _ => exact execMatchStage_kept ..
  | .rulesetOpen _, _, _, _ => exact execRulesetOpen_kept ..
  | .rulesetStage _, _, _, _ => exact execRulesetStage_kept ..
  | .tableCreate _, _, _, _ => exact execTableCreate_kept ..
  | .rulesetAbort _, _, _, _ => exact execRulesetAbort_kept ..
  | .rulesetCommit _, _, _, _ => exact execRulesetCommit_kept ..
  | .rulesetCurrent, _, _, _ => exact execRulesetCurrent_kept ..
  | .versionRetire, _, _, _ => exact execVersionRetire_kept ..
  | .settleComplete, _, _, _ => exact execSettleComplete_kept ..
  | .tcamSlotClearComplete, _, _, _ => exact execTcamSlotClearComplete_kept ..
  | .parseCoreFault _ _ _, _, _, _ => exact execParseCoreFault_kept ..
  | .matchLaneFault _ _, _, _, _ => exact execMatchLaneFault_kept ..
  | .memoryReadError _ _ _ _ _ _ _, _, _, _ => exact execMemoryReadError_kept ..
  | .engineStart _ _, _, _, _ => exact execEngineStart_kept ..
  | .threadPacketStart _ _ _, _, _, _ => exact execThreadPacketStart_kept ..
  | .threadWake _ _ _, _, _, _ => exact execThreadWake_kept ..
  | .sumpWaitEnd _ _ _, _, _, _ => exact execSumpWaitEnd_kept ..
  | .loadDataReturn _ _ _, _, _, _ => exact execLoadDataReturn_kept ..
  | .lockGrant _ _, _, _, _ => exact execLockGrant_kept ..
  | .lockOverrun _ _, _, _, _ => exact execLockOverrun_kept ..
  | .engineStall _ _, _, _, _ => exact execEngineStall_kept ..
  | .supervisorEntry _ _, _, _, _ => exact execSupervisorEntry_kept ..
  | .thread0FirmwareRestart _ _, _, _, _ => exact execThread0FirmwareRestart_kept ..
  | .sumpAbort _ _, _, _, _ => exact execSumpAbort_kept ..
  | .peEventsWrite _ _ _, _, _, _ => exact execPeEventsWrite_kept ..
  | .dispatcherEnqueue _, _, _, _ => exact execDispatcherEnqueue_kept ..
  | .handoff _ _, _, _, _ => exact execHandoff_kept ..
  | .add _ _ _, _, _, _ => exact execAdd_kept ..
  | .sub _ _ _, _, _, _ => exact execSub_kept ..
  | .and _ _ _, _, _, _ => exact execAnd_kept ..
  | .or _ _ _, _, _, _ => exact execOr_kept ..
  | .xor _ _ _, _, _, _ => exact execXor_kept ..
  | .shl _ _ _, _, _, _ => exact execShl_kept ..
  | .shr _ _ _, _, _, _ => exact execShr_kept ..
  | .sar _ _ _, _, _, _ => exact execSar_kept ..
  | .mul _ _ _, _, _, _ => exact execMul_kept ..
  | .mulhu _ _ _, _, _, _ => exact execMulhu_kept ..
  | .minu _ _ _, _, _, _ => exact execMinu_kept ..
  | .maxu _ _ _, _, _, _ => exact execMaxu_kept ..
  | .sltu _ _ _, _, _, _ => exact execSltu_kept ..
  | .slt _ _ _, _, _, _ => exact execSlt_kept ..
  | .seq _ _ _, _, _, _ => exact execSeq_kept ..
  | .sel _ _ _, _, _, _ => exact execSel_kept ..
  | .bswap _ _ _, _, _, _ => exact execBswap_kept ..
  | .clz _ _ _, _, _, _ => exact execClz_kept ..
  | .csum _ _ _, _, _, _ => exact execCsum_kept ..
  | .crc _ _ _, _, _, _ => exact execCrc_kept ..
  | .addi _ _ _, _, _, _ => exact execAddi_kept ..
  | .andi _ _ _, _, _, _ => exact execAndi_kept ..
  | .ori _ _ _, _, _, _ => exact execOri_kept ..
  | .xori _ _ _, _, _, _ => exact execXori_kept ..
  | .shli _ _ _, _, _, _ => exact execShli_kept ..
  | .shri _ _ _, _, _, _ => exact execShri_kept ..
  | .sari _ _ _, _, _, _ => exact execSari_kept ..
  | .insi _ _ _, _, _, _ => exact execInsi_kept ..
  | .extr _ _ _, _, _, _ => exact execExtr_kept ..
  | .insr _ _ _, _, _, _ => exact execInsr_kept ..
  | .ld64 _ _ _, _, _, _ => exact execLd64_kept ..
  | .ld32 _ _ _, _, _, _ => exact execLd32_kept ..
  | .ld16 _ _ _, _, _, _ => exact execLd16_kept ..
  | .ld8 _ _ _, _, _, _ => exact execLd8_kept ..
  | .st64 _ _ _, _, _, _ => exact execSt64_kept ..
  | .st32 _ _ _, _, _, _ => exact execSt32_kept ..
  | .st16 _ _ _, _, _, _ => exact execSt16_kept ..
  | .st8 _ _ _, _, _, _ => exact execSt8_kept ..
  | .ldbe _ _ _, _, _, _ => exact execLdbe_kept ..
  | .stbe _ _ _, _, _, _ => exact execStbe_kept ..
  | .pld _ _ _, _, _, _ => exact execPld_kept ..
  | .sxadd _ _ _, _, _, _ => exact execSxadd_kept ..
  | .sxchg _ _ _, _, _, _ => exact execSxchg_kept ..
  | .flook _ _ _, _, _, _ => exact execFlook_kept ..
  | .fins _ _ _, _, _, _ => exact execFins_kept ..
  | .fdel _ _ _, _, _, _ => exact execFdel_kept ..
  | .fld _ _ _, _, _, _ => exact execFld_kept ..
  | .fsts _ _ _, _, _, _ => exact execFsts_kept ..
  | .ctradd _ _ _, _, _, _ => exact execCtradd_kept ..
  | .beq _ _ _, _, _, _ => exact execBeq_kept ..
  | .bne _ _ _, _, _, _ => exact execBne_kept ..
  | .bltu _ _ _, _, _, _ => exact execBltu_kept ..
  | .bgeu _ _ _, _, _, _ => exact execBgeu_kept ..
  | .jmp _ _ _, _, _, _ => exact execJmp_kept ..
  | .call _ _ _, _, _, _ => exact execCall_kept ..
  | .ret _ _ _, _, _, _ => exact execRet_kept ..
  | .loop _ _ _, _, _, _ => exact execLoop_kept ..
  | .brknz _ _ _, _, _, _ => exact execBrknz_kept ..
  | .signal _ _ _, _, _, _ => exact execSignal_kept ..
  | .wait _ _ _, _, _, _ => exact execWait_kept ..
  | .clrev _ _ _, _, _, _ => exact execClrev_kept ..
  | .sput _ _ _, _, _, _ => exact execSput_kept ..
  | .sget _ _ _, _, _, _ => exact execSget_kept ..
  | .lock _ _ _, _, _, _ => exact execLock_kept ..
  | .unlock _ _ _, _, _, _ => exact execUnlock_kept ..
  | .endHandoff _ _ _, _, _, _ => exact execEndHandoff_kept ..
  | .endRecirc _ _ _, _, _, _ => exact execEndRecirc_kept ..
  | .endPunt _ _ _, _, _, _ => exact execEndPunt_kept ..
  | .endDrop _ _ _, _, _, _ => exact execEndDrop_kept ..
  | .mfsr _ _ _, _, _, _ => exact execMfsr_kept ..
  | .mtsr _ _ _, _, _, _ => exact execMtsr_kept ..
  | .getg _ _ _, _, _, _ => exact execGetg_kept ..
  | .putg _ _ _, _, _, _ => exact execPutg_kept ..
  | .release _ _ _, _, _, _ => exact execRelease_kept ..
  | .restart _ _ _, _, _, _ => exact execRestart_kept ..
  | .rets _ _ _, _, _, _ => exact execRets_kept ..
  | .bkpt _ _ _, _, _, _ => exact execBkpt_kept ..
  | .deadlineFault _ _, _, _, _ => exact execDeadlineFault_kept ..
  | .graceExpiry _ _, _, _, _ => exact execGraceExpiry_kept ..
  | .inputQueueExpiry _ _, _, _, _ => exact execInputQueueExpiry_kept ..
  | .engineHwFault _ _ _ _, _, _, _ => exact execEngineHwFault_kept ..
  | .galleryMemoryFault _ _ _ _, _, _, _ => exact execGalleryMemoryFault_kept ..
  | .engineCheckStart _ _, _, _, _ => exact execEngineCheckStart_kept ..
  | .engineCheckEnd _ _ _, _, _, _ => exact execEngineCheckEnd_kept ..
  | .engineReturn _ _, _, _, _ => exact execEngineReturn_kept ..
  | .engineRetire _ _, _, _, _ => exact execEngineRetire_kept ..
  | .shareSet _, _, _, _ => exact execShareSet_kept ..
  | .tmEnqueue _, _, _, _ => exact execTmEnqueue_kept ..
  | .tmSelect _, _, _, _ => exact execTmSelect_kept ..
  | .portFrameTxEnd _, _, _, _ => exact execPortFrameTxEnd_kept ..
  | .gateChange _, _, _, _ => exact execGateChange_kept ..
  | .gateListCommit _, _, _, _ => exact execGateListCommit_kept ..
  | .gateListCopyDone _, _, _, _ => exact execGateListCopyDone_kept ..
  | .gateListStart _, _, _, _ => exact execGateListStart_kept ..
  | .sampleRound _ _, _, _, _ => exact execSampleRound_kept ..
  | .sampleCfgWrite _ _, _, _, _ => exact execSampleCfgWrite_kept ..
  | .sampleRingWrite _ _, _, _, _ => exact execSampleRingWrite_kept ..
  | .tmTableRead _ _ _, _, _, _ => exact execTmTableRead_kept ..
  | .tmTableWrite _ _ _, _, _, _ => exact execTmTableWrite_kept ..
  | .tmTableAccessDone _, _, _, _ => exact execTmTableAccessDone_kept ..
  | .espInOperation _, _, _, _ => exact execEspInOperation_kept ..
  | .espOutOperation _, _, _, _ => exact execEspOutOperation_kept ..
  | .tlsTxOperation _, _, _, _ => exact execTlsTxOperation_kept ..
  | .tlsRxSegment _, _, _, _ => exact execTlsRxSegment_kept ..
  | .macsecTxFrame _, _, _, _ => exact execMacsecTxFrame_kept ..
  | .macsecRxFrame _, _, _, _ => exact execMacsecRxFrame_kept ..
  | .cryptoContextFetch _, _, _, _ => exact execCryptoContextFetch_kept ..
  | .cryptoLaneFault _ _ _ _ _, _, _, _ => exact execCryptoLaneFault_kept ..
  | .sessionWrite _, _, _, _ => exact execSessionWrite_kept ..
  | .sessionUpdate _, _, _, _ => exact execSessionUpdate_kept ..
  | .keyInstall _, _, _, _ => exact execKeyInstall_kept ..
  | .keyRetire _, _, _, _ => exact execKeyRetire_kept ..
  | .keyEnvelopeImport _, _, _, _ => exact execKeyEnvelopeImport_kept ..
  | .sessionPortRead _ _ _, _, _, _ => exact execSessionPortRead_kept ..
  | .sessionPortReadDone _, _, _, _ => exact execSessionPortReadDone_kept ..
  | .secyRegisterWrite _ _, _, _, _ => exact execSecyRegisterWrite_kept ..
  | .nvmeIdentify _, _, _, _ => exact execNvmeIdentify_kept ..
  | .nvmeGetLogPage _, _, _, _ => exact execNvmeGetLogPage_kept ..
  | .nvmeSetFeatures _, _, _, _ => exact execNvmeSetFeatures_kept ..
  | .nvmeGetFeatures _, _, _, _ => exact execNvmeGetFeatures_kept ..
  | .nvmeCreateIoSq _, _, _, _ => exact execNvmeCreateIoSq_kept ..
  | .nvmeCreateIoCq _, _, _, _ => exact execNvmeCreateIoCq_kept ..
  | .nvmeDeleteIoSq _, _, _, _ => exact execNvmeDeleteIoSq_kept ..
  | .nvmeDeleteIoCq _, _, _, _ => exact execNvmeDeleteIoCq_kept ..
  | .nvmeAbort _, _, _, _ => exact execNvmeAbort_kept ..
  | .nvmeAsyncEventRequest _, _, _, _ => exact execNvmeAsyncEventRequest_kept ..
  | .nvmeUnsupportedOpcode _ _, _, _, _ => exact execNvmeUnsupportedOpcode_kept ..
  | .nvmeFlush _ _, _, _, _ => exact execNvmeFlush_kept ..
  | .nvmeWrite _ _, _, _, _ => exact execNvmeWrite_kept ..
  | .nvmeRead _ _, _, _, _ => exact execNvmeRead_kept ..
  | .nvmeWriteZeroes _ _, _, _, _ => exact execNvmeWriteZeroes_kept ..
  | .nvmeDatasetManagement _ _, _, _, _ => exact execNvmeDatasetManagement_kept ..
  | .virtioBlkIn _ _, _, _, _ => exact execVirtioBlkIn_kept ..
  | .virtioBlkOut _ _, _, _, _ => exact execVirtioBlkOut_kept ..
  | .virtioBlkFlush _ _, _, _, _ => exact execVirtioBlkFlush_kept ..
  | .virtioBlkGetId _ _, _, _, _ => exact execVirtioBlkGetId_kept ..
  | .virtioBlkDiscard _ _, _, _, _ => exact execVirtioBlkDiscard_kept ..
  | .virtioBlkWriteZeroes _ _, _, _, _ => exact execVirtioBlkWriteZeroes_kept ..
  | .virtioBlkUnsupported _ _, _, _, _ => exact execVirtioBlkUnsupported_kept ..
  | .backendIssue _, _, _, _ => exact execBackendIssue_kept ..
  | .backendCompletion _, _, _, _ => exact execBackendCompletion_kept ..
  | .attemptTimeout _, _, _, _ => exact execAttemptTimeout_kept ..
  | .issueWaitTimeout _, _, _, _ => exact execIssueWaitTimeout_kept ..
  | .icrespRx _, _, _, _ => exact execIcrespRx_kept ..
  | .fabricsConnectResponse _, _, _, _ => exact execFabricsConnectResponse_kept ..
  | .fabricsConnectRetry _, _, _, _ => exact execFabricsConnectRetry_kept ..
  | .keepAliveTimer _, _, _, _ => exact execKeepAliveTimer_kept ..
  | .tcpRtoExpiry _, _, _, _ => exact execTcpRtoExpiry_kept ..
  | .nvmeTcpPduRx, _, _, _ => exact execNvmeTcpPduRx_kept ..
  | .rocePacketRx, _, _, _ => exact execRocePacketRx_kept ..
  | .roceAckTimeout _, _, _, _ => exact execRoceAckTimeout_kept ..
  | .cnpRx, _, _, _ => exact execCnpRx_kept ..
  | .rateIncreasePeriod _, _, _, _ => exact execRateIncreasePeriod_kept ..
  | .ctrlCreate _, _, _, _ => exact execCtrlCreate_kept ..
  | .ctrlDestroy _, _, _, _ => exact execCtrlDestroy_kept ..
  | .nsCreate _, _, _, _ => exact execNsCreate_kept ..
  | .nsDestroy _, _, _, _ => exact execNsDestroy_kept ..
  | .pathCreate _, _, _, _ => exact execPathCreate_kept ..
  | .pathDestroy _, _, _, _ => exact execPathDestroy_kept ..
  | .stoContextRead _ _ _ _, _, _, _ => exact execStoContextRead_kept ..
  | .stoTcpCfgWrite _, _, _, _ => exact execStoTcpCfgWrite_kept ..
  | .pcieLinkUp _ _ _ _ _, _, _, _ => exact execPcieLinkUp_kept ..
  | .pcieLinkDown _, _, _, _ => exact execPcieLinkDown_kept ..
  | .perstAssert _, _, _, _ => exact execPerstAssert_kept ..
  | .perstRelease _, _, _, _ => exact execPerstRelease_kept ..
  | .retrainLink _ _ _ _ _, _, _, _ => exact execRetrainLink_kept ..
  | .bmeClear _, _, _, _ => exact execBmeClear_kept ..
  | .bmeSet _, _, _, _ => exact execBmeSet_kept ..
  | .flrInitiate _, _, _, _ => exact execFlrInitiate_kept ..
  | .flrComplete _, _, _, _ => exact execFlrComplete_kept ..
  | .d3hotEntry _, _, _, _ => exact execD3hotEntry_kept ..
  | .msixVectorUnmask _ _, _, _, _ => exact execMsixVectorUnmask_kept ..
  | .hostReadIssue _, _, _, _ => exact execHostReadIssue_kept ..
  | .readCompletionRx _ _ _, _, _, _ => exact execReadCompletionRx_kept ..
  | .completionTimeout _ _, _, _, _ => exact execCompletionTimeout_kept ..
  | .tagQuarantineEnd _ _, _, _, _ => exact execTagQuarantineEnd_kept ..
  | .malformedTlp _ _ _, _, _, _ => exact execMalformedTlp_kept ..
  | .ideCheckFail _ _, _, _, _ => exact execIdeCheckFail_kept ..
  | .peerWindowRequest _ _ _ _ _, _, _, _ => exact execPeerWindowRequest_kept ..
  | .winCommit _ _, _, _, _ => exact execWinCommit_kept ..
  | .winSwap _, _, _, _ => exact execWinSwap_kept ..
  | .lockInterfaceRequest _ _ _ _ _, _, _, _ => exact execLockInterfaceRequest_kept ..
  | .startInterfaceRequest _ _ _ _ _, _, _, _ => exact execStartInterfaceRequest_kept ..
  | .stopInterfaceRequest _ _ _ _, _, _, _ => exact execStopInterfaceRequest_kept ..
  | .getDeviceInterfaceReport _ _ _ _, _, _, _ => exact execGetDeviceInterfaceReport_kept ..
  | .atsInvalidateRequest _, _, _, _ => exact execAtsInvalidateRequest_kept ..
  | .dbTxQueue _ _ _ _ _, _, _, _ => exact execDbTxQueue_kept ..
  | .dbRxQueue _ _ _ _ _, _, _, _ => exact execDbRxQueue_kept ..
  | .dbCompletionRing _ _ _ _ _, _, _, _ => exact execDbCompletionRing_kept ..
  | .dbEventRing _ _ _ _ _, _, _, _ => exact execDbEventRing_kept ..
  | .dbAdminSlot _ _ _ _ _, _, _, _ => exact execDbAdminSlot_kept ..
  | .dbAdminCompletion _ _ _ _ _, _, _, _ => exact execDbAdminCompletion_kept ..
  | .dbVirtioNet _ _ _ _ _, _, _, _ => exact execDbVirtioNet_kept ..
  | .dbVirtioBlk _ _ _ _ _, _, _, _ => exact execDbVirtioBlk_kept ..
  | .dbNvmeSqTail _ _ _ _ _, _, _, _ => exact execDbNvmeSqTail_kept ..
  | .dbNvmeCqHead _ _ _ _ _, _, _, _ => exact execDbNvmeCqHead_kept ..
  | .setupItem _ _ _ _ _, _, _, _ => exact execSetupItem_kept ..
  | .setupEnable _ _ _ _, _, _, _ => exact execSetupEnable_kept ..
  | .adminSlotFetch _ _ _, _, _, _ => exact execAdminSlotFetch_kept ..
  | .identifyFunction _, _, _, _ => exact execIdentifyFunction_kept ..
  | .functionCreate _, _, _, _ => exact execFunctionCreate_kept ..
  | .functionDestroy _, _, _, _ => exact execFunctionDestroy_kept ..
  | .cqCreate _, _, _, _ => exact execCqCreate_kept ..
  | .cqDestroy _, _, _, _ => exact execCqDestroy_kept ..
  | .queueCreate _, _, _, _ => exact execQueueCreate_kept ..
  | .queueDestroy _, _, _, _ => exact execQueueDestroy_kept ..
  | .queueEnable _, _, _, _ => exact execQueueEnable_kept ..
  | .queueDisable _, _, _, _ => exact execQueueDisable_kept ..
  | .queueDisableComplete _ _, _, _, _ => exact execQueueDisableComplete_kept ..
  | .moderationSet _, _, _, _ => exact execModerationSet_kept ..
  | .txDescriptorFetch _ _ _, _, _, _ => exact execTxDescriptorFetch_kept ..
  | .txCompletionWrite _ _ _, _, _, _ => exact execTxCompletionWrite_kept ..
  | .ropeStartRequest _ _ _ _ _ _, _, _, _ => exact execRopeStartRequest_kept ..
  | .ropeProgramStart _, _, _, _ => exact execRopeProgramStart_kept ..
  | .ropeMove _, _, _, _ => exact execRopeMove_kept ..
  | .ropeLoop _, _, _, _ => exact execRopeLoop_kept ..
  | .ropeWait _, _, _, _ => exact execRopeWait_kept ..
  | .ropeWaitRelease _, _, _, _ => exact execRopeWaitRelease_kept ..
  | .ropeWaitTimeout _, _, _, _ => exact execRopeWaitTimeout_kept ..
  | .ropeSignal _, _, _, _ => exact execRopeSignal_kept ..
  | .ropeEnd _, _, _, _ => exact execRopeEnd_kept ..
  | .ropeChunkRead _, _, _, _ => exact execRopeChunkRead_kept ..
  | .ropeChunkWrite _, _, _, _ => exact execRopeChunkWrite_kept ..
  | .ropeChunkFault _ _ _, _, _, _ => exact execRopeChunkFault_kept ..
  | .ropeProgramStop _, _, _, _ => exact execRopeProgramStop_kept ..
  | .mbxSlotStore _ _ _ _ _ _, _, _, _ => exact execMbxSlotStore_kept ..
  | .mbxDoorbellWrite _ _ _ _, _, _, _ => exact execMbxDoorbellWrite_kept ..
  | .mbxSlotWord7Read _ _ _ _, _, _, _ => exact execMbxSlotWord7Read_kept ..
  | .mbxEmptyClear _ _ _ _, _, _, _ => exact execMbxEmptyClear_kept ..
  | .mbxMaskWrite _ _ _ _, _, _, _ => exact execMbxMaskWrite_kept ..
  | .anComplete _ _ _ _, _, _, _ => exact execAnComplete_kept ..
  | .anRestart _, _, _, _ => exact execAnRestart_kept ..
  | .laneTrainingDone _ _, _, _, _ => exact execLaneTrainingDone_kept ..
  | .trainRetryTimer _, _, _, _ => exact execTrainRetryTimer_kept ..
  | .portLinkUp _, _, _, _ => exact execPortLinkUp_kept ..
  | .portLinkDown _, _, _, _ => exact execPortLinkDown_kept ..
  | .faultSequenceRx _ _, _, _, _ => exact execFaultSequenceRx_kept ..
  | .pfcFrameRx _ _ _, _, _, _ => exact execPfcFrameRx_kept ..
  | .pfcPauseExpiry _ _, _, _, _ => exact execPfcPauseExpiry_kept ..
  | .pfcRefresh _, _, _, _ => exact execPfcRefresh_kept ..
  | .pfcCfgWrite _ _, _, _, _ => exact execPfcCfgWrite_kept ..
  | .preemptVerifyTx _, _, _, _ => exact execPreemptVerifyTx_kept ..
  | .preemptRespondRx _, _, _, _ => exact execPreemptRespondRx_kept ..
  | .preemptCfgWrite _ _, _, _, _ => exact execPreemptCfgWrite_kept ..
  | .moduleInsert _ _ _ _, _, _, _ => exact execModuleInsert_kept ..
  | .moduleRemove _, _, _, _ => exact execModuleRemove_kept ..
  | .moduleInterrupt _ _ _, _, _, _ => exact execModuleInterrupt_kept ..
  | .modulePoll _ _ _, _, _, _ => exact execModulePoll_kept ..
  | .moduleI2cRetry _ _, _, _, _ => exact execModuleI2cRetry_kept ..
  | .moduleRead _ _ _ _ _ _, _, _, _ => exact execModuleRead_kept ..
  | .moduleWrite _ _ _ _ _ _, _, _, _ => exact execModuleWrite_kept ..
  | .moduleAccessDone _ _ _, _, _, _ => exact execModuleAccessDone_kept ..
  | .mgmtFrameRx _, _, _, _ => exact execMgmtFrameRx_kept ..
  | .ncsiClearInitialState _ _, _, _, _ => exact execNcsiClearInitialState_kept ..
  | .ncsiSelectPackage _, _, _, _ => exact execNcsiSelectPackage_kept ..
  | .ncsiDeselectPackage _, _, _, _ => exact execNcsiDeselectPackage_kept ..
  | .ncsiEnableChannel _ _, _, _, _ => exact execNcsiEnableChannel_kept ..
  | .ncsiDisableChannel _ _, _, _, _ => exact execNcsiDisableChannel_kept ..
  | .ncsiResetChannel _ _, _, _, _ => exact execNcsiResetChannel_kept ..
  | .ncsiEnableNetworkTx _ _, _, _, _ => exact execNcsiEnableNetworkTx_kept ..
  | .ncsiDisableNetworkTx _ _, _, _, _ => exact execNcsiDisableNetworkTx_kept ..
  | .ncsiAenEnable _ _ _ _, _, _, _ => exact execNcsiAenEnable_kept ..
  | .ncsiGetLinkStatus _ _, _, _, _ => exact execNcsiGetLinkStatus_kept ..
  | .ncsiGetVersionId _ _, _, _, _ => exact execNcsiGetVersionId_kept ..
  | .ncsiGetCapabilities _ _, _, _, _ => exact execNcsiGetCapabilities_kept ..
  | .ncsiGetParameters _ _, _, _, _ => exact execNcsiGetParameters_kept ..
  | .ncsiGetControllerStats _ _, _, _, _ => exact execNcsiGetControllerStats_kept ..
  | .ncsiGetNcsiStats _ _, _, _, _ => exact execNcsiGetNcsiStats_kept ..
  | .ncsiGetPassthroughStats _ _, _, _, _ => exact execNcsiGetPassthroughStats_kept ..
  | .ncsiSetMacAddress _ _ _ _ _, _, _, _ => exact execNcsiSetMacAddress_kept ..
  | .ncsiEnableBroadcastFilter _ _ _, _, _, _ => exact execNcsiEnableBroadcastFilter_kept ..
  | .ncsiDisableBroadcastFilter _ _, _, _, _ => exact execNcsiDisableBroadcastFilter_kept ..
  | .ncsiEnableMulticastFilter _ _ _, _, _, _ => exact execNcsiEnableMulticastFilter_kept ..
  | .ncsiDisableMulticastFilter _ _, _, _, _ => exact execNcsiDisableMulticastFilter_kept ..
  | .ncsiSetVlanFilter _ _ _ _ _, _, _, _ => exact execNcsiSetVlanFilter_kept ..
  | .ncsiEnableVlan _ _ _, _, _, _ => exact execNcsiEnableVlan_kept ..
  | .ncsiDisableVlan _ _, _, _, _ => exact execNcsiDisableVlan_kept ..
  | .ncsiUnsupportedCommand _ _ _, _, _, _ => exact execNcsiUnsupportedCommand_kept ..
  | .ncsiPassthroughTx _ _, _, _, _ => exact execNcsiPassthroughTx_kept ..
  | .grottoRomStart, _, _, _ => exact execGrottoRomStart_kept ..
  | .grottoImageVerifyDone, _, _, _ => exact execGrottoImageVerifyDone_kept ..
  | .controlFwRelease, _, _, _ => exact execControlFwRelease_kept ..
  | .spdmGetVersion _ _, _, _, _ => exact execSpdmGetVersion_kept ..
  | .spdmGetCapabilities _ _ _, _, _, _ => exact execSpdmGetCapabilities_kept ..
  | .spdmNegotiateAlgorithms _ _ _ _, _, _, _ => exact execSpdmNegotiateAlgorithms_kept ..
  | .spdmGetDigests _ _ _, _, _, _ => exact execSpdmGetDigests_kept ..
  | .spdmGetCertificate _ _ _ _ _ _, _, _, _ => exact execSpdmGetCertificate_kept ..
  | .spdmChallenge _ _ _ _ _, _, _, _ => exact execSpdmChallenge_kept ..
  | .spdmGetMeasurements _ _ _ _ _ _, _, _, _ => exact execSpdmGetMeasurements_kept ..
  | .spdmKeyExchange _ _ _ _ _, _, _, _ => exact execSpdmKeyExchange_kept ..
  | .spdmFinish _ _ _ _, _, _, _ => exact execSpdmFinish_kept ..
  | .spdmHeartbeat _ _ _, _, _, _ => exact execSpdmHeartbeat_kept ..
  | .spdmKeyUpdate _ _ _ _, _, _, _ => exact execSpdmKeyUpdate_kept ..
  | .spdmEndSession _ _ _, _, _, _ => exact execSpdmEndSession_kept ..
  | .spdmChunkTransfer _ _ _ _ _, _, _, _ => exact execSpdmChunkTransfer_kept ..
  | .spdmUnsupportedRequest _, _, _, _ => exact execSpdmUnsupportedRequest_kept ..
  | .spdmHeartbeatTimeout _, _, _, _ => exact execSpdmHeartbeatTimeout_kept ..
  | .ideKmQuery _ _ _, _, _, _ => exact execIdeKmQuery_kept ..
  | .ideKmKeyProg _ _ _ _ _ _ _, _, _, _ => exact execIdeKmKeyProg_kept ..
  | .ideKmKSetGo _ _ _ _ _ _, _, _, _ => exact execIdeKmKSetGo_kept ..
  | .ideKmKSetStop _ _ _ _ _ _, _, _, _ => exact execIdeKmKSetStop_kept ..
  | .fwActivate _, _, _, _ => exact execFwActivate_kept ..
  | .principalRekey _, _, _, h => exact Bool.noConfusion h
  | .debugUnlock _, _, _, _ => exact execDebugUnlock_kept ..
  | .secureErase _, _, _, h => exact Bool.noConfusion h
  | .thermalSample _, _, _, _ => exact execThermalSample_kept ..
  | .thermalShedStep, _, _, _ => exact execThermalShedStep_kept ..
  | .thermalReturnStep, _, _, _ => exact execThermalReturnStep_kept ..
  | .thermalTrip, _, _, _ => exact execThermalTrip_kept ..
  | .pwrGoodRise _, h, _, _ => exact Bool.noConfusion h
  | .pwrGoodFall, h, _, _ => exact Bool.noConfusion h
  | .sysResetAssert, h, _, _ => exact Bool.noConfusion h
  | .resetCtrlWrite _, _, _, _ => exact execResetCtrlWrite_kept ..
  | .deviceReset, _, _, _ => exact execDeviceReset_kept ..
  | .synthLock, h, _, _ => exact Bool.noConfusion h
  | .hifReadySet _, _, _, _ => exact execHifReadySet_kept ..
  | .trstAssert, h, _, _ => exact Bool.noConfusion h
  | .tapExtest, h, _, _ => exact Bool.noConfusion h
  | .tapSamplePreload, h, _, _ => exact Bool.noConfusion h
  | .tapIdcode, h, _, _ => exact Bool.noConfusion h
  | .tapHighz, h, _, _ => exact Bool.noConfusion h
  | .tapClamp, h, _, _ => exact Bool.noConfusion h
  | .tapExtestPulse, h, _, _ => exact Bool.noConfusion h
  | .tapExtestTrain, h, _, _ => exact Bool.noConfusion h
  | .tapPrivate _, h, _, _ => exact Bool.noConfusion h
  | .tapBypass, h, _, _ => exact Bool.noConfusion h
  | .lntHelp, _, _, _ => exact execLntHelp_kept ..
  | .lntStatus, _, _, _ => exact execLntStatus_kept ..
  | .lntNonce, _, _, _ => exact execLntNonce_kept ..
  | .lntLock, _, _, _ => exact execLntLock_kept ..
  | .lntFault _ _, _, _, _ => exact execLntFault_kept ..
  | .lntRd _ _, _, _, _ => exact execLntRd_kept ..
  | .lntTime, _, _, _ => exact execLntTime_kept ..
  | .lntPort _, _, _, _ => exact execLntPort_kept ..
  | .lntReset, h, _, _ => exact Bool.noConfusion h
  | .lntWr _ _, _, _, _ => exact execLntWr_kept ..
  | .lntHalt _ _, _, _, _ => exact execLntHalt_kept ..
  | .lntResume _ _, _, _, _ => exact execLntResume_kept ..
  | .lntStep _ _ _ _, _, _, _ => exact execLntStep_kept ..
  | .lntStepTimeout, _, _, _ => exact execLntStepTimeout_kept ..
  | .lntRegs _ _ _, _, _, _ => exact execLntRegs_kept ..
  | .lntBkptArm _ _, _, _, _ => exact execLntBkptArm_kept ..
  | .lntBkptDisarm _ _, _, _, _ => exact execLntBkptDisarm_kept ..
  | .lntSumpAbort _ _, _, _, _ => exact execLntSumpAbort_kept ..
  | .lntCoreHalt _, _, _, _ => exact execLntCoreHalt_kept ..
  | .lntCoreResume _, _, _, _ => exact execLntCoreResume_kept ..
  | .lntCoreRd _ _ _, _, _, _ => exact execLntCoreRd_kept ..
  | .lntFlashErase _, _, h, _ => exact Bool.noConfusion h
  | .lntFlashWrite _ _, _, h, _ => exact Bool.noConfusion h
  | .lntUnknownCommand, _, _, _ => exact execLntUnknownCommand_kept ..
  | .pldmFwUpdate _ _ _, _, h, _ => exact Bool.noConfusion h
  | .railUndervoltage, h, _, _ => exact Bool.noConfusion h
  | .ethRefclkLoss, _, _, _ => exact execEthRefclkLoss_kept ..
  | .mgmtRefclkLoss, _, _, _ => exact execMgmtRefclkLoss_kept ..
  | .ncsiRefclkLoss, _, _, _ => exact execNcsiRefclkLoss_kept ..
  | .ncsiRefclkReturn, _, _, _ => exact execNcsiRefclkReturn_kept ..
  | .pcieRefclkLoss _, _, _, _ => exact execPcieRefclkLoss_kept ..
  | .vddio18Fall, h, _, _ => exact Bool.noConfusion h
  | .smbusMctpRx _ _, _, _, _ => exact execSmbusMctpRx_kept ..
  | .ethRefclkReturn, _, _, _ => exact execEthRefclkReturn_kept ..
  | .mgmtRefclkReturn, _, _, _ => exact execMgmtRefclkReturn_kept ..
  | .pcieRefclkReturn _, _, _, _ => exact execPcieRefclkReturn_kept ..
  | .mgmtLinkChange _ _, _, _, _ => exact execMgmtLinkChange_kept ..
  | .blockLockChange _ _, _, _, _ => exact execBlockLockChange_kept ..
  | .synceInputRecovery _, _, _, _ => exact execSynceInputRecovery_kept ..
  | .frequencyDpllLock, _, _, _ => exact execFrequencyDpllLock_kept ..
  | .ptpAnnounceReceiptTimeout _, _, _, _ => exact execPtpAnnounceReceiptTimeout_kept ..
  | .replayTimerExpiry _ _, _, _, _ => exact execReplayTimerExpiry_kept ..
  | .tcpAckRx, _, _, _ => exact execTcpAckRx_kept ..
  | .sysResetRelease, h, _, _ => exact Bool.noConfusion h
  | .testLogicReset, h, _, _ => exact Bool.noConfusion h
  | .qpModify _ _, _, _, _ => exact execQpModify_kept ..

/-- Every command keeps what `Sound` says. -/
theorem exec_sound (c : Instr) (s : State) : OutSound s (exec c s) := by
  match c with
  | .badSizeRegisterAccess _ _ _ _ => exact (execBadSizeRegisterAccess_kept ..).sound
  | .lowHalfRead _ _ _ => exact (execLowHalfRead_kept ..).sound
  | .highHalfRead _ _ _ => exact (execHighHalfRead_kept ..).sound
  | .lowHalfWrite _ _ _ _ => exact (execLowHalfWrite_kept ..).sound
  | .highHalfWrite _ _ _ _ => exact (execHighHalfWrite_kept ..).sound
  | .registerWrite _ => exact (execRegisterWrite_kept ..).sound
  | .errorCounterWrite _ _ => exact (execErrorCounterWrite_kept ..).sound
  | .doorbellBadWrite _ _ _ => exact (execDoorbellBadWrite_kept ..).sound
  | .grtWindowWrite _ _ _ => exact (execGrtWindowWrite_kept ..).sound
  | .dripBoundary => exact (execDripBoundary_kept ..).sound
  | .voteBoundary => exact (execVoteBoundary_kept ..).sound
  | .timeSourceSet _ => exact (execTimeSourceSet_kept ..).sound
  | .timeSourceApply => exact (execTimeSourceApply_kept ..).sound
  | .timeStep _ => exact (execTimeStep_kept ..).sound
  | .timeStepApply => exact (execTimeStepApply_kept ..).sound
  | .realignCountExpiry => exact (execRealignCountExpiry_kept ..).sound
  | .oscInLoss => exact (execOscInLoss_kept ..).sound
  | .oscInReturn => exact (execOscInReturn_kept ..).sound
  | .fdpllInputLoss => exact (execFdpllInputLoss_kept ..).sound
  | .snapshotTake _ => exact (execSnapshotTake_kept ..).sound
  | .portCalibrationDone _ _ _ _ _ => exact (execPortCalibrationDone_kept ..).sound
  | .delayTempCorrection _ => exact (execDelayTempCorrection_kept ..).sound
  | .ptpSyncTx _ _ => exact (execPtpSyncTx_kept ..).sound
  | .ptpSyncRx _ _ _ => exact (execPtpSyncRx_kept ..).sound
  | .ptpFollowUpRx _ _ _ => exact (execPtpFollowUpRx_kept ..).sound
  | .ptpDelayReqTx _ _ => exact (execPtpDelayReqTx_kept ..).sound
  | .ptpDelayReqRx _ _ _ => exact (execPtpDelayReqRx_kept ..).sound
  | .ptpDelayRespRx _ _ _ => exact (execPtpDelayRespRx_kept ..).sound
  | .ptpPdelayReqTx _ _ => exact (execPtpPdelayReqTx_kept ..).sound
  | .ptpPdelayReqRx _ _ _ => exact (execPtpPdelayReqRx_kept ..).sound
  | .ptpPdelayRespRx _ _ _ => exact (execPtpPdelayRespRx_kept ..).sound
  | .ptpPdelayRespFollowUpRx _ _ _ => exact (execPtpPdelayRespFollowUpRx_kept ..).sound
  | .ptpAnnounceTx _ _ => exact (execPtpAnnounceTx_kept ..).sound
  | .ptpAnnounceRx _ _ _ _ => exact (execPtpAnnounceRx_kept ..).sound
  | .ptpSignalingRx _ _ _ _ => exact (execPtpSignalingRx_kept ..).sound
  | .ptpManagementRx _ _ _ => exact (execPtpManagementRx_kept ..).sound
  | .ptpUnmatchedTimeout _ => exact (execPtpUnmatchedTimeout_kept ..).sound
  | .ptpGrantRenew _ _ => exact (execPtpGrantRenew_kept ..).sound
  | .ptpGrantRequestRetry _ _ => exact (execPtpGrantRequestRetry_kept ..).sound
  | .ptpGrantExpiry _ _ _ => exact (execPtpGrantExpiry_kept ..).sound
  | .esmcInfoTx => exact (execEsmcInfoTx_kept ..).sound
  | .esmcRx _ _ => exact (execEsmcRx_kept ..).sound
  | .esmcTimeout _ => exact (execEsmcTimeout_kept ..).sound
  | .synceInputLoss _ => exact (execSynceInputLoss_kept ..).sound
  | .synceHoldOffExpiry _ => exact (execSynceHoldOffExpiry_kept ..).sound
  | .synceWtrExpiry _ => exact (execSynceWtrExpiry_kept ..).sound
  | .ppsOutStart _ => exact (execPpsOutStart_kept ..).sound
  | .ppsOutEnd _ => exact (execPpsOutEnd_kept ..).sound
  | .ppsInEdge _ _ => exact (execPpsInEdge_kept ..).sound
  | .todSentenceRx _ _ _ => exact (execTodSentenceRx_kept ..).sound
  | .ptmDialogueStart _ => exact (execPtmDialogueStart_kept ..).sound
  | .ptmResponseRx _ _ _ => exact (execPtmResponseRx_kept ..).sound
  | .ptmResponseTimeout _ => exact (execPtmResponseTimeout_kept ..).sound
  | .clockPageSet _ => exact (execClockPageSet_kept ..).sound
  | .portFrameRx _ _ => exact (execPortFrameRx_kept ..).sound
  | .cfPacketInject _ _ => exact (execCfPacketInject_kept ..).sound
  | .parseTake _ _ => exact (execParseTake_kept ..).sound
  | .parseStallEnd _ => exact (execParseStallEnd_kept ..).sound
  | .parseExt _ => exact (execParseExt_kept ..).sound
  | .parseExtb _ => exact (execParseExtb_kept ..).sound
  | .parseMovi _ => exact (execParseMovi_kept ..).sound
  | .parseShl _ => exact (execParseShl_kept ..).sound
  | .parseShr _ => exact (execParseShr_kept ..).sound
  | .parseAnd _ => exact (execParseAnd_kept ..).sound
  | .parseOr _ => exact (execParseOr_kept ..).sound
  | .parseAdd _ => exact (execParseAdd_kept ..).sound
  | .parseCmp _ => exact (execParseCmp_kept ..).sound
  | .parseBr _ => exact (execParseBr_kept ..).sound
  | .parseBrf _ => exact (execParseBrf_kept ..).sound
  | .parseAdvi _ => exact (execParseAdvi_kept ..).sound
  | .parseAdvr _ => exact (execParseAdvr_kept ..).sound
  | .parseEmit _ => exact (execParseEmit_kept ..).sound
  | .parseEmitr _ => exact (execParseEmitr_kept ..).sound
  | .parseSetmd _ => exact (execParseSetmd_kept ..).sound
  | .parseMark _ => exact (execParseMark_kept ..).sound
  | .parseDone _ => exact (execParseDone_kept ..).sound
  | .parseFail _ => exact (execParseFail_kept ..).sound
  | .matchStage _ => exact (execMatchStage_kept ..).sound
  | .rulesetOpen _ => exact (execRulesetOpen_kept ..).sound
  | .rulesetStage _ => exact (execRulesetStage_kept ..).sound
  | .tableCreate _ => exact (execTableCreate_kept ..).sound
  | .rulesetAbort _ => exact (execRulesetAbort_kept ..).sound
  | .rulesetCommit _ => exact (execRulesetCommit_kept ..).sound
  | .rulesetCurrent => exact (execRulesetCurrent_kept ..).sound
  | .versionRetire => exact (execVersionRetire_kept ..).sound
  | .settleComplete => exact (execSettleComplete_kept ..).sound
  | .tcamSlotClearComplete => exact (execTcamSlotClearComplete_kept ..).sound
  | .parseCoreFault _ _ _ => exact (execParseCoreFault_kept ..).sound
  | .matchLaneFault _ _ => exact (execMatchLaneFault_kept ..).sound
  | .memoryReadError _ _ _ _ _ _ _ => exact (execMemoryReadError_kept ..).sound
  | .engineStart _ _ => exact (execEngineStart_kept ..).sound
  | .threadPacketStart _ _ _ => exact (execThreadPacketStart_kept ..).sound
  | .threadWake _ _ _ => exact (execThreadWake_kept ..).sound
  | .sumpWaitEnd _ _ _ => exact (execSumpWaitEnd_kept ..).sound
  | .loadDataReturn _ _ _ => exact (execLoadDataReturn_kept ..).sound
  | .lockGrant _ _ => exact (execLockGrant_kept ..).sound
  | .lockOverrun _ _ => exact (execLockOverrun_kept ..).sound
  | .engineStall _ _ => exact (execEngineStall_kept ..).sound
  | .supervisorEntry _ _ => exact (execSupervisorEntry_kept ..).sound
  | .thread0FirmwareRestart _ _ => exact (execThread0FirmwareRestart_kept ..).sound
  | .sumpAbort _ _ => exact (execSumpAbort_kept ..).sound
  | .peEventsWrite _ _ _ => exact (execPeEventsWrite_kept ..).sound
  | .dispatcherEnqueue _ => exact (execDispatcherEnqueue_kept ..).sound
  | .handoff _ _ => exact (execHandoff_kept ..).sound
  | .add _ _ _ => exact (execAdd_kept ..).sound
  | .sub _ _ _ => exact (execSub_kept ..).sound
  | .and _ _ _ => exact (execAnd_kept ..).sound
  | .or _ _ _ => exact (execOr_kept ..).sound
  | .xor _ _ _ => exact (execXor_kept ..).sound
  | .shl _ _ _ => exact (execShl_kept ..).sound
  | .shr _ _ _ => exact (execShr_kept ..).sound
  | .sar _ _ _ => exact (execSar_kept ..).sound
  | .mul _ _ _ => exact (execMul_kept ..).sound
  | .mulhu _ _ _ => exact (execMulhu_kept ..).sound
  | .minu _ _ _ => exact (execMinu_kept ..).sound
  | .maxu _ _ _ => exact (execMaxu_kept ..).sound
  | .sltu _ _ _ => exact (execSltu_kept ..).sound
  | .slt _ _ _ => exact (execSlt_kept ..).sound
  | .seq _ _ _ => exact (execSeq_kept ..).sound
  | .sel _ _ _ => exact (execSel_kept ..).sound
  | .bswap _ _ _ => exact (execBswap_kept ..).sound
  | .clz _ _ _ => exact (execClz_kept ..).sound
  | .csum _ _ _ => exact (execCsum_kept ..).sound
  | .crc _ _ _ => exact (execCrc_kept ..).sound
  | .addi _ _ _ => exact (execAddi_kept ..).sound
  | .andi _ _ _ => exact (execAndi_kept ..).sound
  | .ori _ _ _ => exact (execOri_kept ..).sound
  | .xori _ _ _ => exact (execXori_kept ..).sound
  | .shli _ _ _ => exact (execShli_kept ..).sound
  | .shri _ _ _ => exact (execShri_kept ..).sound
  | .sari _ _ _ => exact (execSari_kept ..).sound
  | .insi _ _ _ => exact (execInsi_kept ..).sound
  | .extr _ _ _ => exact (execExtr_kept ..).sound
  | .insr _ _ _ => exact (execInsr_kept ..).sound
  | .ld64 _ _ _ => exact (execLd64_kept ..).sound
  | .ld32 _ _ _ => exact (execLd32_kept ..).sound
  | .ld16 _ _ _ => exact (execLd16_kept ..).sound
  | .ld8 _ _ _ => exact (execLd8_kept ..).sound
  | .st64 _ _ _ => exact (execSt64_kept ..).sound
  | .st32 _ _ _ => exact (execSt32_kept ..).sound
  | .st16 _ _ _ => exact (execSt16_kept ..).sound
  | .st8 _ _ _ => exact (execSt8_kept ..).sound
  | .ldbe _ _ _ => exact (execLdbe_kept ..).sound
  | .stbe _ _ _ => exact (execStbe_kept ..).sound
  | .pld _ _ _ => exact (execPld_kept ..).sound
  | .sxadd _ _ _ => exact (execSxadd_kept ..).sound
  | .sxchg _ _ _ => exact (execSxchg_kept ..).sound
  | .flook _ _ _ => exact (execFlook_kept ..).sound
  | .fins _ _ _ => exact (execFins_kept ..).sound
  | .fdel _ _ _ => exact (execFdel_kept ..).sound
  | .fld _ _ _ => exact (execFld_kept ..).sound
  | .fsts _ _ _ => exact (execFsts_kept ..).sound
  | .ctradd _ _ _ => exact (execCtradd_kept ..).sound
  | .beq _ _ _ => exact (execBeq_kept ..).sound
  | .bne _ _ _ => exact (execBne_kept ..).sound
  | .bltu _ _ _ => exact (execBltu_kept ..).sound
  | .bgeu _ _ _ => exact (execBgeu_kept ..).sound
  | .jmp _ _ _ => exact (execJmp_kept ..).sound
  | .call _ _ _ => exact (execCall_kept ..).sound
  | .ret _ _ _ => exact (execRet_kept ..).sound
  | .loop _ _ _ => exact (execLoop_kept ..).sound
  | .brknz _ _ _ => exact (execBrknz_kept ..).sound
  | .signal _ _ _ => exact (execSignal_kept ..).sound
  | .wait _ _ _ => exact (execWait_kept ..).sound
  | .clrev _ _ _ => exact (execClrev_kept ..).sound
  | .sput _ _ _ => exact (execSput_kept ..).sound
  | .sget _ _ _ => exact (execSget_kept ..).sound
  | .lock _ _ _ => exact (execLock_kept ..).sound
  | .unlock _ _ _ => exact (execUnlock_kept ..).sound
  | .endHandoff _ _ _ => exact (execEndHandoff_kept ..).sound
  | .endRecirc _ _ _ => exact (execEndRecirc_kept ..).sound
  | .endPunt _ _ _ => exact (execEndPunt_kept ..).sound
  | .endDrop _ _ _ => exact (execEndDrop_kept ..).sound
  | .mfsr _ _ _ => exact (execMfsr_kept ..).sound
  | .mtsr _ _ _ => exact (execMtsr_kept ..).sound
  | .getg _ _ _ => exact (execGetg_kept ..).sound
  | .putg _ _ _ => exact (execPutg_kept ..).sound
  | .release _ _ _ => exact (execRelease_kept ..).sound
  | .restart _ _ _ => exact (execRestart_kept ..).sound
  | .rets _ _ _ => exact (execRets_kept ..).sound
  | .bkpt _ _ _ => exact (execBkpt_kept ..).sound
  | .deadlineFault _ _ => exact (execDeadlineFault_kept ..).sound
  | .graceExpiry _ _ => exact (execGraceExpiry_kept ..).sound
  | .inputQueueExpiry _ _ => exact (execInputQueueExpiry_kept ..).sound
  | .engineHwFault _ _ _ _ => exact (execEngineHwFault_kept ..).sound
  | .galleryMemoryFault _ _ _ _ => exact (execGalleryMemoryFault_kept ..).sound
  | .engineCheckStart _ _ => exact (execEngineCheckStart_kept ..).sound
  | .engineCheckEnd _ _ _ => exact (execEngineCheckEnd_kept ..).sound
  | .engineReturn _ _ => exact (execEngineReturn_kept ..).sound
  | .engineRetire _ _ => exact (execEngineRetire_kept ..).sound
  | .shareSet _ => exact (execShareSet_kept ..).sound
  | .tmEnqueue _ => exact (execTmEnqueue_kept ..).sound
  | .tmSelect _ => exact (execTmSelect_kept ..).sound
  | .portFrameTxEnd _ => exact (execPortFrameTxEnd_kept ..).sound
  | .gateChange _ => exact (execGateChange_kept ..).sound
  | .gateListCommit _ => exact (execGateListCommit_kept ..).sound
  | .gateListCopyDone _ => exact (execGateListCopyDone_kept ..).sound
  | .gateListStart _ => exact (execGateListStart_kept ..).sound
  | .sampleRound _ _ => exact (execSampleRound_kept ..).sound
  | .sampleCfgWrite _ _ => exact (execSampleCfgWrite_kept ..).sound
  | .sampleRingWrite _ _ => exact (execSampleRingWrite_kept ..).sound
  | .tmTableRead _ _ _ => exact (execTmTableRead_kept ..).sound
  | .tmTableWrite _ _ _ => exact (execTmTableWrite_kept ..).sound
  | .tmTableAccessDone _ => exact (execTmTableAccessDone_kept ..).sound
  | .espInOperation _ => exact (execEspInOperation_kept ..).sound
  | .espOutOperation _ => exact (execEspOutOperation_kept ..).sound
  | .tlsTxOperation _ => exact (execTlsTxOperation_kept ..).sound
  | .tlsRxSegment _ => exact (execTlsRxSegment_kept ..).sound
  | .macsecTxFrame _ => exact (execMacsecTxFrame_kept ..).sound
  | .macsecRxFrame _ => exact (execMacsecRxFrame_kept ..).sound
  | .cryptoContextFetch _ => exact (execCryptoContextFetch_kept ..).sound
  | .cryptoLaneFault _ _ _ _ _ => exact (execCryptoLaneFault_kept ..).sound
  | .sessionWrite _ => exact (execSessionWrite_kept ..).sound
  | .sessionUpdate _ => exact (execSessionUpdate_kept ..).sound
  | .keyInstall _ => exact (execKeyInstall_kept ..).sound
  | .keyRetire _ => exact (execKeyRetire_kept ..).sound
  | .keyEnvelopeImport _ => exact (execKeyEnvelopeImport_kept ..).sound
  | .sessionPortRead _ _ _ => exact (execSessionPortRead_kept ..).sound
  | .sessionPortReadDone _ => exact (execSessionPortReadDone_kept ..).sound
  | .secyRegisterWrite _ _ => exact (execSecyRegisterWrite_kept ..).sound
  | .nvmeIdentify _ => exact (execNvmeIdentify_kept ..).sound
  | .nvmeGetLogPage _ => exact (execNvmeGetLogPage_kept ..).sound
  | .nvmeSetFeatures _ => exact (execNvmeSetFeatures_kept ..).sound
  | .nvmeGetFeatures _ => exact (execNvmeGetFeatures_kept ..).sound
  | .nvmeCreateIoSq _ => exact (execNvmeCreateIoSq_kept ..).sound
  | .nvmeCreateIoCq _ => exact (execNvmeCreateIoCq_kept ..).sound
  | .nvmeDeleteIoSq _ => exact (execNvmeDeleteIoSq_kept ..).sound
  | .nvmeDeleteIoCq _ => exact (execNvmeDeleteIoCq_kept ..).sound
  | .nvmeAbort _ => exact (execNvmeAbort_kept ..).sound
  | .nvmeAsyncEventRequest _ => exact (execNvmeAsyncEventRequest_kept ..).sound
  | .nvmeUnsupportedOpcode _ _ => exact (execNvmeUnsupportedOpcode_kept ..).sound
  | .nvmeFlush _ _ => exact (execNvmeFlush_kept ..).sound
  | .nvmeWrite _ _ => exact (execNvmeWrite_kept ..).sound
  | .nvmeRead _ _ => exact (execNvmeRead_kept ..).sound
  | .nvmeWriteZeroes _ _ => exact (execNvmeWriteZeroes_kept ..).sound
  | .nvmeDatasetManagement _ _ => exact (execNvmeDatasetManagement_kept ..).sound
  | .virtioBlkIn _ _ => exact (execVirtioBlkIn_kept ..).sound
  | .virtioBlkOut _ _ => exact (execVirtioBlkOut_kept ..).sound
  | .virtioBlkFlush _ _ => exact (execVirtioBlkFlush_kept ..).sound
  | .virtioBlkGetId _ _ => exact (execVirtioBlkGetId_kept ..).sound
  | .virtioBlkDiscard _ _ => exact (execVirtioBlkDiscard_kept ..).sound
  | .virtioBlkWriteZeroes _ _ => exact (execVirtioBlkWriteZeroes_kept ..).sound
  | .virtioBlkUnsupported _ _ => exact (execVirtioBlkUnsupported_kept ..).sound
  | .backendIssue _ => exact (execBackendIssue_kept ..).sound
  | .backendCompletion _ => exact (execBackendCompletion_kept ..).sound
  | .attemptTimeout _ => exact (execAttemptTimeout_kept ..).sound
  | .issueWaitTimeout _ => exact (execIssueWaitTimeout_kept ..).sound
  | .icrespRx _ => exact (execIcrespRx_kept ..).sound
  | .fabricsConnectResponse _ => exact (execFabricsConnectResponse_kept ..).sound
  | .fabricsConnectRetry _ => exact (execFabricsConnectRetry_kept ..).sound
  | .keepAliveTimer _ => exact (execKeepAliveTimer_kept ..).sound
  | .tcpRtoExpiry _ => exact (execTcpRtoExpiry_kept ..).sound
  | .nvmeTcpPduRx => exact (execNvmeTcpPduRx_kept ..).sound
  | .rocePacketRx => exact (execRocePacketRx_kept ..).sound
  | .roceAckTimeout _ => exact (execRoceAckTimeout_kept ..).sound
  | .cnpRx => exact (execCnpRx_kept ..).sound
  | .rateIncreasePeriod _ => exact (execRateIncreasePeriod_kept ..).sound
  | .ctrlCreate _ => exact (execCtrlCreate_kept ..).sound
  | .ctrlDestroy _ => exact (execCtrlDestroy_kept ..).sound
  | .nsCreate _ => exact (execNsCreate_kept ..).sound
  | .nsDestroy _ => exact (execNsDestroy_kept ..).sound
  | .pathCreate _ => exact (execPathCreate_kept ..).sound
  | .pathDestroy _ => exact (execPathDestroy_kept ..).sound
  | .stoContextRead _ _ _ _ => exact (execStoContextRead_kept ..).sound
  | .stoTcpCfgWrite _ => exact (execStoTcpCfgWrite_kept ..).sound
  | .pcieLinkUp _ _ _ _ _ => exact (execPcieLinkUp_kept ..).sound
  | .pcieLinkDown _ => exact (execPcieLinkDown_kept ..).sound
  | .perstAssert _ => exact (execPerstAssert_kept ..).sound
  | .perstRelease _ => exact (execPerstRelease_kept ..).sound
  | .retrainLink _ _ _ _ _ => exact (execRetrainLink_kept ..).sound
  | .bmeClear _ => exact (execBmeClear_kept ..).sound
  | .bmeSet _ => exact (execBmeSet_kept ..).sound
  | .flrInitiate _ => exact (execFlrInitiate_kept ..).sound
  | .flrComplete _ => exact (execFlrComplete_kept ..).sound
  | .d3hotEntry _ => exact (execD3hotEntry_kept ..).sound
  | .msixVectorUnmask _ _ => exact (execMsixVectorUnmask_kept ..).sound
  | .hostReadIssue _ => exact (execHostReadIssue_kept ..).sound
  | .readCompletionRx _ _ _ => exact (execReadCompletionRx_kept ..).sound
  | .completionTimeout _ _ => exact (execCompletionTimeout_kept ..).sound
  | .tagQuarantineEnd _ _ => exact (execTagQuarantineEnd_kept ..).sound
  | .malformedTlp _ _ _ => exact (execMalformedTlp_kept ..).sound
  | .ideCheckFail _ _ => exact (execIdeCheckFail_kept ..).sound
  | .peerWindowRequest _ _ _ _ _ => exact (execPeerWindowRequest_kept ..).sound
  | .winCommit _ _ => exact (execWinCommit_kept ..).sound
  | .winSwap _ => exact (execWinSwap_kept ..).sound
  | .lockInterfaceRequest _ _ _ _ _ => exact (execLockInterfaceRequest_kept ..).sound
  | .startInterfaceRequest _ _ _ _ _ => exact (execStartInterfaceRequest_kept ..).sound
  | .stopInterfaceRequest _ _ _ _ => exact (execStopInterfaceRequest_kept ..).sound
  | .getDeviceInterfaceReport _ _ _ _ => exact (execGetDeviceInterfaceReport_kept ..).sound
  | .atsInvalidateRequest _ => exact (execAtsInvalidateRequest_kept ..).sound
  | .dbTxQueue _ _ _ _ _ => exact (execDbTxQueue_kept ..).sound
  | .dbRxQueue _ _ _ _ _ => exact (execDbRxQueue_kept ..).sound
  | .dbCompletionRing _ _ _ _ _ => exact (execDbCompletionRing_kept ..).sound
  | .dbEventRing _ _ _ _ _ => exact (execDbEventRing_kept ..).sound
  | .dbAdminSlot _ _ _ _ _ => exact (execDbAdminSlot_kept ..).sound
  | .dbAdminCompletion _ _ _ _ _ => exact (execDbAdminCompletion_kept ..).sound
  | .dbVirtioNet _ _ _ _ _ => exact (execDbVirtioNet_kept ..).sound
  | .dbVirtioBlk _ _ _ _ _ => exact (execDbVirtioBlk_kept ..).sound
  | .dbNvmeSqTail _ _ _ _ _ => exact (execDbNvmeSqTail_kept ..).sound
  | .dbNvmeCqHead _ _ _ _ _ => exact (execDbNvmeCqHead_kept ..).sound
  | .setupItem _ _ _ _ _ => exact (execSetupItem_kept ..).sound
  | .setupEnable _ _ _ _ => exact (execSetupEnable_kept ..).sound
  | .adminSlotFetch _ _ _ => exact (execAdminSlotFetch_kept ..).sound
  | .identifyFunction _ => exact (execIdentifyFunction_kept ..).sound
  | .functionCreate _ => exact (execFunctionCreate_kept ..).sound
  | .functionDestroy _ => exact (execFunctionDestroy_kept ..).sound
  | .cqCreate _ => exact (execCqCreate_kept ..).sound
  | .cqDestroy _ => exact (execCqDestroy_kept ..).sound
  | .queueCreate _ => exact (execQueueCreate_kept ..).sound
  | .queueDestroy _ => exact (execQueueDestroy_kept ..).sound
  | .queueEnable _ => exact (execQueueEnable_kept ..).sound
  | .queueDisable _ => exact (execQueueDisable_kept ..).sound
  | .queueDisableComplete _ _ => exact (execQueueDisableComplete_kept ..).sound
  | .moderationSet _ => exact (execModerationSet_kept ..).sound
  | .txDescriptorFetch _ _ _ => exact (execTxDescriptorFetch_kept ..).sound
  | .txCompletionWrite _ _ _ => exact (execTxCompletionWrite_kept ..).sound
  | .ropeStartRequest _ _ _ _ _ _ => exact (execRopeStartRequest_kept ..).sound
  | .ropeProgramStart _ => exact (execRopeProgramStart_kept ..).sound
  | .ropeMove _ => exact (execRopeMove_kept ..).sound
  | .ropeLoop _ => exact (execRopeLoop_kept ..).sound
  | .ropeWait _ => exact (execRopeWait_kept ..).sound
  | .ropeWaitRelease _ => exact (execRopeWaitRelease_kept ..).sound
  | .ropeWaitTimeout _ => exact (execRopeWaitTimeout_kept ..).sound
  | .ropeSignal _ => exact (execRopeSignal_kept ..).sound
  | .ropeEnd _ => exact (execRopeEnd_kept ..).sound
  | .ropeChunkRead _ => exact (execRopeChunkRead_kept ..).sound
  | .ropeChunkWrite _ => exact (execRopeChunkWrite_kept ..).sound
  | .ropeChunkFault _ _ _ => exact (execRopeChunkFault_kept ..).sound
  | .ropeProgramStop _ => exact (execRopeProgramStop_kept ..).sound
  | .mbxSlotStore _ _ _ _ _ _ => exact (execMbxSlotStore_kept ..).sound
  | .mbxDoorbellWrite _ _ _ _ => exact (execMbxDoorbellWrite_kept ..).sound
  | .mbxSlotWord7Read _ _ _ _ => exact (execMbxSlotWord7Read_kept ..).sound
  | .mbxEmptyClear _ _ _ _ => exact (execMbxEmptyClear_kept ..).sound
  | .mbxMaskWrite _ _ _ _ => exact (execMbxMaskWrite_kept ..).sound
  | .anComplete _ _ _ _ => exact (execAnComplete_kept ..).sound
  | .anRestart _ => exact (execAnRestart_kept ..).sound
  | .laneTrainingDone _ _ => exact (execLaneTrainingDone_kept ..).sound
  | .trainRetryTimer _ => exact (execTrainRetryTimer_kept ..).sound
  | .portLinkUp _ => exact (execPortLinkUp_kept ..).sound
  | .portLinkDown _ => exact (execPortLinkDown_kept ..).sound
  | .faultSequenceRx _ _ => exact (execFaultSequenceRx_kept ..).sound
  | .pfcFrameRx _ _ _ => exact (execPfcFrameRx_kept ..).sound
  | .pfcPauseExpiry _ _ => exact (execPfcPauseExpiry_kept ..).sound
  | .pfcRefresh _ => exact (execPfcRefresh_kept ..).sound
  | .pfcCfgWrite _ _ => exact (execPfcCfgWrite_kept ..).sound
  | .preemptVerifyTx _ => exact (execPreemptVerifyTx_kept ..).sound
  | .preemptRespondRx _ => exact (execPreemptRespondRx_kept ..).sound
  | .preemptCfgWrite _ _ => exact (execPreemptCfgWrite_kept ..).sound
  | .moduleInsert _ _ _ _ => exact (execModuleInsert_kept ..).sound
  | .moduleRemove _ => exact (execModuleRemove_kept ..).sound
  | .moduleInterrupt _ _ _ => exact (execModuleInterrupt_kept ..).sound
  | .modulePoll _ _ _ => exact (execModulePoll_kept ..).sound
  | .moduleI2cRetry _ _ => exact (execModuleI2cRetry_kept ..).sound
  | .moduleRead _ _ _ _ _ _ => exact (execModuleRead_kept ..).sound
  | .moduleWrite _ _ _ _ _ _ => exact (execModuleWrite_kept ..).sound
  | .moduleAccessDone _ _ _ => exact (execModuleAccessDone_kept ..).sound
  | .mgmtFrameRx _ => exact (execMgmtFrameRx_kept ..).sound
  | .ncsiClearInitialState _ _ => exact (execNcsiClearInitialState_kept ..).sound
  | .ncsiSelectPackage _ => exact (execNcsiSelectPackage_kept ..).sound
  | .ncsiDeselectPackage _ => exact (execNcsiDeselectPackage_kept ..).sound
  | .ncsiEnableChannel _ _ => exact (execNcsiEnableChannel_kept ..).sound
  | .ncsiDisableChannel _ _ => exact (execNcsiDisableChannel_kept ..).sound
  | .ncsiResetChannel _ _ => exact (execNcsiResetChannel_kept ..).sound
  | .ncsiEnableNetworkTx _ _ => exact (execNcsiEnableNetworkTx_kept ..).sound
  | .ncsiDisableNetworkTx _ _ => exact (execNcsiDisableNetworkTx_kept ..).sound
  | .ncsiAenEnable _ _ _ _ => exact (execNcsiAenEnable_kept ..).sound
  | .ncsiGetLinkStatus _ _ => exact (execNcsiGetLinkStatus_kept ..).sound
  | .ncsiGetVersionId _ _ => exact (execNcsiGetVersionId_kept ..).sound
  | .ncsiGetCapabilities _ _ => exact (execNcsiGetCapabilities_kept ..).sound
  | .ncsiGetParameters _ _ => exact (execNcsiGetParameters_kept ..).sound
  | .ncsiGetControllerStats _ _ => exact (execNcsiGetControllerStats_kept ..).sound
  | .ncsiGetNcsiStats _ _ => exact (execNcsiGetNcsiStats_kept ..).sound
  | .ncsiGetPassthroughStats _ _ => exact (execNcsiGetPassthroughStats_kept ..).sound
  | .ncsiSetMacAddress _ _ _ _ _ => exact (execNcsiSetMacAddress_kept ..).sound
  | .ncsiEnableBroadcastFilter _ _ _ => exact (execNcsiEnableBroadcastFilter_kept ..).sound
  | .ncsiDisableBroadcastFilter _ _ => exact (execNcsiDisableBroadcastFilter_kept ..).sound
  | .ncsiEnableMulticastFilter _ _ _ => exact (execNcsiEnableMulticastFilter_kept ..).sound
  | .ncsiDisableMulticastFilter _ _ => exact (execNcsiDisableMulticastFilter_kept ..).sound
  | .ncsiSetVlanFilter _ _ _ _ _ => exact (execNcsiSetVlanFilter_kept ..).sound
  | .ncsiEnableVlan _ _ _ => exact (execNcsiEnableVlan_kept ..).sound
  | .ncsiDisableVlan _ _ => exact (execNcsiDisableVlan_kept ..).sound
  | .ncsiUnsupportedCommand _ _ _ => exact (execNcsiUnsupportedCommand_kept ..).sound
  | .ncsiPassthroughTx _ _ => exact (execNcsiPassthroughTx_kept ..).sound
  | .grottoRomStart => exact (execGrottoRomStart_kept ..).sound
  | .grottoImageVerifyDone => exact (execGrottoImageVerifyDone_kept ..).sound
  | .controlFwRelease => exact (execControlFwRelease_kept ..).sound
  | .spdmGetVersion _ _ => exact (execSpdmGetVersion_kept ..).sound
  | .spdmGetCapabilities _ _ _ => exact (execSpdmGetCapabilities_kept ..).sound
  | .spdmNegotiateAlgorithms _ _ _ _ => exact (execSpdmNegotiateAlgorithms_kept ..).sound
  | .spdmGetDigests _ _ _ => exact (execSpdmGetDigests_kept ..).sound
  | .spdmGetCertificate _ _ _ _ _ _ => exact (execSpdmGetCertificate_kept ..).sound
  | .spdmChallenge _ _ _ _ _ => exact (execSpdmChallenge_kept ..).sound
  | .spdmGetMeasurements _ _ _ _ _ _ => exact (execSpdmGetMeasurements_kept ..).sound
  | .spdmKeyExchange _ _ _ _ _ => exact (execSpdmKeyExchange_kept ..).sound
  | .spdmFinish _ _ _ _ => exact (execSpdmFinish_kept ..).sound
  | .spdmHeartbeat _ _ _ => exact (execSpdmHeartbeat_kept ..).sound
  | .spdmKeyUpdate _ _ _ _ => exact (execSpdmKeyUpdate_kept ..).sound
  | .spdmEndSession _ _ _ => exact (execSpdmEndSession_kept ..).sound
  | .spdmChunkTransfer _ _ _ _ _ => exact (execSpdmChunkTransfer_kept ..).sound
  | .spdmUnsupportedRequest _ => exact (execSpdmUnsupportedRequest_kept ..).sound
  | .spdmHeartbeatTimeout _ => exact (execSpdmHeartbeatTimeout_kept ..).sound
  | .ideKmQuery _ _ _ => exact (execIdeKmQuery_kept ..).sound
  | .ideKmKeyProg _ _ _ _ _ _ _ => exact (execIdeKmKeyProg_kept ..).sound
  | .ideKmKSetGo _ _ _ _ _ _ => exact (execIdeKmKSetGo_kept ..).sound
  | .ideKmKSetStop _ _ _ _ _ _ => exact (execIdeKmKSetStop_kept ..).sound
  | .fwActivate _ => exact (execFwActivate_kept ..).sound
  | .principalRekey _ => exact execPrincipalRekey_sound _ _
  | .debugUnlock _ => exact (execDebugUnlock_kept ..).sound
  | .secureErase _ => exact execSecureErase_sound _ _
  | .thermalSample _ => exact (execThermalSample_kept ..).sound
  | .thermalShedStep => exact (execThermalShedStep_kept ..).sound
  | .thermalReturnStep => exact (execThermalReturnStep_kept ..).sound
  | .thermalTrip => exact (execThermalTrip_kept ..).sound
  | .pwrGoodRise _ => exact execPwrGoodRise_sound _ _
  | .pwrGoodFall => exact execPwrGoodFall_sound _
  | .sysResetAssert => exact execSysResetAssert_sound _
  | .resetCtrlWrite _ => exact (execResetCtrlWrite_kept ..).sound
  | .deviceReset => exact (execDeviceReset_kept ..).sound
  | .synthLock => exact execSynthLock_sound _
  | .hifReadySet _ => exact (execHifReadySet_kept ..).sound
  | .trstAssert => exact execTrstAssert_sound _
  | .tapExtest => exact execTapExtest_sound _
  | .tapSamplePreload => exact execTapSamplePreload_sound _
  | .tapIdcode => exact execTapIdcode_sound _
  | .tapHighz => exact execTapHighz_sound _
  | .tapClamp => exact execTapClamp_sound _
  | .tapExtestPulse => exact execTapExtestPulse_sound _
  | .tapExtestTrain => exact execTapExtestTrain_sound _
  | .tapPrivate _ => exact execTapPrivate_sound _ _
  | .tapBypass => exact execTapBypass_sound _
  | .lntHelp => exact (execLntHelp_kept ..).sound
  | .lntStatus => exact (execLntStatus_kept ..).sound
  | .lntNonce => exact (execLntNonce_kept ..).sound
  | .lntLock => exact (execLntLock_kept ..).sound
  | .lntFault _ _ => exact (execLntFault_kept ..).sound
  | .lntRd _ _ => exact (execLntRd_kept ..).sound
  | .lntTime => exact (execLntTime_kept ..).sound
  | .lntPort _ => exact (execLntPort_kept ..).sound
  | .lntReset => exact execLntReset_sound _
  | .lntWr _ _ => exact (execLntWr_kept ..).sound
  | .lntHalt _ _ => exact (execLntHalt_kept ..).sound
  | .lntResume _ _ => exact (execLntResume_kept ..).sound
  | .lntStep _ _ _ _ => exact (execLntStep_kept ..).sound
  | .lntStepTimeout => exact (execLntStepTimeout_kept ..).sound
  | .lntRegs _ _ _ => exact (execLntRegs_kept ..).sound
  | .lntBkptArm _ _ => exact (execLntBkptArm_kept ..).sound
  | .lntBkptDisarm _ _ => exact (execLntBkptDisarm_kept ..).sound
  | .lntSumpAbort _ _ => exact (execLntSumpAbort_kept ..).sound
  | .lntCoreHalt _ => exact (execLntCoreHalt_kept ..).sound
  | .lntCoreResume _ => exact (execLntCoreResume_kept ..).sound
  | .lntCoreRd _ _ _ => exact (execLntCoreRd_kept ..).sound
  | .lntFlashErase _ => exact execLntFlashErase_sound _ _
  | .lntFlashWrite _ _ => exact execLntFlashWrite_sound _ _ _
  | .lntUnknownCommand => exact (execLntUnknownCommand_kept ..).sound
  | .pldmFwUpdate _ _ _ => exact execPldmFwUpdate_sound _ _ _ _
  | .railUndervoltage => exact execRailUndervoltage_sound _
  | .ethRefclkLoss => exact (execEthRefclkLoss_kept ..).sound
  | .mgmtRefclkLoss => exact (execMgmtRefclkLoss_kept ..).sound
  | .ncsiRefclkLoss => exact (execNcsiRefclkLoss_kept ..).sound
  | .ncsiRefclkReturn => exact (execNcsiRefclkReturn_kept ..).sound
  | .pcieRefclkLoss _ => exact (execPcieRefclkLoss_kept ..).sound
  | .vddio18Fall => exact execVddio18Fall_sound _
  | .smbusMctpRx _ _ => exact (execSmbusMctpRx_kept ..).sound
  | .ethRefclkReturn => exact (execEthRefclkReturn_kept ..).sound
  | .mgmtRefclkReturn => exact (execMgmtRefclkReturn_kept ..).sound
  | .pcieRefclkReturn _ => exact (execPcieRefclkReturn_kept ..).sound
  | .mgmtLinkChange _ _ => exact (execMgmtLinkChange_kept ..).sound
  | .blockLockChange _ _ => exact (execBlockLockChange_kept ..).sound
  | .synceInputRecovery _ => exact (execSynceInputRecovery_kept ..).sound
  | .frequencyDpllLock => exact (execFrequencyDpllLock_kept ..).sound
  | .ptpAnnounceReceiptTimeout _ => exact (execPtpAnnounceReceiptTimeout_kept ..).sound
  | .replayTimerExpiry _ _ => exact (execReplayTimerExpiry_kept ..).sound
  | .tcpAckRx => exact (execTcpAckRx_kept ..).sound
  | .sysResetRelease => exact execSysResetRelease_sound _
  | .testLogicReset => exact execTestLogicReset_sound _
  | .qpModify _ _ => exact (execQpModify_kept ..).sound

end Sys2Proof.Machine
end

