-- ==== Sys2Proof/Laws/Field.lean ====
section
/-! SUPPORT. Laws/Field.lean: a field of a register reads what was written to it, and a write leaves every other field. -/

namespace Sys2Proof.Machine

open Sys2Proof

/-- The three parts of a number around a field. -/
theorem splitBits (n lo w : Nat) : n = n % 2 ^ lo + bitsOf n lo w * 2 ^ lo + n / 2 ^ (lo + w) * 2 ^ (lo + w) := by
  unfold bitsOf
  have a := Nat.div_add_mod n (2 ^ lo)
  have b := Nat.div_add_mod (n / 2 ^ lo) (2 ^ w)
  rw [Nat.div_div_eq_div_mul, ← pow_add] at b
  have c : n / 2 ^ (lo + w) * 2 ^ (lo + w) = 2 ^ lo * (2 ^ w * (n / 2 ^ (lo + w))) := by rw [pow_add]; ring
  rw [c]
  generalize n / 2 ^ (lo + w) = q at *
  generalize n / 2 ^ lo % 2 ^ w = r at *
  generalize n / 2 ^ lo = p at *
  subst b
  nlinarith

/-- A number with a field replaced, by its parts. -/
theorem putBits_eq (n lo w v : Nat) : putBits n lo w v = n % 2 ^ lo + (v % 2 ^ w) * 2 ^ lo + n / 2 ^ (lo + w) * 2 ^ (lo + w) := by
  have h := splitBits n lo w
  unfold putBits
  generalize bitsOf n lo w * 2 ^ lo = x at *
  generalize v % 2 ^ w * 2 ^ lo = y at *
  generalize n / 2 ^ (lo + w) * 2 ^ (lo + w) = z at *
  generalize n % 2 ^ lo = r at *
  omega

/-- A part below, and a part above: the quotient. -/
theorem parts_div {a x y z : Nat} {b : Nat} (hx : x < 2 ^ a) : (x + y * 2 ^ a + z * 2 ^ (a + b)) / 2 ^ a = y + z * 2 ^ b := by
  rw [pow_add, show x + y * 2 ^ a + z * (2 ^ a * 2 ^ b) = x + (y + z * 2 ^ b) * 2 ^ a by ring, Nat.add_mul_div_right _ _ (by positivity),
    Nat.div_eq_of_lt hx, Nat.zero_add]

/-- A replaced field reads the new value. -/
theorem bitsOf_putBits_self (n lo w v : Nat) : bitsOf (putBits n lo w v) lo w = v % 2 ^ w := by
  rw [putBits_eq]
  unfold bitsOf
  rw [parts_div (Nat.mod_lt _ (by positivity)), Nat.add_mul_mod_self_right, Nat.mod_mod]

/-- A field that lies wholly above is left alone. -/
theorem bitsOf_putBits_above (n lo w v : Nat) {a : Nat} (b : Nat) (h : lo + w ≤ a) : bitsOf (putBits n lo w v) a b = bitsOf n a b := by
  obtain ⟨k, rfl⟩ := Nat.exists_eq_add_of_le h
  have top : putBits n lo w v / 2 ^ (lo + w) = n / 2 ^ (lo + w) := by
    rw [putBits_eq, Nat.add_mul_div_right _ _ (by positivity), Nat.div_eq_of_lt, Nat.zero_add]
    have h1 : n % 2 ^ lo < 2 ^ lo := Nat.mod_lt _ (by positivity)
    have h2 : v % 2 ^ w < 2 ^ w := Nat.mod_lt _ (by positivity)
    calc n % 2 ^ lo + v % 2 ^ w * 2 ^ lo < 2 ^ lo + v % 2 ^ w * 2 ^ lo := by omega
      _ = (v % 2 ^ w + 1) * 2 ^ lo := by ring
      _ ≤ 2 ^ w * 2 ^ lo := Nat.mul_le_mul_right _ h2
      _ = 2 ^ (lo + w) := by rw [pow_add]; ring
  unfold bitsOf
  rw [pow_add 2 (lo + w) k, ← Nat.div_div_eq_div_mul, ← Nat.div_div_eq_div_mul, top]

/-- A field that lies wholly below is left alone. -/
theorem bitsOf_putBits_below (n lo w v : Nat) {a b : Nat} (h : a + b ≤ lo) : bitsOf (putBits n lo w v) a b = bitsOf n a b := by
  have low : putBits n lo w v % 2 ^ lo = n % 2 ^ lo := by
    rw [putBits_eq, pow_add, show n % 2 ^ lo + v % 2 ^ w * 2 ^ lo + n / (2 ^ lo * 2 ^ w) * (2 ^ lo * 2 ^ w)
      = n % 2 ^ lo + (v % 2 ^ w + n / (2 ^ lo * 2 ^ w) * 2 ^ w) * 2 ^ lo by ring, Nat.add_mul_mod_self_right, Nat.mod_mod]
  have key : ∀ m : Nat, bitsOf m a b = bitsOf (m % 2 ^ lo) a b := by
    intro m
    obtain ⟨k, rfl⟩ := Nat.exists_eq_add_of_le h
    unfold bitsOf
    have e : (2 : Nat) ^ (a + b + k) = 2 ^ a * (2 ^ b * 2 ^ k) := by rw [pow_add, pow_add]; ring
    rw [e, Nat.mod_mul_right_div_self, Nat.mod_mul_right_mod]
  rw [key, low, ← key]

/-- A replaced field keeps a number within its width. -/
theorem putBits_lt {n lo w : Nat} (v : Nat) {k : Nat} (hn : n < 2 ^ k) (h : lo + w ≤ k) : putBits n lo w v < 2 ^ k := by
  obtain ⟨j, rfl⟩ := Nat.exists_eq_add_of_le h
  rw [putBits_eq]
  have h1 : n % 2 ^ lo < 2 ^ lo := Nat.mod_lt _ (by positivity)
  have h2 : v % 2 ^ w < 2 ^ w := Nat.mod_lt _ (by positivity)
  have h3 : n / 2 ^ (lo + w) < 2 ^ j := by
    rw [Nat.div_lt_iff_lt_mul (by positivity), ← pow_add, Nat.add_comm]
    exact hn
  calc n % 2 ^ lo + v % 2 ^ w * 2 ^ lo + n / 2 ^ (lo + w) * 2 ^ (lo + w)
      < (v % 2 ^ w + 1) * 2 ^ lo + n / 2 ^ (lo + w) * 2 ^ (lo + w) := by rw [Nat.add_mul]; omega
    _ ≤ 2 ^ w * 2 ^ lo + n / 2 ^ (lo + w) * 2 ^ (lo + w) := Nat.add_le_add_right (Nat.mul_le_mul_right _ h2) _
    _ = (n / 2 ^ (lo + w) + 1) * 2 ^ (lo + w) := by rw [pow_add]; ring
    _ ≤ 2 ^ j * 2 ^ (lo + w) := Nat.mul_le_mul_right _ h3
    _ = 2 ^ (lo + w + j) := by rw [← pow_add, Nat.add_comm]

/-- A register reads what was written. -/
@[simp] theorem State.reg_setReg_self (s : State) (off : Nat) (v : Word) : (s.setReg off v).reg off = v := by
  simp only [State.reg, State.setReg, Map.get_set_self]

/-- A write of a register leaves every other one. -/
theorem State.reg_setReg_ne (s : State) {off o : Nat} (v : Word) (h : o ≠ off) : (s.setReg off v).reg o = s.reg o := by
  simp only [State.reg, State.setReg, Map.get_set_ne _ _ _ _ h]

/-- What the register holds after a write of a field. -/
theorem State.reg_wr_toNat (s : State) (f : Fld) (v : Nat) (h : f.lo + f.w ≤ 64) :
    ((s.wr f v).reg f.off).toNat = putBits (s.reg f.off).toNat f.lo f.w v := by
  unfold State.wr
  rw [State.reg_setReg_self, BitVec.toNat_ofNat, Nat.mod_eq_of_lt (putBits_lt v (s.reg f.off).isLt h)]

/-- A field reads what was written, as far as its width goes. -/
theorem State.rd_wr_self (s : State) (f : Fld) (v : Nat) (h : f.lo + f.w ≤ 64) : (s.wr f v).rd f = v % 2 ^ f.w := by
  unfold State.rd
  rw [State.reg_wr_toNat s f v h, bitsOf_putBits_self]

/-- A write of a field leaves the fields of every other register. -/
theorem State.rd_wr_ne (s : State) (f : Fld) {g : Fld} (v : Nat) (h : g.off ≠ f.off) : (s.wr f v).rd g = s.rd g := by
  unfold State.rd State.wr
  rw [State.reg_setReg_ne s _ h]

/-- A write of a field leaves the other fields of its register. -/
theorem State.rd_wr_disj (s : State) {f g : Fld} (v : Nat) (h : f.lo + f.w ≤ 64) (e : g.off = f.off)
    (d : f.lo + f.w ≤ g.lo ∨ g.lo + g.w ≤ f.lo) : (s.wr f v).rd g = s.rd g := by
  unfold State.rd
  rw [e, State.reg_wr_toNat s f v h]
  rcases d with d | d
  · exact bitsOf_putBits_above _ _ _ _ _ d
  · exact bitsOf_putBits_below _ _ _ _ d

/-- A statistic counts by what is added, modulo 2^64. -/
theorem State.reg_statAdd (s : State) (off n : Nat) : (s.statAdd off n).reg off = s.reg off + BitVec.ofNat 64 n := by
  unfold State.statAdd
  rw [State.reg_setReg_self]

/-- A function reads as it was set. -/
@[simp] theorem State.func_setFunc_self (s : State) (f : Nat) (x : Func) : (s.setFunc f x).func f = x := by
  simp only [State.func, State.setFunc, Map.get_set_self]

/-- Setting a function leaves the others. -/
theorem State.func_setFunc_ne (s : State) {f g : Nat} (x : Func) (h : g ≠ f) : (s.setFunc f x).func g = s.func g := by
  simp only [State.func, State.setFunc, Map.get_set_ne _ _ _ _ h]

end Sys2Proof.Machine
end

