-- ==== Sys2Proof/Laws/State.lean ====
section
/-! SUPPORT. Laws/State.lean: which fields of the state the basic updates leave as they are, one lemma for each field and update. -/

namespace Sys2Proof.Machine

open Sys2Proof

@[simp] theorem State.setReg_pending (s : State) (off : Nat) (v : Word) : (s.setReg off v).pending = s.pending := rfl
@[simp] theorem State.setReg_out (s : State) (off : Nat) (v : Word) : (s.setReg off v).out = s.out := rfl
@[simp] theorem State.setReg_free (s : State) (off : Nat) (v : Word) : (s.setReg off v).free = s.free := rfl
@[simp] theorem State.setReg_split (s : State) (off : Nat) (v : Word) : (s.setReg off v).split = s.split := rfl
@[simp] theorem State.setReg_mem (s : State) (off : Nat) (v : Word) : (s.setReg off v).mem = s.mem := rfl
@[simp] theorem State.setReg_hbm (s : State) (off : Nat) (v : Word) : (s.setReg off v).hbm = s.hbm := rfl
@[simp] theorem State.setReg_fst (s : State) (off : Nat) (v : Word) : (s.setReg off v).fst = s.fst := rfl
@[simp] theorem State.setReg_car (s : State) (off : Nat) (v : Word) : (s.setReg off v).car = s.car := rfl
@[simp] theorem State.setReg_funcs (s : State) (off : Nat) (v : Word) : (s.setReg off v).funcs = s.funcs := rfl
@[simp] theorem State.setReg_reads (s : State) (off : Nat) (v : Word) : (s.setReg off v).reads = s.reads := rfl
@[simp] theorem State.setReg_readWait (s : State) (off : Nat) (v : Word) : (s.setReg off v).readWait = s.readWait := rfl
@[simp] theorem State.setReg_quar (s : State) (off : Nat) (v : Word) : (s.setReg off v).quar = s.quar := rfl
@[simp] theorem State.setReg_links (s : State) (off : Nat) (v : Word) : (s.setReg off v).links = s.links := rfl
@[simp] theorem State.setReg_adminOrder (s : State) (off : Nat) (v : Word) : (s.setReg off v).adminOrder = s.adminOrder := rfl
@[simp] theorem State.setReg_held (s : State) (off : Nat) (v : Word) : (s.setReg off v).held = s.held := rfl
@[simp] theorem State.setReg_blkInt (s : State) (off : Nat) (v : Word) : (s.setReg off v).blkInt = s.blkInt := rfl
@[simp] theorem State.setReg_path (s : State) (off : Nat) (v : Word) : (s.setReg off v).path = s.path := rfl
@[simp] theorem State.setReg_eng (s : State) (off : Nat) (v : Word) : (s.setReg off v).eng = s.eng := rfl
@[simp] theorem State.setReg_grt (s : State) (off : Nat) (v : Word) : (s.setReg off v).grt = s.grt := rfl
@[simp] theorem State.setReg_cry (s : State) (off : Nat) (v : Word) : (s.setReg off v).cry = s.cry := rfl
@[simp] theorem State.setReg_tm (s : State) (off : Nat) (v : Word) : (s.setReg off v).tm = s.tm := rfl
@[simp] theorem State.setReg_prt (s : State) (off : Nat) (v : Word) : (s.setReg off v).prt = s.prt := rfl
@[simp] theorem State.setReg_sto (s : State) (off : Nat) (v : Word) : (s.setReg off v).sto = s.sto := rfl
@[simp] theorem State.setReg_rope (s : State) (off : Nat) (v : Word) : (s.setReg off v).rope = s.rope := rfl
@[simp] theorem State.setReg_mbx (s : State) (off : Nat) (v : Word) : (s.setReg off v).mbx = s.mbx := rfl
@[simp] theorem State.setReg_board (s : State) (off : Nat) (v : Word) : (s.setReg off v).board = s.board := rfl

@[simp] theorem State.wr_pending (s : State) (f : Fld) (v : Nat) : (s.wr f v).pending = s.pending := rfl
@[simp] theorem State.wr_out (s : State) (f : Fld) (v : Nat) : (s.wr f v).out = s.out := rfl
@[simp] theorem State.wr_free (s : State) (f : Fld) (v : Nat) : (s.wr f v).free = s.free := rfl
@[simp] theorem State.wr_split (s : State) (f : Fld) (v : Nat) : (s.wr f v).split = s.split := rfl
@[simp] theorem State.wr_mem (s : State) (f : Fld) (v : Nat) : (s.wr f v).mem = s.mem := rfl
@[simp] theorem State.wr_hbm (s : State) (f : Fld) (v : Nat) : (s.wr f v).hbm = s.hbm := rfl
@[simp] theorem State.wr_fst (s : State) (f : Fld) (v : Nat) : (s.wr f v).fst = s.fst := rfl
@[simp] theorem State.wr_car (s : State) (f : Fld) (v : Nat) : (s.wr f v).car = s.car := rfl
@[simp] theorem State.wr_funcs (s : State) (f : Fld) (v : Nat) : (s.wr f v).funcs = s.funcs := rfl
@[simp] theorem State.wr_reads (s : State) (f : Fld) (v : Nat) : (s.wr f v).reads = s.reads := rfl
@[simp] theorem State.wr_readWait (s : State) (f : Fld) (v : Nat) : (s.wr f v).readWait = s.readWait := rfl
@[simp] theorem State.wr_quar (s : State) (f : Fld) (v : Nat) : (s.wr f v).quar = s.quar := rfl
@[simp] theorem State.wr_links (s : State) (f : Fld) (v : Nat) : (s.wr f v).links = s.links := rfl
@[simp] theorem State.wr_adminOrder (s : State) (f : Fld) (v : Nat) : (s.wr f v).adminOrder = s.adminOrder := rfl
@[simp] theorem State.wr_held (s : State) (f : Fld) (v : Nat) : (s.wr f v).held = s.held := rfl
@[simp] theorem State.wr_blkInt (s : State) (f : Fld) (v : Nat) : (s.wr f v).blkInt = s.blkInt := rfl
@[simp] theorem State.wr_path (s : State) (f : Fld) (v : Nat) : (s.wr f v).path = s.path := rfl
@[simp] theorem State.wr_eng (s : State) (f : Fld) (v : Nat) : (s.wr f v).eng = s.eng := rfl
@[simp] theorem State.wr_grt (s : State) (f : Fld) (v : Nat) : (s.wr f v).grt = s.grt := rfl
@[simp] theorem State.wr_cry (s : State) (f : Fld) (v : Nat) : (s.wr f v).cry = s.cry := rfl
@[simp] theorem State.wr_tm (s : State) (f : Fld) (v : Nat) : (s.wr f v).tm = s.tm := rfl
@[simp] theorem State.wr_prt (s : State) (f : Fld) (v : Nat) : (s.wr f v).prt = s.prt := rfl
@[simp] theorem State.wr_sto (s : State) (f : Fld) (v : Nat) : (s.wr f v).sto = s.sto := rfl
@[simp] theorem State.wr_rope (s : State) (f : Fld) (v : Nat) : (s.wr f v).rope = s.rope := rfl
@[simp] theorem State.wr_mbx (s : State) (f : Fld) (v : Nat) : (s.wr f v).mbx = s.mbx := rfl
@[simp] theorem State.wr_board (s : State) (f : Fld) (v : Nat) : (s.wr f v).board = s.board := rfl

@[simp] theorem State.wrB_pending (s : State) (f : Fld) (b : Bool) : (s.wrB f b).pending = s.pending := rfl
@[simp] theorem State.wrB_out (s : State) (f : Fld) (b : Bool) : (s.wrB f b).out = s.out := rfl
@[simp] theorem State.wrB_free (s : State) (f : Fld) (b : Bool) : (s.wrB f b).free = s.free := rfl
@[simp] theorem State.wrB_split (s : State) (f : Fld) (b : Bool) : (s.wrB f b).split = s.split := rfl
@[simp] theorem State.wrB_mem (s : State) (f : Fld) (b : Bool) : (s.wrB f b).mem = s.mem := rfl
@[simp] theorem State.wrB_hbm (s : State) (f : Fld) (b : Bool) : (s.wrB f b).hbm = s.hbm := rfl
@[simp] theorem State.wrB_fst (s : State) (f : Fld) (b : Bool) : (s.wrB f b).fst = s.fst := rfl
@[simp] theorem State.wrB_car (s : State) (f : Fld) (b : Bool) : (s.wrB f b).car = s.car := rfl
@[simp] theorem State.wrB_funcs (s : State) (f : Fld) (b : Bool) : (s.wrB f b).funcs = s.funcs := rfl
@[simp] theorem State.wrB_reads (s : State) (f : Fld) (b : Bool) : (s.wrB f b).reads = s.reads := rfl
@[simp] theorem State.wrB_readWait (s : State) (f : Fld) (b : Bool) : (s.wrB f b).readWait = s.readWait := rfl
@[simp] theorem State.wrB_quar (s : State) (f : Fld) (b : Bool) : (s.wrB f b).quar = s.quar := rfl
@[simp] theorem State.wrB_links (s : State) (f : Fld) (b : Bool) : (s.wrB f b).links = s.links := rfl
@[simp] theorem State.wrB_adminOrder (s : State) (f : Fld) (b : Bool) : (s.wrB f b).adminOrder = s.adminOrder := rfl
@[simp] theorem State.wrB_held (s : State) (f : Fld) (b : Bool) : (s.wrB f b).held = s.held := rfl
@[simp] theorem State.wrB_blkInt (s : State) (f : Fld) (b : Bool) : (s.wrB f b).blkInt = s.blkInt := rfl
@[simp] theorem State.wrB_path (s : State) (f : Fld) (b : Bool) : (s.wrB f b).path = s.path := rfl
@[simp] theorem State.wrB_eng (s : State) (f : Fld) (b : Bool) : (s.wrB f b).eng = s.eng := rfl
@[simp] theorem State.wrB_grt (s : State) (f : Fld) (b : Bool) : (s.wrB f b).grt = s.grt := rfl
@[simp] theorem State.wrB_cry (s : State) (f : Fld) (b : Bool) : (s.wrB f b).cry = s.cry := rfl
@[simp] theorem State.wrB_tm (s : State) (f : Fld) (b : Bool) : (s.wrB f b).tm = s.tm := rfl
@[simp] theorem State.wrB_prt (s : State) (f : Fld) (b : Bool) : (s.wrB f b).prt = s.prt := rfl
@[simp] theorem State.wrB_sto (s : State) (f : Fld) (b : Bool) : (s.wrB f b).sto = s.sto := rfl
@[simp] theorem State.wrB_rope (s : State) (f : Fld) (b : Bool) : (s.wrB f b).rope = s.rope := rfl
@[simp] theorem State.wrB_mbx (s : State) (f : Fld) (b : Bool) : (s.wrB f b).mbx = s.mbx := rfl
@[simp] theorem State.wrB_board (s : State) (f : Fld) (b : Bool) : (s.wrB f b).board = s.board := rfl

@[simp] theorem State.wrI_pending (s : State) (f : Fld) (i : Int) : (s.wrI f i).pending = s.pending := rfl
@[simp] theorem State.wrI_out (s : State) (f : Fld) (i : Int) : (s.wrI f i).out = s.out := rfl
@[simp] theorem State.wrI_free (s : State) (f : Fld) (i : Int) : (s.wrI f i).free = s.free := rfl
@[simp] theorem State.wrI_split (s : State) (f : Fld) (i : Int) : (s.wrI f i).split = s.split := rfl
@[simp] theorem State.wrI_mem (s : State) (f : Fld) (i : Int) : (s.wrI f i).mem = s.mem := rfl
@[simp] theorem State.wrI_hbm (s : State) (f : Fld) (i : Int) : (s.wrI f i).hbm = s.hbm := rfl
@[simp] theorem State.wrI_fst (s : State) (f : Fld) (i : Int) : (s.wrI f i).fst = s.fst := rfl
@[simp] theorem State.wrI_car (s : State) (f : Fld) (i : Int) : (s.wrI f i).car = s.car := rfl
@[simp] theorem State.wrI_funcs (s : State) (f : Fld) (i : Int) : (s.wrI f i).funcs = s.funcs := rfl
@[simp] theorem State.wrI_reads (s : State) (f : Fld) (i : Int) : (s.wrI f i).reads = s.reads := rfl
@[simp] theorem State.wrI_readWait (s : State) (f : Fld) (i : Int) : (s.wrI f i).readWait = s.readWait := rfl
@[simp] theorem State.wrI_quar (s : State) (f : Fld) (i : Int) : (s.wrI f i).quar = s.quar := rfl
@[simp] theorem State.wrI_links (s : State) (f : Fld) (i : Int) : (s.wrI f i).links = s.links := rfl
@[simp] theorem State.wrI_adminOrder (s : State) (f : Fld) (i : Int) : (s.wrI f i).adminOrder = s.adminOrder := rfl
@[simp] theorem State.wrI_held (s : State) (f : Fld) (i : Int) : (s.wrI f i).held = s.held := rfl
@[simp] theorem State.wrI_blkInt (s : State) (f : Fld) (i : Int) : (s.wrI f i).blkInt = s.blkInt := rfl
@[simp] theorem State.wrI_path (s : State) (f : Fld) (i : Int) : (s.wrI f i).path = s.path := rfl
@[simp] theorem State.wrI_eng (s : State) (f : Fld) (i : Int) : (s.wrI f i).eng = s.eng := rfl
@[simp] theorem State.wrI_grt (s : State) (f : Fld) (i : Int) : (s.wrI f i).grt = s.grt := rfl
@[simp] theorem State.wrI_cry (s : State) (f : Fld) (i : Int) : (s.wrI f i).cry = s.cry := rfl
@[simp] theorem State.wrI_tm (s : State) (f : Fld) (i : Int) : (s.wrI f i).tm = s.tm := rfl
@[simp] theorem State.wrI_prt (s : State) (f : Fld) (i : Int) : (s.wrI f i).prt = s.prt := rfl
@[simp] theorem State.wrI_sto (s : State) (f : Fld) (i : Int) : (s.wrI f i).sto = s.sto := rfl
@[simp] theorem State.wrI_rope (s : State) (f : Fld) (i : Int) : (s.wrI f i).rope = s.rope := rfl
@[simp] theorem State.wrI_mbx (s : State) (f : Fld) (i : Int) : (s.wrI f i).mbx = s.mbx := rfl
@[simp] theorem State.wrI_board (s : State) (f : Fld) (i : Int) : (s.wrI f i).board = s.board := rfl

@[simp] theorem State.stat_pending (s : State) (off : Nat) : (s.stat off).pending = s.pending := rfl
@[simp] theorem State.stat_out (s : State) (off : Nat) : (s.stat off).out = s.out := rfl
@[simp] theorem State.stat_free (s : State) (off : Nat) : (s.stat off).free = s.free := rfl
@[simp] theorem State.stat_split (s : State) (off : Nat) : (s.stat off).split = s.split := rfl
@[simp] theorem State.stat_mem (s : State) (off : Nat) : (s.stat off).mem = s.mem := rfl
@[simp] theorem State.stat_hbm (s : State) (off : Nat) : (s.stat off).hbm = s.hbm := rfl
@[simp] theorem State.stat_fst (s : State) (off : Nat) : (s.stat off).fst = s.fst := rfl
@[simp] theorem State.stat_car (s : State) (off : Nat) : (s.stat off).car = s.car := rfl
@[simp] theorem State.stat_funcs (s : State) (off : Nat) : (s.stat off).funcs = s.funcs := rfl
@[simp] theorem State.stat_reads (s : State) (off : Nat) : (s.stat off).reads = s.reads := rfl
@[simp] theorem State.stat_readWait (s : State) (off : Nat) : (s.stat off).readWait = s.readWait := rfl
@[simp] theorem State.stat_quar (s : State) (off : Nat) : (s.stat off).quar = s.quar := rfl
@[simp] theorem State.stat_links (s : State) (off : Nat) : (s.stat off).links = s.links := rfl
@[simp] theorem State.stat_adminOrder (s : State) (off : Nat) : (s.stat off).adminOrder = s.adminOrder := rfl
@[simp] theorem State.stat_held (s : State) (off : Nat) : (s.stat off).held = s.held := rfl
@[simp] theorem State.stat_blkInt (s : State) (off : Nat) : (s.stat off).blkInt = s.blkInt := rfl
@[simp] theorem State.stat_path (s : State) (off : Nat) : (s.stat off).path = s.path := rfl
@[simp] theorem State.stat_eng (s : State) (off : Nat) : (s.stat off).eng = s.eng := rfl
@[simp] theorem State.stat_grt (s : State) (off : Nat) : (s.stat off).grt = s.grt := rfl
@[simp] theorem State.stat_cry (s : State) (off : Nat) : (s.stat off).cry = s.cry := rfl
@[simp] theorem State.stat_tm (s : State) (off : Nat) : (s.stat off).tm = s.tm := rfl
@[simp] theorem State.stat_prt (s : State) (off : Nat) : (s.stat off).prt = s.prt := rfl
@[simp] theorem State.stat_sto (s : State) (off : Nat) : (s.stat off).sto = s.sto := rfl
@[simp] theorem State.stat_rope (s : State) (off : Nat) : (s.stat off).rope = s.rope := rfl
@[simp] theorem State.stat_mbx (s : State) (off : Nat) : (s.stat off).mbx = s.mbx := rfl
@[simp] theorem State.stat_board (s : State) (off : Nat) : (s.stat off).board = s.board := rfl

@[simp] theorem State.emit_pending (s : State) (e : Emit) : (s.emit e).pending = s.pending := rfl
@[simp] theorem State.emit_free (s : State) (e : Emit) : (s.emit e).free = s.free := rfl
@[simp] theorem State.emit_regs (s : State) (e : Emit) : (s.emit e).regs = s.regs := rfl
@[simp] theorem State.emit_split (s : State) (e : Emit) : (s.emit e).split = s.split := rfl
@[simp] theorem State.emit_mem (s : State) (e : Emit) : (s.emit e).mem = s.mem := rfl
@[simp] theorem State.emit_hbm (s : State) (e : Emit) : (s.emit e).hbm = s.hbm := rfl
@[simp] theorem State.emit_fst (s : State) (e : Emit) : (s.emit e).fst = s.fst := rfl
@[simp] theorem State.emit_car (s : State) (e : Emit) : (s.emit e).car = s.car := rfl
@[simp] theorem State.emit_funcs (s : State) (e : Emit) : (s.emit e).funcs = s.funcs := rfl
@[simp] theorem State.emit_reads (s : State) (e : Emit) : (s.emit e).reads = s.reads := rfl
@[simp] theorem State.emit_readWait (s : State) (e : Emit) : (s.emit e).readWait = s.readWait := rfl
@[simp] theorem State.emit_quar (s : State) (e : Emit) : (s.emit e).quar = s.quar := rfl
@[simp] theorem State.emit_links (s : State) (e : Emit) : (s.emit e).links = s.links := rfl
@[simp] theorem State.emit_adminOrder (s : State) (e : Emit) : (s.emit e).adminOrder = s.adminOrder := rfl
@[simp] theorem State.emit_held (s : State) (e : Emit) : (s.emit e).held = s.held := rfl
@[simp] theorem State.emit_blkInt (s : State) (e : Emit) : (s.emit e).blkInt = s.blkInt := rfl
@[simp] theorem State.emit_path (s : State) (e : Emit) : (s.emit e).path = s.path := rfl
@[simp] theorem State.emit_eng (s : State) (e : Emit) : (s.emit e).eng = s.eng := rfl
@[simp] theorem State.emit_grt (s : State) (e : Emit) : (s.emit e).grt = s.grt := rfl
@[simp] theorem State.emit_cry (s : State) (e : Emit) : (s.emit e).cry = s.cry := rfl
@[simp] theorem State.emit_tm (s : State) (e : Emit) : (s.emit e).tm = s.tm := rfl
@[simp] theorem State.emit_prt (s : State) (e : Emit) : (s.emit e).prt = s.prt := rfl
@[simp] theorem State.emit_sto (s : State) (e : Emit) : (s.emit e).sto = s.sto := rfl
@[simp] theorem State.emit_rope (s : State) (e : Emit) : (s.emit e).rope = s.rope := rfl
@[simp] theorem State.emit_mbx (s : State) (e : Emit) : (s.emit e).mbx = s.mbx := rfl
@[simp] theorem State.emit_board (s : State) (e : Emit) : (s.emit e).board = s.board := rfl

@[simp] theorem State.setFunc_pending (s : State) (f : Nat) (x : Func) : (s.setFunc f x).pending = s.pending := rfl
@[simp] theorem State.setFunc_out (s : State) (f : Nat) (x : Func) : (s.setFunc f x).out = s.out := rfl
@[simp] theorem State.setFunc_free (s : State) (f : Nat) (x : Func) : (s.setFunc f x).free = s.free := rfl
@[simp] theorem State.setFunc_regs (s : State) (f : Nat) (x : Func) : (s.setFunc f x).regs = s.regs := rfl
@[simp] theorem State.setFunc_split (s : State) (f : Nat) (x : Func) : (s.setFunc f x).split = s.split := rfl
@[simp] theorem State.setFunc_mem (s : State) (f : Nat) (x : Func) : (s.setFunc f x).mem = s.mem := rfl
@[simp] theorem State.setFunc_hbm (s : State) (f : Nat) (x : Func) : (s.setFunc f x).hbm = s.hbm := rfl
@[simp] theorem State.setFunc_fst (s : State) (f : Nat) (x : Func) : (s.setFunc f x).fst = s.fst := rfl
@[simp] theorem State.setFunc_car (s : State) (f : Nat) (x : Func) : (s.setFunc f x).car = s.car := rfl
@[simp] theorem State.setFunc_reads (s : State) (f : Nat) (x : Func) : (s.setFunc f x).reads = s.reads := rfl
@[simp] theorem State.setFunc_readWait (s : State) (f : Nat) (x : Func) : (s.setFunc f x).readWait = s.readWait := rfl
@[simp] theorem State.setFunc_quar (s : State) (f : Nat) (x : Func) : (s.setFunc f x).quar = s.quar := rfl
@[simp] theorem State.setFunc_links (s : State) (f : Nat) (x : Func) : (s.setFunc f x).links = s.links := rfl
@[simp] theorem State.setFunc_adminOrder (s : State) (f : Nat) (x : Func) : (s.setFunc f x).adminOrder = s.adminOrder := rfl
@[simp] theorem State.setFunc_held (s : State) (f : Nat) (x : Func) : (s.setFunc f x).held = s.held := rfl
@[simp] theorem State.setFunc_blkInt (s : State) (f : Nat) (x : Func) : (s.setFunc f x).blkInt = s.blkInt := rfl
@[simp] theorem State.setFunc_path (s : State) (f : Nat) (x : Func) : (s.setFunc f x).path = s.path := rfl
@[simp] theorem State.setFunc_eng (s : State) (f : Nat) (x : Func) : (s.setFunc f x).eng = s.eng := rfl
@[simp] theorem State.setFunc_grt (s : State) (f : Nat) (x : Func) : (s.setFunc f x).grt = s.grt := rfl
@[simp] theorem State.setFunc_cry (s : State) (f : Nat) (x : Func) : (s.setFunc f x).cry = s.cry := rfl
@[simp] theorem State.setFunc_tm (s : State) (f : Nat) (x : Func) : (s.setFunc f x).tm = s.tm := rfl
@[simp] theorem State.setFunc_prt (s : State) (f : Nat) (x : Func) : (s.setFunc f x).prt = s.prt := rfl
@[simp] theorem State.setFunc_sto (s : State) (f : Nat) (x : Func) : (s.setFunc f x).sto = s.sto := rfl
@[simp] theorem State.setFunc_rope (s : State) (f : Nat) (x : Func) : (s.setFunc f x).rope = s.rope := rfl
@[simp] theorem State.setFunc_mbx (s : State) (f : Nat) (x : Func) : (s.setFunc f x).mbx = s.mbx := rfl
@[simp] theorem State.setFunc_board (s : State) (f : Nat) (x : Func) : (s.setFunc f x).board = s.board := rfl

@[simp] theorem State.updFunc_pending (s : State) (f : Nat) (g : Func → Func) : (s.updFunc f g).pending = s.pending := rfl
@[simp] theorem State.updFunc_out (s : State) (f : Nat) (g : Func → Func) : (s.updFunc f g).out = s.out := rfl
@[simp] theorem State.updFunc_free (s : State) (f : Nat) (g : Func → Func) : (s.updFunc f g).free = s.free := rfl
@[simp] theorem State.updFunc_regs (s : State) (f : Nat) (g : Func → Func) : (s.updFunc f g).regs = s.regs := rfl
@[simp] theorem State.updFunc_split (s : State) (f : Nat) (g : Func → Func) : (s.updFunc f g).split = s.split := rfl
@[simp] theorem State.updFunc_mem (s : State) (f : Nat) (g : Func → Func) : (s.updFunc f g).mem = s.mem := rfl
@[simp] theorem State.updFunc_hbm (s : State) (f : Nat) (g : Func → Func) : (s.updFunc f g).hbm = s.hbm := rfl
@[simp] theorem State.updFunc_fst (s : State) (f : Nat) (g : Func → Func) : (s.updFunc f g).fst = s.fst := rfl
@[simp] theorem State.updFunc_car (s : State) (f : Nat) (g : Func → Func) : (s.updFunc f g).car = s.car := rfl
@[simp] theorem State.updFunc_reads (s : State) (f : Nat) (g : Func → Func) : (s.updFunc f g).reads = s.reads := rfl
@[simp] theorem State.updFunc_readWait (s : State) (f : Nat) (g : Func → Func) : (s.updFunc f g).readWait = s.readWait := rfl
@[simp] theorem State.updFunc_quar (s : State) (f : Nat) (g : Func → Func) : (s.updFunc f g).quar = s.quar := rfl
@[simp] theorem State.updFunc_links (s : State) (f : Nat) (g : Func → Func) : (s.updFunc f g).links = s.links := rfl
@[simp] theorem State.updFunc_adminOrder (s : State) (f : Nat) (g : Func → Func) : (s.updFunc f g).adminOrder = s.adminOrder := rfl
@[simp] theorem State.updFunc_held (s : State) (f : Nat) (g : Func → Func) : (s.updFunc f g).held = s.held := rfl
@[simp] theorem State.updFunc_blkInt (s : State) (f : Nat) (g : Func → Func) : (s.updFunc f g).blkInt = s.blkInt := rfl
@[simp] theorem State.updFunc_path (s : State) (f : Nat) (g : Func → Func) : (s.updFunc f g).path = s.path := rfl
@[simp] theorem State.updFunc_eng (s : State) (f : Nat) (g : Func → Func) : (s.updFunc f g).eng = s.eng := rfl
@[simp] theorem State.updFunc_grt (s : State) (f : Nat) (g : Func → Func) : (s.updFunc f g).grt = s.grt := rfl
@[simp] theorem State.updFunc_cry (s : State) (f : Nat) (g : Func → Func) : (s.updFunc f g).cry = s.cry := rfl
@[simp] theorem State.updFunc_tm (s : State) (f : Nat) (g : Func → Func) : (s.updFunc f g).tm = s.tm := rfl
@[simp] theorem State.updFunc_prt (s : State) (f : Nat) (g : Func → Func) : (s.updFunc f g).prt = s.prt := rfl
@[simp] theorem State.updFunc_sto (s : State) (f : Nat) (g : Func → Func) : (s.updFunc f g).sto = s.sto := rfl
@[simp] theorem State.updFunc_rope (s : State) (f : Nat) (g : Func → Func) : (s.updFunc f g).rope = s.rope := rfl
@[simp] theorem State.updFunc_mbx (s : State) (f : Nat) (g : Func → Func) : (s.updFunc f g).mbx = s.mbx := rfl
@[simp] theorem State.updFunc_board (s : State) (f : Nat) (g : Func → Func) : (s.updFunc f g).board = s.board := rfl

@[simp] theorem State.setGal_pending (s : State) (g : Nat) (x : Gallery) : (s.setGal g x).pending = s.pending := rfl
@[simp] theorem State.setGal_out (s : State) (g : Nat) (x : Gallery) : (s.setGal g x).out = s.out := rfl
@[simp] theorem State.setGal_free (s : State) (g : Nat) (x : Gallery) : (s.setGal g x).free = s.free := rfl
@[simp] theorem State.setGal_regs (s : State) (g : Nat) (x : Gallery) : (s.setGal g x).regs = s.regs := rfl
@[simp] theorem State.setGal_split (s : State) (g : Nat) (x : Gallery) : (s.setGal g x).split = s.split := rfl
@[simp] theorem State.setGal_mem (s : State) (g : Nat) (x : Gallery) : (s.setGal g x).mem = s.mem := rfl
@[simp] theorem State.setGal_hbm (s : State) (g : Nat) (x : Gallery) : (s.setGal g x).hbm = s.hbm := rfl
@[simp] theorem State.setGal_fst (s : State) (g : Nat) (x : Gallery) : (s.setGal g x).fst = s.fst := rfl
@[simp] theorem State.setGal_car (s : State) (g : Nat) (x : Gallery) : (s.setGal g x).car = s.car := rfl
@[simp] theorem State.setGal_funcs (s : State) (g : Nat) (x : Gallery) : (s.setGal g x).funcs = s.funcs := rfl
@[simp] theorem State.setGal_reads (s : State) (g : Nat) (x : Gallery) : (s.setGal g x).reads = s.reads := rfl
@[simp] theorem State.setGal_readWait (s : State) (g : Nat) (x : Gallery) : (s.setGal g x).readWait = s.readWait := rfl
@[simp] theorem State.setGal_quar (s : State) (g : Nat) (x : Gallery) : (s.setGal g x).quar = s.quar := rfl
@[simp] theorem State.setGal_links (s : State) (g : Nat) (x : Gallery) : (s.setGal g x).links = s.links := rfl
@[simp] theorem State.setGal_adminOrder (s : State) (g : Nat) (x : Gallery) : (s.setGal g x).adminOrder = s.adminOrder := rfl
@[simp] theorem State.setGal_held (s : State) (g : Nat) (x : Gallery) : (s.setGal g x).held = s.held := rfl
@[simp] theorem State.setGal_blkInt (s : State) (g : Nat) (x : Gallery) : (s.setGal g x).blkInt = s.blkInt := rfl
@[simp] theorem State.setGal_path (s : State) (g : Nat) (x : Gallery) : (s.setGal g x).path = s.path := rfl
@[simp] theorem State.setGal_grt (s : State) (g : Nat) (x : Gallery) : (s.setGal g x).grt = s.grt := rfl
@[simp] theorem State.setGal_cry (s : State) (g : Nat) (x : Gallery) : (s.setGal g x).cry = s.cry := rfl
@[simp] theorem State.setGal_tm (s : State) (g : Nat) (x : Gallery) : (s.setGal g x).tm = s.tm := rfl
@[simp] theorem State.setGal_prt (s : State) (g : Nat) (x : Gallery) : (s.setGal g x).prt = s.prt := rfl
@[simp] theorem State.setGal_sto (s : State) (g : Nat) (x : Gallery) : (s.setGal g x).sto = s.sto := rfl
@[simp] theorem State.setGal_rope (s : State) (g : Nat) (x : Gallery) : (s.setGal g x).rope = s.rope := rfl
@[simp] theorem State.setGal_mbx (s : State) (g : Nat) (x : Gallery) : (s.setGal g x).mbx = s.mbx := rfl
@[simp] theorem State.setGal_board (s : State) (g : Nat) (x : Gallery) : (s.setGal g x).board = s.board := rfl

@[simp] theorem State.setThr_pending (s : State) (g e t : Nat) (x : Thread) : (s.setThr g e t x).pending = s.pending := rfl
@[simp] theorem State.setThr_out (s : State) (g e t : Nat) (x : Thread) : (s.setThr g e t x).out = s.out := rfl
@[simp] theorem State.setThr_free (s : State) (g e t : Nat) (x : Thread) : (s.setThr g e t x).free = s.free := rfl
@[simp] theorem State.setThr_regs (s : State) (g e t : Nat) (x : Thread) : (s.setThr g e t x).regs = s.regs := rfl
@[simp] theorem State.setThr_split (s : State) (g e t : Nat) (x : Thread) : (s.setThr g e t x).split = s.split := rfl
@[simp] theorem State.setThr_mem (s : State) (g e t : Nat) (x : Thread) : (s.setThr g e t x).mem = s.mem := rfl
@[simp] theorem State.setThr_hbm (s : State) (g e t : Nat) (x : Thread) : (s.setThr g e t x).hbm = s.hbm := rfl
@[simp] theorem State.setThr_fst (s : State) (g e t : Nat) (x : Thread) : (s.setThr g e t x).fst = s.fst := rfl
@[simp] theorem State.setThr_car (s : State) (g e t : Nat) (x : Thread) : (s.setThr g e t x).car = s.car := rfl
@[simp] theorem State.setThr_funcs (s : State) (g e t : Nat) (x : Thread) : (s.setThr g e t x).funcs = s.funcs := rfl
@[simp] theorem State.setThr_reads (s : State) (g e t : Nat) (x : Thread) : (s.setThr g e t x).reads = s.reads := rfl
@[simp] theorem State.setThr_readWait (s : State) (g e t : Nat) (x : Thread) : (s.setThr g e t x).readWait = s.readWait := rfl
@[simp] theorem State.setThr_quar (s : State) (g e t : Nat) (x : Thread) : (s.setThr g e t x).quar = s.quar := rfl
@[simp] theorem State.setThr_links (s : State) (g e t : Nat) (x : Thread) : (s.setThr g e t x).links = s.links := rfl
@[simp] theorem State.setThr_adminOrder (s : State) (g e t : Nat) (x : Thread) : (s.setThr g e t x).adminOrder = s.adminOrder := rfl
@[simp] theorem State.setThr_held (s : State) (g e t : Nat) (x : Thread) : (s.setThr g e t x).held = s.held := rfl
@[simp] theorem State.setThr_blkInt (s : State) (g e t : Nat) (x : Thread) : (s.setThr g e t x).blkInt = s.blkInt := rfl
@[simp] theorem State.setThr_path (s : State) (g e t : Nat) (x : Thread) : (s.setThr g e t x).path = s.path := rfl
@[simp] theorem State.setThr_grt (s : State) (g e t : Nat) (x : Thread) : (s.setThr g e t x).grt = s.grt := rfl
@[simp] theorem State.setThr_cry (s : State) (g e t : Nat) (x : Thread) : (s.setThr g e t x).cry = s.cry := rfl
@[simp] theorem State.setThr_tm (s : State) (g e t : Nat) (x : Thread) : (s.setThr g e t x).tm = s.tm := rfl
@[simp] theorem State.setThr_prt (s : State) (g e t : Nat) (x : Thread) : (s.setThr g e t x).prt = s.prt := rfl
@[simp] theorem State.setThr_sto (s : State) (g e t : Nat) (x : Thread) : (s.setThr g e t x).sto = s.sto := rfl
@[simp] theorem State.setThr_rope (s : State) (g e t : Nat) (x : Thread) : (s.setThr g e t x).rope = s.rope := rfl
@[simp] theorem State.setThr_mbx (s : State) (g e t : Nat) (x : Thread) : (s.setThr g e t x).mbx = s.mbx := rfl
@[simp] theorem State.setThr_board (s : State) (g e t : Nat) (x : Thread) : (s.setThr g e t x).board = s.board := rfl

@[simp] theorem State.setEngn_pending (s : State) (g e : Nat) (x : Engine) : (s.setEngn g e x).pending = s.pending := rfl
@[simp] theorem State.setEngn_out (s : State) (g e : Nat) (x : Engine) : (s.setEngn g e x).out = s.out := rfl
@[simp] theorem State.setEngn_free (s : State) (g e : Nat) (x : Engine) : (s.setEngn g e x).free = s.free := rfl
@[simp] theorem State.setEngn_regs (s : State) (g e : Nat) (x : Engine) : (s.setEngn g e x).regs = s.regs := rfl
@[simp] theorem State.setEngn_split (s : State) (g e : Nat) (x : Engine) : (s.setEngn g e x).split = s.split := rfl
@[simp] theorem State.setEngn_mem (s : State) (g e : Nat) (x : Engine) : (s.setEngn g e x).mem = s.mem := rfl
@[simp] theorem State.setEngn_hbm (s : State) (g e : Nat) (x : Engine) : (s.setEngn g e x).hbm = s.hbm := rfl
@[simp] theorem State.setEngn_fst (s : State) (g e : Nat) (x : Engine) : (s.setEngn g e x).fst = s.fst := rfl
@[simp] theorem State.setEngn_car (s : State) (g e : Nat) (x : Engine) : (s.setEngn g e x).car = s.car := rfl
@[simp] theorem State.setEngn_funcs (s : State) (g e : Nat) (x : Engine) : (s.setEngn g e x).funcs = s.funcs := rfl
@[simp] theorem State.setEngn_reads (s : State) (g e : Nat) (x : Engine) : (s.setEngn g e x).reads = s.reads := rfl
@[simp] theorem State.setEngn_readWait (s : State) (g e : Nat) (x : Engine) : (s.setEngn g e x).readWait = s.readWait := rfl
@[simp] theorem State.setEngn_quar (s : State) (g e : Nat) (x : Engine) : (s.setEngn g e x).quar = s.quar := rfl
@[simp] theorem State.setEngn_links (s : State) (g e : Nat) (x : Engine) : (s.setEngn g e x).links = s.links := rfl
@[simp] theorem State.setEngn_adminOrder (s : State) (g e : Nat) (x : Engine) : (s.setEngn g e x).adminOrder = s.adminOrder := rfl
@[simp] theorem State.setEngn_held (s : State) (g e : Nat) (x : Engine) : (s.setEngn g e x).held = s.held := rfl
@[simp] theorem State.setEngn_blkInt (s : State) (g e : Nat) (x : Engine) : (s.setEngn g e x).blkInt = s.blkInt := rfl
@[simp] theorem State.setEngn_path (s : State) (g e : Nat) (x : Engine) : (s.setEngn g e x).path = s.path := rfl
@[simp] theorem State.setEngn_grt (s : State) (g e : Nat) (x : Engine) : (s.setEngn g e x).grt = s.grt := rfl
@[simp] theorem State.setEngn_cry (s : State) (g e : Nat) (x : Engine) : (s.setEngn g e x).cry = s.cry := rfl
@[simp] theorem State.setEngn_tm (s : State) (g e : Nat) (x : Engine) : (s.setEngn g e x).tm = s.tm := rfl
@[simp] theorem State.setEngn_prt (s : State) (g e : Nat) (x : Engine) : (s.setEngn g e x).prt = s.prt := rfl
@[simp] theorem State.setEngn_sto (s : State) (g e : Nat) (x : Engine) : (s.setEngn g e x).sto = s.sto := rfl
@[simp] theorem State.setEngn_rope (s : State) (g e : Nat) (x : Engine) : (s.setEngn g e x).rope = s.rope := rfl
@[simp] theorem State.setEngn_mbx (s : State) (g e : Nat) (x : Engine) : (s.setEngn g e x).mbx = s.mbx := rfl
@[simp] theorem State.setEngn_board (s : State) (g e : Nat) (x : Engine) : (s.setEngn g e x).board = s.board := rfl

@[simp] theorem State.setConn_pending (s : State) (c : Nat) (x : Conn) : (s.setConn c x).pending = s.pending := rfl
@[simp] theorem State.setConn_out (s : State) (c : Nat) (x : Conn) : (s.setConn c x).out = s.out := rfl
@[simp] theorem State.setConn_free (s : State) (c : Nat) (x : Conn) : (s.setConn c x).free = s.free := rfl
@[simp] theorem State.setConn_regs (s : State) (c : Nat) (x : Conn) : (s.setConn c x).regs = s.regs := rfl
@[simp] theorem State.setConn_split (s : State) (c : Nat) (x : Conn) : (s.setConn c x).split = s.split := rfl
@[simp] theorem State.setConn_mem (s : State) (c : Nat) (x : Conn) : (s.setConn c x).mem = s.mem := rfl
@[simp] theorem State.setConn_hbm (s : State) (c : Nat) (x : Conn) : (s.setConn c x).hbm = s.hbm := rfl
@[simp] theorem State.setConn_fst (s : State) (c : Nat) (x : Conn) : (s.setConn c x).fst = s.fst := rfl
@[simp] theorem State.setConn_car (s : State) (c : Nat) (x : Conn) : (s.setConn c x).car = s.car := rfl
@[simp] theorem State.setConn_funcs (s : State) (c : Nat) (x : Conn) : (s.setConn c x).funcs = s.funcs := rfl
@[simp] theorem State.setConn_reads (s : State) (c : Nat) (x : Conn) : (s.setConn c x).reads = s.reads := rfl
@[simp] theorem State.setConn_readWait (s : State) (c : Nat) (x : Conn) : (s.setConn c x).readWait = s.readWait := rfl
@[simp] theorem State.setConn_quar (s : State) (c : Nat) (x : Conn) : (s.setConn c x).quar = s.quar := rfl
@[simp] theorem State.setConn_links (s : State) (c : Nat) (x : Conn) : (s.setConn c x).links = s.links := rfl
@[simp] theorem State.setConn_adminOrder (s : State) (c : Nat) (x : Conn) : (s.setConn c x).adminOrder = s.adminOrder := rfl
@[simp] theorem State.setConn_held (s : State) (c : Nat) (x : Conn) : (s.setConn c x).held = s.held := rfl
@[simp] theorem State.setConn_blkInt (s : State) (c : Nat) (x : Conn) : (s.setConn c x).blkInt = s.blkInt := rfl
@[simp] theorem State.setConn_path (s : State) (c : Nat) (x : Conn) : (s.setConn c x).path = s.path := rfl
@[simp] theorem State.setConn_eng (s : State) (c : Nat) (x : Conn) : (s.setConn c x).eng = s.eng := rfl
@[simp] theorem State.setConn_grt (s : State) (c : Nat) (x : Conn) : (s.setConn c x).grt = s.grt := rfl
@[simp] theorem State.setConn_cry (s : State) (c : Nat) (x : Conn) : (s.setConn c x).cry = s.cry := rfl
@[simp] theorem State.setConn_tm (s : State) (c : Nat) (x : Conn) : (s.setConn c x).tm = s.tm := rfl
@[simp] theorem State.setConn_prt (s : State) (c : Nat) (x : Conn) : (s.setConn c x).prt = s.prt := rfl
@[simp] theorem State.setConn_rope (s : State) (c : Nat) (x : Conn) : (s.setConn c x).rope = s.rope := rfl
@[simp] theorem State.setConn_mbx (s : State) (c : Nat) (x : Conn) : (s.setConn c x).mbx = s.mbx := rfl
@[simp] theorem State.setConn_board (s : State) (c : Nat) (x : Conn) : (s.setConn c x).board = s.board := rfl

@[simp] theorem State.setQp_pending (s : State) (q : Nat) (x : Qp) : (s.setQp q x).pending = s.pending := rfl
@[simp] theorem State.setQp_out (s : State) (q : Nat) (x : Qp) : (s.setQp q x).out = s.out := rfl
@[simp] theorem State.setQp_free (s : State) (q : Nat) (x : Qp) : (s.setQp q x).free = s.free := rfl
@[simp] theorem State.setQp_regs (s : State) (q : Nat) (x : Qp) : (s.setQp q x).regs = s.regs := rfl
@[simp] theorem State.setQp_split (s : State) (q : Nat) (x : Qp) : (s.setQp q x).split = s.split := rfl
@[simp] theorem State.setQp_mem (s : State) (q : Nat) (x : Qp) : (s.setQp q x).mem = s.mem := rfl
@[simp] theorem State.setQp_hbm (s : State) (q : Nat) (x : Qp) : (s.setQp q x).hbm = s.hbm := rfl
@[simp] theorem State.setQp_fst (s : State) (q : Nat) (x : Qp) : (s.setQp q x).fst = s.fst := rfl
@[simp] theorem State.setQp_car (s : State) (q : Nat) (x : Qp) : (s.setQp q x).car = s.car := rfl
@[simp] theorem State.setQp_funcs (s : State) (q : Nat) (x : Qp) : (s.setQp q x).funcs = s.funcs := rfl
@[simp] theorem State.setQp_reads (s : State) (q : Nat) (x : Qp) : (s.setQp q x).reads = s.reads := rfl
@[simp] theorem State.setQp_readWait (s : State) (q : Nat) (x : Qp) : (s.setQp q x).readWait = s.readWait := rfl
@[simp] theorem State.setQp_quar (s : State) (q : Nat) (x : Qp) : (s.setQp q x).quar = s.quar := rfl
@[simp] theorem State.setQp_links (s : State) (q : Nat) (x : Qp) : (s.setQp q x).links = s.links := rfl
@[simp] theorem State.setQp_adminOrder (s : State) (q : Nat) (x : Qp) : (s.setQp q x).adminOrder = s.adminOrder := rfl
@[simp] theorem State.setQp_held (s : State) (q : Nat) (x : Qp) : (s.setQp q x).held = s.held := rfl
@[simp] theorem State.setQp_blkInt (s : State) (q : Nat) (x : Qp) : (s.setQp q x).blkInt = s.blkInt := rfl
@[simp] theorem State.setQp_path (s : State) (q : Nat) (x : Qp) : (s.setQp q x).path = s.path := rfl
@[simp] theorem State.setQp_eng (s : State) (q : Nat) (x : Qp) : (s.setQp q x).eng = s.eng := rfl
@[simp] theorem State.setQp_grt (s : State) (q : Nat) (x : Qp) : (s.setQp q x).grt = s.grt := rfl
@[simp] theorem State.setQp_cry (s : State) (q : Nat) (x : Qp) : (s.setQp q x).cry = s.cry := rfl
@[simp] theorem State.setQp_tm (s : State) (q : Nat) (x : Qp) : (s.setQp q x).tm = s.tm := rfl
@[simp] theorem State.setQp_prt (s : State) (q : Nat) (x : Qp) : (s.setQp q x).prt = s.prt := rfl
@[simp] theorem State.setQp_rope (s : State) (q : Nat) (x : Qp) : (s.setQp q x).rope = s.rope := rfl
@[simp] theorem State.setQp_mbx (s : State) (q : Nat) (x : Qp) : (s.setQp q x).mbx = s.mbx := rfl
@[simp] theorem State.setQp_board (s : State) (q : Nat) (x : Qp) : (s.setQp q x).board = s.board := rfl

@[simp] theorem State.updLink_pending (s : State) (a : Nat) (g : Link → Link) : (s.updLink a g).pending = s.pending := rfl
@[simp] theorem State.updLink_out (s : State) (a : Nat) (g : Link → Link) : (s.updLink a g).out = s.out := rfl
@[simp] theorem State.updLink_free (s : State) (a : Nat) (g : Link → Link) : (s.updLink a g).free = s.free := rfl
@[simp] theorem State.updLink_regs (s : State) (a : Nat) (g : Link → Link) : (s.updLink a g).regs = s.regs := rfl
@[simp] theorem State.updLink_split (s : State) (a : Nat) (g : Link → Link) : (s.updLink a g).split = s.split := rfl
@[simp] theorem State.updLink_mem (s : State) (a : Nat) (g : Link → Link) : (s.updLink a g).mem = s.mem := rfl
@[simp] theorem State.updLink_hbm (s : State) (a : Nat) (g : Link → Link) : (s.updLink a g).hbm = s.hbm := rfl
@[simp] theorem State.updLink_fst (s : State) (a : Nat) (g : Link → Link) : (s.updLink a g).fst = s.fst := rfl
@[simp] theorem State.updLink_car (s : State) (a : Nat) (g : Link → Link) : (s.updLink a g).car = s.car := rfl
@[simp] theorem State.updLink_funcs (s : State) (a : Nat) (g : Link → Link) : (s.updLink a g).funcs = s.funcs := rfl
@[simp] theorem State.updLink_reads (s : State) (a : Nat) (g : Link → Link) : (s.updLink a g).reads = s.reads := rfl
@[simp] theorem State.updLink_readWait (s : State) (a : Nat) (g : Link → Link) : (s.updLink a g).readWait = s.readWait := rfl
@[simp] theorem State.updLink_quar (s : State) (a : Nat) (g : Link → Link) : (s.updLink a g).quar = s.quar := rfl
@[simp] theorem State.updLink_adminOrder (s : State) (a : Nat) (g : Link → Link) : (s.updLink a g).adminOrder = s.adminOrder := rfl
@[simp] theorem State.updLink_held (s : State) (a : Nat) (g : Link → Link) : (s.updLink a g).held = s.held := rfl
@[simp] theorem State.updLink_blkInt (s : State) (a : Nat) (g : Link → Link) : (s.updLink a g).blkInt = s.blkInt := rfl
@[simp] theorem State.updLink_path (s : State) (a : Nat) (g : Link → Link) : (s.updLink a g).path = s.path := rfl
@[simp] theorem State.updLink_eng (s : State) (a : Nat) (g : Link → Link) : (s.updLink a g).eng = s.eng := rfl
@[simp] theorem State.updLink_grt (s : State) (a : Nat) (g : Link → Link) : (s.updLink a g).grt = s.grt := rfl
@[simp] theorem State.updLink_cry (s : State) (a : Nat) (g : Link → Link) : (s.updLink a g).cry = s.cry := rfl
@[simp] theorem State.updLink_tm (s : State) (a : Nat) (g : Link → Link) : (s.updLink a g).tm = s.tm := rfl
@[simp] theorem State.updLink_prt (s : State) (a : Nat) (g : Link → Link) : (s.updLink a g).prt = s.prt := rfl
@[simp] theorem State.updLink_sto (s : State) (a : Nat) (g : Link → Link) : (s.updLink a g).sto = s.sto := rfl
@[simp] theorem State.updLink_rope (s : State) (a : Nat) (g : Link → Link) : (s.updLink a g).rope = s.rope := rfl
@[simp] theorem State.updLink_mbx (s : State) (a : Nat) (g : Link → Link) : (s.updLink a g).mbx = s.mbx := rfl
@[simp] theorem State.updLink_board (s : State) (a : Nat) (g : Link → Link) : (s.updLink a g).board = s.board := rfl

@[simp] theorem State.setCtx_pending (s : State) (n v : Nat) : (s.setCtx n v).pending = s.pending := rfl
@[simp] theorem State.setCtx_out (s : State) (n v : Nat) : (s.setCtx n v).out = s.out := rfl
@[simp] theorem State.setCtx_free (s : State) (n v : Nat) : (s.setCtx n v).free = s.free := rfl
@[simp] theorem State.setCtx_regs (s : State) (n v : Nat) : (s.setCtx n v).regs = s.regs := rfl
@[simp] theorem State.setCtx_split (s : State) (n v : Nat) : (s.setCtx n v).split = s.split := rfl
@[simp] theorem State.setCtx_mem (s : State) (n v : Nat) : (s.setCtx n v).mem = s.mem := rfl
@[simp] theorem State.setCtx_hbm (s : State) (n v : Nat) : (s.setCtx n v).hbm = s.hbm := rfl
@[simp] theorem State.setCtx_fst (s : State) (n v : Nat) : (s.setCtx n v).fst = s.fst := rfl
@[simp] theorem State.setCtx_car (s : State) (n v : Nat) : (s.setCtx n v).car = s.car := rfl
@[simp] theorem State.setCtx_funcs (s : State) (n v : Nat) : (s.setCtx n v).funcs = s.funcs := rfl
@[simp] theorem State.setCtx_reads (s : State) (n v : Nat) : (s.setCtx n v).reads = s.reads := rfl
@[simp] theorem State.setCtx_readWait (s : State) (n v : Nat) : (s.setCtx n v).readWait = s.readWait := rfl
@[simp] theorem State.setCtx_quar (s : State) (n v : Nat) : (s.setCtx n v).quar = s.quar := rfl
@[simp] theorem State.setCtx_links (s : State) (n v : Nat) : (s.setCtx n v).links = s.links := rfl
@[simp] theorem State.setCtx_adminOrder (s : State) (n v : Nat) : (s.setCtx n v).adminOrder = s.adminOrder := rfl
@[simp] theorem State.setCtx_held (s : State) (n v : Nat) : (s.setCtx n v).held = s.held := rfl
@[simp] theorem State.setCtx_blkInt (s : State) (n v : Nat) : (s.setCtx n v).blkInt = s.blkInt := rfl
@[simp] theorem State.setCtx_path (s : State) (n v : Nat) : (s.setCtx n v).path = s.path := rfl
@[simp] theorem State.setCtx_eng (s : State) (n v : Nat) : (s.setCtx n v).eng = s.eng := rfl
@[simp] theorem State.setCtx_grt (s : State) (n v : Nat) : (s.setCtx n v).grt = s.grt := rfl
@[simp] theorem State.setCtx_tm (s : State) (n v : Nat) : (s.setCtx n v).tm = s.tm := rfl
@[simp] theorem State.setCtx_prt (s : State) (n v : Nat) : (s.setCtx n v).prt = s.prt := rfl
@[simp] theorem State.setCtx_sto (s : State) (n v : Nat) : (s.setCtx n v).sto = s.sto := rfl
@[simp] theorem State.setCtx_rope (s : State) (n v : Nat) : (s.setCtx n v).rope = s.rope := rfl
@[simp] theorem State.setCtx_mbx (s : State) (n v : Nat) : (s.setCtx n v).mbx = s.mbx := rfl
@[simp] theorem State.setCtx_board (s : State) (n v : Nat) : (s.setCtx n v).board = s.board := rfl

@[simp] theorem State.pushTm_pending (s : State) (p : Pkt) : (s.pushTm p).pending = s.pending := rfl
@[simp] theorem State.pushTm_out (s : State) (p : Pkt) : (s.pushTm p).out = s.out := rfl
@[simp] theorem State.pushTm_free (s : State) (p : Pkt) : (s.pushTm p).free = s.free := rfl
@[simp] theorem State.pushTm_regs (s : State) (p : Pkt) : (s.pushTm p).regs = s.regs := rfl
@[simp] theorem State.pushTm_split (s : State) (p : Pkt) : (s.pushTm p).split = s.split := rfl
@[simp] theorem State.pushTm_mem (s : State) (p : Pkt) : (s.pushTm p).mem = s.mem := rfl
@[simp] theorem State.pushTm_hbm (s : State) (p : Pkt) : (s.pushTm p).hbm = s.hbm := rfl
@[simp] theorem State.pushTm_fst (s : State) (p : Pkt) : (s.pushTm p).fst = s.fst := rfl
@[simp] theorem State.pushTm_car (s : State) (p : Pkt) : (s.pushTm p).car = s.car := rfl
@[simp] theorem State.pushTm_funcs (s : State) (p : Pkt) : (s.pushTm p).funcs = s.funcs := rfl
@[simp] theorem State.pushTm_reads (s : State) (p : Pkt) : (s.pushTm p).reads = s.reads := rfl
@[simp] theorem State.pushTm_readWait (s : State) (p : Pkt) : (s.pushTm p).readWait = s.readWait := rfl
@[simp] theorem State.pushTm_quar (s : State) (p : Pkt) : (s.pushTm p).quar = s.quar := rfl
@[simp] theorem State.pushTm_links (s : State) (p : Pkt) : (s.pushTm p).links = s.links := rfl
@[simp] theorem State.pushTm_adminOrder (s : State) (p : Pkt) : (s.pushTm p).adminOrder = s.adminOrder := rfl
@[simp] theorem State.pushTm_held (s : State) (p : Pkt) : (s.pushTm p).held = s.held := rfl
@[simp] theorem State.pushTm_blkInt (s : State) (p : Pkt) : (s.pushTm p).blkInt = s.blkInt := rfl
@[simp] theorem State.pushTm_eng (s : State) (p : Pkt) : (s.pushTm p).eng = s.eng := rfl
@[simp] theorem State.pushTm_grt (s : State) (p : Pkt) : (s.pushTm p).grt = s.grt := rfl
@[simp] theorem State.pushTm_cry (s : State) (p : Pkt) : (s.pushTm p).cry = s.cry := rfl
@[simp] theorem State.pushTm_tm (s : State) (p : Pkt) : (s.pushTm p).tm = s.tm := rfl
@[simp] theorem State.pushTm_prt (s : State) (p : Pkt) : (s.pushTm p).prt = s.prt := rfl
@[simp] theorem State.pushTm_sto (s : State) (p : Pkt) : (s.pushTm p).sto = s.sto := rfl
@[simp] theorem State.pushTm_rope (s : State) (p : Pkt) : (s.pushTm p).rope = s.rope := rfl
@[simp] theorem State.pushTm_mbx (s : State) (p : Pkt) : (s.pushTm p).mbx = s.mbx := rfl
@[simp] theorem State.pushTm_board (s : State) (p : Pkt) : (s.pushTm p).board = s.board := rfl

@[simp] theorem State.flashWrite_pending (s : State) (a : Nat) (d : List Byte) : (s.flashWrite a d).pending = s.pending := rfl
@[simp] theorem State.flashWrite_out (s : State) (a : Nat) (d : List Byte) : (s.flashWrite a d).out = s.out := rfl
@[simp] theorem State.flashWrite_free (s : State) (a : Nat) (d : List Byte) : (s.flashWrite a d).free = s.free := rfl
@[simp] theorem State.flashWrite_regs (s : State) (a : Nat) (d : List Byte) : (s.flashWrite a d).regs = s.regs := rfl
@[simp] theorem State.flashWrite_split (s : State) (a : Nat) (d : List Byte) : (s.flashWrite a d).split = s.split := rfl
@[simp] theorem State.flashWrite_mem (s : State) (a : Nat) (d : List Byte) : (s.flashWrite a d).mem = s.mem := rfl
@[simp] theorem State.flashWrite_hbm (s : State) (a : Nat) (d : List Byte) : (s.flashWrite a d).hbm = s.hbm := rfl
@[simp] theorem State.flashWrite_fst (s : State) (a : Nat) (d : List Byte) : (s.flashWrite a d).fst = s.fst := rfl
@[simp] theorem State.flashWrite_car (s : State) (a : Nat) (d : List Byte) : (s.flashWrite a d).car = s.car := rfl
@[simp] theorem State.flashWrite_funcs (s : State) (a : Nat) (d : List Byte) : (s.flashWrite a d).funcs = s.funcs := rfl
@[simp] theorem State.flashWrite_reads (s : State) (a : Nat) (d : List Byte) : (s.flashWrite a d).reads = s.reads := rfl
@[simp] theorem State.flashWrite_readWait (s : State) (a : Nat) (d : List Byte) : (s.flashWrite a d).readWait = s.readWait := rfl
@[simp] theorem State.flashWrite_quar (s : State) (a : Nat) (d : List Byte) : (s.flashWrite a d).quar = s.quar := rfl
@[simp] theorem State.flashWrite_links (s : State) (a : Nat) (d : List Byte) : (s.flashWrite a d).links = s.links := rfl
@[simp] theorem State.flashWrite_adminOrder (s : State) (a : Nat) (d : List Byte) : (s.flashWrite a d).adminOrder = s.adminOrder := rfl
@[simp] theorem State.flashWrite_held (s : State) (a : Nat) (d : List Byte) : (s.flashWrite a d).held = s.held := rfl
@[simp] theorem State.flashWrite_blkInt (s : State) (a : Nat) (d : List Byte) : (s.flashWrite a d).blkInt = s.blkInt := rfl
@[simp] theorem State.flashWrite_path (s : State) (a : Nat) (d : List Byte) : (s.flashWrite a d).path = s.path := rfl
@[simp] theorem State.flashWrite_eng (s : State) (a : Nat) (d : List Byte) : (s.flashWrite a d).eng = s.eng := rfl
@[simp] theorem State.flashWrite_grt (s : State) (a : Nat) (d : List Byte) : (s.flashWrite a d).grt = s.grt := rfl
@[simp] theorem State.flashWrite_cry (s : State) (a : Nat) (d : List Byte) : (s.flashWrite a d).cry = s.cry := rfl
@[simp] theorem State.flashWrite_tm (s : State) (a : Nat) (d : List Byte) : (s.flashWrite a d).tm = s.tm := rfl
@[simp] theorem State.flashWrite_prt (s : State) (a : Nat) (d : List Byte) : (s.flashWrite a d).prt = s.prt := rfl
@[simp] theorem State.flashWrite_sto (s : State) (a : Nat) (d : List Byte) : (s.flashWrite a d).sto = s.sto := rfl
@[simp] theorem State.flashWrite_rope (s : State) (a : Nat) (d : List Byte) : (s.flashWrite a d).rope = s.rope := rfl
@[simp] theorem State.flashWrite_mbx (s : State) (a : Nat) (d : List Byte) : (s.flashWrite a d).mbx = s.mbx := rfl

@[simp] theorem State.settle_pending (s : State) : (s.settle).pending = s.pending := rfl
@[simp] theorem State.settle_out (s : State) : (s.settle).out = s.out := rfl
@[simp] theorem State.settle_free (s : State) : (s.settle).free = s.free := rfl
@[simp] theorem State.settle_regs (s : State) : (s.settle).regs = s.regs := rfl
@[simp] theorem State.settle_split (s : State) : (s.settle).split = s.split := rfl
@[simp] theorem State.settle_mem (s : State) : (s.settle).mem = s.mem := rfl
@[simp] theorem State.settle_hbm (s : State) : (s.settle).hbm = s.hbm := rfl
@[simp] theorem State.settle_fst (s : State) : (s.settle).fst = s.fst := rfl
@[simp] theorem State.settle_car (s : State) : (s.settle).car = s.car := rfl
@[simp] theorem State.settle_funcs (s : State) : (s.settle).funcs = s.funcs := rfl
@[simp] theorem State.settle_reads (s : State) : (s.settle).reads = s.reads := rfl
@[simp] theorem State.settle_readWait (s : State) : (s.settle).readWait = s.readWait := rfl
@[simp] theorem State.settle_quar (s : State) : (s.settle).quar = s.quar := rfl
@[simp] theorem State.settle_links (s : State) : (s.settle).links = s.links := rfl
@[simp] theorem State.settle_adminOrder (s : State) : (s.settle).adminOrder = s.adminOrder := rfl
@[simp] theorem State.settle_held (s : State) : (s.settle).held = s.held := rfl
@[simp] theorem State.settle_blkInt (s : State) : (s.settle).blkInt = s.blkInt := rfl
@[simp] theorem State.settle_path (s : State) : (s.settle).path = s.path := rfl
@[simp] theorem State.settle_eng (s : State) : (s.settle).eng = s.eng := rfl
@[simp] theorem State.settle_grt (s : State) : (s.settle).grt = s.grt := rfl
@[simp] theorem State.settle_cry (s : State) : (s.settle).cry = s.cry := rfl
@[simp] theorem State.settle_tm (s : State) : (s.settle).tm = s.tm := rfl
@[simp] theorem State.settle_prt (s : State) : (s.settle).prt = s.prt := rfl
@[simp] theorem State.settle_sto (s : State) : (s.settle).sto = s.sto := rfl
@[simp] theorem State.settle_rope (s : State) : (s.settle).rope = s.rope := rfl
@[simp] theorem State.settle_mbx (s : State) : (s.settle).mbx = s.mbx := rfl

end Sys2Proof.Machine
end

