-- ==== Sys2Proof/Laws/Issue.lean ====
section
/-! SUPPORT. Laws/Issue.lean: what executing an instruction of Pyray comes to for a thread that stands at it, and the registers it
leaves. -/

namespace Sys2Proof.Machine

open Sys2Proof

set_option cleanup.letToHave false

/-- With no step of Lantern under way nothing ends one. -/
theorem State.stepCheck_none {s : State} (h : s.board.step = none) (g e t : Nat) : s.stepCheck g e t = s := by
  simp only [State.stepCheck, h]

/-- With no step of Lantern under way none is counted. -/
theorem State.stepTake_none {s : State} (h : s.board.step = none) (g e t : Nat) : s.stepTake g e t = s := by
  simp [State.stepTake, State.stepOf, h]

/-- Finishing an instruction leaves the board. -/
@[simp] theorem State.finish_board (s : State) (g e t last : Nat) : (s.finish g e t last).board = s.board := rfl

/-- Finishing an instruction leaves the board. -/
@[simp] theorem State.past_board (s u : State) (g e t : Nat) : (s.past u g e t).board = u.board := rfl

/-- What an instruction that a thread stands at comes to. -/
theorem State.pyRun_stands {s : State} {g e t w : Nat} (h : s.Stands g e t w) {is : Nat → Bool} (hi : is w = true) (f : Nat → State → PyRes) :
    s.pyRun g e t is f = State.stepCheck (match f w (s.issued g e) with
      | .ok u => s.past u g e t
      | .jump u pc => u.setPc g e t pc
      | .stay u => u
      | .exc c => (s.issued g e).progExc g e t c) g e t := by
  obtain ⟨h1, h2, h3, h4, ⟨h5, h5'⟩, h6, h7, h8, h9⟩ := h
  have a1 : ¬ ((s.ts g e t ≠ tRunnable ∧ s.ts g e t ≠ tSupervisor) ∨ (s.engHalted g e = true ∧ ¬ s.stepOf g e t = true)) := by
    rintro (⟨x, y⟩ | ⟨x, _⟩)
    · exact h1.elim x y
    · rw [h2] at x
      exact Bool.noConfusion x
  have a2 : ¬ (s.pc g e t / 0x2000 ≠ s.thrVer g e t % 4 ∨ s.pc g e t % 0x2000 / 4 < 128) := by omega
  have tk : (s.stat (R.PE_ISSUE_CNT g e)).stepTake g e t = s.issued g e := State.stepTake_none (s := s.issued g e) h3 g e t
  unfold State.pyRun State.pyIssue
  dsimp only
  rw [if_neg a1, h4, if_neg (by decide), if_neg a2, h6, h7, hi, h8, h9, tk]
  rfl

/-- An instruction that completes. -/
theorem State.pyRun_ok {s u : State} {g e t w : Nat} (h : s.Stands g e t w) {is : Nat → Bool} (hi : is w = true) {f : Nat → State → PyRes}
    (hf : f w (s.issued g e) = .ok u) (hb : u.board = s.board) : s.pyRun g e t is f = s.past u g e t := by
  rw [State.pyRun_stands h hi, hf]
  exact State.stepCheck_none (s := s.past u g e t) (by rw [State.past_board, hb]; exact h.steps) g e t

/-- An instruction that goes elsewhere. -/
theorem State.pyRun_jump {s u : State} {g e t w pc : Nat} (h : s.Stands g e t w) {is : Nat → Bool} (hi : is w = true) {f : Nat → State → PyRes}
    (hf : f w (s.issued g e) = .jump u pc) (hb : u.board = s.board) : s.pyRun g e t is f = u.setPc g e t pc := by
  rw [State.pyRun_stands h hi, hf]
  exact State.stepCheck_none (s := u.setPc g e t pc) (by change u.board.step = none; rw [hb]; exact h.steps) g e t

/-- An instruction at which the PC stays, or that has moved it. -/
theorem State.pyRun_stay {s u : State} {g e t w : Nat} (h : s.Stands g e t w) {is : Nat → Bool} (hi : is w = true) {f : Nat → State → PyRes}
    (hf : f w (s.issued g e) = .stay u) (hb : u.board = s.board) : s.pyRun g e t is f = u := by
  rw [State.pyRun_stands h hi, hf]
  exact State.stepCheck_none (s := u) (by rw [hb]; exact h.steps) g e t

/-- An instruction that takes an exception. -/
theorem State.pyRun_exc {s : State} {g e t w c : Nat} (h : s.Stands g e t w) {is : Nat → Bool} (hi : is w = true) {f : Nat → State → PyRes}
    (hf : f w (s.issued g e) = .exc c) : s.pyRun g e t is f = ((s.issued g e).progExc g e t c).stepCheck g e t := by
  rw [State.pyRun_stands h hi, hf]

/-- Counting an instruction leaves the threads. -/
@[simp] theorem State.issued_gr (s : State) (g e a b c d : Nat) : (s.issued g e).gr a b c d = s.gr a b c d := rfl

/-- Counting an instruction leaves the threads. -/
@[simp] theorem State.issued_thr (s : State) (g e a b c : Nat) : (s.issued g e).thr a b c = s.thr a b c := rfl

/-- Counting an instruction leaves the board. -/
@[simp] theorem State.issued_board (s : State) (g e : Nat) : (s.issued g e).board = s.board := rfl

end Sys2Proof.Machine
end

