-- ==== Sys2Proof/Tests/Slice0.lean ====
section
/-! SUPPORT. Tests/Slice0.lean: small checks of the model on single steps, ill-formed commands that the check refuses, and for every statement
with hypotheses a state and operands that meet them. -/

namespace Sys2Proof.Tests

open Sys2Proof Sys2Proof.Machine

set_option cleanup.letToHave false
set_option Elab.async false

/-! Ill-formed commands: each check of `Instr.wf` refuses one. -/

theorem wf_refuses_units :
    Instr.wf (.timeStep 2056) = false ∧ Instr.wf (.ptmDialogueStart 4) = false ∧ Instr.wf (.esmcTimeout 8) = false ∧
    Instr.wf (.add 64 0 0) = false ∧ Instr.wf (.add 0 17 0) = false ∧ Instr.wf (.add 0 0 8) = false ∧ Instr.wf (.parseExt 272) = false ∧
    Instr.wf (.lockGrant 0 64) = false ∧ Instr.wf (.ropeProgramStart 512) = false ∧ Instr.wf (.moduleRemove 4) = false ∧
    Instr.wf (.pwrGoodRise 4096) = false ∧ Instr.wf (.matchLaneFault 0 256) = false ∧ Instr.wf (.thermalSample 256) = false ∧
    Instr.wf (.synceInputLoss 12) = false := by decide

theorem wf_refuses_addresses :
    Instr.wf (.registerWrite (.reg 21 0 0 0)) = false ∧ Instr.wf (.registerWrite (.reg 0 65536 0 0)) = false ∧
    Instr.wf (.registerWrite (.reg 0 0 67108864 0)) = false ∧ Instr.wf (.registerWrite (.cfg 0 (.ideStream 9) 0)) = false ∧
    Instr.wf (.registerWrite (.msix 0 1024 0 0)) = false ∧ Instr.wf (.registerWrite (.msix 0 0 3 0)) = false ∧
    Instr.wf (.registerWrite (.doorbell 0 256 0)) = false ∧ Instr.wf (.registerWrite (.doorbell 0 0 4096)) = false ∧
    Instr.wf (.memoryReadError 4 0 0 0 [] none false) = false ∧ Instr.wf (.spdmGetVersion 9 true) = false := by decide

theorem wf_accepts :
    Instr.wf (.timeStep 2055) = true ∧ Instr.wf (.add 63 16 7) = true ∧ Instr.wf (.parseExt 271) = true ∧
    Instr.wf (.registerWrite (.reg 20 65535 67108863 0)) = true ∧ Instr.wf (.registerWrite (.msix 2055 1023 2 0)) = true ∧
    Instr.wf (.registerWrite (.cfg 2055 (.ideStream 8) 0)) = true := by decide

/-! Witnesses: each theorem shows, for the clauses of the statement it is named after, a state and operands that meet their hypotheses. -/

theorem witness_EmptyQueueIsOneCycle :
    (({} : State).pending = [] ∧ ({} : State).board.held = false) ∧
    (∃ s : State, s.pending = [] ∧ s.board.held = true) :=
  ⟨by decide, { board := { held := true } }, by decide⟩

theorem witness_StepKeepsInvariant : ∃ s t : State, s.Inv ∧ step s = .next t :=
  ⟨{ State.reset with pending := [.voteBoundary] }, State.reset,
    ⟨by unfold State.memOk; decide +kernel, by unfold State.queueOk; decide +kernel, by unfold Board.linesOk; decide +kernel⟩, rfl⟩

theorem witness_QueueOutputsAndFreeValues : ∃ (c : Instr) (s t : State), exec c s = .next t := ⟨.voteBoundary, {}, {}, rfl⟩

theorem witness_Frames : ∃ (c : Instr) (s t : State),
    c.lines = false ∧ c.flashes = false ∧ c.rekeys = false ∧ exec c s = .next t := ⟨.voteBoundary, {}, {}, rfl, rfl, rfl, rfl⟩

theorem witness_ErrorCounter :
    (∃ (s : State) (off : Nat), s.cnt off < 0xFFFFFFFF) ∧
    (∃ (s : State) (off : Nat), s.cnt off = 0xFFFFFFFF ∧ s.rd (fld off 32 1) = 1) ∧
    (∃ (s : State) (off : Nat), s.cnt off = 0xFFFFFFFF ∧ s.rd (fld off 32 1) = 0) ∧
    (∃ (off lo : Nat) (row : RegRow), findRow (regRowsAt off) off = some row ∧ row.kind = .errCnt lo ∧ lo ≤ 31) :=
  ⟨⟨{}, R.FLT_ACCESS_CNT, by decide +kernel⟩, ⟨({} : State).setReg R.FLT_ACCESS_CNT 0x1FFFFFFFF, R.FLT_ACCESS_CNT, by decide +kernel⟩,
   ⟨({} : State).setReg R.FLT_ACCESS_CNT 0xFFFFFFFF, R.FLT_ACCESS_CNT, by decide +kernel⟩,
   ⟨R.FLT_ACCESS_CNT, 0, (findRow (regRowsAt R.FLT_ACCESS_CNT) R.FLT_ACCESS_CNT).get (by decide +kernel), by decide +kernel⟩⟩

theorem witness_FaultEntryPlaced : ∃ (s : State) (j : Nat), (3 : Nat) < 4 ∧ j < 4096 ∧ j ≠ s.rd F.FLT_RING_PI_PI % 4096 :=
  ⟨{}, 4095, by decide +kernel⟩

/-- A state whose management PF of attachment 3 has Memory Space Enable 1. -/
def openBars : State := { funcs := [(6, { vecTable := 64, cfg := { memSpace := true } })] }

theorem witness_SplitReads :
    isReg R.FST_STATUS = true ∧ isReg 0x8 = false ∧
    (∃ t, exec (.lowHalfRead 3 0 R.FST_STATUS) openBars = .next t ∧ t.barOpen (2 * 3) = true) ∧ openBars.barOpen (2 * 3) = true ∧
    ¬ ((openBars.splitOf 3).rdHeld = true ∧ (openBars.splitOf 3).rdOff = 0) :=
  ⟨by decide +kernel, by decide +kernel, ⟨_, rfl, by decide +kernel⟩, by decide +kernel, by decide⟩

theorem witness_SplitWrites :
    (R.FLT_ACCESS_CNT < 0x2600000 ∧ isReg R.FLT_ACCESS_CNT = true) ∧ ((8 : Nat) < 0x2600000 ∧ isReg 8 = false) ∧
    (∃ t, exec (.lowHalfWrite 3 0 R.FLT_ACCESS_CNT 0) openBars = .next t) ∧ openBars.barOpen (2 * 3) = true ∧
    ¬ ((openBars.splitOf 3).wrHeld = true ∧ (openBars.splitOf 3).wrOff = 0) :=
  ⟨by decide +kernel, by decide +kernel, ⟨_, rfl⟩, by decide +kernel, by decide⟩

theorem witness_DiscardedAccesses : (3 : Nat) < 4 ∧ (0x2600000 : Nat) ≤ 0x27FFFF8 ∧ (0x27FFFF8 : Nat) < 0x2800000 ∧
    openBars.barOpen (2 * 3) = true ∧ ({} : State).barOpen (2 * 3) = false ∧ (({} : State).func 6).resetting = false ∧
    (∃ s : State, (s.func 6).resetting = true) := by
  refine ⟨by decide, by decide, by decide, by decide +kernel, by decide +kernel, rfl, ⟨{ funcs := [(6, { resetting := true })] }, rfl⟩⟩

theorem witness_RegisterWrites :
    (∃ (off : Nat) (row : RegRow), off < 0x2600000 ∧ findRow (regRowsAt off) off = some row ∧ row.kind = .plain ∧
      openBars.partyOpen 3 = true ∧ openBars.actWrite 3 0 off 0 = none) ∧
    findRow (regRowsAt 8) 8 = none ∧
    (∃ (off : Nat) (row : RegRow), off < 0x2600000 ∧ findRow (regRowsAt off) off = some row ∧ row.kind = .stat) ∧
    openBars.barOpen 6 = true ∧ (openBars.func 6).vecTable ≤ 64 ∧ 63 < (openBars.func 6).vecTable :=
  ⟨⟨R.FST_INT_STATUS, (findRow (regRowsAt R.FST_INT_STATUS) R.FST_INT_STATUS).get (by decide +kernel), by decide +kernel⟩,
   by decide +kernel, ⟨R.PRS_PKT_CNT, (findRow (regRowsAt R.PRS_PKT_CNT) R.PRS_PKT_CNT).get (by decide +kernel), by decide +kernel⟩, by decide +kernel⟩

/-! The spec's worked examples. -/

/-- 00_scope.md, worked example: thread 3 of engine 5 of gallery 12. -/
theorem test_unitThread : unitThread 12 5 3 = 0x0C2B ∧ unitThread 60 5 3 = 0x3C2B := by decide

/-- 09_tunnels_and_crypto.md, worked example: packets A, B and D. -/
theorem test_esnSeq : esnSeq 0x10 0x1FFFFFF80 1024 = 0x200000010 ∧ esnSeq 0xFFFFFF00 0x200000010 1024 = 0x1FFFFFF00 ∧
    esnSeq 0xFFFFF000 0x200000010 1024 = 0x2FFFFF000 := by decide

/-- 14_ports.md, worked example: PRT_LANE_CFG 0x0000_008C_0000_0401. -/
theorem test_laneMode : (List.range 8).map (laneMode 0x8C00000401) = [2, 0, 0, 0, 3, 0, 6, 7] := by decide

/-- 05_engines_and_galleries.md: sump 268 is sump 32 of gallery 12. -/
theorem test_sumpKey : sumpKey 3 268 = some (12 * 36 + 32) := by decide

/-! Helpers: admin commands in front of function 0. -/

/-- The 80 bytes of an admin slot that a trailer's CMAC covers: opcode and target, the words from 0x08 on, a counter of 1, key slot 0. -/
def slot80 (op target : Nat) (ws : List Nat) : List Byte :=
  leBytes (op + target * 65536) 8 ++ ((List.range 7).flatMap (fun i => leBytes (ws.getD i 0) 8) ++ (leBytes (if critOp op then 1 else 0) 8 ++ leBytes 0 8))

/-- The state with an admin command of function 0 that is next to run. -/
def given (s : State) (c : AdmCmd) : State := { s.updFunc 0 (fun f => { f with cur := some c }) with adminOrder := [0] }

/-- An admin command without a trailer. -/
def plainCmd (op target : Nat) (ws : List Nat) : AdmCmd := { slot := 0, bytes := slot80 op target ws ++ List.replicate 48 0 }

/-- A critical admin command whose trailer's CMAC is right for the state. -/
def critCmd (s : State) (op target : Nat) (ws : List Nat) : AdmCmd where
  slot := 0
  bytes := slot80 op target ws ++
    (leBytes (Config.cmac (Map.get s.grt.prinKey 0 0) (leBytes (s.reg R.GRT_DSN).toNat 8 ++ slot80 op target ws) % 2 ^ 128) 16 ++ List.replicate 32 0)

/-- A state whose lifecycle is PROVISIONED, with principal 0 provisioned and every right. -/
def owned (s : State) : State :=
  ((s.wr F.GRT_STATUS_LIFECYCLE 1).wrB (F.GRT_PRINCIPAL_PROVISIONED 0) true).wr (F.GRT_PRINCIPAL_RIGHTS 0) 0x1FFF

theorem checked_of {s : State} {f op : Nat} {m : Bool} {masks : List Nat} {good : AdmCmd → Bool} {c : AdmCmd}
    (h : (decide (s.admCmd f op m = some c) && !(c.reads && c.opRead != 0) && (c.clean masks && good c) && !s.targetBusy c) = true) :
    s.Checked f op m masks good c := by
  simp only [Bool.and_eq_true, decide_eq_true_eq, Bool.not_eq_true'] at h
  exact ⟨h.1.1.1, h.1.1.2, by simp only [Bool.and_eq_true]; exact h.1.2, h.2⟩

/-- The state with command c of function f next to run. -/
def givenBy (s : State) (f : Nat) (c : AdmCmd) : State := { s.updFunc f (fun x => { x with cur := some c }) with adminOrder := [f] }

theorem plain_checked {s : State} {f op : Nat} {m : Bool} {ws masks : List Nat} {good : AdmCmd → Bool}
    (h : (decide ((givenBy s f (plainCmd op f ws)).admCmd f op m = some (plainCmd op f ws)) && !((plainCmd op f ws).reads && (plainCmd op f ws).opRead != 0) &&
      ((plainCmd op f ws).clean masks && good (plainCmd op f ws)) && !(givenBy s f (plainCmd op f ws)).targetBusy (plainCmd op f ws)) = true) :
    (givenBy s f (plainCmd op f ws)).Checked f op m masks good (plainCmd op f ws) := checked_of h

theorem leNat_leBytes (n k : Nat) : leNat (leBytes n k) = n % 256 ^ k := by
  induction k generalizing n with
  | zero => simp [leBytes, leNat, Nat.mod_one]
  | succ k ih => simp [leBytes, leNat, ih, Nat.pow_succ, Nat.mul_comm, Nat.mod_mul]

theorem slot80_length (op target : Nat) (ws : List Nat) : (slot80 op target ws).length = 80 := by
  have h : ∀ v n, (leBytes v n).length = n := by intro v n; induction n generalizing v with
    | zero => rfl
    | succ n ih => simp [leBytes, ih]
  simp [slot80, h, List.range, List.range.loop]

theorem leBytes_length (v n : Nat) : (leBytes v n).length = n := by
  induction n generalizing v with
  | zero => rfl
  | succ n ih => simp [leBytes, ih]

theorem critCmd_mac (s : State) (op target : Nat) (ws : List Nat) :
    (critCmd s op target ws).bytes.take 80 = slot80 op target ws ∧
    leNat (((critCmd s op target ws).bytes.drop 0x50).take 16) =
      Config.cmac (Map.get s.grt.prinKey 0 0) (leBytes (s.reg R.GRT_DSN).toNat 8 ++ slot80 op target ws) % 2 ^ 128 := by
  have h := slot80_length op target ws
  constructor
  · simp [critCmd, h]
  · simp only [critCmd]
    rw [List.drop_left' h, List.take_left' (leBytes_length _ _), leNat_leBytes]
    exact Nat.mod_eq_of_lt (Nat.mod_lt _ (by decide))

/-- The state with that critical command next to run. -/
def crit (s : State) (op target : Nat) (ws : List Nat) : State := given s (critCmd s op target ws)

theorem given_cmd (s : State) (c : AdmCmd) : ((given s c).func 0).cur = some c := by
  simp [given, State.func, State.updFunc, State.setFunc]

theorem crit_verified {s : State} {op target : Nat} {ws masks : List Nat} {good : AdmCmd → Bool}
    (h : (decide ((critCmd s op target ws).op = op) && decide (bitsOf ((critCmd s op target ws).word 0x48) 0 8 = 0) &&
      decide ((critCmd s op target ws).word 0x40 = 1) && decide (s.rd F.GRT_STATUS_LIFECYCLE = 1) &&
      s.rdB (F.GRT_PRINCIPAL_PROVISIONED 0) && decide ((s.reg (R.GRT_COUNTER 0)).toNat = 0) &&
      bitOf (((crit s op target ws).ctrWrite 0 1).rd (F.GRT_PRINCIPAL_RIGHTS 0)) (rightBit op) &&
      (!((critCmd s op target ws).reads && (critCmd s op target ws).opRead != 0)) && ((critCmd s op target ws).clean masks && good (critCmd s op target ws)) &&
      !((crit s op target ws).ctrWrite 0 1).targetBusy (critCmd s op target ws)) = true) :
    (crit s op target ws).Verified 0 op masks good (critCmd s op target ws) ((crit s op target ws).ctrWrite 0 1) := by
  simp only [Bool.and_eq_true, decide_eq_true_eq, Bool.not_eq_true'] at h
  obtain ⟨⟨⟨⟨⟨⟨⟨⟨⟨h0, h1⟩, h2⟩, h3⟩, h4⟩, h5⟩, h6⟩, h7⟩, h8⟩, h9⟩ := h
  have hm := critCmd_mac s op target ws
  refine ⟨?_, ?_, h7, by simp only [Bool.and_eq_true]; exact h8, h9⟩
  · simp only [State.admCmd, crit, given_cmd, h0]
    simp [critCmd, given]
  · have hr : (crit s op target ws).reg = s.reg := rfl
    have hd : (crit s op target ws).rd = s.rd := rfl
    have hb : (crit s op target ws).rdB = s.rdB := rfl
    have hg : (crit s op target ws).grt = s.grt := rfl
    simp only [State.trailer, h0, h1, h2, h6, hm.1, hm.2, hr, hd, hb, hg, h3, h4, h5]
    rw [if_neg (by simp), if_neg (by simp), if_neg (by decide), if_neg (by decide), if_pos trivial]

/-- A state in which one block register field holds a value. -/
def at1 (f : Fld) (v : Nat) : State := ({} : State).wr f v

/-- A packet of n zero bytes. -/
def pPkt (n : Nat) : Pkt := { data := List.replicate n 0 }

theorem witness_ClockCommands :
    (∃ s : State, s.fst.voteDue = true) ∧ ({} : State).fst.voteDue = false ∧
    (∃ (s t : State) (c : AdmCmd),
      s.Verified 0 0x28 [0x1001FFFFF, 0xFFFFFFFFFFFFFFFF] (fun c => tsValueOk (0x100000 + bitsOf (c.word 8) 0 21) (c.word 0x10)) c t ∧
      t.fst.staged.length < 32) ∧
    (∃ s : State, s.fst.applyFns = [0, 2] ∧ s.fst.atVote = true) ∧
    (∃ (s t : State) (c : AdmCmd), s.Verified 0 0x29 [0x3, 0xFFFFFFFFFFFFFFFF, 0xFFFFFFFFFFFFFFFF] stepRangeOk c t ∧ t.rd F.FST_STATUS_STATE = 2) ∧
    (∃ (s t : State) (c : AdmCmd), s.Verified 0 0x29 [0x3, 0xFFFFFFFFFFFFFFFF, 0xFFFFFFFFFFFFFFFF] stepRangeOk c t ∧ t.rd F.FST_STATUS_STATE ≠ 1 ∧
      t.rd F.FST_STATUS_STATE ≠ 2 ∧ bitsOf (c.word 8) 0 2 = 2) ∧
    (∃ (s t : State) (c : AdmCmd), s.Verified 0 0x29 [0x3, 0xFFFFFFFFFFFFFFFF, 0xFFFFFFFFFFFFFFFF] stepRangeOk c t ∧ t.rd F.FST_STATUS_STATE ≠ 1 ∧
      t.rd F.FST_STATUS_STATE ≠ 2 ∧ bitsOf (c.word 8) 0 2 ≠ 2) :=
  ⟨⟨{ fst := { voteDue := true } }, rfl⟩, rfl,
   ⟨_, _, _, crit_verified (s := owned {}) (target := 0) (ws := [0x60, 0]) (by decide +kernel), by decide +kernel⟩,
   ⟨{ fst := { applyFns := [0, 2], atVote := true } }, by decide⟩,
   ⟨_, _, _, crit_verified (s := owned (at1 F.FST_STATUS_STATE 2)) (target := 0) (ws := [0, 0, 0]) (by decide +kernel), by decide +kernel⟩,
   ⟨_, _, _, crit_verified (s := owned {}) (target := 0) (ws := [2, 1, 0]) (by decide +kernel), by decide +kernel⟩,
   ⟨_, _, _, crit_verified (s := owned {}) (target := 0) (ws := [0, 1, 999999999]) (by decide +kernel), by decide +kernel⟩⟩

theorem witness_ClockCommands_more :
    (∃ (s : State) (q : StepReq), s.fst.stepReqs = [q] ∧ s.fst.cycle = 0 ∧ q.abs = true ∧ q.sec < 2 ^ 48 ∧ q.ns < 1000000000 ∧ q.frac < 65536) ∧
    (∃ s : State, s.fst.realign = some 0 ∧ s.fst.cycle = 0 ∧ s.fst.aligning = false) ∧
    (({} : State).rd F.FST_STATUS_OSC_LOST = 0 ∧ ({} : State).fst.lockDecided = false ∧ ({} : State).rd F.FST_STATUS_STATE ≠ 2 ∧
      ({} : State).rd F.FST_STATUS_STATE ≠ 3) ∧
    (∃ s : State, s.rd F.FST_STATUS_OSC_LOST = 1) ∧ (3 : Nat) < 4 :=
  ⟨⟨{ fst := { stepReqs := [⟨0, true, 2 ^ 48 - 1, 999999999, 65535, 0⟩] } }, ⟨0, true, 2 ^ 48 - 1, 999999999, 65535, 0⟩, by decide⟩,
   ⟨{ fst := { realign := some 0 } }, by decide⟩, by decide +kernel, ⟨at1 F.FST_STATUS_OSC_LOST 1, by decide +kernel⟩, by decide⟩

theorem witness_DripBoundary : (∃ s : State, s.board.held = true) ∧ ({} : State).board.held = false := ⟨⟨{ board := { held := true } }, rfl⟩, rfl⟩

/-- Instance 7 is enabled with port 7 a member in the port state given; with `p2p` it measures peer delays. -/
def ptpOn (st p2p : Nat) : State :=
  (((({} : State).wrB (F.FST_PTP_CFG_ENABLE 7) true).wr (F.FST_PTP_PORTS_MEMBERS 7) 0x80).wr (portStateFld 7 7) st).wr (F.FST_PTP_CFG_P2P 7) p2p

theorem witness_PtpSends :
    ((ptpOn psMaster 0).ptpMember 7 7 = true ∧ (ptpOn psMaster 0).rd (portStateFld 7 7) = psMaster) ∧
    (ptpOn psSlave 0).rd (portStateFld 7 7) ≠ psMaster ∧
    ((ptpOn psSlave 0).ptpMember 7 7 = true ∧ (ptpOn psSlave 0).isClientPort 7 7 = true ∧ (ptpOn psSlave 0).rd (F.FST_PTP_CFG_P2P 7) = 0) ∧
    (ptpOn psSlave 1).rd (F.FST_PTP_CFG_P2P 7) = 1 ∧
    (∃ s : State, (s.inst 7).held.find? (fun g => g.kind == 0) = some ⟨1, 0, 300⟩ ∧ (s.inst 7).denied.find? (fun g => g.kind == 9) = some ⟨1, 9, 60⟩) :=
  ⟨by decide +kernel, by decide +kernel, by decide +kernel, by decide +kernel,
   { car := { inst := [(7, { held := [⟨1, 0, 300⟩], denied := [⟨1, 9, 60⟩] })] } }, by decide⟩

theorem witness_PtpReceives :
    (∃ (s t : State) (m : PtpMsg), (s.ptpAccept 7 7 m 44).1 = some t ∧ t.isClientPort 7 7 = true ∧ (t.inst 7).parentPort = some 7 ∧
      (t.inst 7).parent.src = m.src ∧ (t.inst 7).heldSync = none) ∧
    (∃ (s t : State) (m : PtpMsg) (h : SyncHeld), (s.ptpAccept 7 7 m 44).1 = some t ∧ (t.inst 7).heldSync = some h ∧ h.port = 7 ∧ h.src = m.src ∧
      h.seq = m.seq) ∧
    (∃ (s t : State) (m : PtpMsg), (s.ptpAccept 7 7 m 44).1 = some t ∧ t.rd (portStateFld 7 7) = psMaster) ∧
    (∃ (s t : State) (m : PtpMsg), (s.ptpAccept 7 7 m 54).1 = some t ∧ (t.inst 7).reqT3 = none) ∧
    (∃ (s t : State) (m : PtpMsg), (s.ptpAccept 7 7 m 54).1 = some t ∧ (t.inst 7).reqT3 = some 5 ∧ (t.inst 7).reqSeq = m.seq ∧ (t.inst 7).reqPort = 7 ∧
      m.req = 7 * 8 + 7 ∧ (t.inst 7).syncOk = false) ∧
    (∃ (s t : State) (m : PtpMsg), (s.ptpAccept 7 7 m 54).1 = some t ∧ ((t.inst 7).pd 7).sent = true ∧ ((t.inst 7).pd 7).seq = m.seq ∧ m.twoStep = true ∧
      ((t.inst 7).pd 7).waitFup = true) ∧
    (∃ (s t : State) (m : PtpMsg), (s.ptpAccept 7 7 m 64).1 = some t) ∧ (∃ (s t : State) (m : PtpMsg), (s.ptpAccept 7 7 m 48).1 = some t) ∧
    (∃ (s : State) (h : PtpHeld), (s.inst 7).unmatched = h :: [] ∧ (s.inst 7).parentPort = some 7) := by
  have acc : ∀ (x : PtpInst) (st : Nat) (m : PtpMsg) (n : Nat),
      (({ ptpOn st 0 with car := { inst := [(7, x)] } } : State).ptpAccept 7 7 m n).1.isSome = true →
      (({ ptpOn st 0 with car := { inst := [(7, x)] } } : State).ptpAccept 7 7 m n).1 = some
        ((({ ptpOn st 0 with car := { inst := [(7, x)] } } : State).ptpAccept 7 7 m n).1.getD {}) := by
    intro x st m n h; obtain ⟨y, hy⟩ := Option.isSome_iff_exists.mp h; rw [hy]; rfl
  exact
  ⟨⟨_, _, { src := 3 }, acc { parentPort := some 7, parent := { src := 3 } } psSlave _ _ (by decide +kernel), by decide +kernel⟩,
   ⟨_, _, { src := 3 }, ⟨7, 3, 0, 1, 0⟩, acc { heldSync := some ⟨7, 3, 0, 1, 0⟩ } psSlave _ _ (by decide +kernel), by decide +kernel⟩,
   ⟨_, _, { msgLen := 44, frameLen := 44 }, acc {} psMaster _ _ (by decide +kernel), by decide +kernel⟩,
   ⟨_, _, { msgLen := 54 }, acc {} psSlave _ _ (by decide +kernel), by decide +kernel⟩,
   ⟨_, _, { req := 63, seq := 65535 }, acc { reqT3 := some 5, reqSeq := 65535, reqPort := 7 } psSlave _ _ (by decide +kernel), by decide +kernel⟩,
   ⟨_, _, { twoStep := true }, acc { peer := [(7, { sent := true, waitFup := true })] } psSlave _ _ (by decide +kernel), by decide +kernel⟩,
   ⟨_, _, {}, acc {} psSlave _ _ (by decide +kernel)⟩, ⟨_, _, { msgLen := 48, frameLen := 48 }, acc {} psSlave _ _ (by decide +kernel)⟩,
   ⟨{ car := { inst := [(7, { unmatched := [⟨7, 9, 0, 0⟩], parentPort := some 7 })] } }, ⟨7, 9, 0, 0⟩, by decide⟩⟩

theorem witness_CarryingTime :
    (∃ s : State, 10 ≤ (s.sin (7 + 4)).frames) ∧
    ((({} : State).sin (7 + 4)).frames < 10 ∧ (qlOrder (({} : State).rd F.FST_SYNCE_CFG_EEC_TYPE)).contains 2 = true) ∧
    (∃ s : State, s.rd F.FST_SYNCE_STATUS_SEL_INPUT = 7 + 4) ∧ (∃ s : State, (s.sin 11).holdOff = true ∧ (s.sin 11).wtr = true) ∧
    (∃ s : State, (Map.get s.car.ppsOut {} 1).high = true) ∧
    (∃ s : State, s.rd (F.FST_PPS_OUT_CFG_ENABLE 1) = 1 ∧ s.ppsAllowed 1 = true ∧ Map.get s.car.ppsOut {} 1 = {}) ∧
    (∃ s : State, (Map.get s.car.ppsIn {} 1).lastEdge = some 0 ∧ s.fst.now + (0 : Nat) - 0 < 65536 * 999900000) ∧
    (Map.get ({} : State).car.ppsIn {} 1).lastEdge = none ∧
    (∃ s : State, (Map.get s.car.ppsIn {} 1).edge = some 0 ∧ 65536 * 10000000 ≤ s.fst.now - 0 ∧ s.fst.now - 0 ≤ 65536 * 990000000) ∧
    (∃ s : State, (s.func (mgmtOf 3)).cfg.ptmEnable = true ∧ s.rd (F.HIF_LINK_STATUS_DL_UP 3) = 1) ∧
    (Map.get ({} : State).car.ptm {} 3).open_ = none ∧
    (∃ s : State, (Map.get s.car.ptm {} 3).open_ = some 0 ∧ s.fst.now - 0 < 1 ∧ 0 ≤ s.fst.now - 0) ∧
    (∃ (s : State) (c : AdmCmd), s.Checked 0 0x0B false [0xFFFFFFFFFFFFFFFF] (fun c => c.word 8 % 128 == 0) c) ∧
    (∃ s : State, (s.prt1 7).calWait = true) ∧ (∃ s : State, s.rd (F.PRT_LINK_STATUS_UP 7) = 1) ∧
    (∃ s : State, s.rd F.FST_SYNCE_STATUS_SEL_INPUT < 12) :=
  ⟨⟨{ car := { syncIn := [(11, { frames := 10 })] } }, by decide⟩, by decide +kernel, ⟨at1 F.FST_SYNCE_STATUS_SEL_INPUT 11, by decide +kernel⟩,
   ⟨{ car := { syncIn := [(11, { holdOff := true, wtr := true })] } }, by decide⟩, ⟨{ car := { ppsOut := [(1, { high := true })] } }, by decide⟩,
   ⟨(at1 (F.FST_PPS_OUT_CFG_ENABLE 1) 1).wr (F.FST_PPS_OUT_CFG_SQUELCH 1) 0, by decide +kernel⟩, ⟨{ car := { ppsIn := [(1, { lastEdge := some 0 })] } }, by decide +kernel⟩, by decide,
   ⟨{ car := { ppsIn := [(1, { edge := some 0 })] }, fst := { ns := 10000000 } }, by decide +kernel⟩,
   ⟨{ at1 (F.HIF_LINK_STATUS_DL_UP 3) 1 with funcs := [(6, { cfg := { ptmEnable := true } })] }, by decide +kernel⟩, by decide,
   ⟨{ car := { ptm := [(3, { open_ := some 0 })] } }, by decide +kernel⟩,
   ⟨given {} (plainCmd 0x0B 2055 [0x1000]), plainCmd 0x0B 2055 [0x1000], checked_of (by decide +kernel)⟩,
   ⟨{ prt := { port := [(7, { calWait := true })] } }, by decide⟩, ⟨at1 (F.PRT_LINK_STATUS_UP 7) 1, by decide +kernel⟩,
   ⟨at1 F.FST_SYNCE_STATUS_SEL_INPUT 11, by decide +kernel⟩⟩

theorem parses_of {s : State} {k w : Nat} {c : ParseCore} {p : Pkt}
    (h : (decide (s.core k = c) && decide (c.pkt = some p) && decide (s.parseInsn k = some w) && !c.stalled) = true) : s.Parses k w c p := by
  simp only [Bool.and_eq_true, decide_eq_true_eq, Bool.not_eq_true'] at h
  exact ⟨h.1.1.1, h.1.1.2, h.1.2, h.2⟩

/-- A parse instruction: opcode, X, L, immediate. -/
def pWord (op x l imm : Nat) : Nat := op * 2 ^ 58 + x * 2 ^ 40 + l * 2 ^ 32 + imm

/-- A parse core with a packet of n zero bytes, of which some have arrived, and its cursor. -/
def pCore (n arrived cur : Nat) : ParseCore := { pkt := some (pPkt n), arrived := arrived, cur := cur }

/-- The last parse core stands at an instruction of version 0. -/
def parsing (w : Nat) (c : ParseCore) : State :=
  { path := { cores := [(271, c)], versions := [(0, { parse := [BitVec.ofNat 64 w] })] } }

theorem witness_ParseRegisterInstructions :
    (∀ op ∈ [0x03, 0x04, 0x05, 0x06, 0x07, 0x08, 0x09, 0x0A, 0x0C, 0x0D, 0x0F, 0x10, 0x12, 0x13],
      (parsing (pWord op 0 0 0) (pCore 0 0 0)).Parses 271 (pWord op 0 0 0) (pCore 0 0 0) (pPkt 0) ∧ pOp (pWord op 0 0 0) = op) ∧
    (∃ (w : Nat) (c : ParseCore) (p : Pkt) (s : State), s.Parses 271 w c p ∧ pOp w = 0x11 ∧ c.cur + pX w ≤ min p.data.length 511) ∧
    (∃ (w : Nat) (c : ParseCore) (p : Pkt) (s : State), s.Parses 271 w c p ∧ pOp w = 0x11 ∧ min p.data.length 511 < c.cur + pX w) := by
  refine ⟨?_, ⟨pWord 0x11 64 0 0, pCore 64 64 0, pPkt 64, parsing (pWord 0x11 64 0 0) (pCore 64 64 0), parses_of (by decide +kernel), by decide +kernel⟩,
    ⟨pWord 0x11 64 0 0, pCore 64 64 1, pPkt 64, parsing (pWord 0x11 64 0 0) (pCore 64 64 1), parses_of (by decide +kernel), by decide +kernel⟩⟩
  have h : ∀ op ∈ [0x03, 0x04, 0x05, 0x06, 0x07, 0x08, 0x09, 0x0A, 0x0C, 0x0D, 0x0F, 0x10, 0x12, 0x13],
      (decide ((parsing (pWord op 0 0 0) (pCore 0 0 0)).core 271 = pCore 0 0 0) && decide ((pCore 0 0 0).pkt = some (pPkt 0)) &&
        decide ((parsing (pWord op 0 0 0) (pCore 0 0 0)).parseInsn 271 = some (pWord op 0 0 0)) && !(pCore 0 0 0).stalled) = true ∧
      pOp (pWord op 0 0 0) = op := by decide +kernel
  exact fun op ho => ⟨parses_of (h op ho).1, (h op ho).2⟩

theorem witness_ParseWindowInstructions :
    (∀ op ∈ [0x01, 0x02, 0x0B, 0x0E], ∃ (w : Nat) (c : ParseCore) (p : Pkt) (s : State), s.Parses 271 w c p ∧ pOp w = op ∧
      c.Holds (c.cur + pX w) (pL w) ∧ c.Holds (c.cur + pX w) ((pImm w % 8 + pL w + 7) / 8)) ∧
    (∀ op ∈ [0x01, 0x0B, 0x0E], ∃ (w : Nat) (c : ParseCore) (p : Pkt) (s : State), s.Parses 271 w c p ∧ pOp w = op ∧
      min p.data.length 512 < c.cur + pX w + pL w) ∧
    (∃ (w : Nat) (c : ParseCore) (p : Pkt) (s : State), s.Parses 271 w c p ∧ pOp w = 0x01 ∧ c.cur + pX w + pL w ≤ min p.data.length 512 ∧
      c.arrived < c.cur + pX w + pL w) := by
  refine ⟨fun op ho => ⟨pWord op 510 2 0, pCore 512 512 0, pPkt 512, parsing (pWord op 510 2 0) (pCore 512 512 0), parses_of ?_, ?_⟩,
    fun op ho => ⟨pWord op 510 2 0, pCore 511 511 0, pPkt 511, parsing (pWord op 510 2 0) (pCore 511 511 0), parses_of ?_, ?_⟩,
    ⟨pWord 1 510 2 0, pCore 512 511 0, pPkt 512, parsing (pWord 1 510 2 0) (pCore 512 511 0), parses_of (by decide +kernel), by decide +kernel⟩⟩
  all_goals revert op; try unfold ParseCore.Holds
  all_goals decide +kernel

theorem witness_ParseTakeAndMatch :
    (∃ (s : State) (p : Pkt), s.path.wait = p :: [] ∧ s.coreFree 255 = true ∧ min 64 p.data.length ≤ 64 ∧ s.rd F.PRS_STATUS_RULESET = 0) ∧
    (∃ (s : State) (p : Pkt), s.path.wait = p :: [] ∧ s.coreFree 255 = true ∧ min 64 p.data.length ≤ 64 ∧ s.rd F.PRS_STATUS_RULESET = 1) ∧
    ({} : State).coreFree 272 = false ∧
    (∃ (s : State) (m : InMatch), s.path.inMatch.find? (fun m => m.pkt.id == 0) = some m ∧ m.stage < 15 ∧ m.retry = none) ∧
    (∃ (s : State) (m : InMatch), s.path.inMatch.find? (fun m => m.pkt.id == 1) = some m ∧ m.stage = 15 ∧ s.olderInMatch m.pkt = true) ∧
    (∃ (s : State) (p : Pkt), (s.core 271).pkt = some p ∧ (s.core 271).second = false ∧ s.coreFree 0 = true ∧ (0 : Nat) ≠ 271) :=
  ⟨⟨{ path := { wait := [pPkt 64] } }, pPkt 64, by decide +kernel⟩,
   ⟨{ at1 F.PRS_STATUS_RULESET 1 with path := { wait := [pPkt 64] } }, pPkt 64, by decide +kernel⟩,
   by decide +kernel,
   ⟨{ path := { inMatch := [{ pkt := {}, stage := 14, first := 0 }] } }, { pkt := {}, stage := 14, first := 0 }, by decide +kernel⟩,
   ⟨{ path := { inMatch := [{ pkt := { id := 1 }, stage := 15, first := 0 }, { pkt := {}, stage := 3, first := 0 }] } },
    { pkt := { id := 1 }, stage := 15, first := 0 }, by decide +kernel⟩,
   ⟨parsing 0 (pCore 1 1 0), pPkt 1, by decide +kernel⟩⟩

/-- A version that the loader accepts: one DONE, and a START and a SUP program of two words and one. -/
def goodVersion : Version where
  num := 1
  parse := [BitVec.ofNat 64 (pWord 0x12 0 0 0)]
  entries := [0, 0, 0, 0]
  hasImage := true
  image := Mem.putLe (Mem.putLe (Mem.putLe (Mem.putLe (Mem.putLe [] 0 8 (128 + 2 ^ 11 + 2 * 2 ^ 32 + 2 * 2 ^ 48)) 8 8 (130 + 2 ^ 11 + 2 ^ 32 + 2 ^ 48))
    512 4 0x10200001) 516 4 0xF8010002) 520 4 0xF8000004

/-- With version 1 open. -/
def opened (s : State) : State := { (s.wr F.MAT_VER_STATUS_OPEN 1).wr F.MAT_VER_STATUS_OPEN_VER 1 with path := { versions := [(1, goodVersion)] } }

theorem loader_accepts : (opened {}).checkVersion goodVersion = none := by decide +kernel

theorem witness_RulesetCommands :
    (∃ (s : State) (c : AdmCmd), s.Checked 0 0x20 true [0xFFFF] (fun c => !s.rdB F.PRS_STATUS_RULESET ||
      bitsOf (c.word 8) 0 16 == (s.rd F.MAT_VER_STATUS_CURRENT + 1) % 65536) c ∧ s.rd F.MAT_VER_STATUS_OPEN = 1) ∧
    (∃ (s : State) (c : AdmCmd), s.Checked 0 0x20 true [0xFFFF] (fun c => !s.rdB F.PRS_STATUS_RULESET ||
      bitsOf (c.word 8) 0 16 == (s.rd F.MAT_VER_STATUS_CURRENT + 1) % 65536) c ∧ s.rd F.MAT_VER_STATUS_OPEN = 0 ∧ 4 ≤ s.rd F.MAT_VER_STATUS_LIVE) ∧
    (∃ (s : State) (c : AdmCmd), s.Checked 0 0x20 true [0xFFFF] (fun c => !s.rdB F.PRS_STATUS_RULESET ||
      bitsOf (c.word 8) 0 16 == (s.rd F.MAT_VER_STATUS_CURRENT + 1) % 65536) c ∧ s.rd F.MAT_VER_STATUS_OPEN = 0 ∧ s.rd F.MAT_VER_STATUS_LIVE < 4 ∧
      s.path.clearing.contains (bitsOf (c.word 8) 0 16 % 4) = false ∧ s.rd F.PRS_STATUS_RULESET = 0) ∧
    (∀ object ∈ [0, 9], ∃ (s : State) (c : AdmCmd), s.admCmd 0 0x21 true = some c ∧ (c.reads && c.opRead != 0) = false ∧
      s.isOpen (bitsOf (c.word 8) 0 16) = false ∧ bitsOf (c.word 8) 16 8 = object) ∧
    (∃ (s : State) (c : AdmCmd), bitsOf (c.word 8) 16 8 = 3 ∧ s.Checked 0 0x21 true stageMasks (fun c => s.isOpen (bitsOf (c.word 8) 0 16)
      && s.stageLen (bitsOf (c.word 8) 16 8) (bitsOf (c.word 8) 32 16) (bitsOf (c.word 0x20) 0 32) == some (bitsOf (c.word 0x20) 0 32)) c) ∧
    (∃ (s : State) (c : AdmCmd), s.Checked 0 0x22 true [0xFFFF] (fun c => s.isOpen (bitsOf (c.word 8) 0 16)) c) ∧
    (∃ (s t : State) (c : AdmCmd), s.Verified 0 0x23 [0xFFFF] (fun _ => true) c t ∧ t.isOpen (bitsOf (c.word 8) 0 16) = true ∧
      t.checkVersion (t.ver (bitsOf (c.word 8) 0 16)) = none) :=
  ⟨⟨given (at1 F.MAT_VER_STATUS_OPEN 1) (plainCmd 0x20 0 [1]), plainCmd 0x20 0 [1], checked_of (by decide +kernel), by decide +kernel⟩,
   ⟨given (at1 F.MAT_VER_STATUS_LIVE 4) (plainCmd 0x20 0 [1]), plainCmd 0x20 0 [1], checked_of (by decide +kernel), by decide +kernel⟩,
   ⟨given (at1 F.MAT_VER_STATUS_LIVE 3) (plainCmd 0x20 0 [1]), plainCmd 0x20 0 [1], checked_of (by decide +kernel), by decide +kernel⟩,
   fun o ho => ⟨given {} (plainCmd 0x21 0 [1 + o * 65536]), plainCmd 0x21 0 [1 + o * 65536], by revert o; decide +kernel⟩,
   ⟨given (opened {}) (plainCmd 0x21 0 [1 + 3 * 65536]), plainCmd 0x21 0 [1 + 3 * 65536], by decide +kernel, checked_of (by decide +kernel)⟩,
   ⟨given (opened {}) (plainCmd 0x22 0 [1]), plainCmd 0x22 0 [1], checked_of (by decide +kernel)⟩,
   ⟨_, _, _, crit_verified (s := owned (opened {})) (target := 0) (ws := [1]) (by decide +kernel), by decide +kernel⟩⟩

/-- The structure of TABLE_CREATE in host memory: KIND 1, COUNT 256. -/
def tableAt : State := { opened {} with mem := Mem.putLe (Mem.putLe [] (hostKey 0 0x1000) 1 1) (hostKey 0 0x1010) 4 256 }

theorem witness_RulesetCommands_more :
    (∃ (s : State) (c : AdmCmd), bitsOf (c.word 8) 16 8 = 9 ∧ s.Checked 0 0x21 true stageMasks (fun c => s.isOpen (bitsOf (c.word 8) 0 16) &&
      bitsOf (c.word 0x20) 0 32 == 32 && decide (bitsOf (c.word 8) 32 16 ≤ 255)) c ∧ leAt (s.hostRead (s.attOf 0) (c.word 0x18) 32) 0 8 = 1 ∧
      leAt (s.hostRead (s.attOf 0) (c.word 0x18) 32) 20 12 = 0 ∧ isPow2 (leAt (s.hostRead (s.attOf 0) (c.word 0x18) 32) 16 4) = true ∧
      (Map.get s.path.tables {} (bitsOf (c.word 8) 32 16)).kind = 0 ∧
      s.path.sramUnits + sramNeed 1 (leAt (s.hostRead (s.attOf 0) (c.word 0x18) 32) 16 4) ≤ 114688 ∧ s.path.hbmBytes ≤ 44 * 2 ^ 30) ∧
    (∃ s : State, s.path.commit = some ⟨0, 1⟩ ∧ s.fst.cycle ≠ 0) ∧
    (∃ s : State, s.path.commit = some ⟨0, 1⟩ ∧ s.fst.cycle = 0 ∧ 0 < s.rd F.MAT_VER_STATUS_LIVE) ∧
    ({} : State).rd F.MAT_VER_STATUS_OLDEST = ({} : State).rd F.MAT_VER_STATUS_CURRENT ∧
    (∃ s : State, s.fst.cycle = 0 ∧ 2 ≤ s.rd F.MAT_VER_STATUS_LIVE ∧ s.rd F.MAT_VER_STATUS_OLDEST ≠ s.rd F.MAT_VER_STATUS_CURRENT ∧
      s.rd (F.MAT_INFLIGHT_COUNT (s.rd F.MAT_VER_STATUS_OLDEST % 4)) = 0) ∧
    (∃ s : State, s.path.settling = 1 :: [] ∧ s.path.clearing = 0 :: []) :=
  ⟨⟨given tableAt (plainCmd 0x21 0 [1 + 9 * 65536 + 255 * 2 ^ 32, 0, 0x1000, 32]), plainCmd 0x21 0 [1 + 9 * 65536 + 255 * 2 ^ 32, 0, 0x1000, 32],
    by decide +kernel, checked_of (by decide +kernel), by decide +kernel⟩,
   ⟨{ path := { commit := some ⟨0, 1⟩ }, fst := { cycle := 1 } }, by decide +kernel⟩,
   ⟨{ at1 F.MAT_VER_STATUS_LIVE 1 with path := { commit := some ⟨0, 1⟩ } }, by decide +kernel⟩, by decide +kernel,
   ⟨(at1 F.MAT_VER_STATUS_LIVE 2).wr F.MAT_VER_STATUS_CURRENT 1, by decide +kernel⟩,
   ⟨{ path := { settling := [1], clearing := [0] } }, by decide +kernel⟩⟩

theorem stands_of {s : State} {g e t w : Nat}
    (h : (decide (s.ts g e t = tRunnable) && !s.engHalted g e && s.board.step.isNone && !(s.thr g e t).overrun &&
      decide (s.pc g e t / 0x2000 = s.thrVer g e t % 4) && decide (128 ≤ s.pc g e t % 0x2000 / 4) &&
      decide ((s.ver (s.thrVer g e t)).word (s.pc g e t % 0x2000 / 4) = w) && pyKnown w && pyLegal w &&
      !(pyRegs w).any (fun r => (s.thr g e t).loads.any (fun x => x.1 == r))) = true) : s.Stands g e t w := by
  simp only [Bool.and_eq_true, decide_eq_true_eq, Bool.not_eq_true', Option.isNone_iff_eq_none] at h
  obtain ⟨⟨⟨⟨⟨⟨⟨⟨⟨h1, h2⟩, h3⟩, h4⟩, h5⟩, h6⟩, h7⟩, h8⟩, h9⟩, h10⟩ := h
  exact ⟨.inl h1, h2, h3, h4, ⟨h5, h6⟩, h7, h8, h9, h10⟩

/-- Thread t of engine 15 of gallery 63, in the given state beside its registers, stands at word 128 of version 0, which is w. -/
def py (t w : Nat) (x : Thread) : State :=
  { (({} : State).setTs 63 15 t tRunnable).setPc 63 15 t 512 with
    path := { versions := [(0, { image := Mem.putLe [] 512 4 w })] }, eng := { thr := [(thrKey 63 15 t, x)] } }

/-- An instruction word: opcode, D, A, B and the low bits. -/
def iw (op d a b low : Nat) : Nat := op * 2 ^ 26 + d * 2 ^ 21 + a * 2 ^ 16 + b * 2 ^ 11 + low

/-- A thread whose g1 holds a value. -/
def g1 (v : Nat) : Thread := { g := [(1, BitVec.ofNat 64 v)] }

theorem py_list {t : Nat} {x : Thread} {l : List Nat}
    (h : ∀ w ∈ l, (decide ((py t w x).ts 63 15 t = tRunnable) && !(py t w x).engHalted 63 15 && (py t w x).board.step.isNone &&
      !((py t w x).thr 63 15 t).overrun && decide ((py t w x).pc 63 15 t / 0x2000 = (py t w x).thrVer 63 15 t % 4) &&
      decide (128 ≤ (py t w x).pc 63 15 t % 0x2000 / 4) &&
      decide (((py t w x).ver ((py t w x).thrVer 63 15 t)).word ((py t w x).pc 63 15 t % 0x2000 / 4) = w) && pyKnown w && pyLegal w &&
      !(pyRegs w).any (fun r => ((py t w x).thr 63 15 t).loads.any (fun y => y.1 == r))) = true) :
    ∀ w ∈ l, (py t w x).Stands 63 15 t w := fun w hw => stands_of (h w hw)

theorem witness_PyrayRegisterArithmetic : ∀ fn < 0x14, ∃ (w : Nat) (s : State), s.Stands 63 15 7 w ∧ iOp w = 0x01 ∧ iFn w = fn := fun fn h =>
  ⟨iw 1 31 1 0 fn, py 7 (iw 1 31 1 0 fn) (g1 5), py_list (l := (List.range 0x14).map (fun fn => iw 1 31 1 0 fn)) (by decide +kernel) _
    (List.mem_map_of_mem (List.mem_range.mpr h)), by revert fn; decide +kernel⟩

theorem witness_PyrayImmediateArithmetic : ∀ op ∈ [2, 3, 4, 5, 6, 7, 8, 9, 10, 11], ∃ (w : Nat) (s : State), s.Stands 63 15 7 w ∧ iOp w = op :=
  fun op h => ⟨iw op 31 1 0 0, py 7 (iw op 31 1 0 0) (g1 5), py_list (l := [2, 3, 4, 5, 6, 7, 8, 9, 10, 11].map (fun op => iw op 31 1 0 0))
    (by decide +kernel) _ (List.mem_map_of_mem h), by revert op; decide +kernel⟩

theorem witness_PyrayMemory :
    (∀ op ∈ [0x10, 0x11, 0x12, 0x13, 0x18], ∃ (w : Nat) (s : State), s.Stands 63 15 7 w ∧ iOp w = op ∧ ∃ r, (s.issued 63 15).memRef 63 15 7
      ((s.gr 63 15 7 (iA w) + off64 w) % 2 ^ 64) (iN w) false = .ok r ∧
      (s.issued 63 15).memRef 63 15 7 ((s.gr 63 15 7 (iA w) + imm64 w) % 2 ^ 64) 8 false = .ok r) ∧
    (∀ op ∈ [0x14, 0x15, 0x16, 0x17, 0x19], ∃ (w : Nat) (s : State), s.Stands 63 15 7 w ∧ iOp w = op ∧ ∃ r, (s.issued 63 15).memRef 63 15 7
      ((s.gr 63 15 7 (iA w) + off64 w) % 2 ^ 64) (iN w) true = .ok r ∧
      (s.issued 63 15).memRef 63 15 7 ((s.gr 63 15 7 (iA w) + imm64 w) % 2 ^ 64) 8 true = .ok r) ∧
    (∀ op ∈ [0x10, 0x14], ∃ (w : Nat) (s : State), s.Stands 63 15 7 w ∧ iOp w = op ∧ (s.issued 63 15).memRef 63 15 7
      ((s.gr 63 15 7 (iA w) + imm64 w) % 2 ^ 64) 8 (op == 0x14) = .error 3) ∧
    (∀ op ∈ [0x1B, 0x1C], ∃ (w : Nat) (s : State), s.Stands 63 15 7 w ∧ iOp w = op) ∧
    (∀ n ∈ [0, 1], ∃ (w : Nat) (s : State) (p : Pkt), s.Stands 63 15 7 w ∧ iOp w = 0x1A ∧ s.noPacket 63 15 7 = false ∧
      (s.issued 63 15).noPacket 63 15 7 = false ∧ (s.thr 63 15 7).pkt = some p ∧ (s.gr 63 15 7 (iA w) + off64 w) % 2 ^ 64 + iN w = p.data.length + n) :=
  ⟨fun op h => ⟨iw op 2 1 0 0, py 7 (iw op 2 1 0 0) (g1 0x7FF8), py_list (l := [0x10, 0x11, 0x12, 0x13, 0x18].map (fun op => iw op 2 1 0 0))
      (by decide +kernel) _ (List.mem_map_of_mem h), by revert op; decide +kernel, (false, dmemAt 63 15 0x7FF8), by revert op; decide +kernel⟩,
   fun op h => ⟨iw op 2 1 0 0, py 7 (iw op 2 1 0 0) (g1 0x7FF8), py_list (l := [0x14, 0x15, 0x16, 0x17, 0x19].map (fun op => iw op 2 1 0 0))
      (by decide +kernel) _ (List.mem_map_of_mem h), by revert op; decide +kernel, (false, dmemAt 63 15 0x7FF8), by revert op; decide +kernel⟩,
   fun op h => ⟨iw op 2 1 0 0, py 7 (iw op 2 1 0 0) (g1 0x7FF9), py_list (l := [0x10, 0x14].map (fun op => iw op 2 1 0 0))
      (by decide +kernel) _ (List.mem_map_of_mem h), by revert op; decide +kernel⟩,
   fun op h => ⟨iw op 2 1 0 15, py 7 (iw op 2 1 0 15) (g1 5), py_list (l := [0x1B, 0x1C].map (fun op => iw op 2 1 0 15))
      (by decide +kernel) _ (List.mem_map_of_mem h), by revert op; decide +kernel⟩,
   fun n h => ⟨iw 0x1A 2 1 0 0, py 7 (iw 0x1A 2 1 0 0) { g1 (99 + n) with ctxs := [pPkt 100], running := true }, pPkt 100,
      stands_of (by revert n; decide +kernel), by revert n; decide +kernel⟩⟩

/-- The key of a flow entry in data memory, all zeros. -/
def zeroKey (n : Nat) : List Byte := List.replicate n 0

/-- Thread 7 with the given flow entries. -/
def pyFlow (w : Nat) (l : List Nat) : State :=
  { py 7 w (g1 0x7F80) with path := { (py 7 w (g1 0x7F80)).path with flow := l.map (fun i => (i, { valid := true, key := zeroKey 56 })) } }

/-- The two places where the entry of the zero key may stand. -/
def zeroAt : Nat × Nat := flowCands (zeroKey 56)

/-- Thread 7 with counter pairs 0 to i allocated. -/
def pyCtr (w i : Nat) : State :=
  { py 7 w (g1 i) with path := { (py 7 w (g1 i)).path with ctrRanges := [(0, i + 1)] } }

theorem witness_PyrayFlowAndCounters :
    (∀ op ∈ [0x30, 0x32], ∃ (w n : Nat) (s : State) (key : List Byte), s.Stands 63 15 7 w ∧ iOp w = op ∧
      (s.issued 63 15).flowRef 63 15 7 w 56 = .ok key ∧ (s.issued 63 15).flowFind key = some n) ∧
    (∃ (w : Nat) (s : State) (key : List Byte), s.Stands 63 15 7 w ∧ iOp w = 0x30 ∧
      (s.issued 63 15).flowRef 63 15 7 w 56 = .ok key ∧ (s.issued 63 15).flowFind key = none) ∧
    (∃ (w n : Nat) (s : State) (l : List Byte), s.Stands 63 15 7 w ∧ iOp w = 0x31 ∧
      (s.issued 63 15).flowRef 63 15 7 w 128 = .ok l ∧ (s.issued 63 15).flowFind ((l.drop 8).take 56) = some n) ∧
    (∃ (w : Nat) (s : State) (l : List Byte), s.Stands 63 15 7 w ∧ iOp w = 0x31 ∧
      (s.issued 63 15).flowRef 63 15 7 w 128 = .ok l ∧ (s.issued 63 15).flowFind ((l.drop 8).take 56) = none ∧
      ((s.issued 63 15).flow (flowCands ((l.drop 8).take 56)).1).valid = true ∧ ((s.issued 63 15).flow (flowCands ((l.drop 8).take 56)).2).valid = true) ∧
    (∀ op ∈ [0x33, 0x34], ∃ (w : Nat) (s : State), s.Stands 63 15 7 w ∧ iOp w = op ∧ s.gr 63 15 7 (iA w) < 33554432) ∧
    (∃ (w : Nat) (s : State), s.Stands 63 15 7 w ∧ iOp w = 0x34 ∧ 33554432 ≤ s.gr 63 15 7 (iA w)) ∧
    (∀ b : Bool, ∃ (w : Nat) (s : State), s.Stands 63 15 7 w ∧ iOp w = 0x35 ∧ s.gr 63 15 7 (iA w) < 33554432 ∧
      (s.issued 63 15).path.ctrAllocated (s.gr 63 15 7 (iA w)) = b) :=
  ⟨fun op h => ⟨iw op 2 1 0 0, zeroAt.1, pyFlow (iw op 2 1 0 0) [zeroAt.1], zeroKey 56, stands_of (by revert op; decide +kernel), by revert op; decide +kernel⟩,
   ⟨iw 0x30 2 1 0 0, pyFlow (iw 0x30 2 1 0 0) [], zeroKey 56, stands_of (by decide +kernel), by decide +kernel⟩,
   ⟨iw 0x31 2 1 0 0, zeroAt.2, pyFlow (iw 0x31 2 1 0 0) [zeroAt.2], zeroKey 128, stands_of (by decide +kernel), by decide +kernel⟩,
   ⟨iw 0x31 2 1 0 0, { pyFlow (iw 0x31 2 1 0 0) [] with path := { (pyFlow (iw 0x31 2 1 0 0) []).path with
      flow := [(zeroAt.1, { valid := true, key := [1] }), (zeroAt.2, { valid := true, key := [1] })] } }, zeroKey 128, stands_of (by decide +kernel), by decide +kernel⟩,
   fun op h => ⟨iw op (if op = 0x33 then 2 else 0) 1 0 0, py 7 (iw op (if op = 0x33 then 2 else 0) 1 0 0) (g1 33554431), stands_of (by revert op; decide +kernel), by revert op; decide +kernel⟩,
   ⟨iw 0x34 0 1 0 0, py 7 (iw 0x34 0 1 0 0) (g1 33554432), stands_of (by decide +kernel), by decide +kernel⟩,
   fun b => ⟨iw 0x35 0 1 0 0, if b then pyCtr (iw 0x35 0 1 0 0) 1000 else py 7 (iw 0x35 0 1 0 0) (g1 1000), stands_of (by revert b; decide +kernel), by revert b; decide +kernel⟩⟩

/-- A thread with that many return addresses and, where any, a loop. -/
def deep (v n : Nat) : Thread := { g1 v with rets := List.replicate n 600, loops := List.replicate n ⟨128, 130, 2⟩ }

theorem witness_PyrayControlFlow :
    (∀ op ∈ [0x20, 0x21, 0x22, 0x23, 0x24], ∃ (w : Nat) (s : State), s.Stands 63 15 7 w ∧ iOp w = op) ∧
    (∀ n ∈ [3, 4], ∃ (w : Nat) (s : State), s.Stands 63 15 7 w ∧ iOp w = 0x25 ∧ (s.thr 63 15 7).rets.length = n) ∧
    (∃ (w r : Nat) (l : List Nat) (s : State), s.Stands 63 15 7 w ∧ iOp w = 0x26 ∧ (s.thr 63 15 7).rets = r :: l) ∧
    (∀ v ∈ [1, 100, 101, 0], ∃ (w : Nat) (s : State), s.Stands 63 15 7 w ∧ iOp w = 0x27 ∧ iMax w = 100 ∧ iBA w = 1 ∧ s.gr 63 15 7 (iBA w) = v ∧
      (s.thr 63 15 7).loops.length < 4) ∧
    (∃ (w : Nat) (s : State), s.Stands 63 15 7 w ∧ iOp w = 0x27 ∧ iBA w = 0 ∧ 0 < iMax w ∧ (s.thr 63 15 7).loops.length < 4) ∧
    (∃ (w : Nat) (s : State), s.Stands 63 15 7 w ∧ iOp w = 0x28 ∧ s.gr 63 15 7 (iBA w) = 0) ∧
    (∃ (w : Nat) (f : LoopFrame) (l : List LoopFrame) (s : State), s.Stands 63 15 7 w ∧ iOp w = 0x28 ∧ s.gr 63 15 7 (iBA w) ≠ 0 ∧
      (s.thr 63 15 7).loops = f :: l) :=
  ⟨fun op h => ⟨if op = 0x24 then iw op 0 0 0 5 else iw op 1 2 0 5, py 7 (if op = 0x24 then iw op 0 0 0 5 else iw op 1 2 0 5) (g1 5),
      stands_of (by revert op; decide +kernel), by revert op; decide +kernel⟩,
   fun n h => ⟨iw 0x25 0 0 0 5, py 7 (iw 0x25 0 0 0 5) (deep 5 n), stands_of (by revert n; decide +kernel), by revert n; decide +kernel⟩,
   ⟨iw 0x26 0 0 0 0, 600, [], py 7 (iw 0x26 0 0 0 0) (deep 5 1), stands_of (by decide +kernel), by decide +kernel⟩,
   fun v h => ⟨iw 0x27 1 0 0 (100 * 1024 + 3), py 7 (iw 0x27 1 0 0 (100 * 1024 + 3)) (deep v 3), stands_of (by revert v; decide +kernel), by revert v; decide +kernel⟩,
   ⟨iw 0x27 0 0 0 (100 * 1024 + 3), py 7 (iw 0x27 0 0 0 (100 * 1024 + 3)) (deep 0 3), stands_of (by decide +kernel), by decide +kernel⟩,
   ⟨iw 0x28 1 0 0 0, py 7 (iw 0x28 1 0 0 0) (deep 0 1), stands_of (by decide +kernel), by decide +kernel⟩,
   ⟨iw 0x28 1 0 0 0, ⟨128, 130, 2⟩, [], py 7 (iw 0x28 1 0 0 0) (deep 9 1), stands_of (by decide +kernel), by decide +kernel⟩⟩

/-- Thread 7 whose g1 is 2^24, with the register field given. -/
def pyAt (w : Nat) (f : Fld) (v : Nat) : State := (py 7 w (g1 0x1000000)).wr f v

theorem witness_PyrayEventsSumpsLocks :
    (∃ (w : Nat) (s : State), s.Stands 63 15 7 w ∧ iOp w = 0x29 ∧ iFn w = 31) ∧
    (∃ (w x : Nat) (s : State), s.Stands 63 15 7 w ∧ iOp w = 0x29 ∧ iFn w = 15 ∧ (s.issued 63 15).engAt 63 (iFn w) = some x) ∧
    (∃ (w : Nat) (s : State), s.Stands 63 15 7 w ∧ iOp w = 0x2A ∧ (s.thr 63 15 7).lock = none ∧ s.gr 63 15 7 (iA w) % 2 ^ 25 ≠ 0 ∧
      (s.issued 63 15).events 63 15 &&& (s.gr 63 15 7 (iA w) % 2 ^ 25) ≠ 0) ∧
    (∃ (w : Nat) (s : State), s.Stands 63 15 7 w ∧ iOp w = 0x2A ∧ (s.thr 63 15 7).lock = none ∧ s.gr 63 15 7 (iA w) % 2 ^ 25 ≠ 0 ∧
      (s.issued 63 15).events 63 15 &&& (s.gr 63 15 7 (iA w) % 2 ^ 25) = 0) ∧
    (∃ (w : Nat) (s : State), s.Stands 63 15 7 w ∧ iOp w = 0x2A ∧ (s.thr 63 15 7).lock = none ∧ s.gr 63 15 7 (iA w) % 2 ^ 25 = 0) ∧
    (∃ (w : Nat) (s : State), s.Stands 63 15 7 w ∧ iOp w = 0x2B) ∧
    (∃ (w k : Nat) (s : State), s.Stands 63 15 7 w ∧ iOp w = 0x2C ∧ sumpKey 63 (iSid w) = some k ∧ iTag w = 2 ∧
      (s.issued 63 15).sumpPartial k + 1 < 511 ∧ (s.issued 63 15).putWaits k (unitThread 63 15 7) = false) ∧
    (∃ (w : Nat) (s : State), s.Stands 63 15 7 w ∧ iOp w = 0x2C ∧ sumpKey 63 (iSid w) = none) ∧
    (∃ (w k : Nat) (s : State), s.Stands 63 15 7 w ∧ iOp w = 0x2D ∧ sumpKey 63 (iSid w) = some k ∧
      (s.issued 63 15).getWaits k (unitThread 63 15 7) = false) ∧
    (∃ (w k : Nat) (s : State), s.Stands 63 15 7 w ∧ iOp w = 0x2D ∧ sumpKey 63 (iSid w) = some k ∧
      (s.issued 63 15).getWaits k (unitThread 63 15 7) = true ∧ iNb w = 1) ∧
    (∃ (w : Nat) (s : State), s.Stands 63 15 7 w ∧ iOp w = 0x2E ∧ (s.thr 63 15 7).lock = none ∧ (s.issued 63 15).lockHeld 63 (iImm w % 64) = false ∧
      Map.get ((s.issued 63 15).gal 63).lockWait [] (iImm w % 64) = []) ∧
    (∃ (w n : Nat) (s : State), s.Stands 63 15 7 w ∧ iOp w = 0x2F ∧ (s.thr 63 15 7).lock = some n) ∧
    (∃ (w : Nat) (s : State), s.Stands 63 15 7 w ∧ iOp w = 0x2F ∧ (s.thr 63 15 7).lock = none) :=
  ⟨⟨iw 0x29 0 1 0 31, py 7 (iw 0x29 0 1 0 31) (g1 0x1000000), stands_of (by decide +kernel), by decide +kernel⟩,
   ⟨iw 0x29 0 1 0 15, 4, pyAt (iw 0x29 0 1 0 15) (F.PE_STATUS_POS 63 4) 15, stands_of (by decide +kernel), by decide +kernel⟩,
   ⟨iw 0x2A 2 1 0 0, pyAt (iw 0x2A 2 1 0 0) (F.PE_EVENTS_EVENTS 63 15) 0x1000000, stands_of (by decide +kernel), by decide +kernel⟩,
   ⟨iw 0x2A 2 1 0 0, pyAt (iw 0x2A 2 1 0 0) (F.PE_EVENTS_EVENTS 63 15) 1, stands_of (by decide +kernel), by decide +kernel⟩,
   ⟨iw 0x2A 2 0 0 0, py 7 (iw 0x2A 2 0 0 0) (g1 1), stands_of (by decide +kernel), by decide +kernel⟩,
   ⟨iw 0x2B 0 1 0 0, py 7 (iw 0x2B 0 1 0 0) (g1 1), stands_of (by decide +kernel), by decide +kernel⟩,
   ⟨iw 0x2C 0 1 0 (511 * 128 + 2 * 16), 63 * 36 + 35, py 7 (iw 0x2C 0 1 0 (511 * 128 + 2 * 16)) (g1 1), stands_of (by decide +kernel), by decide +kernel⟩,
   ⟨iw 0x2C 0 1 0 (32 * 128 + 2 * 16), py 7 (iw 0x2C 0 1 0 (32 * 128 + 2 * 16)) (g1 1), stands_of (by decide +kernel), by decide +kernel⟩,
   ⟨iw 0x2D 2 0 0 0, 63 * 36, pyAt (iw 0x2D 2 0 0 0) (sPkts (63 * 36)) 1, stands_of (by decide +kernel), by decide +kernel⟩,
   ⟨iw 0x2D 2 0 0 64, 63 * 36, py 7 (iw 0x2D 2 0 0 64) (g1 1), stands_of (by decide +kernel), by decide +kernel⟩,
   ⟨iw 0x2E 0 0 0 63, py 7 (iw 0x2E 0 0 0 63) (g1 1), stands_of (by decide +kernel), by decide +kernel⟩,
   ⟨iw 0x2F 0 0 0 0, 63, py 7 (iw 0x2F 0 0 0 0) { lock := some 63 }, stands_of (by decide +kernel), by decide +kernel⟩,
   ⟨iw 0x2F 0 0 0 0, py 7 (iw 0x2F 0 0 0 0) {}, stands_of (by decide +kernel), by decide +kernel⟩⟩

/-- A packet of 384 bytes in the working buffer of thread 7, its header window 0 to 384. -/
def pyEnd (w : Nat) (lock : Option Nat) : State :=
  let s := py 7 w { ctxs := [pPkt 384], running := true, lock := lock }
  { s with eng := { s.eng with dmem := Mem.putLe [] (dmemAt 63 15 (s.bufAt 63 15 7) + 88) 8 (384 * 512) } }

theorem witness_PyrayEndings :
    (∀ fn ∈ [0, 1, 2, 3], ∃ (w : Nat) (s : State) (p : Pkt), s.Stands 63 15 7 w ∧ iOp w = 0x38 ∧ (s.issued 63 15).noPacket 63 15 7 = false ∧
      ((s.issued 63 15).thr 63 15 7).pkt = some p ∧ ((s.issued 63 15).thr 63 15 7).gone = false ∧
      (s.issued 63 15).sumpClaims (unitThread 63 15 7) true = [] ∧ (s.issued 63 15).sumpClaims (unitThread 63 15 7) false = [] ∧
      ((s.issued 63 15).thr 63 15 7).lock = none ∧ iFn w = fn ∧
      bitsOf (Mem.le (s.issued 63 15).eng.dmem (dmemAt 63 15 ((s.issued 63 15).bufAt 63 15 7) + 88) 8) 0 9 = 0 ∧
      bitsOf (Mem.le (s.issued 63 15).eng.dmem (dmemAt 63 15 ((s.issued 63 15).bufAt 63 15 7) + 88) 8) 9 9 = 384) ∧
    (∃ (w n : Nat) (s : State) (p : Pkt), s.Stands 63 15 7 w ∧ iOp w = 0x38 ∧ (s.issued 63 15).noPacket 63 15 7 = false ∧
      ((s.issued 63 15).thr 63 15 7).pkt = some p ∧ ((s.issued 63 15).thr 63 15 7).gone = false ∧
      (s.issued 63 15).sumpClaims (unitThread 63 15 7) true = [] ∧ (s.issued 63 15).sumpClaims (unitThread 63 15 7) false = [] ∧
      ((s.issued 63 15).thr 63 15 7).lock = some n ∧ iFn w = 3) :=
  ⟨fun fn h => ⟨iw 0x38 0 0 0 fn, pyEnd (iw 0x38 0 0 0 fn) none, pPkt 384, stands_of (by revert fn; decide +kernel), by revert fn; decide +kernel⟩,
   ⟨iw 0x38 0 0 0 3, 5, pyEnd (iw 0x38 0 0 0 3) (some 5), pPkt 384, stands_of (by decide +kernel), by decide +kernel⟩⟩

/-- Thread 0 with its state before SUPERVISOR, SUP_ACTIVE, and the state of thread 7. -/
def pySup (w act t7 : Nat) : State := (((py 0 w { g1 2 with before := tIdle }).wr (F.PE_SUP_SUP_ACTIVE 63 15) act).setTs 63 15 7 t7)

theorem witness_PyrayThreadControl :
    (∀ k ∈ [0, 17, 255], ∃ (w : Nat) (s : State), s.Stands 63 15 7 w ∧ iOp w = 0x3C ∧ iImm w % 256 = k) ∧
    (∃ (w : Nat) (s : State), s.Stands 63 15 0 w ∧ iOp w = 0x3D ∧ iImm w % 256 = 14) ∧
    (∃ (w : Nat) (s : State), s.Stands 63 15 7 w ∧ iOp w = 0x3D) ∧
    (∃ (w : Nat) (s : State), s.Stands 63 15 0 w ∧ iOp w = 0x3E ∧ iFn w = 0) ∧ (∃ (w : Nat) (s : State), s.Stands 63 15 7 w ∧ iOp w = 0x3E ∧ iFn w = 0) ∧
    (∀ st ∈ [tHeld, tFaulted], ∃ (w : Nat) (s : State), s.Stands 63 15 0 w ∧ iOp w = 0x3E ∧ iFn w = 1 ∧ (s.issued 63 15).ts 63 15 (iT w) = st) ∧
    (∃ (w : Nat) (s : State), s.Stands 63 15 0 w ∧ iOp w = 0x3E ∧ iFn w = 2 ∧ bitOf (s.gr 63 15 0 (iA w)) 0 = false) ∧
    (∃ (w : Nat) (s : State), s.Stands 63 15 0 w ∧ iOp w = 0x3E ∧ iFn w = 3 ∧ (s.issued 63 15).ts 63 15 (iT w) = tFaulted) ∧
    (∀ a ∈ [0, 1], ∃ (w : Nat) (s : State), s.Stands 63 15 0 w ∧ iOp w = 0x3E ∧ iFn w = 4 ∧
      (s.issued 63 15).rd (F.PE_SUP_SUP_ACTIVE 63 15) = a ∧ (s.thr 63 15 0).before = tIdle) ∧
    (∀ b : Bool, ∃ (w : Nat) (s : State), s.Stands 63 15 7 w ∧ iOp w = 0x3F ∧ (s.engn 63 15).armed = b) :=
  ⟨fun k h => ⟨iw 0x3C 2 0 0 k, py 7 (iw 0x3C 2 0 0 k) {}, stands_of (by revert k; decide +kernel), by revert k; decide +kernel⟩,
   ⟨iw 0x3D 0 1 0 14, py 0 (iw 0x3D 0 1 0 14) {}, stands_of (by decide +kernel), by decide +kernel⟩,
   ⟨iw 0x3D 0 1 0 14, py 7 (iw 0x3D 0 1 0 14) {}, stands_of (by decide +kernel), by decide +kernel⟩,
   ⟨iw 0x3E 2 0 0 0, py 0 (iw 0x3E 2 0 0 0) {}, stands_of (by decide +kernel), by decide +kernel⟩,
   ⟨iw 0x3E 2 0 0 0, py 7 (iw 0x3E 2 0 0 0) {}, stands_of (by decide +kernel), by decide +kernel⟩,
   fun st h => ⟨iw 0x3E 2 1 0 (7 * 64 + 1), pySup (iw 0x3E 2 1 0 (7 * 64 + 1)) 0 st, stands_of (by revert st; decide +kernel), by revert st; decide +kernel⟩,
   ⟨iw 0x3E 0 1 0 2, pySup (iw 0x3E 0 1 0 2) 0 0, stands_of (by decide +kernel), by decide +kernel⟩,
   ⟨iw 0x3E 0 0 0 (7 * 64 + 3), pySup (iw 0x3E 0 0 0 (7 * 64 + 3)) 0 tFaulted, stands_of (by decide +kernel), by decide +kernel⟩,
   fun a h => ⟨iw 0x3E 0 0 0 4, pySup (iw 0x3E 0 0 0 4) a 0, stands_of (by revert a; decide +kernel), by revert a; decide +kernel⟩,
   fun b => ⟨iw 0x3F 0 0 0 0, { py 7 (iw 0x3F 0 0 0 0) {} with eng := { (py 7 (iw 0x3F 0 0 0 0) {}).eng with eng := [(engKey 63 15, { armed := b })] } },
     stands_of (by revert b; decide +kernel), by revert b; decide +kernel⟩⟩

theorem witness_PyrayGeneralRegisters : ∃ r k t t' : Nat, r ≠ 0 ∧ k ≠ r ∧ t < 8 ∧ t' < 8 ∧ t' ≠ t := ⟨31, 0, 7, 0, by decide⟩

/-- A state of gallery 63. -/
def galAt (x : Gallery) : State := { eng := { gal := [(63, x)] } }

/-- A state of thread 7 of engine 15 of gallery 63 and its thread state. -/
def thrAt (st : Nat) (x : Thread) : State := { ({} : State).setTs 63 15 7 st with eng := { thr := [(thrKey 63 15 7, x)] } }

/-- An engine check of engine 15. -/
def hwf : HwFault := { eng := 15, thread := 7, cause := 0xF0, pc := 512, corr := 1, drip := 5, aligned := false }

theorem witness_EngineCheck :
    (∃ (s : State) (h : HwFault), s.check 63 15 = some h ∧ h.started = false ∧ s.fst.cycle = 0 ∧ s.fst.drip ≠ h.drip) ∧
    (∃ (s : State) (h : HwFault), s.check 63 15 = some h ∧ h.started = true ∧ h.result = none ∧ h.drips = 3) ∧
    (∃ (s : State) (h : HwFault), s.check 63 15 = some h ∧ h.result = none ∧ h.drips = 2) ∧
    (∃ (s : State) (h : HwFault), s.check 63 15 = some h ∧ h.result = some true ∧ s.fst.atEdge = true) ∧
    (∃ (s : State) (h : HwFault), s.check 63 15 = some h ∧ h.result = some false ∧ s.fst.atEdge = true ∧ s.rd (F.PE_STATUS_POS 63 15) = 16) ∧
    (∃ (s : State) (h : HwFault), s.check 63 15 = some h ∧ h.result = some false ∧ s.fst.atEdge = true ∧ s.rd (F.PE_STATUS_POS 63 15) ≠ 16 ∧
      (List.range 17).find? (fun k => (((s.wr (F.PE_STATUS_STATE 63 15) 2).err (R.DSP_LASTING_CNT 63)).raise
        (F.GAL_INT_STATUS_ENGINE_RETIRED 63)).rd (F.PE_STATUS_STATE 63 k) == 1) = some 16) ∧
    (({} : State).check 63 15 = none) :=
  ⟨⟨galAt { hws := [hwf] }, hwf, by decide +kernel⟩,
   ⟨galAt { hws := [{ hwf with started := true, drips := 3 }] }, _, rfl, by decide +kernel⟩,
   ⟨galAt { hws := [{ hwf with started := true, drips := 2 }] }, _, rfl, by decide +kernel⟩,
   ⟨{ galAt { hws := [{ hwf with started := true, result := some true }] } with fst := { cycle := 0 } }, _, rfl, by decide +kernel⟩,
   ⟨{ (galAt { hws := [{ hwf with result := some false }] }).wr (F.PE_STATUS_POS 63 15) 16 with fst := { cycle := 0 } }, _, rfl, by decide +kernel⟩,
   ⟨{ ((galAt { hws := [{ hwf with result := some false }] }).wr (F.PE_STATUS_POS 63 15) 3).wr (F.PE_STATUS_STATE 63 16) 1 with fst := { cycle := 0 } },
      _, rfl, by decide +kernel⟩, rfl⟩

/-- A packet of version 0 and flow class 0 with a deadline. -/
def duePkt (late : Bool) : Pkt := { id := 9, late := late, deadline := 5, entry := some 0 }

/-- A state at drip 100 whose class policy is the given number, with that packet in the dispatcher of gallery 63. -/
def dueAt (pol : Nat) (x : Gallery) : State :=
  { galAt x with fst := { drip := 100 }, path := { versions := [(0, { policies := [(0, pol)] })] } }

theorem witness_DeadlinesAndHardwareFaults :
    (∀ n ∈ [1, 2, 3], ∃ (s : State) (p : Pkt) (w : Where), s.admitted 63 9 = some (p, w) ∧ p.late = false ∧ s.overdue p 0 = true ∧
      bitsOf (s.policyOf p) 0 2 = n) ∧
    (∃ (s : State) (p : Pkt) (w : Where), s.admitted 63 9 = some (p, w) ∧ p.late = true ∧ s.overdue p (bitsOf (s.policyOf p) 4 4) = true) ∧
    (∃ (s : State) (p : Pkt), (s.gal 63).input.find? (fun p => p.id == 9 && p.entry.isSome) = some p ∧ s.overdue p 0 = true) ∧
    (({} : State).rd (F.PE_STATUS_STATE 63 15) ≤ 1 ∧ (({} : State).thr 63 15 7).livePkt = none ∧ ({} : State).enginePkts 63 15 = []) ∧
    (∃ s : State, 2 ≤ s.rd (F.PE_STATUS_STATE 63 15)) ∧ (245 : Nat) ∉ [240, 241, 242, 244] :=
  ⟨fun n h => ⟨dueAt n { stalled := [duePkt false] }, duePkt false, .stalled, by revert n; decide +kernel⟩,
   ⟨dueAt 0xF1 { stalled := [duePkt true] }, duePkt true, .stalled, by decide +kernel⟩,
   ⟨dueAt 0 { input := [duePkt false] }, duePkt false, by decide +kernel⟩, by decide +kernel, ⟨at1 (F.PE_STATUS_STATE 63 15) 2, by decide +kernel⟩, by decide⟩

/-- Gallery 63 with lock 63 held or not. -/
def lockAt (b : Bool) : State := at1 (F.GAL_LOCK_HELD_HELD 63) (if b then 2 ^ 63 else 0)

/-- Engine 15 all of whose threads but 7 are idle, and thread 7 waits for an internal event; the state of thread 0. -/
def stallAt (t0 : Nat) : State :=
  ((((List.range 8).foldl (fun s t => s.setTs 63 15 t (if t = 0 then t0 else 1)) (thrAt 3 { waitMask := 1 })).setTs 63 15 7 3).wr
    (F.PE_THREAD_WAIT_KIND 63 15 7) 1).wr (F.PE_EVT_INTERNAL_INTERNAL 63 15) 1

theorem witness_SupervisorAndDispatcher :
    (∀ b : Bool, ∃ s : State, s.lockHeld 63 63 = b) ∧
    (∀ t0 ∈ [1, 0], ∃ s : State, (List.range 8).filter (fun t => s.ts 63 15 t != tIdle && s.ts 63 15 t != tHeld) = [7] ∧
      [7].all (fun t => s.internal 63 15 t) = true ∧ s.ts 63 15 0 = t0 ∧ s.rdB (F.PE_SUP_SUP_ACTIVE 63 15) = false) ∧
    (∀ st ∈ [1, 3], ∃ s : State, s.ts 63 15 0 = st ∧ s.rdB (F.PE_SUP_SUP_ACTIVE 63 15) = false ∧ s.supPending 63 15 = [8]) ∧
    (∃ s : State, s.ts 63 15 0 = tFaulted) ∧
    (∃ s : State, s.rdB (sProd (63 * 36 + 35)) = true ∧
      s.engHalted (s.rd (sProducer (63 * 36 + 35)) / 256 % 64) (s.rd (sProducer (63 * 36 + 35)) / 8 % 32) = false) ∧
    (∀ n ∈ [511, 512], ∃ (s : State) (p : Pkt), s.path.toGal.find? (fun x => x.1 == 63) = some (63, p) ∧ (s.gal 63).input.length = n) ∧
    (∃ (s : State) (y : Ended), (s.gal 63).ended.find? (fun y => y.pkt.id == 9) = some y ∧ y.pkt.ordered = false) ∧
    (∃ (s : State) (y : Ended), (s.gal 63).ended.find? (fun y => y.pkt.id == 9) = some y ∧ y.pkt.ordered = true ∧ s.olderInOrder 63 y.pkt = true ∧
      y.waited = true) :=
  ⟨fun b => ⟨lockAt b, by revert b; decide +kernel⟩, fun t h => ⟨stallAt t, by revert t; decide +kernel⟩,
   fun st h => ⟨(({} : State).setTs 63 15 0 st).wr (F.PE_SUP_STALL_PEND 63 15) 1, by revert st; decide +kernel⟩,
   ⟨({} : State).setTs 63 15 0 5, by decide +kernel⟩, ⟨at1 (sProd (63 * 36 + 35)) 1, by decide +kernel⟩,
   fun n h => ⟨{ galAt { input := List.replicate n {} } with path := { toGal := [(63, {})] } }, {}, rfl, by simp [State.gal, galAt, Map.get]⟩,
   ⟨galAt { ended := [⟨{ id := 9 }, 3, true, 0⟩] }, _, rfl, rfl⟩,
   ⟨galAt { ended := [⟨{ id := 9, ordered := true, orderSeq := 1 }, 0, true, 0⟩, ⟨{ id := 8, ordered := true, orderSeq := 0 }, 0, true, 0⟩] }, _, rfl, by decide +kernel⟩⟩

theorem witness_ThreadsStartAndWake :
    (∃ s : State, s.rd F.PRS_STATUS_RULESET = 1 ∧ (s.engn 63 15).started = false) ∧ (({} : State).rd F.PRS_STATUS_RULESET ≠ 1) ∧
    (∃ (s : State) (p : Pkt), s.ts 63 15 7 = tIdle ∧ (s.thr 63 15 7).running = false ∧ (s.thr 63 15 7).ctxs.head? = some p) ∧
    (∃ s : State, s.eventHit 63 15 7 = true) ∧ (({} : State).eventHit 63 15 7 = false) ∧
    (∃ (s : State) (w : SumpWait), (s.thr 63 15 7).sump = some w ∧ s.ts 63 15 7 = tWaiting ∧ s.rd (F.PE_THREAD_WAIT_KIND 63 15 7) = 2 ∧ w.put = true ∧
      s.putWaits w.sump (unitThread 63 15 7) = false) ∧
    (∃ (s : State) (w : SumpWait), (s.thr 63 15 7).sump = some w ∧ s.ts 63 15 7 = tWaiting ∧ s.rd (F.PE_THREAD_WAIT_KIND 63 15 7) = 2 ∧ w.put = false ∧
      s.getWaits w.sump (unitThread 63 15 7) = false) ∧
    (∃ (s : State) (v : Word), (s.thr 63 15 7).loads = (31, v) :: [] ∧ s.ts 63 15 7 ≠ tWaiting) ∧
    (∃ (s : State) (v : Word), (s.thr 63 15 7).loads = (31, v) :: [] ∧ s.ts 63 15 7 = tWaiting ∧ s.rd (F.PE_THREAD_WAIT_KIND 63 15 7) = 4) ∧
    (∃ (s : State) (w : LockWaiter), s.lockHeld 63 63 = false ∧ s.lockBest (Map.get (s.gal 63).lockWait [] 63) = some w ∧
      (((s.lockWithdraw 63 63 w.unit).lockTake 63 63 w.unit).updThr 63 (w.unit / 8 % 32) (w.unit % 8) (fun y => { y with lock := some 63, lockAsk := none })).ts
        63 (w.unit / 8 % 32) (w.unit % 8) = tWaiting) :=
  ⟨⟨at1 F.PRS_STATUS_RULESET 1, by decide +kernel⟩, by decide +kernel, ⟨thrAt 1 { ctxs := [{}] }, {}, by decide +kernel⟩,
   ⟨((thrAt 3 { waitMask := 0x800000 }).wr (F.PE_THREAD_WAIT_KIND 63 15 7) 1).wr (F.PE_EVENTS_EVENTS 63 15) 0x800000, by decide +kernel⟩, by decide +kernel,
   ⟨(thrAt 3 { sump := some ⟨true, 2303, 0, 2, 0, 0⟩ }).wr (F.PE_THREAD_WAIT_KIND 63 15 7) 2, _, rfl, by decide +kernel⟩,
   ⟨((thrAt 3 { sump := some ⟨false, 2303, 0, 0, 2, 0⟩ }).wr (F.PE_THREAD_WAIT_KIND 63 15 7) 2).wr (sPkts 2303) 1, _, rfl, by decide +kernel⟩,
   ⟨thrAt 2 { loads := [(31, 5)] }, 5, by decide +kernel⟩, ⟨(thrAt 3 { loads := [(31, 5)] }).wr (F.PE_THREAD_WAIT_KIND 63 15 7) 4, 5, by decide +kernel⟩,
   ⟨{ thrAt 3 {} with eng := { gal := [(63, { lockWait := [(63, [⟨unitThread 63 15 7, 1⟩])] })] } }, ⟨unitThread 63 15 7, 1⟩, by decide +kernel⟩⟩

/-- A packet of n bytes for queue 65,535, port 7 and class 7. -/
def tmPkt (n : Nat) : Pkt := ((({ id := 9, data := List.replicate n 0 } : Pkt).s Md.tmQueue 65535).s Md.destPort 7).s Md.tc 7

/-- That packet on its way to the traffic manager: queue 65,535 enabled in group 2047 of port 7 and class 7, the class's largest frame,
the port's free cells and the two effective shares given. -/
def tmAt (n on room free share : Nat) : State :=
  { (at1 F.PRT_STATUS_CONFIGURED 0x80).wr F.TMG_STATUS_FREE_CELLS free with
    path := { toTm := [tmPkt n] }
    tm := { tbl := [(tmKey tQueue 65535, on * 2 ^ 11 + 2047), (tmKey tGroup 2047, 2 ^ 6 + 63), (tmKey tClass 63, room)]
            eff := [(tmKey tQueue 65535, share * 2 ^ 64), (tmKey tGroup 2047, share * 2 ^ 88)] } }

/-- The state once that packet has left its way. -/
def tmPast (s : State) : State := { s with path := { s.path with toTm := s.path.toTm.filter (fun q => q.id != 9) } }

/-- A frame port 7 is sending. -/
def tmFrame (secy : Bool) : TxFrame := { q := 65535, pkt := tmPkt 64, cells := 1, start := 0, secy := secy, stomp := false, preemptable := false }

/-- Port 7 in a state of its own. -/
def prtAt (x : Port) : State := { prt := { port := [(7, x)] } }

theorem witness_TrafficManagerPackets :
    (∀ n ∈ [0, 1], ∃ (s : State) (p : Pkt), s.path.toTm.find? (fun p => p.id == 9) = some p ∧ (tmPast s).tmF tQueue (p.g Md.tmQueue) 11 1 = n) ∧
    (∃ (s : State) (p : Pkt), s.path.toTm.find? (fun p => p.id == 9) = some p ∧ p.g Md.destPort ≠ (tmPast s).portOf ((tmPast s).groupOf (p.g Md.tmQueue))) ∧
    (∀ x ∈ [(63, 10), (64, 0), (64, 1)], ∃ (s : State) (p : Pkt), s.path.toTm.find? (fun p => p.id == 9) = some p ∧
      ¬ (p.g Md.destPort ≠ (tmPast s).portOf ((tmPast s).groupOf (p.g Md.tmQueue)) ∨ p.g Md.tc ≠ (tmPast s).classOf ((tmPast s).groupOf (p.g Md.tmQueue)) ∨
        (tmPast s).tmF tQueue (p.g Md.tmQueue) 11 1 = 0 ∨ (tmPast s).tmF tGroup ((tmPast s).groupOf (p.g Md.tmQueue)) 6 1 = 0 ∨
        bitOf ((tmPast s).rd F.PRT_STATUS_CONFIGURED) ((tmPast s).portOf ((tmPast s).groupOf (p.g Md.tmQueue))) = false) ∧
      (tmPast s).flen 7 p = 64 ∧ (tmPast s).tmF tClass 63 0 14 = x.1 ∧ p.g Md.policerEn = 0 ∧ (tmPast s).rd F.TMG_STATUS_FREE_CELLS = x.2 ∧
      ((tmPast s).tq 65535).occ + cellsOf 64 ≤ (tmPast s).tmE tQueue 65535 64 18 ∧ ((tmPast s).tg 2047).occ + cellsOf 64 ≤ (tmPast s).tmE tGroup 2047 88 18) ∧
    (∀ up ∈ [0, 1], ∃ s : State, (s.ncRelease 7).portSends 7 = (up == 1) ∧ bktOk ((s.ncRelease 7).profP 7) (Map.get (s.ncRelease 7).tm.portTok 0 7) = true ∧
      ((s.ncRelease 7).prt1 7).tx = none) ∧
    (∃ (s : State) (f : TxFrame), (s.prt1 7).tx = some f ∧ f.secy = false ∧ f.stomp = false ∧ (s.prt1 7).frag = none) ∧
    (∃ (s : State) (f g : TxFrame), (s.prt1 7).tx = some f ∧ f.secy = false ∧ f.stomp = false ∧ (s.prt1 7).frag = some g) ∧
    (({} : State).prt1 7).tx = none :=
  ⟨fun n h => ⟨tmAt 64 n 64 1 1, tmPkt 64, by revert n; decide +kernel⟩, ⟨{ path := { toTm := [tmPkt 64] } }, tmPkt 64, by decide +kernel⟩,
   fun x h => ⟨tmAt 64 1 x.1 x.2 1, tmPkt 64, by revert x; decide +kernel⟩, fun u h => ⟨at1 (F.PRT_LINK_STATUS_UP 7) u, by revert u; decide +kernel⟩,
   ⟨prtAt { tx := some (tmFrame false) }, _, rfl, rfl, rfl, rfl⟩, ⟨prtAt { tx := some (tmFrame false), frag := some (tmFrame false) }, _, tmFrame false, rfl, rfl, rfl, rfl⟩, rfl⟩

theorem witness_GatesSamplesAndTables :
    (∃ (s t : State) (c : AdmCmd), s.Verified 0 0x2A [0x07FF0107, 2 ^ 64 - 1, 0xFFFFFFFF] (fun c => bitOf (c.word 0x08) 8 || s.gateOk c) c t ∧
      bitOf (c.word 0x08) 8 = true) ∧
    (∃ (s : State) (l : GateList), (s.gate 7).copying = [(0, l)]) ∧
    (∃ (s : State) (l : GateList), (s.gate 7).pend = some l ∧ l.start = some 100 ∧ 100 ≤ s.fst.nowNs) ∧
    (∃ s : State, s.rdB (F.TMG_SAMPLE_STATUS_ACTIVE 15) = true ∧ s.fst.drip % 2 ^ s.rd (F.TMG_SAMPLE_CFG_K 15) = 0 ∧
      ((s.wr (F.TMG_SAMPLE_STATUS_ROUND 15) ((s.rd (F.TMG_SAMPLE_STATUS_ROUND 15) + 1) % 2 ^ 32)).func (s.rd (F.TMG_SAMPLE_CFG_FUNC 15))).cfg.master = true ∧
      s.rdB (F.HIF_LINK_STATUS_DL_UP (s.attOf (s.rd (F.TMG_SAMPLE_CFG_FUNC 15)))) = true) ∧
    (({} : State).rdB (F.TMG_SAMPLE_STATUS_ACTIVE 15) = false) ∧ (bitsOf (2 : Word).toNat 0 1 = 0) ∧
    (∀ b : Bool, ∃ s : State, s.rdB (F.TMG_TBL_CTRL_BUSY 3) = b) ∧
    (∀ t < 9, 0 < tmSize t) ∧ tmSize 9 ≤ 0 ∧
    (∀ x ∈ [(0, 64 * 2 ^ 32), (1, 64 * 2 ^ 64), (2, 60), (4, 0), (5, 0), (6, 0)], tmFieldsOk x.1 x.2 = true) ∧ (∃ s : State, s.rdB (F.TMG_GATE_STATUS_COPYING 7) = false) :=
  ⟨⟨_, _, _, crit_verified (s := owned {}) (target := 0) (ws := [0x107, 0, 0]) (by decide +kernel), by decide +kernel⟩,
   ⟨{ tm := { gates := [(7, { copying := [(0, ⟨0, 512, none, []⟩)] })] } }, ⟨0, 512, none, []⟩, by decide⟩,
   ⟨{ tm := { gates := [(7, { pend := some ⟨0, 512, some 100, []⟩ })] }, fst := { ns := 100 } }, _, rfl, by decide +kernel⟩,
   ⟨{ (at1 (F.TMG_SAMPLE_STATUS_ACTIVE 15) 1).wr (F.HIF_LINK_STATUS_DL_UP 0) 1 with funcs := [(0, { cfg := { bme := true } })] }, by decide +kernel⟩,
   by decide +kernel, by decide +kernel, fun b => ⟨at1 (F.TMG_TBL_CTRL_BUSY 3) b.toNat, by revert b; decide +kernel⟩, by decide, by decide,
   by decide +kernel, ⟨{}, by decide +kernel⟩⟩

/-- A packet that names session 4,194,303, with bytes l. -/
def cryPkt (l : List Byte) : Pkt := (({ id := 9, data := l } : Pkt).s Md.cryptoEn 1).s Md.cryptoSession 4194303

/-- Its session's context, valid (v), keyed, of any owner and of kind k. -/
def cxWord (v k : Nat) : Nat := v + 2 + k * 4 + 0xFFF * 2 ^ 16

/-- That packet in the crypto unit. -/
def cryAt (v k point : Nat) (l : List Byte) : State :=
  { path := { cry := [⟨cryPkt l, point⟩] }, cry := { ctx := [(4194303, cxWord v k)], cache := [4194303] } }

/-- Bytes of an Ethernet frame of n bytes that carries IPv4 with the given protocol. -/
def ipv4 (proto n : Nat) : List Byte :=
  List.replicate 12 0 ++ [0x08, 0x00, 0x45, 0x00] ++ beBytes (n - 14) 2 ++ List.replicate 5 0 ++ [BitVec.ofNat 8 proto] ++ List.replicate (n - 24) 1

theorem ciphers_of {id kind n : Nat} {w : CryWork} {s : State}
    (h : (decide (cryFind id s.path.cry [] = some w) && decide (w.pkt.g Md.cryptoSession = n) && s.cry.cache.contains n &&
      (match s.cryGate w.pkt w.point with | .wait => true | _ => false) && decide (s.cx n Cx.kind = kind) && decide (s.cx n Cx.exhausted ≠ 1)) = true) : s.Ciphers id kind n w := by
  simp only [Bool.and_eq_true, decide_eq_true_eq] at h
  obtain ⟨⟨⟨⟨⟨h1, h2⟩, h3⟩, h4⟩, h5⟩, h6⟩ := h
  refine ⟨h1, h2, h3, ?_, h5, h6⟩
  revert h4; cases s.cryGate w.pkt w.point <;> simp

/-- Port 7 with the given SecY registers and a frame that waits for them. -/
def secyAt (v ex : Nat) : State :=
  { ((at1 (F.CRY_SECY_TXSA_IN_USE 7 0) v).wr (F.CRY_SECY_CFG_CONFIDENTIAL 7) 0).wr (F.CRY_SECY_TXSA_SESSION 7 0) 4194303 with
    prt := { port := [(7, { tx := some (tmFrame true) })] }, cry := { ctx := [(4194303, cxWord 1 kMacsecTx + ex * 2 ^ 11)], cache := [4194303] } }

theorem witness_CryptographicOperations :
    (∃ (s : State) (w : CryWork), s.Ciphers 9 kEspIn 4194303 w ∧ espFind w.pkt.data ((s.cryOff 9).cx 4194303 Cx.natt == 1) = none) ∧
    (∃ (s : State) (w : CryWork) (v6 : Bool) (o e stop : Nat), s.Ciphers 9 kEspIn 4194303 w ∧
      espFind w.pkt.data ((s.cryOff 9).cx 4194303 Cx.natt == 1) = some (o, v6, e, stop) ∧ beNat ((w.pkt.data.drop e).take 4) ≠ (s.cryOff 9).cx 4194303 Cx.spi) ∧
    (∀ k ∈ [kEspOut, kTlsTx, kTlsRx], ∃ (s : State) (w : CryWork), s.Ciphers 9 k 4194303 w ∧ firstIp w.pkt.data = none ∧ tcpFind w.pkt.data = none) ∧
    (∃ (s : State) (w : CryWork), cryFind 9 s.path.cry [] = some w ∧ s.cry.cache.contains (w.pkt.g Md.cryptoSession) = true ∧
      (match s.cryGate w.pkt w.point with | .drop c => c == R.CRY_NO_SESSION_CNT | _ => false) = true) ∧
    (∀ x ∈ [(0, 0), (1, 0), (1, 1)], ∃ (s : State) (f : TxFrame), (s.prt1 7).tx = some f ∧ f.secy = true ∧
      s.rdB (F.CRY_SECY_TXSA_IN_USE 7 (s.rd (F.CRY_SECY_CFG_TX_AN 7))) = (x.1 == 1) ∧
      s.cx (s.rd (F.CRY_SECY_TXSA_SESSION 7 (s.rd (F.CRY_SECY_CFG_TX_AN 7)))) Cx.valid = 1 ∧
      s.cx (s.rd (F.CRY_SECY_TXSA_SESSION 7 (s.rd (F.CRY_SECY_CFG_TX_AN 7)))) Cx.kind = kMacsecTx ∧
      s.cry.cache.contains (s.rd (F.CRY_SECY_TXSA_SESSION 7 (s.rd (F.CRY_SECY_CFG_TX_AN 7)))) = true ∧
      s.cx (s.rd (F.CRY_SECY_TXSA_SESSION 7 (s.rd (F.CRY_SECY_CFG_TX_AN 7)))) Cx.exhausted = x.2 ∧
      (s.assignSeq (s.rd (F.CRY_SECY_TXSA_SESSION 7 (s.rd (F.CRY_SECY_CFG_TX_AN 7))))).2.rdB (F.CRY_SECY_CFG_CONFIDENTIAL 7) = false) ∧
    (∃ (s : State) (f : RxFrame), (s.prt1 7).secyRx = f :: [] ∧ (match s.secFate 7 f.data with | .pass d => d == f.data | _ => false) = true) ∧
    (∃ (s : State) (f : RxFrame), (s.prt1 7).secyRx = f :: [] ∧
      (match s.secFate 7 f.data with | .drop (some r) none => r == R.CRY_UNTAGGED_CNT | _ => false) = true) ∧
    (∃ s : State, s.cry.cache.contains 4194303 = false ∧ s.path.cry.any (fun w => w.pkt.g Md.cryptoSession == 4194303) = true ∧ s.cry.cache.length < 65536) ∧
    (cryAt 1 1 1 []).cry.cache.contains 4194303 = true ∧
    (({} : State).rd (F.CRY_LANE_STATUS_STATE 8) = 0 ∧ ({} : State).rd (F.CRY_LANE_STATUS_STATE 9) = 0 ∧ sameLane 8 9 = true ∧ sameLane 0 7 = true) :=
  ⟨⟨cryAt 1 kEspIn 1 [], ⟨cryPkt [], 1⟩, ciphers_of (by decide +kernel), by decide +kernel⟩,
   ⟨cryAt 1 kEspIn 1 (ipv4 50 66 ++ [1]), ⟨cryPkt (ipv4 50 66 ++ [1]), 1⟩, false, 14, 34, 66, ciphers_of (by decide +kernel), by decide +kernel, by decide +kernel⟩,
   fun k h => ⟨cryAt 1 k (if k = kTlsRx then 1 else 2) [], ⟨cryPkt [], if k = kTlsRx then 1 else 2⟩, ciphers_of (by revert k; decide +kernel), by revert k; decide +kernel⟩,
   ⟨cryAt 0 kEspIn 1 [], ⟨cryPkt [], 1⟩, by decide +kernel⟩, fun x h => ⟨secyAt x.1 x.2, tmFrame true, rfl, rfl, by revert x; decide +kernel⟩,
   ⟨(prtAt { secyRx := [⟨List.replicate 60 0, 0, false⟩] }).wr (F.CRY_SECY_CFG_VALIDATE 7) 0, ⟨List.replicate 60 0, 0, false⟩, by decide +kernel⟩,
   ⟨(prtAt { secyRx := [⟨List.replicate 60 0, 0, false⟩] }).wr (F.CRY_SECY_CFG_VALIDATE 7) 2, ⟨List.replicate 60 0, 0, false⟩, by decide +kernel⟩,
   ⟨{ path := { cry := [⟨cryPkt [], 1⟩] } }, by decide +kernel⟩, by decide +kernel, by decide +kernel⟩

/-- Session 4,194,303 of function 2055, of kind k and TLS state x. -/
def sessAt (own k x : Nat) : State := { cry := { ctx := [(4194303, 1 + k * 4 + own * 2 ^ 16 + x * 2 ^ 640)] } }

set_option exponentiation.threshold 1024 in
theorem witness_SessionsAndKeys :
    (∃ (s : State) (c : AdmCmd), s.Checked 2055 0x30 false [0x3FFFFF, 2 ^ 64 - 1] (fun _ => true) c ∧ s.maySession 2055 (bitsOf (c.word 8) 0 22) = false) ∧
    (∀ v ∈ [(0, true), (2 ^ 61, false)], ∃ (s : State) (c : AdmCmd), s.Checked 0 0x30 false [0x3FFFFF, 2 ^ 64 - 1] (fun _ => true) c ∧
      s.maySession 0 (bitsOf (c.word 8) 0 22) = true ∧ cxGood (leNat (s.hostRead (s.attOf 0) (c.word 0x10) 128)) = v.2 ∧
      s.cx (bitsOf (c.word 8) 0 22) Cx.keyValid ≠ 1 ∧ isMgmt 0 = true) ∧
    (∃ (s : State) (c : AdmCmd), s.Checked 2054 0x31 false [0x3FFFFF, 2 ^ 32 - 1, 2 ^ 64 - 1] (fun _ => true) c ∧ s.maySession 2054 (bitsOf (c.word 8) 0 22) = false) ∧
    (∃ (s : State) (c : AdmCmd), s.Checked 2055 0x31 false [0x3FFFFF, 2 ^ 32 - 1, 2 ^ 64 - 1] (fun _ => true) c ∧
      s.maySession 2055 (bitsOf (c.word 8) 0 22) = true ∧ s.cx (bitsOf (c.word 8) 0 22) Cx.kind = kTlsRx ∧ s.cx (bitsOf (c.word 8) 0 22) Cx.rxState = 1) ∧
    (∃ (s t : State) (c : AdmCmd), s.Verified 0 0x32 [2 ^ 64 - 1] (fun _ => true) c t) ∧
    (∃ (s : State) (c : AdmCmd), s.Checked 0 0x34 false [2 ^ 64 - 1] (fun _ => true) c) ∧
    (∃ (s t : State) (c : AdmCmd), s.Verified 0 0x33 [0x13FFFFF] (fun c => !bitOf (c.word 8) 24 || decide (bitsOf (c.word 8) 0 22 < 16384)) c t) ∧
    (∀ b : Bool, ∃ s : State, s.rdB (F.CRY_SESS_CTRL_BUSY 3) = b) ∧ (7 : Nat) < 8 ∧ (3 : Nat) < 4 :=
  ⟨⟨_, _, plain_checked (s := (sessAt 0 0 0)) (f := 2055) (ws := [0x3FFFFF, 0x1000]) (by decide +kernel), by decide +kernel⟩,
   fun v h => ⟨given { mem := Mem.putLe [] (hostKey 0 0x1000) 8 v.1 } (plainCmd 0x30 0 [0x3FFFFF, 0x1000]), plainCmd 0x30 0 [0x3FFFFF, 0x1000],
     checked_of (by revert v; decide +kernel), by revert v; decide +kernel⟩,
   ⟨_, _, plain_checked (s := (sessAt 2055 5 1)) (f := 2054) (ws := [0x3FFFFF, 5, 6]) (by decide +kernel), by decide +kernel⟩,
   ⟨_, _, plain_checked (s := (sessAt 2055 5 1)) (f := 2055) (ws := [0x3FFFFF, 5, 6]) (by decide +kernel), by decide +kernel⟩,
   ⟨_, _, _, crit_verified (s := owned {}) (target := 0) (ws := [0x1000]) (by decide +kernel)⟩,
   ⟨_, _, plain_checked (s := {}) (ws := [0x1000]) (by decide +kernel)⟩,
   ⟨_, _, _, crit_verified (s := owned {}) (target := 0) (ws := [0x1003FFF]) (by decide +kernel)⟩,
   fun b => ⟨at1 (F.CRY_SESS_CTRL_BUSY 3) b.toNat, by revert b; decide +kernel⟩, by decide, by decide⟩

/-! Storage: function 2055 has controller 2047, which owns namespace 16,383 (NSID 1, 100 blocks) on path 4,095. -/

/-- A queue entry of 64 bytes from its dwords. -/
def ent (l : List Nat) : List Byte := (List.range 16).flatMap (fun i => leBytes (l.getD i 0) 4)

/-- Function 2055's only controller, of the kind given, with the events given, its namespace, and the queues and host bytes given. -/
def stoAt (kind : Nat) (ev : List Nat) (qs : Map Queue) (m : Mem) : State where
  funcs := [(2055, { created := true, cfg := { bme := true }, queues := qs, qpAllot := 2, qpUsed := 1 })]
  mem := m
  sto := { ctrls := [(2047, some { kind := kind, owner := 2055, events := ev })], ns := [(16383, 1 + 2047 * 2 ^ 64 + 100 * 2 ^ 192)] }

/-- NVMe submission queue q with one entry, e, and completion queue 64 there. -/
def nvAt (ev : List Nat) (q : Nat) (e : List Byte) : State :=
  stoAt 0 ev [(qKey 8 q, { st := .enabled, base := 0x1000, size := 16, got := 1, cq := 64 }), (qKey 9 64, { st := .enabled, size := 16 })]
    (Mem.putBytes [] (hostKey 0 0x1000) e)

theorem nvme_of {s : State} {f q op : Nat} {e : List Byte}
    (h : (decide (s.sqHead f q (fun e => e.getD 0 0 == BitVec.ofNat 8 op) = some e) && !decide ((e.getD 1 0).toNat % 4 ≠ 0 ∨ (e.getD 1 0).toNat / 64 = 3)) = true) :
    s.NvmeAt f q op e := by
  simp only [Bool.and_eq_true, decide_eq_true_eq, Bool.not_eq_true'] at h
  exact ⟨h.1, of_decide_eq_false h.2⟩

theorem witness_NvmeAdminCommands :
    (∃ (s : State) (e : List Byte), s.NvmeAt 2055 0 0x06 e ∧ dw e 10 % 256 = 2) ∧
    (∀ lid ∈ [1, 3, 4], ∃ (s : State) (e : List Byte), s.NvmeAt 2055 0 0x02 e ∧ dw e 10 % 256 = lid) ∧
    (∀ fid ∈ [7, 8, 0x0B, 6], ∃ (s : State) (e : List Byte) (x : Ctrl), s.NvmeAt 2055 0 0x09 e ∧ (s.sqTake 2055 0).ctrlOf 2055 = some (2047, x) ∧ dw e 10 % 256 = fid) ∧
    (∃ (s : State) (e : List Byte) (x : Ctrl), s.NvmeAt 2055 0 0x0A e ∧ (s.sqTake 2055 0).ctrlOf 2055 = some (2047, x) ∧ nvmeFeature (dw e 10 % 256) = true) ∧
    (∀ ev ∈ [[], [5]], ∃ (s : State) (e : List Byte) (x : Ctrl), s.NvmeAt 2055 0 0x0C e ∧ (s.sqTake 2055 0).ctrlOf 2055 = some (2047, x) ∧ x.events = ev) ∧
    (∀ q ∈ [0, 65], ∃ (s : State) (e : List Byte), s.NvmeAt 2055 0 0x01 e ∧ dw e 10 % 65536 = q) ∧
    (∃ (s : State) (e : List Byte), s.NvmeAt 2055 0 0x01 e ∧ dw e 10 % 65536 = 64 ∧ (s.sqTake 2055 0).hasQue 2055 8 64 = false ∧ dw e 10 / 65536 + 1 = 2 ∧
      dw e 11 / 65536 = 64 ∧ (s.sqTake 2055 0).hasQue 2055 9 64 = true ∧ bitOf (dw e 11) 0 = true ∧
      ((s.sqTake 2055 0).func 2055).qpUsed < ((s.sqTake 2055 0).func 2055).qpAllot) ∧
    (∀ q ∈ [0, 65, 64], ∃ (s : State) (e : List Byte), s.NvmeAt 2055 0 0x05 e ∧ dw e 10 % 65536 = q ∧ (q = 64 → (s.sqTake 2055 0).hasQue 2055 9 64 = true)) ∧
    (∃ (s : State) (e : List Byte), s.NvmeAt 2055 0 0x05 e ∧ dw e 10 % 65536 = 63 ∧ (s.sqTake 2055 0).hasQue 2055 9 63 = false ∧ dw e 10 / 65536 + 1 = 2 ∧
      bitOf (dw e 11) 1 = false ∧ bitOf (dw e 11) 0 = true) ∧
    (∃ (s : State) (e : List Byte), s.NvmeAt 2055 0 0x04 e ∧ dw e 10 % 65536 = 64 ∧ (s.sqTake 2055 0).hasQue 2055 9 64 = true) ∧
    (∃ (s : State) (e : List Byte), s.NvmeAt 2055 0 0x08 e ∧
      (s.sqTake 2055 0).sto.cmds.find? (fun c => c.fn == 2055 && !c.virt && c.q == dw e 10 % 65536 && c.cid == dw e 10 / 65536) = none) ∧
    (∃ (s : State) (e : List Byte), s.sqHead 2055 0 (fun e => !nvmeKnown 0 (e.getD 0 0).toNat) = some e) :=
  ⟨⟨nvAt [] 0 (ent [6, 0, 0, 0, 0, 0, 0, 0, 0, 0, 2]), _, nvme_of (e := ent [6, 0, 0, 0, 0, 0, 0, 0, 0, 0, 2]) (by decide +kernel), by decide +kernel⟩,
   fun l h => ⟨nvAt [] 0 (ent [2, 0, 0, 0, 0, 0, 0, 0, 0, 0, l]), ent [2, 0, 0, 0, 0, 0, 0, 0, 0, 0, l], nvme_of (by revert l; decide +kernel), by revert l; decide +kernel⟩,
   fun l h => ⟨nvAt [] 0 (ent [9, 0, 0, 0, 0, 0, 0, 0, 0, 0, l]), ent [9, 0, 0, 0, 0, 0, 0, 0, 0, 0, l], { owner := 2055 }, nvme_of (by revert l; decide +kernel), by revert l; decide +kernel⟩,
   ⟨nvAt [] 0 (ent [10, 0, 0, 0, 0, 0, 0, 0, 0, 0, 11]), ent [10, 0, 0, 0, 0, 0, 0, 0, 0, 0, 11], { owner := 2055 }, nvme_of (by decide +kernel), by decide +kernel⟩,
   fun v h => ⟨nvAt v 0 (ent [12]), ent [12], { owner := 2055, events := v }, nvme_of (by revert v; decide +kernel), by revert v; decide +kernel⟩,
   fun q h => ⟨nvAt [] 0 (ent [1, 0, 0, 0, 0, 0, 0, 0, 0, 0, q]), ent [1, 0, 0, 0, 0, 0, 0, 0, 0, 0, q], nvme_of (by revert q; decide +kernel), by revert q; decide +kernel⟩,
   ⟨nvAt [] 0 (ent [1, 0, 0, 0, 0, 0, 0, 0, 0, 0, 65600, 64 * 65536 + 1]), ent [1, 0, 0, 0, 0, 0, 0, 0, 0, 0, 65600, 64 * 65536 + 1], nvme_of (by decide +kernel), by decide +kernel⟩,
   fun q h => ⟨nvAt [] 0 (ent [5, 0, 0, 0, 0, 0, 0, 0, 0, 0, q]), ent [5, 0, 0, 0, 0, 0, 0, 0, 0, 0, q], nvme_of (by revert q; decide +kernel), by revert q; decide +kernel⟩,
   ⟨nvAt [] 0 (ent [5, 0, 0, 0, 0, 0, 0, 0, 0, 0, 65599, 1]), ent [5, 0, 0, 0, 0, 0, 0, 0, 0, 0, 65599, 1], nvme_of (by decide +kernel), by decide +kernel⟩,
   ⟨nvAt [] 0 (ent [4, 0, 0, 0, 0, 0, 0, 0, 0, 0, 64]), ent [4, 0, 0, 0, 0, 0, 0, 0, 0, 0, 64], nvme_of (by decide +kernel), by decide +kernel⟩,
   ⟨nvAt [] 0 (ent [8]), ent [8], nvme_of (by decide +kernel), by decide +kernel⟩, ⟨nvAt [] 0 (ent [255]), ent [255], by decide +kernel⟩⟩

/-- A command of queue 64, identifier 7, that waits in front of connection k. -/
def cmdAt (id att : Nat) (pl : Attempt) : StoCmd :=
  { id := id, fn := 2055, gen := 1, virt := false, q := 64, cid := 7, op := 1, ns := 16383, slba := 0, nlb := 1, attempt := att, place := pl }

theorem witness_NvmeAdminCommands_more :
    (∃ (s : State) (e : List Byte), s.NvmeAt 2055 0 0x00 e ∧ dw e 10 % 65536 = 64 ∧ (s.sqTake 2055 0).hasQue 2055 8 64 = true) ∧
    (∃ (s : State) (e : List Byte) (c : StoCmd), s.NvmeAt 2055 0 0x08 e ∧
      (s.sqTake 2055 0).sto.cmds.find? (fun c => c.fn == 2055 && !c.virt && c.q == dw e 10 % 65536 && c.cid == dw e 10 / 65536) = some c ∧
      c.place = .waiting 3 ∧ c.attempt = 1) :=
  ⟨⟨stoAt 0 [] [(qKey 8 0, { st := .enabled, base := 0x1000, size := 16, got := 1 }), (qKey 8 64, {})] (Mem.putBytes [] (hostKey 0 0x1000) (ent [0, 0, 0, 0, 0, 0, 0, 0, 0, 0, 64])),
     ent [0, 0, 0, 0, 0, 0, 0, 0, 0, 0, 64], nvme_of (by decide +kernel), by decide +kernel⟩,
   ⟨{ nvAt [] 0 (ent [8, 0, 0, 0, 0, 0, 0, 0, 0, 0, 7 * 65536 + 64]) with
      sto := { (nvAt [] 0 (ent [8, 0, 0, 0, 0, 0, 0, 0, 0, 0, 7 * 65536 + 64])).sto with cmds := [cmdAt 1 1 (.waiting 3)] } },
     ent [8, 0, 0, 0, 0, 0, 0, 0, 0, 0, 7 * 65536 + 64], cmdAt 1 1 (.waiting 3), nvme_of (by decide +kernel), by decide +kernel⟩⟩

/-- A virtio-blk virtqueue with one request: its header and data at 0x3000, wl bytes of room at 0x4000. -/
def blkSt (type sector : Nat) (d : List Byte) (wl : Nat) : State :=
  let k := fun a => hostKey 0 a
  stoAt 1 [] [(qKey 7 0, { st := .enabled, base := 0x1000, drv := 0x2000, dev := 0x2800, log2 := 1, got := 1 })]
    (Mem.putBytes ([(0x1000, 8, 0x3000), (0x1008, 4, 16 + d.length), (0x100C, 2, 1), (0x100E, 2, 1), (0x1010, 8, 0x4000), (0x1018, 4, wl), (0x101C, 2, 2),
      (0x3000, 4, type), (0x3008, 8, sector)].foldl (fun m x => Mem.putLe m (k x.1) x.2.1 x.2.2) []) (k 0x3010) d)

/-- That request. -/
def blkR (type sector : Nat) (d : List Byte) (wl : Nat) : BlkReq where
  chain := { id := 0, bufs := [⟨0x3000, 16 + d.length, false⟩, ⟨0x4000, wl, true⟩], count := 1 }
  type := type
  sector := sector
  data := d
  room := if wl ≤ 1 then [] else [⟨0x4000, wl - 1, true⟩]
  status := 0x4000 + wl - 1

theorem blk_of {s : State} {f n type : Nat} {r : BlkReq} (h : (decide (s.blkNext f n = some r) && decide (r.type = type) && !r.noStatus) = true) : s.BlkAt f n type r := by
  simp only [Bool.and_eq_true, decide_eq_true_eq, Bool.not_eq_true'] at h
  exact ⟨h.1.1, h.1.2, h.2⟩

theorem witness_TenantIo :
    (∃ (s : State) (e : List Byte), s.NvmeAt 2055 64 0 e ∧ (s.sqTake 2055 64).nvmeNs 2055 (dw e 1) false 0 0 = (0, 16383)) ∧
    (∃ (s : State) (e : List Byte) (l : List (Nat × Nat)) (d : List Byte), s.NvmeAt 2055 64 1 e ∧ (s.sqTake 2055 64).nvmeNs 2055 (dw e 1) true 99 1 = (0, 16383) ∧
      (s.sqTake 2055 64).dptr 2055 e (1 * ((s.sqTake 2055 64).nsFmt 16383).size) = (0, l) ∧ ((s.sqTake 2055 64).nsFmt 16383).hostPi = 0 ∧
      ((s.sqTake 2055 64).nsFmt 16383).writeAll ((s.sqTake 2055 64).ioCmd 2055 64 (leAt e 2 2) 16383 1 e) 0 1 ((s.sqTake 2055 64).gather ((s.sqTake 2055 64).attOf 2055) l) [] = (0, d)) ∧
    (∃ (s : State) (e : List Byte) (l : List (Nat × Nat)), s.NvmeAt 2055 64 2 e ∧ (s.sqTake 2055 64).nvmeNs 2055 (dw e 1) true 99 1 = (0, 16383) ∧
      (s.sqTake 2055 64).dptr 2055 e (1 * ((s.sqTake 2055 64).nsFmt 16383).size) = (0, l)) ∧
    (∃ (s : State) (e : List Byte), s.NvmeAt 2055 64 2 e ∧ (s.sqTake 2055 64).nvmeNs 2055 (dw e 1) true (leAt e 40 8) (dw e 12 % 65536 + 1) = (128, 16383)) ∧
    (∃ (s : State) (e : List Byte), s.NvmeAt 2055 64 8 e ∧ (s.sqTake 2055 64).nvmeNs 2055 (dw e 1) false 99 1 = (0, 16383)) ∧
    (∃ (s : State) (e : List Byte) (l : List (Nat × Nat)), s.NvmeAt 2055 64 9 e ∧ (s.sqTake 2055 64).nvmeNs 2055 (dw e 1) false 0 0 = (0, 16383) ∧
      (s.sqTake 2055 64).dptr 2055 e (16 * (dw e 10 % 256 + 1)) = (0, l) ∧
      ((List.range (dw e 10 % 256 + 1)).any (fun i => decide ((s.sqTake 2055 64).nf 16383 192 64 <
        leAt ((s.sqTake 2055 64).gather ((s.sqTake 2055 64).attOf 2055) l) (16 * i + 8) 8 +
        leAt ((s.sqTake 2055 64).gather ((s.sqTake 2055 64).attOf 2055) l) (16 * i + 4) 4))) = false) :=
  ⟨⟨nvAt [] 64 (ent [0, 1]), ent [0, 1], nvme_of (by decide +kernel), by decide +kernel⟩,
   ⟨nvAt [] 64 (ent [1, 1, 0, 0, 0, 0, 0x2000, 0, 0, 0, 99]), ent [1, 1, 0, 0, 0, 0, 0x2000, 0, 0, 0, 99], [(0x2000, 512)], List.replicate 512 0, nvme_of (by decide +kernel), by decide +kernel⟩,
   ⟨nvAt [] 64 (ent [2, 1, 0, 0, 0, 0, 0x2000, 0, 0, 0, 99]), ent [2, 1, 0, 0, 0, 0, 0x2000, 0, 0, 0, 99], [(0x2000, 512)], nvme_of (by decide +kernel), by decide +kernel⟩,
   ⟨nvAt [] 64 (ent [2, 1, 0, 0, 0, 0, 0x2000, 0, 0, 0, 100]), ent [2, 1, 0, 0, 0, 0, 0x2000, 0, 0, 0, 100], nvme_of (by decide +kernel), by decide +kernel⟩,
   ⟨nvAt [] 64 (ent [8, 1, 0, 0, 0, 0, 0, 0, 0, 0, 99]), ent [8, 1, 0, 0, 0, 0, 0, 0, 0, 0, 99], nvme_of (by decide +kernel), by decide +kernel⟩,
   ⟨nvAt [] 64 (ent [9, 1, 0, 0, 0, 0, 0x2000, 0, 0, 0, 0]), ent [9, 1, 0, 0, 0, 0, 0x2000, 0, 0, 0, 0], [(0x2000, 16)], nvme_of (by decide +kernel), by decide +kernel⟩⟩

theorem witness_TenantIo_more :
    (∃ (s : State) (r : BlkReq), s.BlkAt 2055 0 0 r ∧ (s.blkTook 2055 0 r).blkRange 2055 r.sector ((r.room.map (·.len)).sum / 512) = some (16383, 99, 1) ∧
      (r.room.map (·.len)).sum % 512 = 0 ∧ (s.blkTook 2055 0 r).noKey 16383 = false) ∧
    (∃ (s : State) (r : BlkReq), s.BlkAt 2055 0 0 r ∧ (s.blkTook 2055 0 r).blkRange 2055 r.sector ((r.room.map (·.len)).sum / 512) = none) ∧
    (∃ (s : State) (r : BlkReq) (d : List Byte), s.BlkAt 2055 0 1 r ∧ (s.blkTook 2055 0 r).blkRange 2055 r.sector (r.data.length / 512) = some (16383, 99, 1) ∧
      r.data.length % 512 = 0 ∧ (s.blkTook 2055 0 r).noKey 16383 = false ∧
      ((s.blkTook 2055 0 r).nsFmt 16383).writeAll ((s.blkTook 2055 0 r).blkCmd 2055 0 r 1 16383 99 1) 0 1 r.data [] = (0, d)) ∧
    (∃ (s : State) (r : BlkReq), s.BlkAt 2055 0 4 r ∧ (s.blkTook 2055 0 r).blkRange 2055 0 0 = some (16383, 0, 0)) ∧ (∃ (s : State) (r : BlkReq), s.BlkAt 2055 0 8 r) ∧
    (∀ t ∈ [11, 13], ∃ (s : State) (r : BlkReq) (x : Nat × Nat), s.BlkAt 2055 0 t r ∧ blkRanges r.data = [x] ∧ (s.blkTook 2055 0 r).blkRange 2055 x.1 x.2 = some (16383, 99, 1)) ∧
    (∃ (s : State) (r : BlkReq), s.blkNext 2055 0 = some r ∧ r.type ∉ [0, 1, 4, 8, 11, 13]) :=
  ⟨⟨blkSt 0 99 [] 513, blkR 0 99 [] 513, blk_of (by decide +kernel), by decide +kernel⟩, ⟨blkSt 0 100 [] 513, blkR 0 100 [] 513, blk_of (by decide +kernel), by decide +kernel⟩,
   ⟨blkSt 1 99 (List.replicate 512 0) 1, blkR 1 99 (List.replicate 512 0) 1, List.replicate 512 0, blk_of (by decide +kernel), by decide +kernel⟩,
   ⟨blkSt 4 0 [] 1, blkR 4 0 [] 1, blk_of (by decide +kernel), by decide +kernel⟩, ⟨blkSt 8 0 [] 21, blkR 8 0 [] 21, blk_of (by decide +kernel)⟩,
   fun t h => ⟨blkSt t 0 (leBytes 99 8 ++ leBytes 1 8) 1, blkR t 0 (leBytes 99 8 ++ leBytes 1 8) 1, (99, 1), blk_of (by revert t; decide +kernel), by revert t; decide +kernel⟩,
   ⟨blkSt 2 0 [] 1, blkR 2 0 [] 1, by decide +kernel⟩⟩

/-- A state of the storage unit alone. -/
def sto (x : Storage) : State := { sto := x }

/-- Path 4,095 exists, with queues of n places, keep-alive period k and connections l. -/
def pathWord (n k : Nat) : Nat := 1 + 64 * 65536 + n <<< 272 + k <<< 352

/-- A packet of the storage unit: what it is for (1 a connection, 2 a queue pair), which one, its bytes. -/
def stoPkt (kind i : Nat) (l : List Byte) : Pkt := (({ id := 9, data := l } : Pkt).s (438, 3) kind).s (416, 22) i

theorem pair_of {α β : Type} {x : α × β} {a : α} (h : x.1 = a) : x = (a, x.2) := by rw [← h]

/-- The connection of the state. -/
def conn1 (x : Conn) : Storage := { conns := [(65535, x)], paths := [(4095, pathWord 2 1)], pathConns := [(4095, [65535])] }

/-- A TCP segment of 32 payload bytes for connection 65,535. -/
def segPkt : Pkt := stoPkt 1 65535 (ipv4 6 66)

theorem witness_BackEnd :
    (∀ t ∈ [[], [(⟨1, 1, 1⟩ : TagUse)]], ∃ (s : State) (c : StoCmd), s.waitingOn 65535 = c :: [] ∧ (s.stoConn 65535).st = .up ∧ s.pf (s.stoConn 65535).path 272 16 = 2 ∧
      (s.stoConn 65535).tags = t) ∧
    (∃ (s : State) (e : List Byte), (s.stoConn 65535).cqe 65535 = some e ∧ (s.stoConn 65535).st = .up ∧ (s.stoConn 65535).aliveTag = none ∧ s.tagCmd 65535 (leAt e 12 2) = none) ∧
    (∀ st ∈ [0, 1, 2], ∃ (s : State) (e : List Byte) (c : StoCmd), (s.stoConn 65535).cqe 65535 = some e ∧ (s.stoConn 65535).st = .up ∧ (s.stoConn 65535).aliveTag = none ∧
      s.tagCmd 65535 (leAt e 12 2) = some c ∧ leAt e 14 2 = st ∧ c.op ≠ 2) ∧
    (∀ a ∈ [Attempt.issued 65535 1, .waiting 65535], ∃ (s : State) (c : StoCmd), s.sto.cmds.find? (fun c => c.id == 1) = some c ∧ c.place = a) ∧
    (∃ (s : State) (b : List Byte), (s.stoConn 65535).inbox = b :: [] ∧ (s.stoConn 65535).st = .icreq ∧ b.getD 0 0 = 1 ∧ leAt b 8 2 = 0 ∧ (b.getD 10 0).toNat = 31 ∧
      (b.getD 11 0).toNat &&& s.pf (s.stoConn 65535).path 3 2 = (b.getD 11 0).toNat ∧ leAt b 12 4 = 4096) ∧
    (∀ st ∈ [0, 2], ∃ (s : State) (e : List Byte), (s.stoConn 65535).cqe 65535 = some e ∧ (s.stoConn 65535).st = .connecting ∧ leAt e 14 2 = st ∧ (s.stoConn 65535).num ≠ 0 ∧
      (s.connsOf (s.stoConn 65535).path).all (fun c => !(s.stoConn c).failed) = true) :=
  ⟨fun t h => ⟨sto { conn1 { path := 4095, st := .up, tags := t } with cmds := [cmdAt 1 1 (.waiting 65535)] }, cmdAt 1 1 (.waiting 65535), by revert t; decide +kernel⟩,
   ⟨sto (conn1 { path := 4095, st := .up, inbox := [5 :: List.replicate 23 0] }), List.replicate 16 0, by decide +kernel⟩,
   fun st h => ⟨sto { conn1 { path := 4095, st := .up, inbox := [5 :: List.replicate 19 0 ++ [1, 0] ++ leBytes st 2], tags := [⟨1, 1, 1⟩] } with cmds := [cmdAt 1 1 (.issued 65535 1)] },
     List.replicate 12 0 ++ [1, 0] ++ leBytes st 2, cmdAt 1 1 (.issued 65535 1), by revert st; decide +kernel⟩,
   fun a h => ⟨sto { cmds := [cmdAt 1 1 a] }, cmdAt 1 1 a, rfl, rfl⟩,
   ⟨sto (conn1 { path := 4095, st := .icreq, inbox := [1 :: List.replicate 9 0 ++ [31, 0, 0, 16, 0, 0]] }), 1 :: List.replicate 9 0 ++ [31, 0, 0, 16, 0, 0], by decide +kernel⟩,
   fun st h => ⟨sto (conn1 { path := 4095, num := 64, st := .connecting, inbox := [5 :: List.replicate 21 0 ++ leBytes st 2] }), List.replicate 14 0 ++ leBytes st 2,
     by revert st; decide +kernel⟩⟩

theorem witness_BackEnd_more :
    (∃ s : State, s.pf 4095 0 1 = 1 ∧ s.connsOf 4095 = 65535 :: [] ∧ (s.stoConn 65535).st = .up ∧ s.pf 4095 352 32 ≠ 0 ∧ (s.stoConn 65535).aliveTag = none) ∧
    (∃ s : State, roceConn 65535 = false ∧ (s.stoConn 65535).st = .up ∧ (s.stoConn 65535).unacked ≠ [] ∧ (s.stoConn 65535).retries < s.rd F.STO_TCP_CFG_RETRIES) ∧
    (∃ s : State, (s.stoConn 65535).st = .up ∧ (s.stoConn 65535).unacked ≠ [] ∧ (s.stoConn 65535).retries = s.rd F.STO_TCP_CFG_RETRIES) ∧
    (∀ n ∈ [6, 7], ∃ s : State, (s.qp 1048575).unacked ≠ [] ∧ (s.qp 1048575).retries = n ∧ (s.qp 1048575).retryCnt = 7) ∧
    (∃ (s u : State) (p : Pkt), s.stoTake 1 (fun p => !(tcpParse p.data).1.isEmpty) = (some p, u) ∧ ((u.stoConn p.stoIndex).acked (tcpParse p.data).2.2.1).st = .down) ∧
    (∀ n ∈ [0, 0x01010101], ∃ (s u : State) (p : Pkt), s.stoTake 1 (fun p => !(tcpParse p.data).1.isEmpty) = (some p, u) ∧
      ((u.stoConn p.stoIndex).acked (tcpParse p.data).2.2.1).st = .up ∧ (tcpParse p.data).2.1 = 0x01010101 ∧ ((u.stoConn p.stoIndex).acked (tcpParse p.data).2.2.1).rcv = n) :=
  ⟨⟨sto (conn1 { st := .up }), by decide +kernel⟩, ⟨sto (conn1 { st := .up, unacked := [(0, [0])] }), by decide +kernel⟩,
   ⟨(sto (conn1 { st := .up, unacked := [(0, [0])] })).wr F.STO_TCP_CFG_RETRIES 0, by decide +kernel⟩,
   fun n h => ⟨sto { qps := [(1048575, { unacked := [(0, [0])], retries := n, retryCnt := 7 })] }, by revert n; decide +kernel⟩,
   ⟨{ path := { stoQueue := [segPkt] } }, _, segPkt, pair_of (by decide +kernel), by decide +kernel⟩,
   fun n h => ⟨{ sto (conn1 { st := .up, rcv := n }) with path := { stoQueue := [segPkt] } }, _, segPkt, pair_of (by revert n; decide +kernel), by revert n; decide +kernel⟩⟩

/-- A RoCE packet for queue pair 1,048,575 with the opcode given, before its ICRC. -/
def roceBody (op : Nat) : List Byte := (ipv4 17 62).take 34 ++ [0, 0] ++ beBytes 4791 2 ++ List.replicate 4 0 ++ [BitVec.ofNat 8 op] ++ List.replicate 15 0

/-- That packet with the ICRC x. -/
def rocePkt (op x : Nat) : Pkt := stoPkt 2 1048575 (roceBody op ++ leBytes x 4)

/-- The state in which it waits. -/
def roceAt (op x : Nat) : State := { path := { stoQueue := [rocePkt op x] } }

theorem roce_tail (op x : Nat) : ((rocePkt op x).data.take 62).drop 58 = leBytes x 4 ∧ (((rocePkt op x).data.take 62).take 58).drop 14 = (roceBody op).drop 14 := ⟨rfl, rfl⟩

theorem take_of {s : State} {kind : Nat} {ok : Pkt → Bool} {p : Pkt} (hq : s.path.stoQueue = [p]) (hk : p.stoKind = kind) (ho : ok p = true)
    (he : p.g Md.policerEn = 0) (ht : p.txStamp = false) : s.stoTake kind ok = (some p, { s with path := { s.path with stoQueue := [] } }) := by
  simp only [State.stoTake, hq, hk, ho, State.police, he, State.policeDrop, ht]
  simp

theorem witness_RocePackets :
    (∀ e ∈ [0, 1], ∃ (s u : State) (p : Pkt), bthAt p.data = some (14, false, 42, 62) ∧
      s.stoTake 2 (fun p => (match bthAt p.data with | some (_, _, b, _) => (p.data.getD b 0).toNat | none => 0) ≠ 0x81) = (some p, u) ∧
      (leNat ((p.data.take 62).drop 58) = (Config.icrc (((p.data.take 62).take 58).drop 14)).toNat ↔ e = 0) ∧ ecn (p.data.take 62) 14 false ≠ 3 ∧
      (u.qp p.stoIndex).error = false ∧ (u.qp p.stoIndex).ud = false ∧ (p.data.getD 42 0).toNat = 17) ∧
    (∃ (s u : State) (p : Pkt), s.stoTake 2 (fun p => match bthAt p.data with | some (_, _, b, _) => p.data.getD b 0 == 0x81 | none => false) = (some p, u) ∧
      (u.stat R.STO_CNP_RX_CNT).fst.drip - (u.qp p.stoIndex).lastCut < (u.stat R.STO_CNP_RX_CNT).rd F.STO_RC_CFG_CUT_DRIPS) := by
  refine ⟨fun e he => ⟨roceAt 17 ((Config.icrc ((roceBody 17).drop 14)).toNat + e), _, rocePkt 17 _, by revert e; decide +kernel,
      take_of rfl (by revert e; decide +kernel) (by revert e; decide +kernel) (by revert e; decide +kernel) rfl, ?_, by revert e; decide +kernel⟩,
    ⟨roceAt 0x81 0, _, rocePkt 0x81 0, pair_of (by decide +kernel), by decide +kernel⟩⟩
  rw [(roce_tail _ _).1, (roce_tail _ _).2, leNat_leBytes]
  have := (Config.icrc ((roceBody 17).drop 14)).isLt
  simp only [List.mem_cons, List.not_mem_nil, or_false] at he
  omega

/-- Host bytes at 0x1000 of attachment 0: the number v, 64 bytes. -/
def host64 (v : Nat) : Mem := Mem.putLe [] (hostKey 0 0x1000) 64 v

/-- The words of a namespace of controller 2047 and path 4,095, and of a path with 64 connections. -/
def nsWord : Nat := 1 + 2055 * 65536 + 2047 * 2 ^ 64 + 4095 * 2 ^ 96

theorem witness_RoceAndStorageAdmin :
    (∃ s : State, (s.qp 1048575).valid = true ∧ (s.qp 1048575).lastCnp + s.rd F.STO_RC_CFG_INC_DRIPS ≤ s.fst.drip ∧ (s.qp 1048575).stage = 4) ∧
    (∀ b : Bool, ∃ (s : State) (c : AdmCmd), s.Checked 0 0x38 true [0x107FF] (fun _ => true) c ∧ isMgmt c.target = false ∧ (s.func c.target).created = b ∧
      s.hasCtrl (bitsOf (c.word 8) 0 11) = false ∧ s.ctrlOf c.target = none) ∧
    (∃ (s : State) (c : AdmCmd), s.Checked 0 0x39 true [0x7FF] (fun _ => true) c ∧ Map.get s.sto.ctrls none (bitsOf (c.word 8) 0 11) = none) ∧
    (∃ (s : State) (c : AdmCmd) (x : Ctrl), s.Checked 0 0x39 true [0x7FF] (fun _ => true) c ∧ Map.get s.sto.ctrls none (bitsOf (c.word 8) 0 11) = some x ∧
      s.sto.ns.any (fun e => bitOf e.2 0 && bitsOf e.2 64 11 == bitsOf (c.word 8) 0 11) = false ∧ (s.func x.owner).queues.any (fun e => decide (7 * 4096 ≤ e.1)) = false) ∧
    (∃ (s : State) (c : AdmCmd) (k : Ctrl), s.Checked 0 0x3A true [0x3FFF, 2 ^ 64 - 1] (fun _ => true) c ∧ leNat (s.hostRead (s.attOf 0) (c.word 0x10) 64) = nsWord ∧
      Map.get s.sto.ctrls none (bitsOf nsWord 64 11) = some k ∧ onlyBits nsWord nsMasks = true ∧ bitOf nsWord 0 = true ∧ k.owner = bitsOf nsWord 16 12 ∧
      bitsOf nsWord 16 12 ≠ 0xFFF ∧ k.kind = 0 ∧ s.pf (bitsOf nsWord 96 12) 0 1 = 1 ∧ s.nf (bitsOf (c.word 8) 0 14) 0 1 = 0 ∧
      s.nsOf (bitsOf nsWord 64 11) (bitsOf nsWord 80 5 + 1) = none) ∧
    (∀ v ∈ [0, 1], ∃ (s : State) (c : AdmCmd), s.Checked 0 0x3B true [0x3FFF] (fun _ => true) c ∧ s.nf (bitsOf (c.word 8) 0 14) 0 1 = v ∧
      s.sto.cmds.any (fun x => x.ns == bitsOf (c.word 8) 0 14) = false) :=
  ⟨⟨{ sto { qps := [(1048575, { valid := true, stage := 4 })] } with fst := { drip := 1000000 } }, by decide +kernel⟩,
   fun b => ⟨givenBy { funcs := [(2055, { created := b })] } 0 (plainCmd 0x38 2055 [0x7FF]), plainCmd 0x38 2055 [0x7FF], checked_of (by revert b; decide +kernel), by revert b; decide +kernel⟩,
   ⟨_, _, plain_checked (s := {}) (ws := [0x7FF]) (by decide +kernel), by decide +kernel⟩,
   ⟨_, _, { owner := 2055 }, plain_checked (s := sto { ctrls := [(2047, some { owner := 2055 })] }) (ws := [0x7FF]) (by decide +kernel), by decide +kernel⟩,
   ⟨_, _, { owner := 2055 }, plain_checked (s := { sto { ctrls := [(2047, some { owner := 2055 })], paths := [(4095, 1)] } with mem := host64 nsWord }) (ws := [0x3FFF, 0x1000])
      (by decide +kernel), by decide +kernel⟩,
   fun v h => ⟨givenBy (sto { ns := [(16383, v)] }) 0 (plainCmd 0x3B 0 [0x3FFF]), plainCmd 0x3B 0 [0x3FFF], checked_of (by revert v; decide +kernel), by revert v; decide +kernel⟩⟩

/-- The 64 bytes of a path with n connections of q places each. -/
def pathHost (n q : Nat) : Mem := Mem.putBytes [] (hostKey 0 0x1000) ([1, 0, BitVec.ofNat 8 n] ++ List.replicate 31 0 ++ leBytes q 2 ++ List.replicate 28 0)

theorem witness_RoceAndStorageAdmin_more :
    (∀ x ∈ [(0, 0), (1, 0), (64, 0), (64, 1)], ∃ (s : State) (c : AdmCmd) (w : Nat), s.Checked 0 0x3C true [0xFFF, 2 ^ 64 - 1] (fun _ => true) c ∧
      leNat (s.hostRead (s.attOf 0) (c.word 0x10) 64) = w ∧ bitsOf w 16 7 = x.1 ∧ onlyBits w pathMasks = true ∧ bitOf w 0 = true ∧ bitOf w 1 = false ∧
      2 ≤ bitsOf w 272 16 ∧ s.pf (bitsOf (c.word 8) 0 12) 0 1 = x.2 ∧ (s.newConns false (x.1 + 1)).length = x.1 + 1) ∧
    (∀ x ∈ [(0, false), (1, false), (1, true)], ∃ (s : State) (c : AdmCmd), s.Checked 0 0x3D true [0xFFF] (fun _ => true) c ∧ s.pf (bitsOf (c.word 8) 0 12) 0 1 = x.1 ∧
      s.sto.ns.any (fun e => bitOf e.2 0 && bitsOf e.2 96 12 == bitsOf (c.word 8) 0 12) = x.2 ∧
      s.sto.paths.any (fun e => e.1 != bitsOf (c.word 8) 0 12 && bitOf e.2 44 && bitsOf e.2 32 12 == bitsOf (c.word 8) 0 12) = false) :=
  ⟨fun x h => ⟨givenBy { sto { paths := [(4095, x.2)] } with mem := pathHost x.1 2 } 0 (plainCmd 0x3C 0 [0xFFF, 0x1000]), plainCmd 0x3C 0 [0xFFF, 0x1000], _,
      checked_of (by revert x; decide +kernel), rfl, by revert x; decide +kernel⟩,
   fun x h => ⟨givenBy (sto { paths := [(4095, x.1)], ns := if x.2 then [(16383, nsWord)] else [] }) 0 (plainCmd 0x3D 0 [0xFFF]), plainCmd 0x3D 0 [0xFFF],
      checked_of (by revert x; decide +kernel), by revert x; decide +kernel⟩⟩

/-- A state of function f alone. -/
def funcAt (f : Nat) (x : Func) : State := { funcs := [(f, x)] }

/-- Attachment 0's link is up. -/
def dlUp (s : State) : State := s.wr (F.HIF_LINK_STATUS_DL_UP 0) 1

theorem witness_PcieFunctions :
    (∀ b : Bool, ∃ s : State, s.mayTrain 0 = true ∧ s.rdB (F.HIF_LINK_STATUS_DL_UP 0) = b) ∧ (({} : State).mayTrain 0 = false) ∧
    (∀ b : Bool, ∃ s : State, s.rdB (F.HIF_LINK_STATUS_DL_UP 3) = b) ∧
    (∃ s : State, (s.link 0).perstN = true ∧ s.present 0 = true ∧ s.rdB F.GLB_BOOT_HIF_READY = true) ∧ (({} : State).link 3).perstN = false ∧
    (∀ b : Bool, ∃ s : State, (s.func 2055).cfg.bme = b) ∧ (∃ s : State, (s.func 2055).resetting = true ∧ (s.func 2055).resetCmd = none) ∧
    (∃ s : State, (s.func 2055).resetting = true ∧ (s.func 2055).resetCmd = some 6) ∧ (({} : State).func 2055).resetting = false ∧
    ((({} : State).bmeOff 2055).updFunc 2055 (fun x => { x with cfg := { x.cfg with d3hot := true } })).rdB (F.HIF_LINK_STATUS_DL_UP
      (((({} : State).bmeOff 2055).updFunc 2055 (fun x => { x with cfg := { x.cfg with d3hot := true } })).attOf 2055)) = false := by
  refine ⟨fun b => ⟨{ ((at1 F.HIF_STATUS_PRESENT 1).wr F.GLB_BOOT_HIF_READY 1).wr (F.HIF_LINK_STATUS_DL_UP 0) b.toNat with links := [(0, { perstN := true })] },
      by revert b; decide +kernel⟩, by decide +kernel, fun b => ⟨at1 (F.HIF_LINK_STATUS_DL_UP 3) b.toNat, by revert b; decide +kernel⟩,
    ⟨{ (at1 F.HIF_STATUS_PRESENT 1).wr F.GLB_BOOT_HIF_READY 1 with links := [(0, { perstN := true })] }, by decide +kernel⟩, rfl,
    fun b => ⟨funcAt 2055 { cfg := { bme := b } }, rfl⟩, ⟨funcAt 2055 { resetting := true }, rfl, rfl⟩, ⟨funcAt 2055 { resetting := true, resetCmd := some 6 }, rfl, rfl⟩,
    rfl, by decide +kernel⟩

/-- A host read of function 0. -/
def rdOf : Read := { att := 0, tag := 5, func := 0, gen := 1, bytes := 512, why := .entries 0 0 1 }

/-- Session 3 of carrier 4, established, and function 2055 in a state of TDISP. -/
def inSess (t : TdiState) : State :=
  { (at1 F.GRT_BOOT_STATUS_STAGE 2).wr (F.HIF_IDE_STATUS_SECURE 0 8) 1 with grt := { sess := [(3, some { conn := 4, est := true })] }, funcs := [(2055, { created := true, tdi := t, tdiNonce := 77 })] }

theorem inSess_of (t : TdiState) : (inSess t).InSess 4 3 { conn := 4, est := true } := by
  refine ⟨?_, rfl, rfl, rfl⟩; cases t <;> decide +kernel

theorem witness_ReadsWindowsAndTdisp :
    (∃ (s : State) (r : Read), s.readWait.find? (fun r => r.att == 0) = some r ∧ s.readFits r = true ∧ s.mayRequest r.func = true) ∧
    (∃ (s : State) (r : Read), s.readWait.find? (fun r => r.att == 0) = some r ∧ s.readFits r = false) ∧
    (∀ g ∈ [1, 2], ∃ (s : State) (r : Read), s.reads.find? (fun r => r.att == 0 && r.tag == 5) = some r ∧ (s.func r.func).gen = g ∧ r.gen = 1 ∧ r.discard = false) ∧
    (({} : State).reads.find? (fun r => r.att == 0 && r.tag == 5) = none) ∧ (∀ b : Bool, ∃ s : State, s.rdB (F.HIF_IDE_STATUS_SECURE 3 8) = b) ∧
    (∃ s : State, s.barOpen (2 * 3) = true ∧ s.winReason 3 15 (2 ^ 21 - 64) 64 0 true = 0 ∧ s.winReason 3 15 (2 ^ 21 - 64) 64 0 false = 0 ∧ s.winReason 3 15 (2 ^ 21 - 64) 65 0 true = 3) ∧
    (({} : State).rdB (F.HIF_WIN_COMMIT_BUSY 3) = false ∧
      ((List.range 16).filter (fun n => bitOf 0xFFFF n)).find? (fun n => !({} : State).winInside 3 n) = none) ∧
    (∃ s : State, s.rdB (F.HIF_WIN_COMMIT_BUSY 3) = false ∧ ((List.range 16).filter (fun n => bitOf 0x8000 n)).find? (fun n => !s.winInside 3 n) = some 15) ∧
    (∃ s : State, (s.link 3).winBusy = true) ∧ ({} : State).peerBusy 3 = false ∧
    (∀ t ∈ [TdiState.unlocked, .locked, .run], ∃ (s : State) (x : SpdmSess), s.InSess 4 3 x ∧ isVf 2055 = true ∧ (s.func 2055).created = true ∧ (s.func 2055).tdi = t ∧
      s.rdB (F.HIF_IDE_STATUS_SECURE (s.attOf 2055) 8) = true ∧ (s.func 2055).tdiNonce = 77) :=
  ⟨⟨{ dlUp {} with readWait := [rdOf], funcs := [(0, { cfg := { bme := true } })] }, rdOf, by decide +kernel⟩,
   ⟨{ readWait := [rdOf], funcs := [(0, { readCap := 0 })] }, rdOf, by decide +kernel⟩,
   fun g h => ⟨{ reads := [rdOf], funcs := [(0, { gen := g })] }, rdOf, rfl, rfl, rfl, rfl⟩, rfl, fun b => ⟨at1 (F.HIF_IDE_STATUS_SECURE 3 8) b.toNat, by revert b; decide +kernel⟩,
   ⟨{ (((at1 (F.HIF_WIN_LIVE_CFG_ENABLE 3 15) 1).wr (F.HIF_WIN_LIVE_CFG_WR 3 15) 1).wr (F.HIF_WIN_LIVE_CFG_RD 3 15) 1).wr (F.HIF_WIN_LIVE_CFG_LIMIT 3 15) 1 with
      funcs := [(6, { cfg := { memSpace := true } })] }, by decide +kernel⟩,
   by decide +kernel, ⟨at1 (F.HIF_WIN_CFG_LIMIT 3 15) 1, by decide +kernel⟩, ⟨{ links := [(3, { winBusy := true })] }, rfl⟩, rfl,
   fun t h => ⟨inSess t, { conn := 4, est := true }, inSess_of t, by revert t; decide +kernel⟩⟩

/-- Function 2055, a virtual function whose BAR is open to its host. -/
def dbAt (x : Func) : State :=
  { funcs := [(1, { cfg := { vfEnable := true, vfMemSpace := true, numVfs := 2048 } }), (2055, x)] }

/-- A created function 2055 of generation 1 with a queue of the kind given, number 4,095, of eight entries, its free-running indices at 65,535. -/
def ringAt (k : Nat) : State :=
  dbAt { created := true, adminEn := true, queues := [(qKey k 4095, { st := .enabled, ci := 65535, pi := 65535, log2 := 3, size := 8, used := 7 })], adm := { log2 := 3, ci := 65535 }, cqs := [(4095, { on := true, log2 := 3, wi := 3 })], evt := { on := true, log2 := 3, wi := 3 }, admCpl := { on := true, log2 := 3, wi := 3 } }

theorem bars_at : ∀ k ∈ [0, 1, 6, 7, 8, 9], (ringAt k).barOpen 2055 = true := by decide +kernel

theorem rings_at (k : Nat) (h : k ∈ [0, 1, 6, 7, 8, 9]) : (ringAt k).Rings 2055 1 := ⟨rfl, bars_at k h, rfl⟩

theorem witness_Doorbells :
    (∃ s : State, s.barOpen 2055 = true ∧ (s.func 2055).created = false) ∧ (∃ s : State, s.barOpen 2055 = true ∧ (s.func 2055).created = true ∧ 2 ≠ (s.func 2055).gen) ∧
    (∀ k ∈ [0, 1, 6, 7], ∃ s : State, s.Rings 2055 1 ∧ s.hasQue 2055 k 4095 = true ∧ (s.que 2055 k 4095).st ≠ .disabled ∧ (s.que 2055 k 4095).packed = false ∧
      prodOk 6 (s.que 2055 k 4095).ci (s.que 2055 k 4095).log2 = true ∧ prodOk 7 (s.que 2055 k 4095).ci (s.que 2055 k 4095).log2 = false) ∧
    (∃ s : State, s.Rings 2055 1 ∧ (s.func 2055).cqs.any (fun e => e.1 == 4095) = true ∧ freeOk (Map.get (s.func 2055).cqs {} 4095) 65531 = true ∧
      (s.func 2055).evt.on = true ∧ freeOk (s.func 2055).evt 65531 = true ∧ (s.func 2055).adminEn = true ∧ prodOk 6 (s.func 2055).adm.ci (s.func 2055).adm.log2 = true ∧
      (s.func 2055).admCpl.on = true ∧ freeOk (s.func 2055).admCpl 65531 = true) ∧
    (∃ s : State, s.Rings 2055 1 ∧ s.hasQue 2055 8 4095 = true ∧ (s.que 2055 8 4095).st ≠ .disabled ∧ 7 < (s.que 2055 8 4095).size) ∧
    (∃ s : State, s.Rings 2055 1 ∧ s.hasQue 2055 9 4095 = true ∧ (s.que 2055 9 4095).size = 8 ∧
      (7 + 8 - (s.que 2055 9 4095).cqHead) % max 1 8 ≤ ((s.que 2055 9 4095).used + 8 - (s.que 2055 9 4095).cqHead) % max 1 8) ∧
    (∃ s : State, s.Rings 2055 1 ∧ (s.func 2055).adminEn = false ∧ (s.func 2055).setupOk = false) ∧
    (∃ s : State, s.Rings 2055 1 ∧ (s.func 2055).adminEn = false ∧ (s.func 2055).setupOk = true) :=
  ⟨⟨dbAt {}, by decide +kernel, rfl⟩, ⟨dbAt { created := true }, by decide +kernel, rfl, by decide⟩, fun k h => ⟨ringAt k, rings_at k (by revert k; decide), by revert k; decide +kernel⟩, ⟨ringAt 0, rings_at 0 (by decide), by decide +kernel⟩,
   ⟨ringAt 8, rings_at 8 (by decide), by decide +kernel⟩, ⟨ringAt 9, rings_at 9 (by decide), by decide +kernel⟩, ⟨dbAt { created := true }, ⟨rfl, by decide +kernel, rfl⟩, rfl, by decide +kernel⟩,
   ⟨dbAt { created := true, vecTable := 2, vecAllot := 2, setup := [(12, 6), (13, 6), (14, 6)] }, ⟨rfl, by decide +kernel, rfl⟩, rfl, by decide +kernel⟩⟩

/-- Function f, an admin slot with the command op next on its ring. -/
def slotAt (f op : Nat) : State :=
  { dlUp (funcAt f { created := true, adminEn := true, cfg := { bme := true }, adm := { base := 0x1000, log2 := 6, ci := 65535, pi := 0 }, admCpl := { on := true, log2 := 6 } }) with
    mem := Mem.putBytes [] (hostKey 0 (0x1000 + 128 * 63)) (leBytes (op + f * 65536) 8) }

/-- A function 2055 with a queue of the kind given in the state given. -/
def queAt (k : Nat) (st : QState) (b : Bool) : State :=
  funcAt 2055 { created := true, cfg := { bme := b }, vecTable := 2, qpAllot := 2, qpUsed := 1, cqs := [(4095, { on := true })], evt := { on := true },
                queues := [(qKey k 4095, { st := st, disabling := st == .stopped })] }

/-- Function 2055 created, its allotment given. -/
def allotAt (b : Bool) (n : Nat) : State := { owned {} with funcs := [(2055, { created := b, qpAllot := n })] }

theorem witness_FunctionsAndQueues :
    (∀ x ∈ [(0, 0xFF, none), (2055, 0x01, some false), (0, 0x02, some true), (2055, 0x02, some true)], ∃ (s : State) (c : AdmCmd), (s.func x.1).adminEn = true ∧ s.mayRequest x.1 = true ∧
      (s.func x.1).cur = none ∧ (s.func x.1).slotStop = false ∧ (s.func x.1).adm.ci ≠ (s.func x.1).adm.pi ∧ (s.func x.1).admCpl.room = true ∧
      s.held.any (fun h => h.1 == x.1) = false ∧ c = { slot := 63, bytes := s.hostRead (s.attOf x.1) ((s.func x.1).adm.base + 128 * 63) 128, opRead := 0 } ∧
      (s.func x.1).adm.ci % 2 ^ (s.func x.1).adm.log2 = 63 ∧ cmdM c.op = x.2.2 ∧ c.target = x.1) ∧
    (∃ (s : State) (c : AdmCmd), s.Checked 0 0x01 false [] (fun _ => true) c) ∧
    (∃ (s : State) (c : AdmCmd), s.Checked 0 0x05 false [0x103FF001F0FFF, 0xFFFFFFFFFFFFFFFF]
        (fun c => decide (6 ≤ bitsOf (c.word 8) 16 5) && decide (bitsOf (c.word 8) 16 5 ≤ 16) && c.word 16 % 4096 == 0) c ∧
      (s.func c.target).created = true ∧ bitsOf (c.word 8) 32 10 < (s.func c.target).vecTable ∧ s.frozen c.target = false ∧
      (s.func c.target).cqs.any (fun e => e.1 == bitsOf (c.word 8) 0 12) = true) ∧
    (∃ (s : State) (c : AdmCmd), s.Checked 0 0x05 false [0x103FF001F0FFF, 0xFFFFFFFFFFFFFFFF]
        (fun c => decide (6 ≤ bitsOf (c.word 8) 16 5) && decide (bitsOf (c.word 8) 16 5 ≤ 16) && c.word 16 % 4096 == 0) c ∧
      (s.func c.target).created = true ∧ bitsOf (c.word 8) 32 10 < (s.func c.target).vecTable ∧ s.frozen c.target = false ∧
      (s.func c.target).cqs.any (fun e => e.1 == bitsOf (c.word 8) 0 12) = false ∧ (s.func c.target).cqs.length < (s.func c.target).qpAllot) ∧
    (∃ (s : State) (c : AdmCmd), s.Checked 0 0x06 false [0xFFF] (fun _ => true) c ∧ (s.func c.target).cqs.any (fun e => e.1 == c.word 8) = true ∧ s.frozen c.target = false) ∧
    (∀ n ∈ [4095, 0], ∃ (s : State) (c : AdmCmd), s.Checked 0 0x07 false [0xFFF007FFFFF, 0xFFFFFFFFFFFFFFFF, 0xFFFFFFFFFFFFFFFF, 0xFFFFFFFFFFFFFFFF, 0x7FF, 0xFFFFFFFFFFFFFFFF]
        (fun c => queueShape (bitsOf (c.word 8) 12 4) (bitsOf (c.word 8) 16 5) (c.word 0x10)) c ∧
      s.queueGood c.target c = true ∧ s.frozen c.target = false ∧ s.hasQue c.target (bitsOf (c.word 8) 12 4) (bitsOf (c.word 8) 0 12) = (n == 4095) ∧
      (s.func c.target).qpUsed < (s.func c.target).qpAllot ∧ bitsOf (c.word 8) 12 4 ≠ 8) :=
  ⟨fun x h => ⟨slotAt x.1 (if x.2.2 = none then 0xFF else if x.2.2 = some false then 1 else 2),
      { slot := 63, bytes := (slotAt x.1 (if x.2.2 = none then 0xFF else if x.2.2 = some false then 1 else 2)).hostRead 0 (0x1000 + 128 * 63) 128, opRead := 0 }, by revert x; decide +kernel⟩,
   ⟨_, _, plain_checked (s := {}) (ws := []) (by decide +kernel)⟩,
   ⟨givenBy (queAt 7 .enabled true) 0 (plainCmd 0x05 2055 [0x1000000060FFF + 0xA0000, 0x1000]), plainCmd 0x05 2055 [0x1000000060FFF + 0xA0000, 0x1000], checked_of (by decide +kernel), by decide +kernel⟩,
   ⟨givenBy (queAt 7 .enabled true) 0 (plainCmd 0x05 2055 [0x1000000060000, 0x1000]), plainCmd 0x05 2055 [0x1000000060000, 0x1000], checked_of (by decide +kernel), by decide +kernel⟩,
   ⟨givenBy (queAt 7 .enabled true) 0 (plainCmd 0x06 2055 [4095]), plainCmd 0x06 2055 [4095], checked_of (by decide +kernel), by decide +kernel⟩,
   fun n h => ⟨givenBy (queAt 0 .enabled true) 0 (plainCmd 0x07 2055 [0x60000 + n, 0x1000, 0, 0, 0, 0]), plainCmd 0x07 2055 [0x60000 + n, 0x1000, 0, 0, 0, 0],
     checked_of (by revert n; decide +kernel), by revert n; decide +kernel⟩⟩

theorem witness_FunctionsAndQueues_more :
    (∀ x ∈ [(0x08, QState.disabled, true), (0x08, .enabled, true), (0x09, .disabled, true), (0x09, .disabled, false), (0x0A, .disabled, true), (0x0A, .enabled, true)],
      ∃ (s : State) (c : AdmCmd), s.Checked 0 x.1 false [0xFFFF] (fun _ => true) c ∧ s.hasQue c.target (bitsOf (c.word 8) 12 4) (bitsOf (c.word 8) 0 12) = true ∧
        2 ≤ bitsOf (c.word 8) 12 4 ∧ bitsOf (c.word 8) 12 4 < 8 ∧ s.frozen c.target = false ∧ (s.func c.target).cfg.master = x.2.2 ∧
        (s.que c.target (bitsOf (c.word 8) 12 4) (bitsOf (c.word 8) 0 12)).st = x.2.1) ∧
    (∃ (s : State) (c : AdmCmd), (s.func 0).cur = some c ∧ c.op = 0x0A ∧ c.begun = true ∧ s.hasQue c.target 7 4095 = true ∧ bitsOf (c.word 8) 12 4 = 7 ∧ bitsOf (c.word 8) 0 12 = 4095 ∧
      (s.que c.target 7 4095).disabling = true ∧ s.queueBusy c.target 7 4095 = false ∧ (s.que c.target 7 4095).packed = false) ∧
    (∃ (s : State) (c : AdmCmd), s.Checked 0 0x0C false [0x3FFF, 0xFFFFFFFF] (fun c => decide (1 ≤ bitsOf (c.word 16) 0 16) && decide (bitsOf (c.word 8) 12 2 ≠ 3)) c ∧
      bitOf (c.word 8) 12 = true ∧ (s.func c.target).evt.on = true) ∧
    (∃ (s t : State) (c : AdmCmd), s.Verified 0 0x02 [0x7FF1FFF, 0x1FFFFFFFF, 0x1FFFF] (fun c => decide (bitsOf (c.word 8) 0 13 ≤ 4096) && decide (bitsOf (c.word 8) 16 11 ≤ 1024)
        && decide (bitsOf (c.word 16) 0 16 + bitsOf (c.word 16) 16 17 ≤ 65536) && decide (c.word 24 ≤ 65536)) c t ∧ (t.func c.target).created = true) ∧
    (∀ n ∈ [61440, 61441], ∃ (s t : State) (c : AdmCmd), s.Verified 0 0x02 [0x7FF1FFF, 0x1FFFFFFFF, 0x1FFFF] (fun c => decide (bitsOf (c.word 8) 0 13 ≤ 4096) &&
        decide (bitsOf (c.word 8) 16 11 ≤ 1024) && decide (bitsOf (c.word 16) 0 16 + bitsOf (c.word 16) 16 17 ≤ 65536) && decide (c.word 24 ≤ 65536)) c t ∧
      (t.func c.target).created = false ∧ isMgmt c.target = false ∧ t.present (t.attOf c.target) = true ∧ bitsOf (c.word 8) 0 13 = 4096 ∧ t.taken Func.qpAllot = n ∧
      t.taken Func.vecAllot + bitsOf (c.word 8) 16 11 ≤ 16384 ∧ t.taken Func.share + c.word 24 ≤ 65536 ∧
      t.tmOverlap c.target (bitsOf (c.word 16) 0 16) (bitsOf (c.word 16) 16 17) = false) ∧
    (∀ f ∈ [6, 2055], ∃ (s t : State) (c : AdmCmd), s.Verified 0 0x03 [] (fun _ => true) c t ∧ c.target = f ∧ (f = 2055 → (t.func c.target).created = true)) ∧
    (∀ x ∈ [(false, 0, 0), (true, 0, 61441), (true, 4096, 0)], ∃ (s t : State) (c : AdmCmd), s.Verified 0 0x04 (shareMasks (bitsOf (c.word 8) 0 4)) shareGood c t ∧
      bitsOf (c.word 8) 0 4 = 3 ∧ (t.func c.target).created = x.1 ∧ c.word 16 = 4096 ∧ (t.func c.target).qpAllot = x.2.1 ∧ t.taken Func.qpAllot = x.2.1 + x.2.2) := by
  refine ⟨fun x h => ⟨givenBy (queAt 7 x.2.1 x.2.2) 0 (plainCmd x.1 2055 [0x7FFF]), plainCmd x.1 2055 [0x7FFF], checked_of (by revert x; decide +kernel), by revert x; decide +kernel⟩,
    ⟨givenBy (queAt 7 .stopped true) 0 { plainCmd 0x0A 2055 [0x7FFF] with begun := true }, { plainCmd 0x0A 2055 [0x7FFF] with begun := true }, by decide +kernel⟩,
    ⟨givenBy (queAt 7 .enabled true) 0 (plainCmd 0x0C 2055 [0x1FFF, 1]), plainCmd 0x0C 2055 [0x1FFF, 1], checked_of (by decide +kernel), by decide +kernel⟩,
    ⟨_, _, _, crit_verified (s := allotAt true 0) (target := 2055) (ws := [0, 0, 0]) (by decide +kernel), by decide +kernel⟩,
    fun n h => ⟨_, _, _, crit_verified (s := { owned { funcs := [(6, { created := true, qpAllot := n })] } with links := [] }.wr F.HIF_STATUS_PRESENT 1)
      (target := 2055) (ws := [4096, 0, 0]) (by revert n; decide +kernel), by revert n; decide +kernel⟩,
    fun f h => ⟨_, _, _, crit_verified (s := allotAt true 0) (target := f) (ws := []) (by revert f; decide +kernel), by revert f; decide +kernel⟩,
    fun x h => ⟨_, _, _, crit_verified (s := { allotAt x.1 x.2.1 with funcs := [(6, { created := true, qpAllot := x.2.2 }), (2055, { created := x.1, qpAllot := x.2.1 })] })
      (target := 2055) (ws := [3, 4096]) (by revert x; decide +kernel), by revert x; decide +kernel⟩⟩

/-- Rope channel 127 in the channel state st, standing at instruction 4000 of engine 1, whose words are w0 and w1; spaces admitted: all. -/
def ropeSt (st w0 w1 : Nat) (x : RopeChan) : State :=
  { ((({} : State).setRst 127 st).wr (F.ROPE_CHAN_STATUS_PC 127) 4000).wr (F.ROPE_CHAN_CFG_SPACES 127) 0x1F with
    rope := { chans := [(127, x)], prog := [(1 * 4096 + 4000, w0 + w1 * 2 ^ 64)] } }

/-- A request that runs. -/
def ropeReq : RopeReq := ⟨4000, 1, 2, 3, 4, 0⟩

/-- A chunk. -/
def ropeChunk : RopeChunk := { id := 0, ss := 1, sa := 0, ds := 1, da := 0, len := 256 }

theorem rope_of {s : State} {c op w0 w1 : Nat}
    (h : (decide (s.rst c = rRunning) && decide ((s.chan c).run ≠ none) && decide (s.ropeWord c 0 = w0) && decide (s.ropeWord c 1 = w1) && ropeLegal w0 w1 &&
      decide (bitsOf w0 0 8 = op)) = true) : s.RopeAt c op w0 w1 := by
  simp only [Bool.and_eq_true, decide_eq_true_eq] at h
  obtain ⟨⟨⟨⟨⟨h1, h2⟩, h3⟩, h4⟩, h5⟩, h6⟩ := h
  exact ⟨h1, h2, h3, h4, h5, h6⟩

theorem witness_Rope :
    (∃ s : State, s.ropeAt 127 = 127 ∧ (s.chan 127).queue.length = 63 ∧ (s.chan 127).waitq = []) ∧
    (∃ (s : State) (r : RopeReq), s.rst 127 = rIdle ∧ (s.chan 127).queue.filter (fun r => r.gen == s.boundGen 127) = r :: [] ∧ s.ropeMay 127 = true) ∧
    (∃ (w0 w1 : Nat) (s : State), s.RopeAt 127 1 w0 w1 ∧ bitsOf w0 32 24 = 0 ∧ bitOf w0 23 = false) ∧
    (∀ x ∈ [(1, 2 ^ 31 - 1, false), (0, 0, true)], ∃ (w0 w1 : Nat) (s : State), s.RopeAt 127 1 w0 w1 ∧ bitOf w0 23 = false ∧ bitOf w0 26 = false ∧ bitOf w0 27 = false ∧
      bitsOf w0 32 24 = 2 ^ 24 - 1 ∧ bitsOf w0 8 3 = 1 ∧ bitsOf w0 11 3 = x.1 ∧
      s.moveRange 127 (bitsOf w0 11 3) (ofSigned 64 ((s.chan 127).preg (bitsOf w0 17 3) + toSigned 32 (bitsOf w1 32 32))) (bitsOf w0 8 3)
        (ofSigned 64 ((s.chan 127).preg (bitsOf w0 14 3) + toSigned 32 (bitsOf w1 0 32))) (bitsOf w0 32 24) = x.2.2) ∧
    (∃ (w0 w1 : Nat) (s : State), s.RopeAt 127 2 w0 w1 ∧ bitOf w0 11 = false ∧ bitsOf w0 16 12 ≠ 0 ∧ s.rd (F.ROPE_CHAN_STATUS_PC 127) + bitsOf w0 16 12 = 4095 ∧
      (s.chan 127).loops.length = 1) ∧
    (∃ (w0 w1 : Nat) (s : State), s.RopeAt 127 3 w0 w1 ∧ bitsOf w0 8 8 ≠ 0 ∧ bitsOf w0 32 16 = 65535) ∧
    (∃ (w0 w1 : Nat) (s : State), s.RopeAt 127 3 w0 w1 ∧ bitsOf w0 32 16 = 0) ∧
    (∀ op ∈ [4, 5], ∃ (w0 w1 : Nat) (s : State), s.RopeAt 127 op w0 w1 ∧ s.targetOk 127 (bitsOf w0 32 32) = true ∧ (s.chan 127).chunks = [] ∧
      s.pulseWaits 127 (bitsOf w0 32 32) = false) ∧
    (∃ (w0 w1 : Nat) (s : State), s.RopeAt 127 4 w0 w1 ∧ s.targetOk 127 (bitsOf w0 32 32) = true ∧ (s.chan 127).chunks ≠ []) ∧
    (∃ s : State, s.rst 127 = rWaiting ∧ (s.chan 127).waitCons = false ∧ s.rd (F.ROPE_CHAN_EVENTS_EVENTS 127) &&& (s.chan 127).waitMask ≠ 0) ∧
    (∃ s : State, s.rst 127 = rWaiting ∧ (s.chan 127).waitLeft = 0) ∧ ({} : State).rst 127 ≠ rWaiting ∧
    (∃ (s : State) (k : RopeChunk), s.ropePick (Map.get s.rope.rrRead 0 1) ((s.chansOf 1).filter (fun c => (s.readyRead c).isSome)) = some 127 ∧ s.readyRead 127 = some k) ∧
    (∃ (s : State) (k : RopeChunk) (d : List Byte), s.ropePick (Map.get s.rope.rrWrite 0 1) ((s.chansOf 1).filter (fun c => (s.readyWrite c).isSome)) = some 127 ∧
      s.readyWrite 127 = some (k, d)) ∧
    (∃ s : State, (s.chan 127).chunks.any (fun k => k.asked) = true) ∧ (({} : State).chan 127).chunks = [] ∧
    (∃ (s : State) (r : RopeReq), (s.chan 127).run = some r ∧ s.boundTo 127 = some 2055 ∧ s.rst 127 = rRunning ∧ r.gen ≠ (s.func 2055).gen) :=
  ⟨⟨ropeSt 0 0 0 { queue := List.replicate 63 ropeReq }, by decide +kernel⟩, ⟨(ropeSt 0 0 0 { queue := [ropeReq] }).wr (F.ROPE_CHAN_CFG_FUNC 127) 0xFFF, ropeReq, by decide +kernel⟩,
   ⟨1, 0, ropeSt 1 1 0 { run := some ropeReq }, rope_of (by decide +kernel), by decide +kernel⟩,
   fun x h => ⟨1 + 2 ^ 8 + x.1 * 2 ^ 11 + (2 ^ 24 - 1) * 2 ^ 32, x.2.1, (ropeSt 1 (1 + 2 ^ 8 + x.1 * 2 ^ 11 + (2 ^ 24 - 1) * 2 ^ 32) x.2.1 { run := some ropeReq }).wr (F.ROPE_CHAN_CFG_FUNC 127) 0xFFF,
     rope_of (by revert x; decide +kernel), by revert x; decide +kernel⟩,
   ⟨2 + 95 * 2 ^ 16, 5, ropeSt 1 (2 + 95 * 2 ^ 16) 5 { run := some ropeReq, loops := [⟨3990, 4010, 2⟩] }, rope_of (by decide +kernel), by decide +kernel⟩,
   ⟨3 + 2 ^ 15 + 65535 * 2 ^ 32, 0, ropeSt 1 (3 + 2 ^ 15 + 65535 * 2 ^ 32) 0 { run := some ropeReq }, rope_of (by decide +kernel), by decide +kernel⟩,
   ⟨3 + 2 ^ 15, 0, ropeSt 1 (3 + 2 ^ 15) 0 { run := some ropeReq }, rope_of (by decide +kernel), by decide +kernel⟩,
   fun op h => ⟨op + 4 * 2 ^ 60, 0, ropeSt 1 (op + 4 * 2 ^ 60) 0 { run := some ropeReq }, rope_of (by revert op; decide +kernel), by revert op; decide +kernel⟩,
   ⟨4 + 4 * 2 ^ 60, 0, ropeSt 1 (4 + 4 * 2 ^ 60) 0 { run := some ropeReq, chunks := [ropeChunk] }, rope_of (by decide +kernel), by decide +kernel⟩,
   ⟨(ropeSt 2 0 0 { waitMask := 128 }).wr (F.ROPE_CHAN_EVENTS_EVENTS 127) 128, by decide +kernel⟩, ⟨ropeSt 2 0 0 {}, by decide +kernel⟩, by decide +kernel,
   ⟨ropeSt 1 0 0 { run := some ropeReq, chunks := [ropeChunk] }, ropeChunk, by decide +kernel⟩,
   ⟨ropeSt 1 0 0 { run := some ropeReq, chunks := [{ ropeChunk with data := some [5] }] }, { ropeChunk with data := some [5] }, [5], by decide +kernel⟩,
   ⟨ropeSt 1 0 0 { chunks := [{ ropeChunk with asked := true }] }, by decide +kernel⟩, rfl,
   ⟨(ropeSt 1 0 0 { run := some ropeReq }).wr (F.ROPE_CHAN_CFG_FUNC 127) 2055, ropeReq, by decide +kernel⟩⟩

/-- Function 2055's native and virtio transmit queues, number 63, with the frames e pending. -/
def txAt (e : List TxPend) : State :=
  dlUp (funcAt 2055 { created := true, cfg := { bme := true }, queues := [(qKey 0 63, { st := .enabled, txPend := e }), (qKey 6 63, { st := .enabled, txPend := e })] })

/-- Channel 31 of mailbox 20 has sender `snd` of kind `sk`, mailbox receiver rk, and is full or not. -/
def mbxAt (sk i rk full : Nat) : State :=
  (((at1 (F.MBX_CHAN_SENDER_KIND 20 31) sk).wr (F.MBX_CHAN_SENDER_INDEX 20 31) i).wr (F.MBX_CFG_RX_KIND 20) rk).wr (F.MBX_DOORBELL_FULL 20) (full * 2 ^ 31)

theorem witness_HostTxAndMailbox :
    (∃ s : State, s.queRuns 2055 0 63 = true ∧ s.mayRequest 2055 = true ∧ s.srcHeld (.host 2055 (qKey 0 63)) = false ∧ s.queRuns 2055 6 63 = true ∧
      s.srcHeld (.host 2055 (qKey 6 63)) = false ∧ 63 % 2 = 1) ∧ ({} : State).queRuns 2055 0 63 = false ∧
    (∀ b : Bool, ∃ (s : State) (e : TxPend), (s.que 2055 6 63).txPend = e :: [] ∧ (s.que 2055 0 63).txPend = e :: [] ∧ e.ready = b ∧ s.mayRequest 2055 = true ∧
      s.hasQue 2055 6 63 = true ∧ s.hasQue 2055 0 63 = true ∧ e.tstamp = false) ∧
    ({} : State).partyOpen 19 = true ∧ ({} : State).partyOpen 20 = true ∧
    (∀ full ∈ [0, 1], ∃ s : State, s.partyOpen 19 = true ∧ s.mbxClosed 19 20 31 = false ∧ s.mbxFull 20 31 = (full == 1) ∧ s.mbxSender 20 31 = some 19 ∧ s.mbxReceiver 20 = 20) ∧
    (∃ s : State, s.mbxClosed 20 20 31 = false ∧ s.mbxSender 20 31 ≠ some 20 ∧ s.mbxReceiver 20 = 20 ∧ s.mbxFull 20 31 = true ∧ 4 ≤ 20) :=
  ⟨⟨txAt [], by decide +kernel⟩, by decide +kernel,
   fun b => ⟨txAt [{ desc := 0, tag := 9, bufs := 1, tstamp := false, status := none, tsNs := 0, tsFrac := 0, aligned := false, entered := b }],
     { desc := 0, tag := 9, bufs := 1, tstamp := false, status := none, tsNs := 0, tsFrac := 0, aligned := false, entered := b }, by revert b; decide +kernel⟩,
   by decide +kernel, by decide +kernel, fun n h => ⟨mbxAt 1 15 2 n, by revert n; decide +kernel⟩, ⟨mbxAt 0 0 2 1, by decide +kernel⟩⟩

/-- Port 7 in the auto-negotiation state given, advertising what it can, in the lane mode of a port of its own. -/
def anAt (st : Nat) : State := (((at1 (F.PRT_LINK_STATUS_AN_STATE 7) st).wr (F.PRT_AN_CFG_AN_EN 7) 1).wr (F.PRT_AN_CFG_ADV 7) 0x7F).setReg R.PRT_LANE_CFG 0x0000008C00000401#64

/-- A received frame of n bytes without FCS. -/
def rxOf (n : Nat) : PortRx := { data := List.replicate n 0 }

theorem witness_PortsAndModules :
    (∃ s : State, s.rd (F.PRT_LINK_STATUS_AN_STATE 7) = 1 ∧ (s.advSpeeds 7).find? (fun c => bitOf 0 (c - 1)) = none) ∧
    (∃ (s : State) (c : Nat), s.rd (F.PRT_LINK_STATUS_AN_STATE 7) = 1 ∧ (s.advSpeeds 7).find? (fun c => bitOf 0x7F (c - 1)) = some c) ∧
    (∀ st ∈ [2, 4, 5], ∃ s : State, s.rdB (F.PRT_AN_CFG_AN_EN 7) = true ∧ s.rd (F.PRT_LINK_STATUS_AN_STATE 7) = st) ∧
    (∃ s : State, s.linkReady 7 = true ∧ s.rdB (F.PRT_LINK_STATUS_UP 7) = false) ∧ ({} : State).linkReady 7 = false ∧
    (∀ b : Bool, ∃ s : State, s.rdB (F.PRT_LINK_STATUS_UP 7) = b) ∧
    (∀ x ∈ [(63, 63), (64, 64), (64, 63)], ∃ (s : State) (r : PortRx), s.rdB (F.PRT_LINK_STATUS_UP 7) = true ∧ r.fragErr = false ∧ r.fecOk = true ∧ r.fcsOk = true ∧
      r.data.length + 4 = x.1 ∧ (s.statAdd (R.PRT_FEC_CORR_CNT 7) r.fecCorr).rd (F.PRT_MAC_CFG_MAX_LEN 7) = x.2 ∧ be16 r.data 12 ≠ 0x8808 ∧
      (((s.statAdd (R.PRT_FEC_CORR_CNT 7) r.fecCorr).stat (R.PRT_RX_PKTS_CNT 7)).statAdd (R.PRT_RX_BYTES_CNT 7) 64).secyRx 7 r.data = false) ∧
    (Map.get (({} : State).prt1 7).pause 0 7 ≤ ({} : State).fst.now ∧ (({} : State).prt1 7).heldPrio = []) ∧ (∃ s : State, (s.prt1 7).heldPrio ≠ []) ∧
    (∀ x ∈ [(5, 5), (6, 5)], ∃ v : Word, bitsOf v.toNat 32 16 = x.1 ∧ bitsOf v.toNat 48 16 = x.2) ∧
    (∀ n ∈ [2, 3], ∃ s : State, s.rd (F.PRT_PREEMPT_STATUS_VERIFY 7) = 2 ∧ (s.prt1 7).verifyTries = n) ∧ (0x40 : Nat) ≤ 0x40 ∧
    (∃ s : State, s.rdB (F.PRT_MOD_STATUS_PRESENT 3) = true) ∧ (∃ s : State, (s.cage 3).retry = true) ∧
    (∃ s : State, s.rdB (F.PRT_MOD_CTRL_BUSY 3) = false ∧ s.rdB (F.PRT_MOD_STATUS_PRESENT 3) = true) ∧ 248 + 7 + 1 ≤ 256 ∧
    (∀ b : Bool, ∃ s : State, s.rdB (F.PRT_MOD_CTRL_BUSY 3) = true ∧ (s.wrB (F.PRT_MOD_CTRL_BUSY 3) false).rdB (F.PRT_MOD_CTRL_WRITE 3) = b) ∧
    (∃ (s : State) (l : List Byte), s.rdB F.PRT_MGMT_STATUS_UP = true ∧ l.length ≤ 9216 ∧ beNat (l.take 6) = s.prt.mgmtMac) ∧ ({} : State).rdB F.PRT_MGMT_STATUS_UP = false :=
  ⟨⟨anAt 1, by decide +kernel⟩, ⟨anAt 1, ((anAt 1).advSpeeds 7).headD 0, by decide +kernel⟩, fun st h => ⟨anAt st, by revert st; decide +kernel⟩,
   ⟨{ anAt 3 with prt := { port := [(7, { locked := true })] } }, by decide +kernel⟩, by decide +kernel, fun b => ⟨at1 (F.PRT_LINK_STATUS_UP 7) b.toNat, by revert b; decide +kernel⟩,
   fun x h => ⟨(at1 (F.PRT_LINK_STATUS_UP 7) 1).wr (F.PRT_MAC_CFG_MAX_LEN 7) x.2, rxOf (x.1 - 4), by revert x; decide +kernel⟩, by decide +kernel,
   ⟨prtAt { heldPrio := [7] }, by decide⟩, fun x h => ⟨BitVec.ofNat 64 (x.1 * 2 ^ 32 + x.2 * 2 ^ 48), by revert x; decide +kernel⟩,
   fun n h => ⟨(prtAt { verifyTries := n }).wr (F.PRT_PREEMPT_STATUS_VERIFY 7) 2, by revert n; decide +kernel⟩, by decide, ⟨at1 (F.PRT_MOD_STATUS_PRESENT 3) 1, by decide +kernel⟩,
   ⟨{ prt := { cage := [(3, { retry := true })] } }, rfl⟩, ⟨at1 (F.PRT_MOD_STATUS_PRESENT 3) 1, by decide +kernel⟩, by decide,
   fun b => ⟨(at1 (F.PRT_MOD_CTRL_BUSY 3) 1).wr (F.PRT_MOD_CTRL_WRITE 3) b.toNat, by revert b; decide +kernel⟩,
   ⟨at1 F.PRT_MGMT_STATUS_UP 1, List.replicate 64 0, by decide +kernel⟩, by decide +kernel⟩

/-- NC-SI channel 7: its port configured, its state as given. -/
def ncAt (b : Bool) (x : NcChan) : State :=
  { (at1 F.PRT_STATUS_CONFIGURED 0x80).wr F.PRT_NCSI_STATUS_TX_ENABLED 0x80 with board := { ncsiClk := b }, prt := { nc := { chans := [(7, x)] } } }

theorem witness_NcsiCommands :
    (∃ s : State, s.NcReady 7) ∧ (∀ b : Bool, ∃ s : State, s.board.ncsiClk = b) ∧
    (∃ s : State, s.board.ncsiClk = true ∧ bitOf (s.ncSeen.rd F.PRT_STATUS_CONFIGURED) 7 = true ∧ (s.ncSeen.nc 7).ready = false) ∧
    (∃ s : State, s.board.ncsiClk = true ∧ bitOf (s.rd F.PRT_NCSI_STATUS_TX_ENABLED) 6 = false) ∧
    (∃ (s : State) (l : List Byte), s.board.ncsiClk = true ∧ bitOf (s.rd F.PRT_NCSI_STATUS_TX_ENABLED) 7 = true ∧
      (s.nc 7).macs.any (fun e => e.2 == beNat ((l.drop 6).take 6) + 2 ^ 48) = true ∧ s.portSends 7 = true ∧ s.gateLets 7 (s.rd F.PRT_NCSI_STATUS_NCSI_TC) = true ∧ (s.nc 7).wait = []) ∧
    (∃ (s : State) (l : List Byte), s.board.ncsiClk = true ∧ bitOf (s.rd F.PRT_NCSI_STATUS_TX_ENABLED) 7 = true ∧
      (s.nc 7).macs.any (fun e => e.2 == beNat ((l.drop 6).take 6) + 2 ^ 48) = true ∧ s.portSends 7 = true ∧ s.gateLets 7 (s.rd F.PRT_NCSI_STATUS_NCSI_TC) = false) :=
  ⟨⟨ncAt true { ready := true }, by decide +kernel, by decide +kernel, by decide +kernel⟩, fun b => ⟨ncAt b {}, rfl⟩, ⟨ncAt true {}, by decide +kernel⟩, ⟨ncAt true {}, by decide +kernel⟩,
   ⟨(ncAt true { macs := [(0, 5 + 2 ^ 48)] }).wr (F.PRT_LINK_STATUS_UP 7) 1, List.replicate 11 0 ++ [5], by decide +kernel⟩,
   ⟨{ (((ncAt true { macs := [(0, 5 + 2 ^ 48)] }).wr (F.PRT_LINK_STATUS_UP 7) 1).setReg R.PRT_LANE_CFG 0x0000008C00000401#64).wr F.FST_STATUS_ALIGNED 1 with
      tm := { gates := [(7, { oper := some ⟨0, 1000, some 0, [(0, 1000)]⟩ })] } }, List.replicate 11 0 ++ [5], by decide +kernel⟩⟩

/-- A state at a boot stage. -/
def stageAt (n : Nat) : State := at1 F.GRT_BOOT_STATUS_STAGE n

/-- Carrier 4 answers, its connection in a phase of version 1.3. -/
def spdmAt (p : Nat) (x : Map (Option SpdmSess)) : State := { stageAt 3 with grt := { conns := [(4, { phase := p, ver := 0x13 })], sess := x } }

theorem spdm_at (p : Nat) (x : Map (Option SpdmSess)) : (spdmAt p x).SpdmAt 4 0x13 p := ⟨(by decide +kernel : (stageAt 3).answers 4 = true), Nat.le_refl p, rfl⟩

theorem witness_BootAndSpdm :
    (∀ b : Bool, ∃ s : State, s.board.held = false ∧ s.rd F.GRT_BOOT_STATUS_STAGE = 0 ∧
      (s.setMeas 1 ((List.range (Config.trustLen 0 0)).map (Config.trustByte 0 0))).rdB F.GLB_STRAPS_RECOVERY_N = b) ∧
    (∃ s : State, s.board.held = true) ∧
    (∃ s : State, s.rd F.GRT_BOOT_STATUS_STAGE = 1 ∧ s.imageCheck (s.rd F.GRT_STATUS_BANK) 1 = 3) ∧
    (∃ s : State, s.rd F.GRT_BOOT_STATUS_STAGE = 2 ∧ s.board.ctrlOk = true) ∧ (∃ s : State, s.rd F.GRT_BOOT_STATUS_STAGE = 3 ∧ s.rd F.GLB_BOOT_CF_STAGE = 1) ∧
    (({} : State).rd F.GRT_BOOT_STATUS_STAGE ≠ 3) ∧ (∀ p ∈ [0, 1], ∃ s : State, s.answers 4 = true ∧ (s.conn 4).phase = p) ∧ ({} : State).answers 4 = false ∧
    (∀ p ∈ [2, 3], ∃ s : State, s.SpdmAt 4 0x13 p ∧ (s.conn 4).phase = p ∧ s.grt.sess.length < 8 ∧ s.sessOf 5 = none) ∧
    (∃ s : State, s.SpdmAt 4 0x13 3 ∧ 8 ≤ s.grt.sess.length) ∧
    (∃ (s : State) (x : SpdmSess), s.answers 4 = true ∧ s.sessOf 3 = some x ∧ x.conn = 4 ∧ x.est = false) ∧
    (∃ (s : State) (x : SpdmSess), s.InSess 4 3 x ∧ x.beat ≠ 0 ∧ s.present 0 = true ∧ s.rdB F.GRT_STATUS_IDE_KEYGEN = false ∧
      (Map.get s.grt.ideKeys none (ideKey 3 8 1)).isNone = false ∧ s.rdB (F.HIF_IDE_STATUS_SECURE 3 8) = false) := by
  have meas : ∀ (s : State) (l : List Byte), (s.setMeas 1 l).rdB F.GLB_STRAPS_RECOVERY_N = s.rdB F.GLB_STRAPS_RECOVERY_N := by
    intro s l
    have h : (s.setMeas 1 l).reg F.GLB_STRAPS_RECOVERY_N.off = s.reg F.GLB_STRAPS_RECOVERY_N.off := by
      simp only [State.setMeas, State.each, List.range, List.range.loop, List.foldl]
      iterate 6 rw [State.reg_setReg_ne _ _ (by decide)]
    simp only [State.rdB, State.rd, h]
  exact ⟨fun b => ⟨at1 F.GLB_STRAPS_RECOVERY_N b.toNat, by revert b; decide +kernel, by revert b; decide +kernel, by rw [meas]; revert b; decide +kernel⟩, ⟨{ board := { held := true } }, rfl⟩,
   ⟨stageAt 1, by decide +kernel⟩, ⟨{ stageAt 2 with board := { ctrlOk := true } }, by decide +kernel⟩, ⟨(stageAt 3).wr F.GLB_BOOT_CF_STAGE 1, by decide +kernel⟩, by decide +kernel,
   fun p h => ⟨spdmAt p [], by revert p; decide +kernel⟩, by decide +kernel, fun p h => ⟨spdmAt p [], spdm_at p [], by revert p; decide +kernel⟩,
   ⟨spdmAt 3 ((List.range 8).map (fun i => (i, some { conn := 4 }))), spdm_at 3 _, by decide⟩, ⟨spdmAt 3 [(3, some { conn := 4 })], { conn := 4 }, by decide +kernel⟩,
   ⟨{ (spdmAt 3 []).wr F.HIF_STATUS_PRESENT 1 with grt := { sess := [(3, some { conn := 4, est := true, beat := 1 })], ideKeys := [(ideKey 3 8 1, some 5)] } },
     { conn := 4, est := true, beat := 1 }, ⟨by decide +kernel, rfl, rfl, rfl⟩, by decide +kernel⟩⟩

theorem witness_TrustThermalAndReset :
    (∃ (s t : State) (c : AdmCmd), s.Verified 0 0x40 [0x101] (fun _ => true) c t ∧ t.imageCheck (bitsOf (c.word 8) 0 1) 1 = 3) ∧
    (∃ (s t : State) (c : AdmCmd), s.Verified 0 0x41 [0x9FFF0003, 2 ^ 64 - 1] (fun _ => true) c t ∧ s.rd F.GRT_STATUS_LIFECYCLE = 1 ∧ bitOf (c.word 8) 31 = true) ∧
    (∀ n ∈ [7, 8], ∃ (s t : State) (c : AdmCmd), s.Verified 0 0x42 [3, 2 ^ 64 - 1, 2 ^ 64 - 1] (fun _ => true) c t ∧ c.word 0x10 = 7 ∧ (t.reg R.GRT_DEBUG_NONCE).toNat = n ∧
      bitsOf (c.word 8) 0 2 ≠ 3) ∧
    (∃ (s t : State) (c : AdmCmd), s.Verified 0 0x43 [] (fun _ => true) c t) ∧
    (∃ s : State, s.rdB F.FLT_THERM_SHEDDING = true ∧ (List.range 64).filterMap s.shedOne ≠ []) ∧ ({} : State).rdB F.FLT_THERM_SHEDDING = false ∧
    (∀ n ∈ [95, 96], ∃ s : State, s.board.parked = [] :: [] ∧ s.rd F.FLT_THERM_TEMP = n) ∧
    (∀ n ∈ [111, 112], ∃ s : State, s.board.tripped = false ∧ s.rd F.FLT_THERM_TEMP = n) ∧ (∀ b : Bool, ∃ s : State, s.board.tripped = b ∧ s.board.powered = b) ∧
    ({} : State).board.resetDue = none ∧ (∃ s : State, s.board.resetDue = some 2) :=
  ⟨⟨_, _, _, crit_verified (s := owned {}) (target := 0) (ws := [0]) (by decide +kernel), by decide +kernel⟩,
   ⟨_, _, _, crit_verified (s := owned {}) (target := 0) (ws := [0x80000003, 0]) (by decide +kernel), by decide +kernel⟩,
   fun n h => ⟨_, _, _, crit_verified (s := owned { regs := [(R.GRT_DEBUG_NONCE, BitVec.ofNat 64 n)] }) (target := 0) (ws := [2, 7, 0]) (by revert n; decide +kernel), by revert n; decide +kernel⟩,
   ⟨_, _, _, crit_verified (s := owned {}) (target := 0) (ws := []) (by decide +kernel)⟩, ⟨at1 F.FLT_THERM_SHEDDING 1, by decide +kernel, fun h => absurd (List.filterMap_eq_nil_iff.mp h 0 (by simp)) (by decide +kernel)⟩, by decide +kernel,
   fun n h => ⟨{ at1 F.FLT_THERM_TEMP n with board := { parked := [[]] } }, by revert n; decide +kernel⟩, fun n h => ⟨at1 F.FLT_THERM_TEMP n, by revert n; decide +kernel⟩,
   fun b => ⟨{ board := { tripped := b, powered := b } }, rfl, rfl⟩, rfl, ⟨{ board := { resetDue := some 2 } }, rfl⟩⟩

/-- A TCP segment without payload for connection 65,535, its flags given, and the connection. -/
def ackAt (fl : Nat) (st : ConnState) : State :=
  { sto (conn1 { path := 4095, st := st }) with path := { stoQueue := [stoPkt 1 65535 ((ipv4 6 54).take 34 ++ List.replicate 12 0 ++ [0x50, BitVec.ofNat 8 fl] ++ List.replicate 6 0)] } }

/-- Attributes of a queue pair of function 2055. -/
def qpOf (mtu : Nat) : QpAttr :=
  { fn := 2055, svc := 1, port := 7, v6 := false, peer := 0, mtu := mtu, retryCnt := 7, rnrRetry := 7, ackTo := 1, dqpn := 0, psn := 0, epsn := 0, tmQueue := 0, tc := 0, regions := [] }

theorem witness_PinsTimersAndQueuePairs :
    (∀ b : Bool, ∃ s : State, s.board.powered = true ∧ strapsBad (s.reg R.GLB_STRAPS).toNat = b) ∧ (∃ s : State, s.board.powered = false) ∧
    (∀ b : Bool, ∃ s : State, s.board.ethClk = b ∧ s.board.ncsiClk = b) ∧
    (∀ b : Bool, ∃ s : State, (s.updLink 3 (fun x => { x with refclk := false })).rdB (F.HIF_LINK_STATUS_DL_UP 3) = b) ∧ (0x31 : Nat) ≠ 0x32 ∧ ({} : State).board.held = false ∧
    (∃ s : State, s.rdB (F.HIF_LINK_STATUS_DL_UP 3) = true ∧ (s.link 3).replays = 3) ∧
    (∀ x ∈ [(4, ConnState.up), (0x12, .syn), (0x10, .up)], ∃ (s u : State) (p : Pkt), s.stoTake 1 (fun p => (tcpParse p.data).1.isEmpty) = (some p, u) ∧
      (tcpParse p.data).2.2.2 = x.1 ∧ (u.stoConn p.stoIndex).st = x.2) ∧
    (∀ m ∈ [512, 1024], ∃ (s : State) (a : QpAttr), a.svc < 2 ∧ a.mtu = m ∧ a.retryCnt = 7 ∧ a.rnrRetry = 7 ∧ (s.qp 1048575).conn = none ∧ (s.func a.fn).created = true) ∧
    (∃ s : State, s.board.held = false ∧ s.inRecovery = true) ∧
    (∀ b ∈ [0, 1], ∃ s : State, s.board.held = false ∧ s.rd F.GRT_BOOT_STATUS_STAGE = 3 ∧ s.rd F.GRT_STATUS_BANK = b) := by
  refine ⟨fun b => ⟨({} : State).setReg R.GLB_STRAPS (if b then 0x0C else 0), by revert b; decide +kernel⟩, ⟨{ board := { powered := false } }, rfl⟩,
    fun b => ⟨{ board := { ethClk := b, ncsiClk := b } }, rfl, rfl⟩, fun b => ⟨at1 (F.HIF_LINK_STATUS_DL_UP 3) b.toNat, by revert b; decide +kernel⟩, by decide, rfl,
    ⟨{ at1 (F.HIF_LINK_STATUS_DL_UP 3) 1 with links := [(3, { replays := 3 })] }, by decide +kernel⟩,
    fun x h => ⟨ackAt x.1 x.2, _, stoPkt 1 65535 ((ipv4 6 54).take 34 ++ List.replicate 12 0 ++ [0x50, BitVec.ofNat 8 x.1] ++ List.replicate 6 0),
      pair_of (by revert x; decide +kernel), by revert x; decide +kernel⟩,
    fun m h => ⟨funcAt 2055 { created := true }, qpOf m, by revert m; decide⟩, ⟨stageAt 0xFF, by decide +kernel⟩, fun b h => ⟨(stageAt 3).wr F.GRT_STATUS_BANK b, by revert b; decide +kernel⟩⟩

theorem serves_of {s : State} {n : Nat} (h : (s.lntReady && !s.inRecovery && decide (n ≤ s.rd F.GRT_STATUS_DEBUG_LEVEL)) = true) : s.Serves n := by
  simp only [Bool.and_eq_true, decide_eq_true_eq, Bool.not_eq_true'] at h
  exact ⟨h.1.1, h.1.2, h.2⟩

/-- The device has started, its debug level given. -/
def debugAt (n : Nat) : State := (stageAt 3).wr F.GRT_STATUS_DEBUG_LEVEL n

theorem witness_LanternCommands :
    ({} : State).lntReady = false ∧ (∃ s : State, s.lntReady = true ∧ s.inRecovery = false ∧ s.rd F.GRT_STATUS_DEBUG_LEVEL = 0) ∧
    (∀ n ∈ [0, 1, 2, 3], ∃ s : State, s.Serves n) ∧ (0x3FFFE00 % 8 = 0 ∧ 0x3FFFE00 + 8 * 64 ≤ 0x4000000) ∧ (∃ off, lntWritable off = true) ∧
    (∀ st ∈ [0, 1, 3], ∃ s : State, s.Serves 2 ∧ s.rd (F.PE_STATUS_STATE 63 16) = st ∧ s.engHalted 63 16 = (st == 3)) ∧
    (∀ b : Bool, ∃ s : State, s.Serves 3 ∧ s.board.coreHalted.contains 15 = b) ∧ (∃ (s : State) (x : LntStep), s.board.step = some x) ∧
    (∃ s : State, s.lntReady = true ∧ s.inRecovery = true) :=
  ⟨by decide +kernel, ⟨debugAt 0, by decide +kernel⟩, fun n h => ⟨debugAt n, serves_of (by revert n; decide +kernel)⟩, by decide, ⟨F.GLB_STRAPS_RECOVERY_N.off, by decide +kernel⟩,
   fun st h => ⟨(debugAt 2).wr (F.PE_STATUS_STATE 63 16) st, serves_of (by revert st; decide +kernel), by revert st; decide +kernel⟩,
   fun b => ⟨{ debugAt 3 with board := { coreHalted := if b then [15] else [] } }, serves_of (by revert b; decide +kernel), by revert b; decide +kernel⟩,
   ⟨{ board := { step := some ⟨63, 16, 7, 256⟩ } }, _, rfl⟩, ⟨stageAt 0xFF, by decide +kernel⟩⟩

/-- Commands that no frame statement excepts, which answer a next state. -/
theorem witness_CommandFrames : 
    ∃ s t : State, exec (.perstRelease 3) s = .next t ∧ (Instr.perstRelease 3).flashes = false ∧ (Instr.perstRelease 3).rekeys = false ∧ (Instr.perstRelease 3).lines = false :=
  ⟨{}, _, rfl, rfl, rfl, rfl⟩

end Sys2Proof.Tests
end

section
/-! PROOFS. The statements of 00_scope.md. First what each register access does, case by case (R9-R13, R37, R42), then the statements, which
cite these cases. -/

namespace Sys2Proof.Machine

open Sys2Proof

/-! The split-access latches -/

/-- The latches of an attachment read as they were set. -/
@[simp] theorem State.splitOf_setSplit_self (s : State) (a : Nat) (x : Split) : (s.setSplit a x).splitOf a = x := Map.get_set_self ..

@[simp] theorem State.emit_out (s : State) (e : Emit) : (s.emit e).out = e :: s.out := rfl

@[simp] theorem State.splitOf_emit (s : State) (e : Emit) (a : Nat) : (s.emit e).splitOf a = s.splitOf a := rfl

@[simp] theorem State.setSplit_regs (s : State) (a : Nat) (x : Split) : (s.setSplit a x).regs = s.regs := rfl

@[simp] theorem State.barOpen_setSplit (s : State) (a : Nat) (x : Split) (f : Nat) : (s.setSplit a x).barOpen f = s.barOpen f := rfl

/-- For the host of an attachment the registers are open where the BARs of its management PF are. -/
theorem State.partyOpen_host (s : State) {a : Nat} (h : a < 4) : s.partyOpen a = s.barOpen (2 * a) := by
  simp [State.partyOpen, Nat.not_le.2 h]

/-! Accesses while the BARs are open -/

section Open

variable {s : State} {a : Nat} (bar : s.barOpen (2 * a) = true)
include bar

theorem exec_lowHalfRead_reg {rid off : Nat} {v : Word} {t : State} (reg : isReg off = true) (read : s.fabricRead a rid off false = (v, t)) :
    exec (.lowHalfRead a rid off) s =
      .next ((t.setSplit a { t.splitOf a with rdOff := off, rdHeld := true, rdHigh := BitVec.ofNat 32 (v.toNat / 2 ^ 32) }).emit
        (.readData a (v.toNat % 2 ^ 32))) := by
  simp [execLowHalfRead, bar, reg, read]

theorem exec_lowHalfRead_noReg (rid : Nat) {off : Nat} (noReg : isReg off = false) :
    exec (.lowHalfRead a rid off) s = .next (s.emit (.readData a 0)) := by
  simp [execLowHalfRead, bar, noReg]

/-- A latch held for the register answers, whatever the register holds. -/
theorem exec_highHalfRead_held (rid : Nat) {off : Nat} (held : (s.splitOf a).rdHeld = true) (same : (s.splitOf a).rdOff = off) :
    exec (.highHalfRead a rid off) s =
      .next (((s.fabricRead a rid off true).2.setSplit a { s.splitOf a with rdHeld := false, rdOff := 0, rdHigh := 0 }).emit
        (.readData a (s.splitOf a).rdHigh.toNat)) := by
  simp [execHighHalfRead, bar, held, same]

theorem exec_highHalfRead_free {rid off : Nat} {v : Word} {t : State} (free : ¬ ((s.splitOf a).rdHeld = true ∧ (s.splitOf a).rdOff = off))
    (read : s.fabricRead a rid off true = (v, t)) :
    exec (.highHalfRead a rid off) s = .next (t.emit (.readData a (v.toNat / 2 ^ 32))) := by
  simp only [exec_highHalfRead, execHighHalfRead, bar, not_true_eq_false, if_false, if_neg free, read]

theorem exec_lowHalfWrite_grt (rid : Nat) {off : Nat} (v : BitVec 32) (lo : 0x2600000 ≤ off) (hi : off < 0x2800000) :
    exec (.lowHalfWrite a rid off v) s = .next (s.grtWrite a rid off) := by
  simp [execLowHalfWrite, bar, lo, hi]

theorem exec_lowHalfWrite_reg (rid : Nat) {off : Nat} (v : BitVec 32) (below : off < 0x2600000) (reg : isReg off = true) :
    exec (.lowHalfWrite a rid off v) s = .next (s.setSplit a { s.splitOf a with wrOff := off, wrHeld := true, wrLow := v }) := by
  simp [execLowHalfWrite, bar, reg, Nat.not_le.2 below]

theorem exec_lowHalfWrite_noReg (rid : Nat) {off : Nat} (v : BitVec 32) (below : off < 0x2600000) (noReg : isReg off = false) :
    exec (.lowHalfWrite a rid off v) s = .next s := by
  simp [execLowHalfWrite, bar, noReg, Nat.not_le.2 below]

theorem exec_highHalfWrite_held (rid : Nat) {off : Nat} (v : BitVec 32) (held : (s.splitOf a).wrHeld = true)
    (same : (s.splitOf a).wrOff = off) :
    exec (.highHalfWrite a rid off v) s =
      .next ((s.setSplit a { s.splitOf a with wrHeld := false, wrOff := 0, wrLow := 0 }).regWrite a rid off (v ++ (s.splitOf a).wrLow)
        false) := by
  simp [execHighHalfWrite, bar, held, same]

theorem exec_highHalfWrite_free (rid : Nat) {off : Nat} (v : BitVec 32)
    (free : ¬ ((s.splitOf a).wrHeld = true ∧ (s.splitOf a).wrOff = off)) :
    exec (.highHalfWrite a rid off v) s = .next (s.regWrite a rid off (v ++ 0#32) true) := by
  simp only [exec_highHalfWrite, execHighHalfWrite, bar, not_true_eq_false, if_false, if_neg free]

theorem exec_badSizeRegisterAccess_read (rid off : Nat) :
    exec (.badSizeRegisterAccess a rid off true) s =
      .next (((s.err R.FLT_ACCESS_CNT).accessFault 1 a off rid ((s.err R.FLT_ACCESS_CNT).cnt R.FLT_ACCESS_CNT) (some a)).emit
        (.readData a 0)) := by
  simp [execBadSizeRegisterAccess, bar]

theorem exec_badSizeRegisterAccess_write (rid off : Nat) :
    exec (.badSizeRegisterAccess a rid off false) s =
      .next ((s.err R.FLT_ACCESS_CNT).accessFault 1 a off rid ((s.err R.FLT_ACCESS_CNT).cnt R.FLT_ACCESS_CNT) (some a)) := by
  simp [execBadSizeRegisterAccess, bar]

end Open

/-! Accesses while the BARs are closed (R459, R475) -/

section Closed

variable {s : State} {a : Nat} (bar : s.barOpen (2 * a) = false)
include bar

theorem exec_lowHalfRead_closed (rid off : Nat) : exec (.lowHalfRead a rid off) s = .next (s.barRefuse (2 * a) true) := by
  simp [execLowHalfRead, bar]

theorem exec_highHalfRead_closed (rid off : Nat) : exec (.highHalfRead a rid off) s = .next (s.barRefuse (2 * a) true) := by
  simp [execHighHalfRead, bar]

theorem exec_badSizeRegisterAccess_closed (rid off : Nat) (read : Bool) :
    exec (.badSizeRegisterAccess a rid off read) s = .next (s.barRefuse (2 * a) read) := by
  simp [execBadSizeRegisterAccess, bar]

theorem exec_lowHalfWrite_closed (rid off : Nat) (v : BitVec 32) :
    exec (.lowHalfWrite a rid off v) s = .next (s.barRefuse (2 * a) false) := by
  simp [execLowHalfWrite, bar]

theorem exec_highHalfWrite_closed (rid off : Nat) (v : BitVec 32) :
    exec (.highHalfWrite a rid off v) s = .next (s.barRefuse (2 * a) false) := by
  simp [execHighHalfWrite, bar]

theorem exec_doorbellBadWrite_closed (rid off : Nat) :
    exec (.doorbellBadWrite (2 * a) rid off) s = .next (s.barRefuse (2 * a) false) := by
  simp [execDoorbellBadWrite, bar]

theorem exec_registerWrite_closed (rid off : Nat) (v : Word) (host : a < 4) :
    exec (.registerWrite (.reg a rid off v)) s = .next (s.barRefuse (2 * a) false) := by
  simp [execRegisterWrite, s.partyOpen_host host, bar]

end Closed

/-! Writing a register by what kind it is (R10, R12, R13, R42, R645) -/

theorem State.regWrite_grt (s : State) (who rid : Nat) {off : Nat} (v : Word) (half : Bool) (lo : 0x2600000 ≤ off)
    (hi : off < 0x2800000) : s.regWrite who rid off v half = s.grtWrite who rid off := by
  simp [State.regWrite, lo, hi]

/-- For the host of an attachment the entry of a discarded write names that attachment. -/
theorem State.grtWrite_host (s : State) {a : Nat} (rid off : Nat) (h : a < 4) :
    s.grtWrite a rid off =
      (s.err R.FLT_ACCESS_CNT).accessFault 2 a off rid ((s.err R.FLT_ACCESS_CNT).cnt R.FLT_ACCESS_CNT) (some a) := by
  simp [State.grtWrite, h]

theorem State.regWrite_noRow (s : State) (who rid : Nat) {off : Nat} (v : Word) (half : Bool) (below : off < 0x2600000)
    (row : findRow (regRowsAt off) off = none) : s.regWrite who rid off v half = s := by
  simp [State.regWrite, Nat.not_le.2 below, row]

theorem State.regWrite_stat (s : State) (who rid : Nat) {off : Nat} (v : Word) (half : Bool) {row : RegRow} (below : off < 0x2600000)
    (at_off : findRow (regRowsAt off) off = some row) (kind : row.kind = .stat) : s.regWrite who rid off v half = s := by
  simp [State.regWrite, Nat.not_le.2 below, at_off, kind]

theorem State.regWrite_plain (s : State) (who rid : Nat) {off : Nat} (v : Word) {row : RegRow} (below : off < 0x2600000)
    (at_off : findRow (regRowsAt off) off = some row) (kind : row.kind = .plain) (noRule : s.actWrite who rid off v = none) :
    s.regWrite who rid off v false = (s.plainWrite off row v).faultPending := by
  simp [State.regWrite, Nat.not_le.2 below, at_off, kind, noRule]

theorem exec_registerWrite_open {s : State} {who : Nat} (party : s.partyOpen who = true) (rid off : Nat) (v : Word) :
    exec (.registerWrite (.reg who rid off v)) s = .next (s.regWrite who rid off v false) := by
  simp [execRegisterWrite, party]

theorem exec_grtWindowWrite_open {s : State} {a : Nat} (party : s.partyOpen a = true) (rid off : Nat) :
    exec (.grtWindowWrite a rid off) s = .next (s.grtWrite a rid off) := by
  simp [execGrtWindowWrite, party]

theorem exec_msixWrite_open {s : State} {f : Nat} (bar : s.barOpen f = true) (e part v : Nat) :
    exec (.registerWrite (.msix f e part v)) s = .next (s.msixWrite f e part v) := by
  simp [execRegisterWrite, bar]

/-- The entry names the attachment of the function. -/
theorem exec_doorbellBadWrite_open {s : State} {f : Nat} (bar : s.barOpen f = true) (rid off : Nat) :
    exec (.doorbellBadWrite f rid off) s =
      .next (s.badDb.accessFault 4 (s.badDb.attOf f) off rid (s.badDb.cnt R.QMG_BAD_DB_CNT) (some (s.badDb.attOf f))) := by
  simp [execDoorbellBadWrite, bar]

/-! The statements -/

/-- Settles O14: the latch that a low-half read leaves (`exec_lowHalfRead_reg`) is the one a high-half read answers (`exec_highHalfRead_held`). -/
theorem splitReads : Obligations.SplitReads := by
  unfold Obligations.SplitReads
  refine ⟨fun a rid off s bar reg => exec_lowHalfRead_reg bar reg Prod.mk.eta.symm,
    fun a rid off s bar noReg => exec_lowHalfRead_noReg bar rid noReg, ?thenHigh,
    fun a rid off s bar free => exec_highHalfRead_free bar free Prod.mk.eta.symm⟩
  case thenHigh =>
    intro a rid off s t bar reg low barT
    rw [exec_lowHalfRead_reg bar reg Prod.mk.eta.symm] at low
    cases low
    exact ⟨_, exec_highHalfRead_held barT rid (by simp) (by simp), by simp, by simp⟩

/-- Settles O15: the low half that a write leaves held (`exec_lowHalfWrite_reg`) is the one a high-half write takes
(`exec_highHalfWrite_held`). -/
theorem splitWrites : Obligations.SplitWrites := by
  unfold Obligations.SplitWrites
  refine ⟨fun a rid off v s bar below reg => exec_lowHalfWrite_reg bar rid v below reg,
    fun a rid off v s bar below noReg => exec_lowHalfWrite_noReg bar rid v below noReg, ?thenHigh,
    fun a rid off hi s bar free => exec_highHalfWrite_free bar rid hi free⟩
  case thenHigh =>
    intro a rid off lo hi s t bar below reg low
    rw [exec_lowHalfWrite_reg bar rid lo below reg] at low
    cases low
    have barT : ∀ x, (s.setSplit a x).barOpen (2 * a) = true := fun x => (s.barOpen_setSplit a x _).trans bar
    refine ⟨by simp, ?_⟩
    rw [exec_highHalfWrite_held (barT _) rid hi (by simp) (by simp)]
    simp

/-- Settles O1: the front of the queue is the command that `step` takes. -/
theorem stepRunsFrontCommand : Obligations.StepRunsFrontCommand := by
  unfold Obligations.StepRunsFrontCommand
  intro c l s
  rfl

/-- Settles O13, by reading back the field that holds the next ID and the top field of an entry's first word. -/
theorem correlationIds : Obligations.CorrelationIds := by
  unfold Obligations.CorrelationIds
  refine ⟨fun s => ⟨rfl, s.rd_wr_self F.FLT_CORR_NEXT_CORR _ (by decide)⟩, fun cls cause unit seq => ?_⟩
  simp only [FaultRec.words, List.getD_cons_zero]
  omega

/-- Settles O16: while the BARs are open the access is counted and recorded, while they are closed it is refused by `State.barRefuse`. -/
theorem discardedAccesses : Obligations.DiscardedAccesses := by
  unfold Obligations.DiscardedAccesses
  refine ⟨fun a rid off s bar => exec_badSizeRegisterAccess_read bar rid off,
    fun a rid off s bar => exec_badSizeRegisterAccess_write bar rid off, ?grt,
    fun f rid off s bar => exec_doorbellBadWrite_open bar rid off, ?closed, ?refusal⟩
  case grt =>
    intro a rid off v s bar host lo hi
    have party : s.partyOpen a = true := (s.partyOpen_host host).trans bar
    rw [exec_grtWindowWrite_open party, exec_registerWrite_open party, exec_lowHalfWrite_grt bar rid _ lo hi,
      s.regWrite_grt a rid v false lo hi]
    exact ⟨by rw [s.grtWrite_host rid off host], rfl, rfl⟩
  case closed =>
    intro a rid off v s bar
    refine ⟨?_, ?_, fun host => exec_registerWrite_closed bar rid off (v ++ v) host⟩
    · simp only [List.forall_mem_cons]
      exact ⟨exec_lowHalfRead_closed bar rid off, exec_highHalfRead_closed bar rid off,
        exec_badSizeRegisterAccess_closed bar rid off true, List.forall_mem_nil _⟩
    · simp only [List.forall_mem_cons]
      exact ⟨exec_lowHalfWrite_closed bar rid off v, exec_highHalfWrite_closed bar rid off v,
        exec_badSizeRegisterAccess_closed bar rid off false, exec_doorbellBadWrite_closed bar rid off, List.forall_mem_nil _⟩
  case refusal =>
    intro f s
    exact ⟨rfl, fun resetting => by simp [State.barRefuse, resetting], fun running => by simp [State.barRefuse, running]⟩

/-- Settles O17: a register by the kind of its row (`State.regWrite_plain`, `State.regWrite_noRow`, `State.regWrite_stat`), a field of
configuration space, an entry of an MSI-X table. -/
theorem registerWrites : Obligations.RegisterWrites := by
  unfold Obligations.RegisterWrites
  refine ⟨?plain, ?noRow, ?stat, fun f v s => rfl, ?noEntry, ?entry⟩
  case plain =>
    intro who rid off v s row party below at_off kind noRule
    rw [exec_registerWrite_open party, s.regWrite_plain who rid v below at_off kind noRule, State.plainWrite]
  case noRow =>
    intro who rid off v s party below row
    rw [exec_registerWrite_open party, s.regWrite_noRow who rid v false below row]
  case stat =>
    intro who rid off v s row party below at_off kind
    rw [exec_registerWrite_open party, s.regWrite_stat who rid v false below at_off kind]
  case noEntry =>
    intro f e v s bar beyond
    rw [exec_msixWrite_open bar, State.msixWrite, if_pos beyond]
  case entry =>
    intro f e v s bar within
    rw [exec_msixWrite_open bar, State.msixWrite, if_neg (Nat.not_le.2 within)]
    simp

end Sys2Proof.Machine
end

section
/-! PROOFS. The statements of 02_flowstone_time_base.md. First what registers hold after reset (R541, R686) and how a critical command whose
checks pass runs (R510), then each command of the clock under its circumstances (R52-R55, R72, R73, R81, R86-R92), then the statements, which
cite these. -/

namespace Sys2Proof.Machine

open Sys2Proof

/-! Registers after reset -/

theorem State.rd_reset (f : Fld) : State.reset.rd f = bitsOf (regReset f.off).toNat f.lo f.w := rfl

/-- A register that its number or the straps give a reset value has that value. -/
theorem regReset_special {off : Nat} {v : Word} (h : regSpecial off = some v) : regReset off = v := by
  simp only [regReset, h]

/-- An engine shows its position; the last engine of a gallery is the spare, which is idle. -/
theorem regReset_peStatus {g e : Nat} (hg : g < 64) (he : e < 17) :
    regReset (R.PE_STATUS g e) = BitVec.ofNat 64 (e * 2 ^ 8 + if e = 16 then 1 else 0) := by
  have place : ((0x1002000 + g * 0x10000 + e * 0x800) % 0x10000 - 0x2000) / 0x800 = e := by omega
  apply regReset_special
  simp only [regSpecial, R.PE_STATUS, R.GLB_STRAPS, R.HIF_STATUS, R.HIF_VF_RANGE, R.QMG_POOL, R.PRS_CORE_STATUS, R.MAT_STEER, place]
  iterate 6 rw [if_neg (by omega)]
  rw [if_pos (by omega)]

/-- A mailbox has the receiver that R541 gives it. -/
theorem regReset_mbxCfg {m : Nat} (hm : m < 16) : regReset (R.MBX_CFG m) = BitVec.ofNat 64 (regSpecial.mbxCfgReset m) := by
  have number : (0x2100020 + m * 0x1000 - 0x2100000) / 0x1000 = m := by omega
  apply regReset_special
  simp only [regSpecial, R.MBX_CFG, R.GLB_STRAPS, R.HIF_STATUS, R.HIF_VF_RANGE, R.QMG_POOL, R.PRS_CORE_STATUS, R.MAT_STEER, number]
  iterate 8 rw [if_neg (by omega)]
  rw [if_pos (by omega), if_pos (by omega)]

/-! Critical commands -/

/-- A critical command whose checks pass runs, in the state that its trailer leaves. -/
theorem State.Verified.admCrit {s t : State} {f op : Nat} {masks : List Nat} {good : AdmCmd → Bool} {c : AdmCmd}
    (h : s.Verified f op masks good c t) (k : State → AdmCmd → State) : s.admCrit f op masks good k = k t c := by
  simp [State.admCrit, h.cur, h.trail, h.read, h.clean, h.free]

/-! Raising an interrupt -/

/-- Beside the messages that become due, raising a bit writes that bit alone. -/
theorem State.raise_regs (s : State) (f : Fld) : (s.raise f).regs = if s.rdB f then s.regs else (s.wr f 1).regs := by
  simp only [State.raise, apply_ite State.regs, ite_self]

theorem State.rd_raise_ne (s : State) (f : Fld) {g : Fld} (h : g.off ≠ f.off) : (s.raise f).rd g = s.rd g := by
  have read : (s.raise f).rd g = if s.rdB f then s.rd g else (s.wr f 1).rd g := by
    simp only [State.rd, State.reg, State.raise_regs]
    split <;> rfl
  rw [read, s.rd_wr_ne f 1 h, ite_self]

theorem State.raise_fst (s : State) (f : Fld) : (s.raise f).fst = s.fst := by
  simp only [State.raise, apply_ite State.fst, State.wr_fst, ite_self]

/-! Votes and time sources (R73, R86, R87) -/

theorem exec_voteBoundary_due {s : State} (due : s.fst.voteDue = true) : exec .voteBoundary s = .next s.vote := by
  simp [execVoteBoundary, due]

theorem exec_voteBoundary_notDue {s : State} (idle : s.fst.voteDue = false) : exec .voteBoundary s = .next s := by
  simp [execVoteBoundary, idle]

/-- With room among the staged values VALUE is staged; with APPLY the command waits, else it completes. -/
theorem exec_timeSourceSet_verified {f : Nat} {s t : State} {c : AdmCmd}
    (h : s.Verified f 0x28 [0x1001FFFFF, 0xFFFFFFFFFFFFFFFF]
      (fun c => tsValueOk (0x100000 + bitsOf (c.word 8) 0 21) (c.word 0x10)) c t)
    (room : t.fst.staged.length < 32) :
    exec (.timeSourceSet f) s = .next (
      let u := t.stageTs (0x100000 + bitsOf (c.word 8) 0 21) (c.word 0x10)
      if bitOf (c.word 8) 32 then { u.admWait f with fst := { u.fst with applyFns := u.fst.applyFns ++ [f] } }
      else u.admDone f stSuccess) := by
  have fits : ¬ (Map.get t.fst.staged none (0x100000 + bitsOf (c.word 8) 0 21) = none ∧ 32 ≤ t.fst.staged.length) :=
    fun full => absurd full.2 (Nat.not_le.2 room)
  rw [exec_timeSourceSet, execTimeSourceSet, h.admCrit]
  simp only [if_neg fits]

/-- At the vote boundary the staged values take effect together where they agree with one another; else the waiting commands answer
BAD_FIELD. -/
theorem exec_timeSourceApply_atVote {s : State} {f : Nat} {l : List Nat} (waits : s.fst.applyFns = f :: l)
    (boundary : s.fst.atVote = true) :
    exec .timeSourceApply s = .next (
      let u : State := { s with fst := { s.fst with applyFns := [] } }
      if u.writeAllStaged.tsCross then
        ((({ u.writeAllStaged with fst := { u.writeAllStaged.fst with staged := [] } }.wr F.FST_STATUS_STAGED 0).tsFollow
          (List.map Prod.fst u.fst.staged)).tsMove).applyDone (f :: l) stSuccess
      else u.applyDone (f :: l) stBadField) := by
  simp only [exec_timeSourceApply, execTimeSourceApply, waits, boundary, if_true]
  split <;> rfl

/-! Steps of the counter (R89-R92) -/

section TimeStep

variable {f : Nat} {s t : State} {c : AdmCmd}
  (verified : s.Verified f 0x29 [0x3, 0xFFFFFFFFFFFFFFFF, 0xFFFFFFFFFFFFFFFF] stepRangeOk c t)
include verified

theorem exec_timeStep_refused (voting : t.rd F.FST_STATUS_STATE = 1 ∨ t.rd F.FST_STATUS_STATE = 2) :
    exec (.timeStep f) s = .next (t.admDone f stNotPermitted) := by
  rw [exec_timeStep, execTimeStep, verified.admCrit]
  simp only [if_pos voting]

variable (free : ¬ (t.rd F.FST_STATUS_STATE = 1 ∨ t.rd F.FST_STATUS_STATE = 2))
include free

/-- SLEW_REL takes effect at once. -/
theorem exec_timeStep_slew (slew : bitsOf (c.word 8) 0 2 = 2) :
    exec (.timeStep f) s = .next ((t.wrPend (t.rdI F.FST_PHASE_PEND_PEND + sWord c 0x10)).admDone f stSuccess) := by
  rw [exec_timeStep, execTimeStep, verified.admCrit]
  simp only [if_neg free, if_pos slew]

/-- STEP_ABS and STEP_REL wait, after the steps that wait already, and write no register yet. -/
theorem exec_timeStep_waits (step : bitsOf (c.word 8) 0 2 ≠ 2) :
    ∃ q u, exec (.timeStep f) s = .next u ∧ u.fst.stepReqs = t.fst.stepReqs ++ [q] ∧ q.fn = f ∧ u.regs = t.regs := by
  rw [exec_timeStep, execTimeStep, verified.admCrit]
  simp only [if_neg free, if_neg step]
  exact ⟨_, _, rfl, rfl, rfl, rfl⟩

end TimeStep

/-- A time of day whose seconds fit 48 bits is a value of the counter. -/
theorem counterTime_lt {sec ns frac : Nat} (hsec : sec < 2 ^ 48) (hns : ns < 1000000000) (hfrac : frac < 65536) :
    (sec * 1000000000 + ns) * 65536 + frac < 2 ^ 48 * 1000000000 * 65536 := by
  omega

theorem exec_timeStepApply_abs {s : State} {q : StepReq} {l : List StepReq} (waits : s.fst.stepReqs = q :: l)
    (boundary : s.fst.cycle = 0) (abs : q.abs = true) (hsec : q.sec < 2 ^ 48) (hns : q.ns < 1000000000) (hfrac : q.frac < 65536) :
    exec .timeStepApply s =
      .next (({ s with fst := { s.fst with stepReqs := l } }.stepNow (((q.sec * 1000000000 + q.ns) * 65536 + q.frac : Nat) : Int)).admDone
        q.fn stSuccess) := by
  have fits := counterTime_lt hsec hns hfrac
  simp only [exec_timeStepApply, execTimeStepApply, waits, boundary, abs, if_true]
  rw [if_neg (by omega)]

/-! Realignment (R81, R92) -/

theorem exec_realignCountExpiry_due {s : State} (due : s.fst.realign = some 0) (boundary : s.fst.cycle = 0)
    (plain : s.fst.aligning = false) :
    exec .realignCountExpiry s = .next { s with fst := { s.fst with realign := none } }.startAlign := by
  simp [execRealignCountExpiry, due, boundary, plain]

/-! The reference input (R67, R72) -/

/-- OSC_LOST shown and ETH_REFCLK taken: what the loss does in every state. -/
def State.takesEthRefclk (s : State) : State :=
  let u := (s.wr F.FST_STATUS_OSC_LOST 1).raise F.FST_INT_STATUS_OSC_LOST
  { u with fst := { u.fst with refEth := true, oscReturn := false, relockWait := false } }

theorem State.oscLoss_eq (s : State) : s.oscLoss =
    if s.rdB F.FST_STATUS_OSC_LOST then s
    else if s.takesEthRefclk.rd F.FST_STATUS_STATE = 2 ∨ s.takesEthRefclk.rd F.FST_STATUS_STATE = 3 then
      s.takesEthRefclk.withdrawLock.enterHeld 4
    else s.takesEthRefclk.withdrawLock := rfl

theorem State.takesEthRefclk_state (s : State) : s.takesEthRefclk.rd F.FST_STATUS_STATE = s.rd F.FST_STATUS_STATE :=
  calc s.takesEthRefclk.rd F.FST_STATUS_STATE
      = ((s.wr F.FST_STATUS_OSC_LOST 1).raise F.FST_INT_STATUS_OSC_LOST).rd F.FST_STATUS_STATE := rfl
    _ = (s.wr F.FST_STATUS_OSC_LOST 1).rd F.FST_STATUS_STATE := State.rd_raise_ne _ _ (by decide)
    _ = s.rd F.FST_STATUS_STATE := s.rd_wr_disj (f := F.FST_STATUS_OSC_LOST) 1 (by decide) rfl (by decide)

theorem State.takesEthRefclk_lockDecided (s : State) : s.takesEthRefclk.fst.lockDecided = s.fst.lockDecided := by
  simp only [State.takesEthRefclk, State.raise_fst, State.wr_fst]

theorem State.withdrawLock_undecided {s : State} (undecided : s.fst.lockDecided = false) : s.withdrawLock = s := by
  simp [State.withdrawLock, undecided]

/-- Outside LOCKED and HOLDOVER, and with no decision to withdraw, the loss changes the reference alone. -/
theorem exec_oscInLoss_unlocked {s : State} (present : s.rd F.FST_STATUS_OSC_LOST = 0) (undecided : s.fst.lockDecided = false)
    (notLocked : s.rd F.FST_STATUS_STATE ≠ 2) (notHoldover : s.rd F.FST_STATUS_STATE ≠ 3) :
    exec .oscInLoss s = .next s.takesEthRefclk := by
  have first : ¬ s.rdB F.FST_STATUS_OSC_LOST = true := by simp [State.rdB, present]
  have elsewhere : ¬ (s.takesEthRefclk.rd F.FST_STATUS_STATE = 2 ∨ s.takesEthRefclk.rd F.FST_STATUS_STATE = 3) := by
    simp only [s.takesEthRefclk_state, notLocked, notHoldover, or_self, not_false_eq_true]
  rw [exec_oscInLoss, execOscInLoss, s.oscLoss_eq, if_neg first, if_neg elsewhere,
    State.withdrawLock_undecided (s.takesEthRefclk_lockDecided.trans undecided)]

theorem exec_oscInReturn_lost {s : State} (lost : s.rd F.FST_STATUS_OSC_LOST = 1) :
    exec .oscInReturn s = .next { s.wr F.FST_STATUS_OSC_LOST 0 with fst := { s.fst with oscReturn := true } } := by
  simp [execOscInReturn, State.rdB, lost]

/-! Snapshots (R53-R55) -/

theorem exec_snapshotTake_host {a : Nat} (s : State) (host : a < 4) : exec (.snapshotTake a) s = .next (s.snapshot a) := by
  simp [execSnapshotTake, host]

theorem State.snapshot_drip (s : State) (a : Nat) : (s.snapshot a).reg (R.FST_SNAP_DRIP a) = BitVec.ofNat 64 s.fst.drip :=
  State.reg_setReg_self ..

/-- The seconds of the capture's instant, with the number of the capture. -/
theorem State.snapshot_sec (s : State) (a : Nat) : (s.snapshot a).reg (R.FST_SNAP_SEC a) =
    BitVec.ofNat 64 (s.fst.sec + (s.rd (F.FST_SNAP_SEC_SEQ a) + 1) % 65536 * 2 ^ 48) := by
  rw [State.snapshot, State.reg_setReg_ne _ _ (by simp only [R.FST_SNAP_SEC, R.FST_SNAP_DRIP]; omega),
    State.reg_setReg_ne _ _ (by simp only [R.FST_SNAP_SEC, R.FST_SNAP_NS]; omega), State.reg_setReg_self]

theorem State.snapshot_fst (s : State) (a : Nat) : (s.snapshot a).fst = s.fst := by
  rw [State.snapshot, State.setReg_fst, State.setReg_fst, State.setReg_fst]

/-! The statements -/

/-- Settles O18: each command by the lemma of its circumstances above. -/
theorem clockCommands : Obligations.ClockCommands := by
  unfold Obligations.ClockCommands
  refine ⟨fun s due => exec_voteBoundary_due due, fun s idle => exec_voteBoundary_notDue idle,
    fun f s t c verified room => exec_timeSourceSet_verified verified room,
    fun f l s waits boundary => exec_timeSourceApply_atVote waits boundary, ?step,
    fun s q l waits boundary abs hsec hns hfrac => exec_timeStepApply_abs waits boundary abs hsec hns hfrac,
    fun s due boundary plain => exec_realignCountExpiry_due due boundary plain,
    fun s present undecided notLocked notHoldover => exec_oscInLoss_unlocked present undecided notLocked notHoldover,
    fun s lost => exec_oscInReturn_lost lost, fun s => rfl, ?snapshot⟩
  case step =>
    intro f s t c verified
    exact ⟨exec_timeStep_refused verified,
      fun notAcquiring notLocked slew => exec_timeStep_slew verified (not_or.2 ⟨notAcquiring, notLocked⟩) slew,
      fun notAcquiring notLocked step => exec_timeStep_waits verified (not_or.2 ⟨notAcquiring, notLocked⟩) step⟩
  case snapshot =>
    intro a s host
    exact ⟨s.snapshot a, exec_snapshotTake_host s host, s.snapshot_drip a, s.snapshot_sec a, s.snapshot_fst a⟩

/-- Settles O19: the two cases of a boundary, the core reset held or not. -/
theorem dripBoundary : Obligations.DripBoundary := by
  unfold Obligations.DripBoundary
  constructor
  · intro s held
    simp [execDripBoundary, held]
  · intro s running
    simp [execDripBoundary, running]

/-- Settles O10: engines and mailboxes by `regReset_peStatus` and `regReset_mbxCfg`, the other registers by their rows of the tables. -/
theorem resetValues : Obligations.ResetValues := by
  unfold Obligations.ResetValues
  refine ⟨?state, rfl, rfl, ?ring, ?corr, ?mgmtKind, ?coreKind, ?coreIndex, ?spare, ?position, ?halted, rfl⟩
  case state | ring | corr | halted =>
    rw [State.rd_reset]
    decide +kernel
  case mgmtKind | coreKind | coreIndex =>
    rw [State.rd_reset, regReset_mbxCfg (by decide)]
    decide
  case spare | position =>
    rw [State.rd_reset, regReset_peStatus (by decide) (by decide)]
    decide

end Sys2Proof.Machine
end

section
/-! PROOFS. The statements of 03_carrying_time.md. First what each message that the PTP engine sends does (R110, R113, R114, R118, R120), then
each message that it receives once the checks of every message are passed (R109-R111, R118-R122), then SyncE, the pulse and time-of-day pins,
PTM and the port delays (R98, R99, R125-R139), then the statements, which cite these. -/

namespace Sys2Proof.Machine

open Sys2Proof

/-! One-bit fields -/

theorem State.rdB_of_one {s : State} {f : Fld} (h : s.rd f = 1) : s.rdB f = true := by simp [State.rdB, h]

theorem State.rdB_of_zero {s : State} {f : Fld} (h : s.rd f = 0) : s.rdB f = false := by simp [State.rdB, h]

/-! Messages that the PTP engine sends -/

section Sends

variable {i p : Nat} {s : State}

section Master

variable (member : s.ptpMember i p = true) (master : s.rd (portStateFld i p) = psMaster)
include member master

/-- A one-step Sync carries its departure stamp (R113). -/
theorem exec_ptpSyncTx_oneStep (one : (s.oneStepDown i).sendsTwoStep i p = false) :
    exec (.ptpSyncTx i p) s = .next
      (((s.oneStepDown i).updInst i (fun x => { x with syncSeq := (((s.oneStepDown i).inst i).syncSeq + 1) % 65536 })).ptpSend i p 0x0
        ((s.oneStepDown i).inst i).syncSeq ((s.oneStepDown i).stampTx p 0) 0 false) := by
  simp [execPtpSyncTx, member, master, one]

/-- A two-step Sync leaves its departure stamp to its Follow_Up (R114). -/
theorem exec_ptpSyncTx_twoStep (two : (s.oneStepDown i).sendsTwoStep i p = true) :
    exec (.ptpSyncTx i p) s = .next
      ((((s.oneStepDown i).updInst i (fun x => { x with syncSeq := (((s.oneStepDown i).inst i).syncSeq + 1) % 65536 })).ptpSend i p 0x0
        ((s.oneStepDown i).inst i).syncSeq 0 0 true).ptpSend i p 0x8 ((s.oneStepDown i).inst i).syncSeq
          ((s.oneStepDown i).stampTx p 0) 0 true) := by
  simp [execPtpSyncTx, member, master, two]

theorem exec_ptpAnnounceTx_master :
    exec (.ptpAnnounceTx i p) s = .next
      ((s.updInst i (fun x => { x with annSeq := ((s.inst i).annSeq + 1) % 65536 })).ptpSend i p 0xB (s.inst i).annSeq 0 0 false) := by
  simp [execPtpAnnounceTx, member, master]

end Master

theorem exec_ptpSyncTx_notMaster (other : s.rd (portStateFld i p) ≠ psMaster) : exec (.ptpSyncTx i p) s = .next s := by
  simp [execPtpSyncTx, other]

theorem exec_ptpAnnounceTx_notMaster (other : s.rd (portStateFld i p) ≠ psMaster) : exec (.ptpAnnounceTx i p) s = .next s := by
  simp [execPtpAnnounceTx, other]

/-- The request keeps its departure stamp t3 and its port for the response (R110). -/
theorem exec_ptpDelayReqTx_client (member : s.ptpMember i p = true) (client : s.isClientPort i p = true)
    (endToEnd : s.rd (F.FST_PTP_CFG_P2P i) = 0) :
    exec (.ptpDelayReqTx i p) s = .next
      ((s.updInst i (fun x => { x with reqSeq := ((s.inst i).reqSeq + 1) % 65536, reqT3 := some (s.stampTx p 0), reqPort := p })).ptpSend i p
        0x1 (((s.inst i).reqSeq + 1) % 65536) 0 0 false) := by
  simp [execPtpDelayReqTx, member, client, State.rdB_of_zero endToEnd]

/-- The port keeps its departure stamp t1, and awaits no response to an older request (R110). -/
theorem exec_ptpPdelayReqTx_peer (member : s.ptpMember i p = true) (peer : s.rd (F.FST_PTP_CFG_P2P i) = 1) :
    exec (.ptpPdelayReqTx i p) s = .next
      ((s.updInst i (fun x => { x with peer := Map.upd x.peer {} p (fun d =>
        { d with seq := (((s.inst i).pd p).seq + 1) % 65536, t1 := s.stampTx p 0, sent := true, waitFup := false }) })).ptpSend i p 0x2
          ((((s.inst i).pd p).seq + 1) % 65536) 0 0 false) := by
  simp [execPtpPdelayReqTx, member, State.rdB_of_one peer]

theorem exec_ptpGrantRenew_held {k : Nat} {g : Grant} (held : (s.inst i).held.find? (fun g => g.kind == k) = some g) :
    exec (.ptpGrantRenew i k) s = .next (s.emit (.ptpGrant i g.client k 300)) := by
  simp only [exec_ptpGrantRenew, execPtpGrantRenew, held]

theorem exec_ptpGrantRequestRetry_denied {k : Nat} {g : Grant} (denied : (s.inst i).denied.find? (fun g => g.kind == k) = some g) :
    exec (.ptpGrantRequestRetry i k) s = .next
      ((s.updInst i (fun x => { x with denied := x.denied.filter (· ≠ g) })).emit (.ptpGrant i g.client k 300)) := by
  simp only [exec_ptpGrantRequestRetry, execPtpGrantRequestRetry, denied]

end Sends

/-! Messages that the PTP engine receives -/

/-- A message that passes the checks of every message meets its type's own handling, in the state the checks leave. -/
theorem withAccepted_of_some {r : Option State × State} {t : State} (k : State → State) (h : r.1 = some t) : withAccepted r k = k t := by
  obtain ⟨o, u⟩ := r
  obtain rfl : o = some t := h
  rfl

/-- The data set that an Announce gives of the master that sent it (R118). -/
def Announce.ofMsg (src : Nat) (a : AnnounceMsg) : Announce :=
  { src := src, gmIdentity := a.gmIdentity, priority1 := a.priority1, gmClass := a.gmClass, gmAccuracy := a.gmAccuracy,
    gmVariance := a.gmVariance, priority2 := a.priority2, steps := a.steps, timeSource := a.timeSource,
    timeTraceable := a.timeTraceable, freqTraceable := a.freqTraceable, utcOffset := a.utcOffset, utcValid := a.utcValid }

/-- The foreign master of port p of PTP engine i replaced. -/
def State.setForeign (s : State) (i p : Nat) (x : Announce) : State :=
  s.updInst i (fun y => { y with foreign := Map.set y.foreign {} p x })

@[simp] theorem State.updInst_inst (s : State) (i : Nat) (g : PtpInst → PtpInst) : (s.updInst i g).inst i = g (s.inst i) := Map.get_set_self ..

@[simp] theorem State.setForeign_foreign (s : State) (i p : Nat) (x : Announce) :
    Map.get ((s.setForeign i p x).inst i).foreign {} p = x := by
  simp [State.setForeign]

section Receives

variable {i p : Nat} {m : PtpMsg} {s t : State}

section Length44

variable (accepted : (s.ptpAccept i p m 44).1 = some t)
include accepted

theorem exec_ptpSyncRx_parent (client : t.isClientPort i p = true) (port : (t.inst i).parentPort = some p)
    (parent : (t.inst i).parent.src = m.src) :
    exec (.ptpSyncRx i p m) s = .next (if m.twoStep then
      t.updInst i (fun x => { x with heldSync := some ⟨p, m.src, m.seq, t.stampRx p m.sub, m.corr⟩ })
      else t.ptpSyncDone i p (m.ts + m.corr) (t.stampRx p m.sub)) := by
  rw [exec_ptpSyncRx, execPtpSyncRx, withAccepted_of_some _ accepted]
  simp only [client, port, parent, beq_self_eq_true, Bool.and_self, if_true]

theorem exec_ptpFollowUpRx_noSync (noSync : (t.inst i).heldSync = none) :
    exec (.ptpFollowUpRx i p m) s = .next (t.err (R.FST_PTP_UNMATCHED_CNT i)) := by
  rw [exec_ptpFollowUpRx, execPtpFollowUpRx, withAccepted_of_some _ accepted]
  simp only [noSync]

theorem exec_ptpFollowUpRx_match {h : SyncHeld} (held : (t.inst i).heldSync = some h) (port : h.port = p) (src : h.src = m.src)
    (seq : h.seq = m.seq) :
    exec (.ptpFollowUpRx i p m) s = .next (t.ptpSyncDone i p (m.ts + m.corr + h.corr) h.t2) := by
  rw [exec_ptpFollowUpRx, execPtpFollowUpRx, withAccepted_of_some _ accepted]
  simp only [held, port, src, seq, and_self, if_true]

theorem exec_ptpDelayReqRx_master (master : t.rd (portStateFld i p) = psMaster) :
    exec (.ptpDelayReqRx i p m) s = .next (t.ptpSend i p 0x9 m.seq (t.stampRx p m.sub) m.corr false) := by
  rw [exec_ptpDelayReqRx, execPtpDelayReqRx, withAccepted_of_some _ accepted, if_pos master]

/-- A grant of 0 s or of a slower rate ends the grant held and is asked for again after 60 s (R120). -/
theorem exec_ptpSignalingRx_denied {k dur : Nat} {lp : Int} (denied : dur = 0 ∨ 0 < lp) :
    exec (.ptpSignalingRx i p m (.grant k lp dur)) s = .next (t.updInst i (fun x => { x with
      held := (t.inst i).held.filter (fun g => !(g.client == m.src && g.kind == k)), denied := ⟨m.src, k, 60⟩ :: x.denied })) := by
  rw [exec_ptpSignalingRx, execPtpSignalingRx, withAccepted_of_some _ accepted]
  simp only [denied, if_true]

end Length44

section Length54

variable (accepted : (s.ptpAccept i p m 54).1 = some t)
include accepted

theorem exec_ptpDelayRespRx_noRequest (noRequest : (t.inst i).reqT3 = none) :
    exec (.ptpDelayRespRx i p m) s =
      .next (t.updInst i (fun y => { y with unmatched := y.unmatched ++ [⟨p, 0x9, m.seq, m.src⟩] })) := by
  rw [exec_ptpDelayRespRx, execPtpDelayRespRx, withAccepted_of_some _ accepted]
  simp only [noRequest]

/-- Without a Sync's t1 and t2 the response ends its request and gives no exchange (R111). -/
theorem exec_ptpDelayRespRx_noSync {t3 : Int} (sent : (t.inst i).reqT3 = some t3) (seq : (t.inst i).reqSeq = m.seq)
    (port : (t.inst i).reqPort = p) (req : m.req = i * 8 + p) (noSync : (t.inst i).syncOk = false) :
    exec (.ptpDelayRespRx i p m) s = .next (t.updInst i (fun y => { y with reqT3 := none, minDelayReq := m.logInterval })) := by
  have matching : (t.inst i).reqSeq = m.seq ∧ (t.inst i).reqPort = p ∧ m.req = i * 8 + p := ⟨seq, port, req⟩
  rw [exec_ptpDelayRespRx, execPtpDelayRespRx, withAccepted_of_some _ accepted]
  simp only [sent, if_pos matching, noSync, Bool.false_eq_true, if_false]

theorem exec_ptpPdelayReqRx_accepted :
    exec (.ptpPdelayReqRx i p m) s = .next (if t.sendsTwoStep i p then
      (t.ptpSend i p 0x3 m.seq (t.stampRx p m.sub) 0 true).ptpSend i p 0xA m.seq (t.stampTx p m.sub) m.corr true
      else t.ptpSend i p 0x3 m.seq 0 (m.corr + (t.stampTx p m.sub - t.stampRx p m.sub)) false) := by
  rw [exec_ptpPdelayReqRx, execPtpPdelayReqRx, withAccepted_of_some _ accepted]

/-- A two-step response waits for the responder's send time (R110). -/
theorem exec_ptpPdelayRespRx_twoStep (sent : ((t.inst i).pd p).sent = true) (seq : ((t.inst i).pd p).seq = m.seq)
    (two : m.twoStep = true) :
    exec (.ptpPdelayRespRx i p m) s = .next (t.updInst i (fun x => { x with
      peer := Map.upd x.peer {} p (fun d => { d with t4 := t.stampRx p m.sub, turn := -m.ts + m.corr, waitFup := m.twoStep }) })) := by
  have matching : ((t.inst i).pd p).sent = true ∧ ((t.inst i).pd p).seq = m.seq := ⟨sent, seq⟩
  rw [exec_ptpPdelayRespRx, execPtpPdelayRespRx, withAccepted_of_some _ accepted]
  simp only [if_pos matching, if_pos two]

theorem exec_ptpPdelayRespFollowUpRx_match (waits : ((t.inst i).pd p).waitFup = true) (seq : ((t.inst i).pd p).seq = m.seq) :
    exec (.ptpPdelayRespFollowUpRx i p m) s = .next (t.ptpPeerDone i p (((t.inst i).pd p).turn + m.ts + m.corr)) := by
  have matching : ((t.inst i).pd p).waitFup = true ∧ ((t.inst i).pd p).seq = m.seq := ⟨waits, seq⟩
  rw [exec_ptpPdelayRespFollowUpRx, execPtpPdelayRespFollowUpRx, withAccepted_of_some _ accepted]
  simp only [if_pos matching]

end Length54

section Announces

variable {a : AnnounceMsg} (accepted : (s.ptpAccept i p m 64).1 = some t)
include accepted

theorem exec_ptpAnnounceRx_far (far : 255 ≤ a.steps) : exec (.ptpAnnounceRx i p m a) s = .next t := by
  rw [exec_ptpAnnounceRx, execPtpAnnounceRx, withAccepted_of_some _ accepted, if_pos far]

theorem exec_ptpAnnounceRx_near (near : a.steps < 255) :
    exec (.ptpAnnounceRx i p m a) s = .next ((t.setForeign i p (.ofMsg m.src a)).bmca i) := by
  rw [exec_ptpAnnounceRx, execPtpAnnounceRx, withAccepted_of_some _ accepted, if_neg (Nat.not_le.2 near)]
  rfl

end Announces

theorem exec_ptpManagementRx_accepted (accepted : (s.ptpAccept i p m 48).1 = some t) :
    exec (.ptpManagementRx i p m) s = .next (t.err (R.FST_PTP_REFUSED_CNT i)) := by
  rw [exec_ptpManagementRx, execPtpManagementRx, withAccepted_of_some _ accepted]

/-- The oldest message held without its match goes first (R122). -/
theorem exec_ptpUnmatchedTimeout_oldest {h : PtpHeld} {l : List PtpHeld} (held : (s.inst i).unmatched = h :: l) :
    exec (.ptpUnmatchedTimeout i) s =
      .next ((s.updInst i (fun y => { y with unmatched := l })).err (R.FST_PTP_UNMATCHED_CNT i)) := by
  simp only [exec_ptpUnmatchedTimeout, execPtpUnmatchedTimeout, held]

theorem exec_ptpAnnounceReceiptTimeout_parent (parent : (s.inst i).parentPort = some p) :
    exec (.ptpAnnounceReceiptTimeout i) s = .next ((s.setForeign i p {}).bmca i) := by
  simp only [exec_ptpAnnounceReceiptTimeout, execPtpAnnounceReceiptTimeout, parent, State.setForeign]

end Receives

/-! SyncE (R125-R127) -/

section SyncE

variable {s : State}

theorem exec_esmcRx_beyondTen {p : Nat} (ql : Nat) (many : 10 ≤ (s.sin (p + 4)).frames) :
    exec (.esmcRx p ql) s = .next (s.raise F.FST_INT_STATUS_SYNCE_EVENT) := by
  rw [exec_esmcRx, execEsmcRx, if_pos many]

/-- A code of the hierarchy is taken as it is, without an event. -/
theorem exec_esmcRx_known {p ql : Nat} (few : (s.sin (p + 4)).frames < 10)
    (known : (qlOrder (s.rd F.FST_SYNCE_CFG_EEC_TYPE)).contains ql = true) :
    exec (.esmcRx p ql) s = .next ((s.updSin (p + 4) (fun y => y.taken ql)).qlChanged (p + 4)
      (decide (qlRank (s.rd F.FST_SYNCE_CFG_EEC_TYPE) (s.sin (p + 4)).ql < qlRank (s.rd F.FST_SYNCE_CFG_EEC_TYPE) ql))) := by
  rw [exec_esmcRx, execEsmcRx, if_neg (Nat.not_le.2 few)]
  simp only [known, Bool.true_or, if_true]

theorem exec_esmcTimeout_selected {p : Nat} (selected : s.rd F.FST_SYNCE_STATUS_SEL_INPUT = p + 4) :
    exec (.esmcTimeout p) s =
      .next (((s.updSin (p + 4) (fun x => { x with failed := true })).raise F.FST_INT_STATUS_SYNCE_EVENT).qlChanged (p + 4) true) := by
  rw [exec_esmcTimeout, execEsmcTimeout, if_pos selected]

theorem exec_synceHoldOffExpiry_running {n : Nat} (running : (s.sin n).holdOff = true) :
    exec (.synceHoldOffExpiry n) s = .next (s.updSin n (fun x => { x with holdOff := false })).reselect := by
  rw [exec_synceHoldOffExpiry, execSynceHoldOffExpiry, if_pos running]

theorem exec_synceWtrExpiry_running {n : Nat} (running : (s.sin n).wtr = true) :
    exec (.synceWtrExpiry n) s = .next (s.updSin n (fun x => { x with wtr := false })).reselect := by
  rw [exec_synceWtrExpiry, execSynceWtrExpiry, if_pos running]

theorem exec_frequencyDpllLock_input (input : s.rd F.FST_SYNCE_STATUS_SEL_INPUT < 12) :
    exec .frequencyDpllLock s =
      .next { s.wr F.FST_SYNCE_STATUS_LOCKED 1 with fst := { s.fst with hybridActive := s.rdB F.FST_PDPLL_CFG_HYBRID } } := by
  rw [exec_frequencyDpllLock, execFrequencyDpllLock, if_pos input]

end SyncE

/-! Pulse and time-of-day pins (R128-R133) -/

/-- The state of a PPS output replaced. -/
def State.setPpsOut (s : State) (n : Nat) (x : PpsOut) : State := { s with car := { s.car with ppsOut := Map.set s.car.ppsOut {} n x } }

/-- The state of a PPS input replaced. -/
def State.setPpsIn (s : State) (n : Nat) (x : PpsIn) : State := { s with car := { s.car with ppsIn := Map.set s.car.ppsIn {} n x } }

@[simp] theorem State.setPpsOut_ppsOut (s : State) (n : Nat) (x : PpsOut) : Map.get (s.setPpsOut n x).car.ppsOut {} n = x := Map.get_set_self ..

@[simp] theorem State.setPpsIn_ppsIn (s : State) (n : Nat) (x : PpsIn) : Map.get (s.setPpsIn n x).car.ppsIn {} n = x := Map.get_set_self ..

/-- A second that begins a pulse makes the output high. -/
@[simp] theorem PpsOut.mark_high (x : PpsOut) (k : Int) : (x.mark k).high = true := by
  unfold PpsOut.mark
  split
  · split <;> rfl
  · rfl

section Pins

variable {n : Nat} {s : State}

theorem exec_ppsOutStart_high (high : (Map.get s.car.ppsOut {} n).high = true) : exec (.ppsOutStart n) s = .next s := by
  simp only [exec_ppsOutStart, execPpsOutStart, high, Bool.not_true, Bool.and_false, Bool.false_eq_true, if_false]

theorem exec_ppsOutEnd_high (high : (Map.get s.car.ppsOut {} n).high = true) :
    exec (.ppsOutEnd n) s =
      .next ((s.setPpsOut n { Map.get s.car.ppsOut {} n with high := false }).emit (.pps n false)) := by
  simp only [exec_ppsOutEnd, execPpsOutEnd, high, if_true, State.setPpsOut]

/-- An output that has had no pulse and no step since reset begins the pulse of the second that the counter has reached. -/
theorem exec_ppsOutStart_first (enabled : s.rd (F.FST_PPS_OUT_CFG_ENABLE n) = 1) (allowed : s.ppsAllowed n = true)
    (unused : Map.get s.car.ppsOut {} n = {}) :
    ∃ k, exec (.ppsOutStart n) s = .next ((s.setPpsOut n (PpsOut.mark {} k)).emit (.pps n true)) := by
  refine ⟨(s.fst.now - s.rdI (F.FST_PPS_OUT_CFG_OFFSET n)).ediv sec16, ?_⟩
  simp [execPpsOutStart, State.rdB_of_one enabled, allowed, unused, PpsOut.done, State.setPpsOut]

/-- An edge less than 999.9 ms after the one that the spacing check holds. -/
theorem exec_ppsInEdge_early {sub : Nat} {l : Int} (last : (Map.get s.car.ppsIn {} n).lastEdge = some l)
    (early : s.fst.now + sub - l < 65536 * 999900000) :
    exec (.ppsInEdge n sub) s =
      .next ((s.setPpsIn n { Map.get s.car.ppsIn {} n with lastEdge := some (s.fst.now + sub) }).err (R.FST_PPS_GLITCH_CNT n)) := by
  have outside : ¬ 65536 * 999900000 ≤ s.fst.now + sub - l := Int.not_le.2 early
  simp only [exec_ppsInEdge, execPpsInEdge, last, outside, decide_false, Bool.false_and, Bool.false_eq_true, if_false, State.setPpsIn]

/-- The first edge has no spacing to keep. -/
theorem exec_ppsInEdge_first {sub : Nat} (first : (Map.get s.car.ppsIn {} n).lastEdge = none) :
    exec (.ppsInEdge n sub) s = .next (s.setPpsIn n { Map.get s.car.ppsIn {} n with
      lastEdge := some (s.fst.now + sub), edge := some (s.fst.now + sub), named := (Map.get s.car.ppsIn {} n).todSec, todSec := none }) := by
  simp only [exec_ppsInEdge, execPpsInEdge, first, if_true, State.setPpsIn]

/-- Within the window of its edge a sentence is remembered in TAI, and nothing but the input changes. -/
theorem exec_todSentenceRx_window {utc : Nat} {e : Int} (edge : (Map.get s.car.ppsIn {} n).edge = some e)
    (late : 65536 * 10000000 ≤ s.fst.now - e) (soon : s.fst.now - e ≤ 65536 * 990000000) :
    ∃ y, exec (.todSentenceRx n true utc) s = .next (s.setPpsIn n y) ∧ y.lastTod = some (utc + s.rdI F.FST_TOD_CFG_UTC_OFFSET) := by
  simp only [exec_todSentenceRx, execTodSentenceRx, edge, late, soon, decide_true, Bool.and_self, if_true]
  refine ⟨_, rfl, ?_⟩
  split
  · rfl
  · split <;> rfl

end Pins

/-! PTM (R136-R138) and the clock page (R139) -/

/-- An accepted dialogue records its pair, of the host time given, and takes the rate from the last sixteen pairs (R138). -/
def State.ptmPaired (s : State) (a : Nat) (host : Int) : State :=
  let pairs := ((host, s.fst.now) :: (Map.get s.car.ptm {} a).pairs).take 16
  let r := s.ptmRate pairs
  { r.2 with car := { r.2.car with ptm := Map.set r.2.car.ptm {} a { Map.get s.car.ptm {} a with
      open_ := none, bad := 0, pairs := pairs, hostT := host.ediv 65536, devT := s.fst.now - host.emod 65536, rate := r.1 } } }

section Ptm

variable {a : Nat} {s : State}

theorem exec_ptmDialogueStart_up (enabled : (s.func (mgmtOf a)).cfg.ptmEnable = true) (up : s.rd (F.HIF_LINK_STATUS_DL_UP a) = 1) :
    exec (.ptmDialogueStart a) s = .next ({ s with car := { s.car with
      ptm := Map.upd s.car.ptm {} a (fun x => { x with open_ := some s.fst.now }) } }.emit (.ptmRequest a)) := by
  simp only [exec_ptmDialogueStart, execPtmDialogueStart, enabled, State.rdB_of_one up, Bool.and_self, if_true]

theorem exec_ptmResponseRx_closed (t2 turn : Int) (closed : (Map.get s.car.ptm {} a).open_ = none) :
    exec (.ptmResponseRx a t2 turn) s = .next s := by
  simp only [exec_ptmResponseRx, execPtmResponseRx, closed]

theorem exec_ptmResponseTimeout_closed (closed : (Map.get s.car.ptm {} a).open_ = none) :
    exec (.ptmResponseTimeout a) s = .next s := by
  simp only [exec_ptmResponseTimeout, execPtmResponseTimeout, closed]

variable {t1 : Int} (asked : (Map.get s.car.ptm {} a).open_ = some t1)
include asked

theorem exec_ptmResponseTimeout_open : exec (.ptmResponseTimeout a) s = .next (s.ptmDiscard a) := by
  simp only [exec_ptmResponseTimeout, execPtmResponseTimeout, asked]

/-- A turnaround longer than the dialogue gives a negative round trip. -/
theorem exec_ptmResponseRx_negative (t2 : Int) {turn : Int} (negative : s.fst.now - t1 < turn) :
    exec (.ptmResponseRx a t2 turn) s = .next (s.ptmDiscard a) := by
  have below : s.fst.now - t1 - turn < 0 := by omega
  simp only [exec_ptmResponseRx, execPtmResponseRx, asked, if_pos below]

theorem exec_ptmResponseRx_accepted (t2 : Int) {turn : Int} (nonneg : turn ≤ s.fst.now - t1) :
    exec (.ptmResponseRx a t2 turn) s = .next (
      let rt := s.fst.now - t1 - turn
      let d := ((s.ptmPaired a (t2 + turn + rt.ediv 2)).wr (F.FST_PTM_STATUS_PTM_VALID a) 1).roundPs
        ((rt.toNat * 1000) / 131072, (rt.toNat * 1000) % 131072 == 0)
      (d.2.wr (F.FST_PTM_STATUS_LINK_DELAY a) (stop32 d.1)).writeTimePages (some a)) := by
  have above : ¬ s.fst.now - t1 - turn < 0 := by omega
  simp only [exec_ptmResponseRx, execPtmResponseRx, asked, if_neg above, State.ptmPaired]

end Ptm

/-- A command whose checks pass runs. -/
theorem State.Checked.admRun {s : State} {f op : Nat} {ordered : Bool} {masks : List Nat} {good : AdmCmd → Bool} {c : AdmCmd}
    (h : s.Checked f op ordered masks good c) (k : State → AdmCmd → State) : s.admRun f op ordered masks good k = k s c := by
  simp [State.admRun, h.cur, h.read, h.clean, h.free]

theorem exec_clockPageSet_checked {f : Nat} {s : State} {c : AdmCmd}
    (checked : s.Checked f 0x0B false [0xFFFFFFFFFFFFFFFF] (fun c => c.word 8 % 128 == 0) c) :
    exec (.clockPageSet f) s =
      .next ((s.updFunc c.target (fun x => { x with clockPage := c.word 8, clockSeq := 0, clockTSeq := 0 })).admDone f stSuccess) := by
  rw [exec_clockPageSet, execClockPageSet, checked.admRun]

/-! Port delays (R98, R99) -/

/-- The link-up that waits for the calibration completes where the link is ready. -/
theorem exec_portCalibrationDone_waits {p : Nat} {s : State} (ok : Bool) (tx rx temp : Nat) (waits : (s.prt1 p).calWait = true) :
    exec (.portCalibrationDone p ok tx rx temp) s = .next (
      let t := (s.setPrt p { s.prt1 p with calWait := false }).calibrate p ok tx rx temp
      if t.linkReady p then t.setUp p true else t) := by
  rw [exec_portCalibrationDone, execPortCalibrationDone, if_pos waits]

theorem exec_delayTempCorrection_up {p : Nat} {s : State} (up : s.rd (F.PRT_LINK_STATUS_UP p) = 1) :
    exec (.delayTempCorrection p) s = .next (
      let c := fun k => Config.tempCorr p k ((s.rd F.FLT_THERM_TEMP : Int) - s.rd (F.FST_PORT_CAL_STATUS_CAL_TEMP p))
      (s.wrI (F.FST_PORT_CAL_TX_CAL p) (s.rd (F.FST_PORT_CAL_TX_CAL p) + c 0)).wrI (F.FST_PORT_CAL_RX_CAL p)
        (s.rd (F.FST_PORT_CAL_RX_CAL p) + c 1)) := by
  rw [exec_delayTempCorrection, execDelayTempCorrection, if_pos (State.rdB_of_one up)]

/-! The statements -/

/-- Settles O20: each message and request by the lemma of its circumstances above, a Sync by its one step or two. -/
theorem ptpSends : Obligations.PtpSends := by
  unfold Obligations.PtpSends
  refine ⟨?sync, fun i p s other => ⟨exec_ptpSyncTx_notMaster other, exec_ptpAnnounceTx_notMaster other⟩,
    fun i p s member master => exec_ptpAnnounceTx_master member master,
    fun i p s member client endToEnd => exec_ptpDelayReqTx_client member client endToEnd,
    fun i p s member peer => exec_ptpPdelayReqTx_peer member peer,
    fun i k g s held => exec_ptpGrantRenew_held held,
    fun i k g s denied => exec_ptpGrantRequestRetry_denied denied,
    fun i client k s => rfl⟩
  case sync =>
    intro i p s member master u q t
    split
    next two => exact exec_ptpSyncTx_twoStep member master two
    next one => exact exec_ptpSyncTx_oneStep member master (Bool.eq_false_of_not_eq_true one)

/-- Settles O21: each message by the lemma of its circumstances above; the data set that an Announce feeds to the BMCA by
`State.setForeign_foreign`. -/
theorem ptpReceives : Obligations.PtpReceives := by
  unfold Obligations.PtpReceives
  refine ⟨?syncs, ?delays, fun i p m a s t accepted far => exec_ptpAnnounceRx_far accepted far, ?announce,
    fun i p k lp dur m s t accepted denied => exec_ptpSignalingRx_denied accepted denied,
    fun i p m s t accepted => exec_ptpManagementRx_accepted accepted,
    fun i h l s held => exec_ptpUnmatchedTimeout_oldest held,
    fun i p s parent => exec_ptpAnnounceReceiptTimeout_parent parent⟩
  case syncs =>
    intro i p m s t accepted
    exact ⟨exec_ptpSyncRx_parent accepted, exec_ptpFollowUpRx_noSync accepted, fun h => exec_ptpFollowUpRx_match accepted,
      exec_ptpDelayReqRx_master accepted⟩
  case delays =>
    intro i p m s t accepted
    exact ⟨exec_ptpDelayRespRx_noRequest accepted, fun t3 => exec_ptpDelayRespRx_noSync accepted, exec_ptpPdelayReqRx_accepted accepted,
      exec_ptpPdelayRespRx_twoStep accepted, exec_ptpPdelayRespFollowUpRx_match accepted⟩
  case announce =>
    intro i p m a s t accepted near
    refine ⟨t.setForeign i p (.ofMsg m.src a), exec_ptpAnnounceRx_near accepted near, ?_, ?_, rfl⟩ <;>
      rw [State.setForeign_foreign] <;> rfl

/-- Settles O22: each command by the lemma of its circumstances above. -/
theorem carryingTime : Obligations.CarryingTime := by
  unfold Obligations.CarryingTime
  refine ⟨fun s => rfl, fun p ql s many => exec_esmcRx_beyondTen ql many, fun p ql s few known => exec_esmcRx_known few known,
    fun p s selected => exec_esmcTimeout_selected selected, fun n s => rfl, fun n s => rfl,
    fun n s running => exec_synceHoldOffExpiry_running running, fun n s running => exec_synceWtrExpiry_running running,
    fun n s high => ⟨exec_ppsOutStart_high high, exec_ppsOutEnd_high high⟩, ?pulse,
    fun n sub l s last early => exec_ppsInEdge_early last early, ?edge, fun n utc s => rfl, ?sentence,
    fun a s enabled up => exec_ptmDialogueStart_up enabled up,
    fun a t2 turn s closed => ⟨exec_ptmResponseRx_closed t2 turn closed, exec_ptmResponseTimeout_closed closed⟩, ?dialogue,
    fun f s c checked => exec_clockPageSet_checked checked,
    fun p tx rx temp s waits => exec_portCalibrationDone_waits true tx rx temp waits,
    fun p s up => exec_delayTempCorrection_up up, fun s input => exec_frequencyDpllLock_input input⟩
  case pulse =>
    intro n s enabled allowed unused
    obtain ⟨k, run⟩ := exec_ppsOutStart_first enabled allowed unused
    exact ⟨_, run, rfl, by simp, rfl⟩
  case edge =>
    intro n sub s first
    exact ⟨_, exec_ppsInEdge_first first, by simp, rfl⟩
  case sentence =>
    intro n utc e s edge late soon
    obtain ⟨y, run, tod⟩ := exec_todSentenceRx_window (utc := utc) edge late soon
    exact ⟨_, run, by simpa using tod, rfl⟩
  case dialogue =>
    intro a t1 s asked
    exact ⟨exec_ptmResponseTimeout_open asked, fun t2 turn => ⟨exec_ptmResponseRx_negative asked t2, exec_ptmResponseRx_accepted asked t2⟩⟩

end Sys2Proof.Machine
end

section
/-! PROOFS. The statements of 04_parse_and_match.md on parsing and matching. First what a parse core makes of the instruction it stands at
and what its window answers (R159-R164), then taking a packet, the match stages and the first faults of cores, lanes and memories
(R154-R158, R181, R198, R199, R639), then the statements, which cite these. -/

namespace Sys2Proof.Machine

open Sys2Proof

/-! Writing one key of a store twice -/

theorem Map.erase_of_unlisted {α : Type} {m : Map α} {k : Nat} (h : ∀ e ∈ m, e.1 ≠ k) : Map.erase m k = m := by
  induction m with
  | nil => rfl
  | cons e t ih =>
    obtain ⟨a, v⟩ := e
    have other : a ≠ k := h (a, v) List.mem_cons_self
    rw [Map.erase, if_neg other, ih fun e he => h e (List.mem_cons_of_mem _ he)]

theorem Map.erase_insert {α : Type} {m : Map α} {k : Nat} (v : α) (h : ∀ e ∈ m, e.1 ≠ k) : Map.erase (Map.insert m k v) k = m := by
  induction m with
  | nil => simp [Map.insert, Map.erase]
  | cons e t ih =>
    obtain ⟨a, u⟩ := e
    have other : a ≠ k := h (a, u) List.mem_cons_self
    have tail : ∀ e ∈ t, e.1 ≠ k := fun e he => h e (List.mem_cons_of_mem _ he)
    by_cases below : k < a
    · rw [Map.insert, if_pos below, Map.erase, if_pos rfl, Map.erase_of_unlisted h]
    · rw [Map.insert, if_neg below, Map.erase, if_neg other, ih tail]

/-- The second write of a key replaces the first. -/
@[simp] theorem Map.set_set {α : Type} [DecidableEq α] (m : Map α) (d : α) (k : Nat) (u v : α) :
    Map.set (Map.set m d k u) d k v = Map.set m d k v := by
  have erased : Map.erase (Map.set m d k u) k = Map.erase m k := by
    unfold Map.set
    split
    · exact Map.erase_of_unlisted (Map.not_mem_erase m k)
    · exact Map.erase_insert u (Map.not_mem_erase m k)
  rw [Map.set, erased, Map.set]

/-! Parse cores -/

@[simp] theorem State.core_setCore_self (s : State) (k : Nat) (c : ParseCore) : (s.setCore k c).core k = c := Map.get_set_self ..

theorem State.core_setCore_ne (s : State) {k o : Nat} (c : ParseCore) (h : o ≠ k) : (s.setCore k c).core o = s.core o :=
  Map.get_set_ne _ _ _ _ h

@[simp] theorem State.setCore_setCore (s : State) (k : Nat) (c d : ParseCore) : (s.setCore k c).setCore k d = s.setCore k d := by
  simp only [State.setCore, Map.set_set]

theorem State.parseInsn_of_core {s : State} {k : Nat} {c : ParseCore} {p : Pkt} (core : s.core k = c) (pkt : c.pkt = some p) :
    s.parseInsn k = ((s.ver (p.g Md.version)).parse[c.pc]?).map BitVec.toNat := by
  simp only [State.parseInsn, core, pkt]

section Packet

variable {c : ParseCore} {p : Pkt} (pkt : c.pkt = some p)
include pkt

theorem ParseCore.len_eq : c.len = p.data.length := by
  simp only [ParseCore.len, pkt]

theorem ParseCore.updPkt_eq (f : Pkt → Pkt) : c.updPkt f = { c with pkt := some (f p) } := by
  simp only [ParseCore.updPkt, pkt, Option.map_some]

/-! The window of a core (R159, R164) -/

theorem ParseCore.window_holds {off n : Nat} (f : List Byte → PRes) (holds : c.Holds off n) :
    c.window off n f = f ((p.data.drop off).take n) := by
  obtain ⟨inside, arrived⟩ := holds
  simp only [ParseCore.window, if_neg (Nat.not_lt.2 inside), if_neg (Nat.not_lt.2 arrived), pkt]

theorem ParseCore.window_outside {off n : Nat} (f : List Byte → PRes) (outside : min p.data.length 512 < off + n) :
    c.window off n f = .finish c 0xFE := by
  rw [ParseCore.window, ParseCore.len_eq pkt, if_pos outside]

theorem ParseCore.window_missing {off n : Nat} (f : List Byte → PRes) (inside : off + n ≤ min p.data.length 512)
    (missing : c.arrived < off + n) : c.window off n f = .stall := by
  rw [ParseCore.window, ParseCore.len_eq pkt, if_neg (Nat.not_lt.2 inside), if_pos missing]

theorem pExt_holds {w : Nat} (holds : c.Holds (c.cur + pX w) (pL w)) :
    pExt w c = .next (c.setR (pD w) (beNat ((p.data.drop (c.cur + pX w)).take (pL w)))) := by
  rw [pExt, ParseCore.window_holds pkt _ holds]

end Packet

/-- A comparison that a branch follows goes on or to the target. -/
theorem State.parseRes_branch (s : State) (k w : Nat) (c : ParseCore) :
    s.parseRes k (c.branch w) = s.parseGo k c (if c.cond (pC w) then pImm w % 2048 else c.pc + 1) := by
  unfold ParseCore.branch
  split <;> rfl

/-- The core, no longer stalled, once every byte of its packet has arrived. -/
def ParseCore.arrivedWhole (c : ParseCore) (p : Pkt) : ParseCore := { c with arrived := p.data.length, stalled := false }

theorem ParseCore.arrivedWhole_holds {c : ParseCore} {p : Pkt} (pkt : c.pkt = some p) {off n : Nat}
    (inside : off + n ≤ min p.data.length 512) : (c.arrivedWhole p).Holds off n :=
  ⟨(ParseCore.len_eq (c := c.arrivedWhole p) pkt).symm ▸ inside, inside.trans (Nat.min_le_left ..)⟩

/-! What the instruction that a core stands at comes to -/

section Stands

variable {k w op : Nat} {c : ParseCore} {p : Pkt} {s : State} (h : s.Parses k w c p)
include h

theorem State.Parses.run (stands : pOp w = op) (f : Nat → ParseCore → PRes) : s.parseRun k op f = s.parseRes k (f w c) := by
  simp only [State.parseRun, h.insn, h.core, stands, h.runs, and_self, if_true]

theorem State.Parses.run_other (other : pOp w ≠ op) (f : Nat → ParseCore → PRes) : s.parseRun k op f = s := by
  simp only [State.parseRun, h.insn, other, false_and, if_false]

variable {f : Nat → ParseCore → PRes}

theorem State.Parses.run_next (stands : pOp w = op) {d : ParseCore} (res : f w c = .next d) :
    s.parseRun k op f = s.parseGo k d (d.pc + 1) := by
  rw [h.run stands, res, State.parseRes]

theorem State.Parses.run_finish (stands : pOp w = op) {code : Nat} (res : f w c = .finish c code) :
    s.parseRun k op f = s.parseEnd k c code := by
  rw [h.run stands, res, State.parseRes]

theorem State.Parses.run_stall (stands : pOp w = op) (res : f w c = .stall) :
    s.parseRun k op f = s.setCore k { c with stalled := true } := by
  rw [h.run stands, res, State.parseRes, h.core]

/-- Once the bytes have arrived, a core that stalled at EXT runs EXT with its whole packet there. -/
theorem State.Parses.stallEnd_ext (stands : pOp w = 0x01) :
    exec (.parseStallEnd k) (s.setCore k { c with stalled := true }) =
      .next ((s.setCore k (c.arrivedWhole p)).parseRes k (pExt w (c.arrivedWhole p))) := by
  have core : (s.setCore k (c.arrivedWhole p)).core k = c.arrivedWhole p := State.core_setCore_self ..
  have insn : (s.setCore k (c.arrivedWhole p)).parseInsn k = some w :=
    calc (s.setCore k (c.arrivedWhole p)).parseInsn k
        = ((s.ver (p.g Md.version)).parse[c.pc]?).map BitVec.toNat := State.parseInsn_of_core (c := c.arrivedWhole p) core h.pkt
      _ = s.parseInsn k := (State.parseInsn_of_core h.core h.pkt).symm
      _ = some w := h.insn
  have ready : { c with arrived := ({ c with stalled := true } : ParseCore).len, stalled := false } = c.arrivedWhole p := by
    rw [ParseCore.arrivedWhole, ParseCore.len_eq (c := { c with stalled := true }) h.pkt]
  simp only [exec_parseStallEnd, execParseStallEnd, State.core_setCore_self, State.setCore_setCore, if_true, ready, insn, stands]

end Stands

/-! Taking a packet (R154-R158, R198) -/

/-- The packet as a parse core holds it after its take: a new metadata word, a clear scratch, and its match lane. -/
def State.takePkt (s : State) (p : Pkt) : Pkt :=
  { p with md := s.takeMd p, scratch := List.replicate 128 0, lane := s.laneOf (mdGet (s.takeMd p) Md.srcKind), recirc := false }

/-- The core that has taken a packet of which n bytes are there. -/
def State.takeCore (s : State) (p : Pkt) (n : Nat) : ParseCore :=
  { pkt := some (s.takePkt p), arrived := n, taken := s.takeMd p,
    pc := (s.ver (mdGet (s.takeMd p) Md.version)).entries.getD (mdGet (s.takeMd p) Md.srcKind) 0 }

section Take

variable {k n : Nat} {s : State}

theorem exec_parseTake_busy (n : Nat) (busy : s.coreFree k = false) : exec (.parseTake k n) s = .next s := by
  have refused {m : Nat} : ¬ (s.coreFree k = true ∧ m ≤ n) := by simp [busy]
  simp only [exec_parseTake, execParseTake, if_neg refused]
  split <;> rfl

variable {p : Pkt} {l : List Pkt} (oldest : s.path.wait = p :: l) (free : s.coreFree k = true) (there : min 64 p.data.length ≤ n)
include oldest free there

theorem exec_parseTake_noRuleset (absent : s.rd F.PRS_STATUS_RULESET = 0) :
    exec (.parseTake k n) s = .next (({ s with path := { s.path with wait := l } }.stat R.PRS_NO_RULESET_CNT).txDropped p) := by
  rw [exec_parseTake, execParseTake, oldest]
  dsimp only
  rw [if_pos ⟨free, there⟩]
  exact if_pos absent

theorem exec_parseTake_ruleset (current : s.rd F.PRS_STATUS_RULESET = 1) :
    exec (.parseTake k n) s = .next (
      let u : State := { s with path := { s.path with wait := l } }
      let t := (u.setCore k (u.takeCore p n)).stat R.PRS_PKT_CNT
      if mdGet (u.takeMd p) Md.srcKind = 2 then t else t.inflightAdd (mdGet (u.takeMd p) Md.version)) := by
  have ruleset : ¬ ({ s with path := { s.path with wait := l } } : State).rd F.PRS_STATUS_RULESET = 0 := fun h =>
    absurd (current.symm.trans h) (by decide)
  rw [exec_parseTake, execParseTake, oldest]
  dsimp only
  rw [if_pos ⟨free, there⟩, if_neg ruleset]
  simp only [beq_iff_eq]
  rfl

end Take

/-! The match stages (R158, R181) and the first faults (R199, R200, R639) -/

section Match

variable {id : Nat} {m : InMatch} {s : State} (found : s.path.inMatch.find? (fun m => m.pkt.id == id) = some m)
include found

theorem exec_matchStage_before15 (before : m.stage < 15) :
    exec (.matchStage id) s = .next (
      let r := s.stageRun m.pkt m.stage
      r.2.setInMatch (r.2.path.inMatch.map (fun x => if x.pkt.id == id then { x with pkt := r.1, stage := m.stage + 1 } else x))) := by
  have notLast : ¬ (m.stage = 15 ∧ s.olderInMatch m.pkt = true) := fun h => absurd h.1 (Nat.ne_of_lt before)
  simp only [exec_matchStage, execMatchStage, found, if_neg notLast, if_pos before]

theorem exec_matchStage_waits (last : m.stage = 15) (older : s.olderInMatch m.pkt = true) : exec (.matchStage id) s = .next s := by
  simp only [exec_matchStage, execMatchStage, found, if_pos (And.intro last older)]

/-- The first fault of a lane during a packet's passage (R639). -/
theorem exec_matchLaneFault_first (cause : Nat) (first : m.retry = none) :
    exec (.matchLaneFault id cause) s = .next (
      let t := s.newCorr.2
      let r : MatchRetry := {
        cause := cause, stage := m.stage, corr := s.newCorr.1, drip := t.fst.drip, aligned := t.rdB F.FST_STATUS_ALIGNED }
      t.setInMatch (t.path.inMatch.map (fun x =>
        if x.pkt.id == id then { x with pkt := { m.pkt with md := m.first }, stage := 0, retry := some r } else x))) := by
  simp only [exec_matchLaneFault, execMatchLaneFault, found, first]

end Match

/-- The core that parses a packet again after the first fault of core k: from the metadata taken, with an empty scratch (R199, R638). -/
def State.secondParse (s : State) (k cause : Nat) (p : Pkt) : ParseCore :=
  let t := s.newCorr.2
  let q : Pkt := { p with md := (s.core k).taken, scratch := List.replicate 128 0 }
  { pkt := some q, taken := (s.core k).taken, arrived := (s.core k).arrived, second := true, firstCore := k, cause := cause,
    corr := s.newCorr.1, faultDrip := t.fst.drip, faultAligned := t.rdB F.FST_STATUS_ALIGNED,
    pc := (t.ver (q.g Md.version)).entries.getD (q.g Md.srcKind) 0 }

theorem exec_parseCoreFault_first {k o : Nat} {p : Pkt} {s : State} (cause : Nat) (pkt : (s.core k).pkt = some p)
    (first : (s.core k).second = false) (free : s.coreFree o = true) (other : o ≠ k) :
    exec (.parseCoreFault k o cause) s = .next ((s.newCorr.2.setCore k {}).setCore o (s.secondParse k cause p)) := by
  simp only [exec_parseCoreFault, execParseCoreFault, pkt, first, Bool.false_eq_true, if_false, if_pos (And.intro free other)]
  rfl

/-- A read that its one repeat corrects is counted and recorded, and no line goes out of use (R639). -/
theorem exec_memoryReadError_corrected (store addr tab unit : Nat) (places : List Nat) (pkt : Option Nat) (s : State) :
    exec (.memoryReadError store addr tab unit places pkt true) s = .next (
      let t := s.newCorr.2.err R.FLT_MEM_CNT
      t.fault {
        cls := 0x04, cause := store, unit := unitOf (memClass store) (if store = 3 ∨ store = 5 then unit else 0), corr := s.newCorr.1,
        snapshot := t.cnt R.FLT_MEM_CNT, lower := 1, upper := 1, sparesOut := false, detail := addr % 2 ^ 48 + tab % 256 * 2 ^ 48 }) := by
  simp only [exec_memoryReadError, execMemoryReadError, if_true]
  rfl

theorem exec_cfPacketInject_data (d : List Byte) (s : State) :
    exec (.cfPacketInject none d) s = .next (s.toParse (({ data := d } : Pkt).s Md.srcKind 3)) := rfl

/-! The statements -/

/-- Settles O23: each instruction by what its result leads to (`State.Parses.run_next`, `State.Parses.run_finish`), BR by
`State.parseRes_branch`. -/
theorem parseRegisterInstructions : Obligations.ParseRegisterInstructions := by
  unfold Obligations.ParseRegisterInstructions
  intro k w c p s h
  have len := ParseCore.len_eq h.pkt
  have upd := ParseCore.updPkt_eq h.pkt
  simp only [exec_parseMovi, execParseMovi, exec_parseShl, execParseShl, exec_parseShr, execParseShr, exec_parseAnd, execParseAnd,
    exec_parseOr, execParseOr, exec_parseAdd, execParseAdd, exec_parseCmp, execParseCmp, exec_parseBr, execParseBr, exec_parseAdvi,
    execParseAdvi, exec_parseAdvr, execParseAdvr, exec_parseEmitr, execParseEmitr, exec_parseSetmd, execParseSetmd, exec_parseMark,
    execParseMark, exec_parseDone, execParseDone, exec_parseFail, execParseFail, Host.Outcome.next.injEq]
  refine ⟨fun movi => h.run_next movi rfl, fun shl => h.run_next shl rfl, fun shr => h.run_next shr rfl, fun and => h.run_next and rfl,
    fun or => h.run_next or rfl, fun add => h.run_next add rfl, fun cmp => h.run_next cmp rfl, ?br, fun advi => h.run_next advi rfl,
    fun advr => h.run_next advr rfl, fun emitr => h.run_next emitr (congrArg PRes.next (upd _)),
    fun setmd => h.run_next setmd (congrArg PRes.next (upd _)), ?mark, ?markOutside, fun done => h.run_finish done rfl,
    fun fail => h.run_finish fail rfl, fun other => h.run_other other _⟩
  case br =>
    intro br
    rw [h.run br, pBr, State.parseRes_branch]
  case mark =>
    intro mark inside
    refine h.run_next mark ?_
    rw [pMark, len, if_neg (Nat.not_lt.2 inside), upd]
  case markOutside =>
    intro mark outside
    refine h.run_finish mark ?_
    rw [pMark, len, if_pos outside]

/-- Settles O24: what the window answers by `ParseCore.window_holds`, `ParseCore.window_outside` and `ParseCore.window_missing`, and the
end of the stall by `State.Parses.stallEnd_ext`. -/
theorem parseWindowInstructions : Obligations.ParseWindowInstructions := by
  unfold Obligations.ParseWindowInstructions
  intro k w c p s h
  simp only [exec_parseExt, execParseExt, exec_parseExtb, execParseExtb, exec_parseBrf, execParseBrf, exec_parseEmit, execParseEmit,
    Host.Outcome.next.injEq]
  refine ⟨fun ext holds => h.run_next ext (pExt_holds h.pkt holds),
    fun extb holds => h.run_next extb (by rw [pExtb, ParseCore.window_holds h.pkt _ holds]), ?brf, ?emit,
    fun outside => ⟨fun ext => h.run_finish ext (ParseCore.window_outside h.pkt _ outside),
      fun brf => h.run_finish brf (ParseCore.window_outside h.pkt _ outside),
      fun emit => h.run_finish emit (ParseCore.window_outside h.pkt _ outside)⟩, ?stall⟩
  case brf =>
    intro brf holds
    rw [h.run brf, pBrf, ParseCore.window_holds h.pkt _ holds, State.parseRes_branch]
    rfl
  case emit =>
    intro emit holds
    refine h.run_next emit ?_
    rw [pEmit, ParseCore.window_holds h.pkt _ holds, ParseCore.updPkt_eq h.pkt]
  case stall =>
    intro ext inside missing
    refine ⟨h.run_stall ext (ParseCore.window_missing h.pkt _ inside missing), _, h.stallEnd_ext ext, ?_⟩
    have holds : (c.arrivedWhole p).Holds (c.cur + pX w) (pL w) := ParseCore.arrivedWhole_holds h.pkt inside
    rw [pExt_holds (c := c.arrivedWhole p) h.pkt holds]
    rfl

/-- Settles O25: each command by the lemma of its circumstances above; after a core's first fault the two cores read as they were set. -/
theorem parseTakeAndMatch : Obligations.ParseTakeAndMatch := by
  unfold Obligations.ParseTakeAndMatch
  refine ⟨fun k n p l s oldest free there absent => exec_parseTake_noRuleset oldest free there absent,
    fun k n p l s oldest free there current => exec_parseTake_ruleset oldest free there current,
    fun k n s busy => exec_parseTake_busy n busy, exec_cfPacketInject_data,
    fun id m s found before => exec_matchStage_before15 found before,
    fun id m s found last older => exec_matchStage_waits found last older, ?coreFault,
    fun id cause m s found first => exec_matchLaneFault_first found cause first,
    fun store addr tab unit places pkt s => exec_memoryReadError_corrected store addr tab unit places pkt s⟩
  case coreFault =>
    intro k o cause p s pkt first free other
    refine ⟨_, exec_parseCoreFault_first cause pkt first free other, ?_⟩
    rw [State.core_setCore_self, State.core_setCore_ne _ _ other.symm, State.core_setCore_self]
    exact ⟨rfl, rfl, rfl, rfl, rfl⟩

end Sys2Proof.Machine
end

section
/-! PROOFS. The statements of 04_parse_and_match.md on ruleset versions. First the commands that open, stage, abort and commit a version
(R187-R191, R197, R513), then what makes it current, retires and settles it (R192-R196), then the statement, which cites these. -/

namespace Sys2Proof.Machine

open Sys2Proof

/-! RULESET_OPEN (R187) -/

section Open

variable {f : Nat} {c : AdmCmd} {s : State}
  (checked : s.Checked f 0x20 true [0xFFFF] (fun c => !s.rdB F.PRS_STATUS_RULESET ||
    bitsOf (c.word 8) 0 16 == (s.rd F.MAT_VER_STATUS_CURRENT + 1) % 65536) c)
include checked

theorem exec_rulesetOpen_busy (one : s.rd F.MAT_VER_STATUS_OPEN = 1) : exec (.rulesetOpen f) s = .next (s.admDone f stBusy) := by
  rw [exec_rulesetOpen, execRulesetOpen, checked.admRun]
  simp only [if_pos (State.rdB_of_one one)]

variable (zero : s.rd F.MAT_VER_STATUS_OPEN = 0)
include zero

theorem exec_rulesetOpen_windowFull (four : 4 ≤ s.rd F.MAT_VER_STATUS_LIVE) :
    exec (.rulesetOpen f) s = .next (s.admDone f stWindowFull) := by
  rw [exec_rulesetOpen, execRulesetOpen, checked.admRun]
  simp only [State.rdB_of_zero zero, Bool.false_eq_true, if_false, if_pos four]

/-- With no ruleset current the version opens empty. -/
theorem exec_rulesetOpen_first (room : s.rd F.MAT_VER_STATUS_LIVE < 4)
    (clear : s.path.clearing.contains (bitsOf (c.word 8) 0 16 % 4) = false) (absent : s.rd F.PRS_STATUS_RULESET = 0) :
    exec (.rulesetOpen f) s = .next ((((s.setVer { num := bitsOf (c.word 8) 0 16 }).wr F.MAT_VER_STATUS_OPEN 1).wr F.MAT_VER_STATUS_OPEN_VER
      (bitsOf (c.word 8) 0 16)).admDone f stSuccess) := by
  rw [exec_rulesetOpen, execRulesetOpen, checked.admRun]
  simp only [State.rdB_of_zero zero, State.rdB_of_zero absent, clear, Bool.false_eq_true, if_false, if_neg (Nat.not_le.2 room)]

end Open

/-! RULESET_STAGE and TABLE_CREATE (R188, R513) -/

/-- A command whose operands fail its check answers BAD_FIELD. -/
theorem State.admRun_badField {s : State} {f op : Nat} {ordered : Bool} {masks : List Nat} {good : AdmCmd → Bool} {c : AdmCmd}
    (cur : s.admCmd f op ordered = some c) (read : (c.reads && c.opRead != 0) = false) (bad : good c = false) (k : State → AdmCmd → State) :
    s.admRun f op ordered masks good k = s.admDone f stBadField := by
  simp [State.admRun, cur, read, bad]

section Stage

variable {f : Nat} {c : AdmCmd} {s : State}

section NotOpen

variable (cur : s.admCmd f 0x21 true = some c) (read : (c.reads && c.opRead != 0) = false)
  (closed : s.isOpen (bitsOf (c.word 8) 0 16) = false)
include cur read closed

theorem exec_rulesetStage_notOpen (object : bitsOf (c.word 8) 16 8 ≠ 9) : exec (.rulesetStage f) s = .next (s.admDone f stBadField) := by
  simp only [exec_rulesetStage, execRulesetStage, cur, if_neg object]
  rw [State.admRun_badField cur read (by simp only [closed, Bool.false_and])]

theorem exec_tableCreate_notOpen (object : bitsOf (c.word 8) 16 8 = 9) : exec (.tableCreate f) s = .next (s.admDone f stBadField) := by
  simp only [exec_tableCreate, execTableCreate, cur, object, ne_eq, not_true_eq_false, if_false]
  rw [State.admRun_badField cur read (by simp only [closed, Bool.false_and])]

end NotOpen

theorem exec_rulesetStage_tcamClear (object : bitsOf (c.word 8) 16 8 = 3)
    (checked : s.Checked f 0x21 true stageMasks (fun c => s.isOpen (bitsOf (c.word 8) 0 16)
      && s.stageLen (bitsOf (c.word 8) 16 8) (bitsOf (c.word 8) 32 16) (bitsOf (c.word 0x20) 0 32) == some (bitsOf (c.word 0x20) 0 32)) c) :
    exec (.rulesetStage f) s = .next (s.tcamClear f (bitsOf (c.word 8) 0 16) (bitsOf (c.word 0x10) 0 32)) := by
  have staged : bitsOf (c.word 8) 16 8 ≠ 9 := by rw [object]; decide
  simp only [exec_rulesetStage, execRulesetStage, checked.cur, if_neg staged]
  rw [checked.admRun]
  simp [object]

/-- The state with table `tab` of KIND 1 (EXACT_S) in table SRAM, of the seeds and the number of entries that the structure l names. -/
def State.exactCreated (s : State) (tab : Nat) (l : List Byte) : State :=
  let u := s.setTable tab { kind := 1, seed1 := leAt l 8 4, seed2 := leAt l 12 4, count := leAt l 16 4 }
  { u with path := { u.path with sramUnits := s.path.sramUnits + sramNeed 1 (leAt l 16 4) } }

theorem State.exactCreated_table (s : State) (tab : Nat) (l : List Byte) : Map.get (s.exactCreated tab l).path.tables {} tab =
    { kind := 1, seed1 := leAt l 8 4, seed2 := leAt l 12 4, count := leAt l 16 4 } := by
  simp only [State.exactCreated, State.setTable, Map.get_set_self]

/-- A table of KIND 1 whose structure is in order, for a free number and with room for it. -/
theorem exec_tableCreate_exact (object : bitsOf (c.word 8) 16 8 = 9)
    (checked : s.Checked f 0x21 true stageMasks (fun c => s.isOpen (bitsOf (c.word 8) 0 16) && bitsOf (c.word 0x20) 0 32 == 32
      && decide (bitsOf (c.word 8) 32 16 ≤ 255)) c)
    {l : List Byte} (struct : s.hostRead (s.attOf f) (c.word 0x18) 32 = l) (kind : leAt l 0 8 = 1) (tail : leAt l 20 12 = 0)
    (pow : isPow2 (leAt l 16 4) = true) (unused : (Map.get s.path.tables {} (bitsOf (c.word 8) 32 16)).kind = 0)
    (sram : s.path.sramUnits + sramNeed 1 (leAt l 16 4) ≤ 114688) (hbm : s.path.hbmBytes ≤ 44 * 2 ^ 30) :
    exec (.tableCreate f) s = .next ((s.exactCreated (bitsOf (c.word 8) 32 16) l).admDone f stSuccess) := by
  have exact : bitsOf 1 0 3 = 1 ∧ bitOf 1 3 = false ∧ bitsOf 1 4 1 = 0 := by decide
  obtain ⟨exact, noHbm, noFamily⟩ := exact
  simp only [exec_tableCreate, execTableCreate, checked.cur, object, ne_eq, not_true_eq_false, if_false]
  rw [checked.admRun]
  simp only [Nat.reducePow, Nat.reduceMul] at hbm
  simp [struct, kind, tail, pow, unused, exact, noHbm, noFamily, Nat.not_lt.2 sram, Nat.not_lt.2 hbm]
  rfl

end Stage

/-! RULESET_ABORT and RULESET_COMMIT (R191, R197) -/

theorem exec_rulesetAbort_checked {f : Nat} {c : AdmCmd} {s : State}
    (checked : s.Checked f 0x22 true [0xFFFF] (fun c => s.isOpen (bitsOf (c.word 8) 0 16)) c) :
    exec (.rulesetAbort f) s = .next (
      let n := bitsOf (c.word 8) 0 16
      let u : State := { s with path := { s.path with
        tables := Map.mapVals s.path.tables {} (fun _ t => { t with entries := abortEntries n t.entries }),
        versions := Map.erase s.path.versions (n % 4) } }
      ((u.tcamSlots (fun m => clearBit m (n % 4))).closeOpen).admDone f stSuccess) := by
  rw [exec_rulesetAbort, execRulesetAbort, checked.admRun]

theorem exec_rulesetCommit_passes {f : Nat} {c : AdmCmd} {s t : State} (verified : s.Verified f 0x23 [0xFFFF] (fun _ => true) c t)
    (isOpen : t.isOpen (bitsOf (c.word 8) 0 16) = true) (passes : t.checkVersion (t.ver (bitsOf (c.word 8) 0 16)) = none) :
    exec (.rulesetCommit f) s =
      .next { t.admWait f with path := { t.path with commit := some { fn := f, ver := bitsOf (c.word 8) 0 16 } } } := by
  rw [exec_rulesetCommit, execRulesetCommit, verified.admCrit]
  simp only [isOpen, passes, Bool.not_true, Bool.false_eq_true, if_false]

/-! A version becomes current (R192, R319, R599) -/

theorem State.raise_path (s : State) (f : Fld) : (s.raise f).path = s.path := by
  simp only [State.raise, apply_ite State.path, State.wr_path, ite_self]

theorem State.raise_eng (s : State) (f : Fld) : (s.raise f).eng = s.eng := by
  simp only [State.raise, apply_ite State.eng, State.wr_eng, ite_self]

theorem State.raise_funcs (s : State) (f : Fld) : (s.raise f).funcs = s.funcs := by
  simp only [State.raise, apply_ite State.funcs, State.wr_funcs, ite_self]

/-- What no step of a run over a list changes, the run leaves. -/
theorem State.each_eq {α β : Type} (field : State → β) {g : State → α → State} (keeps : ∀ t a, field (g t a) = field t) (s : State)
    (l : List α) : field (s.each l g) = field s := by
  induction l generalizing s with
  | nil => rfl
  | cons a l ih => exact (ih (g s a)).trans (keeps s a)

theorem State.writeStageCfg_path (s : State) (v : Version) : (s.writeStageCfg v).path = s.path := by
  unfold State.writeStageCfg
  exact State.each_eq State.path (fun t n => State.setReg_path t _ _) s _

theorem State.writeLat_path (s : State) (v : Version) : (s.writeLat v).path = s.path := by
  unfold State.writeLat
  rw [State.wr_path]
  exact State.each_eq State.path (fun t k => State.setReg_path t _ _) s _

theorem State.setMeas_path (s : State) (i : Nat) (l : List Byte) : (s.setMeas i l).path = s.path := by
  unfold State.setMeas
  exact State.each_eq State.path (fun t w => State.setReg_path t _ _) s _

theorem exec_rulesetCurrent_between {q : CommitReq} {s : State} (waits : s.path.commit = some q) (between : s.fst.cycle ≠ 0) :
    exec .rulesetCurrent s = .next s := by
  simp only [exec_rulesetCurrent, execRulesetCurrent, waits, if_pos between]

/-- At the boundary the version that waits becomes current, and none waits any more. -/
theorem exec_rulesetCurrent_boundary {q : CommitReq} {s : State} (waits : s.path.commit = some q) (boundary : s.fst.cycle = 0)
    (live : 0 < s.rd F.MAT_VER_STATUS_LIVE) :
    ∃ u : State, exec .rulesetCurrent s = .next ((u.commitResult stSuccess 0 0 q.ver).admDone q.fn stSuccess) ∧ u.path.commit = none := by
  simp only [exec_rulesetCurrent, execRulesetCurrent, waits, boundary, ne_eq, not_true_eq_false, if_false, if_neg (Nat.ne_of_gt live)]
  refine ⟨_, rfl, ?_⟩
  simp only [State.raise_path, State.setMeas_path, State.writeLat_path, State.writeStageCfg_path, State.wr_path, State.setReg_path,
    State.closeOpen, State.setVer]

/-! A version retires and settles (R194-R196) -/

theorem exec_versionRetire_current {s : State} (current : s.rd F.MAT_VER_STATUS_OLDEST = s.rd F.MAT_VER_STATUS_CURRENT) :
    exec .versionRetire s = .next s := by
  simp only [exec_versionRetire, execVersionRetire, current, ne_eq, not_true_eq_false, false_and, and_false, if_false]

theorem State.startSettle_path (s : State) (m : Nat) :
    (s.startSettle m).path = { s.path with settling := s.path.settling ++ [m] } := State.wr_path ..

theorem State.startSettle_eng (s : State) (m : Nat) : (s.startSettle m).eng = s.eng := State.wr_eng ..

theorem State.startSettle_funcs (s : State) (m : Nat) : (s.startSettle m).funcs = s.funcs := State.wr_funcs ..

/-- Version v leaves the list of versions, the count of its packets is cleared, and its TCAM slot waits to be. -/
def State.dropVer (s : State) (v : Nat) : State :=
  { s with path := { s.path with versions := Map.erase s.path.versions (v % 4), clearing := s.path.clearing ++ [v % 4] } }.setReg
    (R.MAT_INFLIGHT (v % 4)) 0

section Retire

variable {s : State} (boundary : s.fst.cycle = 0) (live : 2 ≤ s.rd F.MAT_VER_STATUS_LIVE)
  (older : s.rd F.MAT_VER_STATUS_OLDEST ≠ s.rd F.MAT_VER_STATUS_CURRENT)
  (done : s.rd (F.MAT_INFLIGHT_COUNT (s.rd F.MAT_VER_STATUS_OLDEST % 4)) = 0)
include boundary live older done

theorem exec_versionRetire_oldest : exec .versionRetire s = .next (
    let v := s.rd F.MAT_VER_STATUS_OLDEST
    let u := s.dropVer v
    let t := ((u.wr F.MAT_VER_STATUS_LIVE (u.rd F.MAT_VER_STATUS_LIVE - 1)).wr F.MAT_VER_STATUS_OLDEST ((v + 1) % 65536)).wr
      F.MAT_VER_STATUS_SLOT_CLEARING 1
    (t.raise F.MAT_INT_STATUS_RETIRED).startSettle ((v + 1) % 65536)) := by
  rw [exec_versionRetire, execVersionRetire]
  exact if_pos ⟨boundary, live, older, done⟩

/-- Beside the counts in registers a retirement changes the list of versions and the slots to clear. -/
theorem exec_versionRetire_changes :
    ∃ t, exec .versionRetire s = .next t ∧ t.path.clearing = s.path.clearing ++ [s.rd F.MAT_VER_STATUS_OLDEST % 4] ∧
      t.path.versions = Map.erase s.path.versions (s.rd F.MAT_VER_STATUS_OLDEST % 4) ∧ t.eng = s.eng ∧ t.funcs = s.funcs := by
  refine ⟨_, exec_versionRetire_oldest boundary live older done, ?_, ?_, ?_, ?_⟩
  · rw [State.startSettle_path, State.raise_path, State.wr_path, State.wr_path, State.wr_path, State.dropVer, State.setReg_path]
  · rw [State.startSettle_path, State.raise_path, State.wr_path, State.wr_path, State.wr_path, State.dropVer, State.setReg_path]
  · rw [State.startSettle_eng, State.raise_eng, State.wr_eng, State.wr_eng, State.wr_eng, State.dropVer, State.setReg_eng]
  · rw [State.startSettle_funcs, State.raise_funcs, State.wr_funcs, State.wr_funcs, State.wr_funcs, State.dropVer, State.setReg_funcs]

end Retire

theorem exec_settleComplete_first {m : Nat} {l : List Nat} {s : State} (settling : s.path.settling = m :: l) :
    exec .settleComplete s = .next (({ s with path := { s.path with
      tables := Map.mapVals s.path.tables {} (fun _ t => { t with entries := settleEntries m t.entries }), settling := l } }.wrB
        F.MAT_VER_STATUS_SETTLING (!l.isEmpty)).raise F.MAT_INT_STATUS_SETTLED) := by
  simp only [exec_settleComplete, execSettleComplete, settling]

theorem exec_tcamSlotClearComplete_first {k : Nat} {l : List Nat} {s : State} (clearing : s.path.clearing = k :: l) :
    exec .tcamSlotClearComplete s = .next (({ s with path := { s.path with clearing := l } }.tcamSlots (fun m => clearBit m k)).wrB
      F.MAT_VER_STATUS_SLOT_CLEARING (!l.isEmpty)) := by
  simp only [exec_tcamSlotClearComplete, execTcamSlotClearComplete, clearing]

/-! The statement -/

/-- Settles O26: each command by the lemma of its circumstances above; the table that TABLE_CREATE makes is that of
`State.exactCreated`. -/
theorem rulesetCommands : Obligations.RulesetCommands := by
  unfold Obligations.RulesetCommands
  refine ⟨fun f c s checked => ⟨exec_rulesetOpen_busy checked, exec_rulesetOpen_windowFull checked, exec_rulesetOpen_first checked⟩,
    fun f c s cur read closed => ⟨exec_rulesetStage_notOpen cur read closed, exec_tableCreate_notOpen cur read closed⟩,
    fun f c s object checked => exec_rulesetStage_tcamClear object checked, ?table, fun f c s checked => exec_rulesetAbort_checked checked,
    fun f c s t verified isOpen passes => exec_rulesetCommit_passes verified isOpen passes,
    fun q s waits between => exec_rulesetCurrent_between waits between,
    fun q s waits boundary live => exec_rulesetCurrent_boundary waits boundary live, fun s current => exec_versionRetire_current current,
    fun s boundary live older done => exec_versionRetire_changes boundary live older done,
    fun m l s settling => exec_settleComplete_first settling, fun k l s clearing => exec_tcamSlotClearComplete_first clearing⟩
  case table =>
    intro f c s object checked l tab kind tail pow unused sram hbm
    refine ⟨s.exactCreated tab l, exec_tableCreate_exact object checked rfl kind tail pow unused sram hbm, ?_, ?_, rfl, rfl⟩ <;>
      rw [State.exactCreated_table]

end Sys2Proof.Machine
end

section
/-! PROOFS. Flow-table and counter instructions of Pyray (R276). First what each instruction comes to for a thread that stands at it, then the
statement, which cites these. -/

namespace Sys2Proof.Machine

open Sys2Proof

/-! What the operations leave: the board, which says whether Lantern steps a thread -/

@[simp] theorem State.later_board (s : State) (g e t r v : Nat) : (s.later g e t r v).board = s.board := by
  unfold State.later
  split <;> rfl

@[simp] theorem State.cacheDrop_board (s : State) (key : List Byte) (i : Nat) : (s.cacheDrop key i).board = s.board := by
  unfold State.cacheDrop
  split <;> rfl

@[simp] theorem State.cacheFill_board (s : State) (key : List Byte) (i : Nat) : (s.cacheFill key i).board = s.board := rfl

@[simp] theorem State.setFlow_board (s : State) (i : Nat) (x : FlowEntry) : (s.setFlow i x).board = s.board := rfl

@[simp] theorem State.ctrAdd_board (s : State) (i n : Nat) : (s.ctrAdd i n).board = s.board := rfl

section Stands

variable {g e t w : Nat} {s : State} (h : s.Stands g e t w)
include h

section Opcode

variable {op : Nat} (stands : iOp w = op) {f : Nat → State → PyRes}
include stands

theorem State.Stands.run_ok {u : State} (res : f w (s.issued g e) = .ok u) (board : u.board = (s.issued g e).board) :
    s.pyRun g e t (fun w => iOp w == op) f = s.past u g e t :=
  State.pyRun_ok h (is := fun w => iOp w == op) (beq_iff_eq.2 stands) res (board.trans (s.issued_board g e))

theorem State.Stands.run_exc {x : Nat} (res : f w (s.issued g e) = .exc x) :
    s.pyRun g e t (fun w => iOp w == op) f = ((s.issued g e).progExc g e t x).stepCheck g e t :=
  State.pyRun_exc h (is := fun w => iOp w == op) (beq_iff_eq.2 stands) res

/-- A result that returns later. -/
theorem State.Stands.run_later {u : State} {v : Nat} (res : f w (s.issued g e) = .ok (u.later g e t (iD w) v))
    (board : u.board = (s.issued g e).board) : s.pyRun g e t (fun w => iOp w == op) f = s.past (u.later g e t (iD w) v) g e t :=
  h.run_ok stands res ((u.later_board ..).trans board)

/-- A result that returns later, where nothing else changes. -/
theorem State.Stands.run_loads {v : Nat} (res : f w (s.issued g e) = .ok ((s.issued g e).later g e t (iD w) v)) :
    s.pyRun g e t (fun w => iOp w == op) f = s.loads g e t w v :=
  h.run_later stands res rfl

end Opcode

/-! FLOOK, FINS and FDEL -/

section Key

variable {key : List Byte} (ref : (s.issued g e).flowRef g e t w 56 = .ok key)
include ref

theorem exec_flook_hit {n : Nat} (op : iOp w = 0x30) (hit : (s.issued g e).flowFind key = some n) :
    exec (.flook g e t) s = .next (s.past (((s.issued g e).cacheFill key n).later g e t (iD w) n) g e t) := by
  rw [exec_flook, execFlook]
  exact congrArg Host.Outcome.next (h.run_later op (by simp only [ref, hit]) (State.cacheFill_board ..))

theorem exec_flook_miss (op : iOp w = 0x30) (miss : (s.issued g e).flowFind key = none) :
    exec (.flook g e t) s = .next (s.loads g e t w ones64) := by
  rw [exec_flook, execFlook]
  exact congrArg Host.Outcome.next (h.run_loads op (by simp only [ref, miss]))

theorem exec_fdel_hit {n : Nat} (op : iOp w = 0x32) (hit : (s.issued g e).flowFind key = some n) :
    exec (.fdel g e t) s = .next (s.past ((((s.issued g e).setFlow n {}).cacheDrop key n).later g e t (iD w) n) g e t) := by
  rw [exec_fdel, execFdel]
  exact congrArg Host.Outcome.next (h.run_later op (by simp only [ref, hit]) ((State.cacheDrop_board ..).trans (State.setFlow_board ..)))

end Key

section Entry

variable {l : List Byte} (op : iOp w = 0x31) (ref : (s.issued g e).flowRef g e t w 128 = .ok l)
include op ref

theorem exec_fins_present {n : Nat} (hit : (s.issued g e).flowFind ((l.drop 8).take 56) = some n) :
    exec (.fins g e t) s = .next (s.loads g e t w (n + 2 ^ 63)) := by
  rw [exec_fins, execFins]
  exact congrArg Host.Outcome.next (h.run_loads op (by simp only [ref, hit]))

/-- Both candidates of the key hold entries of other keys. -/
theorem exec_fins_full (miss : (s.issued g e).flowFind ((l.drop 8).take 56) = none)
    (first : ((s.issued g e).flow (flowCands ((l.drop 8).take 56)).1).valid = true)
    (second : ((s.issued g e).flow (flowCands ((l.drop 8).take 56)).2).valid = true) :
    exec (.fins g e t) s = .next (s.loads g e t w ones64) := by
  rw [exec_fins, execFins]
  exact congrArg Host.Outcome.next (h.run_loads op (by simp [ref, miss, first, second]))

end Entry

/-! FLD, FSTS and CTRADD -/

theorem exec_fld_within (op : iOp w = 0x33) (within : s.gr g e t (iA w) < 33554432) :
    exec (.fld g e t) s =
      .next (s.loads g e t w (leAt ((s.issued g e).flow (s.gr g e t (iA w))).toBytes (8 * (iFn w % 16)) 8)) := by
  have index := s.issued_gr g e g e t (iA w)
  rw [exec_fld, execFld]
  exact congrArg Host.Outcome.next (h.run_loads op (by simp only [index, if_neg (Nat.not_le.2 within)]))

section Fsts

variable (op : iOp w = 0x34)
include op

theorem exec_fsts_within (within : s.gr g e t (iA w) < 33554432) :
    exec (.fsts g e t) s = .next (s.past ((s.issued g e).setFlow (s.gr g e t (iA w))
      { (s.issued g e).flow (s.gr g e t (iA w)) with progState := s.gr g e t (iB w) }) g e t) := by
  have index := s.issued_gr g e g e t (iA w)
  have value := s.issued_gr g e g e t (iB w)
  rw [exec_fsts, execFsts]
  exact congrArg Host.Outcome.next
    (h.run_ok op (by simp only [index, value, if_neg (Nat.not_le.2 within)]) (State.setFlow_board ..))

theorem exec_fsts_beyond (beyond : 33554432 ≤ s.gr g e t (iA w)) :
    exec (.fsts g e t) s = .next (((s.issued g e).progExc g e t 0x13).stepCheck g e t) := by
  have index := s.issued_gr g e g e t (iA w)
  rw [exec_fsts, execFsts]
  exact congrArg Host.Outcome.next (h.run_exc op (by simp only [index, if_pos beyond]))

end Fsts

section Ctradd

variable (op : iOp w = 0x35) (within : s.gr g e t (iA w) < 33554432)
include op within

theorem exec_ctradd_allocated (allocated : (s.issued g e).path.ctrAllocated (s.gr g e t (iA w)) = true) :
    exec (.ctradd g e t) s = .next (s.past ((s.issued g e).ctrAdd (s.gr g e t (iA w)) (s.gr g e t (iB w))) g e t) := by
  have index := s.issued_gr g e g e t (iA w)
  have value := s.issued_gr g e g e t (iB w)
  rw [exec_ctradd, execCtradd]
  exact congrArg Host.Outcome.next
    (h.run_ok op (by simp only [index, value, if_neg (Nat.not_le.2 within), allocated, Bool.not_true, Bool.false_eq_true, if_false])
      (State.ctrAdd_board ..))

theorem exec_ctradd_unallocated (unallocated : (s.issued g e).path.ctrAllocated (s.gr g e t (iA w)) = false) :
    exec (.ctradd g e t) s = .next (((s.issued g e).progExc g e t 0x14).stepCheck g e t) := by
  have index := s.issued_gr g e g e t (iA w)
  rw [exec_ctradd, execCtradd]
  exact congrArg Host.Outcome.next
    (h.run_exc op (by simp only [index, if_neg (Nat.not_le.2 within), unallocated, Bool.not_false, if_true]))

end Ctradd

end Stands

/-! The statement -/

/-- Settles O30: each instruction by the lemma of its circumstances above. -/
theorem pyrayFlowAndCounters : Obligations.PyrayFlowAndCounters := by
  unfold Obligations.PyrayFlowAndCounters
  intro g e t w s h
  exact ⟨fun key n op ref hit => exec_flook_hit h ref op hit, fun key op ref miss => exec_flook_miss h ref op miss,
    fun l n op ref hit => exec_fins_present h op ref hit, fun l op ref miss first second => exec_fins_full h op ref miss first second,
    fun key n op ref hit => exec_fdel_hit h ref op hit, exec_fld_within h, exec_fsts_within h, exec_fsts_beyond h,
    exec_ctradd_allocated h, exec_ctradd_unallocated h⟩

end Sys2Proof.Machine
end

section
/-! PROOFS. Loads, stores, packet loads and shared registers of Pyray (R219-R221, R262-R269, R275). First what each kind of instruction
comes to for a thread that stands at it, then the statement, which cites these. -/

namespace Sys2Proof.Machine

open Sys2Proof

/-! What the operations leave -/

@[simp] theorem State.updThr_board (s : State) (g e t : Nat) (f : Thread → Thread) : (s.updThr g e t f).board = s.board := rfl

@[simp] theorem State.setGr_board (s : State) (g e t r v : Nat) : (s.setGr g e t r v).board = s.board := rfl

@[simp] theorem State.memPut_board (s : State) (r : Bool × Nat) (l : List Byte) : (s.memPut r l).board = s.board := by
  unfold State.memPut
  split <;> rfl

/-- Counting an instruction leaves the engines. -/
@[simp] theorem State.issued_engn (s : State) (g e a b : Nat) : (s.issued g e).engn a b = s.engn a b :=
  congrArg (fun x : Engines => Map.get x.eng {} (engKey a b)) (s.stat_eng (R.PE_ISSUE_CNT g e))

section Stands

variable {g e t w : Nat} {s : State} (h : s.Stands g e t w)
include h

section Opcode

variable {op : Nat} (stands : iOp w = op)
include stands

section Access

variable {size off : Nat → Nat} (big : Bool)

theorem State.Stands.pyLoad_ok {r : Bool × Nat}
    (ref : (s.issued g e).memRef g e t ((s.gr g e t (iA w) + off w) % 2 ^ 64) (size w) false = .ok r) :
    s.pyLoad g e t op size off big = s.loads g e t w
      (if big then beNat ((s.issued g e).memBytes r (size w)) else leNat ((s.issued g e).memBytes r (size w))) := by
  have gr := s.issued_gr g e g e t
  exact h.run_loads stands (by simp only [gr, ref])

theorem State.Stands.pyLoad_error {x : Nat}
    (ref : (s.issued g e).memRef g e t ((s.gr g e t (iA w) + off w) % 2 ^ 64) (size w) false = .error x) :
    s.pyLoad g e t op size off big = ((s.issued g e).progExc g e t x).stepCheck g e t := by
  have gr := s.issued_gr g e g e t
  exact h.run_exc stands (by simp only [gr, ref])

theorem State.Stands.pyStore_ok {r : Bool × Nat}
    (ref : (s.issued g e).memRef g e t ((s.gr g e t (iA w) + off w) % 2 ^ 64) (size w) true = .ok r) :
    s.pyStore g e t op size off big = s.past ((s.issued g e).memPut r
      (if big then beBytes (s.gr g e t (iD w)) (size w) else leBytes (s.gr g e t (iD w)) (size w))) g e t := by
  have gr := s.issued_gr g e g e t
  exact h.run_ok stands (by simp only [gr, ref]) (State.memPut_board ..)

theorem State.Stands.pyStore_error {x : Nat}
    (ref : (s.issued g e).memRef g e t ((s.gr g e t (iA w) + off w) % 2 ^ 64) (size w) true = .error x) :
    s.pyStore g e t op size off big = ((s.issued g e).progExc g e t x).stepCheck g e t := by
  have gr := s.issued_gr g e g e t
  exact h.run_exc stands (by simp only [gr, ref])

end Access

/-- A shared register takes f of its old value and g[A], g[D] the old value (R269). -/
theorem State.Stands.pyShared_eq (f : Nat → Nat → Nat) :
    s.pyShared g e t op f =
      let old := (Map.get (s.engn g e).shared 0 (iFn w % 16)).toNat
      s.past (((s.issued g e).setEngn g e { s.engn g e with
        shared := Map.set (s.engn g e).shared 0 (iFn w % 16) (BitVec.ofNat 64 (f old (s.gr g e t (iA w)))) }).setGr g e t (iD w) old) g e t := by
  have gr := s.issued_gr g e g e t
  have engine := s.issued_engn g e g e
  exact h.run_ok stands (by simp only [gr, engine]) ((State.setGr_board ..).trans (State.setEngn_board ..))

end Opcode

section Pld

variable {p : Pkt} (op : iOp w = 0x1A) (runs : (s.issued g e).noPacket g e t = false) (pkt : (s.thr g e t).pkt = some p)
include op runs pkt

theorem exec_pld_within (within : (s.gr g e t (iA w) + off64 w) % 2 ^ 64 + iN w ≤ p.data.length) :
    exec (.pld g e t) s =
      .next (s.loads g e t w (beNat ((p.data.drop ((s.gr g e t (iA w) + off64 w) % 2 ^ 64)).take (iN w)))) := by
  have base := s.issued_gr g e g e t (iA w)
  have thread := s.issued_thr g e g e t
  rw [exec_pld, execPld]
  exact congrArg Host.Outcome.next (h.run_loads op (by
    simp only [runs, Bool.false_eq_true, if_false, thread, pkt, base, if_neg (Nat.not_lt.2 within)]))

theorem exec_pld_beyond (beyond : p.data.length < (s.gr g e t (iA w) + off64 w) % 2 ^ 64 + iN w) :
    exec (.pld g e t) s = .next (((s.issued g e).progExc g e t 0x05).stepCheck g e t) := by
  have base := s.issued_gr g e g e t (iA w)
  have thread := s.issued_thr g e g e t
  rw [exec_pld, execPld]
  exact congrArg Host.Outcome.next (h.run_exc op (by
    simp only [runs, Bool.false_eq_true, if_false, thread, pkt, base, if_pos beyond]))

end Pld

end Stands

/-! The statement -/

/-- Settles O29: a load or store by what its reference answers (`State.Stands.pyLoad_ok`, `State.Stands.pyStore_ok` and their
errors), PLD by the end of its packet, an exchange by `State.Stands.pyShared_eq`. -/
theorem pyrayMemory : Obligations.PyrayMemory := by
  unfold Obligations.PyrayMemory
  intro g e t w s h
  exact ⟨fun _ op ref => congrArg Host.Outcome.next (h.pyLoad_ok op false ref),
    fun _ op ref => congrArg Host.Outcome.next (h.pyLoad_ok op false ref),
    fun _ op ref => congrArg Host.Outcome.next (h.pyLoad_ok op false ref),
    fun _ op ref => congrArg Host.Outcome.next (h.pyLoad_ok op false ref),
    fun _ op ref => congrArg Host.Outcome.next (h.pyLoad_ok op true ref),
    fun _ op ref => congrArg Host.Outcome.next (h.pyStore_ok op false ref),
    fun _ op ref => congrArg Host.Outcome.next (h.pyStore_ok op false ref),
    fun _ op ref => congrArg Host.Outcome.next (h.pyStore_ok op false ref),
    fun _ op ref => congrArg Host.Outcome.next (h.pyStore_ok op false ref),
    fun _ op ref => congrArg Host.Outcome.next (h.pyStore_ok op true ref),
    fun _ op ref => congrArg Host.Outcome.next (h.pyLoad_error op false ref),
    fun _ op ref => congrArg Host.Outcome.next (h.pyStore_error op false ref),
    fun _ op _ runs pkt => ⟨exec_pld_within h op runs pkt, exec_pld_beyond h op runs pkt⟩,
    fun op => congrArg Host.Outcome.next (h.pyShared_eq op (fun o a => o + a)),
    fun op => congrArg Host.Outcome.next (h.pyShared_eq op (fun _ a => a))⟩

end Sys2Proof.Machine
end

section
/-! PROOFS. Events, sumps and locks of Pyray (R226-R238, R278). First what each instruction comes to for a thread that stands at it, then
the statement, which cites these. -/

namespace Sys2Proof.Machine

open Sys2Proof

/-! What the operations leave: the board, which says whether Lantern steps a thread -/

@[simp] theorem State.waitOn_board (s : State) (g e t kind : Nat) : (s.waitOn g e t kind).board = s.board :=
  (State.wr_board ..).trans ((State.wr_board ..).trans (State.updThr_board ..))

@[simp] theorem State.setEvents_board (s : State) (g e mask : Nat) : (s.setEvents g e mask).board = s.board :=
  State.wr_board ..

@[simp] theorem State.clearEvents_board (s : State) (g e mask : Nat) : (s.clearEvents g e mask).board = s.board := by
  refine (State.wr_board ..).trans ?_
  split <;> rfl

@[simp] theorem State.sumpStore_board (s : State) (k unit data tag : Nat) : (s.sumpStore k unit data tag).board = s.board := by
  unfold State.sumpStore
  dsimp only
  rw [apply_ite State.board]
  repeat rw [State.wr_board]
  rw [ite_self]

@[simp] theorem State.lockTake_board (s : State) (g n unit : Nat) : (s.lockTake g n unit).board = s.board :=
  (State.wr_board ..).trans (State.setGal_board ..)

@[simp] theorem State.lockFree_board (s : State) (g n : Nat) : (s.lockFree g n).board = s.board :=
  (State.wr_board ..).trans (State.setGal_board ..)

section Stands

variable {g e t w : Nat} {s : State} (h : s.Stands g e t w)
include h

/-! Results that end a step of Lantern where one is under way -/

section Result

variable {is : Nat → Bool} (hi : is w = true) {f : Nat → State → PyRes} {u : State}
include hi

theorem State.Stands.run_okCheck (res : f w (s.issued g e) = .ok u) : s.pyRun g e t is f = (s.past u g e t).stepCheck g e t := by
  rw [State.pyRun_stands h hi, res]

theorem State.Stands.run_stayCheck (res : f w (s.issued g e) = .stay u) : s.pyRun g e t is f = u.stepCheck g e t := by
  rw [State.pyRun_stands h hi, res]

end Result

/-! SIGNAL, WAIT and CLREV -/

section Signal

variable (op : iOp w = 0x29)
include op

/-- Position 31 names the thread's own engine (R235). -/
theorem exec_signal_own (own : iFn w = 31) :
    exec (.signal g e t) s = .next (s.past ((s.issued g e).setEvents g e (s.gr g e t (iA w) % 2 ^ 24)) g e t) := by
  have gr := s.issued_gr g e g e t
  rw [exec_signal, execSignal]
  exact congrArg Host.Outcome.next (h.run_ok op (by simp only [own, Nat.reduceMod, if_true, gr]) (State.setEvents_board ..))

theorem exec_signal_position {x : Nat} (position : iFn w ≤ 15) (engine : (s.issued g e).engAt g (iFn w) = some x) :
    exec (.signal g e t) s = .next (s.past ((s.issued g e).setEvents g x (s.gr g e t (iA w) % 2 ^ 24)) g e t) := by
  have index : iFn w % 32 = iFn w := Nat.mod_eq_of_lt (by omega)
  have other : iFn w ≠ 31 := by omega
  have gr := s.issued_gr g e g e t
  rw [exec_signal, execSignal]
  exact congrArg Host.Outcome.next (h.run_ok op (by simp only [index, if_neg other, engine, gr]) (State.setEvents_board ..))

end Signal

section Wait

variable (op : iOp w = 0x2A) (noLock : (s.thr g e t).lock = none)
include op noLock

theorem exec_wait_hit (mask : s.gr g e t (iA w) % 2 ^ 25 ≠ 0) (hit : (s.issued g e).events g e &&& s.gr g e t (iA w) % 2 ^ 25 ≠ 0) :
    exec (.wait g e t) s = .next (
      let u := s.issued g e
      let hits := u.events g e &&& s.gr g e t (iA w) % 2 ^ 25
      s.past ((if iFn w % 2 = 1 then u.clearEvents g e hits else u).setGr g e t (iD w) hits) g e t) := by
  have gr := s.issued_gr g e g e t
  have thread := s.issued_thr g e g e t
  rw [exec_wait, execWait]
  refine congrArg Host.Outcome.next (h.run_ok op ?_ ?_)
  · simp only [thread, gr, noLock, Option.isSome_none, Bool.false_eq_true, if_false, if_neg mask, if_pos hit,
      beq_iff_eq]
  · refine (State.setGr_board ..).trans ?_
    split
    · exact State.clearEvents_board ..
    · rfl

theorem exec_wait_miss (mask : s.gr g e t (iA w) % 2 ^ 25 ≠ 0) (miss : (s.issued g e).events g e &&& s.gr g e t (iA w) % 2 ^ 25 = 0) :
    exec (.wait g e t) s = .next (((s.issued g e).updThr g e t (fun x => { x with
      waitMask := s.gr g e t (iA w) % 2 ^ 25, waitCons := iFn w % 2 == 1, waitDest := iD w })).waitOn g e t 1) := by
  have gr := s.issued_gr g e g e t
  have thread := s.issued_thr g e g e t
  rw [exec_wait, execWait]
  refine congrArg Host.Outcome.next (State.pyRun_stay h (is := fun w => iOp w == 0x2A) (beq_iff_eq.2 op) ?_
    ((State.waitOn_board ..).trans ((State.updThr_board ..).trans (s.issued_board g e))))
  simp only [thread, gr, noLock, Option.isSome_none, Bool.false_eq_true, if_false, if_neg mask, miss, ne_eq,
    not_true_eq_false]

theorem exec_wait_noMask (noMask : s.gr g e t (iA w) % 2 ^ 25 = 0) :
    exec (.wait g e t) s = .next (((s.issued g e).progExc g e t 0x11).stepCheck g e t) := by
  have gr := s.issued_gr g e g e t
  have thread := s.issued_thr g e g e t
  rw [exec_wait, execWait]
  exact congrArg Host.Outcome.next (h.run_exc op (by
    simp only [thread, noLock, Option.isSome_none, Bool.false_eq_true, if_false, gr, if_pos noMask]))

end Wait

theorem exec_clrev_clears (op : iOp w = 0x2B) :
    exec (.clrev g e t) s = .next (s.past ((s.issued g e).clearEvents g e (s.gr g e t (iA w) % 2 ^ 25)) g e t) := by
  have gr := s.issued_gr g e g e t
  rw [exec_clrev, execClrev]
  exact congrArg Host.Outcome.next (h.run_ok op (by simp only [gr]) (State.clearEvents_board ..))

/-! SPUT and SGET -/

/-- A word that neither ends a packet beyond 511 words nor waits is stored (R228, R230). -/
theorem exec_sput_stores {k : Nat} (op : iOp w = 0x2C) (sump : sumpKey g (iSid w) = some k) (tag : iTag w = 1 ∨ iTag w = 2)
    (fits : (s.issued g e).sumpPartial k + 1 < 511) (ready : (s.issued g e).putWaits k (unitThread g e t) = false) :
    exec (.sput g e t) s =
      .next (s.past ((s.issued g e).sumpStore k (unitThread g e t) (s.gr g e t (iA w)) (iTag w)) g e t) := by
  have short : ¬ 511 ≤ (s.issued g e).sumpPartial k + 1 := by omega
  have defined : ¬ (iTag w = 0 ∨ iTag w = 3) := by omega
  have gr := s.issued_gr g e g e t
  rw [exec_sput, execSput]
  refine congrArg Host.Outcome.next (h.run_ok op ?_ (State.sumpStore_board ..))
  simp only [sump, gr, short, and_false, if_false, if_neg defined, ready, Bool.false_eq_true]

theorem exec_sput_reserved (op : iOp w = 0x2C) (reserved : sumpKey g (iSid w) = none) :
    exec (.sput g e t) s = .next (((s.issued g e).progExc g e t 0x06).stepCheck g e t) := by
  rw [exec_sput, execSput]
  exact congrArg Host.Outcome.next (h.run_exc op (by simp only [reserved]))

section Sget

variable {k : Nat} (op : iOp w = 0x2D) (sump : sumpKey g (iSid w) = some k)
include op sump

theorem exec_sget_takes (ready : (s.issued g e).getWaits k (unitThread g e t) = false) :
    exec (.sget g e t) s = .next (
      let r := (s.issued g e).sumpTake k (unitThread g e t)
      (s.past (r.2.2.getResult g e t (iD w) (iA w) r.1 r.2.1) g e t).stepCheck g e t) := by
  rw [exec_sget, execSget]
  exact congrArg Host.Outcome.next (h.run_okCheck (by simp [op]) (by simp [sump, ready]))

/-- With NB set a read that would wait gives 0 and tag 0 at once (R232). -/
theorem exec_sget_nonBlocking (waits : (s.issued g e).getWaits k (unitThread g e t) = true) (nb : iNb w = 1) :
    exec (.sget g e t) s =
      .next ((s.past ((s.issued g e).getResult g e t (iD w) (iA w) 0 0) g e t).stepCheck g e t) := by
  rw [exec_sget, execSget]
  exact congrArg Host.Outcome.next (h.run_okCheck (by simp [op]) (by simp [sump, waits, nb]))

end Sget

/-! LOCK and UNLOCK -/

theorem exec_lock_free (op : iOp w = 0x2E) (noLock : (s.thr g e t).lock = none)
    (free : (s.issued g e).lockHeld g (iImm w % 64) = false)
    (unasked : Map.get ((s.issued g e).gal g).lockWait [] (iImm w % 64) = []) :
    exec (.lock g e t) s = .next (s.past (((s.issued g e).lockTake g (iImm w % 64) (unitThread g e t)).updThr g e t
      (fun y => { y with lock := some (iImm w % 64) })) g e t) := by
  have thread := s.issued_thr g e g e t
  rw [exec_lock, execLock]
  exact congrArg Host.Outcome.next (h.run_ok op
    (by simp only [thread, noLock, Option.isSome_none, Bool.false_eq_true, if_false, free, unasked, List.isEmpty_nil, and_self, if_true])
    ((State.updThr_board ..).trans (State.lockTake_board ..)))

theorem exec_unlock_held {n : Nat} (op : iOp w = 0x2F) (holds : (s.thr g e t).lock = some n) :
    exec (.unlock g e t) s =
      .next (s.past (((s.issued g e).lockFree g n).updThr g e t (fun y => { y with lock := none })) g e t) := by
  have thread := s.issued_thr g e g e t
  rw [exec_unlock, execUnlock]
  exact congrArg Host.Outcome.next (h.run_ok op (by simp only [thread, holds])
    ((State.updThr_board ..).trans (State.lockFree_board ..)))

theorem exec_unlock_none (op : iOp w = 0x2F) (noLock : (s.thr g e t).lock = none) :
    exec (.unlock g e t) s = .next (((s.issued g e).progExc g e t 0x0D).stepCheck g e t) := by
  have thread := s.issued_thr g e g e t
  rw [exec_unlock, execUnlock]
  exact congrArg Host.Outcome.next (h.run_exc op (by simp only [thread, noLock]))

end Stands

/-! The statement -/

/-- Settles O32: each instruction by the lemma of its circumstances above. -/
theorem pyrayEventsSumpsLocks : Obligations.PyrayEventsSumpsLocks := by
  unfold Obligations.PyrayEventsSumpsLocks
  intro g e t w s h
  exact ⟨exec_signal_own h, fun _ op => exec_signal_position h op, exec_wait_hit h, exec_wait_miss h, exec_wait_noMask h,
    exec_clrev_clears h, fun _ => exec_sput_stores h, exec_sput_reserved h, fun _ => exec_sget_takes h,
    fun _ => exec_sget_nonBlocking h, exec_lock_free h, fun _ => exec_unlock_held h, exec_unlock_none h⟩

end Sys2Proof.Machine
end

section
/-! PROOFS. Endings of Pyray (R208, R279). First what END comes to for a thread that stands at it, then the statement, which cites
these. -/

namespace Sys2Proof.Machine

open Sys2Proof

/-- Thread t has ended packet p with function code k: the dispatcher has the packet as the working buffer holds it, the thread is idle
with empty stacks, and the packet is counted (R208, R279). -/
def State.handsOver (s : State) (g e t : Nat) (p : Pkt) (k : Nat) : State :=
  let q := s.takeEnd g e t p
  let x := (((q.2.dropRun g e t).updThr g e t (fun x => { x with loops := [], rets := [] })).setTs g e t tIdle).stat (R.PE_PKT_CNT g e)
  x.setGal g { x.gal g with ended := (x.gal g).ended ++ [{ pkt := q.1, ending := k, unit := unitThread g e t }] }

/-- The control word with HDR_START and HDR_END in a thread's working buffer (R265). -/
def State.hdrWord (s : State) (g e t : Nat) : Nat := Mem.le s.eng.dmem (dmemAt g e (s.bufAt g e t) + 0x58) 8

section Stands

variable {g e t w fn : Nat} {s : State} (h : s.Stands g e t w) (op : iOp w = 0x38) (kind : iFn w = fn)
include h op kind

/-- END that nothing forbids. HANDOFF and RECIRC alone want the header in order. -/
theorem State.Stands.pyEnd_done {p : Pkt} (noLock : ((s.issued g e).thr g e t).lock = none)
    (noPut : (s.issued g e).sumpClaims (unitThread g e t) true = []) (noGet : (s.issued g e).sumpClaims (unitThread g e t) false = [])
    (runs : (s.issued g e).noPacket g e t = false) (pkt : ((s.issued g e).thr g e t).pkt = some p)
    (live : ((s.issued g e).thr g e t).gone = false)
    (header : fn ≤ 1 → bitsOf ((s.issued g e).hdrWord g e t) 0 9 ≤ bitsOf ((s.issued g e).hdrWord g e t) 9 9 ∧
      bitsOf ((s.issued g e).hdrWord g e t) 9 9 ≤ 384) :
    s.pyEnd g e t fn = ((s.issued g e).handsOver g e t p fn).stepCheck g e t := by
  have inOrder : ¬ (fn ≤ 1 ∧ (bitsOf ((s.issued g e).hdrWord g e t) 9 9 < bitsOf ((s.issued g e).hdrWord g e t) 0 9 ∨
      384 < bitsOf ((s.issued g e).hdrWord g e t) 9 9)) := fun ⟨code, bad⟩ =>
    bad.elim (Nat.not_lt.2 (header code).1) (Nat.not_lt.2 (header code).2)
  unfold State.hdrWord at inOrder
  refine h.run_stayCheck (by simp [op, kind]) ?_
  simp only [noLock, Option.isSome_none, Bool.false_eq_true, if_false, noPut, noGet, List.isEmpty_nil, Bool.not_true, Bool.or_self, runs, pkt,
    if_neg inOrder, live]
  rfl

theorem State.Stands.pyEnd_locked {n : Nat} (holds : ((s.issued g e).thr g e t).lock = some n) :
    s.pyEnd g e t fn = ((s.issued g e).progExc g e t 0x0E).stepCheck g e t :=
  State.pyRun_exc h (by simp [op, kind]) (by simp only [holds, Option.isSome_some, if_true])

end Stands

/-! The statement -/

/-- Settles O33: the four kinds by `State.Stands.pyEnd_done`, a held lock by `State.Stands.pyEnd_locked`. -/
theorem pyrayEndings : Obligations.PyrayEndings := by
  unfold Obligations.PyrayEndings
  intro g e t w s p h op u runs pkt live noPut noGet hd q x ends
  have done {fn : Nat} (noLock : (u.thr g e t).lock = none) (kind : iFn w = fn)
      (header : fn ≤ 1 → bitsOf hd 0 9 ≤ bitsOf hd 9 9 ∧ bitsOf hd 9 9 ≤ 384) : s.pyEnd g e t fn = ends fn :=
    h.pyEnd_done op kind noLock noPut noGet runs pkt live header
  exact ⟨fun noLock => ⟨fun kind first last => congrArg Host.Outcome.next (done noLock kind fun _ => ⟨first, last⟩),
      fun kind first last => congrArg Host.Outcome.next (done noLock kind fun _ => ⟨first, last⟩),
      fun kind => congrArg Host.Outcome.next (done noLock kind fun code => absurd code (by decide)),
      fun kind => congrArg Host.Outcome.next (done noLock kind fun code => absurd code (by decide))⟩,
    fun n holds kind => congrArg Host.Outcome.next (h.pyEnd_locked op kind holds)⟩

end Sys2Proof.Machine
end

section
/-! PROOFS. Special registers, thread control and breakpoints of Pyray (R208, R209, R280, R281, R285). First what each instruction comes to
for a thread that stands at it, then the statement, which cites these. -/

namespace Sys2Proof.Machine

open Sys2Proof

/-- The special registers are numbered up to 0x10 (R281). -/
theorem State.special_unlisted (s : State) (g e t : Nat) {n : Nat} (unlisted : 0x10 < n) : s.special g e t n = none := by
  have ne : ∀ k ≤ 0x10, n ≠ k := by omega
  simp [State.special, ne]

/-- A thread that returns from SUPERVISOR: its stacks and the wait it was taken from are as they were (R285). -/
def Thread.returned (x : Thread) : Thread :=
  { x with
    loops := x.savedLoops, rets := x.savedRets, savedLoops := [], savedRets := [], beforeWait := x.savedFrom,
    waitMask := x.savedMask, waitCons := x.savedCons, waitDest := x.savedDest, sump := x.savedSump, savedSump := none }

/-- A thread has returned from SUPERVISOR to its PC and its state before, but for WAIT_KIND (R208, R285). -/
def State.supReturned (s : State) (g e t : Nat) : State :=
  (((s.setThr g e t (s.thr g e t).returned).wr (F.PE_SUP_SUP_ACTIVE g e) 0).setPc g e t (s.thr g e t).savedPc).setTs g e t
    (s.thr g e t).before

theorem State.supReturned_thr (s : State) (g e t : Nat) : (s.supReturned g e t).thr g e t = (s.thr g e t).returned := Map.get_set_self ..

section Stands

variable {g e t w : Nat} {s : State} (h : s.Stands g e t w)
include h

theorem State.Stands.stepCheck_past {u : State} (board : u.board = (s.issued g e).board) :
    (s.past u g e t).stepCheck g e t = s.past u g e t := by
  have steps := h.steps
  exact State.stepCheck_none (by rw [State.past_board, board, State.issued_board, steps]) g e t

/-! MFSR and MTSR -/

section Mfsr

variable (op : iOp w = 0x3C)
include op

theorem exec_mfsr_unit (number : iImm w % 256 = 0) : exec (.mfsr g e t) s = .next (s.gives g e t w (unitThread g e t % 2 ^ 64)) := by
  rw [exec_mfsr, execMfsr]
  exact congrArg Host.Outcome.next (h.run_ok op (by simp only [number, State.special, if_true]) (State.setGr_board ..))

theorem exec_mfsr_unlisted (unlisted : 0x10 < iImm w % 256) :
    exec (.mfsr g e t) s = .next (((s.issued g e).progExc g e t 0x02).stepCheck g e t) := by
  rw [exec_mfsr, execMfsr]
  exact congrArg Host.Outcome.next (h.run_exc op (by simp only [State.special_unlisted _ _ _ _ unlisted]))

end Mfsr

section Mtsr

variable (op : iOp w = 0x3D)
include op

theorem exec_mtsr_internal (zero : t = 0) (number : iImm w % 256 = 0x0E) :
    exec (.mtsr g e t) s =
      .next ((s.past ((s.issued g e).wr (F.PE_EVT_INTERNAL_INTERNAL g e) (s.gr g e t (iA w))) g e t).stepCheck g e t) := by
  have gr := s.issued_gr g e g e t
  rw [exec_mtsr, execMtsr]
  exact congrArg Host.Outcome.next (h.run_okCheck (by simp [op]) (by
    simp only [if_neg (not_not.2 zero), number, Nat.reduceEqDiff, if_false, if_true, gr]))

theorem exec_mtsr_other (other : t ≠ 0) :
    exec (.mtsr g e t) s = .next (((s.issued g e).progExc g e t 0x02).stepCheck g e t) := by
  rw [exec_mtsr, execMtsr]
  exact congrArg Host.Outcome.next (h.run_exc op (if_pos other))

end Mtsr

/-! Thread control -/

section Thr

variable {fn : Nat} {f : Nat → State → PyRes} (op : iOp w = 0x3E) (kind : iFn w = fn)
include op kind

theorem State.Stands.pyThr_other (other : t ≠ 0) : s.pyThr g e t fn f = ((s.issued g e).progExc g e t 0x02).stepCheck g e t :=
  State.pyRun_exc h (by simp [op, kind]) (if_pos other)

variable (zero : t = 0)
include zero

theorem State.Stands.pyThr_ok {u : State} (res : f w (s.issued g e) = .ok u) :
    s.pyThr g e t fn f = (s.past u g e t).stepCheck g e t :=
  h.run_okCheck (by simp [op, kind]) ((if_neg (not_not.2 zero)).trans res)

theorem State.Stands.pyThr_stay {u : State} (res : f w (s.issued g e) = .stay u) : s.pyThr g e t fn f = u.stepCheck g e t :=
  h.run_stayCheck (by simp [op, kind]) ((if_neg (not_not.2 zero)).trans res)

theorem State.Stands.pyThr_exc {x : Nat} (res : f w (s.issued g e) = .exc x) :
    s.pyThr g e t fn f = ((s.issued g e).progExc g e t x).stepCheck g e t :=
  State.pyRun_exc h (by simp [op, kind]) ((if_neg (not_not.2 zero)).trans res)

end Thr

section Control

variable (op : iOp w = 0x3E)
include op

theorem exec_getg_reads (kind : iFn w = 0) (zero : t = 0) :
    exec (.getg g e t) s = .next (s.gives g e t w (s.gr g e (iT w) (iB w))) := by
  have gr := s.issued_gr g e g e (iT w)
  exact congrArg Host.Outcome.next ((h.pyThr_ok op kind zero (by rw [gr])).trans (h.stepCheck_past (State.setGr_board ..)))

theorem exec_putg_writes (kind : iFn w = 1) (zero : t = 0)
    (stopped : (s.issued g e).ts g e (iT w) = tHeld ∨ (s.issued g e).ts g e (iT w) = tFaulted) :
    exec (.putg g e t) s =
      .next ((s.past ((s.issued g e).setGr g e (iT w) (iD w) (s.gr g e t (iA w))) g e t).stepCheck g e t) := by
  have gr := s.issued_gr g e g e t
  exact congrArg Host.Outcome.next (h.pyThr_ok op kind zero (by rw [if_pos stopped, gr]))

/-- RELEASE without thread 0's own bit. -/
theorem exec_release_others (kind : iFn w = 2) (zero : t = 0) (notOwn : bitOf (s.gr g e t (iA w)) 0 = false) :
    exec (.release g e t) s = .next ((s.past ((s.issued g e).each (List.range 8) (fun y k =>
      if bitOf (s.gr g e t (iA w)) k ∧ y.ts g e k = tHeld then y.setTs g e k tIdle else y)) g e t).stepCheck g e t) := by
  have gr := s.issued_gr g e g e t
  exact congrArg Host.Outcome.next (h.pyThr_ok op kind zero (by simp only [gr, notOwn, Bool.false_eq_true, false_and, if_false]))

theorem exec_restart_faulted (kind : iFn w = 3) (zero : t = 0) (faulted : (s.issued g e).ts g e (iT w) = tFaulted) :
    exec (.restart g e t) s = .next ((s.past ((((s.issued g e).setTs g e (iT w) tIdle).wr (F.PE_FAULT_VALID g e (iT w)) 0).updThr g e (iT w)
      (fun x => { x with loops := [], rets := [] })) g e t).stepCheck g e t) :=
  congrArg Host.Outcome.next (h.pyThr_ok op kind zero (if_pos faulted))

section Rets

variable (kind : iFn w = 4) (zero : t = 0)
include kind zero

theorem exec_rets_outside (outside : (s.issued g e).rd (F.PE_SUP_SUP_ACTIVE g e) = 0) :
    exec (.rets g e t) s = .next (((s.issued g e).progExc g e t 0x02).stepCheck g e t) := by
  have inactive := State.rdB_of_zero outside
  exact congrArg Host.Outcome.next (h.pyThr_exc op kind zero (if_neg (by simp [inactive])))

theorem exec_rets_returns (active : (s.issued g e).rd (F.PE_SUP_SUP_ACTIVE g e) = 1) :
    exec (.rets g e t) s = .next ((((s.issued g e).supReturned g e t).wr (F.PE_THREAD_WAIT_KIND g e t)
      (if ((s.issued g e).thr g e t).before = tWaiting then ((s.issued g e).thr g e t).savedKind else 0)).stepCheck g e t) :=
  congrArg Host.Outcome.next (h.pyThr_stay op kind zero (if_pos (State.rdB_of_one active)))

theorem exec_rets_idle (active : (s.issued g e).rd (F.PE_SUP_SUP_ACTIVE g e) = 1) (idle : ((s.issued g e).thr g e t).before = tIdle) :
    exec (.rets g e t) s =
      .next ((((s.issued g e).supReturned g e t).wr (F.PE_THREAD_WAIT_KIND g e t) 0).stepCheck g e t) := by
  rw [exec_rets_returns h op kind zero active, idle, if_neg (by decide)]

end Rets

end Control

/-! BKPT -/

section Bkpt

variable (op : iOp w = 0x3F)
include op

theorem exec_bkpt_armed (armed : (s.engn g e).armed = true) :
    exec (.bkpt g e t) s =
      .next ((((s.issued g e).finish g e t ((s.issued g e).pc g e t)).haltEngine g e).stepCheck g e t) := by
  have engine := s.issued_engn g e g e
  rw [exec_bkpt, execBkpt]
  exact congrArg Host.Outcome.next (h.run_stayCheck (by simp [op]) (by simp only [engine, armed, if_true]))

theorem exec_bkpt_unarmed (unarmed : (s.engn g e).armed = false) :
    exec (.bkpt g e t) s = .next (((s.issued g e).progExc g e t 0x17).stepCheck g e t) := by
  have engine := s.issued_engn g e g e
  rw [exec_bkpt, execBkpt]
  exact congrArg Host.Outcome.next (h.run_exc op (by simp only [engine, unarmed, Bool.false_eq_true, if_false]))

end Bkpt

end Stands

/-! The statement -/

/-- Settles O34: each instruction by the lemma of its circumstances above; the state that RETS leaves is `State.supReturned`. -/
theorem pyrayThreadControl : Obligations.PyrayThreadControl := by
  unfold Obligations.PyrayThreadControl
  intro g e t w s h
  refine ⟨exec_mfsr_unit h, exec_mfsr_unlisted h, exec_mtsr_internal h, exec_mtsr_other h, exec_getg_reads h,
    fun op kind other => congrArg Host.Outcome.next (h.pyThr_other op kind other), exec_putg_writes h, exec_release_others h,
    exec_restart_faulted h, exec_rets_outside h, fun op kind zero active idle => ?_, exec_bkpt_armed h, exec_bkpt_unarmed h⟩
  have thread := s.issued_thr g e g e t
  have back := (s.issued g e).supReturned_thr g e t
  exact ⟨_, exec_rets_idle h op kind zero active ((congrArg Thread.before thread).trans idle),
    (congrArg Thread.loops back).trans (congrArg Thread.savedLoops thread), (congrArg Thread.rets back).trans (congrArg Thread.savedRets thread),
    by rw [back, State.supReturned, thread, idle]⟩

end Sys2Proof.Machine
end

section
/-! PROOFS. The start of engines and threads and the ends of a thread's waits (R208, R232, R236, R251, R271, R553). First what each
command does in the circumstances that matter, then the statement, which cites these. -/

namespace Sys2Proof.Machine

open Sys2Proof

/-! ENGINE_START and THREAD_PACKET_START (R205, R208, R225) -/

section Start

variable {g e : Nat} {s : State}

/-- The engine counts as started, thread 0 is RUNNABLE and the others are HELD, each with cleared registers. -/
def State.startThreads (s : State) (g e : Nat) : State :=
  (s.setEngn g e { s.engn g e with started := true }).each (List.range 8)
    (fun y t => (y.setThr g e t { starting := t == 0 }).setTs g e t (if t = 0 then tRunnable else tHeld))

theorem exec_engineStart_live (live : s.rd F.PRS_STATUS_RULESET = 1) (new : (s.engn g e).started = false) :
    exec (.engineStart g e) s = .next ((s.startThreads g e).setPc g e 0
      (s.curVer % 4 * 0x2000 + 4 * dirEntry (((s.startThreads g e).ver s.curVer).dir 0))) :=
  if_pos ⟨live, new⟩

theorem exec_engineStart_noRuleset (absent : s.rd F.PRS_STATUS_RULESET ≠ 1) : exec (.engineStart g e) s = .next s :=
  if_neg fun started => absent started.1

/-- The packet at the head of the context queue is in the other working buffer, and the thread runs it with empty stacks. -/
def State.loadPacket (s : State) (g e t : Nat) (p : Pkt) : State :=
  let b := 1 - (s.thr g e t).buf
  State.setThr { s with
      eng := { s.eng with
        dmem := Mem.putBytes s.eng.dmem (dmemAt g e (t * 0x400 + b * 0x200)) (Mem.bytes s.eng.gmem (gmemAt g (p.ctx * 512)) 512) } }
    g e t { s.thr g e t with buf := b, running := true, loops := [], rets := [] }

theorem exec_threadPacketStart_idle {t : Nat} {p : Pkt} (idle : s.ts g e t = tIdle) (free : (s.thr g e t).running = false)
    (head : (s.thr g e t).ctxs.head? = some p) :
    exec (.threadPacketStart g e t) s = .next (((s.loadPacket g e t p).setPc g e t (p.g Md.version % 4 * 0x2000 +
      4 * dirEntry ((((s.loadPacket g e t p).ver (p.g Md.version)).chain (p.g Md.chainId)).getD 0))).setTs g e t tRunnable) := by
  rw [exec_threadPacketStart, execThreadPacketStart]
  dsimp only
  rw [if_pos ⟨idle, free⟩, head]
  rfl

end Start

/-! THREAD_WAKE (R236) -/

section Wake

variable {g e t : Nat} {s : State}

theorem exec_threadWake_hit (hit : s.eventHit g e t = true) :
    exec (.threadWake g e t) s = .next ((s.each ((List.range 8).filter (fun u => !(s.thr g e u).waitCons)) (fun y u => y.eventWake g e u)).each
      ((List.range 8).filter (fun u => (s.thr g e u).waitCons)) (fun y u => y.eventWake g e u)) :=
  if_pos hit

theorem exec_threadWake_miss (miss : s.eventHit g e t = false) : exec (.threadWake g e t) s = .next s :=
  if_neg (Bool.eq_false_iff.1 miss)

end Wake

/-! SUMP_WAIT_END (R228-R232) -/

section Sump

variable {g e t : Nat} {w : SumpWait} {s : State} (waits : (s.thr g e t).sump = some w) (waiting : s.ts g e t = tWaiting)
  (sumpWait : s.rd (F.PE_THREAD_WAIT_KIND g e t) = 2)
include waits waiting sumpWait

theorem exec_sumpWaitEnd_put (put : w.put = true) (ready : s.putWaits w.sump (unitThread g e t) = false) :
    exec (.sumpWaitEnd g e t) s = .next (((s.setThr g e t { s.thr g e t with sump := none }).sumpStore w.sump (unitThread g e t)
      w.data w.tag).wake g e t true) := by
  simp [execSumpWaitEnd, waits, waiting, sumpWait, put, ready]

theorem exec_sumpWaitEnd_get (get : w.put = false) (ready : s.getWaits w.sump (unitThread g e t) = false) :
    exec (.sumpWaitEnd g e t) s = .next (
      let r := (s.setThr g e t { s.thr g e t with sump := none }).sumpTake w.sump (unitThread g e t)
      (r.2.2.getResult g e t w.d w.a r.1 r.2.1).wake g e t true) := by
  simp [execSumpWaitEnd, waits, waiting, sumpWait, get, ready]

end Sump

/-! LOAD_DATA_RETURN (R271) -/

section Load

/-- The oldest load of a thread has returned value v to register r. -/
def State.loadReturned (s : State) (g e t r : Nat) (v : Word) (l : List (Nat × Word)) : State :=
  s.setThr g e t ({ s.thr g e t with loads := l }.setG r v.toNat)

variable {g e t r : Nat} {v : Word} {l : List (Nat × Word)} {s : State} (oldest : (s.thr g e t).loads = (r, v) :: l)
include oldest

theorem exec_loadDataReturn_runs (runs : s.ts g e t ≠ tWaiting) :
    exec (.loadDataReturn g e t) s = .next (s.loadReturned g e t r v l) := by
  rw [exec_loadDataReturn, execLoadDataReturn, oldest]
  exact if_neg fun waits => runs waits.1

theorem exec_loadDataReturn_waits (waiting : (s.loadReturned g e t r v l).ts g e t = tWaiting)
    (loadWait : (s.loadReturned g e t r v l).rd (F.PE_THREAD_WAIT_KIND g e t) = 4) :
    exec (.loadDataReturn g e t) s = .next ((s.loadReturned g e t r v l).wake g e t false) := by
  rw [exec_loadDataReturn, execLoadDataReturn, oldest]
  exact if_pos ⟨waiting, loadWait⟩

end Load

/-! LOCK_GRANT (R553) -/

section Lock

variable {g n : Nat} {s : State}

/-- Waiter w has lock n of gallery g. -/
def State.lockGranted (s : State) (g n : Nat) (w : LockWaiter) : State :=
  ((s.lockWithdraw g n w.unit).lockTake g n w.unit).updThr g (w.unit / 8 % 32) (w.unit % 8)
    (fun y => { y with lock := some n, lockAsk := none })

theorem exec_lockGrant_best {w : LockWaiter} (free : s.lockHeld g n = false)
    (best : s.lockBest (Map.get (s.gal g).lockWait [] n) = some w)
    (waiting : (s.lockGranted g n w).ts g (w.unit / 8 % 32) (w.unit % 8) = tWaiting) :
    exec (.lockGrant g n) s = .next ((s.lockGranted g n w).wake g (w.unit / 8 % 32) (w.unit % 8) true) := by
  rw [exec_lockGrant, execLockGrant]
  dsimp only
  rw [if_neg (Bool.eq_false_iff.1 free), best]
  exact if_pos waiting

theorem exec_lockGrant_held (held : s.lockHeld g n = true) : exec (.lockGrant g n) s = .next s := if_pos held

end Lock

/-! The statement -/

/-- Settles O36: each command by the lemma of its circumstances above. -/
theorem threadsStartAndWake : Obligations.ThreadsStartAndWake := by
  unfold Obligations.ThreadsStartAndWake
  exact ⟨fun _ _ _ => exec_engineStart_live, fun _ _ _ => exec_engineStart_noRuleset, fun _ _ _ _ _ => exec_threadPacketStart_idle,
    fun _ _ _ _ => exec_threadWake_hit, fun _ _ _ _ => exec_threadWake_miss,
    fun _ _ _ _ _ waits waiting kind => ⟨exec_sumpWaitEnd_put waits waiting kind, exec_sumpWaitEnd_get waits waiting kind⟩,
    fun _ _ _ _ _ _ _ => exec_loadDataReturn_runs, fun _ _ _ _ _ _ _ => exec_loadDataReturn_waits,
    fun _ _ _ _ => exec_lockGrant_best, fun _ _ _ => exec_lockGrant_held, exec_peEventsWrite⟩

end Sys2Proof.Machine
end

section
/-! PROOFS. Lock overrun, engine stall, the supervisor, and the dispatcher (R208, R210, R211, R214-R216, R234, R239, R244, R247, R248).
First what each command does in the circumstances that matter, then the statement, which cites these. -/

namespace Sys2Proof.Machine

open Sys2Proof

/-! LOCK_OVERRUN (R239) -/

section Overrun

variable {g n : Nat} {s : State}

/-- The lock's holder has lost it and is to take LOCK_OVERRUN at its next instruction. -/
theorem exec_lockOverrun_held (held : s.lockHeld g n = true) :
    exec (.lockOverrun g n) s = .next (
      let u := Map.get (s.gal g).lockHolder 0 n
      (s.lockBreak g n 2 u).updThr g (u / 8 % 32) (u % 8) (fun y => { y with lock := none, overrun := true })) :=
  if_pos held

theorem exec_lockOverrun_free (free : s.lockHeld g n = false) : exec (.lockOverrun g n) s = .next s :=
  if_neg (Bool.eq_false_iff.1 free)

end Overrun

/-! ENGINE_STALL (R214-R216) -/

/-- The threads of an engine that are neither IDLE nor HELD. -/
def State.active (s : State) (g e : Nat) : List Nat := (List.range 8).filter (fun t => s.ts g e t != tIdle && s.ts g e t != tHeld)

/-- Thread 0 takes no stall: it is in SUPERVISOR, FAULTED or HELD (R216). -/
def State.SupBlocked (s : State) (g e : Nat) : Prop :=
  s.rdB (F.PE_SUP_SUP_ACTIVE g e) = true ∨ s.ts g e 0 = tFaulted ∨ s.ts g e 0 = tHeld

section Stall

variable {g e : Nat} {s : State} (any : s.active g e ≠ []) (internal : (s.active g e).all (fun t => s.internal g e t) = true)
include any internal

theorem exec_engineStall_pends (takes : ¬ (s.err (R.PE_STALL_CNT g e)).SupBlocked g e) :
    exec (.engineStall g e) s = .next ((s.err (R.PE_STALL_CNT g e)).wr (F.PE_SUP_STALL_PEND g e) 1) :=
  (if_pos ⟨any, internal⟩).trans (if_neg takes)

theorem exec_engineStall_escalates (blocked : (s.err (R.PE_STALL_CNT g e)).SupBlocked g e) :
    exec (.engineStall g e) s = .next (
      let x := (s.err (R.PE_STALL_CNT g e)).raise (F.GAL_INT_STATUS_STALL_ESCALATED g)
      x.fault { cls := 0x0D, cause := 1, unit := unitThread g e 0, snapshot := x.cnt (R.PE_STALL_CNT g e),
                detail := ((s.active g e).map (fun t => 2 ^ t)).sum }) :=
  (if_pos ⟨any, internal⟩).trans (if_pos blocked)

end Stall

/-! SUPERVISOR_ENTRY and THREAD0_FIRMWARE_RESTART (R208, R211, R285) -/

/-- Supervisor event ev is no longer pending. -/
def State.supTaken (s : State) (g e ev : Nat) : State :=
  if ev = 8 then s.wr (F.PE_SUP_STALL_PEND g e) 0 else s.wr ⟨R.PE_SUP g e, 8 + ev, 1⟩ 0

/-- The cause that thread 0 reads of supervisor event ev: the stall, or the faulted thread with its code and PC. -/
def State.supCauseOf (s : State) (g e ev : Nat) : Nat :=
  let f := (s.reg (R.PE_FAULT g e ev)).toNat
  if ev = 8 then 2 else 1 + ev * 2 ^ 4 + bitsOf f 0 8 * 2 ^ 8 + bitsOf f 16 15 * 2 ^ 16

/-- Thread 0, of state st before, has kept its PC, its stacks and its wait for RETS, and takes the supervisor event of cause c. -/
def State.supSaved (s : State) (g e st c : Nat) : State :=
  s.updThr g e 0 (fun x => { x with
    before := st, savedPc := s.pc g e 0, savedKind := s.rd (F.PE_THREAD_WAIT_KIND g e 0), savedLoops := x.loops, savedRets := x.rets,
    loops := [], rets := [], supCause := c, savedFrom := x.beforeWait, savedMask := x.waitMask, savedCons := x.waitCons,
    savedDest := x.waitDest, savedSump := x.sump, sump := none })

/-- Thread 0 stands at the supervisor entry of the current version and waits for nothing. -/
def State.atSupEntry (s : State) (g e : Nat) : State :=
  (s.setPc g e 0 (s.curVer % 4 * 0x2000 + 4 * dirEntry ((s.ver s.curVer).dir 1))).wr (F.PE_THREAD_WAIT_KIND g e 0) 0

section Supervisor

variable {g e : Nat} {s : State}

/-- With one event pending there is no choice. -/
theorem exec_supervisorEntry_single {ev : Nat} (stops : s.ts g e 0 = tIdle ∨ s.ts g e 0 = tWaiting)
    (inactive : s.rdB (F.PE_SUP_SUP_ACTIVE g e) = false) (single : s.supPending g e = [ev]) :
    exec (.supervisorEntry g e) s = .next (
      ((((s.supTaken g e ev).supSaved g e (s.ts g e 0) (s.supCauseOf g e ev)).atSupEntry g e).wr (F.PE_SUP_SUP_ACTIVE g e) 1).setTs
        g e 0 tSupervisor) := by
  rw [exec_supervisorEntry, execSupervisorEntry, single]
  dsimp only
  rw [if_pos ⟨stops, inactive, List.cons_ne_nil ev []⟩, if_pos List.length_singleton]
  simp only [List.length_singleton, Nat.mod_one, List.getD_cons_zero]
  rfl

theorem exec_thread0FirmwareRestart_faulted (faulted : s.ts g e 0 = tFaulted) :
    exec (.thread0FirmwareRestart g e) s = .next (((s.setTs g e 0 tIdle).wr (F.PE_FAULT_VALID g e 0) 0).updThr g e 0
      (fun x => { x with loops := [], rets := [] })) :=
  if_pos faulted

end Supervisor

/-! SUMP_ABORT (R234) -/

section Abort

variable {g i : Nat} {s : State}

theorem exec_sumpAbort_claimed (index : i < 36) (claimed : s.rdB (sProd (g * 36 + i)) = true)
    (live : s.engHalted (s.rd (sProducer (g * 36 + i)) / 256 % 64) (s.rd (sProducer (g * 36 + i)) / 8 % 32) = false) :
    exec (.sumpAbort g i) s = .next (s.sumpCloseProd (g * 36 + i) 3) := by
  rw [exec_sumpAbort, execSumpAbort, State.sumpAbort]
  dsimp only
  rw [if_pos ⟨index, claimed⟩, if_neg (Bool.eq_false_iff.1 live)]

theorem exec_sumpAbort_unclaimed (unclaimed : s.rdB (sProd (g * 36 + i)) = false) : exec (.sumpAbort g i) s = .next s :=
  congrArg Host.Outcome.next (if_neg fun claimed => Bool.false_ne_true (unclaimed.symm.trans claimed.2))

end Abort

/-! DISPATCHER_ENQUEUE (R244) -/

/-- The oldest packet steered to gallery g, packet p, has left the steering. -/
def State.unsteered (s : State) (g : Nat) (p : Pkt) : State :=
  { s with path := { s.path with toGal := s.path.toGal.filter (fun x => !(x.1 == g && x.2.id == p.id)) } }

section Enqueue

variable {g : Nat} {p : Pkt} {s : State} (oldest : s.path.toGal.find? (fun x => x.1 == g) = some (g, p))
include oldest

theorem exec_dispatcherEnqueue_room (room : (s.gal g).input.length < 512) :
    exec (.dispatcherEnqueue g) s =
      .next ((s.unsteered g p).setGal g { s.gal g with input := (s.gal g).input ++ [{ p with entry := none }] }) := by
  rw [exec_dispatcherEnqueue, execDispatcherEnqueue, oldest]
  exact if_pos room

theorem exec_dispatcherEnqueue_full (full : 512 ≤ (s.gal g).input.length) :
    exec (.dispatcherEnqueue g) s = .next (((s.unsteered g p).stat (R.DSP_QUEUE_FULL_CNT g)).pktGone p) := by
  rw [exec_dispatcherEnqueue, execDispatcherEnqueue, oldest]
  exact if_neg (Nat.not_lt.2 full)

end Enqueue

/-! HANDOFF (R247, R248) -/

section Handoff

variable {g id : Nat} {y : Ended} {s : State} (found : (s.gal g).ended.find? (fun y => y.pkt.id == id) = some y)
include found

theorem exec_handoff_first (first : y.pkt.ordered = false ∨ s.olderInOrder g y.pkt = false) :
    exec (.handoff g id) s = .next ((((s.setGal g { s.gal g with
      ended := (s.gal g).ended.filter (fun z => z.pkt.id != id) }).retryDone g y.pkt 1).sendEnded g y).drain g) := by
  have free : ¬ (y.pkt.ordered = true ∧ s.olderInOrder g y.pkt = true) := fun ⟨ordered, older⟩ =>
    first.elim (fun unordered => Bool.false_ne_true (unordered.symm.trans ordered))
      (fun none => Bool.false_ne_true (none.symm.trans older))
  simp only [exec_handoff, execHandoff, found, if_neg free]

/-- A packet counted as waiting for older ones of its order domain is not counted again. -/
theorem exec_handoff_waited (ordered : y.pkt.ordered = true) (older : s.olderInOrder g y.pkt = true) (waited : y.waited = true) :
    exec (.handoff g id) s = .next s := by
  simp only [exec_handoff, execHandoff, found, ordered, older, and_self, if_true, waited]

end Handoff

/-! The statement -/

/-- Settles O37: each command by the lemma of its circumstances above; the states of SUPERVISOR_ENTRY are `State.supSaved` and
`State.atSupEntry`. -/
theorem supervisorAndDispatcher : Obligations.SupervisorAndDispatcher := by
  unfold Obligations.SupervisorAndDispatcher
  exact ⟨fun _ _ _ => exec_lockOverrun_held, fun _ _ _ => exec_lockOverrun_free,
    fun _ _ _ any internal => ⟨exec_engineStall_pends any internal, exec_engineStall_escalates any internal⟩,
    fun _ _ _ _ stops inactive single => ⟨_, _, exec_supervisorEntry_single stops inactive single, rfl, _, rfl⟩,
    fun _ _ _ => exec_thread0FirmwareRestart_faulted, fun _ _ _ index claimed => exec_sumpAbort_claimed index claimed,
    fun _ _ _ => exec_sumpAbort_unclaimed,
    fun _ _ _ oldest => ⟨exec_dispatcherEnqueue_room oldest, exec_dispatcherEnqueue_full oldest⟩,
    fun _ _ _ _ found => ⟨exec_handoff_first found, exec_handoff_waited found⟩⟩

end Sys2Proof.Machine
end

section
/-! PROOFS. General registers of Pyray and the instructions that write one from others (R256, R259, R261, R273, R274). First the
registers of a thread, then what each kind of instruction comes to for a thread that stands at it, then the statements, which cite these. -/

namespace Sys2Proof.Machine

open Sys2Proof

/-! General registers -/

@[simp] theorem Thread.getG_zero (x : Thread) : x.getG 0 = 0 := rfl

@[simp] theorem Thread.setG_zero (x : Thread) (v : Nat) : x.setG 0 v = x := rfl

theorem Thread.getG_setG_self (x : Thread) {r : Nat} (v : Nat) (writable : r ≠ 0) : (x.setG r v).getG r = v % 2 ^ 64 := by
  simp [Thread.getG, Thread.setG, writable]

theorem Thread.getG_setG_ne (x : Thread) {r k : Nat} (v : Nat) (other : k ≠ r) : (x.setG r v).getG k = x.getG k := by
  by_cases k0 : k = 0
  · rw [k0, Thread.getG_zero, Thread.getG_zero]
  by_cases r0 : r = 0
  · rw [r0, Thread.setG_zero]
  · simp only [Thread.getG, Thread.setG, if_neg k0, if_neg r0, Map.get_set_ne _ _ _ _ other]

@[simp] theorem State.updThr_thr_self (s : State) (g e t : Nat) (f : Thread → Thread) : (s.updThr g e t f).thr g e t = f (s.thr g e t) :=
  Map.get_set_self ..

theorem State.updThr_thr_ne (s : State) (g e : Nat) {t u : Nat} (f : Thread → Thread) (other : u ≠ t) :
    (s.updThr g e t f).thr g e u = s.thr g e u :=
  Map.get_set_ne _ _ _ _ fun same => other (Nat.add_left_cancel same)

/-- What a thread's registers read after a write to one of them. -/
theorem State.setGr_gr (s : State) (g e t r v k : Nat) : (s.setGr g e t r v).gr g e t k = ((s.thr g e t).setG r v).getG k :=
  congrArg (Thread.getG · k) (s.updThr_thr_self g e t _)

/-- Settles O35: a thread's registers by `Thread.getG_setG_self` and `Thread.getG_setG_ne`, another thread by `State.updThr_thr_ne`. -/
theorem pyrayGeneralRegisters : Obligations.PyrayGeneralRegisters := by
  unfold Obligations.PyrayGeneralRegisters
  intro g e t r v s
  exact ⟨(s.thr g e t).getG_zero,
    fun k => (s.setGr_gr g e t 0 v k).trans (congrArg (Thread.getG · k) ((s.thr g e t).setG_zero v)),
    fun writable => (s.setGr_gr g e t r v r).trans ((s.thr g e t).getG_setG_self v writable),
    fun k other => (s.setGr_gr g e t r v k).trans ((s.thr g e t).getG_setG_ne v other),
    fun _ k _ _ other => congrArg (Thread.getG · k) (s.updThr_thr_ne g e _ other)⟩

/-! Instructions that write a register -/

theorem b2n_decide (p : Prop) [Decidable p] : b2n (decide p) = if p then 1 else 0 := by
  simp only [b2n, decide_eq_true_eq]

section Stands

variable {g e t w : Nat} {s : State} (h : s.Stands g e t w)
include h

/-- An instruction of OP 0x01 with function code fn. -/
theorem State.Stands.pyAlu_gives {fn : Nat} (op : iOp w = 0x01) (kind : iFn w = fn) (f : Nat → Nat → Nat → Nat) :
    s.pyAlu g e t fn f = s.gives g e t w (f (s.gr g e t (iD w)) (s.gr g e t (iA w)) (s.gr g e t (iB w)) % 2 ^ 64) := by
  have gr := s.issued_gr g e g e t
  exact State.pyRun_ok h (by simp [op, kind]) (by simp only [gr]) (State.setGr_board ..)

/-- An instruction with a D and an A register and an immediate. -/
theorem State.Stands.pyImm_gives {opc : Nat} (op : iOp w = opc) (f : Nat → Nat → Nat → Nat) :
    s.pyImm g e t opc f = s.gives g e t w (f (s.gr g e t (iD w)) (s.gr g e t (iA w)) w % 2 ^ 64) := by
  have gr := s.issued_gr g e g e t
  exact h.run_ok op (by simp only [gr]) (State.setGr_board ..)

end Stands

/-! The statements -/

/-- Settles O27: every row of R273 by `State.Stands.pyAlu_gives`; the comparisons give a truth value as a bit. -/
theorem pyrayRegisterArithmetic : Obligations.PyrayRegisterArithmetic := by
  unfold Obligations.PyrayRegisterArithmetic
  intro g e t w s h op a b d
  have alu {fn : Nat} (f : Nat → Nat → Nat → Nat) (kind : iFn w = fn) :
      (Host.Outcome.next (s.pyAlu g e t fn f) : Out) = .next (s.gives g e t w (f d a b % 2 ^ 64)) :=
    congrArg Host.Outcome.next (h.pyAlu_gives op kind f)
  have compare {fn : Nat} (p : Nat → Nat → Prop) [∀ x y, Decidable (p x y)] (kind : iFn w = fn) :
      (Host.Outcome.next (s.pyAlu g e t fn (fun _ x y => b2n (decide (p x y)))) : Out) =
        .next (s.gives g e t w ((if p a b then 1 else 0) % 2 ^ 64)) := by
    rw [alu _ kind, b2n_decide]
  exact ⟨alu _, alu _, alu _, alu _, alu _, alu _, alu _, alu _, alu _, alu _, alu _, alu _, compare (· < ·),
    compare (fun x y => toSigned 64 x < toSigned 64 y), compare (· = ·), alu _, alu _, alu _, alu _, alu _⟩

/-- Settles O28: every row of R274 by `State.Stands.pyImm_gives`. -/
theorem pyrayImmediateArithmetic : Obligations.PyrayImmediateArithmetic := by
  unfold Obligations.PyrayImmediateArithmetic
  intro g e t w s h a d
  have imm {opc : Nat} (f : Nat → Nat → Nat → Nat) (op : iOp w = opc) :
      (Host.Outcome.next (s.pyImm g e t opc f) : Out) = .next (s.gives g e t w (f d a w % 2 ^ 64)) :=
    congrArg Host.Outcome.next (h.pyImm_gives op f)
  exact ⟨imm _, imm _, imm _, imm _, imm _, imm _, imm _, imm _, imm _, imm _⟩

end Sys2Proof.Machine
end

section
/-! PROOFS. Branches, jumps, calls and loops of Pyray (R277, R284, R285). First what each instruction comes to for a thread that stands at
it, then the statement, which cites these. -/

namespace Sys2Proof.Machine

open Sys2Proof

/-! What the operations leave -/

/-- Counting in a statistic leaves the fields of every other register. -/
theorem State.rd_stat_ne (s : State) {off : Nat} {f : Fld} (other : f.off ≠ off) : (s.stat off).rd f = s.rd f := by
  unfold State.rd State.stat State.statAdd
  rw [State.reg_setReg_ne s _ other]

/-- Counting an instruction leaves the PCs of the engine's eight threads. -/
theorem State.issued_pc (s : State) (g e : Nat) {t : Nat} (thread : t < 8) : (s.issued g e).pc g e t = s.pc g e t :=
  s.rd_stat_ne (show R.PE_THREAD g e t ≠ R.PE_ISSUE_CNT g e by unfold R.PE_THREAD R.PE_ISSUE_CNT; omega)

@[simp] theorem State.finish_updThr_board (s : State) (g e t last : Nat) (f : Thread → Thread) :
    ((s.updThr g e t f).finish g e t last).board = s.board := rfl

section Stands

variable {g e t w : Nat} {s : State} (h : s.Stands g e t w)
include h

section Opcode

variable {op : Nat} (stands : iOp w = op) {f : Nat → State → PyRes} {u : State}
include stands

theorem State.Stands.run_jump {pc : Nat} (res : f w (s.issued g e) = .jump u pc) (board : u.board = (s.issued g e).board) :
    s.pyRun g e t (fun w => iOp w == op) f = u.setPc g e t pc :=
  State.pyRun_jump h (is := fun w => iOp w == op) (beq_iff_eq.2 stands) res (board.trans (s.issued_board g e))

theorem State.Stands.run_stay (res : f w (s.issued g e) = .stay u) (board : u.board = (s.issued g e).board) :
    s.pyRun g e t (fun w => iOp w == op) f = u :=
  State.pyRun_stay h (is := fun w => iOp w == op) (beq_iff_eq.2 stands) res (board.trans (s.issued_board g e))

end Opcode

/-! JMP, RET and the branches -/

/-- A branch whose condition says p of g[A] and g[B]. -/
theorem State.Stands.pyBranch_eq {op : Nat} {c : Nat → Nat → Bool} {p : Prop} [Decidable p]
    (cond : c (s.gr g e t (iBA w)) (s.gr g e t (iBB w)) = true ↔ p) (thread : t < 8) (stands : iOp w = op) :
    s.pyBranch g e t op c =
      if p then (s.issued g e).setPc g e t (s.pc g e t + 4 * iOff16 w) else s.past (s.issued g e) g e t := by
  have gr := s.issued_gr g e g e t
  have pc := s.issued_pc g e thread
  by_cases holds : p
  · rw [if_pos holds]
    exact h.run_jump stands (by simp only [gr, pc, if_pos (cond.2 holds)]) rfl
  · rw [if_neg holds]
    exact h.run_ok stands (by simp only [gr, if_neg (mt cond.1 holds)]) rfl

theorem exec_jmp_goes (thread : t < 8) (op : iOp w = 0x24) :
    exec (.jmp g e t) s = .next ((s.issued g e).setPc g e t (slotPc (s.pc g e t) (iTarget w))) := by
  have pc := s.issued_pc g e thread
  rw [exec_jmp, execJmp]
  exact congrArg Host.Outcome.next (h.run_jump op (by rw [pc]) rfl)

theorem exec_ret_returns {r : Nat} {l : List Nat} (op : iOp w = 0x26) (rets : (s.thr g e t).rets = r :: l) :
    exec (.ret g e t) s = .next (((s.issued g e).updThr g e t (fun x => { x with rets := l })).setPc g e t r) := by
  have thr := s.issued_thr g e g e t
  rw [exec_ret, execRet]
  exact congrArg Host.Outcome.next (h.run_jump op (by simp only [thr, rets]) (State.updThr_board ..))

/-! CALL -/

section Call

variable (op : iOp w = 0x25)
include op

theorem exec_call_room (thread : t < 8) (room : (s.thr g e t).rets.length < 4) :
    exec (.call g e t) s = .next (((s.issued g e).updThr g e t (fun x => { x with rets := (s.pc g e t + 4) :: x.rets })).setPc g e t
      (slotPc (s.pc g e t) (iTarget w))) := by
  have thr := s.issued_thr g e g e t
  have pc := s.issued_pc g e thread
  rw [exec_call, execCall]
  exact congrArg Host.Outcome.next (h.run_jump op (by simp only [thr, pc, if_neg (Nat.not_le.2 room)]) (State.updThr_board ..))

theorem exec_call_full (full : 4 ≤ (s.thr g e t).rets.length) :
    exec (.call g e t) s = .next (((s.issued g e).progExc g e t 0x10).stepCheck g e t) := by
  have thr := s.issued_thr g e g e t
  rw [exec_call, execCall]
  exact congrArg Host.Outcome.next (h.run_exc op (by simp only [thr, if_pos full]))

end Call

/-! LOOP -/

/-- The iterations T of a LOOP: g[A], or MAX where A is g0 (R284). -/
def State.loopTimes (s : State) (g e t w : Nat) : Nat := if iBA w = 0 then iMax w else s.gr g e t (iBA w)

section Loop

variable (op : iOp w = 0x27)
include op

theorem exec_loop_beyond (beyond : iMax w < s.loopTimes g e t w) :
    exec (.loop g e t) s = .next (((s.issued g e).progExc g e t 0x0F).stepCheck g e t) := by
  rw [exec_loop, execLoop]
  exact congrArg Host.Outcome.next (h.run_exc op (if_pos beyond))

section Within

variable (within : s.loopTimes g e t w ≤ iMax w) (room : (s.thr g e t).loops.length < 4) (thread : t < 8)
include within room thread

theorem exec_loop_begins (positive : 0 < s.loopTimes g e t w) :
    exec (.loop g e t) s = .next (((s.issued g e).updThr g e t (fun x => { x with
      loops := { first := s.pc g e t + 4, last := s.pc g e t + 4 * iLoopLen w, left := s.loopTimes g e t w } :: x.loops })).setPc
        g e t (s.pc g e t + 4)) := by
  have pc := s.issued_pc g e thread
  rw [exec_loop, execLoop]
  refine congrArg Host.Outcome.next (h.run_jump op ?_ (State.updThr_board ..))
  dsimp only
  rw [pc]
  exact (if_neg (Nat.not_lt.2 within)).trans ((if_neg (Nat.not_le.2 room)).trans (if_neg positive.ne'))

theorem exec_loop_skips (zero : s.loopTimes g e t w = 0) :
    exec (.loop g e t) s = .next ((s.issued g e).finish g e t (s.pc g e t + 4 * iLoopLen w)) := by
  have pc := s.issued_pc g e thread
  rw [exec_loop, execLoop]
  refine congrArg Host.Outcome.next (h.run_stay op ?_ (State.finish_board ..))
  dsimp only
  rw [pc]
  exact (if_neg (Nat.not_lt.2 within)).trans ((if_neg (Nat.not_le.2 room)).trans (if_pos zero))

end Within

end Loop

/-! BRKNZ -/

theorem exec_brknz_zero (op : iOp w = 0x28) (zero : s.gr g e t (iBA w) = 0) :
    exec (.brknz g e t) s = .next (s.past (s.issued g e) g e t) := by
  have gr := s.issued_gr g e g e t
  rw [exec_brknz, execBrknz]
  exact congrArg Host.Outcome.next (h.run_ok op (by simp only [gr, if_pos zero]) rfl)

theorem exec_brknz_leaves {f : LoopFrame} {l : List LoopFrame} (op : iOp w = 0x28) (breaks : s.gr g e t (iBA w) ≠ 0)
    (loops : (s.thr g e t).loops = f :: l) :
    exec (.brknz g e t) s =
      .next (((s.issued g e).updThr g e t (fun x => { x with loops := l })).finish g e t f.last) := by
  have gr := s.issued_gr g e g e t
  have thr := s.issued_thr g e g e t
  rw [exec_brknz, execBrknz]
  exact congrArg Host.Outcome.next (h.run_stay op (by simp only [gr, if_neg breaks, thr, loops]) (State.finish_updThr_board ..))

end Stands

/-! The statement -/

/-- Settles O31: the branches by `State.Stands.pyBranch_eq`, every other instruction by the lemma of its circumstances above. -/
theorem pyrayControlFlow : Obligations.PyrayControlFlow := by
  unfold Obligations.PyrayControlFlow
  intro g e t w s h u a b pc on thread
  exact ⟨fun op => congrArg Host.Outcome.next (h.pyBranch_eq beq_iff_eq thread op),
    fun op => congrArg Host.Outcome.next (h.pyBranch_eq bne_iff_ne thread op),
    fun op => congrArg Host.Outcome.next (h.pyBranch_eq decide_eq_true_iff thread op),
    fun op => congrArg Host.Outcome.next (h.pyBranch_eq decide_eq_true_iff thread op),
    exec_jmp_goes h thread, fun op room => exec_call_room h op thread room, exec_call_full h, fun _ _ => exec_ret_returns h,
    fun op within room positive => exec_loop_begins h op within room thread positive, exec_loop_beyond h,
    fun op room zero => exec_loop_skips h op (zero.trans_le (Nat.zero_le _)) room thread zero,
    exec_brknz_zero h, fun _ _ => exec_brknz_leaves h⟩

end Sys2Proof.Machine
end

section
/-! PROOFS. Deadlines of packets, hardware faults of engines and of gallery memory, and the engine check (R298, R306-R308, R311-R316).
First what each command does in the circumstances that matter, then the statements, which cite these. -/

namespace Sys2Proof.Machine

open Sys2Proof

/-! ENGINE_CHECK_START and ENGINE_CHECK_END (R312) -/

section Check

variable {g e : Nat} {s : State}

theorem exec_engineCheckStart_none (absent : s.check g e = none) : exec (.engineCheckStart g e) s = .next s := by
  rw [exec_engineCheckStart, execEngineCheckStart, absent]

theorem exec_engineCheckEnd_none (pass : Bool) (absent : s.check g e = none) : exec (.engineCheckEnd g e pass) s = .next s := by
  rw [exec_engineCheckEnd, execEngineCheckEnd, absent]

variable {h : HwFault} (found : s.check g e = some h)
include found

theorem exec_engineCheckStart_boundary (fresh : h.started = false) (boundary : s.fst.cycle = 0) (later : s.fst.drip ≠ h.drip) :
    exec (.engineCheckStart g e) s = .next ((s.updCheck g e (fun y => { y with started := true })).showCheck g) := by
  rw [exec_engineCheckStart, execEngineCheckStart, found]
  exact if_neg (by simp [fresh, boundary, later])

theorem exec_engineCheckStart_started (started : h.started = true) : exec (.engineCheckStart g e) s = .next s := by
  rw [exec_engineCheckStart, execEngineCheckStart, found]
  exact if_pos (.inl started)

theorem exec_engineCheckEnd_done (pass : Bool) (started : h.started = true) (running : h.result = none) (done : 3 ≤ h.drips) :
    exec (.engineCheckEnd g e pass) s =
      .next ((s.updCheck g e (fun y => { y with result := some pass, drips := 4 })).showCheck g) := by
  rw [exec_engineCheckEnd, execEngineCheckEnd, found]
  exact if_pos ⟨started, running, done⟩

theorem exec_engineCheckEnd_early (pass : Bool) (early : h.drips < 3) : exec (.engineCheckEnd g e pass) s = .next s := by
  rw [exec_engineCheckEnd, execEngineCheckEnd, found]
  exact if_neg fun ⟨_, _, done⟩ => Nat.not_le.2 early done

end Check

/-! ENGINE_RETURN (R313) -/

section Return

variable {g e : Nat} {s : State}

/-- The engine is back in dispatch, or stands by as the spare, and its transient fault is counted and signalled. -/
def State.engineBack (s : State) (g e t : Nat) : State :=
  ((s.wr (F.PE_STATUS_STATE g e) (if s.rd (F.PE_STATUS_POS g e) = 16 then 1 else 0)).err (R.PE_TRANSIENT_CNT g e)).faultEvent g e t

theorem exec_engineReturn_none (absent : s.check g e = none) : exec (.engineReturn g e) s = .next s := by
  rw [exec_engineReturn, execEngineReturn, absent]

variable {h : HwFault} (found : s.check g e = some h)
include found

theorem exec_engineReturn_passed (passed : h.result = some true) (edge : s.fst.atEdge = true) :
    exec (.engineReturn g e) s = .next ((((s.engineBack g e h.thread).updCheck g e (fun y => { y with
      active := false, upper := some 1, snap := (s.engineBack g e h.thread).cnt (R.PE_TRANSIENT_CNT g e) })).hwFinish g h.corr).drain g) := by
  rw [exec_engineReturn, execEngineReturn, found]
  exact if_pos ⟨passed, edge⟩

theorem exec_engineReturn_running (running : h.result = none) : exec (.engineReturn g e) s = .next s := by
  rw [exec_engineReturn, execEngineReturn, found]
  exact if_neg (by simp [running])

end Return

/-! ENGINE_RETIRE (R204, R314) -/

section Retire

variable {g e : Nat} {s : State}

/-- The engine is retired, its lasting fault counted and ENGINE_RETIRED raised. -/
def State.engineOut (s : State) (g e : Nat) : State :=
  ((s.wr (F.PE_STATUS_STATE g e) 2).err (R.DSP_LASTING_CNT g)).raise (F.GAL_INT_STATUS_ENGINE_RETIRED g)

theorem exec_engineRetire_none (absent : s.check g e = none) : exec (.engineRetire g e) s = .next s := by
  rw [exec_engineRetire, execEngineRetire, absent]

variable {h : HwFault} (found : s.check g e = some h)
include found

theorem exec_engineRetire_running (running : h.result = none) : exec (.engineRetire g e) s = .next s := by
  rw [exec_engineRetire, execEngineRetire, found]
  exact if_neg (by simp [running])

variable (failed : h.result = some false) (edge : s.fst.atEdge = true)
include failed edge

/-- The spare itself has failed: nothing takes its place. -/
theorem exec_engineRetire_ofSpare (spare : s.rd (F.PE_STATUS_POS g e) = 16) :
    exec (.engineRetire g e) s = .next ((((s.engineOut g e).updCheck g e (fun y => { y with
      active := false, upper := some 3, snap := (s.engineOut g e).cnt (R.DSP_LASTING_CNT g), sparesOut := true })).hwFinish g h.corr).drain g) := by
  rw [exec_engineRetire, execEngineRetire, found]
  dsimp only
  rw [if_pos ⟨failed, edge⟩, if_pos spare]
  rfl

/-- Engine k, the spare that stands by, takes the position of the retired one. -/
theorem exec_engineRetire_replaced {k : Nat} (member : s.rd (F.PE_STATUS_POS g e) ≠ 16)
    (standby : (List.range 17).find? (fun k => (s.engineOut g e).rd (F.PE_STATUS_STATE g k) == 1) = some k) :
    exec (.engineRetire g e) s = .next ((((((s.engineOut g e).wr (F.PE_STATUS_STATE g k) 0).wr (F.PE_STATUS_POS g k)
      (s.rd (F.PE_STATUS_POS g e))).updCheck g e (fun y => { y with
        active := false, upper := some 2, snap := (s.engineOut g e).cnt (R.DSP_LASTING_CNT g), sparesOut := false })).hwFinish
          g h.corr).drain g) := by
  rw [State.engineOut] at standby
  rw [exec_engineRetire, execEngineRetire, found]
  dsimp only
  rw [if_pos ⟨failed, edge⟩, if_neg member, standby]
  rfl

end Retire

/-! DEADLINE_FAULT (R306, R307) -/

/-- The missed deadline is counted, a re-execution of the packet has failed, and the entry with ON_DEADLINE od is made. -/
def State.deadlineMissed (s : State) (g : Nat) (p : Pkt) (w : Where) (od : Nat) : State :=
  let u := (s.err (R.DSP_DEADLINE_CNT g)).retryDone g p 2
  u.fault { cls := 0x09, cause := od, unit := w.unit g, corr := p.corr, snapshot := u.cnt (R.DSP_DEADLINE_CNT g), upper := 5,
            detail := p.g Md.chainId + p.g Md.flowClass * 2 ^ 12 + p.g Md.version * 2 ^ 18 }

section Deadline

variable {g id : Nat} {p : Pkt} {w : Where} {s : State} (admitted : s.admitted g id = some (p, w))
include admitted

theorem exec_deadlineFault_late (late : p.late = true) : exec (.deadlineFault g id) s = .next s := by
  rw [exec_deadlineFault, execDeadlineFault, admitted]
  exact if_pos (.inl late)

/-- A LATE packet whose grace has ended. -/
theorem exec_graceExpiry_late (late : p.late = true) (due : s.overdue p (bitsOf (s.policyOf p) 4 4) = true) :
    exec (.graceExpiry g id) s = .next ((((s.takeOut g id w).err (R.DSP_DEADLINE_CNT g)).pktGone p).drain g) := by
  rw [exec_graceExpiry, execGraceExpiry, admitted]
  exact if_pos ⟨late, due⟩

variable (timely : p.late = false) (due : s.overdue p 0 = true)
include timely due

/-- What ON_DEADLINE chooses between, whatever its value. -/
theorem exec_deadlineFault_due {od : Nat} (policy : bitsOf (s.policyOf p) 0 2 = od) :
    exec (.deadlineFault g id) s =
      if od = 1 then .next ((s.deadlineMissed g p w od).updAdmitted g id w (fun q => { q with late := true }))
      else .next ((if od = 2 then ((s.deadlineMissed g p w od).takeOut g id w).slowPath g p
        else ((s.deadlineMissed g p w od).takeOut g id w).pktGone p).drain g) := by
  subst policy
  rw [exec_deadlineFault, execDeadlineFault, admitted]
  exact if_neg (by simp [timely, due])

theorem exec_deadlineFault_marks (policy : bitsOf (s.policyOf p) 0 2 = 1) :
    exec (.deadlineFault g id) s = .next ((s.deadlineMissed g p w 1).updAdmitted g id w (fun q => { q with late := true })) :=
  exec_deadlineFault_due admitted timely due policy

theorem exec_deadlineFault_slow (policy : bitsOf (s.policyOf p) 0 2 = 2) :
    exec (.deadlineFault g id) s = .next ((((s.deadlineMissed g p w 2).takeOut g id w).slowPath g p).drain g) :=
  exec_deadlineFault_due admitted timely due policy

theorem exec_deadlineFault_drops (policy : bitsOf (s.policyOf p) 0 2 = 3) :
    exec (.deadlineFault g id) s = .next ((((s.deadlineMissed g p w 3).takeOut g id w).pktGone p).drain g) :=
  exec_deadlineFault_due admitted timely due policy

end Deadline

/-! INPUT_QUEUE_EXPIRY (R298) -/

theorem exec_inputQueueExpiry_due {g id : Nat} {p : Pkt} {s : State}
    (waits : (s.gal g).input.find? (fun p => p.id == id && p.entry.isSome) = some p) (due : s.overdue p 0 = true) :
    exec (.inputQueueExpiry g id) s = .next (((s.setGal g { s.gal g with
      input := (s.gal g).input.filter (fun q => q.id != id) }).stat (R.DSP_NO_BUDGET_CNT g)).pktGone p) := by
  rw [exec_inputQueueExpiry, execInputQueueExpiry]
  dsimp only
  rw [waits]
  exact if_pos due

/-! ENGINE_HW_FAULT (R311) -/

/-- The record of a hardware fault joins those of the gallery whose entry is not yet written. -/
def State.addHw (s : State) (g : Nat) (h : HwFault) : State := s.setGal g { s.gal g with hws := (s.gal g).hws ++ [h] }

/-- Thread t has faulted, the threads beside it are stopped, the engine has lost its packets and stands in state 4. -/
def State.engineStopped (s : State) (g e t cause : Nat) : State :=
  (((s.thrFault g e t cause).each ((List.range 8).filter (fun k => k != t)) (fun y k => y.stopBeside g e k)).each (List.range 8)
    (fun y k => y.updThr g e k (fun x => { x with ctxs := [], running := false, gone := false }))).wr (F.PE_STATUS_STATE g e) 4

section HwFault

variable {g e t cause : Nat} {s : State}

/-- The record of a fault of an engine that has no packet; u is the state that the fault has left. -/
def State.hwOfIdle (s u : State) (g e t cause : Nat) : HwFault :=
  { eng := e, thread := t, cause := cause, pc := s.pc g e t, corr := s.newCorr.1, drip := u.fst.drip,
    aligned := u.rdB F.FST_STATUS_ALIGNED, lower := some 0 }

theorem exec_engineHwFault_idle (serves : s.rd (F.PE_STATUS_STATE g e) ≤ 1) (idle : (s.thr g e t).livePkt = none)
    (noPkts : s.enginePkts g e = []) (named : cause = 0xF0 ∨ cause = 0xF1 ∨ cause = 0xF2 ∨ cause = 0xF4) :
    exec (.engineHwFault g e t cause) s = .next (
      let u := s.newCorr.2.engineStopped g e t cause
      u.addHw g (s.hwOfIdle u g e t cause)) := by
  rw [exec_engineHwFault, execEngineHwFault]
  dsimp only
  rw [if_pos ⟨serves, named⟩, idle, noPkts]
  rfl

theorem exec_engineHwFault_other (other : 2 ≤ s.rd (F.PE_STATUS_STATE g e) ∨ cause ∉ [0xF0, 0xF1, 0xF2, 0xF4]) :
    exec (.engineHwFault g e t cause) s = .next s :=
  if_neg fun ⟨serves, named⟩ => other.elim (fun out => absurd (out.trans serves) (by decide)) (fun unnamed => unnamed (by simpa using named))

end HwFault

/-! GALLERY_MEMORY_FAULT (R316) -/

section MemoryFault

variable {g e t addr : Nat} {s : State}

/-- Thread t has faulted with 0xF3 and has lost its packets. -/
def State.memThrFault (s : State) (g e t : Nat) : State := (((s.thrFault g e t 0xF3).faultEvent g e t).dropRun g e t).moveQueued g e t

/-- A line of the gallery memory is among the bad ones, and FLT_STATUS counts it. -/
def State.retireLine (s : State) (g line : Nat) : State :=
  let b := s.setGal g { s.gal g with badLines := if (s.gal g).badLines.contains line then (s.gal g).badLines else line :: (s.gal g).badLines }
  b.wr F.FLT_STATUS_RETIRED_LINES (min 255 (b.rd F.FLT_STATUS_RETIRED_LINES + 1))

/-- The entry of the retired line is made. -/
def State.lineFault (s : State) (g corr addr : Nat) : State :=
  s.fault { cls := 0x04, cause := 4, unit := unitOf 0x01 g, corr := corr, snapshot := s.cnt (R.GAL_MEM_ECC_CNT g), lower := 2, upper := 3,
            sparesOut := true, detail := addr + g * 2 ^ 48 }

/-- The record of a gallery memory fault of a thread without a packet; u is the state that the fault has left. -/
def State.hwOfMemory (s u : State) (g e t : Nat) : HwFault :=
  { eng := e, thread := t, cause := 0xF3, pc := s.pc g e t, corr := s.newCorr.1, drip := u.fst.drip,
    aligned := u.rdB F.FST_STATUS_ALIGNED, lower := some 0, upper := some 0, active := false, snap := u.cnt (R.PE_TRANSIENT_CNT g e) }

/-- Above the contexts, with no packet to re-execute. -/
theorem exec_galleryMemoryFault_idle (idle : (s.thr g e t).livePkt = none) (noContext : 0x80000 ≤ addr) :
    exec (.galleryMemoryFault g e t addr) s = .next (
      let u := ((s.newCorr.2.memThrFault g e t).retireLine g (addr / 64)).lineFault g s.newCorr.1 addr
      (u.addHw g (s.hwOfMemory u g e t)).hwFinish g s.newCorr.1) := by
  rw [exec_galleryMemoryFault, execGalleryMemoryFault, idle]
  exact congrArg Host.Outcome.next (if_neg (Nat.not_lt.2 noContext))

end MemoryFault

/-! The statements -/

/-- Settles O39: each command by the lemma of its circumstances above. -/
theorem engineCheck : Obligations.EngineCheck := by
  unfold Obligations.EngineCheck
  exact ⟨fun _ _ _ _ found => ⟨exec_engineCheckStart_boundary found, exec_engineCheckStart_started found,
      fun pass => exec_engineCheckEnd_done found pass, fun pass => exec_engineCheckEnd_early found pass,
      exec_engineReturn_passed found, exec_engineRetire_ofSpare found, fun _ failed edge => exec_engineRetire_replaced found failed edge,
      fun running => ⟨exec_engineReturn_running found running, exec_engineRetire_running found running⟩⟩,
    fun _ _ pass _ absent => ⟨exec_engineCheckStart_none absent, exec_engineCheckEnd_none pass absent, exec_engineReturn_none absent,
      exec_engineRetire_none absent⟩⟩

/-- Settles O38: each command by the lemma of its circumstances above; the records are `State.hwOfIdle` and `State.hwOfMemory`. -/
theorem deadlinesAndHardwareFaults : Obligations.DeadlinesAndHardwareFaults := by
  unfold Obligations.DeadlinesAndHardwareFaults
  exact ⟨fun _ _ _ _ _ admitted timely due => ⟨exec_deadlineFault_marks admitted timely due, exec_deadlineFault_slow admitted timely due,
      exec_deadlineFault_drops admitted timely due⟩,
    fun _ _ _ _ _ => exec_deadlineFault_late, fun _ _ _ _ _ => exec_graceExpiry_late, fun _ _ _ _ => exec_inputQueueExpiry_due,
    fun _ _ _ _ _ serves idle noPkts named =>
      ⟨_, _, _, rfl, rfl, rfl, rfl, rfl, rfl, rfl, exec_engineHwFault_idle serves idle noPkts named⟩,
    fun _ _ _ _ _ => exec_engineHwFault_other,
    fun _ _ _ _ _ idle noContext => ⟨_, _, _, rfl, rfl, rfl, rfl, rfl, rfl, rfl, exec_galleryMemoryFault_idle idle noContext⟩⟩

end Sys2Proof.Machine
end

section
/-! PROOFS. The statements of 08_traffic_manager.md. First the entry and admission of packets, selection and the end of a frame, then gate
lists, samples and the table port, command by command in the circumstances that matter, then the statements, which cite these. -/

namespace Sys2Proof.Machine

open Sys2Proof

/-! TM_ENQUEUE: entry (R325, R326) and admission (R329-R331) -/

/-- The state once packet id has left its way to the traffic manager. -/
def State.leaveToTm (s : State) (id : Nat) : State := { s with path := { s.path with toTm := s.path.toTm.filter (fun x => x.id ≠ id) } }

/-- The entry checks of R325 refuse the packet: its queue is not one that it may enter. -/
def State.Misroutes (s : State) (p : Pkt) : Prop :=
  p.g Md.destPort ≠ s.portOf (s.groupOf (p.g Md.tmQueue)) ∨ p.g Md.tc ≠ s.classOf (s.groupOf (p.g Md.tmQueue)) ∨
    s.tmF tQueue (p.g Md.tmQueue) 11 1 = 0 ∨ s.tmF tGroup (s.groupOf (p.g Md.tmQueue)) 6 1 = 0 ∨
    bitOf (s.rd F.PRT_STATUS_CONFIGURED) (s.portOf (s.groupOf (p.g Md.tmQueue))) = false

/-- The longest frame of the class that the packet's queue belongs to. -/
def State.classRoom (s : State) (p : Pkt) : Nat :=
  let g := s.groupOf (p.g Md.tmQueue)
  s.tmF tClass (s.portOf g * 8 + s.classOf g) 0 14

/-- The frame length of the packet at the port of its queue. -/
def State.entryLen (s : State) (p : Pkt) : Nat := s.flen (s.portOf (s.groupOf (p.g Md.tmQueue))) p

theorem exec_tmEnqueue_found {id : Nat} {p : Pkt} {s : State} (found : s.path.toTm.find? (fun p => p.id == id) = some p) :
    exec (.tmEnqueue id) s = .next ((s.leaveToTm id).tmEnter p) := by
  rw [exec_tmEnqueue, execTmEnqueue, found]
  rfl

section Enter

variable {s : State} {p : Pkt}

theorem State.tmEnter_misroutes (misroutes : s.Misroutes p) : s.tmEnter p = (s.stat R.TMG_MISROUTE_CNT).txDropped p :=
  if_pos misroutes

theorem State.tmEnter_oversize (routed : ¬ s.Misroutes p) (oversize : s.classRoom p < s.entryLen p) :
    s.tmEnter p = (s.stat R.TMG_OVERSIZE_CNT).txDropped p :=
  (if_neg routed).trans (if_pos oversize)

/-- A packet that no policer meters is green. -/
theorem State.police_unmetered (len : Nat) (unmetered : p.g Md.policerEn = 0) : s.police p len = (0, s) :=
  if_pos (.inl unmetered)

theorem State.policeDrop_green : s.policeDrop p 0 = (false, s) := by
  simp [State.policeDrop]

/-- Past its checks, a packet that no policer meters goes to admission. -/
theorem State.tmEnter_unmetered (routed : ¬ s.Misroutes p) (fits : s.entryLen p ≤ s.classRoom p) (unmetered : p.g Md.policerEn = 0) :
    s.tmEnter p = s.admit1 (p.g Md.tmQueue) (s.groupOf (p.g Md.tmQueue)) p 0 (cellsOf (s.entryLen p)) := by
  refine (if_neg routed).trans ((if_neg (Nat.not_lt.2 fits)).trans ?_)
  dsimp only
  rw [State.police_unmetered _ unmetered, State.policeDrop_green]
  rfl

variable {q g cells : Nat}

theorem State.admit1_noCell (colour : Nat) (full : s.rd F.TMG_STATUS_FREE_CELLS < cells) :
    s.admit1 q g p colour cells = (s.stat R.TMG_NO_CELL_CNT).txDropped p :=
  if_pos full

theorem State.admit1_green (room : cells ≤ s.rd F.TMG_STATUS_FREE_CELLS) (queueShare : (s.tq q).occ + cells ≤ s.tmE tQueue q 64 18)
    (groupShare : (s.tg g).occ + cells ≤ s.tmE tGroup g 88 18) : s.admit1 q g p 0 cells = s.tmPut q g cells p := by
  refine (if_neg (Nat.not_lt.2 room)).trans (if_pos ?_)
  simp [queueShare, groupShare]

end Enter

/-! TM_SELECT (R342, R570) -/

section Select

variable {p : Nat} {s : State}

theorem State.tmSelect_silent (silent : s.portSends p = false) : s.tmSelect p = s :=
  if_pos (by simp [silent])

theorem State.tmSelect_free (sends : s.portSends p = true) (eligible : bktOk (s.profP p) (Map.get s.tm.portTok 0 p) = true)
    (free : (s.prt1 p).tx = none) : s.tmSelect p = s.selectFrom p false (s.tmCount + 8) 7 := by
  refine (if_neg (by simp [sends, eligible])).trans ?_
  rw [free]

end Select

/-! PORT_FRAME_TX_END (R329, R574, R580) -/

/-- The stamp of frame f, which leaves port p now. -/
def State.frameStamp (s : State) (p : Nat) (f : TxFrame) : Int := s.stampTx p 0 - s.fst.now + f.start

/-- Frame f has left port p with a good end, and the port and its queue have counted it. -/
def State.frameOut (s : State) (p : Nat) (f : TxFrame) : State :=
  let l := f.pkt.data
  let a := (s.setPrt p { s.prt1 p with tx := none }).emit (.frame p (l ++ List.replicate (60 - l.length) 0) (s.frameStamp p f) f.stomp)
  let b := (a.stat (R.PRT_TX_PKTS_CNT p)).statAdd (R.PRT_TX_BYTES_CNT p) (max l.length 60 + 4)
  b.setTq f.q { b.tq f.q with txPkts := ((b.tq f.q).txPkts + 1) % 2 ^ 64, txBytes := ((b.tq f.q).txBytes + l.length) % 2 ^ 64 }

/-- Its sender has the outcome, its cells are free, and the control frames that waited for its end are sent. -/
def State.frameDone (s : State) (p : Nat) (f : TxFrame) : State :=
  let stamp := s.frameStamp p f
  (((s.frameOut p f).txOutcome f.pkt 0 (stamp / 65536).toNat (stamp % 65536).toNat ((s.frameOut p f).rdB F.FST_STATUS_ALIGNED)).freeCells
    f.q f.cells).ctlFlush p

/-- A frame of port p that was preempted goes on. -/
def State.fragResumes (s : State) (p : Nat) : Out :=
  match (s.prt1 p).frag with
  | some g => .next (s.setPrt p { s.prt1 p with frag := none, tx := some { g with start := s.fst.now } })
  | none => .next s

theorem State.fragResumes_none {s : State} {p : Nat} (whole : (s.prt1 p).frag = none) : s.fragResumes p = .next s := by
  rw [State.fragResumes, whole]

theorem State.fragResumes_some {s : State} {p : Nat} {g : TxFrame} (waits : (s.prt1 p).frag = some g) :
    s.fragResumes p = .next (s.setPrt p { s.prt1 p with frag := none, tx := some { g with start := s.fst.now } }) := by
  rw [State.fragResumes, waits]

theorem exec_portFrameTxEnd_idle {p : Nat} {s : State} (idle : (s.prt1 p).tx = none) : exec (.portFrameTxEnd p) s = .next s := by
  rw [exec_portFrameTxEnd, execPortFrameTxEnd, idle]

theorem exec_portFrameTxEnd_sent {p : Nat} {f : TxFrame} {s : State} (sends : (s.prt1 p).tx = some f) (plain : f.secy = false)
    (good : f.stomp = false) : exec (.portFrameTxEnd p) s = (s.frameDone p f).fragResumes p := by
  rw [exec_portFrameTxEnd, execPortFrameTxEnd, sends]
  dsimp only
  rw [if_neg (by simp [plain]), if_neg (by simp [good])]
  rfl

/-! Gate lists (R346-R351) -/

/-- The list that commit c makes of the administrative list of its port. -/
def State.committed (s : State) (c : AdmCmd) : GateList :=
  { base := c.word 0x10, cycle := bitsOf (c.word 0x18) 0 32, start := none,
    entries := (s.gateAdmin (bitsOf (c.word 0x08) 0 3) (bitsOf (c.word 0x08) 16 11)).map (fun e => (e % 256, bitsOf e 32 32)) }

section Commit

variable {f : Nat} {s t : State} {c : AdmCmd}
  (verified : s.Verified f 0x2A [0x07FF0107, 2 ^ 64 - 1, 0xFFFFFFFF] (fun c => bitOf (c.word 0x08) 8 || s.gateOk c) c t)
include verified

theorem exec_gateListCommit_cancels (cancel : bitOf (c.word 0x08) 8 = true) :
    let p := bitsOf (c.word 0x08) 0 3
    exec (.gateListCommit f) s = .next (((t.setGate p { t.gate p with pend := none }).showGate p).admDone f stSuccess) := by
  rw [exec_gateListCommit, execGateListCommit, verified.admCrit]
  exact congrArg Host.Outcome.next (if_pos cancel)

theorem exec_gateListCommit_copies (commit : bitOf (c.word 0x08) 8 = false) :
    let p := bitsOf (c.word 0x08) 0 3
    exec (.gateListCommit f) s = .next (((t.setGate p { t.gate p with
      copying := (t.gate p).copying ++ [(f, t.committed c)], pend := none }).showGate p).admWait f) := by
  rw [exec_gateListCommit, execGateListCommit, verified.admCrit]
  exact congrArg Host.Outcome.next (if_neg (by simp [commit]))

end Commit

theorem exec_gateListCopyDone_first {p f : Nat} {l : GateList} {r : List (Nat × GateList)} {s : State}
    (copying : (s.gate p).copying = (f, l) :: r) :
    exec (.gateListCopyDone p) s = .next (((s.setGate p { s.gate p with
      pend := if r.isEmpty then some l else (s.gate p).pend, copying := r }).showGate p).admDone f stSuccess { r0 := l.start.getD 0 }) := by
  rw [exec_gateListCopyDone, execGateListCopyDone, copying]

/-- List l, which starts at st, is the operating list of port p. -/
def State.gateOperates (s : State) (p : Nat) (l : GateList) (st : Nat) : State :=
  (((s.setGate p { s.gate p with oper := some l, pend := none }).wrB (F.TMG_GATE_STATUS_SUSPENDED p) false).wr
    (F.TMG_GATE_OPER_START_START p) st).raise F.TMG_INT_STATUS_GATE_STARTED

theorem exec_gateListStart_come {p st : Nat} {l : GateList} {s : State} (waits : (s.gate p).pend = some l) (start : l.start = some st)
    (come : st ≤ s.fst.nowNs) : exec (.gateListStart p) s = .next (((s.gateOperates p l st).showGate p).showStates p) := by
  rw [exec_gateListStart, execGateListStart, waits]
  dsimp only
  rw [start]
  exact if_pos come

/-! Samples (R354-R356) -/

section Sample

variable {k : Nat} {s : State}

/-- The number of the round that set k comes to. -/
def State.roundNo (s : State) (k : Nat) : Nat := (s.rd (F.TMG_SAMPLE_STATUS_ROUND k) + 1) % 2 ^ 32

/-- ROUND of set k counts a round. -/
def State.countRound (s : State) (k : Nat) : State := s.wr (F.TMG_SAMPLE_STATUS_ROUND k) (s.roundNo k)

/-- The records of round r of set k: its header, then one for each queue. -/
def State.roundRecs (s : State) (k r : Nat) : State :=
  (s.sampleRec k (2 + s.rd (F.TMG_SAMPLE_CFG_COUNT_M1 k) * 4 + r * 2 ^ 32) s.fst.drip).each
    (List.range (s.rd (F.TMG_SAMPLE_CFG_COUNT_M1 k) + 1)) (fun t i =>
      t.sampleRec k (t.sampleQueue k (s.rd (F.TMG_SAMPLE_CFG_FIRST k) + i)).1 (t.sampleQueue k (s.rd (F.TMG_SAMPLE_CFG_FIRST k) + i)).2)

/-- The largest sojourns of set k begin anew. -/
def State.clearMaxs (s : State) (k : Nat) : State :=
  { s with tm := { s.tm with samples := Map.set s.tm.samples {} k { Map.get s.tm.samples {} k with maxs := [] } } }

theorem exec_sampleRound_inactive (busy : Bool) (inactive : s.rdB (F.TMG_SAMPLE_STATUS_ACTIVE k) = false) :
    exec (.sampleRound k busy) s = .next s := by
  rw [exec_sampleRound]
  exact if_neg (by simp [inactive])

section Due

variable (active : s.rdB (F.TMG_SAMPLE_STATUS_ACTIVE k) = true) (due : s.fst.drip % 2 ^ s.rd (F.TMG_SAMPLE_CFG_K k) = 0)
include active due

theorem exec_sampleRound_skips :
    exec (.sampleRound k true) s = .next (((s.countRound k).stat (R.TMG_SAMPLE_SKIP_CNT k)).raise F.TMG_INT_STATUS_SAMPLE_SKIP) := by
  rw [exec_sampleRound, execSampleRound, if_pos ⟨active, due⟩]
  exact if_pos (.inl rfl)

theorem exec_sampleRound_writes (master : ((s.countRound k).func (s.rd (F.TMG_SAMPLE_CFG_FUNC k))).cfg.master = true)
    (up : (s.countRound k).rdB (F.HIF_LINK_STATUS_DL_UP ((s.countRound k).attOf (s.rd (F.TMG_SAMPLE_CFG_FUNC k)))) = true) :
    exec (.sampleRound k false) s = .next (((s.countRound k).roundRecs k (s.roundNo k)).clearMaxs k) := by
  rw [exec_sampleRound, execSampleRound, if_pos ⟨active, due⟩]
  exact if_neg (not_or.2 ⟨Bool.false_ne_true, not_or.2 ⟨ne_false_of_eq_true master, ne_false_of_eq_true up⟩⟩)

end Due

theorem exec_sampleCfgWrite_stops {v : Word} (stop : bitsOf v.toNat 0 1 = 0) :
    exec (.sampleCfgWrite k v) s = .next ((s.setReg (R.TMG_SAMPLE_CFG k) (BitVec.ofNat 64 (v.toNat &&& 0x000F0FFFFFFFFFFF))).wrB
      (F.TMG_SAMPLE_STATUS_ACTIVE k) false) := by
  rw [exec_sampleCfgWrite]
  exact congrArg Host.Outcome.next (if_pos stop)

/-- The ring is at record 0, PHASE 1. -/
theorem State.sampleRing_restarts (v : Word) :
    (Map.get (s.sampleRing k v).tm.samples {} k).next = 0 ∧ (Map.get (s.sampleRing k v).tm.samples {} k).phase = true := by
  simp [State.sampleRing]

end Sample

/-! The table port (R352, R358, R359) -/

section Table

variable {a t i : Nat} {s : State}

/-- Port a has begun an access to entry i of table t. -/
def State.tmBegin (s : State) (a t i : Nat) (write : Bool) : State :=
  (((s.wr (F.TMG_TBL_CTRL_TABLE a) t).wr (F.TMG_TBL_CTRL_INDEX a) i).wrB (F.TMG_TBL_CTRL_WRITE a) write).wrB (F.TMG_TBL_CTRL_BUSY a) true

/-- ERR_CODE of a write of entry i of table t by port a, 0 where the write is made. -/
def State.tmWriteCode (s : State) (a t i : Nat) : Nat :=
  if 8 < t ∨ tmSize t ≤ i then 1
  else if t = 7 ∨ t = 8 ∨ (t = tProfile ∧ i = 0) then 3
  else if t = tGateAdmin ∧ s.rdB (F.TMG_GATE_STATUS_COPYING (i / 1024)) then 4
  else if tmFieldsOk t (s.tmData a) = false then 2
  else 0

/-- The value's 32 bytes stand in the data registers of port a. -/
def State.tmShow (s : State) (a v : Nat) : State :=
  s.each (List.range 4) (fun y k => y.setReg (R.TMG_TBL_DATA a k) (BitVec.ofNat 64 (v / 2 ^ (64 * k))))

theorem State.tmWriteCode_absent (beyond : tmSize t ≤ i) : s.tmWriteCode a t i = 1 :=
  if_pos (.inr beyond)

theorem State.tmWriteCode_entry (table : t ≤ 6) (index : i < tmSize t) (free : ¬ (t = tProfile ∧ i = 0))
    (copied : ¬ (t = tGateAdmin ∧ s.rdB (F.TMG_GATE_STATUS_COPYING (i / 1024)) = true)) (fields : tmFieldsOk t (s.tmData a) = true) :
    s.tmWriteCode a t i = 0 := by
  have writable : ¬ (t = 7 ∨ t = 8 ∨ (t = tProfile ∧ i = 0)) := fun
    | .inl run => by omega
    | .inr (.inl counters) => by omega
    | .inr (.inr profile) => free profile
  rw [State.tmWriteCode, if_neg (by omega), if_neg writable, if_neg copied, if_neg (by simp [fields])]

theorem State.tmStart_busy (write : Bool) (k : State → State) (busy : s.rdB (F.TMG_TBL_CTRL_BUSY a) = true) :
    s.tmStart a t i write k = s :=
  if_pos busy

variable (idle : s.rdB (F.TMG_TBL_CTRL_BUSY a) = false)
include idle

theorem State.tmStart_idle (write : Bool) (k : State → State) : s.tmStart a t i write k = k (s.tmBegin a t i write) :=
  if_neg (by simp [idle])

theorem exec_tmTableRead_entry (table : t ≤ 8) (index : i < tmSize t) :
    exec (.tmTableRead a t i) s =
      .next (((s.tmBegin a t i false).tmShow a ((s.tmBegin a t i false).tmRead t i)).tmErr a 0) := by
  rw [exec_tmTableRead, execTmTableRead, State.tmTableRead, State.tmStart_idle idle]
  exact congrArg Host.Outcome.next (if_neg (by omega))

theorem exec_tmTableRead_absent (beyond : tmSize t ≤ i) :
    exec (.tmTableRead a t i) s = .next ((s.tmBegin a t i false).tmErr a 1) := by
  rw [exec_tmTableRead, execTmTableRead, State.tmTableRead, State.tmStart_idle idle]
  exact congrArg Host.Outcome.next (if_pos (.inr beyond))

theorem State.tmTableWrite_made (code : (s.tmBegin a t i true).tmWriteCode a t i = 0) :
    s.tmTableWrite a t i =
      let u := s.tmBegin a t i true
      (u.tmStore t i (u.tmMerge t i (u.tmData a))).tmErr a 0 := by
  rw [State.tmTableWrite, State.tmStart_idle idle]
  exact if_pos code

theorem State.tmTableWrite_refused (code : (s.tmBegin a t i true).tmWriteCode a t i ≠ 0) :
    s.tmTableWrite a t i =
      ((s.tmBegin a t i true).err R.TMG_TBL_REFUSED_CNT).tmErr a ((s.tmBegin a t i true).tmWriteCode a t i) := by
  rw [State.tmTableWrite, State.tmStart_idle idle]
  exact if_neg code

theorem exec_tmTableWrite_entry (code : (s.tmBegin a t i true).tmWriteCode a t i = 0) :
    exec (.tmTableWrite a t i) s =
      let u := s.tmBegin a t i true
      .next ((u.tmStore t i (u.tmMerge t i (u.tmData a))).tmErr a 0) :=
  congrArg Host.Outcome.next (State.tmTableWrite_made idle code)

theorem exec_tmTableWrite_absent (beyond : tmSize t ≤ i) :
    exec (.tmTableWrite a t i) s = .next (((s.tmBegin a t i true).err R.TMG_TBL_REFUSED_CNT).tmErr a 1) := by
  have code := State.tmWriteCode_absent (s := s.tmBegin a t i true) (a := a) beyond
  rw [exec_tmTableWrite, execTmTableWrite, State.tmTableWrite_refused idle (by simp [code]), code]

end Table

/-! The statements -/

/-- Settles O40: a packet's entry by the lemmas of `State.tmEnter` and `State.admit1`, the port's commands by those of their
circumstances above. -/
theorem trafficManagerPackets : Obligations.TrafficManagerPackets := by
  unfold Obligations.TrafficManagerPackets
  refine ⟨?entry, fun p s sends eligible free => congrArg Host.Outcome.next (State.tmSelect_free sends eligible free),
    fun p s silent => congrArg Host.Outcome.next (State.tmSelect_silent silent),
    fun p f s sends plain good => ⟨fun whole => (exec_portFrameTxEnd_sent sends plain good).trans (State.fragResumes_none whole),
      fun g waits => (exec_portFrameTxEnd_sent sends plain good).trans (State.fragResumes_some waits)⟩,
    fun p s idle => exec_portFrameTxEnd_idle idle⟩
  case entry =>
    intro id p s found
    rw [exec_tmEnqueue_found found]
    refine ⟨fun disabled => congrArg _ (State.tmEnter_misroutes (.inr (.inr (.inl disabled)))),
      fun otherPort => congrArg _ (State.tmEnter_misroutes (.inl otherPort)), fun routed => ⟨?oversize, ?noCell, ?green⟩⟩
    case oversize =>
      intro oversize
      exact congrArg _ (State.tmEnter_oversize routed oversize)
    case noCell =>
      intro fits unmetered full
      exact congrArg _ ((State.tmEnter_unmetered routed fits unmetered).trans (State.admit1_noCell 0 full))
    case green =>
      intro fits unmetered room queueShare groupShare
      exact congrArg _ ((State.tmEnter_unmetered routed fits unmetered).trans (State.admit1_green room queueShare groupShare))

/-- Settles O41: each command by the lemma of its circumstances above; a write of an entry by its code, `State.tmWriteCode`. -/
theorem gatesSamplesAndTables : Obligations.GatesSamplesAndTables := by
  unfold Obligations.GatesSamplesAndTables
  exact ⟨exec_gateChange,
    fun f s t c verified => ⟨exec_gateListCommit_cancels verified,
      fun commit => ⟨t.committed c, rfl, rfl, rfl, exec_gateListCommit_copies verified commit⟩⟩,
    fun p f l r s copying => exec_gateListCopyDone_first copying,
    fun p st l s waits start come => exec_gateListStart_come waits start come,
    fun k s active due => ⟨exec_sampleRound_skips active due,
      fun master up => ⟨_, _, exec_sampleRound_writes active due master up, rfl, rfl⟩⟩,
    fun k busy s inactive => exec_sampleRound_inactive busy inactive,
    fun k v s stop => exec_sampleCfgWrite_stops stop,
    fun k v s => ⟨s.sampleRing k v, exec_sampleRingWrite k v s, rfl, State.sampleRing_restarts v⟩,
    fun a t i s busy => ⟨congrArg Host.Outcome.next (State.tmStart_busy _ _ busy), congrArg Host.Outcome.next (State.tmStart_busy _ _ busy)⟩,
    fun a t i s idle => ⟨exec_tmTableRead_entry idle,
      fun beyond => ⟨exec_tmTableRead_absent idle beyond, exec_tmTableWrite_absent idle beyond⟩,
      fun table index free copied fields => exec_tmTableWrite_entry idle (State.tmWriteCode_entry table index free copied fields)⟩,
    exec_tmTableAccessDone⟩

end Sys2Proof.Machine
end

section
/-! PROOFS. The statements of 09_tunnels_and_crypto.md on packets and frames. First an operation of the crypto unit on a packet (R363-R368,
R377, R380, R388, R389), then the SecY (R385, R386), the context cache (R363) and the lanes (R390), then the statement, which cites these. -/

namespace Sys2Proof.Machine

open Sys2Proof

/-! An operation on a packet that names a session (R363-R366, R368) -/

section Operation

variable {id kind n : Nat} {w : CryWork} {s : State}

/-- The operation of the session's kind takes the packet out of the unit and runs. -/
theorem State.Ciphers.cryRun (h : s.Ciphers id kind n w) (k : State → CryWork → Nat → State) :
    s.cryRun id kind k = k (s.cryOff id) w n := by
  obtain ⟨work, rfl, cached, gate, rfl, fresh⟩ := h
  rw [State.cryRun, work]
  dsimp only
  rw [if_neg (ne_false_of_eq_true cached), gate]
  exact (if_neg (not_not.2 rfl)).trans (if_neg fresh)

/-- An operation of another kind leaves the packet where it is. -/
theorem State.Ciphers.cryRun_other (h : s.Ciphers id kind n w) {other : Nat} (differs : kind ≠ other) (k : State → CryWork → Nat → State) :
    s.cryRun id other k = s := by
  obtain ⟨work, rfl, cached, gate, rfl, -⟩ := h
  rw [State.cryRun, work]
  dsimp only
  rw [if_neg (ne_false_of_eq_true cached), gate]
  exact if_pos differs

/-- What the gate refuses is dropped, whatever the operation. -/
theorem State.cryRun_drop (work : cryFind id s.path.cry [] = some w) (cached : s.cry.cache.contains (w.pkt.g Md.cryptoSession) = true)
    {c : Nat} (gate : s.cryGate w.pkt w.point = .drop c) (k : State → CryWork → Nat → State) :
    s.cryRun id kind k = (s.cryOff id).cryDropCnt w c := by
  rw [State.cryRun, work]
  dsimp only
  rw [if_neg (ne_false_of_eq_true cached), gate]

end Operation

/-! Packets that an operation cannot work on (R377, R380, R388, R389) -/

section Malformed

variable {w : CryWork} {n : Nat} {s : State}

theorem State.espIn_noEsp (absent : espFind w.pkt.data (s.cx n Cx.natt == 1) = none) :
    s.espIn w n = s.cryDropCnt w R.CRY_MALFORMED_CNT := by
  rw [State.espIn, absent]

theorem State.espIn_otherSpi {o e stop : Nat} {v6 : Bool} (found : espFind w.pkt.data (s.cx n Cx.natt == 1) = some (o, v6, e, stop))
    (other : beNat ((w.pkt.data.drop e).take 4) ≠ s.cx n Cx.spi) : s.espIn w n = s.cryDropCnt w R.CRY_MALFORMED_CNT := by
  rw [State.espIn, found]
  exact if_pos other

theorem State.espOut_noIp (absent : firstIp w.pkt.data = none) :
    s.espOut w n = (s.assignSeq n).2.cryDropCnt w R.CRY_MALFORMED_CNT := by
  rw [State.espOut, absent]

theorem State.tlsTx_noTcp (absent : tcpFind w.pkt.data = none) :
    s.tlsTx w n = (s.assignSeq n).2.cryDropCnt w R.CRY_MALFORMED_CNT := by
  rw [State.tlsTx, absent]

theorem State.tlsRx_noTcp (absent : tcpFind w.pkt.data = none) : s.tlsRx w n = s.tlsDeliver w n 3 w.pkt.data := by
  rw [State.tlsRx, absent]

end Malformed

/-! MACSEC_TX_FRAME (R378, R382, R385) -/

/-- The session that port p's association TX_AN names. -/
def State.txSession (s : State) (p : Nat) : Nat := s.rd (F.CRY_SECY_TXSA_SESSION p (s.rd (F.CRY_SECY_CFG_TX_AN p)))

/-- Frame l of port p under integrity protection alone, by session n with association an and packet number pn: its SecTAG stands behind the
addresses and its ICV at the end. -/
def State.secProtect (s : State) (p an n pn : Nat) (l : List Byte) : List Byte :=
  let sci := leBytes (s.reg (R.CRY_SECY_TXSCI p)).toNat 8
  let body := l.drop 12
  let tag := secTag an false (if body.length < 48 then body.length else 0) pn sci
  l.take 12 ++ tag ++ body ++ gcmTag16 (s.gcmKey n) (s.secNonce n sci pn (s.xpn p)) (l.take 12 ++ tag ++ body) []

/-- An association in use that names a valid transmit session is not refused. -/
theorem State.txSession_stands {s : State} {p : Nat} (inUse : s.rdB (F.CRY_SECY_TXSA_IN_USE p (s.rd (F.CRY_SECY_CFG_TX_AN p))) = true)
    (valid : s.cx (s.txSession p) Cx.valid = 1) (kind : s.cx (s.txSession p) Cx.kind = kMacsecTx) :
    ¬ (s.rdB (F.CRY_SECY_TXSA_IN_USE p (s.rd (F.CRY_SECY_CFG_TX_AN p))) = false ∨ s.cx (s.txSession p) Cx.valid = 0 ∨
      s.cx (s.txSession p) Cx.kind ≠ kMacsecTx) := by
  simp [inUse, valid, kind]

section Transmit

variable {p : Nat} {f : TxFrame} {s : State} (sends : (s.prt1 p).tx = some f) (protect : f.secy = true)
include sends protect

theorem exec_macsecTxFrame_notInUse (unused : s.rdB (F.CRY_SECY_TXSA_IN_USE p (s.rd (F.CRY_SECY_CFG_TX_AN p))) = false) :
    exec (.macsecTxFrame p) s = .next ((s.err R.CRY_NO_SESSION_CNT).secyDrop p f) := by
  rw [exec_macsecTxFrame, execMacsecTxFrame, sends]
  exact (if_neg (ne_false_of_eq_true protect)).trans (if_pos (.inl unused))

variable (inUse : s.rdB (F.CRY_SECY_TXSA_IN_USE p (s.rd (F.CRY_SECY_CFG_TX_AN p))) = true) (valid : s.cx (s.txSession p) Cx.valid = 1)
  (kind : s.cx (s.txSession p) Cx.kind = kMacsecTx) (cached : s.cry.cache.contains (s.txSession p) = true)
include inUse valid kind cached

theorem exec_macsecTxFrame_exhausted (exhausted : s.cx (s.txSession p) Cx.exhausted = 1) :
    exec (.macsecTxFrame p) s = .next ((s.err R.CRY_EXHAUSTED_CNT).secyDrop p f) := by
  have stands := State.txSession_stands inUse valid kind
  rw [exec_macsecTxFrame, execMacsecTxFrame, sends]
  exact (if_neg (ne_false_of_eq_true protect)).trans
    ((if_neg stands).trans ((if_neg (ne_false_of_eq_true cached)).trans (if_pos exhausted)))

/-- The frame takes the session's next number and is counted, and the port has it with SecTAG and ICV. -/
theorem exec_macsecTxFrame_protects (fresh : s.cx (s.txSession p) Cx.exhausted = 0)
    (plain : (s.assignSeq (s.txSession p)).2.rdB (F.CRY_SECY_CFG_CONFIDENTIAL p) = false) :
    exec (.macsecTxFrame p) s = .next (
      let n := s.txSession p
      let u := (s.assignSeq n).2
      let v := (u.account n (f.pkt.data.drop 12).length).stat R.CRY_OUT_PKT_CNT
      v.setPrt p { v.prt1 p with tx := some { f with secy := false, pkt := { f.pkt with
        data := u.secProtect p (s.rd (F.CRY_SECY_CFG_TX_AN p)) n (s.assignSeq n).1 f.pkt.data } } }) := by
  have stands := State.txSession_stands inUse valid kind
  have unexhausted : s.cx (s.txSession p) Cx.exhausted ≠ 1 := by simp [fresh]
  unfold State.txSession at *
  rw [exec_macsecTxFrame, execMacsecTxFrame, sends]
  dsimp only
  rw [if_neg (ne_false_of_eq_true protect), if_neg stands, if_neg (ne_false_of_eq_true cached), if_neg unexhausted, plain]
  rfl

end Transmit

/-! MACSEC_RX_FRAME (R383, R386) -/

section Receive

variable {p : Nat} {f : RxFrame} {l : List RxFrame} {s : State} (received : (s.prt1 p).secyRx = f :: l)
include received

theorem exec_macsecRxFrame_passes {d : List Byte} (fate : s.secFate p f.data = .pass d) :
    exec (.macsecRxFrame p) s = .next ((s.setPrt p { s.prt1 p with secyRx := l }).portDeliver p { f with data := d }) := by
  rw [exec_macsecRxFrame, execMacsecRxFrame, received]
  dsimp only
  rw [fate]

/-- A frame that a register counts and no session. -/
theorem exec_macsecRxFrame_drops {r : Nat} (fate : s.secFate p f.data = .drop (some r) none) :
    exec (.macsecRxFrame p) s = .next ((s.setPrt p { s.prt1 p with secyRx := l }).err r) := by
  rw [exec_macsecRxFrame, execMacsecRxFrame, received]
  dsimp only
  rw [fate]

/-- An accepted number above the session's highest becomes the highest. -/
theorem exec_macsecRxFrame_accepts {n pn k : Nat} {d : List Byte} (fate : s.secFate p f.data = .accept n pn d k)
    (cached : s.cry.cache.contains n = true) (higher : (s.setPrt p { s.prt1 p with secyRx := l }).cx n Cx.seq < pn) :
    exec (.macsecRxFrame p) s = .next ((((((s.setPrt p { s.prt1 p with secyRx := l }).setCx n Cx.seq pn).softCheck n pn).account n k).stat
      R.CRY_IN_PKT_CNT).portDeliver p { f with data := d }) := by
  rw [exec_macsecRxFrame, execMacsecRxFrame, received]
  dsimp only
  rw [fate]
  dsimp only
  rw [if_neg (ne_false_of_eq_true cached), if_pos higher]

end Receive

/-! CRYPTO_CONTEXT_FETCH (R363) -/

section Fetch

variable {n : Nat} {s : State}

theorem exec_cryptoContextFetch_arrives (absent : s.cry.cache.contains n = false)
    (awaited : s.path.cry.any (fun w => w.pkt.g Md.cryptoSession == n) = true) (room : s.cry.cache.length < 65536) :
    exec (.cryptoContextFetch n) s = .next { s with cry := { s.cry with cache := n :: s.cry.cache } } := by
  rw [exec_cryptoContextFetch, execCryptoContextFetch, absent, awaited]
  exact if_pos room

theorem exec_cryptoContextFetch_cached (cached : s.cry.cache.contains n = true) : exec (.cryptoContextFetch n) s = .next s := by
  rw [exec_cryptoContextFetch, execCryptoContextFetch, cached]
  rfl

end Fetch

/-! CRYPTO_LANE_FAULT (R390) -/

/-- The entry of a fault of lane l whose operation of session n lane o repeated; the state is the one that the outcome has left. -/
def State.laneFault (s : State) (l o cause n corr lower upper : Nat) : State :=
  s.fault { cls := 0x06, cause := cause, unit := unitOf 0x06 l, corr := corr, snapshot := s.rd (F.CRY_LANE_STATUS_TRANSIENT l),
            lower := lower, upper := upper, sparesOut := upper == 3, detail := o % 16 + n % 2 ^ 22 * 16 }

/-- Lane l is retired, and one lane fewer of its kind serves. -/
def State.laneRetired (s : State) (l : Nat) : State :=
  let v := (s.wr (F.CRY_LANE_STATUS_STATE l) 1).raise F.CRY_INT_STATUS_LANE_RETIRED
  let serving := if l < 8 then F.CRY_STATUS_GCM_LANES else F.CRY_STATUS_XTS_LANES
  v.wr serving (v.rd serving - 1)

section Lane

variable {l o : Nat} {s : State} (serves : s.rd (F.CRY_LANE_STATUS_STATE l) = 0) (repeats : s.rd (F.CRY_LANE_STATUS_STATE o) = 0)
  (other : l ≠ o) (same : sameLane l o = true)
include serves repeats other same

theorem State.lanesServe : ¬ (s.rd (F.CRY_LANE_STATUS_STATE l) = 1 ∨ s.rd (F.CRY_LANE_STATUS_STATE o) = 1 ∨ l = o ∨ ¬ sameLane l o) := by
  simp [serves, repeats, other, same]

theorem exec_cryptoLaneFault_transient (c n : Nat) :
    exec (.cryptoLaneFault l o c n 0) s =
      .next ((s.newCorr.2.errAt (R.CRY_LANE_STATUS l) 16).laneFault l o c n s.newCorr.1 1 1) := by
  rw [exec_cryptoLaneFault, execCryptoLaneFault, if_neg (State.lanesServe serves repeats other same)]
  rfl

theorem exec_cryptoLaneFault_lasting (c n : Nat) :
    exec (.cryptoLaneFault l o c n 1) s = .next ((s.newCorr.2.laneRetired l).laneFault l o c n s.newCorr.1 2 3) := by
  rw [exec_cryptoLaneFault, execCryptoLaneFault, if_neg (State.lanesServe serves repeats other same)]
  rfl

end Lane

/-! The statement -/

/-- Settles O42: the operations by `State.Ciphers.cryRun` and the lemmas on malformed packets, a protected frame by
`State.secProtect`, the rest by the lemma of its circumstances above. -/
theorem cryptographicOperations : Obligations.CryptographicOperations := by
  unfold Obligations.CryptographicOperations
  refine ⟨?espIn, ?espOut, ?tlsTx, ?tlsRx, fun id w c s work cached gate => congrArg Host.Outcome.next (State.cryRun_drop work cached gate _),
    fun p f s sends protect => ⟨exec_macsecTxFrame_notInUse sends protect, fun inUse valid kind cached =>
      ⟨exec_macsecTxFrame_exhausted sends protect inUse valid kind cached, exec_macsecTxFrame_protects sends protect inUse valid kind cached⟩⟩,
    fun p f l s received => ⟨fun d => exec_macsecRxFrame_passes received, fun r => exec_macsecRxFrame_drops received,
      fun n pn d k => exec_macsecRxFrame_accepts received⟩,
    fun n s => exec_cryptoContextFetch_arrives, fun n s => exec_cryptoContextFetch_cached,
    fun l o c n s serves repeats other same => ⟨exec_cryptoLaneFault_transient serves repeats other same c n,
      exec_cryptoLaneFault_lasting serves repeats other same c n⟩⟩
  case espIn =>
    intro id n w s ciphers
    have runs : exec (.espInOperation id) s = .next ((s.cryOff id).espIn w n) := congrArg Host.Outcome.next (ciphers.cryRun _)
    exact ⟨fun absent => runs.trans (congrArg _ (State.espIn_noEsp absent)),
      fun o v6 e stop found otherSpi => runs.trans (congrArg _ (State.espIn_otherSpi found otherSpi)), runs,
      congrArg Host.Outcome.next (ciphers.cryRun_other (by decide) _), congrArg Host.Outcome.next (ciphers.cryRun_other (by decide) _)⟩
  case espOut =>
    intro id n w s ciphers
    have runs : exec (.espOutOperation id) s = .next ((s.cryOff id).espOut w n) := congrArg Host.Outcome.next (ciphers.cryRun _)
    exact ⟨runs, fun absent => runs.trans (congrArg _ (State.espOut_noIp absent))⟩
  case tlsTx =>
    intro id n w s ciphers
    have runs : exec (.tlsTxOperation id) s = .next ((s.cryOff id).tlsTx w n) := congrArg Host.Outcome.next (ciphers.cryRun _)
    exact ⟨runs, fun absent => runs.trans (congrArg _ (State.tlsTx_noTcp absent))⟩
  case tlsRx =>
    intro id n w s ciphers
    have runs : exec (.tlsRxSegment id) s = .next ((s.cryOff id).tlsRx w n) := congrArg Host.Outcome.next (ciphers.cryRun _)
    exact ⟨runs, fun absent => runs.trans (congrArg _ (State.tlsRx_noTcp absent))⟩

end Sys2Proof.Machine
end

section
/-! PROOFS. The statements of 09_tunnels_and_crypto.md on sessions and keys, with the envelopes of 15_trust.md (R616-R621). First
SESSION_WRITE and SESSION_UPDATE (R373, R389), then the installation and retirement of keys (R374, R375, R619-R621), the session port (R392)
and the registers of the SecY (R393), then the statement, which cites these. -/

namespace Sys2Proof.Machine

open Sys2Proof

/-! SESSION_WRITE (R373) -/

/-- The context that SESSION_WRITE of x makes of session n while it has no key: the device's fields stay, and OWNER_GEN is the owner's. -/
def State.writtenCtx (s : State) (n x : Nat) : Nat :=
  let new := mixBits x (s.ctx n) cxDevice
  putBits new 28 12 (if bitsOf new 16 12 = 0xFFF then 0 else (s.func (bitsOf new 16 12)).gen)

/-- The 128 bytes that a SESSION_WRITE of function f points to. -/
def State.sessionData (s : State) (f : Nat) (c : AdmCmd) : Nat := leNat (s.hostRead (s.attOf f) (c.word 0x10) 128)

section Write

variable {f : Nat} {s : State} {c : AdmCmd} (checked : s.Checked f 0x30 false [0x3FFFFF, 2 ^ 64 - 1] (fun _ => true) c)
include checked

theorem exec_sessionWrite_notOwned (foreign : s.maySession f (bitsOf (c.word 8) 0 22) = false) :
    exec (.sessionWrite f) s = .next (s.admDone f stNotPermitted) := by
  rw [exec_sessionWrite, execSessionWrite, checked.admRun]
  exact congrArg Host.Outcome.next (if_pos (by simp [foreign]))

variable (owned : s.maySession f (bitsOf (c.word 8) 0 22) = true)
include owned

theorem exec_sessionWrite_badContext (bad : cxGood (s.sessionData f c) = false) :
    exec (.sessionWrite f) s = .next (s.admDone f stBadField) := by
  rw [exec_sessionWrite, execSessionWrite, checked.admRun]
  exact congrArg Host.Outcome.next ((if_neg (not_not.2 owned)).trans (if_pos (ne_true_of_eq_false bad)))

/-- The manager writes any session that has no key. -/
theorem exec_sessionWrite_unkeyed (good : cxGood (s.sessionData f c) = true) (unkeyed : s.cx (bitsOf (c.word 8) 0 22) Cx.keyValid ≠ 1)
    (manager : isMgmt f = true) :
    exec (.sessionWrite f) s =
      .next ((s.setCtx (bitsOf (c.word 8) 0 22) (s.writtenCtx (bitsOf (c.word 8) 0 22) (s.sessionData f c))).admDone f stSuccess) := by
  unfold State.sessionData at *
  rw [exec_sessionWrite, execSessionWrite, checked.admRun]
  dsimp only
  rw [if_neg (not_not.2 owned), if_neg (not_not.2 good), if_neg unkeyed, if_neg (fun h => h.1 manager), if_neg (fun h => unkeyed h.1)]
  rfl

end Write

/-! SESSION_UPDATE (R389) -/

/-- Session n has a record header confirmed at TCP sequence number tcp, of record number seq. -/
def State.confirmHeader (s : State) (n tcp seq : Nat) : State :=
  let u := (s.setCx n Cx.resyncTcp tcp).setCx n Cx.recSeq seq
  { u with cry := { u.cry with confirmed := if u.cry.confirmed.contains n then u.cry.confirmed else n :: u.cry.confirmed } }

section Update

variable {f : Nat} {s : State} {c : AdmCmd} (checked : s.Checked f 0x31 false [0x3FFFFF, 2 ^ 32 - 1, 2 ^ 64 - 1] (fun _ => true) c)
include checked

theorem exec_sessionUpdate_notOwned (foreign : s.maySession f (bitsOf (c.word 8) 0 22) = false) :
    exec (.sessionUpdate f) s = .next (s.admDone f stNotPermitted) := by
  rw [exec_sessionUpdate, execSessionUpdate, checked.admRun]
  exact congrArg Host.Outcome.next (if_pos (by simp [foreign]))

theorem exec_sessionUpdate_confirms (owned : s.maySession f (bitsOf (c.word 8) 0 22) = true)
    (kind : s.cx (bitsOf (c.word 8) 0 22) Cx.kind = kTlsRx) (search : s.cx (bitsOf (c.word 8) 0 22) Cx.rxState = 1) :
    exec (.sessionUpdate f) s =
      .next ((s.confirmHeader (bitsOf (c.word 8) 0 22) (c.word 0x10) (c.word 0x18)).admDone f stSuccess) := by
  rw [exec_sessionUpdate, execSessionUpdate, checked.admRun]
  exact congrArg Host.Outcome.next
    ((if_neg (not_not.2 owned)).trans ((if_neg (not_not.2 kind)).trans (if_neg (not_not.2 search))))

end Update

/-! Key envelopes (R616-R621) -/

/-- The envelope that a key command of function f points to. -/
def State.envelopeData (s : State) (f : Nat) (c : AdmCmd) : List Byte := s.hostRead (s.attOf f) (c.word 8) 256

section Envelope

variable {f addr : Nat} {kinds : List Nat} {own : Nat → Bool} {done : State → List Byte → Nat → State} {e : List Byte} {s : State}
  (data : s.hostRead (s.attOf f) addr 256 = e) (kind : kinds.contains (envAt e 0 8 8) = true) (form : s.envForm e = true)
include data kind form

theorem State.envelope_notOwned (foreign : s.envOwned f e = false) : s.envelope f addr kinds own done = s.admDone f stNotPermitted := by
  subst data
  exact (if_neg (not_not.2 ⟨kind, form⟩)).trans (if_pos fun ⟨owned, _⟩ => ne_true_of_eq_false foreign owned)

variable (owned : s.envOwned f e = true) (admitted : own (envAt e 8 0 12) = true)
include owned admitted

theorem State.envelope_unwraps {key : Nat} (unwraps : Config.unwrap s.grt.tik e = some key) :
    s.envelope f addr kinds own done = done s e key := by
  subst data
  rw [State.envelope, if_neg (not_not.2 ⟨kind, form⟩), if_neg (not_not.2 ⟨owned, admitted⟩), unwraps]

theorem State.envelope_fails (fails : Config.unwrap s.grt.tik e = none) :
    s.envelope f addr kinds own done = (s.err R.GRT_AUTH_FAIL_CNT).admDone f stAuthFailed := by
  subst data
  rw [State.envelope, if_neg (not_not.2 ⟨kind, form⟩), if_neg (not_not.2 ⟨owned, admitted⟩), fails]

end Envelope

/-! KEY_INSTALL (R621) -/

/-- The key is installed in the target that the envelope names. -/
def State.keyed (s : State) (e : List Byte) (key : Nat) : State := s.installKey (envAt e 0 8 8) (envAt e 0 32 32) key

section Install

variable {f : Nat} {s t : State} {c : AdmCmd} (verified : s.Verified f 0x32 [2 ^ 64 - 1] (fun _ => true) c t)
  (kind : [1, 2, 4].contains (envAt (t.envelopeData f c) 0 8 8) = true) (form : t.envForm (t.envelopeData f c) = true)
include verified kind form

theorem exec_keyInstall_notOwned (foreign : t.envOwned f (t.envelopeData f c) = false) :
    exec (.keyInstall f) s = .next (t.admDone f stNotPermitted) := by
  rw [exec_keyInstall, execKeyInstall, verified.admCrit]
  exact congrArg Host.Outcome.next (State.envelope_notOwned rfl kind form foreign)

variable (owned : t.envOwned f (t.envelopeData f c) = true) (device : envAt (t.envelopeData f c) 8 0 12 = 0xFFF)
include owned device

theorem exec_keyInstall_unwraps {key : Nat} (unwraps : Config.unwrap t.grt.tik (t.envelopeData f c) = some key) :
    exec (.keyInstall f) s = .next ((t.keyed (t.envelopeData f c) key).admDone f stSuccess) := by
  rw [exec_keyInstall, execKeyInstall, verified.admCrit]
  refine congrArg Host.Outcome.next (State.envelope_unwraps rfl kind form owned ?_ unwraps)
  exact beq_iff_eq.2 device

theorem exec_keyInstall_fails (fails : Config.unwrap t.grt.tik (t.envelopeData f c) = none) :
    exec (.keyInstall f) s = .next ((t.err R.GRT_AUTH_FAIL_CNT).admDone f stAuthFailed) := by
  rw [exec_keyInstall, execKeyInstall, verified.admCrit]
  refine congrArg Host.Outcome.next (State.envelope_fails rfl kind form owned ?_ fails)
  exact beq_iff_eq.2 device

end Install

/-! KEY_ENVELOPE_IMPORT (R620) -/

/-- Setting a field of a session leaves the fields above it. -/
theorem State.cx_setCx_above (s : State) (n v : Nat) {f g : Nat × Nat} (above : f.1 + f.2 ≤ g.1) : (s.setCx n f v).cx n g = s.cx n g := by
  have context : (s.setCx n f v).ctx n = putBits (s.ctx n) f.1 f.2 v := Map.get_set_self ..
  rw [State.cx, context]
  exact bitsOf_putBits_above _ _ _ _ _ above

/-- An installed session keeps its KIND. -/
theorem State.installKey_kind (s : State) (n key : Nat) : (s.installKey 1 n key).cx n Cx.kind = s.cx n Cx.kind := by
  rw [State.installKey, if_pos rfl, State.cx_setCx_above _ _ _ (by decide), State.cx_setCx_above _ _ _ (by decide)]
  rfl

/-- The check value is the same before and after the installation: of the context it reads KIND alone. -/
theorem State.keyCheck_installKey (s : State) (kind n key : Nat) : (s.installKey kind n key).keyCheck kind n key = s.keyCheck kind n key := by
  by_cases session : kind = 1
  · subst session
    rw [State.keyCheck, State.installKey_kind]
    rfl
  · simp only [State.keyCheck, session, false_and, if_false]

theorem exec_keyEnvelopeImport_unwraps {f : Nat} {s : State} {c : AdmCmd} (checked : s.Checked f 0x34 false [2 ^ 64 - 1] (fun _ => true) c)
    (kind : [1, 2].contains (envAt (s.envelopeData f c) 0 8 8) = true) (form : s.envForm (s.envelopeData f c) = true)
    (owned : s.envOwned f (s.envelopeData f c) = true) (function : envAt (s.envelopeData f c) 8 0 12 ≠ 0xFFF) {key : Nat}
    (unwraps : Config.unwrap s.grt.tik (s.envelopeData f c) = some key) :
    exec (.keyEnvelopeImport f) s = .next ((s.keyed (s.envelopeData f c) key).admDone f stSuccess
      { r0 := (s.keyed (s.envelopeData f c) key).keyCheck (envAt (s.envelopeData f c) 0 8 8) (envAt (s.envelopeData f c) 0 32 32) key }) := by
  rw [exec_keyEnvelopeImport, execKeyEnvelopeImport, checked.admRun]
  refine congrArg Host.Outcome.next ((State.envelope_unwraps rfl kind form owned ?_ unwraps).trans ?_)
  · exact bne_iff_ne.2 function
  · rw [State.keyed, State.keyCheck_installKey]
    rfl

/-! KEY_RETIRE (R375) -/

theorem exec_keyRetire_verified {f : Nat} {s t : State} {c : AdmCmd}
    (verified : s.Verified f 0x33 [0x13FFFFF] (fun c => !bitOf (c.word 8) 24 || decide (bitsOf (c.word 8) 0 22 < 16384)) c t) :
    exec (.keyRetire f) s = .next ((if bitOf (c.word 8) 24 then t.retireNs (bitsOf (c.word 8) 0 22)
      else t.retireSession (bitsOf (c.word 8) 0 22)).admDone f stSuccess) := by
  rw [exec_keyRetire, execKeyRetire, verified.admCrit]

/-- A retired session has an empty context. -/
@[simp] theorem State.retireSession_ctx (s : State) (n : Nat) : (s.retireSession n).ctx n = 0 := Map.get_erase_self ..

/-- A retired session has no key. -/
@[simp] theorem State.retireSession_key (s : State) (n : Nat) : Map.get (s.retireSession n).cry.keys 0 n = 0 := Map.get_erase_self ..

/-! The session port (R392) -/

section Port

variable {a : Nat} {s : State}

theorem exec_sessionPortRead_busy (i p : Nat) (busy : s.rdB (F.CRY_SESS_CTRL_BUSY a) = true) :
    exec (.sessionPortRead a i p) s = .next s :=
  congrArg Host.Outcome.next (if_pos busy)

theorem exec_sessionPortRead_idle (i p : Nat) (idle : s.rdB (F.CRY_SESS_CTRL_BUSY a) = false) :
    exec (.sessionPortRead a i p) s =
      .next (((s.wr (F.CRY_SESS_CTRL_INDEX a) i).wr (F.CRY_SESS_CTRL_PART a) p).wrB (F.CRY_SESS_CTRL_BUSY a) true) :=
  congrArg Host.Outcome.next (if_neg (ne_true_of_eq_false idle))

theorem exec_sessionPortReadDone_busy (busy : s.rdB (F.CRY_SESS_CTRL_BUSY a) = true) :
    exec (.sessionPortReadDone a) s = .next (
      let v := s.ctx (s.rd (F.CRY_SESS_CTRL_INDEX a)) / 2 ^ (256 * s.rd (F.CRY_SESS_CTRL_PART a))
      ((s.each (List.range 4) (fun t i => t.setReg (R.CRY_SESS_DATA a i) (BitVec.ofNat 64 (v / 2 ^ (64 * i))))).wrB
        (F.CRY_SESS_CTRL_ERR a) false).wrB (F.CRY_SESS_CTRL_BUSY a) false) :=
  if_pos busy

end Port

/-! SECY_REGISTER_WRITE (R393) -/

section Secy

variable {p : Nat} (v : Word) (s : State) (port : p < 8)
include port

theorem State.secyWrite_cfg :
    s.secyWrite (R.CRY_SECY_CFG p) v = (s.setReg (R.CRY_SECY_CFG p) (v &&& 0xFFFFFFFF000007FF)).each (List.range 8) State.oneStepDown := by
  have transmit : R.CRY_SECY_CFG p - R.CRY_STATUS < 0x2000 := by unfold R.CRY_SECY_CFG R.CRY_STATUS; omega
  have first : (R.CRY_SECY_CFG p - R.CRY_STATUS) % 0x40 = 0 := by unfold R.CRY_SECY_CFG R.CRY_STATUS; omega
  exact congrArg (State.each · (List.range 8) State.oneStepDown) ((if_pos transmit).trans (if_pos first))

/-- A transmit association takes a session that may stand there, or no session. -/
theorem State.secyWrite_txsa {an : Nat} (association : an < 4) :
    s.secyWrite (R.CRY_SECY_TXSA p an) v =
      (if s.saOk v kMacsecTx then s.setReg (R.CRY_SECY_TXSA p an) (v &&& 0x7FFFFF) else s.err R.CRY_KIND_CNT).each (List.range 8)
        State.oneStepDown := by
  have transmit : R.CRY_SECY_TXSA p an - R.CRY_STATUS < 0x2000 := by unfold R.CRY_SECY_TXSA R.CRY_STATUS; omega
  have notCfg : (R.CRY_SECY_TXSA p an - R.CRY_STATUS) % 0x40 ≠ 0 := by unfold R.CRY_SECY_TXSA R.CRY_STATUS; omega
  have notSci : (R.CRY_SECY_TXSA p an - R.CRY_STATUS) % 0x40 ≠ 8 := by unfold R.CRY_SECY_TXSA R.CRY_STATUS; omega
  exact congrArg (State.each · (List.range 8) State.oneStepDown) ((if_pos transmit).trans ((if_neg notCfg).trans (if_neg notSci)))

end Secy

/-! The statement -/

/-- Settles O43: each command by the lemma of its circumstances above, an envelope's by those of `State.envelope`. -/
theorem sessionsAndKeys : Obligations.SessionsAndKeys := by
  unfold Obligations.SessionsAndKeys
  exact ⟨fun f s c checked => ⟨exec_sessionWrite_notOwned checked, exec_sessionWrite_badContext checked, exec_sessionWrite_unkeyed checked⟩,
    fun f s c checked => ⟨exec_sessionUpdate_notOwned checked, exec_sessionUpdate_confirms checked⟩,
    fun f s t c verified kind form => ⟨fun owned device => ⟨fun key => exec_keyInstall_unwraps verified kind form owned device,
      exec_keyInstall_fails verified kind form owned device⟩, exec_keyInstall_notOwned verified kind form⟩,
    fun f s c checked kind form owned function key => exec_keyEnvelopeImport_unwraps checked kind form owned function,
    fun f s t c verified => ⟨exec_keyRetire_verified verified, t.retireSession_ctx _, t.retireSession_key _⟩,
    fun a i p s => ⟨exec_sessionPortRead_busy i p, exec_sessionPortRead_idle i p⟩,
    fun a s => exec_sessionPortReadDone_busy,
    fun p v s port => ⟨congrArg Host.Outcome.next (s.secyWrite_cfg v port),
      fun an association => congrArg Host.Outcome.next (s.secyWrite_txsa v port association)⟩⟩

end Sys2Proof.Machine
end

section
/-! PROOFS. The statements of 10_storage_and_rdma.md on the commands of an NVMe controller's admin queue (R398-R401, R519). First that a
command stands at the head of its queue, then what each command does, then the statement, which cites these. -/

namespace Sys2Proof.Machine

open Sys2Proof

/-- A command at the head of its queue is taken and runs. -/
theorem State.NvmeAt.nvme {s : State} {f q op : Nat} {e : List Byte} (head : s.NvmeAt f q op e)
    (k : State → List Byte → Nat → State) : s.nvme f q op k = k (s.sqTake f q) e (leAt e 2 2) := by
  rw [State.nvme, head.head]
  exact if_neg head.plain

section Admin

variable {f : Nat} {e : List Byte} {s : State}

/-! Identify and Get Log Page (R396, R399) -/

/-- CNS 02h gives the identifiers above the one the command names, rising. -/
theorem exec_nvmeIdentify_activeNamespaces (head : s.NvmeAt f 0 0x06 e) (active : dw e 10 % 256 = 2) :
    exec (.nvmeIdentify f) s = .next (
      let u := s.sqTake f 0
      u.nvmeData f (leAt e 2 2) e (padTo 4096 (((u.nsids (((u.ctrlOf f).map (·.1)).getD 0)).filter (fun i => dw e 1 < i)).flatMap
        (fun i => leBytes i 4)))) := by
  have notController : dw e 10 % 256 ≠ 1 := by omega
  rw [exec_nvmeIdentify, execNvmeIdentify, head.nvme]
  exact congrArg Host.Outcome.next ((if_neg notController).trans (if_pos active))

section LogPage

variable (head : s.NvmeAt f 0 0x02 e)
include head

/-- The ANA page is a field that is refused, any other page none that there is. -/
theorem exec_nvmeGetLogPage_noPage (beyond : 3 < dw e 10 % 256) :
    exec (.nvmeGetLogPage f) s = .next (if dw e 10 % 256 = 0x0C then (s.sqTake f 0).nvmeDone f 0 (leAt e 2 2) 0 0x02 0 0
      else (s.sqTake f 0).nvmeDone f 0 (leAt e 2 2) 1 0x09 0 0) := by
  rw [exec_nvmeGetLogPage, execNvmeGetLogPage, head.nvme]
  simp only [beyond, or_true, if_true]

theorem exec_nvmeGetLogPage_page (first : 1 ≤ dw e 10 % 256) (last : dw e 10 % 256 ≤ 3) :
    exec (.nvmeGetLogPage f) s = .next (
      let u := s.sqTake f 0
      u.fresh.2.nvmeData f (leAt e 2 2) e ((List.range (((dw e 10 / 65536 + dw e 11 % 65536 * 65536) + 1) * 4)).map
        (fun i => Config.stoByte (256 + dw e 10 % 256) u.fresh.1 (dw e 12 + dw e 13 * 2 ^ 32 + i)))) := by
  have notAna : dw e 10 % 256 ≠ 0x0C := by omega
  have present : ¬ (dw e 10 % 256 = 0 ∨ 3 < dw e 10 % 256) := by omega
  rw [exec_nvmeGetLogPage, execNvmeGetLogPage, head.nvme]
  exact congrArg Host.Outcome.next ((if_neg notAna).trans (if_neg present))

end LogPage

/-! Features and asynchronous events (R399, R427) -/

section Controller

variable {n : Nat} {x : Ctrl} (ctrl : (s.sqTake f 0).ctrlOf f = some (n, x))
include ctrl

/-- A feature other than the number of queues keeps dword 11 as it is. -/
theorem exec_nvmeSetFeatures_keeps (head : s.NvmeAt f 0 0x09 e) (feature : nvmeFeature (dw e 10 % 256) = true)
    (notQueues : dw e 10 % 256 ≠ 7) :
    exec (.nvmeSetFeatures f) s = .next (((s.sqTake f 0).setCtrl n { x with
      feat := Map.set x.feat 0 (dw e 10 % 256) (dw e 11) }).nvmeDone f 0 (leAt e 2 2) 0 0 0 0) := by
  rw [exec_nvmeSetFeatures, execNvmeSetFeatures, head.nvme]
  simp only [ctrl, feature, if_true, if_neg notQueues]

theorem exec_nvmeSetFeatures_noFeature (head : s.NvmeAt f 0 0x09 e) (noFeature : nvmeFeature (dw e 10 % 256) = false) :
    exec (.nvmeSetFeatures f) s = .next ((s.sqTake f 0).nvmeDone f 0 (leAt e 2 2) 0 0x02 0 0) := by
  rw [exec_nvmeSetFeatures, execNvmeSetFeatures, head.nvme]
  simp only [ctrl, noFeature, Bool.false_eq_true, if_false]

theorem exec_nvmeGetFeatures_gives (head : s.NvmeAt f 0 0x0A e) (feature : nvmeFeature (dw e 10 % 256) = true) :
    exec (.nvmeGetFeatures f) s = .next ((s.sqTake f 0).nvmeDone f 0 (leAt e 2 2) 0 0 0 (Map.get x.feat 0 (dw e 10 % 256))) := by
  rw [exec_nvmeGetFeatures, execNvmeGetFeatures, head.nvme]
  simp only [ctrl, feature, if_true]

theorem exec_nvmeAsyncEventRequest_waits (head : s.NvmeAt f 0 0x0C e) (noEvent : x.events = []) :
    exec (.nvmeAsyncEventRequest f) s = .next ((s.sqTake f 0).setCtrl n { x with aers := x.aers ++ [leAt e 2 2] }) := by
  rw [exec_nvmeAsyncEventRequest, execNvmeAsyncEventRequest, head.nvme]
  simp only [ctrl, noEvent]

/-- An event that waits is taken. -/
theorem exec_nvmeAsyncEventRequest_takes {v : Nat} {l : List Nat} (head : s.NvmeAt f 0 0x0C e) (event : x.events = v :: l) :
    exec (.nvmeAsyncEventRequest f) s =
      .next (((s.sqTake f 0).setCtrl n { x with events := l }).nvmeDone f 0 (leAt e 2 2) 0 0 0 v) := by
  rw [exec_nvmeAsyncEventRequest, execNvmeAsyncEventRequest, head.nvme]
  simp only [ctrl, event]

end Controller

/-! Submission and completion queues (R398, R399, R519) -/

theorem exec_nvmeCreateIoSq_taken (head : s.NvmeAt f 0 0x01 e)
    (taken : dw e 10 % 65536 = 0 ∨ 64 < dw e 10 % 65536 ∨ (s.sqTake f 0).hasQue f 8 (dw e 10 % 65536) = true) :
    exec (.nvmeCreateIoSq f) s = .next ((s.sqTake f 0).nvmeDone f 0 (leAt e 2 2) 1 0x01 0 0) := by
  rw [exec_nvmeCreateIoSq, execNvmeCreateIoSq, head.nvme]
  exact congrArg Host.Outcome.next (if_pos taken)

theorem exec_nvmeCreateIoCq_taken (head : s.NvmeAt f 0 0x05 e)
    (taken : dw e 10 % 65536 = 0 ∨ 64 < dw e 10 % 65536 ∨ (s.sqTake f 0).hasQue f 9 (dw e 10 % 65536) = true) :
    exec (.nvmeCreateIoCq f) s = .next ((s.sqTake f 0).nvmeDone f 0 (leAt e 2 2) 1 0x01 0 0) := by
  rw [exec_nvmeCreateIoCq, execNvmeCreateIoCq, head.nvme]
  exact congrArg Host.Outcome.next (if_pos taken)

/-- An identifier within 1 to 64 that no queue of the kind has is free for a new one. -/
theorem State.queFree {u : State} {k q : Nat} (low : 0 < q) (high : q ≤ 64) (unused : u.hasQue f k q = false) :
    ¬ (q = 0 ∨ 64 < q ∨ u.hasQue f k q = true) := by
  simp only [unused, Bool.false_eq_true, or_false]
  omega

section Create

variable (low : 0 < dw e 10 % 65536) (high : dw e 10 % 65536 ≤ 64) (size : 2 ≤ dw e 10 / 65536 + 1) (contiguous : bitOf (dw e 11) 0 = true)
include low high size contiguous

/-- A new submission queue on an existing completion queue takes one unit of the allotment. -/
theorem exec_nvmeCreateIoSq_creates (head : s.NvmeAt f 0 0x01 e) (unused : (s.sqTake f 0).hasQue f 8 (dw e 10 % 65536) = false)
    (cq : 0 < dw e 11 / 65536) (hasCq : (s.sqTake f 0).hasQue f 9 (dw e 11 / 65536) = true)
    (room : ((s.sqTake f 0).func f).qpUsed < ((s.sqTake f 0).func f).qpAllot) :
    exec (.nvmeCreateIoSq f) s = .next (
      let u := s.sqTake f 0
      let n := dw e 10 / 65536 + 1
      ((u.setFunc f { u.func f with qpUsed := (u.func f).qpUsed + 1 }).updQue f 8 (dw e 10 % 65536) (fun _ =>
        { st := .enabled, base := leAt e 24 8, size := n, log2 := Nat.log2 n, cq := dw e 11 / 65536 })).nvmeDone f 0 (leAt e 2 2) 0 0 0 0) := by
  have onQueue : ¬ (dw e 11 / 65536 = 0 ∨ ¬ (s.sqTake f 0).hasQue f 9 (dw e 11 / 65536) = true) := by
    simp only [hasCq, not_true_eq_false, or_false]
    omega
  rw [exec_nvmeCreateIoSq, execNvmeCreateIoSq, head.nvme]
  dsimp only
  rw [if_neg (State.queFree low high unused), if_neg (Nat.not_lt.2 size), if_neg onQueue, if_neg (ne_false_of_eq_true contiguous),
    if_neg (Nat.not_le.2 room)]

/-- A new completion queue without interrupts. -/
theorem exec_nvmeCreateIoCq_creates (head : s.NvmeAt f 0 0x05 e) (unused : (s.sqTake f 0).hasQue f 9 (dw e 10 % 65536) = false)
    (silent : bitOf (dw e 11) 1 = false) :
    exec (.nvmeCreateIoCq f) s = .next (
      let n := dw e 10 / 65536 + 1
      ((s.sqTake f 0).updQue f 9 (dw e 10 % 65536) (fun _ =>
        { st := .enabled, base := leAt e 24 8, size := n, log2 := Nat.log2 n, vec := dw e 11 / 65536, ien := false })).nvmeDone
          f 0 (leAt e 2 2) 0 0 0 0) := by
  rw [exec_nvmeCreateIoCq, execNvmeCreateIoCq, head.nvme]
  dsimp only
  rw [if_neg (State.queFree low high unused), if_neg (Nat.not_lt.2 size), if_neg (fun vector => ne_true_of_eq_false silent vector.1),
    if_neg (ne_false_of_eq_true contiguous), silent]

end Create

/-- A queue that exists and is not the admin queue may be deleted. -/
theorem State.queDeletable {u : State} {k q : Nat} (io : 0 < q) (has : u.hasQue f k q = true) : ¬ (q = 0 ∨ ¬ u.hasQue f k q = true) := by
  simp only [has, not_true_eq_false, or_false]
  omega

theorem exec_nvmeDeleteIoSq_deletes (head : s.NvmeAt f 0 0x00 e) (io : 0 < dw e 10 % 65536)
    (has : (s.sqTake f 0).hasQue f 8 (dw e 10 % 65536) = true) :
    exec (.nvmeDeleteIoSq f) s = .next (
      let u := s.sqTake f 0
      let q := dw e 10 % 65536
      (((u.each (u.sto.cmds.filter (fun c => c.fn == f && !c.virt && c.q == q)) (fun t c => t.cmdDone c 0 0x08 0 0)).dropQue f 8 q).updFunc f
        (fun x => { x with qpUsed := x.qpUsed - 1 })).nvmeDone f 0 (leAt e 2 2) 0 0 0 0) := by
  rw [exec_nvmeDeleteIoSq, execNvmeDeleteIoSq, head.nvme]
  exact congrArg Host.Outcome.next (if_neg (State.queDeletable io has))

/-- A completion queue that a submission queue uses stays. -/
theorem exec_nvmeDeleteIoCq_exists (head : s.NvmeAt f 0 0x04 e) (io : 0 < dw e 10 % 65536)
    (has : (s.sqTake f 0).hasQue f 9 (dw e 10 % 65536) = true) :
    exec (.nvmeDeleteIoCq f) s = .next (
      let u := s.sqTake f 0
      let q := dw e 10 % 65536
      if (u.func f).queues.any (fun x => decide (8 * 4096 ≤ x.1) && decide (x.1 < 9 * 4096) && x.2.cq == q) = true then
        u.nvmeDone f 0 (leAt e 2 2) 1 0x0C 0 0
      else (u.dropQue f 9 q).nvmeDone f 0 (leAt e 2 2) 0 0 0 0) := by
  rw [exec_nvmeDeleteIoCq, execNvmeDeleteIoCq, head.nvme]
  exact congrArg Host.Outcome.next (if_neg (State.queDeletable io has))

/-! Abort and other opcodes (R399-R401) -/

/-- The command that an Abort with entry e of function f names: by its queue and its identifier. -/
def State.abortNames (s : State) (f : Nat) (e : List Byte) : Option StoCmd :=
  s.sto.cmds.find? (fun c => c.fn == f && !c.virt && c.q == dw e 10 % 65536 && c.cid == dw e 10 / 65536)

section Abort

variable (head : s.NvmeAt f 0 0x08 e)
include head

/-- A command not yet sent is removed. -/
theorem exec_nvmeAbort_notSent {c : StoCmd} {k : Nat} (names : (s.sqTake f 0).abortNames f e = some c) (waits : c.place = .waiting k)
    (first : c.attempt = 1) :
    exec (.nvmeAbort f) s = .next (((s.sqTake f 0).cmdDone c 0 0x07 0 0).nvmeDone f 0 (leAt e 2 2) 0 0 0 0) := by
  unfold State.abortNames at names
  rw [exec_nvmeAbort, execNvmeAbort, head.nvme]
  simp only [names, waits, first, if_true]

/-- Where no command is named, dword 0 of the completion says that nothing was aborted. -/
theorem exec_nvmeAbort_noCommand (names : (s.sqTake f 0).abortNames f e = none) :
    exec (.nvmeAbort f) s = .next ((s.sqTake f 0).nvmeDone f 0 (leAt e 2 2) 0 0 0 1) := by
  unfold State.abortNames at names
  rw [exec_nvmeAbort, execNvmeAbort, head.nvme]
  simp only [names]

end Abort

theorem exec_nvmeUnsupportedOpcode_other {q : Nat} (head : s.sqHead f q (fun e => !nvmeKnown q (e.getD 0 0).toNat) = some e) :
    exec (.nvmeUnsupportedOpcode f q) s =
      .next ((s.sqTake f q).nvmeDone f q (leAt e 2 2) 0 (if nvmeRefusedOps q (e.getD 0 0).toNat then 0x02 else 0x01) 0 0) := by
  rw [exec_nvmeUnsupportedOpcode, execNvmeUnsupportedOpcode, head]

end Admin

/-! The statement -/

/-- Settles O44: each command, once it stands at the head of the queue (`State.NvmeAt.nvme`), by the lemma of its circumstances above. -/
theorem nvmeAdminCommands : Obligations.NvmeAdminCommands := by
  unfold Obligations.NvmeAdminCommands
  refine ⟨fun f e s => exec_nvmeIdentify_activeNamespaces,
    fun f e s head => ⟨exec_nvmeGetLogPage_noPage head, exec_nvmeGetLogPage_page head⟩,
    fun f n x e s ctrl => ⟨exec_nvmeSetFeatures_keeps ctrl, exec_nvmeSetFeatures_noFeature ctrl, exec_nvmeGetFeatures_gives ctrl,
      exec_nvmeAsyncEventRequest_waits ctrl, fun v l => exec_nvmeAsyncEventRequest_takes ctrl⟩, ?queues,
    fun f q e s => exec_nvmeUnsupportedOpcode_other⟩
  case queues =>
    intro f e s
    exact ⟨exec_nvmeCreateIoSq_taken,
      fun head low high unused size cq hasCq contiguous => exec_nvmeCreateIoSq_creates low high size contiguous head unused cq hasCq,
      exec_nvmeCreateIoCq_taken,
      fun head low high unused size silent contiguous => exec_nvmeCreateIoCq_creates low high size contiguous head unused silent,
      exec_nvmeDeleteIoSq_deletes, exec_nvmeDeleteIoCq_exists, fun c k head => exec_nvmeAbort_notSent head, exec_nvmeAbort_noCommand⟩

end Sys2Proof.Machine
end

section
/-! PROOFS. The statements of 10_storage_and_rdma.md on tenants' NVMe I/O commands and virtio-blk requests (R399, R402, R409). First that a
request stands next in its virtqueue, then what each command and each request does, then the statement, which cites these. -/

namespace Sys2Proof.Machine

open Sys2Proof

/-! NVMe I/O commands (R399, R409) -/

section Io

variable {f q ns : Nat} {e : List Byte} {s : State} (io : 0 < q)
include io

theorem exec_nvmeFlush_submits (head : s.NvmeAt f q 0x00 e) (inNs : (s.sqTake f q).nvmeNs f (dw e 1) false 0 0 = (0, ns)) :
    exec (.nvmeFlush f q) s = .next ((s.sqTake f q).stoSubmit { (s.sqTake f q).ioCmd f q (leAt e 2 2) ns 0 e with slba := 0, nlb := 0 }) := by
  rw [exec_nvmeFlush, execNvmeFlush, if_neg io.ne', head.nvme]
  simp only [inNs]

/-- Without protection information of the host the blocks to write come from the data pointer alone. -/
theorem exec_nvmeWrite_submits {l : List (Nat × Nat)} {d : List Byte} (head : s.NvmeAt f q 0x01 e)
    (inNs : (s.sqTake f q).nvmeNs f (dw e 1) true (leAt e 40 8) (dw e 12 % 65536 + 1) = (0, ns))
    (pointer : (s.sqTake f q).dptr f e ((dw e 12 % 65536 + 1) * ((s.sqTake f q).nsFmt ns).size) = (0, l))
    (plain : ((s.sqTake f q).nsFmt ns).hostPi = 0)
    (blocks : ((s.sqTake f q).nsFmt ns).writeAll ((s.sqTake f q).ioCmd f q (leAt e 2 2) ns 1 e) 0 (dw e 12 % 65536 + 1)
      ((s.sqTake f q).gather ((s.sqTake f q).attOf f) l) [] = (0, d)) :
    exec (.nvmeWrite f q) s =
      .next ((s.sqTake f q).stoSubmit { (s.sqTake f q).ioCmd f q (leAt e 2 2) ns 1 e with segs := l, payload := d }) := by
  unfold State.ioCmd at blocks
  rw [exec_nvmeWrite, execNvmeWrite, if_neg io.ne', head.nvme]
  simp only [State.ioCmd, inNs, pointer, plain, true_or, if_true, blocks]

section Read

variable (head : s.NvmeAt f q 0x02 e)
include head

theorem exec_nvmeRead_submits {l : List (Nat × Nat)}
    (inNs : (s.sqTake f q).nvmeNs f (dw e 1) true (leAt e 40 8) (dw e 12 % 65536 + 1) = (0, ns))
    (pointer : (s.sqTake f q).dptr f e ((dw e 12 % 65536 + 1) * ((s.sqTake f q).nsFmt ns).size) = (0, l)) :
    exec (.nvmeRead f q) s = .next ((s.sqTake f q).stoSubmit { (s.sqTake f q).ioCmd f q (leAt e 2 2) ns 2 e with segs := l }) := by
  rw [exec_nvmeRead, execNvmeRead, if_neg io.ne', head.nvme]
  simp only [State.ioCmd, inNs, pointer]

theorem exec_nvmeRead_beyond (beyond : (s.sqTake f q).nvmeNs f (dw e 1) true (leAt e 40 8) (dw e 12 % 65536 + 1) = (0x80, ns)) :
    exec (.nvmeRead f q) s = .next (((s.sqTake f q).err R.STO_TENANT_ERR_CNT).nvmeDone f q (leAt e 2 2) 0 0x80 0 0) := by
  rw [exec_nvmeRead, execNvmeRead, if_neg io.ne', head.nvme]
  simp only [State.ioCmd, beyond]
  rfl

end Read

theorem exec_nvmeWriteZeroes_submits (head : s.NvmeAt f q 0x08 e)
    (inNs : (s.sqTake f q).nvmeNs f (dw e 1) false (leAt e 40 8) (dw e 12 % 65536 + 1) = (0, ns)) :
    exec (.nvmeWriteZeroes f q) s = .next ((s.sqTake f q).stoSubmit ((s.sqTake f q).ioCmd f q (leAt e 2 2) ns 8 e)) := by
  rw [exec_nvmeWriteZeroes, execNvmeWriteZeroes, if_neg io.ne', head.nvme]
  simp only [State.ioCmd, inNs]

/-- Ranges within the namespace go to the back end when they are to be deallocated; without that there is nothing to do. -/
theorem exec_nvmeDatasetManagement_within {l : List (Nat × Nat)} (head : s.NvmeAt f q 0x09 e)
    (inNs : (s.sqTake f q).nvmeNs f (dw e 1) false 0 0 = (0, ns)) (pointer : (s.sqTake f q).dptr f e (16 * (dw e 10 % 256 + 1)) = (0, l))
    (within : (List.range (dw e 10 % 256 + 1)).any (fun i => decide ((s.sqTake f q).nf ns 192 64 <
      leAt ((s.sqTake f q).gather ((s.sqTake f q).attOf f) l) (16 * i + 8) 8 +
      leAt ((s.sqTake f q).gather ((s.sqTake f q).attOf f) l) (16 * i + 4) 4)) = false) :
    exec (.nvmeDatasetManagement f q) s = .next (
      let u := s.sqTake f q
      if bitOf (dw e 11) 2 then
        u.stoSubmit { u.ioCmd f q (leAt e 2 2) ns 9 e with slba := 0, nlb := 0, payload := u.gather (u.attOf f) l }
      else u.nvmeDone f q (leAt e 2 2) 0 0 0 0) := by
  rw [exec_nvmeDatasetManagement, execNvmeDatasetManagement, if_neg io.ne', head.nvme]
  simp only [inNs, pointer]
  exact congrArg Host.Outcome.next (if_neg (ne_true_of_eq_false within))

end Io

/-! virtio-blk requests (R402, R409) -/

/-- A request that is next in its virtqueue, with room for its status, is taken and runs. -/
theorem State.BlkAt.blk {s : State} {f n type : Nat} {r : BlkReq} (next : s.BlkAt f n type r) (k : State → BlkReq → State) :
    s.blk f n type k = k (s.blkTook f n r) r := by
  obtain ⟨found, kind, room⟩ := next
  rw [State.blk, found]
  exact (if_pos kind).trans (if_neg (ne_true_of_eq_false room))

section Blk

variable {f n : Nat} {r : BlkReq} {s : State}

/-- Bytes that a request makes of whole blocks, of a namespace that has its key where it wants one, are sent. -/
theorem State.blkWhole {u : State} {ns len k : Nat} (whole : len % 512 = 0) (nonempty : k ≠ 0) (key : u.noKey ns = false) :
    ¬ (len % 512 ≠ 0 ∨ k = 0 ∨ u.noKey ns = true) := by
  simp [whole, nonempty, key]

section In

variable (next : s.BlkAt f n 0 r)
include next

theorem exec_virtioBlkIn_submits {ns lba k : Nat}
    (range : (s.blkTook f n r).blkRange f r.sector ((r.room.map (·.len)).sum / 512) = some (ns, lba, k))
    (whole : (r.room.map (·.len)).sum % 512 = 0) (nonempty : k ≠ 0) (key : (s.blkTook f n r).noKey ns = false) :
    exec (.virtioBlkIn f n) s = .next ((s.blkTook f n r).stoSubmit ((s.blkTook f n r).blkCmd f n r 2 ns lba k)) := by
  rw [exec_virtioBlkIn, execVirtioBlkIn, next.blk]
  simp only [range]
  exact congrArg Host.Outcome.next (if_neg (State.blkWhole whole nonempty key))

theorem exec_virtioBlkIn_beyond
    (beyond : (s.blkTook f n r).blkRange f r.sector ((r.room.map (·.len)).sum / 512) = none) :
    exec (.virtioBlkIn f n) s = .next (((s.blkTook f n r).err R.STO_TENANT_ERR_CNT).blkDone f n r 1 0) := by
  rw [exec_virtioBlkIn, execVirtioBlkIn, next.blk]
  simp only [beyond]

end In

theorem exec_virtioBlkOut_submits {ns lba k : Nat} {d : List Byte} (next : s.BlkAt f n 1 r)
    (range : (s.blkTook f n r).blkRange f r.sector (r.data.length / 512) = some (ns, lba, k)) (whole : r.data.length % 512 = 0)
    (nonempty : k ≠ 0) (key : (s.blkTook f n r).noKey ns = false)
    (blocks : ((s.blkTook f n r).nsFmt ns).writeAll ((s.blkTook f n r).blkCmd f n r 1 ns lba k) 0 k r.data [] = (0, d)) :
    exec (.virtioBlkOut f n) s =
      .next ((s.blkTook f n r).stoSubmit { (s.blkTook f n r).blkCmd f n r 1 ns lba k with payload := d }) := by
  rw [exec_virtioBlkOut, execVirtioBlkOut, next.blk]
  simp only [range, if_neg (State.blkWhole whole nonempty key), blocks]

theorem exec_virtioBlkFlush_submits {ns : Nat} {x : Nat × Nat} (next : s.BlkAt f n 4 r)
    (range : (s.blkTook f n r).blkRange f 0 0 = some (ns, x)) :
    exec (.virtioBlkFlush f n) s = .next ((s.blkTook f n r).stoSubmit ((s.blkTook f n r).blkCmd f n r 0 ns 0 0)) := by
  rw [exec_virtioBlkFlush, execVirtioBlkFlush, next.blk]
  simp only [range]

theorem exec_virtioBlkGetId_gives (next : s.BlkAt f n 8 r) :
    exec (.virtioBlkGetId f n) s = .next (
      let u := s.blkTook f n r
      (u.vWrite (u.attOf f) r.room ((List.range 20).map (Config.stoByte 4 f))).blkDone f n r 0 (min 20 ((r.room.map (·.len)).sum))) := by
  rw [exec_virtioBlkGetId, execVirtioBlkGetId, next.blk]

section Range

variable {x : Nat × Nat} {ns lba k : Nat} (one : blkRanges r.data = [x]) (range : (s.blkTook f n r).blkRange f x.1 x.2 = some (ns, lba, k))
include one range

/-- A DISCARD of one range is a deallocation of it. -/
theorem exec_virtioBlkDiscard_submits (next : s.BlkAt f n 11 r) :
    exec (.virtioBlkDiscard f n) s = .next ((s.blkTook f n r).stoSubmit { (s.blkTook f n r).blkCmd f n r 9 ns 0 0 with
      payload := leBytes 0 4 ++ leBytes k 4 ++ leBytes lba 8 }) := by
  have within : [x].filterMap (fun x => (s.blkTook f n r).blkRange f x.1 x.2) = [(ns, lba, k)] :=
    List.filterMap_cons_some (f := fun x : Nat × Nat => (s.blkTook f n r).blkRange f x.1 x.2) range
  rw [exec_virtioBlkDiscard, execVirtioBlkDiscard, next.blk]
  simp only [one, within, List.length_singleton, ne_eq, not_true_eq_false, if_false, List.flatMap_singleton]

theorem exec_virtioBlkWriteZeroes_submits (next : s.BlkAt f n 13 r) (nonempty : k ≠ 0) :
    exec (.virtioBlkWriteZeroes f n) s = .next ((s.blkTook f n r).stoSubmit ((s.blkTook f n r).blkCmd f n r 8 ns lba k)) := by
  rw [exec_virtioBlkWriteZeroes, execVirtioBlkWriteZeroes, next.blk]
  simp only [one, range, if_neg nonempty]

end Range

theorem exec_virtioBlkUnsupported_other (next : s.blkNext f n = some r) (other : r.type ∉ [0, 1, 4, 8, 11, 13]) :
    exec (.virtioBlkUnsupported f n) s = .next ((s.blkTook f n r).blkDone f n r 2 0) := by
  have unknown : ¬ [0, 1, 4, 8, 11, 13].contains r.type = true := fun known => other (List.contains_iff_mem.1 known)
  rw [exec_virtioBlkUnsupported, execVirtioBlkUnsupported, next]
  exact if_neg unknown

end Blk

/-! The statement -/

/-- Settles O45: each command at the head of its queue by `State.NvmeAt.nvme`, each request by `State.BlkAt.blk`, through the lemma of its
circumstances above. -/
theorem tenantIo : Obligations.TenantIo := by
  unfold Obligations.TenantIo
  refine ⟨fun f q ns e s io => ⟨exec_nvmeFlush_submits io, fun l d => exec_nvmeWrite_submits io, fun l head => exec_nvmeRead_submits io head,
      exec_nvmeRead_beyond io, exec_nvmeWriteZeroes_submits io, fun l => exec_nvmeDatasetManagement_within io⟩,
    fun f n r s => ⟨fun ns lba k next => exec_virtioBlkIn_submits next, exec_virtioBlkIn_beyond,
      fun ns lba k d => exec_virtioBlkOut_submits, fun ns x => exec_virtioBlkFlush_submits, exec_virtioBlkGetId_gives,
      fun x ns lba k next one range => exec_virtioBlkDiscard_submits one range next,
      fun x ns lba k next one range => exec_virtioBlkWriteZeroes_submits one range next, exec_virtioBlkUnsupported_other⟩⟩

end Sys2Proof.Machine
end

section
/-! PROOFS. The statements of 10_storage_and_rdma.md on the back end (R403, R404, R413-R419, R421, R423). First the issue of attempts and
their ends, then connections, timers and segments, then the statement, which cites these. -/

namespace Sys2Proof.Machine

open Sys2Proof

/-! Issue (R403) -/

section Issue

variable {k : Nat} {c : StoCmd} {l : List StoCmd} {s : State} (waits : s.waitingOn k = c :: l)
include waits

theorem exec_backendIssue_room (up : (s.stoConn k).st = .up) (room : (s.stoConn k).tags.length + 1 < s.pf (s.stoConn k).path 272 16) :
    exec (.backendIssue k) s = .next (
      let x := s.stoConn k
      ((s.setConn k { x with tags := x.tags ++ [{ tag := x.newTag, cmd := c.id, attempt := c.attempt }] }).updCmd
        { c with place := .issued k x.newTag }).sendCmd k x.newTag c) := by
  rw [exec_backendIssue, execBackendIssue, waits]
  exact if_pos ⟨up, room⟩

theorem exec_backendIssue_full (full : s.pf (s.stoConn k).path 272 16 ≤ (s.stoConn k).tags.length + 1) :
    exec (.backendIssue k) s = .next s := by
  rw [exec_backendIssue, execBackendIssue, waits]
  exact if_neg fun issues => Nat.not_lt.2 full issues.2

end Issue

/-! Completions (R404, R405, R421) -/

/-- The completion that stands first in the inbox of connection k is taken and its tag free. -/
def State.tagFreed (s : State) (k tag : Nat) : State :=
  let x := s.stoConn k
  s.setConn k { x with inbox := x.inbox.drop 1, tags := x.tags.filter (fun t => t.tag ≠ tag), aliveTag := none }

section Completion

variable {k : Nat} {e : List Byte} {s : State} (entry : (s.stoConn k).cqe k = some e) (up : (s.stoConn k).st = .up)
  (noAlive : (s.stoConn k).aliveTag = none)
include entry up noAlive

/-- A completion is for the command that its tag stands for, or an orphan. -/
theorem exec_backendCompletion_entry : exec (.backendCompletion k) s = .next (
    let u := s.tagFreed k (leAt e 12 2)
    match s.tagCmd k (leAt e 12 2) with
    | none => u.err R.STO_ORPHAN_CNT
    | some c =>
      if leAt e 14 2 / 2 = 0 then
        if c.op = 2 ∧ ¬ roceConn k ∧ c.gotLen < c.nlb * (u.nsFmt c.ns).beSize then u.tcpTerm k 1 true else u.stoGood c
      else (u.stoFault c true).cmdDone c (bitsOf (leAt e 14 2) 9 3) (bitsOf (leAt e 14 2) 1 8) (bitsOf (leAt e 14 2) 15 1) 0) := by
  rw [exec_backendCompletion, execBackendCompletion, entry]
  dsimp only
  rw [if_pos up, noAlive, if_neg nofun, if_neg nofun]
  cases s.tagCmd k (leAt e 12 2) with
  | none => rfl
  | some c => exact (apply_ite Host.Outcome.next ..).symm

theorem exec_backendCompletion_orphan (orphan : s.tagCmd k (leAt e 12 2) = none) :
    exec (.backendCompletion k) s = .next ((s.tagFreed k (leAt e 12 2)).err R.STO_ORPHAN_CNT) := by
  rw [exec_backendCompletion_entry entry up noAlive, orphan]

section Command

variable {c : StoCmd} (command : s.tagCmd k (leAt e 12 2) = some c)
include command

theorem exec_backendCompletion_good (good : leAt e 14 2 / 2 = 0) (notRead : c.op ≠ 2) :
    exec (.backendCompletion k) s = .next ((s.tagFreed k (leAt e 12 2)).stoGood c) := by
  rw [exec_backendCompletion_entry entry up noAlive, command]
  exact congrArg Host.Outcome.next ((if_pos good).trans (if_neg fun short => notRead short.1))

theorem exec_backendCompletion_bad (bad : leAt e 14 2 / 2 ≠ 0) :
    exec (.backendCompletion k) s = .next (((s.tagFreed k (leAt e 12 2)).stoFault c true).cmdDone c (bitsOf (leAt e 14 2) 9 3)
      (bitsOf (leAt e 14 2) 1 8) (bitsOf (leAt e 14 2) 15 1) 0) := by
  rw [exec_backendCompletion_entry entry up noAlive, command]
  exact congrArg Host.Outcome.next (if_neg bad)

end Command

end Completion

/-! Timeouts of attempts (R417-R419) -/

section Timeout

variable {id k : Nat} {c : StoCmd} {s : State} (found : s.sto.cmds.find? (fun c => c.id == id) = some c)
include found

section Issued

variable {t : Nat} (issued : c.place = .issued k t)
include issued

theorem exec_attemptTimeout_issued :
    exec (.attemptTimeout id) s = .next ((s.err R.STO_TIMEOUT_CNT).reissue c false
      (if roceConn k then (s.qp (k - 65536)).retries else (s.stoConn k).retries)) := by
  rw [exec_attemptTimeout, execAttemptTimeout, found]
  dsimp only
  rw [issued]

theorem exec_issueWaitTimeout_issued : exec (.issueWaitTimeout id) s = .next s := by
  rw [exec_issueWaitTimeout, execIssueWaitTimeout, found]
  dsimp only
  rw [issued]

end Issued

section Waiting

variable (waits : c.place = .waiting k)
include waits

theorem exec_issueWaitTimeout_waiting :
    exec (.issueWaitTimeout id) s = .next ((s.err R.STO_TIMEOUT_CNT).reissue c false 0) := by
  rw [exec_issueWaitTimeout, execIssueWaitTimeout, found]
  dsimp only
  rw [waits]

theorem exec_attemptTimeout_waiting : exec (.attemptTimeout id) s = .next s := by
  rw [exec_attemptTimeout, execAttemptTimeout, found]
  dsimp only
  rw [waits]

end Waiting

end Timeout

/-! ICResp, Fabrics Connect and Keep Alive (R413, R415) -/

/-- An ICResp of version 0 with a padding and a data limit within bounds, and no digest that was not asked for. -/
theorem exec_icrespRx_fits {k : Nat} {b : List Byte} {l : List (List Byte)} {s : State} (first : (s.stoConn k).inbox = b :: l)
    (asked : (s.stoConn k).st = .icreq) (type : b.getD 0 0 = 1) (version : leAt b 8 2 = 0) (padding : (b.getD 10 0).toNat ≤ 31)
    (digests : (b.getD 11 0).toNat &&& s.pf (s.stoConn k).path 3 2 = (b.getD 11 0).toNat) (limit : 4096 ≤ leAt b 12 4) :
    exec (.icrespRx k) s = .next (
      let x := s.stoConn k
      ((s.setConn k { x with inbox := l }).setConn k { x with
        inbox := l, st := .ready, cpda := (b.getD 10 0).toNat, hdgst := bitOf (b.getD 11 0).toNat 0, ddgst := bitOf (b.getD 11 0).toNat 1,
        maxData := leAt b 12 4 }).tryConnect k) := by
  have fits : ¬ (leAt b 8 2 ≠ 0 ∨ 31 < (b.getD 10 0).toNat ∨
      (b.getD 11 0).toNat &&& s.pf (s.stoConn k).path 3 2 ≠ (b.getD 11 0).toNat ∨ leAt b 12 4 < 4096) := by
    simp only [version, digests, ne_eq, not_true_eq_false, false_or]
    omega
  rw [exec_icrespRx, execIcrespRx]
  dsimp only
  rw [first]
  dsimp only
  rw [if_pos ⟨asked, type⟩, if_neg fits]

/-- Connection k with its Connect accepted. -/
def State.connected (s : State) (k : Nat) : State :=
  let x := s.stoConn k
  let u := s.setConn k { x with inbox := x.inbox.drop 1 }
  u.setConn k { u.stoConn k with st := .up, failed := false }

section Connect

variable {k : Nat} {e : List Byte} {s : State} (entry : (s.stoConn k).cqe k = some e) (connecting : (s.stoConn k).st = .connecting)
include entry connecting

/-- A refused Connect leaves the path down. -/
theorem exec_fabricsConnectResponse_refused (refused : leAt e 14 2 / 2 ≠ 0) :
    exec (.fabricsConnectResponse k) s = .next (
      let x := s.stoConn k
      let u := s.setConn k { x with inbox := x.inbox.drop 1 }
      ((u.setConn k { u.stoConn k with st := .ready, failed := true }).setPathUp x.path false).raise F.STO_INT_STATUS_PATH_DOWN) := by
  rw [exec_fabricsConnectResponse, execFabricsConnectResponse, entry]
  exact (if_pos connecting).trans (if_neg refused)

/-- With the last I/O connection of a path the path is up. -/
theorem exec_fabricsConnectResponse_up (good : leAt e 14 2 / 2 = 0) (io : (s.stoConn k).num ≠ 0)
    (all : ((s.connected k).connsOf (s.stoConn k).path).all (fun c => !((s.connected k).stoConn c).failed) = true) :
    exec (.fabricsConnectResponse k) s = .next ((s.connected k).setPathUp (s.stoConn k).path true) := by
  rw [exec_fabricsConnectResponse, execFabricsConnectResponse, entry]
  exact (if_pos connecting).trans ((if_pos good).trans ((if_neg io).trans (if_pos all)))

end Connect

theorem exec_fabricsConnectRetry_valid {p : Nat} {s : State} (valid : s.pf p 0 1 = 1) :
    exec (.fabricsConnectRetry p) s = .next (s.each (s.connsOf p) (fun t k =>
      if (t.stoConn k).failed then
        let u := t.setConn k { t.stoConn k with failed := false }
        if (t.stoConn k).st = .down then u.connOpen k else u.tryConnect k
      else t)) :=
  if_pos valid

theorem exec_keepAliveTimer_sends {p k : Nat} {l : List Nat} {s : State} (valid : s.pf p 0 1 = 1) (conns : s.connsOf p = k :: l)
    (up : (s.stoConn k).st = .up) (period : s.pf p 352 32 ≠ 0) (noAlive : (s.stoConn k).aliveTag = none) :
    exec (.keepAliveTimer p) s = .next ((s.setConn k { s.stoConn k with aliveTag := some (s.stoConn k).newTag }).capsule k
      (sqe 0x18 (s.stoConn k).newTag 0 (List.replicate 16 0) []) []) := by
  have admin : (s.connsOf p).getD 0 0 = k := by rw [conns, List.getD_cons_zero]
  have present : s.connsOf p ≠ [] := conns ▸ List.cons_ne_nil k l
  rw [exec_keepAliveTimer, execKeepAliveTimer, admin]
  exact if_pos ⟨valid, present, up, period, noAlive⟩

/-! Retransmission (R416, R423) -/

section Rto

variable {k : Nat} {s : State} (tcp : roceConn k = false) (up : (s.stoConn k).st = .up) (sent : (s.stoConn k).unacked ≠ [])
include tcp up sent

/-- The timer runs for a TCP connection that is up and has sent bytes that are not acknowledged. -/
theorem State.rtoRuns : ¬ (roceConn k = true ∨ (s.stoConn k).st = .down ∨ ((s.stoConn k).unacked = [] ∧ (s.stoConn k).st ≠ .syn)) := by
  simp [tcp, up, sent]

theorem exec_tcpRtoExpiry_again (left : (s.stoConn k).retries < s.rd F.STO_TCP_CFG_RETRIES) :
    exec (.tcpRtoExpiry k) s = .next ((s.setConn k { s.stoConn k with retries := (s.stoConn k).retries + 1 }).tcpSeg k
      (((s.stoConn k).unacked.head?.map (·.2)).getD [])) :=
  (if_neg (State.rtoRuns tcp up sent)).trans (if_pos left)

theorem exec_tcpRtoExpiry_lost (spent : s.rd F.STO_TCP_CFG_RETRIES ≤ (s.stoConn k).retries) :
    exec (.tcpRtoExpiry k) s = .next (s.connLost k) :=
  (if_neg (State.rtoRuns tcp up sent)).trans (if_neg (Nat.not_lt.2 spent))

end Rto

section AckTimeout

variable {q : Nat} {s : State} (sent : (s.qp q).unacked ≠ [])
include sent

theorem exec_roceAckTimeout_again (left : (s.qp q).retries < (s.qp q).retryCnt) :
    exec (.roceAckTimeout q) s = .next ((s.setQp q { s.qp q with retries := (s.qp q).retries + 1 }).goBack q) :=
  (if_neg sent).trans (if_pos left)

theorem exec_roceAckTimeout_lost (spent : (s.qp q).retryCnt ≤ (s.qp q).retries) :
    exec (.roceAckTimeout q) s = .next (s.qpLost q) :=
  (if_neg sent).trans (if_neg (Nat.not_lt.2 spent))

end AckTimeout

/-! Segments with payload (R413, R427) -/

section Segment

/-- A connection that is up takes segments. -/
theorem Conn.receives {x : Conn} (up : x.st = .up) : ¬ (x.st = .syn ∨ x.st = .down) := by simp [up]

variable {s u : State} {p : Pkt} (taken : s.stoTake 1 (fun p => !(tcpParse p.data).1.isEmpty) = (some p, u))
include taken

theorem exec_nvmeTcpPduRx_down (down : ((u.stoConn p.stoIndex).acked (tcpParse p.data).2.2.1).st = .down) :
    exec .nvmeTcpPduRx s = .next u := by
  rw [exec_nvmeTcpPduRx, execNvmeTcpPduRx, taken]
  exact if_pos (.inr down)

section Up

variable (up : ((u.stoConn p.stoIndex).acked (tcpParse p.data).2.2.1).st = .up)
include up

/-- A segment out of order is acknowledged only. -/
theorem exec_nvmeTcpPduRx_outOfOrder
    (gap : (tcpParse p.data).2.1 ≠ ((u.stoConn p.stoIndex).acked (tcpParse p.data).2.2.1).rcv) :
    exec .nvmeTcpPduRx s =
      .next ((u.setConn p.stoIndex ((u.stoConn p.stoIndex).acked (tcpParse p.data).2.2.1)).tcpSeg p.stoIndex []) := by
  rw [exec_nvmeTcpPduRx, execNvmeTcpPduRx, taken]
  exact (if_neg (Conn.receives up)).trans (if_pos gap)

/-- The bytes of a segment in order go to the stream, which is cut into PDUs. -/
theorem exec_nvmeTcpPduRx_inOrder
    (next : (tcpParse p.data).2.1 = ((u.stoConn p.stoIndex).acked (tcpParse p.data).2.2.1).rcv) :
    exec .nvmeTcpPduRx s = .next (
      let x := (u.stoConn p.stoIndex).acked (tcpParse p.data).2.2.1
      let y := { x with rcv := (x.rcv + (tcpParse p.data).1.length) % 2 ^ 32, rx := x.rx ++ (tcpParse p.data).1 }
      ((u.setConn p.stoIndex y).tcpSeg p.stoIndex []).pdus p.stoIndex y.rx.length) := by
  rw [exec_nvmeTcpPduRx, execNvmeTcpPduRx, taken]
  exact (if_neg (Conn.receives up)).trans (if_neg (not_not.2 next))

end Up

end Segment

/-! The statement -/

/-- Settles O46: each event of the back end by the lemma of its circumstances above; the four cases of a completion come from
`exec_backendCompletion_entry`. -/
theorem backEnd : Obligations.BackEnd := by
  unfold Obligations.BackEnd
  exact ⟨fun k c l s waits up => ⟨exec_backendIssue_room waits up, exec_backendIssue_full waits⟩,
    fun k e s entry up noAlive => ⟨exec_backendCompletion_orphan entry up noAlive, fun c => exec_backendCompletion_good entry up noAlive,
      fun c => exec_backendCompletion_bad entry up noAlive⟩,
    fun id k c s found => ⟨fun t issued => ⟨exec_attemptTimeout_issued found issued, exec_issueWaitTimeout_issued found issued⟩,
      fun waits => ⟨exec_issueWaitTimeout_waiting found waits, exec_attemptTimeout_waiting found waits⟩⟩,
    fun k b l s => exec_icrespRx_fits,
    fun k e s entry connecting => ⟨exec_fabricsConnectResponse_refused entry connecting, exec_fabricsConnectResponse_up entry connecting⟩,
    fun p s => exec_fabricsConnectRetry_valid,
    fun p k l s => exec_keepAliveTimer_sends,
    fun k s tcp up sent => ⟨exec_tcpRtoExpiry_again tcp up sent, exec_tcpRtoExpiry_lost tcp up sent⟩,
    fun q s sent => ⟨exec_roceAckTimeout_again sent, exec_roceAckTimeout_lost sent⟩,
    fun s u p taken => ⟨exec_nvmeTcpPduRx_down taken, exec_nvmeTcpPduRx_outOfOrder taken, exec_nvmeTcpPduRx_inOrder taken⟩⟩

end Sys2Proof.Machine
end

section
/-! PROOFS. The statements of 10_storage_and_rdma.md on RoCE packets and rate control (R423-R425) and on the admin commands of controllers,
namespaces and paths, the context port and STO_TCP_CFG (R395, R396, R417, R428, R429). First what each comes to in its circumstances, then
the statement, which cites these. -/

namespace Sys2Proof.Machine

open Sys2Proof

/-! RoCE packets (R414, R423) -/

/-- The opcode of a RoCE packet, 0 where there is none. -/
def Pkt.bthOp (p : Pkt) : Nat :=
  match bthAt p.data with
  | some (_, _, b, _) => (p.data.getD b 0).toNat
  | none => 0

section Packet

variable {s u : State} {p : Pkt} {o b stop : Nat} {v6 : Bool} (bth : bthAt p.data = some (o, v6, b, stop))
  (taken : s.stoTake 2 (fun p => p.bthOp ≠ 0x81) = (some p, u))
include bth taken

theorem exec_rocePacketRx_badIcrc (bad : leNat ((p.data.take stop).drop (stop - 4)) ≠
      (Config.icrc (((p.data.take stop).take (stop - 4)).drop o)).toNat) :
    exec .rocePacketRx s = .next (u.err R.STO_ICRC_CNT) := by
  rw [exec_rocePacketRx, execRocePacketRx]
  dsimp only
  generalize taking : s.stoTake 2 _ = outcome
  obtain rfl : outcome = (some p, u) := taking.symm.trans taken
  simp only [bth]
  exact if_pos bad

/-- An acknowledgement to a reliable queue pair that is not in error. -/
theorem exec_rocePacketRx_ack (good : leNat ((p.data.take stop).drop (stop - 4)) =
      (Config.icrc (((p.data.take stop).take (stop - 4)).drop o)).toNat) (uncongested : ecn (p.data.take stop) o v6 ≠ 3)
    (live : (u.qp p.stoIndex).error = false) (reliable : (u.qp p.stoIndex).ud = false) (ack : (p.data.getD b 0).toNat = 17) :
    exec .rocePacketRx s = .next (
      let l := p.data.take stop
      u.qpAcked p.stoIndex (beNat ((l.drop (b + 9)).take 3))
        ((((l.take (stop - 4 - (l.getD (b + 1) 0).toNat / 16 % 4)).drop (b + 12)).getD 0 0).toNat)) := by
  rw [exec_rocePacketRx, execRocePacketRx]
  dsimp only
  generalize taking : s.stoTake 2 _ = outcome
  obtain rfl : outcome = (some p, u) := taking.symm.trans taken
  simp only [bth, good, ne_eq, not_true_eq_false, if_false, if_neg uncongested, live, reliable, Bool.false_eq_true, ack, if_true]

end Packet

/-! Congestion notification and rates (R424, R425) -/

/-- Whether a packet is a CNP. -/
def Pkt.isCnp (p : Pkt) : Bool :=
  match bthAt p.data with
  | some (_, _, b, _) => p.data.getD b 0 == 0x81
  | none => false

/-- A CNP that comes too soon after a cut raises alpha and starts the recovery period anew, without another cut. -/
theorem exec_cnpRx_noCut {s u : State} {p : Pkt} (taken : s.stoTake 2 Pkt.isCnp = (some p, u))
    (soon : (u.stat R.STO_CNP_RX_CNT).fst.drip - (u.qp p.stoIndex).lastCut < (u.stat R.STO_CNP_RX_CNT).rd F.STO_RC_CFG_CUT_DRIPS) :
    exec .cnpRx s = .next (
      let v := u.stat R.STO_CNP_RX_CNT
      let x := u.qp p.stoIndex
      v.setQp p.stoIndex { x with alpha := x.alpha + (1024 - x.alpha) / 16, lastCnp := v.fst.drip }) := by
  rw [exec_cnpRx, execCnpRx]
  dsimp only
  generalize taking : s.stoTake 2 _ = outcome
  obtain rfl : outcome = (some p, u) := taking.symm.trans taken
  simp only [if_neg (Nat.not_le.2 soon)]

/-- In the first five periods without a CNP the rate goes half the way to the target. -/
theorem exec_rateIncreasePeriod_recovers {q : Nat} {s : State} (valid : (s.qp q).valid = true)
    (elapsed : (s.qp q).lastCnp + s.rd F.STO_RC_CFG_INC_DRIPS ≤ s.fst.drip) (early : (s.qp q).stage < 5) :
    exec (.rateIncreasePeriod q) s = .next (s.setQp q { s.qp q with
      alpha := (s.qp q).alpha - (s.qp q).alpha / 16, lastCnp := s.fst.drip, stage := (s.qp q).stage + 1,
      rate := ((s.qp q).rate + (s.qp q).target) / 2 }) := by
  rw [exec_rateIncreasePeriod, execRateIncreasePeriod]
  dsimp only
  rw [if_pos ⟨valid, elapsed⟩, if_pos early]

/-! Controllers (R395) -/

section CtrlCreate

variable {f : Nat} {s : State} {c : AdmCmd} (checked : s.Checked f 0x38 true [0x107FF] (fun _ => true) c)
include checked

theorem exec_ctrlCreate_notCreated (absent : (s.func c.target).created = false) :
    exec (.ctrlCreate f) s = .next (s.admDone f stBadField) := by
  rw [exec_ctrlCreate, execCtrlCreate, checked.admRun]
  exact congrArg Host.Outcome.next (if_pos (.inr absent))

theorem exec_ctrlCreate_creates (notMgmt : isMgmt c.target = false) (created : (s.func c.target).created = true)
    (unused : s.hasCtrl (bitsOf (c.word 8) 0 11) = false) (unowned : s.ctrlOf c.target = none) :
    exec (.ctrlCreate f) s = .next ((s.setCtrl (bitsOf (c.word 8) 0 11)
      { kind := bitsOf (c.word 8) 16 1, owner := c.target }).admDone f stSuccess) := by
  have ownable : ¬ (isMgmt c.target = true ∨ (s.func c.target).created = false) := by simp [notMgmt, created]
  have free : ¬ (s.hasCtrl (bitsOf (c.word 8) 0 11) = true ∨ (s.ctrlOf c.target).isSome = true) := by simp [unused, unowned]
  rw [exec_ctrlCreate, execCtrlCreate, checked.admRun]
  exact congrArg Host.Outcome.next ((if_neg ownable).trans (if_neg free))

end CtrlCreate

section CtrlDestroy

variable {f : Nat} {s : State} {c : AdmCmd} (checked : s.Checked f 0x39 true [0x7FF] (fun _ => true) c)
include checked

theorem exec_ctrlDestroy_absent (absent : Map.get s.sto.ctrls none (bitsOf (c.word 8) 0 11) = none) :
    exec (.ctrlDestroy f) s = .next (s.admDone f stBadField) := by
  rw [exec_ctrlDestroy, execCtrlDestroy, checked.admRun]
  simp only [absent]

theorem exec_ctrlDestroy_destroys {x : Ctrl} (present : Map.get s.sto.ctrls none (bitsOf (c.word 8) 0 11) = some x)
    (noNs : s.sto.ns.any (fun e => bitOf e.2 0 && bitsOf e.2 64 11 == bitsOf (c.word 8) 0 11) = false)
    (noQueue : (s.func x.owner).queues.any (fun e => decide (7 * 4096 ≤ e.1)) = false) :
    exec (.ctrlDestroy f) s = .next (
      let u : State := { s with sto := { s.sto with ctrls := Map.set s.sto.ctrls none (bitsOf (c.word 8) 0 11) none } }
      u.admDone f stSuccess) := by
  rw [exec_ctrlDestroy, execCtrlDestroy, checked.admRun]
  simp only [present, noNs, noQueue, Bool.false_eq_true, or_false, if_false]

end CtrlDestroy

/-! Namespaces (R396, R428) -/

/-- The 64 bytes that an NS_CREATE or PATH_CREATE of function f points to. -/
def State.contextData (s : State) (f : Nat) (c : AdmCmd) : Nat := leNat (s.hostRead (s.attOf f) (c.word 0x10) 64)

theorem exec_nsCreate_creates {f : Nat} {s : State} {c : AdmCmd} {k : Ctrl}
    (checked : s.Checked f 0x3A true [0x3FFF, 2 ^ 64 - 1] (fun _ => true) c)
    (ctrl : Map.get s.sto.ctrls none (bitsOf (s.contextData f c) 64 11) = some k) (masked : onlyBits (s.contextData f c) nsMasks = true)
    (valid : bitOf (s.contextData f c) 0 = true) (owner : k.owner = bitsOf (s.contextData f c) 16 12)
    (function : bitsOf (s.contextData f c) 16 12 ≠ 0xFFF) (nvme : k.kind = 0) (path : s.pf (bitsOf (s.contextData f c) 96 12) 0 1 = 1)
    (unused : s.nf (bitsOf (c.word 8) 0 14) 0 1 = 0)
    (nsid : s.nsOf (bitsOf (s.contextData f c) 64 11) (bitsOf (s.contextData f c) 80 5 + 1) = none) :
    exec (.nsCreate f) s = .next (
      let n := bitsOf (c.word 8) 0 14
      let x := s.contextData f c
      let u : State := { s with
        sto := { s.sto with
          ns := Map.set s.sto.ns 0 n (putBits (putBits x 2 1 0) 28 12 (s.func (bitsOf x 16 12)).gen), nsKeys := Map.set s.sto.nsKeys 0 n 0 } }
      u.admDone f stSuccess) := by
  unfold State.contextData at *
  rw [exec_nsCreate, execNsCreate, checked.admRun]
  simp only [ctrl, masked, valid, owner, nvme, path, unused, nsid, if_neg function, ne_eq, not_true_eq_false, false_and, or_false,
    Bool.true_eq_false, zero_ne_one, one_ne_zero, Option.isSome_none, Bool.false_eq_true, if_false]

section NsDestroy

variable {f : Nat} {s : State} {c : AdmCmd} (checked : s.Checked f 0x3B true [0x3FFF] (fun _ => true) c)
include checked

theorem exec_nsDestroy_absent (absent : s.nf (bitsOf (c.word 8) 0 14) 0 1 = 0) :
    exec (.nsDestroy f) s = .next (s.admDone f stBadField) := by
  rw [exec_nsDestroy, execNsDestroy, checked.admRun]
  exact congrArg Host.Outcome.next (if_pos absent)

theorem exec_nsDestroy_destroys (present : s.nf (bitsOf (c.word 8) 0 14) 0 1 = 1)
    (idle : s.sto.cmds.any (fun x => x.ns == bitsOf (c.word 8) 0 14) = false) :
    exec (.nsDestroy f) s = .next (
      let n := bitsOf (c.word 8) 0 14
      let u : State := { s with sto := { s.sto with ns := Map.erase s.sto.ns n, nsKeys := Map.erase s.sto.nsKeys n } }
      u.admDone f stSuccess) := by
  rw [exec_nsDestroy, execNsDestroy, checked.admRun]
  exact congrArg Host.Outcome.next ((if_neg (ne_of_eq_of_ne present one_ne_zero)).trans (if_neg (ne_true_of_eq_false idle)))

end NsDestroy

/-! Paths (R413-R417, R428) -/

/-- A field of w bits lies below 2^w. -/
theorem bitsOf_lt (n lo w : Nat) : bitsOf n lo w < 2 ^ w := Nat.mod_lt _ (Nat.two_pow_pos w)

section PathCreate

variable {f : Nat} {s : State} {c : AdmCmd} (checked : s.Checked f 0x3C true [0xFFF, 2 ^ 64 - 1] (fun _ => true) c)
include checked

theorem exec_pathCreate_noConns (noConns : bitsOf (s.contextData f c) 16 7 = 0) :
    exec (.pathCreate f) s = .next (s.admDone f stBadField) := by
  rw [exec_pathCreate, execPathCreate, checked.admRun]
  exact congrArg Host.Outcome.next (if_pos (.inr (.inr (.inl noConns))))

section Tcp

variable (masked : onlyBits (s.contextData f c) pathMasks = true) (valid : bitOf (s.contextData f c) 0 = true)
  (tcp : bitOf (s.contextData f c) 1 = false) (conns : 0 < bitsOf (s.contextData f c) 16 7) (most : bitsOf (s.contextData f c) 16 7 ≤ 64)
  (size : 2 ≤ bitsOf (s.contextData f c) 272 16)
include checked masked valid tcp conns most size

/-- The context of an NVMe/TCP path with its numbers within bounds is no bad field. -/
theorem exec_pathCreate_good : exec (.pathCreate f) s = .next (
    let p := bitsOf (c.word 8) 0 12
    let x := s.contextData f c
    let l := s.newConns false (bitsOf x 16 7 + 1)
    if s.pf p 0 1 = 1 then s.admDone f stBusy
    else if l.length ≠ bitsOf x 16 7 + 1 then s.admDone f stNoResource
    else
      let u : State := { s with
        sto := { s.sto with
          paths := Map.set s.sto.paths 0 p (putBits (putBits (putBits x 2 1 0) 96 32 0) 320 16 0), pathConns := Map.set s.sto.pathConns [] p l } }
      let v := (u.setEff p).each l.zipIdx (fun t e => (t.setConn e.1 { path := p, num := e.2 }).connOpen e.1)
      (v.tryConnect (l.getD 0 0)).admDone f stSuccess) := by
  have bound := bitsOf_lt (s.contextData f c) 272 16
  have good : ¬ (¬ onlyBits (s.contextData f c) pathMasks = true ∨ bitOf (s.contextData f c) 0 = false ∨
      bitsOf (s.contextData f c) 16 7 = 0 ∨ 64 < bitsOf (s.contextData f c) 16 7 ∨ bitsOf (s.contextData f c) 272 16 < 2 ∨
      bitsOf (s.contextData f c) 272 16 = 65536 ∨ (bitOf (s.contextData f c) 1 = true ∧
        (bitsOf (s.contextData f c) 288 3 = 7 ∨ bitsOf (s.contextData f c) 291 5 = 0))) := by
    simp only [masked, valid, tcp, not_true_eq_false, Bool.true_eq_false, Bool.false_eq_true, false_and, false_or, or_false]
    omega
  rw [exec_pathCreate, execPathCreate, checked.admRun]
  unfold State.contextData at *
  dsimp only
  rw [if_neg good, tcp]
  rfl

theorem exec_pathCreate_inUse (used : s.pf (bitsOf (c.word 8) 0 12) 0 1 = 1) :
    exec (.pathCreate f) s = .next (s.admDone f stBusy) := by
  rw [exec_pathCreate_good checked masked valid tcp conns most size]
  exact congrArg Host.Outcome.next (if_pos used)

theorem exec_pathCreate_creates (unused : s.pf (bitsOf (c.word 8) 0 12) 0 1 = 0)
    (contexts : (s.newConns false (bitsOf (s.contextData f c) 16 7 + 1)).length = bitsOf (s.contextData f c) 16 7 + 1) :
    exec (.pathCreate f) s = .next (
      let p := bitsOf (c.word 8) 0 12
      let x := s.contextData f c
      let l := s.newConns false (bitsOf x 16 7 + 1)
      let u : State := { s with
        sto := { s.sto with
          paths := Map.set s.sto.paths 0 p (putBits (putBits (putBits x 2 1 0) 96 32 0) 320 16 0), pathConns := Map.set s.sto.pathConns [] p l } }
      let v := (u.setEff p).each l.zipIdx (fun t e => (t.setConn e.1 { path := p, num := e.2 }).connOpen e.1)
      (v.tryConnect (l.getD 0 0)).admDone f stSuccess) := by
  rw [exec_pathCreate_good checked masked valid tcp conns most size]
  exact congrArg Host.Outcome.next ((if_neg (ne_of_eq_of_ne unused zero_ne_one)).trans (if_neg (not_not.2 contexts)))

end Tcp

end PathCreate

section PathDestroy

variable {f : Nat} {s : State} {c : AdmCmd} (checked : s.Checked f 0x3D true [0xFFF] (fun _ => true) c)
include checked

theorem exec_pathDestroy_absent (absent : s.pf (bitsOf (c.word 8) 0 12) 0 1 = 0) :
    exec (.pathDestroy f) s = .next (s.admDone f stBadField) := by
  rw [exec_pathDestroy, execPathDestroy, checked.admRun]
  exact congrArg Host.Outcome.next (if_pos absent)

variable (present : s.pf (bitsOf (c.word 8) 0 12) 0 1 = 1)
include present

theorem exec_pathDestroy_ofNamespace (ofNs : s.sto.ns.any (fun e => bitOf e.2 0 && bitsOf e.2 96 12 == bitsOf (c.word 8) 0 12) = true) :
    exec (.pathDestroy f) s = .next (s.admDone f stBusy) := by
  rw [exec_pathDestroy, execPathDestroy, checked.admRun]
  exact congrArg Host.Outcome.next ((if_neg (ne_of_eq_of_ne present one_ne_zero)).trans (if_pos (.inl ofNs)))

theorem exec_pathDestroy_destroys
    (noNs : s.sto.ns.any (fun e => bitOf e.2 0 && bitsOf e.2 96 12 == bitsOf (c.word 8) 0 12) = false)
    (noPath : s.sto.paths.any (fun e => e.1 != bitsOf (c.word 8) 0 12 && bitOf e.2 44 && bitsOf e.2 32 12 == bitsOf (c.word 8) 0 12) = false) :
    exec (.pathDestroy f) s = .next (
      let p := bitsOf (c.word 8) 0 12
      let w := s.setPathUp p false
      let u := w.each (w.connsOf p) (fun t k => { t with
        sto := { t.sto with
          conns := Map.erase t.sto.conns k, qps := if roceConn k then Map.erase t.sto.qps (k - 65536) else t.sto.qps } })
      let v : State := { u with
        sto := { u.sto with paths := Map.erase u.sto.paths p, pathConns := Map.erase u.sto.pathConns p } }
      v.admDone f stSuccess) := by
  rw [exec_pathDestroy, execPathDestroy, checked.admRun]
  simp only [present, noNs, noPath, one_ne_zero, Bool.false_eq_true, or_false, if_false]

end PathDestroy

/-! The context port (R429) -/

/-- The state with a GO's table, index and part in the control register of attachment a. -/
def State.ctxAsked (s : State) (a table index part : Nat) : State :=
  ((s.wr (F.STO_CTX_CTRL_TABLE a) table).wr (F.STO_CTX_CTRL_INDEX a) index).wr (F.STO_CTX_CTRL_PART a) part

section Context

variable (a p : Nat) {i : Nat} (s : State)

theorem exec_stoContextRead_beyond (beyond : 16384 ≤ i) :
    exec (.stoContextRead a 0 i p) s = .next ((s.ctxAsked a 0 i p).wrB (F.STO_CTX_CTRL_ERR a) true) :=
  congrArg Host.Outcome.next (if_pos beyond)

/-- A path's context stands in the data registers. -/
theorem exec_stoContextRead_path (within : i < 4096) :
    exec (.stoContextRead a 1 i p) s = .next (((s.ctxAsked a 1 i p).wrB (F.STO_CTX_CTRL_ERR a) false).each (List.range 4) (fun t k =>
      t.setReg (R.STO_CTX_DATA a k) (BitVec.ofNat 64 (Map.get s.sto.paths 0 i / 2 ^ (256 * p + 64 * k))))) :=
  congrArg Host.Outcome.next (if_neg (Nat.not_le.2 within))

end Context

/-! The statement -/

/-- Settles O47: packets and rates by the lemmas on queue pairs above, an admin command by the lemma of its circumstances
(`State.Checked.admRun` runs it), the context port and STO_TCP_CFG by what they write. -/
theorem roceAndStorageAdmin : Obligations.RoceAndStorageAdmin := by
  unfold Obligations.RoceAndStorageAdmin
  exact ⟨fun s u p o b stop v6 bth taken => ⟨exec_rocePacketRx_badIcrc bth taken, exec_rocePacketRx_ack bth taken⟩,
    fun s u p => exec_cnpRx_noCut,
    fun q s => exec_rateIncreasePeriod_recovers,
    fun f s c checked => ⟨exec_ctrlCreate_notCreated checked, exec_ctrlCreate_creates checked⟩,
    fun f s c checked => ⟨exec_ctrlDestroy_absent checked, fun x => exec_ctrlDestroy_destroys checked⟩,
    fun f s c k => exec_nsCreate_creates,
    fun f s c checked => ⟨exec_nsDestroy_absent checked, exec_nsDestroy_destroys checked⟩,
    fun f s c checked => ⟨exec_pathCreate_noConns checked, fun masked valid tcp conns most size =>
      ⟨exec_pathCreate_inUse checked masked valid tcp conns most size, exec_pathCreate_creates checked masked valid tcp conns most size⟩⟩,
    fun f s c checked => ⟨exec_pathDestroy_absent checked, exec_pathDestroy_ofNamespace checked, exec_pathDestroy_destroys checked⟩,
    fun a i p s => ⟨exec_stoContextRead_beyond a p s, exec_stoContextRead_path a p s⟩,
    fun v s => rfl⟩

end Sys2Proof.Machine
end

section
/-! PROOFS. The test access port, clock pins, links and lanes, timers and what QP_MODIFY sets (R413, R423, R449, R569, R587, R671, R683-R685,
R700, R711). First what each event comes to in its circumstances, then the statement, which cites these. -/

namespace Sys2Proof.Machine

open Sys2Proof

/-! The test access port (R661, R683-R685) -/

section Tap

variable {s : State}

/-- Without power the port is ignored. -/
theorem State.tapLoad_unpowered (unpowered : s.board.powered = false) (ir : Nat) : s.tapLoad ir = s := by
  rw [State.tapLoad, unpowered]
  rfl

section Powered

variable (powered : s.board.powered = true)
include powered

theorem State.tapLoad_powered (ir : Nat) :
    s.tapLoad ir = s.tapTo (if strapsBad (s.reg R.GLB_STRAPS).toNat && ir != 2 then 0xFF else ir) := by
  rw [State.tapLoad, powered]
  rfl

theorem State.tapLoad_good (good : strapsBad (s.reg R.GLB_STRAPS).toNat = false) (ir : Nat) : s.tapLoad ir = s.tapTo ir := by
  rw [State.tapLoad_powered powered, good]
  rfl

/-- IDCODE is loaded whatever the straps are. -/
theorem State.tapLoad_idcode : s.tapLoad 2 = s.tapTo 2 := by
  rw [State.tapLoad_powered powered, bne_self_eq_false, Bool.and_false]
  rfl

/-- With a reserved strap code an instruction other than IDCODE selects BYPASS. -/
theorem State.tapLoad_bad (bad : strapsBad (s.reg R.GLB_STRAPS).toNat = true) {ir : Nat} (notIdcode : (ir != 2) = true) :
    s.tapLoad ir = s.tapTo 0xFF := by
  rw [State.tapLoad_powered powered, bad, notIdcode]
  rfl

end Powered

end Tap

/-! Clock pins (R700) -/

section Clocks

variable {s : State}

theorem exec_ethRefclkReturn_present (clock : s.board.ethClk = true) : exec .ethRefclkReturn s = .next s := if_pos clock

/-- The configured ports begin to come up. -/
theorem exec_ethRefclkReturn_returns (lost : s.board.ethClk = false) :
    exec .ethRefclkReturn s = .next ({ s with board := { s.board with ethClk := true } }.each (List.range 8) (fun t p =>
      if bitOf (t.rd F.PRT_STATUS_CONFIGURED) p && t.rd (F.PRT_LINK_STATUS_AN_STATE p) != 4 then t.anBegin p else t)) :=
  if_neg (ne_true_of_eq_false lost)

theorem exec_ncsiRefclkReturn_present (clock : s.board.ncsiClk = true) : exec .ncsiRefclkReturn s = .next s := if_pos clock

theorem exec_ncsiRefclkLoss_present (clock : s.board.ncsiClk = true) :
    exec .ncsiRefclkLoss s = .next ({ s with board := { s.board with ncsiClk := false } }.emit (.pin "NCSI_RBT_DRIVEN" false)) :=
  if_pos clock

theorem exec_ncsiRefclkLoss_lost (lost : s.board.ncsiClk = false) : exec .ncsiRefclkLoss s = .next s :=
  if_neg (ne_true_of_eq_false lost)

theorem exec_ncsiRefclkReturn_returns (lost : s.board.ncsiClk = false) :
    exec .ncsiRefclkReturn s = .next ({ s with board := { s.board with ncsiClk := true } }.emit (.pin "NCSI_RBT_DRIVEN" true)) :=
  if_neg (ne_true_of_eq_false lost)

variable {a : Nat}

theorem exec_pcieRefclkLoss_up (up : (s.updLink a (fun x => { x with refclk := false })).rdB (F.HIF_LINK_STATUS_DL_UP a) = true) :
    exec (.pcieRefclkLoss a) s = .next ((s.updLink a (fun x => { x with refclk := false })).attDown a) :=
  if_pos up

theorem exec_pcieRefclkLoss_down (down : (s.updLink a (fun x => { x with refclk := false })).rdB (F.HIF_LINK_STATUS_DL_UP a) = false) :
    exec (.pcieRefclkLoss a) s = .next (s.updLink a (fun x => { x with refclk := false })) :=
  if_neg (ne_true_of_eq_false down)

end Clocks

/-! SMBus and the PCIe link's replay timer (R449, R711) -/

theorem exec_smbusMctpRx_otherAddress {addr : Nat} (ok : Bool) (s : State) (other : addr ≠ 0x32) :
    exec (.smbusMctpRx addr ok) s = .next s :=
  if_neg fun ours => other ours.1

theorem exec_smbusMctpRx_acknowledges {s : State} (running : s.board.held = false) :
    exec (.smbusMctpRx 0x32 true) s = .next (s.emit (.pin "SMB_ACK" true)) :=
  if_pos ⟨rfl, rfl, ne_true_of_eq_false running⟩

section Replay

variable {a : Nat} {s : State} (up : s.rdB (F.HIF_LINK_STATUS_DL_UP a) = true)
include up

/-- A replay of another packet than the last is counted from 1. -/
theorem exec_replayTimerExpiry_other :
    exec (.replayTimerExpiry a false) s = .next ((s.stat (R.HIF_REPLAY_CNT a)).updLink a (fun x => { x with replays := 1 })) :=
  if_pos up

/-- The fourth replay of a packet sends the link to Recovery. -/
theorem exec_replayTimerExpiry_fourth (replays : (s.link a).replays = 3) :
    exec (.replayTimerExpiry a true) s = .next (
      (((s.stat (R.HIF_REPLAY_CNT a)).updLink a (fun x => { x with replays := 0 })).stat (R.HIF_RECOVERY_CNT a)).wr
        (F.HIF_LINK_STATUS_LTSSM a) 4) := by
  rw [exec_replayTimerExpiry, execReplayTimerExpiry, replays]
  exact if_pos up

end Replay

/-! Segments without payload (R413, R416) -/

/-- Flags with neither RST nor FIN do not end a connection. -/
theorem noReset_noFin {flags : Nat} (noReset : bitOf flags 2 = false) (noFin : bitOf flags 0 = false) :
    ¬ (bitOf flags 2 = true ∨ bitOf flags 0 = true) := by
  simp [noReset, noFin]

section Ack

variable {s u : State} {p : Pkt} (taken : s.stoTake 1 (fun p => (tcpParse p.data).1.isEmpty) = (some p, u))
include taken

/-- What a segment's flags and the state of its connection make of it. -/
theorem exec_tcpAckRx_taken : exec .tcpAckRx s = (
    let k := p.stoIndex
    let fl := (tcpParse p.data).2.2.2
    let x := u.stoConn k
    if bitOf fl 2 = true ∨ bitOf fl 0 = true then .next (u.connLost k)
    else if x.st = .syn then
      if bitOf fl 1 = true ∧ bitOf fl 4 = true then
        .next ((u.setConn k { x with st := .icreq, rcv := ((tcpParse p.data).2.1 + 1) % 2 ^ 32, retries := 0 }).sendIcreq k)
      else .next u
    else .next (u.setConn k (x.acked (tcpParse p.data).2.2.1))) := by
  rw [exec_tcpAckRx, execTcpAckRx, taken]

theorem exec_tcpAckRx_reset (reset : bitOf (tcpParse p.data).2.2.2 2 = true) : exec .tcpAckRx s = .next (u.connLost p.stoIndex) :=
  (exec_tcpAckRx_taken taken).trans (if_pos (.inl reset))

variable (noReset : bitOf (tcpParse p.data).2.2.2 2 = false) (noFin : bitOf (tcpParse p.data).2.2.2 0 = false)
include noReset noFin

theorem exec_tcpAckRx_opens (opening : (u.stoConn p.stoIndex).st = .syn) (syn : bitOf (tcpParse p.data).2.2.2 1 = true)
    (ack : bitOf (tcpParse p.data).2.2.2 4 = true) :
    exec .tcpAckRx s = .next ((u.setConn p.stoIndex { u.stoConn p.stoIndex with
      st := .icreq, rcv := ((tcpParse p.data).2.1 + 1) % 2 ^ 32, retries := 0 }).sendIcreq p.stoIndex) :=
  (exec_tcpAckRx_taken taken).trans ((if_neg (noReset_noFin noReset noFin)).trans ((if_pos opening).trans (if_pos ⟨syn, ack⟩)))

theorem exec_tcpAckRx_acknowledges (up : (u.stoConn p.stoIndex).st = .up) :
    exec .tcpAckRx s = .next (u.setConn p.stoIndex ((u.stoConn p.stoIndex).acked (tcpParse p.data).2.2.1)) := by
  have notOpening : (u.stoConn p.stoIndex).st ≠ .syn := ne_of_eq_of_ne up (by decide)
  exact (exec_tcpAckRx_taken taken).trans ((if_neg (noReset_noFin noReset noFin)).trans (if_neg notOpening))

end Ack

/-! QP_MODIFY (R423) -/

/-- Queue pair x as a tenant asks for it, of function a.fn and at the rate of its port. -/
def State.qpWith (s : State) (x : Qp) (a : QpAttr) : Qp :=
  let r := 1000 * s.portRate a.port
  { x with
    valid := true, error := false, ud := a.svc == 1, owner := some a.fn, port := a.port, v6 := a.v6, peer := a.peer, mtu := a.mtu,
    retryCnt := a.retryCnt, rnrRetry := a.rnrRetry, ackTo := a.ackTo, dqpn := a.dqpn, snd := a.psn, epsn := a.epsn, rate := r, target := r,
    tmQueue := a.tmQueue, tc := a.tc, regions := a.regions.map (fun x => ⟨x.1, false, s.attOf a.fn, x.2.1, x.2.2⟩) }

section QpModify

variable {q : Nat} {a : QpAttr} {s : State} (served : a.svc < 2)
include served

theorem exec_qpModify_badMtu (mtu : a.mtu = 512) : exec (.qpModify q a) s = .next (s.emit (.qpDone q stBadField)) := by
  have bad : ¬ (a.mtu = 1024 ∨ a.mtu = 2048 ∨ a.mtu = 4096) := by omega
  exact (if_neg (Nat.not_le.2 served)).trans (if_pos (.inl bad))

theorem exec_qpModify_sets (mtu : a.mtu = 1024) (retries : a.retryCnt ≤ 7) (rnrRetries : a.rnrRetry ≤ 7) (tenant : (s.qp q).conn = none)
    (created : (s.func a.fn).created = true) :
    exec (.qpModify q a) s = .next ((s.setQp q (s.qpWith (s.qp q) a)).emit (.qpDone q stSuccess)) := by
  have good : ¬ (¬ (a.mtu = 1024 ∨ a.mtu = 2048 ∨ a.mtu = 4096) ∨ 7 < a.retryCnt ∨ 7 < a.rnrRetry) := by omega
  have permitted : ¬ ((s.qp q).conn.isSome = true ∨ (s.func a.fn).created = false) := by simp [tenant, created]
  exact (if_neg (Nat.not_le.2 served)).trans ((if_neg good).trans (if_neg permitted))

end QpModify

/-! PLDM_FW_UPDATE (R671) -/

section Pldm

variable {b off : Nat} {d : List Byte} {s : State}

theorem exec_pldmFwUpdate_writes (running : s.board.held = false) (bank : b < 2) (within : off + d.length ≤ bankSize)
    (admitted : s.inRecovery = true ∨ (s.rd F.GRT_BOOT_STATUS_STAGE = 3 ∧ b ≠ s.rd F.GRT_STATUS_BANK)) :
    exec (.pldmFwUpdate b off d) s = .next (s.flashWrite (bankAt b + off) d) :=
  congrArg Host.Outcome.next (if_pos ⟨running, bank, within, admitted⟩)

/-- The bank that the device runs from is not written. -/
theorem exec_pldmFwUpdate_ownBank (booted : s.rd F.GRT_BOOT_STATUS_STAGE = 3) (own : b = s.rd F.GRT_STATUS_BANK) :
    exec (.pldmFwUpdate b off d) s = .next s := by
  have normal : s.inRecovery = false := by rw [State.inRecovery, booted]; rfl
  refine congrArg Host.Outcome.next (if_neg fun ⟨_, _, _, admitted⟩ => ?_)
  exact admitted.elim (ne_true_of_eq_false normal) (fun other => other.2 own)

end Pldm

/-! The statement -/

/-- Settles O57: an instruction of the TAP by `State.tapLoad`'s lemmas, a queue pair by `State.qpWith`, every other event by the lemma of its
circumstances above or by what it writes in any. -/
theorem pinsTimersAndQueuePairs : Obligations.PinsTimersAndQueuePairs := by
  unfold Obligations.PinsTimersAndQueuePairs
  refine ⟨?tapGood, ?tapBad, ?tapUnpowered, ?clocks,
    fun a s => ⟨exec_pcieRefclkLoss_up, exec_pcieRefclkLoss_down, rfl⟩,
    fun addr ok s => ⟨exec_smbusMctpRx_otherAddress ok s, exec_smbusMctpRx_acknowledges⟩,
    fun up v s => rfl, fun p b s => rfl,
    fun a s up => ⟨exec_replayTimerExpiry_other up, exec_replayTimerExpiry_fourth up⟩,
    fun s u p taken => ⟨exec_tcpAckRx_reset taken,
      fun noReset noFin opening syn ack => exec_tcpAckRx_opens taken noReset noFin opening syn ack,
      exec_tcpAckRx_acknowledges taken⟩, ?qp,
    fun b off d s running bank within => ⟨exec_pldmFwUpdate_writes running bank within, exec_pldmFwUpdate_ownBank⟩⟩
  case tapGood =>
    intro s powered good
    have loads : ∀ ir, Host.Outcome.next (s.tapLoad ir) = (Host.Outcome.next (s.tapTo ir) : Out) :=
      fun ir => congrArg Host.Outcome.next (State.tapLoad_good powered good ir)
    exact ⟨loads 0x00, loads 0x01,
      congrArg (fun u : State => Host.Outcome.next (u.emit (.tap "IDCODE" tapIdcode))) (State.tapLoad_idcode powered),
      loads 0x03, loads 0x04, loads 0x05, loads 0x06, loads 0xFF, fun k => loads _⟩
  case tapBad =>
    intro s powered bad
    exact ⟨congrArg Host.Outcome.next (State.tapLoad_bad powered bad rfl),
      congrArg (fun u : State => Host.Outcome.next (u.emit (.tap "IDCODE" tapIdcode))) (State.tapLoad_idcode powered)⟩
  case tapUnpowered =>
    intro s unpowered
    exact ⟨congrArg Host.Outcome.next (State.tapLoad_unpowered unpowered 0x00),
      congrArg Host.Outcome.next (State.tapLoad_unpowered unpowered 0xFF)⟩
  case clocks =>
    intro s
    exact ⟨rfl, exec_ethRefclkReturn_present, exec_ethRefclkReturn_returns, rfl, rfl,
      fun clock => ⟨exec_ncsiRefclkReturn_present clock, exec_ncsiRefclkLoss_present clock⟩,
      fun lost => ⟨exec_ncsiRefclkLoss_lost lost, exec_ncsiRefclkReturn_returns lost⟩⟩
  case qp =>
    intro q a s served
    refine ⟨exec_qpModify_badMtu served, fun mtu retries rnrRetries tenant created => ⟨s.qpWith (s.qp q) a,
      exec_qpModify_sets served mtu retries rnrRetries tenant created, ?_⟩⟩
    exact ⟨rfl, rfl, rfl, rfl, mtu, rfl, rfl, rfl, rfl, rfl, rfl, rfl⟩

end Sys2Proof.Machine
end

section
/-! PROOFS. Attachments of the host: links, PERST_N, Bus Master Enable, D3hot, resets of functions and pending interrupts (R433-R438, R454-R463).
First what each event comes to in its circumstances, then the statement, which cites these. -/

namespace Sys2Proof.Machine

open Sys2Proof

/-! Links (R433-R435, R461) -/

section Link

variable {a r w : Nat} {fl rv : Bool} {s : State}

section Train

variable (may : s.mayTrain a = true)
include may

theorem exec_pcieLinkUp_trains (down : s.rdB (F.HIF_LINK_STATUS_DL_UP a) = false) :
    exec (.pcieLinkUp a r w fl rv) s = .next (s.train a r w fl rv) :=
  if_pos ⟨may, ne_true_of_eq_false down⟩

theorem exec_retrainLink_retrains (up : s.rdB (F.HIF_LINK_STATUS_DL_UP a) = true) :
    exec (.retrainLink a r w fl rv) s = .next ((s.stat (R.HIF_RECOVERY_CNT a)).train a r w fl rv) :=
  if_pos ⟨may, up⟩

end Train

theorem exec_retrainLink_down (down : s.rdB (F.HIF_LINK_STATUS_DL_UP a) = false) : exec (.retrainLink a r w fl rv) s = .next s :=
  if_neg fun retrains => ne_true_of_eq_false down retrains.2

theorem exec_pcieLinkUp_up (up : s.rdB (F.HIF_LINK_STATUS_DL_UP a) = true) : exec (.pcieLinkUp a r w fl rv) s = .next s :=
  if_neg fun trains => trains.2 up

theorem exec_pcieLinkUp_held (held : s.mayTrain a = false) : exec (.pcieLinkUp a r w fl rv) s = .next s :=
  if_neg fun trains => ne_true_of_eq_false held trains.1

theorem exec_pcieLinkDown_up (up : s.rdB (F.HIF_LINK_STATUS_DL_UP a) = true) : exec (.pcieLinkDown a) s = .next (s.attDown a) :=
  if_pos up

theorem exec_pcieLinkDown_down (down : s.rdB (F.HIF_LINK_STATUS_DL_UP a) = false) : exec (.pcieLinkDown a) s = .next s :=
  if_neg (ne_true_of_eq_false down)

theorem exec_perstAssert_ready (released : (s.link a).perstN = true) (present : s.present a = true)
    (ready : s.rdB F.GLB_BOOT_HIF_READY = true) :
    exec (.perstAssert a) s = .next ((s.updLink a (fun x => { x with perstN := false })).attDown a) :=
  if_pos ⟨released, present, ready⟩

/-- PERST_N that is asserted already resets nothing. -/
theorem exec_perstAssert_asserted (asserted : (s.link a).perstN = false) :
    exec (.perstAssert a) s = .next (s.updLink a (fun x => { x with perstN := false })) :=
  if_neg fun falls => ne_true_of_eq_false asserted falls.1

end Link

/-! Bus Master Enable and Function Level Reset (R456, R458) -/

section Function

variable {f : Nat} {s : State}

theorem exec_bmeClear_set (on : (s.func f).cfg.bme = true) :
    exec (.bmeClear f) s = .next ((s.updFunc f (fun x => { x with cfg := { x.cfg with bme := false } })).bmeOff f) :=
  if_pos on

theorem exec_bmeClear_clear (off : (s.func f).cfg.bme = false) : exec (.bmeClear f) s = .next s := if_neg (ne_true_of_eq_false off)

/-- Function f at the end of its reset: its contexts zeroed, nothing of it outstanding (R375, R426, R458). -/
def State.flrDone (s : State) (f : Nat) : State :=
  ((s.cryReset f).stoReset f).updFunc f (fun x => { x with
    resetting := false, resetCmd := none, cfg := { x.cfg with transPending := false } })

section Resetting

variable (resetting : (s.func f).resetting = true)
include resetting

theorem exec_flrComplete_counts (plain : (s.func f).resetCmd = none) :
    exec (.flrComplete f) s = .next ((s.flrDone f).stat (R.HIF_FLR_CNT ((s.flrDone f).attOf f))) := by
  rw [exec_flrComplete, execFlrComplete, plain]
  exact if_pos resetting

/-- The FUNCTION_DESTROY of function i that waited for the reset completes. -/
theorem exec_flrComplete_destroys {i : Nat} (waits : (s.func f).resetCmd = some i) :
    exec (.flrComplete f) s =
      .next ((((s.flrDone f).stat (R.HIF_FLR_CNT ((s.flrDone f).attOf f))).returnAll f).admDone i stSuccess) := by
  rw [exec_flrComplete, execFlrComplete, waits]
  exact if_pos resetting

end Resetting

theorem exec_flrComplete_idle (idle : (s.func f).resetting = false) : exec (.flrComplete f) s = .next s :=
  if_neg (ne_true_of_eq_false idle)

end Function

/-! D3hot (R438). D3HOT_ENTRY edits the configuration space first and stops the requests then. Stopping them reads and writes nothing of the
configuration space, so the two may change places. -/

/-- Attachment a's block message falls due where INT_EN[a] enables bit b of INT_STATUS (R718). -/
def State.blkDue (b : Fld) (s : State) (a : Nat) : State :=
  if bitOf (s.reg (b.off + 8 + 8 * a)).toNat b.lo then { s with blkInt := Map.set s.blkInt false a true } else s

theorem State.raise_eq (s : State) (b : Fld) :
    s.raise b = if s.rdB b then s else (s.wr b 1).each [0, 1, 2, 3] (State.blkDue b) := rfl

/-- The reads of function f when its Bus Master Enable clears: those outstanding are discarded, those that wait are dropped (R456). -/
def State.readsOff (s : State) (f : Nat) : State :=
  { s with
    reads := s.reads.map (fun (r : Read) => if r.func = f then { r with discard := true, bmeDrop := true } else r)
    readWait := s.readWait.filter (fun r => r.func != f) }

theorem State.bmeOff_eq (s : State) (f : Nat) :
    s.bmeOff f = ((s.queuesOff f (if (s.func f).tdi = .locked ∨ (s.func f).tdi = .run then .stopped else .paused)).readsOff f).tdiError f :=
  rfl

section ConfigSpace

variable (s : State) (f : Nat) (g : Cfg → Cfg)

theorem State.updFunc_updFunc (h k : Func → Func) : (s.updFunc f h).updFunc f k = s.updFunc f (fun x => k (h x)) := by
  simp only [State.updFunc, State.func_setFunc_self]
  simp only [State.setFunc, Map.set_set]

/-- A change of the function apart from the edit may change places with it. -/
theorem State.updFunc_updCfg {h : Func → Func} (apart : ∀ x, h { x with cfg := g x.cfg } = { h x with cfg := g (h x).cfg }) :
    (s.updCfg f g).updFunc f h = (s.updFunc f h).updCfg f g := by
  simp only [State.updCfg, State.updFunc_updFunc, apart]

theorem State.func_updCfg : (s.updCfg f g).func f = { s.func f with cfg := g (s.func f).cfg } := State.func_setFunc_self ..

theorem State.tdi_updCfg : ((s.updCfg f g).func f).tdi = (s.func f).tdi := by rw [State.func_updCfg]

theorem State.readsOff_updCfg : (s.updCfg f g).readsOff f = (s.readsOff f).updCfg f g := rfl

theorem State.que_updCfg (k q : Nat) : (s.updCfg f g).que f k q = s.que f k q := by
  rw [State.que, State.func_updCfg, State.que]

theorem State.updQue_updCfg (k q : Nat) (h : Queue → Queue) : (s.updCfg f g).updQue f k q h = (s.updQue f k q h).updCfg f g :=
  State.updFunc_updCfg s f g fun _ => rfl

theorem State.unreserve_updCfg (cq n : Nat) : (s.updCfg f g).unreserve f cq n = (s.unreserve f cq n).updCfg f g :=
  State.updFunc_updCfg s f g fun _ => rfl

theorem State.each_updCfg {α : Type} {k : State → α → State} (l : List α) (keeps : ∀ t a, k (t.updCfg f g) a = (k t a).updCfg f g) :
    (s.updCfg f g).each l k = (s.each l k).updCfg f g :=
  List.foldl_hom (State.updCfg · f g) keeps

theorem State.blkDue_updCfg (b : Fld) (a : Nat) : (s.updCfg f g).blkDue b a = (s.blkDue b a).updCfg f g := by
  unfold State.blkDue
  rw [apply_ite (State.updCfg · f g)]
  rfl

theorem State.raise_updCfg (b : Fld) : (s.updCfg f g).raise b = (s.raise b).updCfg f g := by
  rw [State.raise_eq, State.raise_eq, apply_ite (State.updCfg · f g)]
  exact congrArg (ite _ _) (State.each_updCfg (s.wr b 1) f g _ fun t a => State.blkDue_updCfg t f g b a)

theorem State.tdiError_updCfg : (s.updCfg f g).tdiError f = (s.tdiError f).updCfg f g := by
  unfold State.tdiError
  rw [State.tdi_updCfg, State.updFunc_updCfg s f g fun _ => rfl, apply_ite (State.updCfg · f g)]
  exact congrArg (ite _ · _) (State.raise_updCfg ..)

theorem State.queueHalt_updCfg (k q : Nat) (st : QState) : (s.updCfg f g).queueHalt f k q st = (s.queueHalt f k q st).updCfg f g := by
  unfold State.queueHalt
  simp only [State.que_updCfg, State.updQue_updCfg, State.unreserve_updCfg, ← apply_ite (State.updCfg · f g)]
  rfl

theorem State.queuesOff_updCfg (st : QState) : (s.updCfg f g).queuesOff f st = (s.queuesOff f st).updCfg f g := by
  unfold State.queuesOff
  rw [State.func_updCfg]
  exact State.each_updCfg s f g _ fun t e => State.queueHalt_updCfg t f g _ _ st

theorem State.bmeOff_updCfg : (s.updCfg f g).bmeOff f = (s.bmeOff f).updCfg f g := by
  rw [State.bmeOff_eq, State.bmeOff_eq, State.tdi_updCfg, State.queuesOff_updCfg, State.readsOff_updCfg, State.tdiError_updCfg]

end ConfigSpace

/-- While the link is down, entering D3hot only stops the requests of the function. -/
theorem exec_d3hotEntry_linkDown {f : Nat} {s : State}
    (down : ((s.bmeOff f).updCfg f (fun c => { c with d3hot := true })).rdB
      (F.HIF_LINK_STATUS_DL_UP (((s.bmeOff f).updCfg f (fun c => { c with d3hot := true })).attOf f)) = false) :
    exec (.d3hotEntry f) s = .next ((s.bmeOff f).updCfg f (fun c => { c with d3hot := true })) := by
  rw [← State.bmeOff_updCfg] at down ⊢
  exact if_neg fun sleeps => ne_true_of_eq_false down sleeps.1

/-! The statement -/

/-- Settles O48: D3HOT_ENTRY by `State.bmeOff_updCfg`, every other event by the lemma of its circumstances above or by what it writes in any. -/
theorem pcieFunctions : Obligations.PcieFunctions := by
  unfold Obligations.PcieFunctions
  exact ⟨fun a r w fl rv s may =>
      ⟨fun down => ⟨exec_pcieLinkUp_trains may down, exec_retrainLink_down down⟩,
        fun up => ⟨exec_retrainLink_retrains may up, exec_pcieLinkUp_up up⟩⟩,
    fun a r w fl rv s held => exec_pcieLinkUp_held held,
    fun a s => ⟨exec_pcieLinkDown_up, exec_pcieLinkDown_down⟩,
    fun a s => ⟨exec_perstAssert_ready, exec_perstAssert_asserted, rfl⟩,
    fun f s => ⟨exec_bmeClear_set, exec_bmeClear_clear, rfl⟩,
    fun f s => rfl,
    fun f s => ⟨exec_flrComplete_counts, fun i resetting => exec_flrComplete_destroys resetting, exec_flrComplete_idle⟩,
    fun f s => exec_d3hotEntry_linkDown,
    fun f v s => ⟨rfl, rfl⟩⟩

end Sys2Proof.Machine
end

section
/-! PROOFS. Reads of host memory, what a partner violates, peer windows, ATS and TDISP (R448-R452, R466-R475, R607). First what each command
comes to in its circumstances, then the statement, which cites these. -/

namespace Sys2Proof.Machine

open Sys2Proof

/-! Reads (R448-R452) -/

section Reads

variable {a tag st : Nat} {r : Read} {s : State}

section Waiting

variable (oldest : s.readWait.find? (fun r => r.att == a) = some r)
include oldest

theorem exec_hostReadIssue_issues (fits : s.readFits r = true) (may : s.mayRequest r.func = true) :
    exec (.hostReadIssue a) s = .next (({ s with readWait := s.readWait.erase r } : State).issue r) := by
  rw [exec_hostReadIssue, execHostReadIssue, oldest]
  exact if_pos (Bool.and_eq_true_iff.2 ⟨fits, may⟩)

theorem exec_hostReadIssue_waits (full : s.readFits r = false) : exec (.hostReadIssue a) s = .next s := by
  rw [exec_hostReadIssue, execHostReadIssue, oldest]
  exact if_neg fun issues => ne_true_of_eq_false full (Bool.and_eq_true_iff.1 issues).1

end Waiting

section Outstanding

variable (out : s.reads.find? (fun r => r.att == a && r.tag == tag) = some r)
include out

theorem exec_readCompletionRx_ends : exec (.readCompletionRx a tag st) s = .next (s.readDone r st) := by
  rw [exec_readCompletionRx, execReadCompletionRx, out]

/-- A read of an earlier generation of its function is not issued again. -/
theorem exec_completionTimeout_stale (stale : r.gen ≠ (s.func r.func).gen) :
    exec (.completionTimeout a tag) s = .next { s.dropRead r with quar := s.quar ++ [{ att := a, tag := tag }] } := by
  rw [exec_completionTimeout, execCompletionTimeout, out]
  exact if_pos (.inl stale)

theorem exec_completionTimeout_again (current : r.gen = (s.func r.func).gen) (wanted : r.discard = false) :
    exec (.completionTimeout a tag) s =
      .next (({ s.dropRead r with quar := s.quar ++ [{ att := a, tag := tag }] } : State).readAgain r 1) := by
  rw [exec_completionTimeout, execCompletionTimeout, out]
  exact if_neg fun dropped => dropped.elim (· current) (ne_true_of_eq_false wanted)

end Outstanding

section NoRead

variable (gone : s.reads.find? (fun r => r.att == a && r.tag == tag) = none)
include gone

theorem exec_completionTimeout_noRead : exec (.completionTimeout a tag) s = .next s := by
  rw [exec_completionTimeout, execCompletionTimeout, gone]

/-- A completion without a read is late where its tag is in quarantine, else unexpected. -/
theorem exec_readCompletionRx_noRead :
    exec (.readCompletionRx a tag st) s =
      .next (if s.quar.any (fun q => q.att == a && q.tag == tag) then s.stat (R.HIF_LATE_CPL_CNT a)
        else s.updFunc (2 * a) (fun x => { x with aer := { x.aer with unexpCpl := true } })) := by
  rw [exec_readCompletionRx, execReadCompletionRx, gone]
  exact (apply_ite Host.Outcome.next ..).symm

end NoRead

end Reads

/-! IDE streams (R466) -/

section Ide

variable {a k : Nat} {s : State}

/-- Stream k of attachment a after it has failed a check: Insecure, with the failure recorded, counted and raised. -/
def State.ideFailed (s : State) (a k : Nat) : State :=
  (((s.wrB (F.HIF_IDE_STATUS_SECURE a k) false).aerSet (2 * a) (fun x => { x with ideFail := true })).err (R.HIF_IDE_FAIL_CNT a)).raiseBit
    F.HIF_INT_STATUS_IDE_FAIL a

theorem exec_ideCheckFail_insecure (insecure : s.rdB (F.HIF_IDE_STATUS_SECURE a k) = false) : exec (.ideCheckFail a k) s = .next s :=
  if_neg (ne_true_of_eq_false insecure)

/-- The locked and running interfaces bound to the stream are stopped and their reads discarded. -/
theorem exec_ideCheckFail_secure (secure : s.rdB (F.HIF_IDE_STATUS_SECURE a k) = true) :
    exec (.ideCheckFail a k) s =
      let u := s.ideFailed a k
      .next (u.each ((u.funcsOf a).filter (fun f => isVf f && (u.func f).tdiStream == k &&
        ((u.func f).tdi == .locked || (u.func f).tdi == .run))) (fun t f =>
          let t := (t.queuesOff f .stopped).tdiError f
          { t with reads := t.reads.map (fun (r : Read) => if r.func = f then { r with discard := true } else r) })) :=
  if_pos secure

end Ide

/-! Peer windows (R469-R473) -/

section Windows

variable {a x len rid m : Nat} {d : List Byte} {s : State}

section Request

variable (reached : s.barOpen (2 * a) = true)
include reached

theorem exec_peerWindowRequest_writes (live : s.winReason a (x / 2 ^ 30 % 16) (x % 2 ^ 30) d.length rid true = 0) :
    exec (.peerWindowRequest a x len rid (some d)) s =
      .next { s with hbm := Mem.putBytes s.hbm (s.rd (F.HIF_WIN_LIVE_TARGET_BASE a (x / 2 ^ 30 % 16)) * 2 ^ 21 + x % 2 ^ 30) d } :=
  (if_neg (not_not_intro reached)).trans (if_pos live)

theorem exec_peerWindowRequest_reads (live : s.winReason a (x / 2 ^ 30 % 16) (x % 2 ^ 30) len rid false = 0) :
    exec (.peerWindowRequest a x len rid none) s =
      .next (s.emit (.peerData a
        (Mem.bytes s.hbm (s.rd (F.HIF_WIN_LIVE_TARGET_BASE a (x / 2 ^ 30 % 16)) * 2 ^ 21 + x % 2 ^ 30) len))) :=
  (if_neg (not_not_intro reached)).trans (if_pos live)

theorem exec_peerWindowRequest_refusesWrite (refused : s.winReason a (x / 2 ^ 30 % 16) (x % 2 ^ 30) d.length rid true ≠ 0) :
    exec (.peerWindowRequest a x len rid (some d)) s =
      .next (((s.setReg (R.HIF_WIN_LOG a) (BitVec.ofNat 64 (rid % 2 ^ 16 + x / 2 ^ 30 % 16 * 2 ^ 16 + b2n true * 2 ^ 20 +
        s.winReason a (x / 2 ^ 30 % 16) (x % 2 ^ 30) d.length rid true * 2 ^ 21))).err (R.HIF_WIN_MISS_CNT a)).raiseBit
          F.HIF_INT_STATUS_WIN_MISS a) := by
  simp only [exec_peerWindowRequest, execPeerWindowRequest, if_neg (not_not_intro reached), Option.isSome_some, if_neg refused, if_true]

end Request

section Commit

variable (idle : s.rdB (F.HIF_WIN_COMMIT_BUSY a) = false)
include idle

theorem State.winCommit_checked
    (inside : ((List.range 16).filter (fun n => bitOf m n)).find? (fun n => !s.winInside a n) = none) :
    s.winCommit a m = ((s.wrB (F.HIF_WIN_COMMIT_ERR a) false).wrB (F.HIF_WIN_COMMIT_BUSY a) true).updLink a
      (fun x => { x with winBusy := true, winMask := m % 2 ^ 16 }) := by
  rw [State.winCommit, inside]
  exact if_neg (ne_true_of_eq_false idle)

theorem State.winCommit_outside {n : Nat}
    (outside : ((List.range 16).filter (fun n => bitOf m n)).find? (fun n => !s.winInside a n) = some n) :
    s.winCommit a m = (s.wrB (F.HIF_WIN_COMMIT_ERR a) true).wr (F.HIF_WIN_COMMIT_ERR_WIN a) n := by
  rw [State.winCommit, outside]
  exact if_neg (ne_true_of_eq_false idle)

end Commit

/-- The shadows that the commit named become live together. -/
theorem exec_winSwap_swaps (waits : (s.link a).winBusy = true) :
    exec (.winSwap a) s =
      .next (((s.each ((List.range 16).filter (fun n => bitOf (s.link a).winMask n)) (fun t n =>
        ((t.setReg (R.HIF_WIN_LIVE_CFG a n) (t.reg (R.HIF_WIN_CFG a n))).setReg (R.HIF_WIN_LIVE_TARGET a n)
          (t.reg (R.HIF_WIN_TARGET a n))).setReg (R.HIF_WIN_LIVE_SRC a n) (t.reg (R.HIF_WIN_SRC a n)))).wrB
            (F.HIF_WIN_COMMIT_BUSY a) false).updLink a (fun y => { y with winBusy := false, winMask := 0 })) :=
  if_pos waits

theorem exec_atsInvalidateRequest_completes (idle : s.peerBusy a = false) :
    exec (.atsInvalidateRequest a) s = .next (s.emit (.atsDone a)) :=
  if_neg (ne_true_of_eq_false idle)

end Windows

/-! TDISP inside a session (R467, R607) -/

namespace State.InSess

variable {c n f k nonce : Nat} {x : SpdmSess} {s : State} (session : s.InSess c n x)
include session

/-- A good message of an established session is handled. -/
theorem inSession (h : State → SpdmSess → State) : s.inSession c n true h = h s x := by
  obtain ⟨answers, found, carrier, made⟩ := session
  simp [State.inSession, State.secured, answers, found, carrier, made]

theorem lockInterface (vf : isVf f = true) (created : (s.func f).created = true) (unlocked : (s.func f).tdi = .unlocked) (low : 1 ≤ k)
    (high : k ≤ 8) (secure : s.rdB (F.HIF_IDE_STATUS_SECURE (s.attOf f) k) = true) :
    exec (.lockInterfaceRequest c n f k true) s =
      .next ((s.fresh.2.updFunc f (fun x => { x with tdi := .locked, tdiNonce := s.fresh.1, tdiStream := k })).vendor c
        [0x03, f, s.fresh.1]) :=
  congrArg Host.Outcome.next ((session.inSession _).trans (if_pos ⟨vf, created, unlocked, low, high, secure⟩))

theorem startInterface (locked : (s.func f).tdi = .locked) (given : nonce = (s.func f).tdiNonce) :
    exec (.startInterfaceRequest c n f nonce true) s = .next ((s.updFunc f (fun x => { x with tdi := .run })).vendor c [0x06, f]) :=
  congrArg Host.Outcome.next
    ((session.inSession _).trans ((if_neg (not_not_intro locked)).trans (if_neg (not_not_intro given))))

theorem startInterface_unlocked (unlocked : (s.func f).tdi = .unlocked) :
    exec (.startInterfaceRequest c n f nonce true) s = .next (s.tdiRefuse c) := by
  have notLocked : (s.func f).tdi ≠ .locked := ne_of_eq_of_ne unlocked (by decide)
  exact congrArg Host.Outcome.next ((session.inSession _).trans (if_pos notLocked))

theorem stopInterface_unlocked (unlocked : (s.func f).tdi = .unlocked) :
    exec (.stopInterfaceRequest c n f true) s = .next (s.tdiRefuse c) := by
  have stays : ¬ ((s.func f).tdi = .run ∨ (s.func f).tdi = .error) := by simp [unlocked]
  exact congrArg Host.Outcome.next ((session.inSession _).trans (if_neg stays))

theorem stopInterface_run (run : (s.func f).tdi = .run) :
    exec (.stopInterfaceRequest c n f true) s =
      .next (((s.updFunc f (fun x => { x with tdi := .unlocked, tdiNonce := 0, tdiStream := 0 })).resetFunc f).vendor c [0x07, f]) :=
  congrArg Host.Outcome.next ((session.inSession _).trans (if_pos (.inl run)))

theorem interfaceReport_run (run : (s.func f).tdi = .run) :
    exec (.getDeviceInterfaceReport c n f true) s = .next (s.vendor c [0x04, f, 1, s.vfBar f, 65536, 1]) :=
  congrArg Host.Outcome.next ((session.inSession _).trans (if_pos (.inr run)))

end State.InSess

/-! The statement -/

/-- Settles O49: reads, streams and windows by the lemmas of their circumstances above, a TDISP request by those of `State.InSess`. -/
theorem readsWindowsAndTdisp : Obligations.ReadsWindowsAndTdisp := by
  unfold Obligations.ReadsWindowsAndTdisp
  exact ⟨fun a r s oldest =>
      ⟨fun fits may => ⟨_, rfl, exec_hostReadIssue_issues oldest fits may⟩, exec_hostReadIssue_waits oldest⟩,
    fun a tag st r s out => ⟨exec_readCompletionRx_ends out, exec_completionTimeout_stale out, exec_completionTimeout_again out⟩,
    fun a tag st s gone => ⟨exec_completionTimeout_noRead gone, exec_readCompletionRx_noRead gone⟩,
    fun a tag s => rfl,
    fun f rd s => ⟨rfl, rfl, rfl⟩,
    fun a k s => exec_ideCheckFail_insecure,
    fun a k s => exec_ideCheckFail_secure,
    fun a x len rid d s reached =>
      ⟨exec_peerWindowRequest_writes reached, exec_peerWindowRequest_reads reached, exec_peerWindowRequest_refusesWrite reached⟩,
    fun a m s idle => ⟨fun inside => congrArg Host.Outcome.next (State.winCommit_checked idle inside),
      fun n outside => congrArg Host.Outcome.next (State.winCommit_outside idle outside)⟩,
    fun a s => exec_winSwap_swaps,
    fun a s => exec_atsInvalidateRequest_completes,
    fun c n f k x s session => ⟨session.lockInterface, fun nonce => session.startInterface,
      fun nonce unlocked => ⟨session.startInterface_unlocked unlocked, session.stopInterface_unlocked unlocked⟩,
      fun run => ⟨session.stopInterface_run run, session.interfaceReport_run run⟩⟩⟩

end Sys2Proof.Machine
end

section
/-! PROOFS. What every step and every command keeps (R608, R615, R627, R657, R658, R664, R667, R671, R672, R685, R697). `exec_sound` and `exec_kept`
say what a command keeps; first the step, then the commands that `exec_kept` leaves out, by the part of the state that each of them keeps. -/

namespace Sys2Proof.Machine

open Sys2Proof

/-! The step -/

theorem step_idle {s : State} (empty : s.pending = []) : step s = .next s.tick := by simp only [step, empty]

theorem step_front {s : State} {c : Instr} {l : List Instr} (queue : s.pending = c :: l) : step s = exec c { s with pending := l } := by
  simp only [step, queue]

/-- What every command keeps is enough for the invariant. -/
theorem Sound.inv {s t : State} (h : Sound s t) (inv : s.Inv) : t.Inv := by
  obtain ⟨⟨mem, hbm, flash⟩, queue, lines⟩ := inv
  refine ⟨⟨h.mem mem, h.hbm hbm, h.flash flash⟩, ?_, h.lines lines⟩
  rw [State.queueOk, h.pending]
  exact queue

/-- The invariant does not need the command at the front. -/
theorem State.Inv.tail {s : State} {c : Instr} {l : List Instr} (inv : s.Inv) (queue : s.pending = c :: l) :
    ({ s with pending := l } : State).Inv := by
  obtain ⟨memories, wellFormed, lines⟩ := inv
  exact ⟨memories, fun d waits => wellFormed d (queue ▸ List.mem_cons_of_mem c waits), lines⟩

/-! The commands that `exec_kept` leaves out. What such a command keeps is a part g of the state that every operation of `Kept` keeps. -/

/-- Part g of the state is the same in s and t. -/
def Same {α : Type} (g : State → α) (s t : State) : Prop := g t = g s

section Same

variable {α : Type} {g : State → α} {s t u : State}

theorem Same.refl : Same g s s := rfl

theorem Same.trans (h : Same g s t) (k : Same g t u) : Same g s u := Eq.trans k h

theorem same_ite {c : Prop} [Decidable c] (ht : Same g s t) (hu : Same g s u) : Same g s (if c then t else u) := by
  split
  · exact ht
  · exact hu

theorem each_same {β : Type} (l : List β) {k : State → β → State} (h : ∀ t x, Same g t (k t x)) : Same g s (s.each l k) := by
  unfold State.each
  induction l generalizing s with
  | nil => exact Same.refl
  | cons x l ih => exact (h s x).trans ih

variable (kept : ∀ {t u : State}, Kept t u → Same g t u)
include kept

theorem lnt_same {level : Nat} {rec? args : Bool} {k : State → State} (h : ∀ t, Same g t (k t)) : Same g s (s.lnt level rec? args k) := by
  have err : ∀ code, Same g s (s.lntErr code) := fun code => kept (State.lntErr_kept s code)
  unfold State.lnt
  exact same_ite Same.refl (same_ite (err 1) (same_ite (err 3) (same_ite (err 2) (h s))))

theorem lntFlash_same {args : Bool} {k : State → State} (h : ∀ t, Same g t (k t)) : Same g s (s.lntFlash args k) := by
  unfold State.lntFlash
  exact lnt_same kept fun t => same_ite (h t) (kept (State.lntErr_kept ..))

theorem envelope_same {f addr : Nat} {kinds : List Nat} {own : Nat → Bool} {done : State → List Byte → Nat → State}
    (h : ∀ t e k, Same g t (done t e k)) : Same g s (s.envelope f addr kinds own done) := by
  have refused : ∀ st, Same g s (s.admDone f st) := fun st => kept (State.admDone_kept ..)
  unfold State.envelope
  refine same_ite (refused _) (same_ite (refused _) ?_)
  split
  · exact kept ((State.err_kept ..).trans (State.admDone_kept ..))
  · exact h ..

theorem admCrit_same {f op : Nat} {masks : List Nat} {good : AdmCmd → Bool} {k : State → AdmCmd → State}
    (h : ∀ t c, Same g t (k t c)) : Same g s (s.admCrit f op masks good k) := by
  unfold State.admCrit
  split
  · exact Same.refl
  next c _ =>
    have refused : ∀ (t : State) st, Same g t (t.admDone f st) := fun t st => kept (State.admDone_kept ..)
    refine (kept (State.trailer_kept s c)).trans ?_
    exact same_ite (refused ..) (same_ite (kept (State.admReadFail_kept ..)) (same_ite (refused ..) (same_ite (refused ..) (h ..))))

end Same

/-- A next state in which part g is the same. -/
def OutSame {α : Type} (g : State → α) (s : State) (o : Out) : Prop := ∀ t, o = .next t → Same g s t

section OutSame

variable {α : Type} {g : State → α} {s t : State}

theorem outSame_next (h : Same g s t) : OutSame g s (.next t) := by
  rintro _ ⟨⟩
  exact h

theorem outSame_ite {c : Prop} [Decidable c] {a b : Out} (ha : OutSame g s a) (hb : OutSame g s b) : OutSame g s (if c then a else b) := by
  split
  · exact ha
  · exact hb

theorem OutKept.same (kept : ∀ {t u : State}, Kept t u → Same g t u) {o : Out} (h : OutKept s o) : OutSame g s o :=
  fun _ next => kept (out_get h next)

end OutSame

/-! The commands of the lines keep the flash and the principals' keys. -/

/-- The flash and the principals' keys. -/
def State.stored (s : State) : Mem × Map Nat := (s.board.flash, s.grt.prinKey)

theorem Kept.stored {s t : State} (h : Kept s t) : Same State.stored s t := by
  obtain ⟨-, -, -, -, -, -, flash, keys⟩ := h.parts
  rw [Same, State.stored, flash, keys, State.stored]

section Lines

variable (s : State)

/-- A change of the board that leaves the flash. -/
theorem board_stored {b : Board} (flash : b.flash = s.board.flash) : Same State.stored s { s with board := b } := by
  rw [Same, State.stored, State.stored, flash]

theorem settle_stored {s t : State} (h : Same State.stored s t) : Same State.stored s t.settle := by
  unfold State.settle
  exact h.trans (board_stored t rfl)

theorem deviceReset_stored {s t : State} (h : Same State.stored s t) (cause : Nat) : Same State.stored s (t.deviceReset cause) :=
  h.trans (State.deviceReset_kept ..).stored

theorem State.powerOff_stored : Same State.stored s s.powerOff := by
  unfold State.powerOff
  refine settle_stored (deviceReset_stored ?_ 0)
  exact board_stored s rfl

theorem State.tapTo_stored (ir : Nat) : Same State.stored s (s.tapTo ir) := by
  have loaded : Same State.stored s { s with board := { s.board with tapIr := ir } } := board_stored s rfl
  unfold State.tapTo
  exact settle_stored (same_ite (deviceReset_stored loaded _) (same_ite (deviceReset_stored loaded _) loaded))

theorem State.tapLoad_stored (ir : Nat) : Same State.stored s (s.tapLoad ir) := by
  unfold State.tapLoad
  exact same_ite Same.refl (State.tapTo_stored ..)

end Lines

theorem exec_lines_stored (c : Instr) (s : State) (lines : c.lines = true) : OutSame State.stored s (exec c s) := by
  have unchanged : OutSame State.stored s (.next s) := outSame_next Same.refl
  have falls : OutSame State.stored s (if s.board.powered then .next s.powerOff else .next s) :=
    outSame_ite (outSame_next s.powerOff_stored) unchanged
  have loads : ∀ ir, OutSame State.stored s (.next (s.tapLoad ir)) := fun ir => outSame_next (s.tapLoad_stored ir)
  have resets : OutSame State.stored s (.next (if s.board.powered then s.tapTo 2 else s)) :=
    outSame_next (same_ite (s.tapTo_stored 2) Same.refl)
  cases c
  case pwrGoodRise =>
    rw [exec_pwrGoodRise, execPwrGoodRise]
    refine outSame_ite unchanged (outSame_next (settle_stored (Same.trans ?_ (State.resetTo_kept ..).stored)))
    exact board_stored s rfl
  case pwrGoodFall | railUndervoltage => exact falls
  case vddio18Fall =>
    rw [exec_vddio18Fall, execVddio18Fall]
    refine outSame_next (Same.trans (same_ite (Same.trans ?_ (State.emit_kept ..).stored) ?_) (State.powerOff_stored _))
    · exact board_stored s rfl
    · exact board_stored s rfl
  case synthLock =>
    rw [exec_synthLock, execSynthLock]
    refine outSame_ite (outSame_next (settle_stored ?_)) unchanged
    exact board_stored s rfl
  case sysResetAssert =>
    rw [exec_sysResetAssert, execSysResetAssert]
    refine outSame_ite (outSame_next (settle_stored (deviceReset_stored ?_ 1))) (outSame_next ?_)
    · exact board_stored s rfl
    · exact board_stored s rfl
  case sysResetRelease =>
    refine outSame_next (settle_stored ?_)
    exact board_stored s rfl
  case lntReset =>
    exact outSame_next (lnt_same Kept.stored fun t => settle_stored (deviceReset_stored (State.lntOk_kept ..).stored 3))
  case tapIdcode => exact outSame_next ((s.tapLoad_stored 2).trans (State.emit_kept ..).stored)
  case tapExtest | tapSamplePreload | tapHighz | tapClamp | tapExtestPulse | tapExtestTrain | tapPrivate | tapBypass => exact loads _
  case trstAssert | testLogicReset => exact resets
  all_goals cases lines

/-! The commands that rekey a principal keep the lines of the core reset and the flash, `Board.fix`. -/

/-- The lines of the core reset and the flash. -/
def State.boardFix (s : State) : Bool × Bool × Bool × Bool × Nat × Mem := s.board.fix

theorem Kept.boardFix {s t : State} (h : Kept s t) : Same State.boardFix s t := by
  obtain ⟨-, powered, synth, sysResetN, held, tapIr, flash, -⟩ := h.parts
  simp only [Same, State.boardFix, Board.fix, powered, synth, sysResetN, held, tapIr, flash]

section Rekeys

variable (s : State)

/-- A change of Grotto alone. -/
theorem grt_boardFix (g : Grotto) : Same State.boardFix s { s with grt := g } := rfl

theorem State.setPrincipal_boardFix (k key rights : Nat) : Same State.boardFix s (s.setPrincipal k key rights) := by
  unfold State.setPrincipal
  exact (grt_boardFix s _).trans ((State.setReg_kept ..).trans (State.setReg_kept ..)).boardFix

theorem State.clearPrincipal_boardFix (k : Nat) : Same State.boardFix s (s.clearPrincipal k) := by
  unfold State.clearPrincipal
  exact (grt_boardFix s _).trans ((State.setReg_kept ..).trans (State.setReg_kept ..)).boardFix

theorem State.rekey_boardFix (f : Nat) (c : AdmCmd) : Same State.boardFix s (s.rekey f c) := by
  have done : ∀ (t : State) st, Same State.boardFix t (t.admDone f st) := fun t st => (State.admDone_kept ..).boardFix
  unfold State.rekey
  refine same_ite (same_ite (done ..) ((State.clearPrincipal_boardFix ..).trans (done ..))) (same_ite (done ..) (same_ite (done ..) ?_))
  refine envelope_same Kept.boardFix fun t _ key => Same.trans ?_ (done ..)
  have set := State.setPrincipal_boardFix t
  exact same_ite ((set ..).trans ((State.wr_kept ..).trans (State.meas5_kept ..)).boardFix) (set ..)

theorem execPrincipalRekey_boardFix (f : Nat) : OutSame State.boardFix s (execPrincipalRekey f s) := by
  have done : ∀ st, Same State.boardFix s (s.admDone f st) := fun st => (State.admDone_kept ..).boardFix
  unfold execPrincipalRekey
  split
  · exact outSame_next Same.refl
  · refine outSame_ite (outSame_next ?_) (outSame_next (admCrit_same Kept.boardFix fun t c => State.rekey_boardFix ..))
    exact same_ite (State.admReadFail_kept ..).boardFix (same_ite (done _) (same_ite (done _) (State.rekey_boardFix ..)))

theorem execSecureErase_boardFix (f : Nat) : OutSame State.boardFix s (execSecureErase f s) := by
  unfold execSecureErase
  refine outSame_next (admCrit_same Kept.boardFix fun t _ => ?_)
  dsimp only
  refine Same.trans ?_ ((State.meas5_kept ..).trans (State.admDone_kept ..)).boardFix
  refine Same.trans ?_ ((State.setReg_kept ..).trans (State.setReg_kept ..)).boardFix
  refine Same.trans ?_ ((State.wr_kept ..).trans (State.setLevel_kept ..)).boardFix
  refine Same.trans ?_ (each_same _ fun u k => State.clearPrincipal_boardFix u k)
  refine Same.trans ?_ (grt_boardFix _ _)
  refine Same.trans ?_ (State.fresh_kept _).boardFix
  refine Same.trans ?_ (each_same _ fun u k => (State.retireNs_kept ..).boardFix)
  refine Same.trans ?_ (each_same _ fun u k => (State.retireSession_kept ..).boardFix)
  exact each_same _ fun u k => ((State.resetOne_kept ..).trans (State.returnAll_kept ..)).boardFix

theorem exec_rekeys_boardFix (c : Instr) (rekeys : c.rekeys = true) : OutSame State.boardFix s (exec c s) := by
  cases c
  case principalRekey f => exact execPrincipalRekey_boardFix s f
  case secureErase f => exact execSecureErase_boardFix s f
  all_goals cases rekeys

end Rekeys

/-! The commands that write the flash keep the lines of the core reset and the principals' keys. -/

/-- The lines of the core reset. -/
def State.lines (s : State) : Bool × Bool × Bool × Nat × Bool :=
  (s.board.powered, s.board.synth, s.board.sysResetN, s.board.tapIr, s.board.held)

/-- The lines of the core reset and the principals' keys. -/
def State.linesAndKeys (s : State) : (Bool × Bool × Bool × Nat × Bool) × Map Nat := (s.lines, s.grt.prinKey)

theorem Kept.linesAndKeys {s t : State} (h : Kept s t) : Same State.linesAndKeys s t := by
  obtain ⟨-, powered, synth, sysResetN, held, tapIr, -, keys⟩ := h.parts
  simp only [Same, State.linesAndKeys, State.lines, powered, synth, sysResetN, held, tapIr, keys]

theorem exec_flashes_linesAndKeys (c : Instr) (s : State) (flashes : c.flashes = true) : OutSame State.linesAndKeys s (exec c s) := by
  have written : ∀ (t : State) a d, Same State.linesAndKeys t (t.flashWrite a d) := fun t a d => rfl
  cases c
  case lntFlashErase b =>
    refine outSame_next (lntFlash_same Kept.linesAndKeys fun t => Same.trans ?_ (State.lntOk_kept ..).linesAndKeys)
    rfl
  case lntFlashWrite b d =>
    exact outSame_next (lntFlash_same Kept.linesAndKeys fun t => (written ..).trans (State.lntOk_kept ..).linesAndKeys)
  case pldmFwUpdate b off d => exact outSame_next (same_ite (written ..) Same.refl)
  all_goals cases flashes

/-- The lines and the flash are the lines, and the flash. -/
theorem State.boardFix_iff {s t : State} : Same State.boardFix s t ↔ Same State.lines s t ∧ t.board.flash = s.board.flash := by
  simp only [Same, State.boardFix, Board.fix, State.lines, Prod.mk.injEq]
  tauto

/-! The statements -/

/-- Settles O3: an idle step keeps the invariant because a cycle keeps all (`State.tick_kept`), a command by `exec_sound`. -/
theorem stepKeepsInvariant : Obligations.StepKeepsInvariant := by
  unfold Obligations.StepKeepsInvariant
  intro s t inv next
  cases queue : s.pending with
  | nil =>
    rw [step_idle queue] at next
    cases next
    exact (State.tick_kept s).sound.inv inv
  | cons c l =>
    rw [step_front queue] at next
    exact (exec_sound c _ t next).inv (inv.tail queue)

/-- Settles O4: the memories and the queue are empty, and no line asks for the core reset. -/
theorem resetMeetsInvariant : Obligations.ResetMeetsInvariant := by
  unfold Obligations.ResetMeetsInvariant
  exact ⟨⟨rfl, rfl, rfl⟩, fun c waits => absurd waits List.not_mem_nil, fun _ => ⟨rfl, rfl, rfl, rfl⟩⟩

/-- Settles O6, by `exec_sound`. -/
theorem queueOutputsAndFreeValues : Obligations.QueueOutputsAndFreeValues := by
  unfold Obligations.QueueOutputsAndFreeValues
  intro c s t next
  have sound := exec_sound c s t next
  exact ⟨sound.pending, sound.out, sound.free⟩

/-- Settles O7: a command that writes the flash or rekeys a principal by the frame of its kind, any other by `exec_kept`. -/
theorem coreResetLinesFrame : Obligations.CoreResetLinesFrame := by
  unfold Obligations.CoreResetLinesFrame
  intro c s t lines next
  have same : Same State.lines s t := by
    cases flashes : c.flashes with
    | true => exact congrArg Prod.fst (exec_flashes_linesAndKeys c s flashes t next)
    | false =>
      cases rekeys : c.rekeys with
      | true => exact (State.boardFix_iff.1 (exec_rekeys_boardFix s c rekeys t next)).1
      | false => exact congrArg Prod.fst ((exec_kept c s lines flashes rekeys).same Kept.linesAndKeys t next)
  simpa only [Same, State.lines, Prod.mk.injEq] using same

/-- Settles O8: a command of the lines or one that rekeys a principal by the frame of its kind, any other by `exec_kept`. -/
theorem flashFrame : Obligations.FlashFrame := by
  unfold Obligations.FlashFrame
  intro c s t flashes next
  cases lines : c.lines with
  | true => exact congrArg Prod.fst (exec_lines_stored c s lines t next)
  | false =>
    cases rekeys : c.rekeys with
    | true => exact (State.boardFix_iff.1 (exec_rekeys_boardFix s c rekeys t next)).2
    | false => exact congrArg Prod.fst ((exec_kept c s lines flashes rekeys).same Kept.stored t next)

/-- Settles O9: a command of the lines or one that writes the flash by the frame of its kind, any other by `exec_kept`. -/
theorem principalKeysFrame : Obligations.PrincipalKeysFrame := by
  unfold Obligations.PrincipalKeysFrame
  intro c s t rekeys next
  cases lines : c.lines with
  | true => exact congrArg Prod.snd (exec_lines_stored c s lines t next)
  | false =>
    cases flashes : c.flashes with
    | true => exact congrArg Prod.snd (exec_flashes_linesAndKeys c s flashes t next)
    | false => exact congrArg Prod.snd ((exec_kept c s lines flashes rekeys).same Kept.stored t next)

/-- Settles O2, by the two cases of a cycle. -/
theorem emptyQueueIsOneCycle : Obligations.EmptyQueueIsOneCycle := by
  unfold Obligations.EmptyQueueIsOneCycle
  intro s empty
  rw [step_idle empty, State.tick]
  exact ⟨fun held => by rw [if_pos held], fun released => by rw [if_neg (ne_true_of_eq_false released)]⟩

end Sys2Proof.Machine
end

section
/-! PROOFS. The statements of 16_faults_and_counters.md on error counters (R645, R646) and on the fault ring (R630, R631). -/

namespace Sys2Proof.Machine

open Sys2Proof

/-! Error counters -/

section Counter

variable {s : State} {off : Nat}

theorem State.err_below (below : s.cnt off < 0xFFFFFFFF) : s.err off = s.wr (fld off 0 32) (s.cnt off + 1) := by
  simp only [State.cnt] at below ⊢
  simp only [State.err, State.errAt, State.cntStep, if_pos below]

theorem State.cnt_err_below (below : s.cnt off < 0xFFFFFFFF) : (s.err off).cnt off = s.cnt off + 1 := by
  have fits : s.cnt off + 1 < 2 ^ 32 := Nat.succ_le_succ below
  rw [State.err_below below, State.cnt, s.rd_wr_self (fld off 0 32) _ (by simp)]
  exact Nat.mod_eq_of_lt fits

section Full

variable (full : s.cnt off = 0xFFFFFFFF)
include full

theorem State.err_saturated (saturated : s.rd (fld off 32 1) = 1) : s.err off = s := by
  rw [State.cnt] at full
  simp [State.err, State.errAt, State.cntStep, State.rdB, full, saturated]

theorem State.err_saturates (clear : s.rd (fld off 32 1) = 0) :
    s.err off =
      (match satField off with
      | some f => (s.wr (fld off 32 1) 1).raise f
      | none => s.wr (fld off 32 1) 1).fault (satRec off) := by
  rw [State.cnt] at full
  simp [State.err, State.errAt, State.cntStep, State.rdB, full, clear] <;> rfl

end Full

theorem exec_errorCounterWrite_counter {lo : Nat} {v : Word} {row : RegRow} (at_off : findRow (regRowsAt off) off = some row)
    (kind : row.kind = .errCnt lo) : exec (.errorCounterWrite off v) s = .next (s.errWrite off lo v) := by
  simp only [exec_errorCounterWrite, execErrorCounterWrite, at_off, kind]

end Counter

/-! The fault ring -/

theorem State.reg_wr_ne (s : State) {f : Fld} {off : Nat} (v : Nat) (h : off ≠ f.off) : (s.wr f v).reg off = s.reg off :=
  State.reg_setReg_ne s _ h

/-- The four words of entry i of the ring written (R630). -/
def State.ringPut (s : State) (i : Nat) (w : List Nat) : State :=
  (((s.setReg (R.FLT_RING i 0) (BitVec.ofNat 64 (w.getD 0 0))).setReg (R.FLT_RING i 1) (BitVec.ofNat 64 (w.getD 1 0))).setReg
    (R.FLT_RING i 2) (BitVec.ofNat 64 (w.getD 2 0))).setReg (R.FLT_RING i 3) (BitVec.ofNat 64 (w.getD 3 0))

theorem State.ringPut_reg (s : State) {i off : Nat} (w : List Nat) (h : ∀ k < 4, off ≠ R.FLT_RING i k) : (s.ringPut i w).reg off = s.reg off := by
  unfold State.ringPut
  rw [State.reg_setReg_ne _ _ (h 3 (by decide)), State.reg_setReg_ne _ _ (h 2 (by decide)), State.reg_setReg_ne _ _ (h 1 (by decide)),
    State.reg_setReg_ne _ _ (h 0 (by decide))]

/-- The words of an entry stand at four different offsets. -/
theorem ringOffset_ne (i : Nat) {j k : Nat} (h : j ≠ k) : R.FLT_RING i j ≠ R.FLT_RING i k := by
  simp only [R.FLT_RING]
  omega

/-- Two entries have no offset in common. -/
theorem ringOffset_ne_entry {i j k l : Nat} (h : j ≠ i) (hk : k < 4) (hl : l < 4) : R.FLT_RING j k ≠ R.FLT_RING i l := by
  simp only [R.FLT_RING]
  omega

theorem State.ringPut_word (s : State) (i : Nat) (w : List Nat) {k : Nat} (hk : k < 4) :
    (s.ringPut i w).reg (R.FLT_RING i k) = BitVec.ofNat 64 (w.getD k 0) := by
  unfold State.ringPut
  have off : ∀ {t : State} {j l : Nat} {v : Word}, l ≠ j → (t.setReg (R.FLT_RING i j) v).reg (R.FLT_RING i l) = t.reg (R.FLT_RING i l) :=
    fun h => State.reg_setReg_ne _ _ (ringOffset_ne i h)
  match k, hk with
  | 0, _ => rw [off (by decide), off (by decide), off (by decide), State.reg_setReg_self]
  | 1, _ => rw [off (by decide), off (by decide), State.reg_setReg_self]
  | 2, _ => rw [off (by decide), State.reg_setReg_self]
  | 3, _ => rw [State.reg_setReg_self]

/-- The words that an entry placed now has (R631). -/
def State.placedWords (s : State) (r : FaultRec) : List Nat :=
  ({ r with drip := some (r.drip.getD s.fst.drip), aligned := some (r.aligned.getD (s.rdB F.FST_STATUS_ALIGNED)) } : FaultRec).words
    (s.rd F.FLT_RING_PI_PI)

theorem State.faultPlace_eq (s : State) (r : FaultRec) :
    s.faultPlace r =
      let u := (s.ringPut (s.rd F.FLT_RING_PI_PI % 4096) (s.placedWords r)).wr F.FLT_RING_PI_PI (s.rd F.FLT_RING_PI_PI + 1)
      u.wr F.FLT_STATUS_ENTRIES (min 4096 (u.rd F.FLT_STATUS_ENTRIES + 1)) := rfl

/-- The registers of the ring begin beyond those that count its entries. -/
theorem State.faultPlace_ring (s : State) (r : FaultRec) (j k : Nat) :
    (s.faultPlace r).reg (R.FLT_RING j k) = (s.ringPut (s.rd F.FLT_RING_PI_PI % 4096) (s.placedWords r)).reg (R.FLT_RING j k) := by
  have beyond : ∀ o < 0x2410000, R.FLT_RING j k ≠ o := fun o ho => by
    simp only [R.FLT_RING]
    omega
  rw [State.faultPlace_eq]
  dsimp only
  rw [State.reg_wr_ne _ _ (beyond _ (by decide)), State.reg_wr_ne _ _ (beyond _ (by decide))]

theorem State.faultPlace_pi (s : State) (r : FaultRec) :
    (s.faultPlace r).rd F.FLT_RING_PI_PI = (s.rd F.FLT_RING_PI_PI + 1) % 2 ^ 32 := by
  rw [State.faultPlace_eq]
  dsimp only
  rw [State.rd_wr_ne _ _ _ (by decide), State.rd_wr_self _ _ _ (by decide)]

/-! The statements -/

/-- Settles O11: below the maximum by `State.err_below`, at the maximum by SAT, a write by the kind of its register. -/
theorem errorCounter : Obligations.ErrorCounter := by
  unfold Obligations.ErrorCounter
  exact ⟨fun s off below => ⟨State.err_below below, State.cnt_err_below below⟩, fun s off => State.err_saturated,
    fun s off => State.err_saturates, fun s off lo v row at_off kind _ => exec_errorCounterWrite_counter at_off kind⟩

/-- Settles O12: beside the entry's four words (`State.ringPut`) only the counts of entries are written. -/
theorem faultEntryPlaced : Obligations.FaultEntryPlaced := by
  unfold Obligations.FaultEntryPlaced
  intro s r k hk
  refine ⟨?_, s.faultPlace_pi r, fun j _ other => ?_⟩
  · exact (s.faultPlace_ring ..).trans (s.ringPut_word _ _ hk)
  · exact (s.faultPlace_ring ..).trans (s.ringPut_reg _ fun l hl => ringOffset_ne_entry other hk hl)

end Sys2Proof.Machine
end

section
/-! PROOFS. Every command answers a next state (00_scope.md). A command's meaning is made of guards, of matches on what it looks up, and of next states. -/

namespace Sys2Proof.Machine

open Sys2Proof

theorem safe_next (t : State) : Safe (.next t) := ⟨t, rfl⟩

theorem safe_ite {c : Prop} [Decidable c] {a b : Out} (ha : Safe a) (hb : Safe b) : Safe (if c then a else b) := by
  split
  · exact ha
  · exact hb

theorem execPortFrameTxEnd_safe (p : Nat) (s : State) : Safe (execPortFrameTxEnd p s) := by
  unfold execPortFrameTxEnd
  split
  · exact safe_next _
  · refine safe_ite (safe_next _) ?_
    dsimp only
    split <;> exact safe_next _

/-- Settles O5, by the shape of each command's meaning. -/
theorem everyCommandCompletes : Obligations.EveryCommandCompletes := by
  unfold Obligations.EveryCommandCompletes
  intro c s
  cases c
  case portFrameTxEnd => exact execPortFrameTxEnd_safe ..
  -- What the command looks up comes first.
  case registerWrite | errorCounterWrite | timeSourceApply | timeStepApply | ptpUnmatchedTimeout | ptpGrantRenew | ptpGrantRequestRetry |
    ptmResponseRx | ptmResponseTimeout | cfPacketInject | parseTake | parseStallEnd | matchStage | rulesetStage | tableCreate |
    rulesetCurrent | settleComplete | tcamSlotClearComplete | parseCoreFault | matchLaneFault | threadPacketStart | sumpWaitEnd |
    loadDataReturn | dispatcherEnqueue | handoff | deadlineFault | graceExpiry | inputQueueExpiry | engineCheckStart | engineCheckEnd |
    engineReturn | engineRetire | tmEnqueue | gateListCopyDone | gateListStart | macsecTxFrame | macsecRxFrame | nvmeUnsupportedOpcode |
    virtioBlkUnsupported | backendIssue | backendCompletion | attemptTimeout | issueWaitTimeout | icrespRx | fabricsConnectResponse |
    nvmeTcpPduRx | rocePacketRx | cnpRx | flrComplete | msixVectorUnmask | hostReadIssue | readCompletionRx | completionTimeout |
    queueDisableComplete | txCompletionWrite | ropeProgramStart | ropeChunkRead | ropeChunkWrite | ropeProgramStop | moduleInsert |
    spdmHeartbeatTimeout | principalRekey | thermalReturnStep | deviceReset | lntStepTimeout | ptpAnnounceReceiptTimeout | tcpAckRx =>
    conv => arg 1; whnf
    repeat' first | exact safe_next _ | apply safe_ite | split
  -- Guards come first, then what the command looks up.
  case lockGrant | peerWindowRequest | ropeChunkFault | anComplete =>
    repeat' apply safe_ite
    all_goals repeat' first | exact safe_next _ | apply safe_ite | split
  case adminSlotFetch =>
    repeat' apply safe_ite
    all_goals repeat' first | exact safe_next _ | apply safe_ite | split | dsimp only
  -- Guards alone.
  all_goals
    repeat' apply safe_ite
    all_goals exact safe_next _

end Sys2Proof.Machine

end

section
/-! PROOFS. Doorbells and SETUP (R485-R491, R518): what the checks of a doorbell answer, once, and then each doorbell and SETUP item. -/

namespace Sys2Proof.Machine

open Sys2Proof

/-! The checks that every doorbell meets -/

section Checks

variable {s : State} {f gen hi : Nat} {setup there off inRange : Bool} {k : State → State}

theorem State.doorbell_notCreated (bars : s.barOpen f = true) (new : (s.func f).created = false) :
    s.doorbell f gen hi setup there off inRange k = s.err R.QMG_BAD_DB_CNT :=
  (if_neg (not_not_intro bars)).trans (if_pos new)

theorem State.doorbell_stale (bars : s.barOpen f = true) (created : (s.func f).created = true) (stale : gen ≠ (s.func f).gen) :
    s.doorbell f gen hi false there off inRange k = s.err R.QMG_STALE_DB_CNT :=
  (if_neg (not_not_intro bars)).trans <| (if_neg (ne_false_of_eq_true created)).trans <| if_pos ⟨stale, fun h => Bool.false_ne_true h.1⟩

theorem State.Rings.doorbell (rings : s.Rings f gen) (here : there = true) (on : off = false) (fits : inRange = true) :
    s.doorbell f gen 0 setup there off inRange k = k s := by
  obtain ⟨created, bars, current⟩ := rings
  simp [State.doorbell, bars, created, current, here, on, fits]

theorem State.Rings.doorbell_outOfRange (rings : s.Rings f gen) (beyond : inRange = false) :
    s.doorbell f gen 0 setup there off inRange k = s.err R.QMG_BAD_DB_CNT := by
  obtain ⟨created, bars, current⟩ := rings
  simp [State.doorbell, State.badDb, bars, created, current, beyond]

end Checks

/-! Functions that are not created and generations that are not current -/

theorem exec_doorbell_notCreated {s : State} {f q i gen hi : Nat} (bars : s.barOpen f = true) (new : (s.func f).created = false) :
    ∀ c ∈ [Instr.dbTxQueue f q i gen hi, .dbRxQueue f q i gen hi, .dbVirtioNet f q i gen hi, .dbVirtioBlk f q i gen hi,
        .dbCompletionRing f q i gen hi, .dbEventRing f q i gen hi, .dbAdminSlot f q i gen hi, .dbAdminCompletion f q i gen hi,
        .setupItem f q i gen hi, .setupEnable f i gen hi, .dbNvmeSqTail f q i gen hi, .dbNvmeCqHead f q i gen hi],
      exec c s = .next (s.err R.QMG_BAD_DB_CNT) := by
  simp [execDbTxQueue, execDbRxQueue, execDbVirtioNet, execDbVirtioBlk, State.dbQueue, execDbCompletionRing, execDbEventRing,
    execDbAdminSlot, execDbAdminCompletion, execSetupItem, execSetupEnable, execDbNvmeSqTail, execDbNvmeCqHead,
    State.doorbell_notCreated bars new, new]

theorem exec_doorbell_stale {s : State} {f q i gen hi : Nat} (bars : s.barOpen f = true) (created : (s.func f).created = true)
    (stale : gen ≠ (s.func f).gen) :
    ∀ c ∈ [Instr.dbTxQueue f q i gen hi, .dbRxQueue f q i gen hi, .dbVirtioNet f q i gen hi, .dbVirtioBlk f q i gen hi,
        .dbCompletionRing f q i gen hi, .dbEventRing f q i gen hi, .dbAdminSlot f q i gen hi, .dbAdminCompletion f q i gen hi],
      exec c s = .next (s.err R.QMG_STALE_DB_CNT) := by
  simp [execDbTxQueue, execDbRxQueue, execDbVirtioNet, execDbVirtioBlk, State.dbQueue, execDbCompletionRing, execDbEventRing,
    execDbAdminSlot, execDbAdminCompletion, State.doorbell_stale bars created stale]

/-! Each doorbell on a function that meets the checks -/

section Ring

variable {s : State} {f gen : Nat} (rings : s.Rings f gen)

include rings

theorem State.Rings.dbQueue {k q i : Nat} (here : s.hasQue f k q = true) (on : (s.que f k q).st ≠ .disabled) (split : (s.que f k q).packed = false)
    (fits : prodOk i (s.que f k q).ci (s.que f k q).log2 = true) :
    s.dbQueue f k q i gen 0 =
      if k = 0 then s.updQue f k q (fun y => { y with pi := i }) else (s.updQue f k q (fun y => { y with pi := i })).askEntries f k q := by
  rw [State.dbQueue, split]
  exact rings.doorbell here (decide_eq_false on) fits

theorem State.Rings.dbQueue_outOfRange {k q i : Nat} (split : (s.que f k q).packed = false)
    (beyond : prodOk i (s.que f k q).ci (s.que f k q).log2 = false) : s.dbQueue f k q i gen 0 = s.err R.QMG_BAD_DB_CNT := by
  rw [State.dbQueue, split]
  exact rings.doorbell_outOfRange beyond

theorem exec_dbCompletionRing_returns {q i : Nat} (here : (s.func f).cqs.any (fun e => e.1 == q) = true)
    (fits : freeOk (Map.get (s.func f).cqs {} q) i = true) :
    exec (.dbCompletionRing f q i gen 0) s = .next ((s.updFunc f (fun x => { x with cqs := Map.upd x.cqs {} q (fun r => r.returned i) })).clearInt f
      (Map.get (s.func f).cqs {} q).mod.vec) :=
  congrArg Host.Outcome.next (rings.doorbell here rfl fits)

theorem exec_dbEventRing_returns {i : Nat} (on : (s.func f).evt.on = true) (fits : freeOk (s.func f).evt i = true) :
    exec (.dbEventRing f 0 i gen 0) s =
      .next (((s.updFunc f (fun x => { x with evt := x.evt.returned i })).clearInt f (s.func f).evt.mod.vec).eventLost f) :=
  congrArg Host.Outcome.next (rings.doorbell (by rw [on]; rfl) rfl fits)

theorem exec_dbAdminSlot_moves {i : Nat} (on : (s.func f).adminEn = true) (fits : prodOk i (s.func f).adm.ci (s.func f).adm.log2 = true) :
    exec (.dbAdminSlot f 0 i gen 0) s = .next (s.updFunc f (fun x => { x with adm := { x.adm with pi := i }, slotStop := false })) :=
  congrArg Host.Outcome.next (rings.doorbell (by rw [on]; rfl) rfl fits)

theorem exec_dbAdminCompletion_returns {i : Nat} (on : (s.func f).admCpl.on = true) (fits : freeOk (s.func f).admCpl i = true) :
    exec (.dbAdminCompletion f 0 i gen 0) s =
      .next ((s.updFunc f (fun x => { x with admCpl := x.admCpl.returned i })).clearInt f (s.func f).admCpl.mod.vec) :=
  congrArg Host.Outcome.next (rings.doorbell (by rw [on]; rfl) rfl fits)

theorem exec_dbNvmeSqTail_moves {q i : Nat} (here : s.hasQue f 8 q = true) (on : (s.que f 8 q).st ≠ .disabled) (fits : i < (s.que f 8 q).size) :
    exec (.dbNvmeSqTail f q i gen 0) s = .next ((s.updQue f 8 q (fun y => { y with pi := i })).askEntries f 8 q) := by
  rw [exec_dbNvmeSqTail, execDbNvmeSqTail, decide_eq_false (Nat.not_le.mpr fits), Bool.and_false, if_neg Bool.false_ne_true]
  exact congrArg Host.Outcome.next (rings.doorbell here (decide_eq_false on) (decide_eq_true fits))

theorem exec_dbNvmeCqHead_moves {q i : Nat} (here : s.hasQue f 9 q = true) (fits : i < (s.que f 9 q).size)
    (written : (i + (s.que f 9 q).size - (s.que f 9 q).cqHead) % max 1 (s.que f 9 q).size ≤
      ((s.que f 9 q).used + (s.que f 9 q).size - (s.que f 9 q).cqHead) % max 1 (s.que f 9 q).size) :
    exec (.dbNvmeCqHead f q i gen 0) s =
      .next (((s.updQue f 9 q (fun z => { z with cqHead := i })).clearInt f (s.que f 9 q).vec).cqFlush f q (s.que f 9 q).size) := by
  rw [exec_dbNvmeCqHead, execDbNvmeCqHead, decide_eq_false (Nat.not_le.mpr fits), Bool.and_false, if_neg Bool.false_ne_true]
  refine congrArg Host.Outcome.next (rings.doorbell here rfl ?_)
  rw [decide_eq_true fits, decide_eq_true written]
  rfl

theorem exec_dbNvmeCqHead_outOfRange {q i : Nat} (here : s.hasQue f 9 q = true) (beyond : (s.que f 9 q).size ≤ i) :
    exec (.dbNvmeCqHead f q i gen 0) s = .next (((s.err R.QMG_BAD_DB_CNT).err R.STO_TENANT_ERR_CNT).nvmeEvent f 0x10100) := by
  rw [exec_dbNvmeCqHead, execDbNvmeCqHead, decide_eq_false (Nat.not_lt.mpr beyond), Bool.false_and, rings.doorbell_outOfRange rfl]
  obtain ⟨created, bars, rfl⟩ := rings
  simp [created, bars, here, beyond]

/-! SETUP -/

theorem exec_setupItem_keeps {item v : Nat} (before : (s.func f).adminEn = false) (known : item ≤ 16) :
    exec (.setupItem f item v gen 0) s = .next (s.updFunc f (fun x => { x with setup := Map.set x.setup 0 item v })) :=
  congrArg Host.Outcome.next <| (rings.doorbell rfl rfl rfl).trans <|
    if_neg (not_or_intro (ne_true_of_eq_false before) (Nat.not_lt.mpr known))

theorem exec_setupItem_enabled {item v : Nat} (enabled : (s.func f).adminEn = true) :
    exec (.setupItem f item v gen 0) s = .next (s.err R.QMG_SETUP_ERR_CNT) :=
  congrArg Host.Outcome.next <| (rings.doorbell rfl rfl rfl).trans <| if_pos (.inl enabled)

theorem exec_setupEnable_enabled {v : Nat} (enabled : (s.func f).adminEn = true) :
    exec (.setupEnable f v gen 0) s = .next (s.err R.QMG_SETUP_ERR_CNT) :=
  congrArg Host.Outcome.next <| (rings.doorbell rfl rfl rfl).trans <| if_pos enabled

theorem exec_setupEnable_refused {v : Nat} (before : (s.func f).adminEn = false) (asks : v % 2 = 1) (wrong : (s.func f).setupOk = false) :
    exec (.setupEnable f v gen 0) s = .next ((s.err R.QMG_SETUP_ERR_CNT).raise F.QMG_INT_STATUS_SETUP_ERR) :=
  congrArg Host.Outcome.next <| (rings.doorbell rfl rfl rfl).trans <| (if_neg (ne_true_of_eq_false before)).trans <|
    (if_neg (by omega)).trans <| if_pos (ne_true_of_eq_false wrong)

/-- The function once item 17 has enabled its three admin rings as the items before it say (R490). -/
def Func.enabled (x : Func) : Func :=
  let g := fun k => Map.get x.setup 0 k
  { x with
    adminEn := true, adm := { st := .enabled, base := x.setupBase 0, log2 := g 12 % 32 },
    admCpl := { on := true, base := x.setupBase 4, log2 := g 13 % 32, mod := { vec := g 15 % 2048 } },
    evt := { on := true, base := x.setupBase 8, log2 := g 14 % 32, mod := { vec := g 16 % 2048 } } }

theorem exec_setupEnable_enables (before : (s.func f).adminEn = false) (right : (s.func f).setupOk = true) :
    let u := s.setFunc f (s.func f).enabled
    exec (.setupEnable f 1 gen 0) s = .next (u.admEntry f 0xFFFF (u.identity f).r0 (u.identity f).r1 (u.identity f).r2) :=
  congrArg Host.Outcome.next <| (rings.doorbell rfl rfl rfl).trans <| (if_neg (ne_true_of_eq_false before)).trans <|
    (if_neg (by decide)).trans <| if_neg (not_not_intro right)

end Ring

/-- Settles O50, one doorbell at a time. -/
theorem doorbells : Obligations.Doorbells := by
  unfold Obligations.Doorbells
  refine ⟨fun f q i gen hi s bars new => exec_doorbell_notCreated bars new,
    fun f q i gen hi s bars created stale => exec_doorbell_stale bars created stale, fun f q i gen s rings => ?_, fun f item v gen s rings => ?_⟩
  · exact ⟨fun here on split fits => congrArg Host.Outcome.next (rings.dbQueue here on split fits),
      fun here on split fits => congrArg Host.Outcome.next (rings.dbQueue here on split fits),
      fun here on split fits => congrArg Host.Outcome.next (rings.dbQueue here on split fits),
      fun here on split fits => congrArg Host.Outcome.next (rings.dbQueue here on split fits),
      fun _ split beyond => congrArg Host.Outcome.next (rings.dbQueue_outOfRange split beyond),
      exec_dbCompletionRing_returns rings, exec_dbEventRing_returns rings, exec_dbAdminSlot_moves rings, exec_dbAdminCompletion_returns rings,
      exec_dbNvmeSqTail_moves rings, exec_dbNvmeCqHead_moves rings, exec_dbNvmeCqHead_outOfRange rings⟩
  · exact ⟨exec_setupItem_keeps rings, fun enabled => ⟨exec_setupItem_enabled rings enabled, exec_setupEnable_enabled rings enabled⟩,
      exec_setupEnable_refused rings, exec_setupEnable_enables rings⟩

end Sys2Proof.Machine

end

section
/-! PROOFS. Admin slots and the commands for functions, completion rings, queues and moderation (R481-R483, R493, R494, R504, R511, R512). -/

namespace Sys2Proof.Machine

open Sys2Proof

/-! The next admin slot -/

/-- The admin ring of function f has a slot to read, and may read it (R511). -/
structure State.SlotReady (s : State) (f : Nat) : Prop where
  enabled : (s.func f).adminEn = true
  may : s.mayRequest f = true
  idle : (s.func f).cur = none
  runs : (s.func f).slotStop = false
  filled : (s.func f).adm.ci ≠ (s.func f).adm.pi
  room : (s.func f).admCpl.room = true
  notHeld : s.held.any (fun h => h.1 == f) = false

/-- The command in the next slot of function f's admin ring. -/
def State.nextSlot (s : State) (f : Nat) : AdmCmd :=
  let x := s.func f
  let i := x.adm.ci % 2 ^ x.adm.log2
  { slot := i, bytes := s.hostRead (s.attOf f) (x.adm.base + 128 * i) 128, opRead := 0 }

/-- The state once the command of the next slot is the function's current one. -/
def State.slotTaken (s : State) (f : Nat) : State :=
  s.setFunc f { s.func f with
    cur := some (s.nextSlot f), adm := { (s.func f).adm with ci := ((s.func f).adm.ci + 1) % 65536 } }

section Slot

variable {s : State} {f : Nat} (ready : s.SlotReady f)

include ready

theorem State.SlotReady.guard : (s.func f).adminEn ∧ s.mayRequest f ∧ (s.func f).cur = none ∧ ¬ (s.func f).slotStop ∧
    (s.func f).adm.ci ≠ (s.func f).adm.pi ∧ (s.func f).admCpl.room ∧ ¬ s.held.any (fun h => h.1 == f) :=
  ⟨ready.enabled, ready.may, ready.idle, ne_true_of_eq_false ready.runs, ready.filled, ready.room, ne_true_of_eq_false ready.notHeld⟩

theorem exec_adminSlotFetch_badOpcode (unknown : cmdM (s.nextSlot f).op = none) :
    exec (.adminSlotFetch f 0 0) s = .next ((s.slotTaken f).admDone f stBadOpcode) := by
  rw [exec_adminSlotFetch, execAdminSlotFetch, if_pos ready.guard, if_neg (not_not_intro rfl)]
  unfold State.nextSlot at unknown
  dsimp only at unknown ⊢
  rw [unknown]
  rfl

theorem exec_adminSlotFetch_known {m : Bool} (known : cmdM (s.nextSlot f).op = some m) :
    exec (.adminSlotFetch f 0 0) s = .next (
      if ¬ (isMgmt f ∨ (m = false ∧ (s.nextSlot f).target = f)) then (s.slotTaken f).admDone f stNotPermitted
      else if m then { s.slotTaken f with adminOrder := (s.slotTaken f).adminOrder ++ [f] } else s.slotTaken f) := by
  rw [exec_adminSlotFetch, execAdminSlotFetch, if_pos ready.guard, if_neg (not_not_intro rfl)]
  simp only [apply_ite Host.Outcome.next]
  unfold State.nextSlot at known
  dsimp only at known ⊢
  rw [known]
  rfl

theorem exec_adminSlotFetch_unread (o : Nat) :
    exec (.adminSlotFetch f 2 o) s = .next (((((s.readFailed f 0 true 0 3 0 0 none).updFunc f (fun x => { x with slotStop := true })).raise
      F.QMG_INT_STATUS_QUEUE_STOPPED).event f 0x0010 0 (4 + 2 * 16) 0 0)) :=
  (if_pos ready.guard).trans (if_pos (by decide))

end Slot

/-! Functions and their shares -/

theorem exec_identifyFunction_checked {f : Nat} {s : State} {c : AdmCmd} (checked : s.Checked f 0x01 false [] (fun _ => true) c) :
    exec (.identifyFunction f) s = .next (s.admDone f stSuccess (s.identity c.target)) :=
  congrArg Host.Outcome.next (checked.admRun _)

/-- Function g can be created: it is not yet, it is no management PF, and its attachment is there. -/
theorem State.mayCreate {t : State} {g : Nat} (new : (t.func g).created = false) (guest : isMgmt g = false)
    (present : t.present (t.attOf g) = true) : ¬ ((t.func g).created ∨ isMgmt g ∨ t.present (t.attOf g) = false) := by
  simp [new, guest, present]

section Create

variable {f : Nat} {s t : State} {c : AdmCmd}
  (verified : s.Verified f 0x02 [0x7FF1FFF, 0x1FFFFFFFF, 0x1FFFF]
    (fun c => decide (bitsOf (c.word 8) 0 13 ≤ 4096) && decide (bitsOf (c.word 8) 16 11 ≤ 1024)
      && decide (bitsOf (c.word 16) 0 16 + bitsOf (c.word 16) 16 17 ≤ 65536) && decide (c.word 24 ≤ 65536)) c t)

include verified

theorem exec_functionCreate_created (created : (t.func c.target).created = true) :
    exec (.functionCreate f) s = .next (t.admDone f stBadField) :=
  congrArg Host.Outcome.next <| (verified.admCrit _).trans <| if_pos (.inl created)

section New

variable (new : (t.func c.target).created = false) (guest : isMgmt c.target = false) (present : t.present (t.attOf c.target) = true)

include new guest present

theorem exec_functionCreate_noPairs (full : 65536 < t.taken Func.qpAllot + bitsOf (c.word 8) 0 13) :
    exec (.functionCreate f) s = .next (t.admDone f stNoResource) :=
  congrArg Host.Outcome.next <| (verified.admCrit _).trans <|
    (if_neg (State.mayCreate new guest present)).trans <| if_pos (.inl full)

theorem exec_functionCreate_creates (pairs : t.taken Func.qpAllot + bitsOf (c.word 8) 0 13 ≤ 65536)
    (vectors : t.taken Func.vecAllot + bitsOf (c.word 8) 16 11 ≤ 16384) (share : t.taken Func.share + c.word 24 ≤ 65536)
    (apart : t.tmOverlap c.target (bitsOf (c.word 16) 0 16) (bitsOf (c.word 16) 16 17) = false) :
    exec (.functionCreate f) s = .next ((t.setFunc c.target { t.func c.target with
      created := true, gen := nextGen (t.func c.target).gen, qpAllot := bitsOf (c.word 8) 0 13, vecAllot := bitsOf (c.word 8) 16 11,
      vecTable := bitsOf (c.word 8) 16 11, tmFirst := bitsOf (c.word 16) 0 16, tmCount := bitsOf (c.word 16) 16 17,
      share := c.word 24 }).admDone f stSuccess) :=
  congrArg Host.Outcome.next <| (verified.admCrit _).trans <|
    (if_neg (State.mayCreate new guest present)).trans <|
      if_neg (not_or_intro pairs.not_gt <| not_or_intro vectors.not_gt <| not_or_intro share.not_gt (ne_true_of_eq_false apart))

end New

end Create

section Destroy

variable {f : Nat} {s t : State} {c : AdmCmd} (verified : s.Verified f 0x03 [] (fun _ => true) c t)

include verified

theorem exec_functionDestroy_mgmt (mgmt : isMgmt c.target = true) : exec (.functionDestroy f) s = .next (t.admDone f stBadField) :=
  congrArg Host.Outcome.next <| (verified.admCrit _).trans <| if_pos (.inl mgmt)

theorem exec_functionDestroy_resets (guest : isMgmt c.target = false) (created : (t.func c.target).created = true) :
    exec (.functionDestroy f) s =
      .next (((t.admWait f).resetFunc c.target).updFunc c.target (fun x => { x with resetCmd := some f })) :=
  congrArg Host.Outcome.next <| (verified.admCrit _).trans <|
    if_neg (not_or_intro (ne_true_of_eq_false guest) (ne_false_of_eq_true created))

end Destroy

section Share

variable {f : Nat} {s t : State} {c : AdmCmd}
  (verified : s.Verified f 0x04 (shareMasks (bitsOf (c.word 8) 0 4)) shareGood c t) (pairs : bitsOf (c.word 8) 0 4 = 3)

include verified

theorem exec_shareSet_verified : exec (.shareSet f) s = .next (t.shareSet f c) := by
  rw [exec_shareSet, execShareSet, verified.cur]
  exact congrArg Host.Outcome.next (verified.admCrit _)

include pairs

theorem exec_shareSet_pairs :
    exec (.shareSet f) s = .next (
      if (t.func c.target).created = false then t.admDone f stBadField
      else if 65536 < t.taken Func.qpAllot - (t.func c.target).qpAllot + c.word 16 ∧ (t.func c.target).qpAllot < c.word 16 then
        t.admDone f stNoResource
      else (t.setFunc c.target { t.func c.target with qpAllot := c.word 16 }).shareDone f c.target 3) := by
  rw [exec_shareSet_verified verified, State.shareSet, pairs]
  rfl

theorem exec_shareSet_notCreated (new : (t.func c.target).created = false) : exec (.shareSet f) s = .next (t.admDone f stBadField) := by
  rw [exec_shareSet_pairs verified pairs, if_pos new]

theorem exec_shareSet_noPairs (created : (t.func c.target).created = true) (more : (t.func c.target).qpAllot < c.word 16)
    (full : 65536 < t.taken Func.qpAllot - (t.func c.target).qpAllot + c.word 16) :
    exec (.shareSet f) s = .next (t.admDone f stNoResource) := by
  rw [exec_shareSet_pairs verified pairs, if_neg (ne_false_of_eq_true created), if_pos ⟨full, more⟩]

theorem exec_shareSet_fewer (created : (t.func c.target).created = true) (fewer : c.word 16 ≤ (t.func c.target).qpAllot) :
    exec (.shareSet f) s =
      .next ((t.setFunc c.target { t.func c.target with qpAllot := c.word 16 }).shareDone f c.target 3) := by
  rw [exec_shareSet_pairs verified pairs, if_neg (ne_false_of_eq_true created), if_neg (fun h => fewer.not_gt h.2)]

end Share

/-! Completion rings -/

section CqCreate

variable {f : Nat} {s : State} {c : AdmCmd}
  (checked : s.Checked f 0x05 false [0x103FF001F0FFF, 0xFFFFFFFFFFFFFFFF]
    (fun c => decide (6 ≤ bitsOf (c.word 8) 16 5) && decide (bitsOf (c.word 8) 16 5 ≤ 16) && c.word 16 % 4096 == 0) c)
  (created : (s.func c.target).created = true) (vector : bitsOf (c.word 8) 32 10 < (s.func c.target).vecTable)
  (thawed : s.frozen c.target = false)

include checked created vector thawed

theorem exec_cqCreate_checked :
    exec (.cqCreate f) s = .next (
      if (s.func c.target).cqs.any (fun e => e.1 == bitsOf (c.word 8) 0 12) then s.admDone f stBusy
      else if (s.func c.target).qpAllot ≤ (s.func c.target).cqs.length then s.admDone f stNoResource
      else (s.setFunc c.target { s.func c.target with
        cqs := Map.set (s.func c.target).cqs {} (bitsOf (c.word 8) 0 12) {
          on := true, base := c.word 16, log2 := bitsOf (c.word 8) 16 5,
          mod := { vec := bitsOf (c.word 8) 32 10, intEn := bitOf (c.word 8) 48 } } }).admDone f stSuccess) :=
  congrArg Host.Outcome.next <| (checked.admRun _).trans <|
    (if_neg (not_or_intro (ne_false_of_eq_true created) vector.not_ge)).trans <| if_neg (ne_true_of_eq_false thawed)

theorem exec_cqCreate_there (there : (s.func c.target).cqs.any (fun e => e.1 == bitsOf (c.word 8) 0 12) = true) :
    exec (.cqCreate f) s = .next (s.admDone f stBusy) := by
  rw [exec_cqCreate_checked checked created vector thawed, if_pos there]

theorem exec_cqCreate_creates (absent : (s.func c.target).cqs.any (fun e => e.1 == bitsOf (c.word 8) 0 12) = false)
    (room : (s.func c.target).cqs.length < (s.func c.target).qpAllot) :
    exec (.cqCreate f) s = .next ((s.setFunc c.target { s.func c.target with
      cqs := Map.set (s.func c.target).cqs {} (bitsOf (c.word 8) 0 12) {
        on := true, base := c.word 16, log2 := bitsOf (c.word 8) 16 5,
        mod := { vec := bitsOf (c.word 8) 32 10, intEn := bitOf (c.word 8) 48 } } }).admDone f stSuccess) := by
  rw [exec_cqCreate_checked checked created vector thawed, if_neg (ne_true_of_eq_false absent), if_neg room.not_ge]

end CqCreate

theorem exec_cqDestroy_checked {f : Nat} {s : State} {c : AdmCmd} (checked : s.Checked f 0x06 false [0xFFF] (fun _ => true) c)
    (there : (s.func c.target).cqs.any (fun e => e.1 == c.word 8) = true) (thawed : s.frozen c.target = false) :
    exec (.cqDestroy f) s = .next (
      if (s.func c.target).queues.any (fun e => decide (e.1 / 4096 ≤ 1) && e.2.cq == c.word 8) then s.admDone f stBusy
      else (s.setFunc c.target { s.func c.target with cqs := Map.erase (s.func c.target).cqs (c.word 8) }).admDone f stSuccess) :=
  congrArg Host.Outcome.next <| (checked.admRun _).trans <|
    (if_neg (ne_false_of_eq_true there)).trans <| if_neg (ne_true_of_eq_false thawed)

/-! Queues -/

section QueueCreate

variable {f : Nat} {s : State} {c : AdmCmd}
  (checked : s.Checked f 0x07 false [0xFFF007FFFFF, 0xFFFFFFFFFFFFFFFF, 0xFFFFFFFFFFFFFFFF, 0xFFFFFFFFFFFFFFFF, 0x7FF, 0xFFFFFFFFFFFFFFFF]
    (fun c => queueShape (bitsOf (c.word 8) 12 4) (bitsOf (c.word 8) 16 5) (c.word 0x10)) c)
  (good : s.queueGood c.target c = true) (thawed : s.frozen c.target = false)

include checked good thawed

theorem exec_queueCreate_there (there : s.hasQue c.target (bitsOf (c.word 8) 12 4) (bitsOf (c.word 8) 0 12) = true) :
    exec (.queueCreate f) s = .next (s.admDone f stBusy) :=
  congrArg Host.Outcome.next <| (checked.admRun _).trans <| (if_neg (ne_false_of_eq_true good)).trans <|
    (if_neg (ne_true_of_eq_false thawed)).trans <| if_pos there

theorem exec_queueCreate_creates (absent : s.hasQue c.target (bitsOf (c.word 8) 12 4) (bitsOf (c.word 8) 0 12) = false)
    (room : (s.func c.target).qpUsed < (s.func c.target).qpAllot) (notNvme : bitsOf (c.word 8) 12 4 ≠ 8) :
    exec (.queueCreate f) s = .next ((s.setFunc c.target { s.func c.target with
      qpUsed := (s.func c.target).qpUsed + 1,
      queues := Map.set (s.func c.target).queues {} (qKey (bitsOf (c.word 8) 12 4) (bitsOf (c.word 8) 0 12)) (newQueue c) }).admDone f
        stSuccess) :=
  congrArg Host.Outcome.next <| (checked.admRun _).trans <| (if_neg (ne_false_of_eq_true good)).trans <|
    (if_neg (ne_true_of_eq_false thawed)).trans <| (if_neg (ne_true_of_eq_false absent)).trans <| (if_neg room.not_ge).trans <|
      congrArg (State.admDone · f stSuccess) (if_neg notNvme)

end QueueCreate

theorem State.Checked.queueCmd {s : State} {f op : Nat} {c : AdmCmd} (checked : s.Checked f op false [0xFFFF] (fun _ => true) c)
    (there : s.hasQue c.target (bitsOf (c.word 8) 12 4) (bitsOf (c.word 8) 0 12) = true) (known : bitsOf (c.word 8) 12 4 < 8)
    (k : State → Nat → Nat → Nat → State) :
    s.queueCmd f op k = k s c.target (bitsOf (c.word 8) 12 4) (bitsOf (c.word 8) 0 12) :=
  (checked.admRun _).trans <| if_neg (not_or_intro (ne_false_of_eq_true there) (by omega))

section QueueCommands

variable {f : Nat} {s : State} {c : AdmCmd}
  (there : s.hasQue c.target (bitsOf (c.word 8) 12 4) (bitsOf (c.word 8) 0 12) = true) (known : bitsOf (c.word 8) 12 4 < 8)

include there known

theorem exec_queueDestroy_checked (checked : s.Checked f 0x08 false [0xFFFF] (fun _ => true) c) (thawed : s.frozen c.target = false) :
    exec (.queueDestroy f) s = .next (
      if (s.que c.target (bitsOf (c.word 8) 12 4) (bitsOf (c.word 8) 0 12)).st ≠ .disabled then s.admDone f stBusy
      else ((s.dropQue c.target (bitsOf (c.word 8) 12 4) (bitsOf (c.word 8) 0 12)).updFunc c.target
        (fun x => { x with qpUsed := x.qpUsed - 1 })).admDone f stSuccess) := by
  rw [exec_queueDestroy, execQueueDestroy, checked.queueCmd there known, if_neg (ne_true_of_eq_false thawed)]
  dsimp only
  rw [if_neg (fun h => absurd h.1 (by omega) : ¬ (bitsOf (c.word 8) 12 4 = 8 ∧ bitsOf (c.word 8) 0 12 = 0))]

theorem exec_queueEnable_enables (checked : s.Checked f 0x09 false [0xFFFF] (fun _ => true) c) (master : (s.func c.target).cfg.master = true)
    (split : 2 ≤ bitsOf (c.word 8) 12 4) :
    exec (.queueEnable f) s = .next (((s.updQue c.target (bitsOf (c.word 8) 12 4) (bitsOf (c.word 8) 0 12)
      (fun y => { y with st := .enabled })).askEntries c.target (bitsOf (c.word 8) 12 4) (bitsOf (c.word 8) 0 12)).admDone f stSuccess) :=
  congrArg Host.Outcome.next <| (checked.queueCmd there known _).trans <| (if_neg (ne_false_of_eq_true master)).trans <|
    (if_neg (fun h => absurd h.1 (by omega))).trans <| congrArg (State.admDone · f stSuccess) (if_neg (by omega))

theorem exec_queueEnable_noMaster (checked : s.Checked f 0x09 false [0xFFFF] (fun _ => true) c)
    (noMaster : (s.func c.target).cfg.master = false) : exec (.queueEnable f) s = .next (s.admDone f stNotPermitted) :=
  congrArg Host.Outcome.next <| (checked.queueCmd there known _).trans <| if_pos noMaster

theorem exec_queueDisable_disabled (checked : s.Checked f 0x0A false [0xFFFF] (fun _ => true) c)
    (disabled : (s.que c.target (bitsOf (c.word 8) 12 4) (bitsOf (c.word 8) 0 12)).st = .disabled) :
    exec (.queueDisable f) s = .next (s.admDone f stSuccess) :=
  congrArg Host.Outcome.next <| (checked.queueCmd there known _).trans <| if_pos disabled

theorem exec_queueDisable_enabled (checked : s.Checked f 0x0A false [0xFFFF] (fun _ => true) c)
    (enabled : (s.que c.target (bitsOf (c.word 8) 12 4) (bitsOf (c.word 8) 0 12)).st = .enabled) :
    exec (.queueDisable f) s = .next (((s.queueHalt c.target (bitsOf (c.word 8) 12 4) (bitsOf (c.word 8) 0 12) .enabled).updQue c.target
      (bitsOf (c.word 8) 12 4) (bitsOf (c.word 8) 0 12) (fun y => { y with disabling := true })).admWait f) := by
  rw [exec_queueDisable, execQueueDisable, checked.queueCmd there known, enabled]
  rfl

theorem exec_queueDisableComplete_idle (cur : (s.func f).cur = some c) (op : c.op = 0x0A) (begun : c.begun = true)
    (disabling : (s.que c.target (bitsOf (c.word 8) 12 4) (bitsOf (c.word 8) 0 12)).disabling = true)
    (idle : s.queueBusy c.target (bitsOf (c.word 8) 12 4) (bitsOf (c.word 8) 0 12) = false) (split : 2 ≤ bitsOf (c.word 8) 12 4)
    (plain : (s.que c.target (bitsOf (c.word 8) 12 4) (bitsOf (c.word 8) 0 12)).packed = false) :
    exec (.queueDisableComplete f false) s = .next ((s.updQue c.target (bitsOf (c.word 8) 12 4) (bitsOf (c.word 8) 0 12) (fun y => { y with
      st := .disabled, disabling := false, ci := 0, pi := 0, got := 0, used := 0, phase := true, sqHead := 0, sigUsed := 0, notify := false,
      txPend := [], rxPend := [], skip := false })).admDone f stSuccess) := by
  have notRing : ¬ bitsOf (c.word 8) 12 4 ≤ 1 := by omega
  have notAdmin : ¬ (bitsOf (c.word 8) 12 4 = 8 ∧ bitsOf (c.word 8) 0 12 = 0) := fun h => absurd h.1 (by omega)
  simp [execQueueDisableComplete, cur, op, begun, there, disabling, idle, plain, notRing, notAdmin]

end QueueCommands

/-! Moderation -/

theorem exec_moderationSet_event {f : Nat} {s : State} {c : AdmCmd}
    (checked : s.Checked f 0x0C false [0x3FFF, 0xFFFFFFFF]
      (fun c => decide (1 ≤ bitsOf (c.word 16) 0 16) && decide (bitsOf (c.word 8) 12 2 ≠ 3)) c)
    (event : bitOf (c.word 8) 12 = true) (on : (s.func c.target).evt.on = true) :
    exec (.moderationSet f) s = .next ((s.setFunc c.target { s.func c.target with
      evt := { (s.func c.target).evt with mod := { (s.func c.target).evt.mod with
        count := bitsOf (c.word 16) 0 16, drips := bitsOf (c.word 16) 16 16 } } }).admDone f stSuccess) :=
  congrArg Host.Outcome.next <| (checked.admRun _).trans <| (if_pos event).trans <| if_pos on

/-- Settles O51, one command at a time. -/
theorem functionsAndQueues : Obligations.FunctionsAndQueues := by
  unfold Obligations.FunctionsAndQueues
  refine ⟨?_, fun f s c checked => exec_identifyFunction_checked checked, ?_, ?_, ?_, fun f s c checked there thawed => exec_cqDestroy_checked checked there thawed,
    ?_, ?_, fun f s c checked event on => exec_moderationSet_event checked event on, ?_⟩
  · intro f s c enabled may idle runs filled room held x i slot
    subst slot
    have ready : s.SlotReady f := ⟨enabled, may, idle, runs, filled, room, held⟩
    refine ⟨exec_adminSlotFetch_badOpcode ready, fun known own => ?_, fun known mgmt => ?_, fun known guest => ?_,
      exec_adminSlotFetch_unread ready⟩
    all_goals refine (exec_adminSlotFetch_known ready known).trans (congrArg Host.Outcome.next ?_)
    · exact (if_neg (not_not_intro (own.imp_right fun target => ⟨rfl, target⟩))).trans (if_neg Bool.false_ne_true)
    · exact (if_neg (not_not_intro (.inl mgmt))).trans (if_pos rfl)
    · exact if_pos (not_or_intro (ne_true_of_eq_false guest) (fun h => Bool.noConfusion h.1))
  · exact fun f s t c verified => ⟨exec_functionCreate_created verified, fun new guest present =>
      ⟨exec_functionCreate_noPairs verified new guest present, exec_functionCreate_creates verified new guest present⟩⟩
  · exact fun f s t c verified => ⟨exec_functionDestroy_mgmt verified, exec_functionDestroy_resets verified⟩
  · exact fun f s c checked created vector thawed =>
      ⟨exec_cqCreate_there checked created vector thawed, exec_cqCreate_creates checked created vector thawed⟩
  · exact fun f s c checked good thawed => ⟨exec_queueCreate_there checked good thawed, exec_queueCreate_creates checked good thawed⟩
  · exact fun f s c there known => ⟨exec_queueDestroy_checked there known, exec_queueEnable_enables there known,
      exec_queueEnable_noMaster there known, exec_queueDisable_disabled there known, exec_queueDisable_enabled there known,
      exec_queueDisableComplete_idle there known⟩
  · exact fun f s t c verified pairs => ⟨exec_shareSet_notCreated verified pairs, exec_shareSet_noPairs verified pairs,
      exec_shareSet_fewer verified pairs⟩

end Sys2Proof.Machine

end

section
/-! PROOFS. The doorbell of a mailbox channel and the receiver's interrupt (R542, R543, R546). -/

namespace Sys2Proof.Machine

open Sys2Proof

/-- The interrupt conditions of a doorbell are compared with those of the state before it (R546). -/
theorem exec_mbxDoorbellWrite_rings {who rid m c : Nat} {s : State} (bars : s.partyOpen who = true) (admitted : s.mbxClosed who m c = false)
    (sender : s.mbxSender m c = some who) (empty : s.mbxFull m c = false) :
    exec (.mbxDoorbellWrite who rid m c) s =
      .next (s.mbxChange ((s.wr (F.MBX_DOORBELL_FULL m) (s.rd (F.MBX_DOORBELL_FULL m) + 2 ^ c)).wr (F.MBX_CHAN_SENDER_GEN m c) (s.partyGen who))) :=
  congrArg Host.Outcome.next <| (if_pos bars).trans <|
    (if_neg (not_or_intro (ne_true_of_eq_false admitted) (not_not_intro sender))).trans <| if_neg (ne_true_of_eq_false empty)

/-- Control core 0 sends on channel 0 of mailbox 0 to the management PF of attachment 0, which does not mask the channel. -/
def State.coreSendsToPf : State := (State.reset.wr (F.MBX_CHAN_SENDER_KIND 0 0) 1).wr (F.MBX_MASK_MASK 0) 0

/-- The doorbell of control core 0 makes the interrupt of the management PF due. -/
theorem coreSendsToPf_doorbell_due :
    let s := State.coreSendsToPf
    let t := s.wr (F.MBX_DOORBELL_FULL 0) (s.rd (F.MBX_DOORBELL_FULL 0) + 2 ^ 0)
    Map.get (s.mbxChange (t.wr (F.MBX_CHAN_SENDER_GEN 0 0) (s.partyGen 4))).mbx.rxDue false 0 = true := by
  decide +kernel

/-- Compared with the state in which the doorbell bit is set already, no interrupt becomes due. -/
theorem coreSendsToPf_doorbell_notDue :
    let s := State.coreSendsToPf
    let t := s.wr (F.MBX_DOORBELL_FULL 0) (s.rd (F.MBX_DOORBELL_FULL 0) + 2 ^ 0)
    Map.get (t.mbxChange (t.wr (F.MBX_CHAN_SENDER_GEN 0 0) (s.partyGen 4))).mbx.rxDue false 0 = false := by
  decide +kernel

/-- Refutes O52: its clause for MBX_DOORBELL_WRITE compares the receiver's interrupt condition after the doorbell with that of a state in which the
doorbell bit is set already, so that the interrupt of R546 never becomes due, while the model compares it with the state before the doorbell. -/
theorem not_hostTxRopeAndMailbox : ¬ Obligations.HostTxRopeAndMailbox := by
  unfold Obligations.HostTxRopeAndMailbox
  rintro ⟨_, _, _, _, _, _, _, _, _, _, _, _, _, mailbox⟩
  have bars : State.coreSendsToPf.partyOpen 4 = true := rfl
  have admitted : State.coreSendsToPf.mbxClosed 4 0 0 = false := by decide +kernel
  have sender : State.coreSendsToPf.mbxSender 0 0 = some 4 := by decide +kernel
  have empty : State.coreSendsToPf.mbxFull 0 0 = false := by decide +kernel
  obtain ⟨_, _, doorbell, _⟩ := mailbox 4 0 0 0 0 0 State.coreSendsToPf bars admitted
  have same := Host.Outcome.next.inj ((exec_mbxDoorbellWrite_rings bars admitted sender empty).symm.trans (doorbell sender empty))
  have due := congrArg (fun s : State => Map.get s.mbx.rxDue false 0) same
  exact Bool.noConfusion (coreSendsToPf_doorbell_due.symm.trans (due.trans coreSendsToPf_doorbell_notDue))

end Sys2Proof.Machine

end

section
/-! PROOFS. Ports and modules (R562-R588): negotiation and training, links, received frames, flow control, preemption, module cages, management frames. -/

namespace Sys2Proof.Machine

open Sys2Proof

section Commands

variable {p : Nat} {s : State}

/-! Negotiation and training -/

section Negotiation

variable {a b r : Nat} (negotiates : s.rd (F.PRT_LINK_STATUS_AN_STATE p) = 1)

include negotiates

theorem exec_anComplete_noCommon (noCommon : (s.advSpeeds p).find? (fun c => bitOf a (c - 1)) = none) :
    exec (.anComplete p a b r) s = .next ((s.wr (F.PRT_LINK_STATUS_AN_STATE p) 4).err (R.PRT_AN_FAIL_CNT p)) := by
  rw [exec_anComplete, execAnComplete, if_neg (not_not_intro negotiates), noCommon]

theorem exec_anComplete_common {c : Nat} (common : (s.advSpeeds p).find? (fun c => bitOf a (c - 1)) = some c) :
    let u := (s.wr (F.PRT_LINK_STATUS_SPEED p) c).wr (F.PRT_LINK_STATUS_FEC p)
      (fecResolve c (s.rd (F.PRT_AN_CFG_FEC_ABLE p)) (s.rd (F.PRT_AN_CFG_FEC_REQ p)) b r)
    exec (.anComplete p a b r) s =
      .next (u.wr (F.PRT_LINK_STATUS_AN_STATE p) (if u.rdB (F.PRT_AN_CFG_TRAIN_EN p) then 2 else 3)) := by
  rw [exec_anComplete, execAnComplete, if_neg (not_not_intro negotiates), common]

end Negotiation

theorem exec_anRestart_failed (enabled : s.rdB (F.PRT_AN_CFG_AN_EN p) = true) (failed : s.rd (F.PRT_LINK_STATUS_AN_STATE p) = 4) :
    exec (.anRestart p) s = .next (s.anBegin p) :=
  if_pos ⟨enabled, failed⟩

section Training

variable (trains : s.rd (F.PRT_LINK_STATUS_AN_STATE p) = 2)

include trains

theorem exec_laneTrainingDone_trained :
    exec (.laneTrainingDone p true) s = .next ((s.setPrt p { s.prt1 p with trainFails := 0 }).wr (F.PRT_LINK_STATUS_AN_STATE p) 3) :=
  (if_neg (not_not_intro trains)).trans (if_pos rfl)

theorem exec_laneTrainingDone_failed :
    let u := (s.setPrt p { s.prt1 p with trainFails := (s.prt1 p).trainFails + 1 }).err (R.PRT_AN_FAIL_CNT p)
    exec (.laneTrainingDone p false) s = .next (
      if u.rd (F.PRT_AN_CFG_TRAIN_RETRIES p) ≤ (s.prt1 p).trainFails + 1 then u.wr (F.PRT_LINK_STATUS_AN_STATE p) 5 else u.anBegin p) :=
  (if_neg (not_not_intro trains)).trans (if_neg Bool.false_ne_true)

end Training

theorem exec_trainRetryTimer_stopped (stopped : s.rd (F.PRT_LINK_STATUS_AN_STATE p) = 5) :
    exec (.trainRetryTimer p) s = .next ((s.setPrt p { s.prt1 p with trainFails := 0 }).anBegin p) :=
  if_pos stopped

theorem exec_trainRetryTimer_notStopped (runs : s.rd (F.PRT_LINK_STATUS_AN_STATE p) ≠ 5) : exec (.trainRetryTimer p) s = .next s := if_neg runs

/-! Links -/

theorem exec_portLinkUp_ready (ready : s.linkReady p = true) (down : s.rdB (F.PRT_LINK_STATUS_UP p) = false) :
    exec (.portLinkUp p) s = .next (s.setPrt p { s.prt1 p with calWait := true }) :=
  if_pos (by rw [ready, down]; rfl)

theorem exec_portLinkDown_ready (ready : s.linkReady p = true) : exec (.portLinkDown p) s = .next s := if_pos ready

theorem exec_portLinkDown_failed (failed : s.linkReady p = false) : exec (.portLinkDown p) s = .next (s.portDown p) :=
  if_neg (ne_true_of_eq_false failed)

theorem exec_faultSequenceRx_local :
    let u := (s.wrB (F.PRT_LINK_STATUS_LOCAL_FAULT p) true).wrB (F.PRT_LINK_STATUS_REMOTE_FAULT p) false
    exec (.faultSequenceRx p 1) s = .next (((u.raiseBit F.PRT_INT_STATUS_LINK_CHANGE p).emit (.faultSeq p 1)).linkFails p) := rfl

/-! Received frames -/

section Frame

variable {r : PortRx}

theorem exec_portFrameRx_down (down : s.rdB (F.PRT_LINK_STATUS_UP p) = false) : exec (.portFrameRx p r) s = .next s :=
  congrArg Host.Outcome.next (if_pos down)

variable (up : s.rdB (F.PRT_LINK_STATUS_UP p) = true) (whole : r.fragErr = false) (fec : r.fecOk = true) (fcs : r.fcsOk = true)

include up whole fec fcs

/-- A frame without a bad fragment, FEC or FCS is checked for its length, counted, and handed on. -/
theorem State.portFrame_good :
    let u := s.statAdd (R.PRT_FEC_CORR_CNT p) r.fecCorr
    let v := (u.stat (R.PRT_RX_PKTS_CNT p)).statAdd (R.PRT_RX_BYTES_CNT p) (r.data.length + 4)
    let f : RxFrame := { data := r.data, stamp := v.stampRx p r.sub, bad := false }
    s.portFrame p r =
      if r.data.length + 4 < 64 then u.err (R.PRT_RX_RUNT_CNT p)
      else if u.rd (F.PRT_MAC_CFG_MAX_LEN p) < r.data.length + 4 then u.err (R.PRT_RX_OVERSIZE_CNT p)
      else if be16 r.data 12 = 0x8808 then v.macCtrl p r.data
      else if v.secyRx p r.data then v.setPrt p { v.prt1 p with secyRx := (v.prt1 p).secyRx ++ [f] }
      else v.portDeliver p f := by
  simp [State.portFrame, up, whole, fec, fcs]

theorem exec_portFrameRx_runt (short : r.data.length + 4 < 64) :
    exec (.portFrameRx p r) s = .next ((s.statAdd (R.PRT_FEC_CORR_CNT p) r.fecCorr).err (R.PRT_RX_RUNT_CNT p)) :=
  congrArg Host.Outcome.next ((State.portFrame_good up whole fec fcs).trans (if_pos short))

variable (long : 64 ≤ r.data.length + 4)

include long

theorem exec_portFrameRx_oversize
    (exceeds : (s.statAdd (R.PRT_FEC_CORR_CNT p) r.fecCorr).rd (F.PRT_MAC_CFG_MAX_LEN p) < r.data.length + 4) :
    exec (.portFrameRx p r) s = .next ((s.statAdd (R.PRT_FEC_CORR_CNT p) r.fecCorr).err (R.PRT_RX_OVERSIZE_CNT p)) :=
  congrArg Host.Outcome.next ((State.portFrame_good up whole fec fcs).trans ((if_neg long.not_gt).trans (if_pos exceeds)))

theorem exec_portFrameRx_delivers :
    let u := s.statAdd (R.PRT_FEC_CORR_CNT p) r.fecCorr
    let v := (u.stat (R.PRT_RX_PKTS_CNT p)).statAdd (R.PRT_RX_BYTES_CNT p) (r.data.length + 4)
    r.data.length + 4 ≤ u.rd (F.PRT_MAC_CFG_MAX_LEN p) → be16 r.data 12 ≠ 0x8808 → v.secyRx p r.data = false →
      exec (.portFrameRx p r) s = .next (v.portDeliver p { data := r.data, stamp := v.stampRx p r.sub, bad := false }) :=
  fun fits notControl clear => congrArg Host.Outcome.next <| (State.portFrame_good up whole fec fcs).trans <| (if_neg long.not_gt).trans <|
    (if_neg fits.not_gt).trans <| (if_neg notControl).trans <| if_neg (ne_true_of_eq_false clear)

end Frame

/-! Flow control and preemption -/

theorem exec_pfcPauseExpiry_over {i : Nat} (elapsed : Map.get (s.prt1 p).pause 0 i ≤ s.fst.now) :
    exec (.pfcPauseExpiry p i) s = .next (s.setPrt p { s.prt1 p with pause := Map.set (s.prt1 p).pause 0 i 0 }) :=
  if_pos elapsed

theorem exec_pfcRefresh_noneHeld (noneHeld : (s.prt1 p).heldPrio = []) : exec (.pfcRefresh p) s = .next s := if_pos noneHeld

theorem exec_pfcRefresh_held (held : (s.prt1 p).heldPrio ≠ []) : exec (.pfcRefresh p) s = .next (s.ctlFrame p (s.pfcFrame p)) := if_neg held

theorem exec_pfcCfgWrite_refused {v : Word} (late : bitsOf v.toNat 32 16 ≤ bitsOf v.toNat 48 16) : exec (.pfcCfgWrite p v) s = .next s :=
  congrArg Host.Outcome.next (if_neg late.not_gt)

theorem exec_pfcCfgWrite_stored {v : Word} (early : bitsOf v.toNat 48 16 < bitsOf v.toNat 32 16) :
    exec (.pfcCfgWrite p v) s = .next (s.setReg (R.PRT_PFC_CFG p) (BitVec.ofNat 64 (v.toNat &&& 0xFFFFFFFF0007FFFF))) :=
  congrArg Host.Outcome.next (if_pos early)

section Verify

variable (verifies : s.rd (F.PRT_PREEMPT_STATUS_VERIFY p) = 2)

include verifies

theorem exec_preemptVerifyTx_sends (early : (s.prt1 p).verifyTries < 3) :
    exec (.preemptVerifyTx p) s = .next (((s.setPrt p { s.prt1 p with
      verifyTries := (s.prt1 p).verifyTries + 1 }).wr (F.PRT_PREEMPT_STATUS_VERIFY p) 2).emit (.verify p)) :=
  (if_neg (fun h => h.2 verifies)).trans (if_pos early)

theorem exec_preemptVerifyTx_fails (late : 3 ≤ (s.prt1 p).verifyTries) :
    exec (.preemptVerifyTx p) s = .next ((s.wr (F.PRT_PREEMPT_STATUS_VERIFY p) 4).raise F.PRT_INT_STATUS_PREEMPT_VERIFY) :=
  (if_neg (fun h => h.2 verifies)).trans (if_neg late.not_gt)

theorem exec_preemptRespondRx_verifies :
    exec (.preemptRespondRx p) s = .next (((s.wr (F.PRT_PREEMPT_STATUS_VERIFY p) 3).wrB (F.PRT_PREEMPT_STATUS_ACTIVE p) true).raise
      F.PRT_INT_STATUS_PREEMPT_VERIFY) :=
  if_pos verifies

end Verify

/-! Module cages -/

theorem exec_moduleInsert_matches {k rev temp a : Nat} (cmis4 : 0x40 ≤ rev) :
    let u := ((((s.setCage k {}).wrB (F.PRT_MOD_STATUS_PRESENT k) true).wr (F.PRT_MOD_STATUS_CMIS_REV k) rev).wr (F.PRT_MOD_STATUS_TEMP k) temp)
    let v := (u.setMstate k 1).setMstate k 2
    exec (.moduleInsert k rev (some a) temp) s = .next (((v.wr (F.PRT_MOD_STATUS_APPSEL k) a).setMstate k 3).cageHold k false) :=
  if_pos cmis4

section Service

variable {k temp : Nat} (present : s.rdB (F.PRT_MOD_STATUS_PRESENT k) = true)

include present

theorem State.moduleService_present (nack : Bool) :
    s.moduleService k nack temp = if nack then s.setCage k { s.cage k with retry := true } else s.wr (F.PRT_MOD_STATUS_TEMP k) temp :=
  if_neg (ne_false_of_eq_true present)

end Service

theorem exec_moduleI2cRetry_again {k : Nat} {nack : Bool} (again : (s.cage k).retry = true) :
    let u := s.setCage k { retry := false, fault := nack }
    exec (.moduleI2cRetry k nack) s = .next (if nack then (u.setMstate k 4).cageHold k true else u) :=
  if_pos again

section Access

variable {a k page bank off n : Nat}

/-- What a GO writes into PRT_MOD_CTRL before the access starts or is refused (R586). -/
def State.modCtrl (s : State) (a k page bank off n : Nat) (write : Bool) : State :=
  s.setReg (R.PRT_MOD_CTRL a) (BitVec.ofNat 64 (k + page * 2 ^ 2 + bank * 2 ^ 10 + off * 2 ^ 18 + n * 2 ^ 26 + b2n write * 2 ^ 29))

theorem State.rdB_modCtrl_present (channel : a < 4) (write : Bool) :
    (s.modCtrl a k page bank off n write).rdB (F.PRT_MOD_STATUS_PRESENT k) = s.rdB (F.PRT_MOD_STATUS_PRESENT k) := by
  have apart : R.PRT_MOD_STATUS k ≠ R.PRT_MOD_CTRL a := by
    unfold R.PRT_MOD_STATUS R.PRT_MOD_CTRL
    omega
  rw [State.rdB, State.rd, State.modCtrl, State.reg_setReg_ne _ _ apart]
  rfl

variable (channel : a < 4) (idle : s.rdB (F.PRT_MOD_CTRL_BUSY a) = false) (present : s.rdB (F.PRT_MOD_STATUS_PRESENT k) = true)

include channel idle present

theorem State.moduleAccess_present (write : Bool) :
    let u := s.modCtrl a k page bank off n write
    let code := if write ∧ ¬ (bank = 0 ∧ page = 3 ∧ 128 ≤ off) then 3 else if 256 < off + n + 1 then 4 else 0
    s.moduleAccess a k page bank off n write =
      if code = 0 then
        (u.wrB (F.PRT_MOD_CTRL_BUSY a) true).emit (.i2c k write page off (n + 1)
          (if write then (u.reg (R.PRT_MOD_DATA a)).toNat % 2 ^ (8 * (n + 1)) else 0))
      else (u.wrB (F.PRT_MOD_CTRL_ERR a) true).wr (F.PRT_MOD_CTRL_ERR_CODE a) code := by
  have there := (State.rdB_modCtrl_present (page := page) (bank := bank) (off := off) (n := n) channel write).trans present
  intro u code
  have refusal : (if u.rdB (F.PRT_MOD_STATUS_PRESENT k) = false then 1 else code) = code := if_neg (ne_false_of_eq_true there)
  rw [State.moduleAccess, if_neg (ne_true_of_eq_false idle), ← refusal]
  rfl

theorem exec_moduleRead_starts (fits : off + n + 1 ≤ 256) :
    exec (.moduleRead a k page bank off n) s =
      .next (((s.modCtrl a k page bank off n false).wrB (F.PRT_MOD_CTRL_BUSY a) true).emit (.i2c k false page off (n + 1) 0)) := by
  simp [execModuleRead, State.moduleAccess_present channel idle present, Nat.not_le.mpr fits]

theorem exec_moduleWrite_refused (other : page ≠ 3) :
    exec (.moduleWrite a k page bank off n) s =
      .next (((s.modCtrl a k page bank off n true).wrB (F.PRT_MOD_CTRL_ERR a) true).wr (F.PRT_MOD_CTRL_ERR_CODE a) 3) := by
  simp [execModuleWrite, State.moduleAccess_present channel idle present, other]

end Access

section AccessDone

variable {a d : Nat} (busy : s.rdB (F.PRT_MOD_CTRL_BUSY a) = true)

include busy

theorem exec_moduleAccessDone_nack :
    exec (.moduleAccessDone a true d) s =
      .next (((s.wrB (F.PRT_MOD_CTRL_BUSY a) false).wrB (F.PRT_MOD_CTRL_ERR a) true).wr (F.PRT_MOD_CTRL_ERR_CODE a) 2) :=
  (if_neg (ne_false_of_eq_true busy)).trans (if_pos rfl)

theorem exec_moduleAccessDone_read :
    let u := s.wrB (F.PRT_MOD_CTRL_BUSY a) false
    u.rdB (F.PRT_MOD_CTRL_WRITE a) = false → exec (.moduleAccessDone a false d) s =
      .next (u.setReg (R.PRT_MOD_DATA a) (BitVec.ofNat 64 (d % 2 ^ (8 * (u.rd (F.PRT_MOD_CTRL_LEN_M1 a) + 1))))) :=
  fun read => (if_neg (ne_false_of_eq_true busy)).trans <| (if_neg Bool.false_ne_true).trans <| if_neg (ne_true_of_eq_false read)

end AccessDone

/-! The management port -/

theorem exec_mgmtFrameRx_station {l : List Byte} (up : s.rdB F.PRT_MGMT_STATUS_UP = true) (short : l.length ≤ 9216)
    (station : beNat (l.take 6) = s.prt.mgmtMac) :
    exec (.mgmtFrameRx l) s = .next { s with prt := { s.prt with mgmtRx := s.prt.mgmtRx ++ [l] } } :=
  if_pos (by simp [up, short, station])

theorem exec_mgmtFrameRx_down {l : List Byte} (down : s.rdB F.PRT_MGMT_STATUS_UP = false) : exec (.mgmtFrameRx l) s = .next s :=
  if_neg (by simp [down])

end Commands

/-- Settles O53, one command at a time. -/
theorem portsAndModules : Obligations.PortsAndModules := by
  unfold Obligations.PortsAndModules
  refine ⟨fun p a b r s negotiates => ⟨exec_anComplete_noCommon negotiates, fun c => exec_anComplete_common negotiates⟩,
    fun p s => exec_anRestart_failed, fun p s trains => ⟨exec_laneTrainingDone_trained trains, exec_laneTrainingDone_failed trains⟩,
    fun p s => ⟨exec_trainRetryTimer_stopped, exec_trainRetryTimer_notStopped⟩,
    fun p s => ⟨exec_portLinkUp_ready, exec_portLinkDown_ready, exec_portLinkDown_failed⟩, fun p s => exec_faultSequenceRx_local,
    fun p r s => exec_portFrameRx_down, fun p r s up whole fec fcs => ⟨exec_portFrameRx_runt up whole fec fcs,
      exec_portFrameRx_oversize up whole fec fcs, exec_portFrameRx_delivers up whole fec fcs⟩,
    fun p v t s => rfl, fun p i s => exec_pfcPauseExpiry_over, fun p s => ⟨exec_pfcRefresh_noneHeld, exec_pfcRefresh_held⟩,
    fun p v s => ⟨exec_pfcCfgWrite_refused, exec_pfcCfgWrite_stored⟩,
    fun p s verifies => ⟨exec_preemptVerifyTx_sends verifies, exec_preemptVerifyTx_fails verifies, exec_preemptRespondRx_verifies verifies⟩,
    fun p v s => rfl, fun k rev a temp s => ⟨exec_moduleInsert_matches, rfl⟩, fun k s => rfl,
    fun k temp s present => ⟨congrArg Host.Outcome.next (State.moduleService_present present false),
      congrArg Host.Outcome.next (State.moduleService_present present true)⟩,
    fun k nack s => exec_moduleI2cRetry_again,
    fun a k page bank off n s channel idle present => ⟨exec_moduleRead_starts channel idle present, exec_moduleWrite_refused channel idle present⟩,
    fun a d s busy => ⟨exec_moduleAccessDone_nack busy, exec_moduleAccessDone_read busy⟩,
    fun l s => exec_mgmtFrameRx_station, fun l s => exec_mgmtFrameRx_down⟩

end Sys2Proof.Machine

end

section
/-! PROOFS. NC-SI commands and pass-through (R589-R592). -/

namespace Sys2Proof.Machine

open Sys2Proof

/-! How a command reaches the package -/

section Package

variable {s : State}

theorem State.ncTake_noClock (stopped : s.board.ncsiClk = false) (sumOk : Bool) (k : State → State) : s.ncTake sumOk k = s :=
  if_pos (by rw [stopped]; rfl)

theorem exec_ncsiEnableChannel_noClock (stopped : s.board.ncsiClk = false) (c : Nat) (sumOk : Bool) :
    exec (.ncsiEnableChannel c sumOk) s = .next s := by
  rw [exec_ncsiEnableChannel, execNcsiEnableChannel, State.ncDo, State.ncCmd, s.ncTake_noClock stopped]

theorem exec_ncsiSelectPackage_noClock (stopped : s.board.ncsiClk = false) (sumOk : Bool) : exec (.ncsiSelectPackage sumOk) s = .next s := by
  rw [exec_ncsiSelectPackage, execNcsiSelectPackage, s.ncTake_noClock stopped]

variable (clock : s.board.ncsiClk = true)

include clock

theorem State.ncTake_badSum (k : State → State) : s.ncTake false k = s.updPkg (fun x => { x with sumErrs := x.sumErrs + 1 }) :=
  (if_neg (by rw [clock]; exact Bool.false_ne_true)).trans (if_pos rfl)

theorem exec_ncsiEnableChannel_badSum (c : Nat) :
    exec (.ncsiEnableChannel c false) s = .next (s.updPkg (fun x => { x with sumErrs := x.sumErrs + 1 })) := by
  rw [exec_ncsiEnableChannel, execNcsiEnableChannel, State.ncDo, State.ncCmd, s.ncTake_badSum clock]

theorem State.ncTake_good (k : State → State) : s.ncTake true k = k (s.updPkg (fun x => { x with cmds := x.cmds + 1 })) :=
  (if_neg (by rw [clock]; exact Bool.false_ne_true)).trans (if_neg Bool.false_ne_true)

theorem State.ncCmd_initial {c kind : Nat} (port : bitOf (s.ncSeen.rd F.PRT_STATUS_CONFIGURED) c = true)
    (initial : (s.ncSeen.nc c).ready = false) (k : State → State × List Nat) :
    s.ncCmd c kind true k = s.ncSeen.emit (.ncsi c kind 0x0001 0x0001 []) :=
  (s.ncTake_good clock _).trans <| (if_neg (ne_false_of_eq_true port)).trans (if_pos initial)

end Package

section Ready

variable {s : State} {c : Nat} (channel : s.NcReady c)

include channel

theorem State.NcReady.ncCmd (kind : Nat) (k : State → State × List Nat) :
    s.ncCmd c kind true k = (k s.ncSeen).1.emit (.ncsi c kind 0 0 (k s.ncSeen).2) :=
  (s.ncTake_good channel.clock _).trans <| (if_neg (ne_false_of_eq_true channel.port)).trans <| if_neg (ne_false_of_eq_true channel.ready)

theorem State.NcReady.ncDo (kind : Nat) (k : State → State) : s.ncDo c kind true k = (k s.ncSeen).emit (.ncsi c kind 0 0 []) :=
  channel.ncCmd kind _

theorem exec_ncsiClearInitialState_ready :
    exec (.ncsiClearInitialState c true) s = .next ((s.ncSeen.updNc c (fun x => { x with ready := true })).emit (.ncsi c 0x00 0 0 [])) :=
  congrArg Host.Outcome.next <| (s.ncTake_good channel.clock _).trans <| if_neg (ne_false_of_eq_true channel.port)

end Ready

/-! Pass-through -/

section PassThrough

variable {s : State} {c : Nat} {l : List Byte} (clock : s.board.ncsiClk = true)

include clock

theorem exec_ncsiPassthroughTx_disabled (off : bitOf (s.rd F.PRT_NCSI_STATUS_TX_ENABLED) c = false) :
    exec (.ncsiPassthroughTx c l) s = .next (s.updNc c (fun x => { x with txDrop := x.txDrop + 1 })) :=
  (if_neg (by rw [clock]; exact Bool.false_ne_true)).trans <| if_neg fun h => ne_true_of_eq_false off h.1

variable (on : bitOf (s.rd F.PRT_NCSI_STATUS_TX_ENABLED) c = true)
  (station : (s.nc c).macs.any (fun e => e.2 == beNat ((l.drop 6).take 6) + 2 ^ 48) = true) (sends : s.portSends c = true)

include on station sends

theorem exec_ncsiPassthroughTx_goes (gate : s.gateLets c (s.rd F.PRT_NCSI_STATUS_NCSI_TC) = true) (first : (s.nc c).wait = []) :
    exec (.ncsiPassthroughTx c l) s = .next (s.ctlFrame c (.pass c l)) :=
  (if_neg (by rw [clock]; exact Bool.false_ne_true)).trans <| (if_pos ⟨on, station, sends⟩).trans <| if_pos ⟨gate, first⟩

theorem exec_ncsiPassthroughTx_waits (shut : s.gateLets c (s.rd F.PRT_NCSI_STATUS_NCSI_TC) = false) :
    exec (.ncsiPassthroughTx c l) s = .next (s.updNc c (fun x => { x with wait := x.wait ++ [l] })) :=
  (if_neg (by rw [clock]; exact Bool.false_ne_true)).trans <| (if_pos ⟨on, station, sends⟩).trans <|
    if_neg fun h => ne_true_of_eq_false shut h.1

end PassThrough

/-- Settles O54: a command to a ready channel is its effect and its answer, and the other commands one at a time. -/
theorem ncsiCommands : Obligations.NcsiCommands := by
  unfold Obligations.NcsiCommands
  refine ⟨fun c s channel => ?_, fun c s clock => ?_, fun c b s stopped => ?_, fun c l s clock => ?_⟩
  · have does := fun kind k => congrArg (Host.Outcome.next : State → Out) (channel.ncDo kind k)
    have answers := fun kind k => congrArg (Host.Outcome.next : State → Out) (channel.ncCmd kind k)
    exact ⟨exec_ncsiClearInitialState_ready channel, does _ _, does _ _, does _ _, does _ _, does _ _, fun mc mask => does _ _, answers _ _,
      answers _ _, answers _ _, ⟨_, answers _ _⟩, answers _ _, answers _ _, answers _ _, fun i a en => does _ _, fun m => does _ _, does _ _,
      fun m => does _ _, does _ _, fun i v en => does _ _, fun m => does _ _, does _ _⟩
  · have takes := fun k => congrArg (Host.Outcome.next : State → Out) (s.ncTake_good clock k)
    exact ⟨takes _, takes _, fun k => takes _, exec_ncsiEnableChannel_badSum clock c,
      fun port initial => congrArg Host.Outcome.next (s.ncCmd_initial clock port initial _)⟩
  · exact ⟨exec_ncsiEnableChannel_noClock stopped c b, exec_ncsiSelectPackage_noClock stopped b⟩
  · exact ⟨exec_ncsiPassthroughTx_disabled clock, fun on station sends =>
      ⟨exec_ncsiPassthroughTx_goes clock on station sends, exec_ncsiPassthroughTx_waits clock on station sends⟩⟩

end Sys2Proof.Machine

end

section
/-! PROOFS. The boot chain (R595-R599, R663, R672), SPDM (R601-R604) and IDE_KM (R605). -/

namespace Sys2Proof.Machine

open Sys2Proof

/-! The boot chain -/

section Boot

variable {s : State}

theorem exec_grottoRomStart_held (held : s.board.held = true) : exec .grottoRomStart s = .next s := if_pos (.inl held)

section Start

variable (released : s.board.held = false) (stage : s.rd F.GRT_BOOT_STATUS_STAGE = 0)

include released stage

theorem exec_grottoRomStart_boots :
    let u := s.setMeas 1 ((List.range (Config.trustLen 0 0)).map (Config.trustByte 0 0))
    u.rdB F.GLB_STRAPS_RECOVERY_N = true → exec .grottoRomStart s =
      .next ((u.wr F.GRT_BOOT_STATUS_STAGE 1).wr F.GRT_STATUS_BANK (u.rd F.GRT_BOOT_STATUS_NEXT_BANK)) :=
  fun normal => (if_neg (not_or_intro (ne_true_of_eq_false released) (not_not_intro stage))).trans (if_neg (ne_false_of_eq_true normal))

theorem exec_grottoRomStart_recovers :
    let u := s.setMeas 1 ((List.range (Config.trustLen 0 0)).map (Config.trustByte 0 0))
    u.rdB F.GLB_STRAPS_RECOVERY_N = false → exec .grottoRomStart s =
      .next ((u.wr F.GRT_BOOT_STATUS_STAGE 0xFF).wrB F.LNT_STATUS_RECOVERY true) :=
  fun strapped => (if_neg (not_or_intro (ne_true_of_eq_false released) (not_not_intro stage))).trans (if_pos strapped)

end Start

section StageOne

variable (stage : s.rd F.GRT_BOOT_STATUS_STAGE = 1)

include stage

theorem exec_grottoImageVerifyDone_fails (bad : s.imageCheck (s.rd F.GRT_STATUS_BANK) 1 ≠ 0) :
    exec .grottoImageVerifyDone s = .next (s.bankFail (s.imageCheck (s.rd F.GRT_STATUS_BANK) 1)) :=
  (if_pos stage).trans (if_pos bad)

theorem exec_grottoImageVerifyDone_passes (good : s.imageCheck (s.rd F.GRT_STATUS_BANK) 1 = 0) :
    let b := s.rd F.GRT_STATUS_BANK
    let u := (s.wr F.GRT_BOOT_STATUS_STAGE 2).wr F.GRT_BOOT_STATUS_GROTTO_SVN (s.imgField b 1 4 8 8)
    exec .grottoImageVerifyDone s = .next ((u.wr F.GRT_FW_VERSION_GROTTO_VER (u.imgField b 1 8 32 32)).setMeas 2 (u.imageBytes b 1)) :=
  (if_pos stage).trans (if_neg (not_not_intro good))

end StageOne

section StageTwo

variable (stage : s.rd F.GRT_BOOT_STATUS_STAGE = 2) (passed : s.board.ctrlOk = true)

include stage passed

theorem exec_grottoImageVerifyDone_passed : exec .grottoImageVerifyDone s = .next s :=
  (if_neg (by rw [stage]; decide)).trans (if_neg fun h => h.2 passed)

theorem exec_controlFwRelease_passed :
    exec .controlFwRelease s = .next ((s.wr F.GRT_BOOT_STATUS_STAGE 3).wr F.GLB_BOOT_CF_STAGE 1) :=
  if_pos ⟨stage, passed⟩

end StageTwo

theorem exec_hifReadySet_released (ms : Nat) (stage : s.rd F.GRT_BOOT_STATUS_STAGE = 3) (released : s.rd F.GLB_BOOT_CF_STAGE = 1) :
    exec (.hifReadySet ms) s =
      .next (((s.fillRegions.wr F.GLB_BOOT_CF_STAGE 2).wrB F.GLB_BOOT_HIF_READY true).wr F.GLB_BOOT_READY_MS ms) :=
  if_pos ⟨stage, released⟩

theorem exec_hifReadySet_early (ms : Nat) (early : s.rd F.GRT_BOOT_STATUS_STAGE ≠ 3) : exec (.hifReadySet ms) s = .next s :=
  if_neg fun h => early h.1

end Boot

/-! SPDM requests outside a session -/

section Spdm

variable {c : Nat} {s : State}

theorem exec_spdmGetVersion_silent (silent : s.answers c = false) (ok : Bool) : exec (.spdmGetVersion c ok) s = .next s :=
  congrArg Host.Outcome.next (if_pos (ne_true_of_eq_false silent))

theorem exec_spdmUnsupportedRequest_silent (silent : s.answers c = false) : exec (.spdmUnsupportedRequest c) s = .next s :=
  if_neg (ne_true_of_eq_false silent)

section Answers

variable (answers : s.answers c = true)

include answers

theorem exec_spdmGetVersion_answers :
    exec (.spdmGetVersion c true) s = .next ((s.setSpdm c { phase := 1 }).emit (.spdm c 0x04 [0x12, 0x13])) := by
  simp [execSpdmGetVersion, State.spdmReq, answers]

theorem exec_spdmUnsupportedRequest_answers :
    exec (.spdmUnsupportedRequest c) s = .next ((s.err R.GRT_SPDM_ERR_CNT).emit (.spdm c 0x7F [eUnsupported])) :=
  if_pos answers

theorem exec_spdmGetCapabilities_answers {ver : Nat} (phase : (s.conn c).phase = 1) (known : ver = 0x12 ∨ ver = 0x13) :
    exec (.spdmGetCapabilities c ver true) s =
      .next ((s.setSpdm c { phase := 2, ver := ver }).emit (.spdm c 0x61 [0x000262D6])) := by
  have version : ¬ (ver ≠ 0x12 ∧ ver ≠ 0x13) := by omega
  simp only [exec_spdmGetCapabilities, execSpdmGetCapabilities, State.spdmReq, answers, phase, if_neg version]
  simp

end Answers

theorem State.SpdmAt.spdmReq {ver phase : Nat} (stands : s.SpdmAt c ver phase) (k : State → State) : s.spdmReq c ver phase true k = k s := by
  obtain ⟨answers, reached, version⟩ := stands
  simp [State.spdmReq, answers, reached.not_gt, version]

section Negotiated

variable {ver : Nat} (stands : s.SpdmAt c ver 2)

include stands

theorem exec_spdmNegotiateAlgorithms_common (phase : (s.conn c).phase = 2) :
    exec (.spdmNegotiateAlgorithms c ver true true) s =
      .next ((s.setSpdm c { s.conn c with phase := 3 }).emit (.spdm c 0x63 [0x80, 0x02])) :=
  congrArg Host.Outcome.next <| (stands.spdmReq _).trans <| (if_neg (not_not_intro phase)).trans <| if_neg (not_not_intro rfl)

theorem exec_spdmChunkTransfer_send {n : Nat} (fits : n ≤ 65536) :
    exec (.spdmChunkTransfer c ver n true true) s = .next (s.emit (.spdm c 0x85 [n])) :=
  congrArg Host.Outcome.next <| (stands.spdmReq _).trans <| if_neg fun h => fits.not_gt h.2

end Negotiated

section Ready

variable {ver : Nat} (stands : s.SpdmAt c ver 3)

include stands

theorem exec_spdmGetDigests_ready :
    exec (.spdmGetDigests c ver true) s = .next (s.emit (.spdm c 0x01 [Config.sha384 (s.chain 0), Config.sha384 (s.chain 1)])) :=
  congrArg Host.Outcome.next (stands.spdmReq _)

theorem exec_spdmGetCertificate_ready {slot off : Nat} (n : Nat) (known : slot ≤ 1) (within : off < (s.chain slot).length) :
    let p := ((s.chain slot).drop off).take n
    exec (.spdmGetCertificate c ver slot off n true) s =
      .next (s.emit (.spdm c 0x02 (p.map (·.toNat) ++ [(s.chain slot).length - off - p.length]))) :=
  congrArg Host.Outcome.next <| (stands.spdmReq _).trans <| if_neg (not_or_intro known.not_gt within.not_ge)

theorem exec_spdmChallenge_ready (nonce : Nat) :
    exec (.spdmChallenge c ver 0 nonce true) s =
      .next (s.emit (.spdm c 0x03 [Config.sha384 (s.chain 0), Config.sign s.aliasKey (leBytes nonce 32)])) :=
  congrArg Host.Outcome.next <| (stands.spdmReq _).trans <| if_neg (not_not_intro rfl)

theorem exec_spdmGetMeasurements_one {i : Nat} (nonce : Nat) (first : 1 ≤ i) (last : i ≤ 6) :
    exec (.spdmGetMeasurements c ver i nonce false true) s = .next (s.emit (.spdm c 0x60 [s.meas i])) := by
  have known : ¬ (6 < i ∧ i ≠ 0xFF) := by omega
  have notCount : i ≠ 0 := by omega
  have notAll : i ≠ 0xFF := by omega
  rw [exec_spdmGetMeasurements, execSpdmGetMeasurements, stands.spdmReq, if_neg known]
  simp only [if_neg notCount, if_neg notAll, if_neg Bool.false_ne_true, List.append_nil]

theorem exec_spdmKeyExchange_full (n beat : Nat) (full : 8 ≤ s.grt.sess.length) :
    exec (.spdmKeyExchange c ver n beat true) s = .next (s.emit (.spdm c 0x7F [eBusy])) :=
  congrArg Host.Outcome.next <| (stands.spdmReq _).trans <| if_pos full

theorem exec_spdmKeyExchange_opens {n : Nat} (beat : Nat) (room : s.grt.sess.length < 8) (new : s.sessOf n = none) :
    exec (.spdmKeyExchange c ver n beat true) s =
      .next ((s.setSess n (some { conn := c, beat := beat })).emit (.spdm c 0x64 [n, Config.sign s.aliasKey (leBytes n 4)])) :=
  congrArg Host.Outcome.next <| (stands.spdmReq _).trans <| (if_neg room.not_ge).trans <| if_neg (by rw [new]; exact Bool.false_ne_true)

end Ready

/-! Sessions -/

section Finish

variable {n : Nat} {x : SpdmSess} (answers : s.answers c = true) (found : s.sessOf n = some x) (carrier : x.conn = c)

include answers found carrier

theorem State.secured_found (good : Bool) (k : State → SpdmSess → State) :
    s.secured c n good k = if ¬ good then (s.setSess n none).err R.GRT_SPDM_ERR_CNT else k s x := by
  simp [State.secured, answers, found, carrier]

theorem exec_spdmFinish_establishes (pending : x.est = false) :
    exec (.spdmFinish c n true true) s = .next ((s.setSess n (some { x with est := true })).emit (.spdm c 0x65 [n])) :=
  congrArg Host.Outcome.next <| (State.secured_found answers found carrier _ _).trans <| (if_neg (not_not_intro rfl)).trans <|
    (if_neg (ne_true_of_eq_false pending)).trans <| if_neg (not_not_intro rfl)

theorem exec_spdmFinish_garbled : exec (.spdmFinish c n false true) s = .next ((s.setSess n none).err R.GRT_SPDM_ERR_CNT) :=
  congrArg Host.Outcome.next <| (State.secured_found answers found carrier _ _).trans <| if_pos Bool.false_ne_true

end Finish

section Session

variable {n : Nat} {x : SpdmSess} (session : s.InSess c n x)

include session

theorem exec_spdmHeartbeat_beats (beats : x.beat ≠ 0) : exec (.spdmHeartbeat c n true) s = .next (s.emit (.spdm c 0x68 [n])) :=
  congrArg Host.Outcome.next <| (session.inSession _).trans <| if_neg beats

theorem exec_spdmHeartbeatTimeout_beats (beats : x.beat ≠ 0) : exec (.spdmHeartbeatTimeout n) s = .next (s.setSess n none) := by
  rw [exec_spdmHeartbeatTimeout, execSpdmHeartbeatTimeout, session.found]
  exact if_pos ⟨session.made, beats⟩

theorem exec_spdmKeyUpdate_known {op : Nat} (first : 1 ≤ op) (last : op ≤ 3) :
    exec (.spdmKeyUpdate c n op true) s = .next (s.emit (.spdm c 0x69 [op])) :=
  congrArg Host.Outcome.next <| (session.inSession _).trans <| if_neg (by omega)

theorem exec_spdmEndSession_ends : exec (.spdmEndSession c n true) s = .next ((s.setSess n none).emit (.spdm c 0x6C [n])) :=
  congrArg Host.Outcome.next (session.inSession _)

theorem exec_ideKmQuery_answers : exec (.ideKmQuery c n true) s = .next (s.emit (.spdm c 0x7E [0x01, 1, 8])) :=
  congrArg Host.Outcome.next (session.inSession _)

theorem exec_ideKmKeyProg_given {a k b : Nat} (key : Nat) (stream : k ≤ 8) (bit : b ≤ 1) (present : s.present a = true)
    (given : s.rdB F.GRT_STATUS_IDE_KEYGEN = false) :
    let u : State := { s with
      grt := { s.grt with
        ideKeys := Map.set s.grt.ideKeys none (ideKey a k b) (some key), ideArmed := s.grt.ideArmed.filter (· ≠ ideKey a k b) } }
    exec (.ideKmKeyProg c n a k b key true) s = .next (u.emit (.spdm c 0x7E [0x03, k, b])) := by
  rw [exec_ideKmKeyProg, execIdeKmKeyProg, session.inSession,
    if_neg (not_or_intro stream.not_gt (not_or_intro bit.not_gt (not_not_intro present)))]
  dsimp only
  rw [given]
  rfl

theorem exec_ideKmKeyProg_noStream {k : Nat} (a b key : Nat) (absent : 8 < k) :
    exec (.ideKmKeyProg c n a k b key true) s = .next ((s.err R.GRT_SPDM_ERR_CNT).emit (.spdm c 0x7F [eInvalid])) :=
  congrArg Host.Outcome.next <| (session.inSession _).trans <| if_pos (.inl absent)

section KeySet

variable {a k b : Nat} (held : (Map.get s.grt.ideKeys none (ideKey a k b)).isNone = false)

include held

theorem exec_ideKmKSetGo_arms :
    let u : State := { s with grt := { s.grt with ideArmed := ideKey a k b :: s.grt.ideArmed.filter (· ≠ ideKey a k b) } }
    exec (.ideKmKSetGo c n a k b true) s =
      .next (((u.wr (F.HIF_IDE_STATUS_KEY_SET a k) b).ideShow a k).emit (.spdm c 0x7E [0x05, k, b])) :=
  congrArg Host.Outcome.next <| (session.inSession _).trans <| if_neg (ne_true_of_eq_false held)

theorem exec_ideKmKSetStop_insecure :
    let u : State := { s with
      grt := { s.grt with
        ideKeys := Map.erase s.grt.ideKeys (ideKey a k b), ideArmed := s.grt.ideArmed.filter (· ≠ ideKey a k b) } }
    u.rdB (F.HIF_IDE_STATUS_SECURE a k) = false → exec (.ideKmKSetStop c n a k b true) s = .next (u.emit (.spdm c 0x7E [0x05, k, b])) :=
  fun insecure => congrArg Host.Outcome.next <| (session.inSession _).trans <| (if_neg (ne_true_of_eq_false held)).trans <|
    congrArg (State.vendor · c [0x05, k, b]) (if_neg (ne_true_of_eq_false insecure))

end KeySet

end Session

end Spdm

/-- Settles O55, one command at a time. -/
theorem bootAndSpdm : Obligations.BootAndSpdm := by
  unfold Obligations.BootAndSpdm
  refine ⟨fun s released stage => ⟨exec_grottoRomStart_boots released stage, exec_grottoRomStart_recovers released stage⟩,
    fun s => exec_grottoRomStart_held,
    fun s => ⟨exec_grottoImageVerifyDone_fails, exec_grottoImageVerifyDone_passes,
      fun stage passed => ⟨exec_grottoImageVerifyDone_passed stage passed, exec_controlFwRelease_passed stage passed⟩⟩,
    fun ms s => exec_hifReadySet_released ms, fun ms s => exec_hifReadySet_early ms,
    fun c s answers => ⟨exec_spdmGetVersion_answers answers, exec_spdmUnsupportedRequest_answers answers,
      fun ver => exec_spdmGetCapabilities_answers answers⟩,
    fun c b s silent => ⟨exec_spdmGetVersion_silent silent b, exec_spdmUnsupportedRequest_silent silent⟩,
    fun c ver s stands => ⟨exec_spdmNegotiateAlgorithms_common stands, fun n => exec_spdmChunkTransfer_send stands⟩,
    fun c ver s stands => ⟨exec_spdmGetDigests_ready stands, fun slot off n => exec_spdmGetCertificate_ready stands n,
      exec_spdmChallenge_ready stands, fun i nonce => exec_spdmGetMeasurements_one stands nonce,
      fun n beat => ⟨exec_spdmKeyExchange_full stands n beat, exec_spdmKeyExchange_opens stands beat⟩⟩,
    fun c n x s answers found carrier pending =>
      ⟨exec_spdmFinish_establishes answers found carrier pending, exec_spdmFinish_garbled answers found carrier⟩,
    fun c n x s session => ⟨fun beats => ⟨exec_spdmHeartbeat_beats session beats, exec_spdmHeartbeatTimeout_beats session beats⟩,
      fun op => exec_spdmKeyUpdate_known session, exec_spdmEndSession_ends session, exec_ideKmQuery_answers session,
      fun a k b key => exec_ideKmKeyProg_given session key, fun a k b => exec_ideKmKSetGo_arms session,
      fun a k b => exec_ideKmKSetStop_insecure session, fun a k b key => exec_ideKmKeyProg_noStream session a b key⟩⟩

end Sys2Proof.Machine

end

section
/-! PROOFS. Root of trust commands (R608, R615, R622-R627), temperature (R652-R655), and the resets of the device (R657, R658, R664, R685, R686, R696-R698). -/

namespace Sys2Proof.Machine

open Sys2Proof

/-! Root of trust -/

section Trust

variable {f : Nat} {s t : State} {c : AdmCmd}

section FwActivate

variable (verified : s.Verified f 0x40 [0x101] (fun _ => true) c t)

include verified

theorem exec_fwActivate_fails (bad : t.imageCheck (bitsOf (c.word 8) 0 1) 1 ≠ 0) :
    exec (.fwActivate f) s = .next (t.admDone f stBadField { detail := t.imageCheck (bitsOf (c.word 8) 0 1) 1 }) :=
  congrArg Host.Outcome.next <| (verified.admCrit _).trans <| if_pos bad

theorem exec_fwActivate_passes (grotto : t.imageCheck (bitsOf (c.word 8) 0 1) 1 = 0) (ctrl : t.imageCheck (bitsOf (c.word 8) 0 1) 2 = 0)
    (plain : bitOf (c.word 8) 8 = false) :
    let b := bitsOf (c.word 8) 0 1
    exec (.fwActivate f) s =
      .next ((t.wr F.GRT_BOOT_STATUS_NEXT_BANK b).admDone f stSuccess { r0 := t.imgField b 1 8 32 32 + t.imgField b 2 8 32 32 * 2 ^ 32 }) :=
  congrArg Host.Outcome.next <| (verified.admCrit _).trans <| (if_neg (not_not_intro grotto)).trans <| (if_neg (not_not_intro ctrl)).trans <|
    congrArg (State.admDone · f stSuccess _) (if_neg (ne_true_of_eq_false plain))

end FwActivate

theorem exec_principalRekey_clears (verified : s.Verified f 0x41 [0x9FFF0003, 2 ^ 64 - 1] (fun _ => true) c t)
    (owned : s.rd F.GRT_STATUS_LIFECYCLE = 1) (clear : bitOf (c.word 8) 31 = true) :
    exec (.principalRekey f) s = .next (if bitsOf (c.word 8) 0 2 = 0 then t.admDone f stBadField
      else (t.clearPrincipal (bitsOf (c.word 8) 0 2)).admDone f stSuccess) := by
  have notOpen : ¬ (s.rd F.GRT_STATUS_LIFECYCLE = 0 ∧ bitsOf (c.word 8) 0 2 = 0) := fun h => absurd (owned.symm.trans h.1) (by decide)
  rw [exec_principalRekey, execPrincipalRekey, verified.cur]
  exact (if_neg notOpen).trans (congrArg Host.Outcome.next ((verified.admCrit _).trans (if_pos clear)))

section DebugUnlock

variable (verified : s.Verified f 0x42 [3, 2 ^ 64 - 1, 2 ^ 64 - 1] (fun _ => true) c t)

include verified

theorem exec_debugUnlock_wrongNonce (wrong : c.word 0x10 ≠ (t.reg R.GRT_DEBUG_NONCE).toNat) :
    exec (.debugUnlock f) s = .next (t.newNonce.admDone f stBadField) :=
  congrArg Host.Outcome.next <| (verified.admCrit _).trans <| if_pos (by simp [wrong])

theorem exec_debugUnlock_level (right : c.word 0x10 = (t.reg R.GRT_DEBUG_NONCE).toNat) (low : bitsOf (c.word 8) 0 2 ≠ 3) :
    exec (.debugUnlock f) s = .next ((t.newNonce.setLevel (bitsOf (c.word 8) 0 2)).admDone f stSuccess) :=
  congrArg Host.Outcome.next <| (verified.admCrit _).trans <| (if_neg (by simp [right])).trans <| if_pos low

end DebugUnlock

theorem exec_secureErase_erases (verified : s.Verified f 0x43 [] (fun _ => true) c t) :
    let a := t.each (t.created.filter (fun n => !isMgmt n)) (fun t n => (t.resetOne n).returnAll n)
    let b := a.each (a.cry.ctx.map (·.1)) (fun t n => t.retireSession n)
    let d := b.each (b.sto.ns.map (·.1)) (fun t n => t.retireNs n)
    let e : State := { d.fresh.2 with
      grt := { d.fresh.2.grt with ptpKey := [], tik := d.fresh.1 } }
    let x := (e.each (List.range 4) State.clearPrincipal).wr F.GRT_STATUS_LIFECYCLE 0
    exec (.secureErase f) s =
      .next (((((x.setLevel 0).setReg R.GRT_AUTH_FAIL_CNT 0).setReg R.GRT_SPDM_ERR_CNT 0).meas5).admDone f stSuccess) :=
  congrArg Host.Outcome.next (verified.admCrit _)

end Trust

/-! Temperature -/

section Thermal

variable {s : State}

theorem exec_thermalSample_shows (temp : Nat) :
    let u := (s.wr F.FLT_THERM_TEMP temp).wrB F.FLT_THERM_SHEDDING (decide (100 ≤ temp))
    exec (.thermalSample temp) s = .next (if s.rdB F.FLT_THERM_SHEDDING = decide (100 ≤ temp) then u
      else u.emit (.pin "SMB_ALERT_N" (s.rdB F.FLT_THERM_SHEDDING))) := by
  simp [execThermalSample]

theorem exec_thermalShedStep_cool (cool : s.rdB F.FLT_THERM_SHEDDING = false) : exec .thermalShedStep s = .next s := if_pos (.inl cool)

theorem exec_thermalShedStep_parks (hot : s.rdB F.FLT_THERM_SHEDDING = true) (can : (List.range 64).filterMap s.shedOne ≠ []) :
    let l := (List.range 64).filterMap s.shedOne
    let x := s.each l State.park
    let u : State := { x with
      board := { x.board with parked := l :: x.board.parked } }
    exec .thermalShedStep s = .next (((((u.wr F.FLT_THERM_PARKED (u.rd F.FLT_THERM_PARKED + 1)).stat R.FLT_THERM_STEP_CNT).raise
      F.FLT_INT_STATUS_THERM_STEP).thermEntry 1).floorCheck) :=
  if_neg (not_or_intro (ne_false_of_eq_true hot) can)

section Return

variable {l : List (Nat × Nat × Nat)} {r : List (List (Nat × Nat × Nat))} (parked : s.board.parked = l :: r)

include parked

theorem exec_thermalReturnStep_warm (warm : 95 < s.rd F.FLT_THERM_TEMP) : exec .thermalReturnStep s = .next s := by
  rw [exec_thermalReturnStep, execThermalReturnStep, parked]
  exact if_pos warm

theorem exec_thermalReturnStep_returns (cool : s.rd F.FLT_THERM_TEMP ≤ 95) :
    let x : State := { s with
      board := { s.board with parked := r } }
    let u := x.each l State.unpark
    exec .thermalReturnStep s = .next ((((u.wr F.FLT_THERM_PARKED (u.rd F.FLT_THERM_PARKED - 1)).stat R.FLT_THERM_STEP_CNT).raise
      F.FLT_INT_STATUS_THERM_STEP).thermEntry 2) := by
  rw [exec_thermalReturnStep, execThermalReturnStep, parked]
  exact if_neg cool.not_gt

end Return

theorem exec_thermalTrip_stays (stays : s.board.tripped = true ∨ s.rd F.FLT_THERM_TEMP < 112) : exec .thermalTrip s = .next s :=
  if_pos stays.symm

theorem exec_thermalTrip_trips (cold : s.board.tripped = false) (hot : 112 ≤ s.rd F.FLT_THERM_TEMP) :
    let x : State := { s with
      board := { s.board with tripped := true, tripLog := (s.rd F.FLT_THERM_TEMP, s.fst.drip) :: s.board.tripLog } }
    let y := (x.emit (.pin "THERMTRIP_N" false)).each (List.range 8) State.portDown
    let z := y.each ((List.range 4).filter (fun a => y.rdB (F.HIF_LINK_STATUS_DL_UP a))) State.attDown
    exec .thermalTrip s = .next (z.each (List.range 16) (fun t c => t.coreReset (4 + c))) :=
  if_neg (not_or_intro hot.not_gt (ne_true_of_eq_false cold))

end Thermal

/-! Resets -/

section Reset

variable {s : State}

section Unpowered

variable (unpowered : s.board.powered = false)

include unpowered

theorem exec_pwrGoodRise_unpowered (w : Nat) :
    exec (.pwrGoodRise w) s = .next (({ s with board := { s.board with powered := true } }.resetTo w 0).settle) :=
  if_neg (ne_true_of_eq_false unpowered)

theorem exec_pwrGoodFall_unpowered : exec .pwrGoodFall s = .next s := if_neg (ne_true_of_eq_false unpowered)

theorem exec_railUndervoltage_unpowered : exec .railUndervoltage s = .next s := if_neg (ne_true_of_eq_false unpowered)

theorem exec_synthLock_unpowered : exec .synthLock s = .next s := if_neg (ne_true_of_eq_false unpowered)

theorem exec_trstAssert_unpowered : exec .trstAssert s = .next s :=
  congrArg Host.Outcome.next (if_neg (ne_true_of_eq_false unpowered))

theorem exec_testLogicReset_unpowered : exec .testLogicReset s = .next s :=
  congrArg Host.Outcome.next (if_neg (ne_true_of_eq_false unpowered))

theorem exec_sysResetAssert_unpowered : exec .sysResetAssert s = .next { s with board := { s.board with sysResetN := false } } :=
  if_neg (ne_true_of_eq_false unpowered)

end Unpowered

section Powered

variable (powered : s.board.powered = true)

include powered

theorem exec_pwrGoodFall_powered : exec .pwrGoodFall s = .next s.powerOff := if_pos powered

theorem exec_railUndervoltage_powered : exec .railUndervoltage s = .next s.powerOff := if_pos powered

theorem exec_synthLock_powered : exec .synthLock s = .next ({ s with board := { s.board with synth := true } }.settle) := if_pos powered

theorem exec_sysResetAssert_powered :
    exec .sysResetAssert s = .next (({ s with board := { s.board with sysResetN := false } }.deviceReset 1).settle) :=
  if_pos powered

theorem exec_trstAssert_powered : exec .trstAssert s = .next (s.tapTo 2) := congrArg Host.Outcome.next (if_pos powered)

theorem exec_testLogicReset_powered : exec .testLogicReset s = .next (s.tapTo 2) := congrArg Host.Outcome.next (if_pos powered)

end Powered

theorem State.powerOff_lines : s.powerOff.board.held = true ∧ s.powerOff.board.powered = false := by
  obtain ⟨-, powered, -⟩ := (State.deviceReset_kept ({ s with board := { s.board with powered := false, synth := false } } : State) 0).parts
  simp [State.powerOff, State.settle, powered]

theorem exec_deviceReset_notDue (absent : s.board.resetDue = none) : exec .deviceReset s = .next s := by
  rw [exec_deviceReset, execDeviceReset, absent]

theorem exec_deviceReset_due {c : Nat} (due : s.board.resetDue = some c) : exec .deviceReset s = .next (s.deviceReset c) := by
  rw [exec_deviceReset, execDeviceReset, due]

theorem exec_vddio18Fall_cold (cold : s.board.tripped = false) :
    exec .vddio18Fall s = .next ({ s with board := { s.board with tripped := false } }.powerOff) :=
  congrArg (fun t : State => Host.Outcome.next t.powerOff) (if_neg (ne_true_of_eq_false cold))

theorem exec_vddio18Fall_tripped (tripped : s.board.tripped = true) :
    exec .vddio18Fall s = .next (({ s with board := { s.board with tripped := false } }.emit (.pin "THERMTRIP_N" true)).powerOff) :=
  congrArg (fun t : State => Host.Outcome.next t.powerOff) (if_pos tripped)

end Reset

/-- Settles O56, one command at a time. -/
theorem trustThermalAndReset : Obligations.TrustThermalAndReset := by
  unfold Obligations.TrustThermalAndReset
  refine ⟨fun f s t c verified => ⟨exec_fwActivate_fails verified, exec_fwActivate_passes verified⟩,
    fun f s t c => exec_principalRekey_clears,
    fun f s t c verified => ⟨exec_debugUnlock_wrongNonce verified, exec_debugUnlock_level verified⟩,
    fun f s t c => exec_secureErase_erases, fun temp s => exec_thermalSample_shows temp,
    fun s => ⟨exec_thermalShedStep_cool, exec_thermalShedStep_parks⟩,
    fun l r s parked => ⟨exec_thermalReturnStep_warm parked, exec_thermalReturnStep_returns parked⟩,
    fun s => ⟨exec_thermalTrip_stays, exec_thermalTrip_trips⟩,
    fun w s unpowered => ⟨exec_pwrGoodRise_unpowered unpowered w, exec_pwrGoodFall_unpowered unpowered,
      exec_railUndervoltage_unpowered unpowered, exec_synthLock_unpowered unpowered, exec_trstAssert_unpowered unpowered,
      exec_testLogicReset_unpowered unpowered, exec_sysResetAssert_unpowered unpowered⟩,
    fun s powered => ⟨exec_pwrGoodFall_powered powered, exec_railUndervoltage_powered powered, exec_synthLock_powered powered,
      exec_sysResetAssert_powered powered, exec_trstAssert_powered powered, exec_testLogicReset_powered powered, State.powerOff_lines⟩,
    fun s => ⟨rfl, exec_deviceReset_notDue, fun c => exec_deviceReset_due⟩, fun v s => rfl,
    fun s => exec_vddio18Fall_cold, fun s => exec_vddio18Fall_tripped⟩

end Sys2Proof.Machine

end

section
/-! PROOFS. The commands of the Lantern monitor (R672-R682). -/

namespace Sys2Proof.Machine

open Sys2Proof

variable {s : State}

/-! The checks of a Lantern command -/

section Checks

variable {level : Nat} {inRec args : Bool} {k : State → State}

theorem State.lnt_notReady (busy : s.lntReady = false) : s.lnt level inRec args k = s := if_pos (by rw [busy]; rfl)

theorem State.lnt_belowLevel (ready : s.lntReady = true) (normal : s.inRecovery = false) (below : s.rd F.GRT_STATUS_DEBUG_LEVEL < level) :
    s.lnt level inRec args k = s.lntErr 3 := by
  simp [State.lnt, ready, normal, below]

theorem State.Serves.lnt (serves : s.Serves level) (good : args = true) : s.lnt level inRec args k = k s := by
  obtain ⟨ready, normal, enough⟩ := serves
  simp [State.lnt, ready, normal, enough.not_gt, good]

theorem State.Serves.lnt_badArgs (serves : s.Serves level) (bad : args = false) : s.lnt level inRec args k = s.lntErr 2 := by
  obtain ⟨ready, normal, enough⟩ := serves
  simp [State.lnt, ready, normal, enough.not_gt, bad]

theorem State.lntFlash_normal (serves : s.Serves 0) (good : args = true) : s.lntFlash args k = s.lntErr 4 :=
  (serves.lnt good).trans (if_neg (ne_true_of_eq_false serves.normal))

theorem State.lntFlash_recovery (ready : s.lntReady = true) (recovery : s.inRecovery = true) (good : args = true) : s.lntFlash args k = k s := by
  simp [State.lntFlash, State.lnt, ready, recovery, good]

end Checks

/-! Commands that are not served -/

theorem exec_lnt_notReady (busy : s.lntReady = false) :
    ∀ c ∈ [Instr.lntHelp, .lntStatus, .lntNonce, .lntLock, .lntTime, .lntReset, .lntUnknownCommand], exec c s = .next s := by
  simp [execLntHelp, execLntStatus, execLntNonce, execLntLock, execLntTime, execLntReset, execLntUnknownCommand, State.lnt_notReady busy, busy]

theorem exec_lntUnknownCommand_ready (ready : s.lntReady = true) : exec .lntUnknownCommand s = .next (s.lntErr 1) :=
  congrArg Host.Outcome.next (if_pos ready)

theorem exec_lnt_levelZero (ready : s.lntReady = true) (normal : s.inRecovery = false) (zero : s.rd F.GRT_STATUS_DEBUG_LEVEL = 0)
    (off v g e c : Nat) :
    ∀ i ∈ [Instr.lntRd off v, .lntTime, .lntReset, .lntWr off 0, .lntHalt g e, .lntResume g e, .lntBkptArm g e, .lntSumpAbort g e,
      .lntCoreHalt c, .lntCoreResume c], exec i s = .next (s.lntErr 3) := by
  simp [execLntRd, execLntTime, execLntReset, execLntWr, execLntHalt, execLntResume, execLntBkptArm, execLntSumpAbort, execLntCoreHalt,
    execLntCoreResume, State.lnt_belowLevel ready normal, zero]

/-! Level 0 -/

section LevelZero

variable (serves : s.Serves 0)

include serves

theorem exec_lntHelp_serves : ∃ l, exec .lntHelp s = .next (s.lntOk l) := ⟨_, congrArg Host.Outcome.next (serves.lnt rfl)⟩

theorem exec_lntStatus_serves :
    exec .lntStatus s = .next (s.lntOk [("boot stage", [s.rd F.GRT_BOOT_STATUS_STAGE, s.rd F.GLB_BOOT_CF_STAGE]), ("bank", [s.rd F.GRT_STATUS_BANK]),
      ("versions", [s.rd F.GRT_FW_VERSION_GROTTO_VER, s.rd F.GRT_FW_VERSION_CTRL_VER]), ("flowstone", [s.rd F.FST_STATUS_STATE]),
      ("temp", [s.rd F.FLT_THERM_TEMP]), ("retired", s.rd F.FLT_STATUS_RETIRED_LINES :: s.retiredEngines)]) :=
  congrArg Host.Outcome.next (serves.lnt rfl)

theorem exec_lntNonce_serves : exec .lntNonce s = .next (s.lntOk [("nonce", [(s.reg R.GRT_DEBUG_NONCE).toNat])]) :=
  congrArg Host.Outcome.next (serves.lnt rfl)

theorem exec_lntLock_serves : exec .lntLock s = .next ((s.setLevel 0).lntOk []) := congrArg Host.Outcome.next (serves.lnt rfl)

theorem exec_lntFault_serves {n k : Nat} (nonzero : 1 ≤ k) (few : k ≤ 64) :
    exec (.lntFault n k) s = .next (s.lntOk ((List.range k).map (fun i => s.lntFault (n + i)))) :=
  congrArg Host.Outcome.next (serves.lnt (decide_eq_true ⟨nonzero, few⟩))

theorem exec_lntFault_none (n : Nat) : exec (.lntFault n 0) s = .next (s.lntErr 2) := congrArg Host.Outcome.next (serves.lnt_badArgs rfl)

theorem exec_lntFlashErase_normal {b : Nat} (bank : b < 2) : exec (.lntFlashErase b) s = .next (s.lntErr 4) :=
  congrArg Host.Outcome.next (State.lntFlash_normal serves (decide_eq_true bank))

theorem exec_lntFlashWrite_normal {b : Nat} (bank : b < 2) : exec (.lntFlashWrite b []) s = .next (s.lntErr 4) :=
  congrArg Host.Outcome.next (State.lntFlash_normal serves (by simp [bank]))

end LevelZero

/-! Level 1 -/

section LevelOne

variable (serves : s.Serves 1)

include serves

theorem exec_lntRd_serves {off k : Nat} (nonzero : 1 ≤ k) (few : k ≤ 64) (aligned : off % 8 = 0) (within : off + 8 * k ≤ 0x4000000) :
    exec (.lntRd off k) s = .next ((s.lntReads off k).2.lntOk [("rd", (s.lntReads off k).1)]) :=
  congrArg Host.Outcome.next (serves.lnt (decide_eq_true ⟨nonzero, few, aligned, within⟩))

theorem exec_lntTime_serves :
    exec .lntTime s = .next (s.snapshotFw.lntOk
      [("time", [s.snapshotFw.fst.fwSnapSec, s.snapshotFw.fst.fwSnapNs, s.snapshotFw.fst.fwSnapDrip, s.snapshotFw.fst.fwSnapSeq])]) :=
  congrArg Host.Outcome.next (serves.lnt rfl)

theorem exec_lntPort_serves {p : Nat} (port : p < 8) :
    exec (.lntPort p) s = .next (s.lntOk [("link", [(s.view 4 (R.PRT_LINK_STATUS p)).toNat]), ("an", [(s.view 4 (R.PRT_AN_CFG p)).toNat]),
      ("counters", (portCounters p).map (fun o => (s.view 4 o).toNat))]) :=
  congrArg Host.Outcome.next (serves.lnt (decide_eq_true port))

theorem exec_lntReset_serves : exec .lntReset s = .next (((s.lntOk []).deviceReset 3).settle) := congrArg Host.Outcome.next (serves.lnt rfl)

end LevelOne

/-! Level 2 -/

theorem engArgs_of_lt {g e : Nat} (gallery : g < 64) (engine : e < 17) : engArgs g e = true := by simp [engArgs, gallery, engine]

section LevelTwo

variable (serves : s.Serves 2)

include serves

theorem exec_lntWr_serves {off : Nat} (v : Word) (writable : lntWritable off = true) :
    exec (.lntWr off v) s = .next ((s.regWrite 4 0 off v false).lntOk []) :=
  congrArg Host.Outcome.next (serves.lnt writable)

theorem exec_lntSumpAbort_serves {g n : Nat} (gallery : g < 64) (sump : n < 36) :
    exec (.lntSumpAbort g n) s = .next ((s.sumpAbort g n).lntOk []) :=
  congrArg Host.Outcome.next (serves.lnt (by simp [gallery, sump]))

theorem exec_lntStep_tooMany {g e t n : Nat} (many : 256 < n) : exec (.lntStep g e t n) s = .next (s.lntErr 2) :=
  congrArg Host.Outcome.next (serves.lnt_badArgs (by simp [many]))

section Engine

variable {g e : Nat} (gallery : g < 64) (engine : e < 17)

include gallery engine

theorem exec_lntHalt_serves :
    exec (.lntHalt g e) s = .next (if s.rd (F.PE_STATUS_STATE g e) = 0 then (s.haltEngine g e).lntOk [] else s.lntErr 4) :=
  congrArg Host.Outcome.next (serves.lnt (engArgs_of_lt gallery engine))

theorem exec_lntResume_serves :
    exec (.lntResume g e) s = .next (if s.engHalted g e then (((s.setEngn g e { s.engn g e with resuming := true }).each (List.range 8)
      (fun y t => y.resumeThr g e t)).drain g).lntOk [] else s.lntErr 4) :=
  congrArg Host.Outcome.next (serves.lnt (engArgs_of_lt gallery engine))

theorem exec_lntStep_halted {t n : Nat} (thread : t < 8) (nonzero : 1 ≤ n) (few : n ≤ 256) (halted : s.engHalted g e = true) :
    let u : State := { s with
      board := { s.board with step := some ⟨g, e, t, n⟩ } }
    exec (.lntStep g e t n) s = .next (((u.wrB F.LNT_STATUS_BUSY true).unhalt g e t).stepCheck g e t) :=
  congrArg Host.Outcome.next ((serves.lnt (by simp [engArgs, gallery, engine, thread, nonzero, few])).trans (if_pos halted))

theorem exec_lntRegs_serves {t : Nat} (thread : t < 8) :
    exec (.lntRegs g e t) s = .next (s.lntOk [("g", (List.range 32).map (s.thr g e t).getG), ("pc", [s.pc g e t]),
      ("loops", (s.thr g e t).loops.flatMap (fun f => [f.first, f.last, f.left])), ("returns", (s.thr g e t).rets),
      ("state", [s.ts g e t, s.rd (F.PE_THREAD_WAIT_KIND g e t)])]) :=
  congrArg Host.Outcome.next (serves.lnt (by simp [engArgs, gallery, engine, thread]))

theorem exec_lntBkptArm_serves : exec (.lntBkptArm g e) s = .next ((s.setEngn g e { s.engn g e with armed := true }).lntOk []) :=
  congrArg Host.Outcome.next (serves.lnt (engArgs_of_lt gallery engine))

theorem exec_lntBkptDisarm_serves : exec (.lntBkptDisarm g e) s = .next ((s.setEngn g e { s.engn g e with armed := false }).lntOk []) :=
  congrArg Host.Outcome.next (serves.lnt (engArgs_of_lt gallery engine))

end Engine

end LevelTwo

/-! Level 3 -/

section LevelThree

variable {c : Nat} (serves : s.Serves 3) (core : c < 16)

include serves core

theorem exec_lntCoreHalt_serves :
    exec (.lntCoreHalt c) s = .next (if s.board.coreHalted.contains c then s.lntErr 4
      else { s with board := { s.board with coreHalted := c :: s.board.coreHalted } }.lntOk []) :=
  congrArg Host.Outcome.next (serves.lnt (decide_eq_true core))

theorem exec_lntCoreResume_serves :
    exec (.lntCoreResume c) s = .next (if s.board.coreHalted.contains c then
      { s with board := { s.board with coreHalted := s.board.coreHalted.filter (· != c) } }.lntOk [] else s.lntErr 4) :=
  congrArg Host.Outcome.next (serves.lnt (decide_eq_true core))

theorem exec_lntCoreRd_serves {addr k : Nat} (nonzero : 1 ≤ k) (few : k ≤ 64) :
    exec (.lntCoreRd c addr k) s = .next ((s.freshWords k).2.lntOk [("core rd", addr :: (s.freshWords k).1)]) :=
  congrArg Host.Outcome.next (serves.lnt (by simp [core, nonzero, few]))

end LevelThree

theorem exec_lntStepTimeout_steps {x : LntStep} (steps : s.board.step = some x) :
    exec .lntStepTimeout s = .next (if s.ts x.gal x.eng x.thr = tWaiting then s.stepEnd x.gal x.eng x.thr false else s) := by
  rw [exec_lntStepTimeout, execLntStepTimeout, steps]

/-! Recovery -/

section Recovery

variable (ready : s.lntReady = true) (recovery : s.inRecovery = true)

include ready recovery

theorem exec_lntFlashErase_recovery {b : Nat} (bank : b < 2) :
    exec (.lntFlashErase b) s = .next ({ s with
      board := { s.board with
        flash := s.board.flash.filter (fun (c : Nat × BitVec 8) => decide (c.1 < bankAt b) || decide (bankAt b + bankSize ≤ c.1)) } }.lntOk []) :=
  congrArg Host.Outcome.next (State.lntFlash_recovery ready recovery (decide_eq_true bank))

theorem exec_lntFlashWrite_recovery {b : Nat} {d : List Byte} (bank : b < 2) (fits : d.length ≤ bankSize) :
    exec (.lntFlashWrite b d) s = .next ((s.flashWrite (bankAt b) d).lntOk []) :=
  congrArg Host.Outcome.next (State.lntFlash_recovery ready recovery (by simp [bank, fits]))

theorem exec_lntHalt_recovery (g e : Nat) : exec (.lntHalt g e) s = .next (s.lntErr 1) := by
  simp [execLntHalt, State.lnt, ready, recovery]

end Recovery

/-- Settles O58, one command at a time. -/
theorem lanternCommands : Obligations.LanternCommands := by
  unfold Obligations.LanternCommands
  refine ⟨fun c s busy listed => exec_lnt_notReady busy c listed, fun s => exec_lntUnknownCommand_ready,
    fun off v g e c s ready normal zero => exec_lnt_levelZero ready normal zero off v g e c, fun s serves => ?_, fun s serves => ?_,
    fun s g e serves gallery engine => ?_, fun s c serves core => ?_, fun x s => exec_lntStepTimeout_steps,
    fun s b ready recovery bank => ⟨exec_lntFlashErase_recovery ready recovery bank,
      fun d => exec_lntFlashWrite_recovery ready recovery bank, exec_lntHalt_recovery ready recovery 0 0⟩⟩
  · exact ⟨exec_lntHelp_serves serves, exec_lntStatus_serves serves, exec_lntNonce_serves serves, exec_lntLock_serves serves,
      fun n k => exec_lntFault_serves serves, exec_lntFault_none serves,
      fun b bank => ⟨exec_lntFlashErase_normal serves bank, exec_lntFlashWrite_normal serves bank⟩⟩
  · exact ⟨fun off k => exec_lntRd_serves serves, exec_lntTime_serves serves, fun p => exec_lntPort_serves serves, exec_lntReset_serves serves⟩
  · have halt := exec_lntHalt_serves serves gallery engine
    have resume := exec_lntResume_serves serves gallery engine
    exact ⟨fun off v => exec_lntWr_serves serves v, fun runs => halt.trans (congrArg Host.Outcome.next (if_pos runs)),
      fun stands => halt.trans (congrArg Host.Outcome.next (if_neg stands)),
      fun halted => resume.trans (congrArg Host.Outcome.next (if_pos halted)),
      fun runs => resume.trans (congrArg Host.Outcome.next (if_neg (ne_true_of_eq_false runs))),
      fun t n => exec_lntStep_halted serves gallery engine, fun t n _ => exec_lntStep_tooMany serves,
      fun t => exec_lntRegs_serves serves gallery engine, exec_lntBkptArm_serves serves gallery engine,
      exec_lntBkptDisarm_serves serves gallery engine, fun n => exec_lntSumpAbort_serves serves gallery⟩
  · have halt := exec_lntCoreHalt_serves serves core
    have resume := exec_lntCoreResume_serves serves core
    exact ⟨fun runs => ⟨halt.trans (congrArg Host.Outcome.next (if_neg (ne_true_of_eq_false runs))),
        resume.trans (congrArg Host.Outcome.next (if_neg (ne_true_of_eq_false runs)))⟩,
      fun halted => ⟨halt.trans (congrArg Host.Outcome.next (if_pos halted)), resume.trans (congrArg Host.Outcome.next (if_pos halted))⟩,
      fun addr k => exec_lntCoreRd_serves serves core⟩

end Sys2Proof.Machine

end
